-- ==== Sys2Proof/Word.lean ====
section
/-! DEFINITION. The words of the register space (32 bits), bytes, and the few helpers that cut fields out of them
(INVENTORY.md, State). -/

namespace Sys2Proof

/-- A 32-bit register or message word (spec/02 R24, R26). -/
abbrev Word := BitVec 32

/-- One byte of a message, a memory or a frame. -/
abbrev Byte := BitVec 8

/-- The three radios A (2.4 GHz), B (5 GHz), C (6 GHz) (spec/00, Terms). -/
inductive Radio where
  | a | b | c
deriving DecidableEq, Repr

/-- The radio's number as the register tables use it: A 0, B 1, C 2. -/
def Radio.num : Radio → Nat
  | .a => 0
  | .b => 1
  | .c => 2

/-- The radio of a number from 0 to 2 (above 2: Radio C, never asked for). -/
def Radio.ofNum : Nat → Radio
  | 0 => .a
  | 1 => .b
  | _ => .c

/-- One value for each radio. -/
structure Tri (α : Type) where
  a : α
  b : α
  c : α
deriving DecidableEq, Repr

/-- The value kept for a radio. -/
def Tri.get {α : Type} (t : Tri α) : Radio → α
  | .a => t.a
  | .b => t.b
  | .c => t.c

/-- The values with one radio's replaced. -/
def Tri.set {α : Type} (t : Tri α) (r : Radio) (v : α) : Tri α :=
  match r with
  | .a => { t with a := v }
  | .b => { t with b := v }
  | .c => { t with c := v }

end Sys2Proof
end

