-- ==== Sys2Proof/Config.lean ====
section
/-! DEFINITION. What the spec leaves open and an implementation fixes: constants without a body, of which no proof can see a
value. A statement that speaks of one holds whatever it is (notes/assumptions 3 to 6). -/

namespace Sys2Proof

/-- Free values: the value of the n-th free choice the machine makes (a random number of its on-chip source, a value the
spec leaves undefined). The counter Dev.free says which is next. -/
opaque Config.freeNat : Nat → Nat

/-- Free bytes: what a byte of a region of memory holds that the spec leaves undefined, by the region's number and the address. -/
opaque Config.freeByte : Nat → Nat → Byte

/-- HMAC-SHA-256 of a message under a key: 32 bytes, the first the least significant here (spec/02 R52; spec/16 R377). -/
opaque Config.hmac : List Word → List Byte → BitVec 256

/-- SHA-384 of a byte string, its first byte the most significant (spec/17 R421, R422). -/
opaque Config.sha384 : List Byte → BitVec 384

/-- ECDSA P-384: the public key, the signature and the SHA-384 of what was signed (spec/17 R421, R431). -/
opaque Config.ecdsaOk : List Byte → List Byte → Nat → Bool

/-- A byte of the boot ROM, by offset (spec/10 R266): the ROM's code is the device's own. -/
opaque Config.bootRom : Nat → Byte

/-- The bytes of an ordering-domain key of the given fields (spec/12 R295): the spec names the fields, not their layout. -/
opaque Config.domainKey : List Nat → List Byte

/-- The bucket of a flow key's hash, among the given number of buckets (spec/12 R302). -/
opaque Config.flowHash : List Nat → Nat → Nat

/-- The bucket of an L2 key's hash (spec/12 R298). -/
opaque Config.l2Hash : Nat → Nat → Nat

/-- Whether a template's bytes are one of the standard graph's, whose nodes do what R194 to R201 say (spec/09 R221). -/
opaque Config.standardTemplates : List Byte → Bool

/-- Self-test: the expected 64-bit signature of a unit for a variant, and the 16 points of its coverage curve: a pattern count and the
coverage at it in 0.01 % (spec/19 R460, R463). -/
opaque Config.bistSignature : Nat → Nat → Nat
opaque Config.bistPoint : Nat → Nat → Nat × Nat

/-- The radio whose receive buffers a data ring carries (spec/06 R166): the spec does not say how a ring is given to a radio. -/
opaque Config.ringRadio : Nat → Nat

/-- Air time in µs of an MPDU of a length at an MCS and stream count (spec/07 R176): the spec gives the prediction no formula. -/
opaque Config.airtime : Nat → Nat → Nat → Nat

/-- The 9-bit RU allocation value of IEEE 802.11be: its tones, and the 20 MHz subchannels it touches in a PPDU of a width
(spec/08 R202 names the value and leaves its table to IEEE 802.11be). -/
opaque Config.ruTones : Nat → Nat
opaque Config.ruSubch : Nat → Nat → Nat

/-- The non-HT reference rate of a format and MCS, as a rate code 0 to 7 (spec/06 R142). -/
opaque Config.refRate : Nat → Nat → Nat

/-- Whether a station's share of the air time of an exchange, where it is no whole 1/16 µs, is rounded up: by the air time, its weight
and the sum of the weights (spec/08 R195 gives the share, not the rounding). -/
opaque Config.debtUp : Nat → Nat → Nat → Bool

/-- The read of a station's extended rate history misses the round, at a moment (spec/08 R193): the time of a DRAM read is open. -/
opaque Config.extLate : Nat → Nat → Bool

/-- The correlation of the V matrices of two stations on a 20 MHz subchannel, in 1/256 (spec/08 R197): the spec gives it no formula. -/
opaque Config.vCorr : List (List (BitVec 32)) → List (List (BitVec 32)) → Nat → Nat

/-- The RU Allocation value of the lowest position in frequency left for an RU of a number of tones, among the positions of
IEEE 802.11be: the values taken, the tones, the subchannels allowed, the PPDU width, the station's width (spec/08 R198). -/
opaque Config.ruLowest : List Nat → Nat → Nat → Nat → Nat → Option Nat

/-- The preamble and packet extension of a DL MU PPDU in 0.1 µs, by number of users and of EHT-LTF symbols and LTF type: the
length of EHT-SIG is IEEE 802.11be's (spec/08 R201). -/
opaque Config.muPreamble : Nat → Nat → Nat → Nat

/-- What a Heat holds besides its PPDU of variable length, in µs (spec/08 R210): 0 a DL Heat, the solicited responses; 1 a UL Heat, the
trigger, the Multi-STA BlockAck and the SIFS between. -/
opaque Config.heatTail : Nat → Nat

/-- The Quill firmware component's version word, and its templates 0 and 1, from the component's bytes: the spec gives the
component no layout (spec/09 R217, R221; spec/17 R421). -/
opaque Config.quillVer : List Byte → Word
opaque Config.quillTpl : List Byte → Nat → List Byte

/-- The protected bytes of a frame, by cipher code, key, PN and the frame's own content, as one number; whether protected bytes
that arrived are good under a cipher, key and PN (spec/06 R150, R153). -/
opaque Config.seal : Nat → List (BitVec 32) → Nat → List Nat → Nat
opaque Config.opens : Nat → List (BitVec 32) → Nat → Nat → Bool

/-- The regularized zero-forcing precoder of a tone group across the V matrices of an RU's users (spec/05 R124). -/
opaque Config.zeroForcing : List (List (BitVec 32)) → List (BitVec 32)

/-- Air time in µs of a sounding sequence by width, number of stations, chains, grouping and codebook (spec/05 R127): the lengths of
its PPDUs are IEEE 802.11's. -/
opaque Config.soundUs : Nat → Nat → Nat → Nat → Bool → Nat

/-- PG_VER.BUILD of every page (spec/02 R61). -/
opaque Config.build : BitVec 16

/-- Uzoran's identifier in a vendor-specific element (spec/16 R380). -/
opaque Config.vendorId : BitVec 24

end Sys2Proof
end

