-- ==== Sys2Proof/Machine/Bits.lean ====
section
/-! DEFINITION. Bit fields of words, bytes in little-endian order, the two CRCs the interfaces use, times in ticks. -/

namespace Sys2Proof.Machine

/-- Bits [hi:lo] of a word, as a number. -/
def bitsOf (w : Word) (hi lo : Nat) : Nat := (w.toNat >>> lo) % 2 ^ (hi + 1 - lo)

/-- One bit of a word. -/
def bitOf (w : Word) (i : Nat) : Bool := w.getLsbD i

/-- A field's mask in place. -/
def fieldMask (hi lo : Nat) : Word := BitVec.ofNat 32 ((2 ^ (hi + 1 - lo) - 1) <<< lo)

/-- The word with bits [hi:lo] replaced. -/
def putBits (w : Word) (hi lo v : Nat) : Word :=
  (w &&& ~~~ fieldMask hi lo) ||| (BitVec.ofNat 32 ((v % 2 ^ (hi + 1 - lo)) <<< lo))

/-- A word with one bit set. -/
def oneBit (i : Nat) : Word := BitVec.ofNat 32 (1 <<< i)

/-- A number of `n` bits read as signed. -/
def signed (n v : Nat) : Int := if v < 2 ^ (n - 1) then (v : Int) else (v : Int) - (2 ^ n : Nat)

/-- A signed number as `n` bits. -/
def unsigned (n : Nat) (v : Int) : Nat := (v % ((2 ^ n : Nat) : Int)).toNat

/-- The numbers of the bits set in a word, from the lowest, below `n`. -/
def bitList (w : Word) (n : Nat) : List Nat := (List.range n).filter (fun i => w.getLsbD i)

/-- How many bits of a word are set. -/
def popCount (w : Word) : Nat := (bitList w 32).length

/-- How many of the low bits of a number are set. -/
def popNat (n v : Nat) : Nat := ((List.range n).filter (fun i => v.testBit i)).length

/-- A word from a number, modulo 2³². -/
def wd (n : Nat) : Word := BitVec.ofNat 32 n

/-- The number of a Boolean bit. -/
def b2n (b : Bool) : Nat := if b then 1 else 0

/-- Unsigned addition that stops at the top of `n` bits. -/
def satAdd (n a b : Nat) : Nat := if a + b < 2 ^ n then a + b else 2 ^ n - 1

/-- The four bytes of a word, the lowest first. -/
def wordBytes (w : Word) : List Byte :=
  [w.extractLsb' 0 8, w.extractLsb' 8 8, w.extractLsb' 16 8, w.extractLsb' 24 8]

/-- The number whose little-endian bytes are given. -/
def leNat : List Byte → Nat
  | [] => 0
  | b :: bs => b.toNat + 256 * leNat bs

/-- `n` little-endian bytes of a number. -/
def natBytes : Nat → Nat → List Byte
  | 0, _ => []
  | n + 1, v => BitVec.ofNat 8 v :: natBytes n (v / 256)

/-- Words from bytes, four by four; a last group of fewer is filled with zeros. -/
def bytesWords : List Byte → List Word
  | a :: b :: c :: e :: rest => wd (leNat [a, b, c, e]) :: bytesWords rest
  | [] => []
  | short => [wd (leNat short)]

/-- The bytes of a list of words. -/
def wordsBytes (ws : List Word) : List Byte := (ws.map wordBytes).flatten

/-- Word `i` of a payload, 0 beyond its end. -/
def word (ws : List Word) (i : Nat) : Word := ws.getD i 0

/-- Byte `i` of a byte string, 0 beyond its end. -/
def byteAt (bs : List Byte) (i : Nat) : Nat := (bs.getD i 0).toNat

/-- Two words as one number, the first the low one (spec/02 R498). -/
def pair (ws : List Word) (i : Nat) : Nat := (word ws i).toNat + 2 ^ 32 * (word ws (i + 1)).toNat

/-- A MAC address in two words (R498). -/
def macAt (ws : List Word) (i : Nat) : Nat := (word ws i).toNat + 2 ^ 32 * bitsOf (word ws (i + 1)) 15 0

/-- Four words as an IPv6 address, the first the most significant (R498). -/
def ip6At (ws : List Word) (i : Nat) : Nat :=
  (((word ws i).toNat * 2 ^ 32 + (word ws (i + 1)).toNat) * 2 ^ 32 + (word ws (i + 2)).toNat) * 2 ^ 32
    + (word ws (i + 3)).toNat

/-- One step of CRC-16/CCITT-FALSE: the register shifted left by one bit, with polynomial 0x1021. -/
def crc16Bit (c : BitVec 16) : BitVec 16 := if c.getLsbD 15 then (c <<< 1) ^^^ 0x1021 else c <<< 1

/-- One byte of CRC-16/CCITT-FALSE. -/
def crc16Byte (c : BitVec 16) (b : Byte) : BitVec 16 :=
  Nat.repeat crc16Bit 8 (c ^^^ (b.setWidth 16 <<< 8))

/-- CRC-16/CCITT-FALSE of a byte string (spec/02 R48; spec/17 R413): initial value 0xFFFF, no reflection. -/
def crc16 (bs : List Byte) : BitVec 16 := bs.foldl crc16Byte 0xFFFF

/-- One bit of the reflected CRC-32 of IEEE 802.3. -/
def crc32Bit (c : BitVec 32) : BitVec 32 := if c.getLsbD 0 then (c >>> 1) ^^^ 0xEDB88320 else c >>> 1

/-- CRC-32 of IEEE 802.3 of a byte string. -/
def crc32 (bs : List Byte) : BitVec 32 :=
  ~~~ (bs.foldl (fun c b => Nat.repeat crc32Bit 8 (c ^^^ b.setWidth 32)) 0xFFFFFFFF)

/-- RFC 1624: the checksum after one 16-bit word changes from `m` to `m'`. -/
def csum (hc m m' : Nat) : Nat :=
  let s := (65535 - hc % 65536) + (65535 - m % 65536) + m' % 65536
  let s := s % 65536 + s / 65536
  65535 - (s % 65536 + s / 65536)

/-- Ticks of TB (4 ns) in a microsecond, a millisecond, a second. -/
def usT (n : Nat) : Nat := n * 250
def msT (n : Nat) : Nat := n * 250000
def sT (n : Nat) : Nat := n * 250000000

/-- Division rounded up. -/
def ceilDiv (a b : Nat) : Nat := if b = 0 then 0 else (a + b - 1) / b

end Sys2Proof.Machine
end

