-- ==== Sys2Proof/Machine/Tab.lean ====
section
/-! DEFINITION. Sparse data by key, as a list of key and value pairs in one canonical form: keys strictly rising, and
(where the table has a default) no entry equal to what an unlisted key reads as. Every memory, register file and table of
the model that is large is one of these, so equal contents are equal data. -/

namespace Sys2Proof.Machine

/-- Sparse data by key. -/
abbrev Tab (α : Type) := List (Nat × α)

/-- The value listed at a key, if any. -/
def tabFind {α : Type} : Tab α → Nat → Option α
  | [], _ => none
  | (j, v) :: t, k => if j = k then some v else tabFind t k

/-- List a value at a key, in key order, in place of one listed there before. -/
def tabPut {α : Type} : Tab α → Nat → α → Tab α
  | [], k, v => [(k, v)]
  | (j, w) :: t, k, v =>
    if k < j then (k, v) :: (j, w) :: t
    else if j = k then (k, v) :: t
    else (j, w) :: tabPut t k v

/-- Take a key out of the list. -/
def tabDel {α : Type} (t : Tab α) (k : Nat) : Tab α := t.filter (fun e => decide (e.1 ≠ k))

/-- Read a key of a table whose unlisted keys read as `d`. -/
def tabGet {α : Type} (d : α) (t : Tab α) (k : Nat) : α := (tabFind t k).getD d

/-- Write a key of a table whose unlisted keys read as `d`: writing `d` takes the entry out. -/
def tabSet {α : Type} [DecidableEq α] (d : α) (t : Tab α) (k : Nat) (v : α) : Tab α :=
  if v = d then tabDel t k else tabPut t k v

/-- The keys rise strictly, each above `lo`. -/
def tabRising {α : Type} : Nat → Tab α → Bool
  | _, [] => true
  | lo, (j, _) :: t => decide (lo < j) && tabRising j t

/-- The keys of a table rise strictly. -/
def tabSorted {α : Type} : Tab α → Bool
  | [] => true
  | (j, _) :: t => tabRising j t

/-- No listed value equals what an unlisted key reads as. -/
def tabNoDefault {α : Type} [DecidableEq α] (d : α) (t : Tab α) : Bool :=
  t.all (fun e => decide (e.2 ≠ d))

/-- The canonical form of a table with a default. -/
def tabWf {α : Type} [DecidableEq α] (d : α) (t : Tab α) : Bool := tabSorted t && tabNoDefault d t

/-- The keys of a table, rising. -/
def tabKeys {α : Type} (t : Tab α) : List Nat := t.map (fun e => e.1)

end Sys2Proof.Machine
end

