-- ==== Sys2Proof/Machine/StSched.lean ====
section
/-! DEFINITION. The state of the access scheduler, of the Quill array with its dispatcher and Ductus trace, and of the
Etold cores (spec/08_access_scheduler.md, spec/09_quill_array.md, spec/10_etold_isa.md). Plain data. -/

namespace Sys2Proof.Machine

/-- One Heat of a plan (spec/08 R206). -/
structure HeatSlot where
  offUs : Nat
  durUs : Nat
  kind : Nat
  ac : Nat
  mode : Nat
  /-- per member: subchannel mask and power limit (0xFF none) -/
  masks : List Nat
  limits : List Nat
deriving DecidableEq, Repr

/-- A Heat plan (R206). -/
structure HeatPlan where
  format : Nat
  group : Nat
  seq : Nat
  center : Nat
  width : Nat
  band : Nat
  actS : Nat
  actNs : Nat
  periodUs : Nat
  members : List Nat
  heats : List HeatSlot
deriving DecidableEq, Repr

/-- A published allocation (R188): its buffer, round number, snapshot time, and the time it was published. -/
structure Alloc where
  buf : Nat
  round : Nat
  snap : Nat
  pub : Nat
deriving DecidableEq, Repr

/-- A Heat prepared for its launch (R210, R213): index, launch and end in TB, whether the servo was not LOCKED at its round's
submission, and that submission's time. -/
structure HeatNext where
  idx : Nat
  launch : Nat
  end_ : Nat
  un : Bool
  sub : Nat
deriving DecidableEq, Repr

/-- The scheduling state of one radio (R186 to R191, R205 to R213). -/
structure AscRadio where
  /-- number of the latest round -/
  round : Nat
  /-- the TB after which the next boundary is looked for: one past the latest boundary taken -/
  from_ : Nat
  /-- the ordinary round in flight: its instance, deadline and buffer -/
  inFlight : Option (Nat × Nat × Nat)
  snap : Nat
  good : Option Alloc
  /-- TB of the latest missed round -/
  missedAt : Option Nat
  /-- stations eligible at the previous GATHER, and exchanges that ended since (airtime in 1/16 µs) -/
  eligible : List Nat
  exchanges : List Nat
  plan : Option HeatPlan
  pending : Option HeatPlan
  /-- the Heat round in flight: instance, deadline, buffer, Heat index -/
  heatFlight : Option (Nat × Nat × Nat × Nat)
  heatSnap : Nat
  /-- Heat allocations by Heat index -/
  heatGood : Tab Alloc
  /-- the Heat prepared for launch -/
  heatNext : Option HeatNext
  /-- the plan that Heat and the Heat allocations belong to -/
  heatFor : Option HeatPlan
  /-- the Heat that runs: end TB, silent -/
  heatRun : Option (Nat × Bool)
  /-- HEAT_STAT.ACTIVE held clear because the servo was not LOCKED (R213) -/
  suspended : Bool
deriving DecidableEq, Repr

/-- The access scheduler (spec/08). The station records live in the scheduler SRAM. -/
structure Asc where
  radios : Tri AscRadio
  /-- TB second, and misses counted in it (R187) -/
  missSec : Nat
  missNow : Nat
  /-- the grid's period in force, in µs, and the boundary from which another one is (R186) -/
  periodUs : Nat
  periodNext : Option (Nat × Nat)
  /-- chunks of a Heat plan being written: total length and chunks (R205) -/
  planLen : Nat
  planChunks : Tab (List Byte)
  /-- the scheduler SRAM, 1 MiB, by byte offset from 0x3000_0000 (R192) -/
  sram : Tab Byte
deriving DecidableEq, Repr

/-- A radio's scheduling state at reset. -/
def AscRadio.reset : AscRadio :=
  { round := 0, from_ := 0, inFlight := none, snap := 0, good := none, missedAt := none, eligible := [], exchanges := [],
    plan := none, pending := none, heatFlight := none, heatSnap := 0, heatGood := [], heatNext := none,
    heatFor := none, heatRun := none, suspended := false }

/-- The access scheduler after reset. -/
def Asc.reset : Asc :=
  { radios := ⟨AscRadio.reset, AscRadio.reset, AscRadio.reset⟩, missSec := 0, missNow := 0, periodUs := 20, periodNext := none,
    planLen := 0, planChunks := [], sram := [] }

/-- One node of a graph template (spec/09 R219). -/
structure TplNode where
  entry : Nat
  param : Nat
  limit : Nat
  pred : Nat
deriving DecidableEq, Repr

/-- A graph template (R219, R220), and whether its content is the standard graph of the firmware image (R221). -/
structure Tpl where
  fwMajor : Nat
  ver : Nat
  nodes : List TplNode
  standard : Bool
deriving DecidableEq, Repr

/-- An RU or MRU that the round has planned (spec/08 R198): its section, RU Allocation value, the subchannels it touches, its
tones, and its users, in MU group order. -/
structure RuPlan where
  ul : Bool
  ru : Nat
  subs : Nat
  tones : Nat
  users : List Nat
  done : Bool
deriving DecidableEq, Repr

/-- One user of the round with the rate chosen for it (spec/08 R199, R200). -/
structure RuUser where
  ul : Bool
  ru : Nat
  subs : Nat
  tones : Nat
  sta : Nat
  slot : Nat
  mcs : Nat
  nss : Nat
  steered : Bool
  off : Int
deriving DecidableEq, Repr

/-- What the operations of one round hand on to each other in the graph work area (spec/08 R192, R194 to R201): the snapshot
time, the exchanges and eligible stations GATHER accrues for, RANK's candidates in score order and those with DL backlog
and for UL, the sounding list, the MU groups, the RUs, the users; duration of the DL PPDU, UL symbols. -/
structure Work where
  /-- the policy registers as the round found them, by address (R204) -/
  pol : List (Nat × Word)
  snap : Option Nat
  exch : List Nat
  prev : List Nat
  dl : List Nat
  ul : List Nat
  sounds : List Nat
  groups : List (List Nat)
  rus : List RuPlan
  users : List RuUser
  dlUs : Nat
  ulSym : Nat
deriving DecidableEq, Repr

/-- Nothing of a round is computed yet. -/
def Work.reset : Work :=
  { pol := [], snap := none, exch := [], prev := [], dl := [], ul := [], sounds := [], groups := [], rus := [], users := [], dlUs := 0,
    ulSym := 0 }

/-- A live instance (R222, R223). -/
structure Inst where
  tpl : Nat
  list : Nat
  deadline : Nat
  enable : Nat
  ctx : List Word
  /-- submission order -/
  order : Nat
  at_ : Nat
  /-- 0 ASC ordinary, 1 ASC Heat, 2 MP, 3 host -/
  by_ : Nat
  radio : Nat
  cancelled : Bool
  /-- its PUBLISH node is done (R230) -/
  complete : Bool
  done : Nat
  work : Work
deriving DecidableEq, Repr

/-- The states of an operation in a slot (R223, R225): waiting for predecessors, eligible since a time, on a ready list
since a time it became eligible, held by a core since a time. -/
inductive OpState where
  | waiting (left : Nat)
  | eligible (since : Nat)
  | ready (since : Nat)
  | held (core : Nat) (since : Nat)
deriving DecidableEq, Repr

/-- An operation slot (R222, R228). -/
structure Op where
  inst : Nat
  node : Nat
  st : OpState
  cancelled : Bool
deriving DecidableEq, Repr

/-- A Ductus record (R235). -/
structure DuctusRec where
  time : Nat
  kind : Nat
  core : Nat
  inst : Nat
  node : Nat
  seq : Nat
  arg0 : Nat
  arg1 : Nat
deriving DecidableEq, Repr

/-- The Ductus trace (R235 to R239): at most 4,096 records, newest first. -/
structure Ductus where
  recs : List DuctusRec
  seq : Nat
  triggered : Bool
  stopped : Bool
  postLeft : Nat
  trigSeq : Nat
deriving DecidableEq, Repr

/-- What a core waits for: nothing, an event (WFE), a time (WAITU), an operation (TAKE, with the place of its rd in the register
file), room in its fetch engine for the length it wrote to FGO, or it is halted after a double fault, or it does not run. -/
inductive CoreWait where
  | none
  | wfe
  | waitu (due : Word)
  | take (place : Nat) (since : Nat)
  | fetchRoom (len : Word)
  | halted
  | stopped
deriving DecidableEq, Repr

/-- A fetch in progress (spec/10 R269). -/
structure Fetch where
  src : Nat
  dst : Nat
  cpl : Nat
  len : Nat
  /-- the controller did not serve when it was started (spec/14 R499) -/
  refused : Bool
deriving DecidableEq, Repr

/-- A control transfer whose delay slot has not executed yet (R253). -/
inductive Transfer where
  | jump (target : Nat)
  | call (target : Nat) (ret : Nat)
  | ret
  | rete
  | notTaken
deriving DecidableEq, Repr

/-- One Etold core (spec/10 R242 to R265, R269). -/
structure Core where
  pc : Nat
  /-- the transfer at the previous address, whose slot is the instruction at pc -/
  slot : Option (Nat × Transfer)
  /-- k0 to k7 at 0 to 7 (k0 is never written) -/
  globals : Tab Word
  /-- 12 groups of 16: low half 0 to 7, high half 8 to 15 -/
  windows : Tab Word
  links : Tab Word
  cwp : Nat
  res : Nat
  spilled : Nat
  spillp : Word
  n : Bool
  z : Bool
  c : Bool
  v : Bool
  spillMax : Nat
  exc : Bool
  epc : Word
  ecause : Word
  evt : Bool
  tbHi : Word
  /-- instruction memory (Quill) -/
  imem : Tab Byte
  /-- data memory (Quill) or MP SRAM (MP) -/
  dmem : Tab Byte
  fsrcLo : Word
  fsrcHi : Word
  fdst : Word
  fcpl : Word
  fetches : List Fetch
  wait : CoreWait
  /-- slot of the operation it holds -/
  held : Option Nat
  /-- TRACE_PUT0 as last written (R237) -/
  put0 : Word
  /-- TB times of recent LIMIT faults, newest first -/
  faults : List Nat
  faulted : Bool
deriving DecidableEq, Repr

/-- The Quill array (spec/09). -/
structure Qar where
  cores : Tab Core
  templates : Tab Tpl
  /-- a template being loaded: its index, total length and chunks -/
  loadT : Nat
  loadLen : Nat
  loadChunks : Tab (List Byte)
  insts : Tab Inst
  ops : Tab Op
  nextOrder : Nat
  /-- descriptor memory at 0x5000_0000 (R228) -/
  desc : Tab Byte
  fwVer : Word
  ductus : Ductus
deriving DecidableEq, Repr

/-- A core after reset (R265); `mp` chooses the management processor's spill pointer. -/
def Core.reset (mp : Bool) : Core :=
  { pc := 0, slot := none, globals := [], windows := [], links := [], cwp := 0, res := 1, spilled := 0,
    spillp := if mp then 0x1005F800 else 0x10007800, n := false, z := false, c := false, v := false, spillMax := 27,
    exc := false, epc := 0, ecause := 0, evt := false, tbHi := 0, imem := [], dmem := [], fsrcLo := 0, fsrcHi := 0,
    fdst := 0, fcpl := 0, fetches := [], wait := if mp then .none else .stopped, held := none, put0 := 0, faults := [],
    faulted := false }

/-- The Quill array after reset: no core runs, no template, no instance, an empty trace. -/
def Qar.reset : Qar :=
  { cores := [], templates := [], loadT := 0, loadLen := 0, loadChunks := [], insts := [], ops := [], nextOrder := 0,
    desc := [], fwVer := 0,
    ductus := { recs := [], seq := 0, triggered := false, stopped := false, postLeft := 0, trigSeq := 0 } }

end Sys2Proof.Machine
end

