-- ==== Sys2Proof/Machine/Operands.lean ====
section
/-! DEFINITION. The operands of an Etold instruction: instruction fields, registers through the window, the link registers, the
packed special registers, the frames of the spill engine, and the conditions (spec/10 R242 to R249, R257). -/

namespace Sys2Proof.Machine

/-- The cores that execute Etold instructions: the management processor and the sixteen Quill cores. -/
inductive Cpu where
  | mp
  | quill (k : Fin 16)
deriving DecidableEq, Repr

/-! Instruction fields, by format (R247) -/

/-- The fields of format R: condition, rd, ra, rb, S, func. -/
structure FmtR where
  cond : BitVec 4
  rd : BitVec 5
  ra : BitVec 5
  rb : BitVec 5
  s : Bool
  func : BitVec 6
deriving DecidableEq, Repr

/-- The fields of format I: condition, rd, ra, S, imm11. -/
structure FmtI where
  cond : BitVec 4
  rd : BitVec 5
  ra : BitVec 5
  s : Bool
  imm : BitVec 11
deriving DecidableEq, Repr

/-- The fields of format M: condition, rd, ra, offset12. -/
structure FmtM where
  cond : BitVec 4
  rd : BitVec 5
  ra : BitVec 5
  off : BitVec 12
deriving DecidableEq, Repr

/-- The fields of format B: condition, offset22. -/
structure FmtB where
  cond : BitVec 4
  off : BitVec 22
deriving DecidableEq, Repr

/-- The fields of format U: condition, rd, imm16; H is the mnemonic's. -/
structure FmtU where
  cond : BitVec 4
  rd : BitVec 5
  imm : BitVec 16
deriving DecidableEq, Repr

/-- imm11 and offset12, sign-extended; the byte distance of offset22 (R251). -/
def FmtI.ext (f : FmtI) : Word := f.imm.signExtend 32
def FmtM.ext (f : FmtM) : Word := f.off.signExtend 32
def FmtB.dist (f : FmtB) : Word := f.off.signExtend 32 <<< 2

/-! Registers (R242, R243) -/

/-- The place in the physical file of windowed register field `n` of the window `cwp`: groups of 16, low half first. -/
def windowAt (cwp n : Nat) : Nat :=
  if n < 24 then 16 * (cwp % 12) + (n - 8) else 16 * ((cwp + 1) % 12) + (n - 24)

/-- The place of a register field in the file: 0 to 7 the globals, from 8 on the windowed registers. -/
def Core.place (c : Core) (n : BitVec 5) : Nat := if n.toNat < 8 then n.toNat else 8 + windowAt c.cwp n.toNat

/-- Read and write the file by place; k0 reads 0, and a write to it is discarded. -/
def Core.getPlace (c : Core) (p : Nat) : Word :=
  if p = 0 then 0 else if p < 8 then tabGet 0 c.globals p else tabGet 0 c.windows (p - 8)
def Core.setPlace (c : Core) (p : Nat) (v : Word) : Core :=
  if p = 0 then c
  else if p < 8 then { c with globals := tabSet 0 c.globals p v }
  else { c with windows := tabSet 0 c.windows (p - 8) v }

/-- Read and write a register of the current window. -/
def Core.reg (c : Core) (n : BitVec 5) : Word := c.getPlace (c.place n)
def Core.setReg (c : Core) (n : BitVec 5) (v : Word) : Core := c.setPlace (c.place n) v

/-- The hidden link register of a group, and of the current window. -/
def Core.linkOf (c : Core) (g : Nat) : Word := tabGet 0 c.links (g % 12)
def Core.setLinkOf (c : Core) (g : Nat) (v : Word) : Core := { c with links := tabSet 0 c.links (g % 12) v }
def Core.lk (c : Core) : Word := c.linkOf c.cwp

/-! Frames (R245) -/

/-- The 18 words of the frame of a group. -/
def Core.frame (c : Core) (g : Nat) : List Word :=
  (List.range 16).map (fun i => tabGet 0 c.windows (16 * (g % 12) + i)) ++ [c.linkOf g, 0]

/-- Put a frame back into a group. -/
def Core.setFrame (c : Core) (g : Nat) (ws : List Word) : Core :=
  let c1 := { c with windows := (List.range 16).foldl (fun t i => tabSet 0 t (16 * (g % 12) + i) (ws.getD i 0)) c.windows }
  c1.setLinkOf g (ws.getD 16 0)

/-! Special registers (R257) -/

/-- PSR; `mp`: the core is the MP. -/
def Core.psr (c : Core) (mp : Bool) : Word :=
  wd (b2n c.n * 2 ^ 31 + b2n c.z * 2 ^ 30 + b2n c.c * 2 ^ 29 + b2n c.v * 2 ^ 28 + c.spillMax % 4096 * 2 ^ 16 + b2n c.exc * 2 + b2n mp)

/-- WIN. -/
def Core.win (c : Core) : Word := wd (c.spilled % 4096 * 2 ^ 8 + c.res % 16 * 2 ^ 4 + c.cwp % 16)

/-- A special register's read value; none for a number outside the table. -/
def Core.special (c : Core) (mp : Bool) (tb : Nat) (k : Nat) : Option Word :=
  match k with
  | 0 => some (c.psr mp)
  | 1 => some c.win
  | 2 => some c.spillp
  | 3 => some c.lk
  | 4 => some c.epc
  | 5 => some c.ecause
  | 6 => some (wd tb)
  | 7 => some c.tbHi
  | 8 => some (wd (b2n c.evt))
  | _ => none

/-- The effect of MTS: none where it raises ILLEGAL, on a read-only register or a WIN out of range. Reserved bits are not
written. -/
def Core.setSpecial (c : Core) (k : Nat) (v : Word) : Option Core :=
  match k with
  | 0 => some { c with n := bitOf v 31, z := bitOf v 30, c := bitOf v 29, v := bitOf v 28, spillMax := bitsOf v 27 16 }
  | 1 =>
    if bitsOf v 7 4 = 0 ∨ 11 < bitsOf v 7 4 ∨ 11 < bitsOf v 3 0 then none
    else some { c with spilled := bitsOf v 19 8, res := bitsOf v 7 4, cwp := bitsOf v 3 0 }
  | 2 => some { c with spillp := v &&& 0xFFFFFFFC }
  | 3 => some (c.setLinkOf c.cwp (v &&& 0xFFFFFFFC))
  | 4 => some { c with epc := v &&& 0xFFFFFFFC }
  | 5 => some { c with ecause := v &&& 0x80FFFFFF }
  | 8 => some { c with evt := bitOf v 0 }
  | _ => none

/-! Conditions (R249) -/

/-- A condition holds. -/
def Core.holds (c : Core) (cc : BitVec 4) : Bool :=
  match cc.toNat with
  | 0x0 => true
  | 0x1 => c.z
  | 0x2 => !c.z
  | 0x3 => c.n != c.v
  | 0x4 => c.n == c.v
  | 0x5 => c.z || (c.n != c.v)
  | 0x6 => !c.z && (c.n == c.v)
  | 0x7 => c.c
  | 0x8 => !c.c
  | 0x9 => c.c || c.z
  | 0xA => !c.c && !c.z
  | 0xB => c.n
  | 0xC => !c.n
  | 0xD => c.v
  | 0xE => !c.v
  | _ => c.evt

end Sys2Proof.Machine
end

