-- ==== Sys2Proof/Machine/Flags.lean ====
section
/-! DEFINITION. Results and flags of the Etold ALU (spec/10 R250 to R252). -/

namespace Sys2Proof.Machine

/-- A result with the carry and overflow it sets; N and Z follow the result. -/
structure AluOut where
  res : Word
  c : Bool
  v : Bool
deriving DecidableEq, Repr

/-- Set the four flags. -/
def Core.setFlags (c : Core) (o : AluOut) : Core :=
  { c with n := o.res.getLsbD 31, z := decide (o.res = 0), c := o.c, v := o.v }

/-- A result with C and V 0. -/
def AluOut.plain (r : Word) : AluOut := { res := r, c := false, v := false }

/-- a + b + carry in: carry out of bit 31, signed overflow. -/
def aluAdd (a b : Word) (cin : Bool) : AluOut :=
  let r := a + b + wd (b2n cin)
  { res := r, c := decide (2 ^ 32 ≤ a.toNat + b.toNat + b2n cin),
    v := decide (r.toInt ≠ a.toInt + b.toInt + Int.ofNat (b2n cin)) }

/-- a − b − borrow in: 1 when a borrow occurred, signed overflow. -/
def aluSub (a b : Word) (cin : Bool) : AluOut :=
  let r := a - b - wd (b2n cin)
  { res := r, c := decide (a.toNat < b.toNat + b2n cin),
    v := decide (r.toInt ≠ a.toInt - b.toInt - Int.ofNat (b2n cin)) }

/-- Shifts by 0 to 31: C is the last bit shifted out, 0 for a shift of 0. -/
def aluShl (a : Word) (n : Nat) : AluOut :=
  { res := a <<< n, c := decide (n ≠ 0) && a.getLsbD (32 - n), v := false }
def aluShr (a : Word) (n : Nat) : AluOut :=
  { res := a >>> n, c := decide (n ≠ 0) && a.getLsbD (n - 1), v := false }
def aluSar (a : Word) (n : Nat) : AluOut :=
  { res := a.sshiftRight n, c := decide (n ≠ 0) && a.getLsbD (n - 1), v := false }
def aluRor (a : Word) (n : Nat) : AluOut :=
  { res := a.rotateRight n, c := decide (n ≠ 0) && a.getLsbD (n - 1), v := false }

/-- The products. -/
def aluMul (a b : Word) : AluOut := .plain (a * b)
def aluMulhu (a b : Word) : AluOut := .plain (wd (a.toNat * b.toNat / 2 ^ 32))
def aluMulhs (a b : Word) : AluOut := .plain (BitVec.ofInt 32 (a.toInt * b.toInt / 2 ^ 32))

/-- Leading zeros. -/
def aluClz (a : Word) : AluOut :=
  .plain (wd (((List.range 32).find? (fun i => a.getLsbD (31 - i))).getD 32))

/-- Division: a divisor of 0 gives 0xFFFF_FFFF and remainder ra; the most negative number by −1 gives itself and 0. -/
def aluDivu (a b : Word) : AluOut := .plain (if b = 0 then 0xFFFFFFFF else a / b)
def aluDivs (a b : Word) : AluOut := .plain (if b = 0 then 0xFFFFFFFF else BitVec.ofInt 32 (a.toInt.tdiv b.toInt))
def aluRemu (a b : Word) : AluOut := .plain (if b = 0 then a else a % b)
def aluRems (a b : Word) : AluOut := .plain (if b = 0 then a else BitVec.ofInt 32 (a.toInt.tmod b.toInt))

/-- The register ALU operation of a func value; none for a value absent from the table (R252). -/
def aluFunc (c : Core) (f : Nat) (a b : Word) : Option AluOut :=
  match f with
  | 0x00 => some (aluAdd a b false)
  | 0x01 => some (aluAdd a b c.c)
  | 0x02 => some (aluSub a b false)
  | 0x03 => some (aluSub a b c.c)
  | 0x04 => some (.plain (a &&& b))
  | 0x05 => some (.plain (a ||| b))
  | 0x06 => some (.plain (a ^^^ b))
  | 0x07 => some (.plain (a &&& ~~~ b))
  | 0x08 => some (aluShl a (b.toNat % 32))
  | 0x09 => some (aluShr a (b.toNat % 32))
  | 0x0A => some (aluSar a (b.toNat % 32))
  | 0x0B => some (aluRor a (b.toNat % 32))
  | 0x0C => some (aluMul a b)
  | 0x0D => some (aluMulhu a b)
  | 0x0E => some (aluMulhs a b)
  | 0x0F => some (aluClz a)
  | 0x10 => some (.plain (if a.toInt < b.toInt then a else b))
  | 0x11 => some (.plain (if a.toInt < b.toInt then b else a))
  | 0x12 => some (.plain (if a.toNat < b.toNat then a else b))
  | 0x13 => some (.plain (if a.toNat < b.toNat then b else a))
  | 0x14 => some (aluDivu a b)
  | 0x15 => some (aluDivs a b)
  | 0x16 => some (aluRemu a b)
  | 0x17 => some (aluRems a b)
  | _ => none

end Sys2Proof.Machine
end

