-- ==== Sys2Proof/Machine/StFrame.lean ====
section
/-! DEFINITION. A frame as its parsed headers (spec/12 R294). Plain data. -/

namespace Sys2Proof.Machine

/-- One VLAN tag of a frame. -/
structure VTag where
  tpid : Nat
  vid : Nat
  pcp : Nat
deriving DecidableEq, Repr

/-- A frame as the PKE's PARSE stage reads it (spec/12 R294): lengths and addresses as numbers packed by R498. -/
structure Hdr where
  len : Nat
  dst : Nat
  src : Nat
  tags : List VTag
  etype : Nat
  /-- 4 IPv4, 6 IPv6, 0 other -/
  ipver : Nat
  /-- a bad IPv4 checksum, a length field longer than the frame or an IHL below 5 -/
  malformed : Bool
  /-- headers beyond 128 bytes, or more than two extension headers -/
  deep : Bool
  /-- IPv4 options or an IPv6 hop-by-hop header -/
  options : Bool
  proto : Nat
  sip : Nat
  dip : Nat
  dscp : Nat
  ttl : Nat
  /-- a fragment, and a non-first fragment -/
  frag : Bool
  nonFirst : Bool
  /-- L4 ports; for ICMP the identifier and 0 -/
  sport : Nat
  dport : Nat
  tcpFlags : Nat
  icmpError : Bool
  icmpEcho : Bool
  ipSum : Nat
  l4Sum : Nat
  /-- target address of an ARP or neighbour-discovery frame -/
  ndTarget : Option Nat
deriving DecidableEq, Repr

/-- A mesh message (spec/16 R388): header fields and payload bytes. -/
structure MeshMsg where
  version : Nat
  typ : Nat
  ttl : Nat
  origin : Nat
  seq : Nat
  dest : Nat
  payload : List Byte
deriving DecidableEq, Repr

end Sys2Proof.Machine
end

