-- ==== Sys2Proof/Machine/StHost.lean ====
section
/-! DEFINITION. The state of the page headers and of the host control interface: attention, sessions, rings, SPI, the
Axelo Control Protocol (spec/02_host_control.md). Plain data. -/

namespace Sys2Proof.Machine

/-- The writable header of one page and the block conditions that PG_STAT reports (spec/02 R58). A block of several
pages keeps its block conditions on its first page. -/
structure Page where
  /-- PG_CTRL.ENABLE -/
  enable : Bool
  /-- PG_CTRL.CLK_FORCE -/
  clkForce : Bool
  /-- PG_CTRL.ISOLATE -/
  isolate : Bool
  /-- PG_LOCK.LOCK -/
  lock : Bool
  /-- ATTN_CAUSE -/
  cause : Word
  /-- ATTN_MASK -/
  mask : Word
  /-- ATTN_CLASS -/
  cls : Word
  /-- the block has been initialized since its last reset (READY, R58) -/
  inited : Bool
  /-- a block reset is running (BUSY, R59) -/
  resetting : Bool
  /-- the block is under self-test (SELFTEST, R58) -/
  selftest : Bool
  /-- the block failed its boot self-test or its initialization and stays out of service (R456) -/
  failed : Bool
  /-- PG_STAT.POWER, 0 off, 1 retained, 2 clock-gated, 3 on, 4 waking (R58, R442) -/
  power : Nat
deriving DecidableEq, Repr

/-- Who sent a request: a control or data ring pair, the SPI target, an ACP session, or the management processor. -/
inductive Src where
  | pcie (n : Nat)
  | spi
  | acp (id : Nat)
  | mp
deriving DecidableEq, Repr

/-- The sender's part of a request's header: its session, FLAGS and TAG (spec/02 R24), and for an INDIRECT request the host
addresses of the request payload and for the reply payload, entry bytes 16 to 31 (R44). -/
structure Rq where
  src : Src
  flags : Nat
  tag : Word
  reqAt : Nat := 0
  rspAt : Nat := 0
deriving DecidableEq, Repr

/-- A request: its 16-byte header and its payload, in words (spec/02 R24, R25); for an INDIRECT one also the host addresses its
entry gives in bytes 16 to 23 and 24 to 31 (R44). -/
structure Msg where
  op : Nat
  flags : Nat
  len : Nat
  tag : Word
  addr : Word
  arg : Word
  payload : List Word
  reqAt : Nat := 0
  rspAt : Nat := 0
deriving DecidableEq, Repr

/-- A reply: OP and TAG echoed, status word, DETAIL, ATTN_SEQ and the payload (spec/02 R24, R29). -/
structure Reply where
  op : Nat
  tag : Word
  status : Nat
  detail : Nat
  seq : Word
  payload : List Word
deriving DecidableEq, Repr

/-- An open WATCH: the TAG of its request, the ATTN_SEQ value last seen and the TB time it times out (R37). -/
structure Watch where
  tag : Word
  seen : Word
  due : Nat
deriving DecidableEq, Repr

/-- One entry of a request ring: a request of a control ring, or the 16 words of a data ring's entry with the frame its
BUF points at (spec/02 R44; spec/06 R162, R166; spec/12 R313, R314). -/
structure RingEnt where
  msg : Msg
  words : List Word
  frame : Hdr
deriving DecidableEq, Repr

/-- One PCIe ring pair: its configuration in BAR0 and the device's positions (R43, R45, R46, R497). -/
structure Ring where
  reqBase : Nat
  rspBase : Nat
  log2 : Nat
  typ : Nat
  vec : Nat
  enable : Bool
  /-- request producer index written by the host -/
  prod : Nat
  /-- reply consumer index written by the host -/
  cons : Nat
  /-- the device's own position in the request ring -/
  reqPos : Nat
  /-- the device's own position in the reply ring -/
  rspPos : Nat
  /-- PHASE of the pass of the reply ring being written -/
  phase : Bool
  /-- agreed version of the control session, if one is open (R42) -/
  session : Option Nat
  watch : Option Watch
  /-- replies and completions composed while the reply ring was full, oldest first: the entry's words, the host address of its
  payload, the payload (R44, R46) -/
  waiting : List (List Word × Nat × List Word)
  /-- entries posted in the ring that the device has not taken yet: the reply ring is full (R46), or the executor has not come to
  them (R28) -/
  held : List RingEnt
  /-- submissions of a data ring that have no completion written yet, in submission order: the frame, and its completion
  once it is known (R46, OP3) -/
  subs : List (Nat × Option (List Word))
deriving DecidableEq, Repr

/-- The SPI target: its one session and its at most two waiting replies, oldest first (R48 to R50). -/
structure Spi where
  session : Option Nat
  watch : Option Watch
  replies : List Reply
  lastRejected : Bool
  /-- an accepted request that the executor has not come to (R28, R49) -/
  todo : Option Msg
deriving DecidableEq, Repr

/-- One ACP session (R54 to R56). -/
structure Acp where
  slot : Nat
  version : Nat
  /-- the COUNTER of the HELLO that opened it -/
  helloCtr : Nat
  /-- the highest COUNTER the session has accepted -/
  topCtr : Nat
  /-- the device's own next reply COUNTER -/
  txCtr : Nat
  /-- the last eight replies, newest first -/
  last : List Reply
  watch : Option Watch
  /-- TB time of the last accepted datagram, or of the end of a WATCH (R56) -/
  active : Nat
  /-- the messages of accepted datagrams that the executor has not come to: a list for each datagram, oldest first (R28) -/
  todo : List (List Msg)
  /-- the replies composed so far to the datagram whose messages stand first in `todo` (R55) -/
  done : List Reply
  /-- arrival port, and the address and port replies return to -/
  port : Nat
  peer : Nat
  udp : Bool
deriving DecidableEq, Repr

/-- A COMMAND in execution that has not taken effect yet: no other request executes until it has (R28). -/
structure InExec where
  rq : Rq
  op : Nat
  addr : Word
  /-- its session is still open, so its reply will be sent (R42, R45) -/
  live : Bool
deriving DecidableEq, Repr

/-- The host control interface (spec/02_host_control.md). -/
structure Hci where
  /-- HCI.ATTN_SEQ (R36) -/
  attnSeq : Word
  rings : Tab Ring
  spi : Spi
  acp : Tab Acp
  /-- the session ID the next ACP session search starts from (R56) -/
  nextAcpId : Nat
  /-- HCI.ACP_HWM0 to HWM3 (R54) -/
  hwm : Tab Nat
  /-- the reservations of the marks kept in the committed configuration (R54) -/
  hwmReserve : Tab Nat
  /-- the key slots, by 8 × slot + word; write-only (R57) -/
  keys : Tab Word
  /-- TB times of recent authentication failures, newest first, at most 16 (R53) -/
  authFails : List Nat
  /-- the MSI-X table's words (BAR0 0x1000), its vectors' mask bits, and pending-bit array (BAR0 0x1800) (R43, R47) -/
  msixTab : Tab Word
  msixMask : Word
  msixPending : Word
  /-- the PCIe link is up (R47) -/
  linkUp : Bool
  /-- the request that holds the executor (R28) -/
  inExec : Option InExec
  /-- the place in the executor's round that it serves next (R28) -/
  turn : Nat
  /-- requests of the management processor that the executor has not come to (R28) -/
  mpTodo : List Msg
deriving DecidableEq, Repr

/-- A ring pair as reset leaves it: off, every field 0. -/
def Ring.reset : Ring :=
  { reqBase := 0, rspBase := 0, log2 := 0, typ := 0, vec := 0, enable := false, prod := 0, cons := 0, reqPos := 0,
    rspPos := 0, phase := true, session := none, watch := none, waiting := [], held := [], subs := [] }

/-- The host control interface after a device reset. -/
def Hci.reset : Hci :=
  { attnSeq := 0, rings := [], spi := { session := none, watch := none, replies := [], lastRejected := false, todo := none },
    acp := [], nextAcpId := 1, hwm := [], hwmReserve := [], keys := [], authFails := [], msixTab := [], msixMask := 0xFFFFFFFF, msixPending := 0,
    linkUp := false, inExec := none, turn := 0, mpTodo := [] }

end Sys2Proof.Machine
end

