-- ==== Sys2Proof/Machine/StTraffic.lean ====
section
/-! DEFINITION. Frames on their way, and the state of the traffic manager and of the packet engine
(spec/11_traffic_manager.md, spec/12_packet_engine.md). Plain data. -/

namespace Sys2Proof.Machine

/-- A frame on its way into the PKE: its source code (R292), when it arrived, and what the radio or host gave with it. -/
structure InFrame where
  id : Nat
  source : Nat
  hdr : Hdr
  time : Nat
  /-- station and TID of an MSDU from a radio; BSS index -/
  sta : Option Nat
  tid : Nat
  bss : Nat
  /-- a DIRECT host frame: port and class (R314) -/
  direct : Option (Nat × Nat)
  /-- cells it occupies in its Inkwell share -/
  cells : Nat
  /-- the share that accounts for it (R13): 0 ETH, 1 TXA, 2 TXB, 3 TXC, 4 RX, 5 HOST -/
  share : Nat
  /-- its class at the port it was received on, for the flow control of that port (R326) -/
  icls : Nat
  /-- the data ring of a host frame (R280) -/
  ring : Option Nat
deriving DecidableEq, Repr

/-- What a host transmit request asked (spec/06 R162), and what has happened to its MPDU since. -/
structure Wl where
  sta : Nat
  tid : Nat
  bss : Nat
  /-- the frame carries an 802.11 header; management when TID is 8 -/
  mpdu : Bool
  noAck : Bool
  noEncrypt : Bool
  lateFinal : Bool
  launch : Option Nat
  /-- TB after which the start of a frame whose launch has come is late (spec/15 R369) -/
  lateAt : Option Nat
  fixedRate : Option Nat
  links : Nat
  tol : Nat
  retry : Nat
  attempts : Nat
  late : Nat
  defers : Nat
  sn : Option Nat
  pn : Option Nat
  /-- its protected bytes, once it is encrypted (R150, R174) -/
  sealed : Option Nat := none
  /-- link of the last transmission -/
  lastLink : Option Nat
  /-- transmit report of its last PPDU, 12 words; none while it was never on air (R130, R164) -/
  rep : List Word
deriving DecidableEq, Repr

/-- What a frame, exception or notice for port H carries into its completion (spec/12 R313). -/
structure ToHost where
  reason : Nat
  cls : Nat
  source : Nat
  domain : Nat
  vlan : Nat
  token : Option Nat
  time : Nat
  notice : Option (List Word)
deriving DecidableEq, Repr

/-- What MSH and Relay put on a mesh queue: a flood, a message to a neighbour, or the QoS Null of a woken child (R274; spec/16 R388,
R396). -/
inductive MeshFrame where
  | flood (m : MeshMsg)
  | link (mac : Nat) (m : MeshMsg)
  | null (mac : Nat)
deriving DecidableEq, Repr

/-- One entry of a TMG queue (spec/11 R276, R279). -/
structure Entry where
  fid : Nat
  len : Nat
  /-- 0 green, 1 yellow, 2 red -/
  color : Nat
  /-- TB at admission (R288) -/
  stamp : Nat
  /-- the entry's cells are in Inkwell -/
  inInk : Bool
  /-- its DRAM write has not completed yet (R282) -/
  writing : Bool
  /-- where in DRAM it was written -/
  dram : Nat
  cells : Nat
  share : Nat
  /-- port it was received on and its class there, while its cells count in the Ethernet headroom (spec/14 R336) -/
  ingress : Option (Nat × Nat)
  hdr : Hdr
  /-- data ring and COOKIE of a host-submitted frame -/
  host : Option (Nat × Word)
  /-- domain and port whose pin counts it (spec/12 R296) -/
  pin : Option (Nat × Nat)
  /-- DSCP rewrite of the ACL (spec/12 R307, R309) -/
  setDscp : Option Nat
  wl : Wl
  toHost : Option ToHost
  /-- a frame of a mesh queue -/
  mesh : Option MeshFrame := none
deriving DecidableEq, Repr

/-- A queue profile (R277). -/
structure Profile where
  quantum : Nat
  qlim : Nat
  ylim : Nat
  rlim : Nat
  spill : Nat
  ageMs : Nat
deriving DecidableEq, Repr

/-- One queue: its settings and its entries, oldest first (R276, R278, R289). -/
structure Queue where
  profile : Nat
  pacerEn : Bool
  pacer : Nat
  entries : List Entry
  dropCnt : Nat
  ageCnt : Nat
  /-- deficit of the port scheduler (R290) -/
  deficit : Nat
deriving DecidableEq, Repr

/-- A Pacer's configuration (R284). -/
structure PacerCfg where
  enable : Bool
  parentEn : Bool
  parent : Nat
  periodUs : Nat
  inc : Nat
  burst : Nat
deriving DecidableEq, Repr

/-- A Pacer: its configuration, one accepted and held until the next refill, its credit in 1/16 byte, and the TB time of
its next refill (R284). -/
structure Pacer where
  cfg : PacerCfg
  next : Option PacerCfg
  credit : Int
  refillAt : Nat
deriving DecidableEq, Repr

/-- A meter: configuration, tokens in 1/65,536 byte, TB of its previous arrival, counts (R285 to R287). -/
structure Meter where
  mode : Nat
  aware : Bool
  greenDrop : Bool
  yellowDrop : Bool
  redDrop : Bool
  cir : Nat
  pir : Nat
  cbs : Nat
  ebs : Nat
  tc : Nat
  te : Nat
  last : Nat
  gFrames : Nat
  yFrames : Nat
  rFrames : Nat
  gBytes : Nat
  yBytes : Nat
  rBytes : Nat
deriving DecidableEq, Repr

/-- The traffic manager (spec/11). -/
structure Tmg where
  queues : Tab Queue
  profiles : Tab Profile
  pacers : Tab Pacer
  meters : Tab Meter
  /-- 256-byte cells of the spill area in use -/
  spillUsed : Nat
  /-- the next frame identity -/
  nextFid : Nat
deriving DecidableEq, Repr

/-- Profile 0 at reset, and every other profile (R277). -/
def Profile.reset : Profile := { quantum := 1536, qlim := 256, ylim := 192, rlim := 128, spill := 32, ageMs := 2000 }

/-- A queue at reset: profile 0, no Pacer, empty (R278). -/
def Queue.reset : Queue :=
  { profile := 0, pacerEn := false, pacer := 0, entries := [], dropCnt := 0, ageCnt := 0, deficit := 0 }

/-- A Pacer at reset: disabled, credit 0 (R284). -/
def Pacer.reset : Pacer :=
  { cfg := { enable := false, parentEn := false, parent := 0, periodUs := 1, inc := 1, burst := 64 }, next := none,
    credit := 0, refillAt := 0 }

/-- A meter at reset: MODE 0, drop red (R285). -/
def Meter.reset : Meter :=
  { mode := 0, aware := false, greenDrop := false, yellowDrop := false, redDrop := true, cir := 8, pir := 0, cbs := 64,
    ebs := 0, tc := 0, te := 0, last := 0, gFrames := 0, yFrames := 0, rFrames := 0, gBytes := 0, yBytes := 0,
    rBytes := 0 }

/-- The traffic manager after reset. -/
def Tmg.reset : Tmg :=
  { queues := [], profiles := [], pacers := [], meters := [], spillUsed := 0, nextFid := 1 }

/-- An entry of the L2 table (spec/12 R298): kind 0 port, 1 station, 2 H. -/
structure L2Ent where
  kind : Nat
  index : Nat
  static : Bool
  /-- TB of the last frame that carried it as source -/
  used : Nat
deriving DecidableEq, Repr

/-- A VLAN (R315, VLAN_SET). -/
structure Vlan where
  learn : Bool
  isolate : Bool
  floodH : Bool
  iface : Nat
  members : Nat
  untagged : Nat
  bss : Nat
deriving DecidableEq, Repr

/-- PORT_VLAN settings of a source (R297). -/
structure PortVlan where
  pvid : Nat
  accept : Nat
  cls : Nat
deriving DecidableEq, Repr

/-- An L3 interface (R300). -/
structure Iface where
  nat : Bool
  vlan : Nat
  mac : Nat
  mtu : Nat
deriving DecidableEq, Repr

/-- A next hop (R300). -/
structure NextHop where
  resolved : Bool
  iface : Nat
  mac : Nat
deriving DecidableEq, Repr

/-- A route: prefix, its length, next hop (R300). -/
structure Route where
  prefx : Nat
  len : Nat
  nh : Nat
deriving DecidableEq, Repr

/-- A flow key (R303). -/
structure FlowKey where
  proto : Nat
  v6 : Bool
  iface : Nat
  sip : Nat
  dip : Nat
  sport : Nat
  dport : Nat
deriving DecidableEq, Repr

/-- A flow entry: words 10 to 13 of FLOW_ADD, its hits and the time of the last (R303, R304). -/
structure Flow where
  key : FlowKey
  w10 : Word
  w11 : Word
  natAddr : Nat
  natPort : Nat
  idleS : Nat
  packets : Nat
  bytes : Nat
  used : Nat
deriving DecidableEq, Repr

/-- An ACL rule, its 24 words as written (R306). -/
structure AclRule where
  words : List Word
deriving DecidableEq, Repr

/-- A local address (R315, LOCAL_SET): kind 0 MAC, 1 IPv4, 2 IPv6. -/
structure LocalAddr where
  kind : Nat
  addr : Nat
deriving DecidableEq, Repr

/-- One destination the RESOLVE stage gave a frame: its queue, the egress header, class and meter, and what H is told. -/
structure Dest where
  queue : Nat
  hdr : Hdr
  meter : Option Nat
  color : Nat
  /-- destination port of the pin: 0 to 9, 10 for H -/
  pinPort : Option Nat
  toHost : Option ToHost
  /-- DSCP rewrite recorded by the ACL (R309) -/
  setDscp : Option Nat
deriving DecidableEq, Repr

/-- A frame inside the PKE (R293, R295): its domain, and its destinations once decided. The token is that of the hold
it opened. -/
structure PkeJob where
  frame : InFrame
  domain : Nat
  vlan : Nat
  /-- its decision is made; otherwise the flow bucket it waits for (R302), or nothing while it waits behind an earlier frame
  of its domain -/
  decided : Bool
  waits : Option FlowKey
  dests : List Dest
  token : Option Nat
  /-- a host frame that waits in the sequencer because its queue cannot admit it (R280) -/
  stuck : Bool
  /-- its own cells have gone with a destination; further copies take cells of their own (R299) -/
  passed : Bool
  /-- the headers as PARSE saw them (R294) -/
  view : Hdr
  /-- the pipelines have done with it: 0.4 µs after its admission (R293) -/
  due : Nat
deriving DecidableEq, Repr

/-- A held domain (R311): the held frame, the frames listed behind it, and when the hold times out. -/
structure Hold where
  domain : Nat
  frame : InFrame
  listed : List InFrame
  due : Nat
deriving DecidableEq, Repr

/-- A receive buffer the host posted: ring, COOKIE, size, host address. -/
structure HostBuf where
  ring : Nat
  cookie : Word
  size : Nat
  buf : Nat
  /-- its submission's identity on the ring -/
  sid : Nat
deriving DecidableEq, Repr

/-- A DSCP or PCP map entry (R308). -/
structure MapEnt where
  cls : Nat
  color : Nat
deriving DecidableEq, Repr

/-- The packet engine (spec/12). -/
structure Pke where
  /-- frames waiting at each source, oldest first (R292) -/
  waiting : Tab (List InFrame)
  /-- frames released from a hold, ahead of every source -/
  released : List InFrame
  /-- the source the arbiter serves next -/
  turn : Nat
  jobs : List PkeJob
  l2 : Tab L2Ent
  vlans : Tab Vlan
  portVlan : Tab PortVlan
  bssVlan : Tab Nat
  staVlan : Tab Nat
  ifaces : Tab Iface
  nexthops : Tab NextHop
  routes4 : List Route
  routes6 : List Route
  flows : List Flow
  /-- keys held in the on-chip flow cache -/
  flowCache : List FlowKey
  acl : Tab AclRule
  locals : Tab LocalAddr
  dscpMap : Tab MapEnt
  pcpMap : Tab MapEnt
  holds : Tab Hold
  nextToken : Nat
  /-- pins by 16 × domain + port: queue and count (R296) -/
  pins : Tab (Nat × Nat)
  hBufs : List HostBuf
  nextId : Nat
deriving DecidableEq, Repr

/-- PORT_VLAN at reset: PVID 1, ACCEPT 0, default class 0 (R297). -/
def PortVlan.reset : PortVlan := { pvid := 1, accept := 0, cls := 0 }

/-- The packet engine after reset. -/
def Pke.reset : Pke :=
  { waiting := [], released := [], turn := 0, jobs := [], l2 := [], vlans := [], portVlan := [], bssVlan := [],
    staVlan := [], ifaces := [], nexthops := [], routes4 := [], routes6 := [], flows := [], flowCache := [], acl := [],
    locals := [], dscpMap := [], pcpMap := [], holds := [], nextToken := 0, pins := [], hBufs := [], nextId := 1 }

end Sys2Proof.Machine
end

