-- ==== Sys2Proof/Machine/StLink.lean ====
section
/-! DEFINITION. The state of the Ethernet ports, of Inkwell and the DDR5 controller, and of the time unit
(spec/13_ethernet.md, spec/14_memory.md, spec/15_time.md). Plain data. -/

namespace Sys2Proof.Machine

/-- A frame being sent on a port: its queue entry, its class, whether it is express, when this piece of it began, the data
bytes that were left of it then, and when the wire is free after it (spec/13 R325, R328). -/
structure EthTx where
  entry : Entry
  cls : Nat
  express : Bool
  began : Nat
  left : Nat
  stop : Nat
deriving DecidableEq, Repr

/-- A frame that a port generates itself: a PAUSE and its quanta (R326); a PFC, the classes it names and their quanta; a Verify or
a Respond mPacket (R328); a Stride frame, its type, transaction and words (R330). -/
inductive EthCtl where
  | pause (quanta : Nat)
  | pfc (classes : Nat) (quanta : Nat)
  | verify
  | respond
  | stride (typ : Nat) (xid : Nat) (args : List Nat)
deriving DecidableEq, Repr

/-- The phases of a Stride change (R332): REQUEST sent and waiting for the answer; the ACK with its lead, in µs, is on its way;
agreed, with switch instant S; quiet before S; switched and waiting for block lock. -/
inductive StridePhase where
  | asked (due : Nat)
  | acking (lead : Nat)
  | agreed (at_ : Nat)
  | quiet (at_ : Nat)
  | relock (due : Nat)
deriving DecidableEq, Repr

/-- A Stride change in progress. -/
structure Stride where
  initiator : Bool
  target : Nat
  fec : Nat
  xid : Nat
  phase : StridePhase
deriving DecidableEq, Repr

/-- One Ethernet port (spec/13). -/
structure EthPort where
  link : Bool
  rate : Nat
  localFault : Bool
  remoteFault : Bool
  fecLock : Bool
  lpiRx : Bool
  lpiTx : Bool
  /-- LPI: end of the wake when the port is leaving LPI (R329) -/
  waking : Option Nat
  /-- pause timers of the paused classes: class and end; and the tick from which the class is paused (R324) -/
  paused : Tab Nat
  pausedAt : Tab Nat
  /-- generated frames that wait for the wire, the oldest first (R326) -/
  ctl : List EthCtl
  /-- classes held off at the partner, with the time of the next refresh (R326) -/
  xoff : Tab Nat
  heldReset : Bool
  /-- cells of the Ethernet headroom share per class of frames received here (R336) -/
  occ : Tab Nat
  tx : Option EthTx
  /-- a suspended preemptable frame (R325, R328) -/
  suspended : Option EthTx
  /-- PREEMPT_STAT.VERIFY, attempts made, time of the next (R328) -/
  verify : Nat
  attempts : Nat
  verifyDue : Nat
  /-- the partner has verified: its preempted frames are accepted -/
  partnerOk : Bool
  /-- Stride: agreed version, result of the last change, the change running, next transaction ID (R331, R332) -/
  partner : Option Nat
  result : Nat
  stride : Option Stride
  nextXid : Nat
  /-- time of the next OFFER, while none has come from the partner (R331) -/
  offer : Option Nat
  /-- the class the round of the port scheduler is at (R290) -/
  turn : Nat
  /-- since when nothing has been sent (R329) -/
  idleAt : Nat
deriving DecidableEq, Repr

/-- A port after reset: no link, nothing paused. -/
def EthPort.reset : EthPort :=
  { link := false, rate := 0, localFault := false, remoteFault := false, fecLock := false, lpiRx := false,
    lpiTx := false, waking := none, paused := [], pausedAt := [], ctl := [], xoff := [], heldReset := false, occ := [], tx := none,
    suspended := none, verify := 0, attempts := 0, verifyDue := 0, partnerOk := false, partner := none, result := 0,
    stride := none, nextXid := 1, offer := none, turn := 0, idleAt := 0 }

/-- States of the DDR5 controller as DDR_STAT.STATE numbers them (spec/14, MEM.DDR_STAT). -/
inductive DdrState where
  | off | training | serving | selfRefresh | frozen | failed
deriving DecidableEq, Repr

/-- What the FRZ registers hold (R349). -/
structure FrzInfo where
  cause : Nat
  cmd : Nat
  port : Nat
  addr : Nat
  time : Nat
  synd : List Word
deriving DecidableEq, Repr

/-- Inkwell and the DDR5 controller (spec/14). -/
structure Mem where
  /-- cells in use, and the highest since the last clear, per share: 0 ETH, 1 TXA, 2 TXB, 3 TXC, 4 RX, 5 HOST -/
  inkUse : Tab Nat
  inkPeak : Tab Nat
  /-- bytes of the Inkwell window (spec/10 R266) -/
  ink : Tab Byte
  ddr : DdrState
  /-- the early region has been written (R344) -/
  initEarly : Bool
  /-- frontier of the initialization, in MiB -/
  frontier : Nat
  /-- the controller has served since the last device reset (R499) -/
  served : Bool
  /-- the initialization writes the poison marker (R499) -/
  poisonInit : Bool
  trainFails : Nat
  /-- EN was cleared and outstanding requests are completing (R499) -/
  stopping : Bool
  /-- the boot training is done and the early region is being written (R344); the time of the last ZQ calibration (R343) -/
  trained : Bool
  zqAt : Nat
  /-- lines (byte address / 64) marked poisoned -/
  poison : Tab Bool
  /-- DRAM contents by byte address: how a byte differs from what its address reads as with nothing written -/
  dram : Tab Byte
  /-- regions that a self-test left undefined, the latest first: base, length in bytes, which free values they read as (spec/19 R458) -/
  undef : List (Nat × Nat × Nat)
  frz : FrzInfo
  frozenAt : Nat
  /-- a command-path parity error occurred during this freeze (R349) -/
  frzParity : Bool
  /-- a THAW lies between its steps 1 and 4 (R350) -/
  thawing : Bool
  /-- a data-plane reset is in progress (R20) -/
  dpReset : Bool
  /-- per rank: above 85 °C, refreshes postponed (R345) -/
  hot : Tab Bool
  postponed : Tab Nat
  /-- oscillator drift since the last centering, ps (R343) -/
  drift : Nat
  /-- next line the patrol scrub reads -/
  scrubLine : Nat
deriving DecidableEq, Repr

/-- Inkwell and the controller after reset: off, nothing held. -/
def Mem.reset : Mem :=
  { inkUse := [], inkPeak := [], ink := [], ddr := .off, initEarly := false, frontier := 0, served := false,
    poisonInit := false, trainFails := 0, stopping := false, trained := false, zqAt := 0, poison := [], dram := [], undef := [],
    frz := { cause := 0, cmd := 0, port := 0, addr := 0, time := 0, synd := [0, 0, 0, 0] }, frozenAt := 0,
    frzParity := false, thawing := false, dpReset := false, hot := [], postponed := [], drift := 0, scrubLine := 0 }

/-- Servo states (spec/15 R361). -/
inductive Servo where
  | free | acquire | locked | holdover
deriving DecidableEq, Repr

/-- What the servo keeps of one source (R357, R358): TB of its last sample, that sample's nominal interval in TB ticks,
TB of its last accepted sample. -/
structure Source where
  last : Nat
  interval : Nat
  accepted : Option Nat
deriving DecidableEq, Repr

/-- A record of the conversion history: TB, PTP time in 2⁻³² ns, FREQ (R356). -/
structure TimePoint where
  tb : Nat
  ptp : Nat
  freq : Int
deriving DecidableEq, Repr

/-- A frame of TS_SEND waiting for its launch (R364). -/
structure TsLaunch where
  port : Nat
  oneStep : Bool
  len : Nat
  hOfs : Nat
  launch : Option Nat
  tolUs : Nat
  bytes : List Word
deriving DecidableEq, Repr

/-- The time unit (spec/15). -/
structure Tmu where
  /-- the timebase, 64 bits (R353) -/
  tb : Nat
  /-- PTP time in units of 2⁻³² ns since 0 (R354) -/
  ptp : Nat
  freq : Int
  /-- newest first, at most 32 -/
  history : List TimePoint
  servo : Servo
  hops : Nat
  ofsLast : Int
  /-- the integral I in 2⁻³² ns (R359) -/
  integ : Int
  /-- Δ of the last accepted sample, in TB ticks -/
  delta : Nat
  lockRun : Nat
  rejectRun : Nat
  holdSince : Nat
  /-- sources by code 1 to 4 -/
  sources : Tab Source
  /-- TSF_OFS by 16 × radio + BSS, modulo 2⁶⁴ (R372) -/
  tsfOfs : Tab Nat
  /-- TB of the last TIME_SET, for the same-tick rule of R355 -/
  setTick : Option Nat
  ppsEdge : Option Nat
  ppsHigh : Bool
  /-- F0 in 0.01 ppm, T_e in °C (R374) -/
  f0 : Int
  te : Int
  /-- PTP instance: 0 listening, 1 master, 2 slave; steps removed of its master -/
  ptpRole : Nat
  ptpSteps : Nat
  /-- offsets of the FTM burst in progress -/
  ftm : Option (List Int)
  /-- time of the last FTM burst, of the last Sync sent and its sequence number, of the fall of PPS_OUT (R362, R366, R367) -/
  ftmAt : Nat
  syncAt : Nat
  syncSeq : Nat
  ppsFall : Nat
  launches : List TsLaunch
  /-- record of DEEP or SLEEP entry: TB, PTP -/
  asleep : Option (Nat × Nat)
  /-- the temperature last sampled in DEEP by the always-on domain, °C (R374) -/
  aonTemp : Int
deriving DecidableEq, Repr

/-- The time unit after reset: TB and the PTP clock 0, FREE. -/
def Tmu.reset : Tmu :=
  { tb := 0, ptp := 0, freq := 0, history := [⟨0, 0, 0⟩], servo := .free, hops := 0xFF, ofsLast := 0, integ := 0, delta := 0,
    lockRun := 0, rejectRun := 0, holdSince := 0, sources := [], tsfOfs := [], setTick := none, ppsEdge := none,
    ppsHigh := false, f0 := 0, te := 0, ptpRole := 0, ptpSteps := 0, ftm := none, ftmAt := 0, syncAt := 0, syncSeq := 0, ppsFall := 0, launches := [], asleep := none,
    aonTemp := 25 }

end Sys2Proof.Machine
end

