-- ==== Sys2Proof/Machine/StMgmt.lean ====
section
/-! DEFINITION. The state of the mesh, of the management block (flash, fuses, Blotter, sensors, updates), of the power
management unit and of self-test (spec/16_mesh.md to spec/19_self_test.md). Plain data. Times are TB counts (4 ns). -/

namespace Sys2Proof.Machine

/-- NODE_STAT.STATE (spec/16, MSH.NODE_STAT). -/
inductive NodeState where
  | off | candidate | scan | joining | joined | root | search
deriving DecidableEq, Repr

/-- A child of the node (R377, R385, R396, R399). -/
structure Child where
  mac : Nat
  addr : Nat
  version : Nat
  /-- station index of the peer -/
  sta : Nat
  /-- listen interval of partner sleep; 0 awake -/
  listen : Nat
  heard : Nat
deriving DecidableEq, Repr

/-- A mesh beacon: the fields of R380, the sender's MAC and what the receiver measured. -/
structure MeshBeacon where
  meshId : Nat
  minVer : Nat
  maxVer : Nat
  state : Nat
  addr : Nat
  depth : Nat
  prio : Nat
  children : Nat
  admitting : Bool
  locked : Bool
  hops : Nat
  rootMac : Nat
  intervalTu : Nat
  group : Nat
  heatMin : Nat
  heatMax : Nat
  mac : Nat
  rssi : Int
deriving DecidableEq, Repr

/-- A JOIN_REQ a node received (R385): the sender's MAC, nonce, version range and held address. -/
structure JoinReq where
  mac : Nat
  nonce : Nat
  minVer : Nat
  maxVer : Nat
  held : Nat
deriving DecidableEq, Repr

/-- A request admitted by this node as a parent, waiting for its GRANT (R385, R387). -/
structure Admitted where
  req : JoinReq
  version : Nat
  at_ : Nat
deriving DecidableEq, Repr

/-- An ADDR_REQ or LEASE_RENEW waiting at the root (R386): MAC, the address held or claimed, depth of the requester. -/
structure AddrReq where
  mac : Nat
  held : Nat
  depth : Nat
deriving DecidableEq, Repr

/-- A lease of the root's table (R379). -/
structure Lease where
  mac : Nat
  until_ : Nat
deriving DecidableEq, Repr

/-- An entry of the seen cache (R391, R392). -/
structure Seen where
  origin : Nat
  seq : Nat
  copies : Nat
  at_ : Nat
deriving DecidableEq, Repr

/-- One entry of a GRANT (R386). -/
structure GrantEnt where
  mac : Nat
  addr : Nat
  leaseS : Nat
  changed : Bool
deriving DecidableEq, Repr

/-- A dark period (R400): start and end in PTP time (2⁻³² ns), and the targets of the radios saved at its start. -/
structure Dark where
  start : Nat
  stop : Nat
  started : Bool
  targets : List Word
  /-- the DEEP entry was refused and is retried (R401) -/
  retryAt : Option Nat
deriving DecidableEq, Repr

/-- Device power states, with the device held in reset, and released from reset with the boot ROM running (R443, R436,
R446). -/
inductive PwrState where
  | held | booting | run | idle | sleep | deep | off
deriving DecidableEq, Repr

/-- The mesh block (spec/16). -/
structure Msh where
  state : NodeState
  addr : Nat
  depth : Nat
  /-- parent: address, MAC, agreed version, RSSI of its last beacon -/
  parent : Option Nat
  parentMac : Nat
  rootMac : Nat
  parentVer : Nat
  parentRssi : Int
  parentInterval : Nat
  parentLocked : Bool
  parentHops : Nat
  children : List Child
  /-- beacons heard in the listening interval in progress, newest first -/
  heard : List MeshBeacon
  /-- entry of the channel list the node is on -/
  scanIdx : Nat
  listenUntil : Option Nat
  /-- the join in progress: chosen parent, its MAC, agreed version, own nonce, time of the last JOIN_REQ -/
  target : Option MeshBeacon
  nonce : Nat
  reqAt : Nat
  /-- JOIN_REQ goes out right after the chosen parent's next beacon (R385) -/
  reqDue : Bool
  /-- the join is a re-attachment (R399) -/
  reattach : Bool
  admitted : List Admitted
  /-- number of the own beacon interval in which requests were last admitted, and how many were (R385) -/
  admitSlot : Nat
  admittedNow : Nat
  /-- number of the own beacon interval in which the last GRANT was sent (R386) -/
  grantSlot : Option Nat
  /-- TB of the last LEASE_RENEW and of the last GROUP_REPORT on the timer (R379, R402) -/
  renewAt : Nat
  reportAt : Nat
  leases : Tab Lease
  requests : List AddrReq
  electedAt : Nat
  /-- addresses claimed since the election (R379) -/
  claimed : List Nat
  ownLease : Option Nat
  seq : Nat
  /-- SEQ has had its start value since the reset (R388) -/
  seeded : Bool
  seen : List Seen
  /-- floods scheduled for forwarding: due time and message, in due order -/
  forwards : List (Nat × MeshMsg)
  /-- Up messages held in SEARCH or SCAN, oldest first, at most 64 -/
  upHeld : List MeshMsg
  inbox : List MeshMsg
  key : List Word
  /-- partner sleep: L, g in µs, consecutive misses, next window's TBTT, a window is open -/
  listen : Nat
  guardUs : Nat
  misses : Nat
  window : Option Nat
  windowOpen : Bool
  /-- the parent's beacon came in the open window -/
  windowGot : Bool
  /-- the parent has more frames for the woken child (R396) -/
  pull : Bool
  /-- the device enters this state once the radios that must sleep are in Sleep (R397, R401) -/
  nap : Option PwrState
  /-- consecutive missed parent beacons while awake (R395) -/
  bcnLoss : Nat
  searchUntil : Option Nat
  /-- since when a root has had no uplink link (R382) -/
  uplinkLost : Option Nat
  dark : Option Dark
  /-- chunks of a FLOOD_SEND: type, TTL, total length, chunks (FLOOD_SEND) -/
  floodHdr : Option (Nat × Nat × Nat)
  floodChunks : Tab (List Byte)
  /-- last accepted GROUP_SET SEQ by group (R402) -/
  groups : Tab Nat
  ftmFast : Bool
deriving DecidableEq, Repr

/-- The mesh block after reset (MSH register resets; R388). -/
def Msh.reset : Msh :=
  { state := .off, addr := 0x3FF, depth := 0xF, parent := none, parentMac := 0, rootMac := 0, parentVer := 0, parentRssi := 0,
    parentInterval := 100, parentLocked := false, parentHops := 0xFF, children := [], heard := [], scanIdx := 0, listenUntil := none, target := none,
    nonce := 0, reqAt := 0, reqDue := false, reattach := false, admitted := [], admitSlot := 0, admittedNow := 0, grantSlot := none, renewAt := 0, reportAt := 0, leases := [], requests := [],
    electedAt := 0, claimed := [], ownLease := none, seq := 0, seeded := false, seen := [], forwards := [], upHeld := [], inbox := [],
    key := [], listen := 0, guardUs := 2000, misses := 0, window := none, windowOpen := false, windowGot := false, pull := false, nap := none, bcnLoss := 0,
    searchUntil := none, uplinkLost := none, dark := none, floodHdr := none, floodChunks := [], groups := [],
    ftmFast := false }

/-- Life-cycle states (R430). -/
inductive LifeCycle where
  | raw | test | provision | field | ret | end_
deriving DecidableEq, Repr

/-- States of an image slot (R420). -/
inductive SlotState where
  | empty | valid | trial | good | bad
deriving DecidableEq, Repr

/-- An image slot: its descriptor and image (R420). -/
structure Slot where
  state : SlotState
  gen : Nat
  len : Nat
  image : List Byte
deriving DecidableEq, Repr

/-- A Blotter record (R413). -/
structure BltRec where
  time : Nat
  seq : Nat
  page : Nat
  cls : Nat
  code : Nat
  args : List Word
deriving DecidableEq, Repr

/-- The states of the update machine, as UPD_STAT.STATE (MGT registers). -/
inductive UpdState where
  | idle | erasing | receiving | ready | failed | trial
deriving DecidableEq, Repr

/-- One-time-programmable fuses (R2, R84, R422, R425, R426, R430, R432). -/
structure Otp where
  variant : Word
  uid : List Word
  /-- regulatory page, words 0 to 63 -/
  reg : Tab Word
  /-- key hashes by index; a listed hash is programmed -/
  keys : Tab Nat
  revoked : Tab Bool
  arb : Nat
  lc : LifeCycle
deriving DecidableEq, Repr

/-- Boot flash (R420). -/
structure Flash where
  slotA : Slot
  slotB : Slot
  /-- committed configuration journal: entries, each a list of writes, oldest first (R427) -/
  journal : List (List (Nat × Word))
  /-- committed groups of Blotter records, oldest first, and the highest reservation SEQ (R416, R419) -/
  blotter : List (List BltRec)
  reservation : Nat
deriving DecidableEq, Repr

/-- How the boot flash is read: x1 at 25 MHz, x4 SDR at up to 104 MHz, x8 DTR at up to 166 MHz (spec/21 R487). -/
inductive FlashMode where
  | x1 | x4sdr | x8dtr
deriving DecidableEq, Repr

/-- Management (spec/17). -/
structure Mgt where
  otp : Otp
  flash : Flash
  /-- MP restart: READY is clear until it is done (R409) -/
  restarting : Bool
  warm : Bool
  bootCause : Nat
  bootDetail : Nat
  unsigned : Bool
  /-- running slot: false A, true B -/
  slot : Bool
  /-- BOOT_STAT.STAGE -/
  stage : Nat
  wdogAt : Nat
  lastWdog : Option Nat
  /-- sensors: TS0 to TS11 in 0.125 °C, VM0 to VM5 in mV, IIN in mA -/
  temps : List Int
  volts : List Nat
  iin : Nat
  /-- the ring, oldest first; those with a SEQ above commitSeq are not committed; next SEQ; EPOCH (R414, R418) -/
  ring : List BltRec
  nextSeq : Nat
  commitSeq : Nat
  epoch : Nat
  /-- first SEQ and count of records dropped and not yet reported (R418) -/
  dropped : Option (Nat × Nat)
  openSince : Nat
  /-- last SEQ of the group being written to flash, 0 none, and whether another commit is due at once (R416) -/
  committing : Nat
  wantCommit : Bool
  /-- the one commit that R429 makes under VIN_WARN is still owed -/
  failCommit : Bool
  upd : UpdState
  updLen : Nat
  updGot : Nat
  /-- the image bytes received -/
  updBytes : List Byte
  trialDue : Option Nat
  /-- a device reset is due: time and cause (R409, R424, R430) -/
  resetDue : Option (Nat × Nat)
  staged : List (Nat × Word)
  nonce : Option (List Word)
  /-- a flash operation is in progress, and what a BLT_COMMIT waits for -/
  flashBusy : Bool
  flashFail : Bool
  /-- how the flash is read: x1 from reset, the fastest mode of its SFDP table from the boot on (spec/21 R487) -/
  flashMode : FlashMode
  flashTries : Nat
  /-- the BLT_COMMIT in execution waits for the commit record that covers this SEQ (R416) -/
  bltWait : Option Nat
  vinWarn : Bool
  timeSynced : Bool
  /-- MGT SRAM, 2 MiB, by offset (R266, R406) -/
  sram : Tab Byte
deriving DecidableEq, Repr

/-- An empty slot. -/
def Slot.empty : Slot := { state := .empty, gen := 0, len := 0, image := [] }

/-- Fuses of a blank SPW93-H10-C. -/
def Otp.blank : Otp :=
  { variant := 0x00A48843, uid := [0, 0, 0, 0], reg := [], keys := [], revoked := [], arb := 0, lc := .raw }

/-- Management held in reset. -/
def Mgt.reset : Mgt :=
  { otp := Otp.blank,
    flash := { slotA := Slot.empty, slotB := Slot.empty, journal := [], blotter := [], reservation := 0 },
    restarting := false, warm := false, bootCause := 0, bootDetail := 0, unsigned := false, slot := false, stage := 0,
    wdogAt := 0, lastWdog := none, temps := List.replicate 12 200, volts := [12000, 750, 850, 1800, 1100, 1200],
    iin := 0, ring := [], nextSeq := 1, commitSeq := 0, epoch := 0, dropped := none, openSince := 0, committing := 0, wantCommit := false, failCommit := false,
    upd := .idle, updLen := 0, updGot := 0, updBytes := [], trialDue := none, resetDue := none, staged := [],
    nonce := none, flashBusy := false, flashFail := false, flashMode := .x1, flashTries := 0, bltWait := none, vinWarn := false,
    timeSynced := false, sram := [] }

/-- The power management unit (spec/18). -/
structure Pmu where
  state : PwrState
  /-- an entry in progress: the state being entered; a wake source that arrived during it -/
  entering : Option PwrState
  wakePending : Option Nat
  /-- an exit in progress: the wake source's code -/
  exiting : Option Nat
  lastState : Nat
  wakeCause : Nat
  entryPage : Nat
  entryReason : Nat
  resumeValid : Bool
  /-- the resume image's firmware part stands in DRAM (R447) -/
  resumeBody : Bool
  /-- AON current, µA -/
  aonUa : Nat
  /-- what the next boot reports: cause and detail, and its second record's code and arguments -/
  nextCause : Nat
  nextDetail : Nat
  second : Option (Nat × List Word)
  /-- power is removed and the device waits to boot -/
  tripped : Bool
deriving DecidableEq, Repr

/-- The power management unit before power-on. -/
def Pmu.reset : Pmu :=
  { state := .held, entering := none, wakePending := none, exiting := none, lastState := 0, wakeCause := 0,
    entryPage := 0, entryReason := 0, resumeValid := false, resumeBody := false, aonUa := 0, nextCause := 0, nextDetail := 0, second := none,
    tripped := false }

/-- The result of the latest test of a unit (R464). -/
structure TestRes where
  result : Nat
  alias_ : Bool
  reason : Nat
  coverage : Nat
  executed : Nat
  planned : Nat
  sig : Nat
  expected : Nat
  durUs : Nat
  mismatches : Nat
  firstFail : Nat
  seq : Nat
deriving DecidableEq, Repr

/-- BST.STAT.PHASE. -/
inductive BstPhase where
  | idle | quiescing | running | reinit
deriving DecidableEq, Repr

/-- The self-test engine (spec/19). -/
structure Bst where
  phase : BstPhase
  unit : Nat
  start : Nat
  /-- start of the running phase, and the bound of the quiesce -/
  runStart : Nat
  quiesceUs : Nat
  region : Nat
  mib : Nat
  results : Tab TestRes
  /-- units that failed and have not passed since (R462) -/
  failed : List Nat
deriving DecidableEq, Repr

/-- Self-test idle. -/
def Bst.reset : Bst :=
  { phase := .idle, unit := 0, start := 0, runStart := 0, quiesceUs := 0, region := 0, mib := 0, results := [],
    failed := [] }

/-- The instruction in force at the IEEE 1149.1 port (spec/21 R489). -/
inductive PortInstr where
  | bypass | idcode | sample | extest | scan | debug
deriving DecidableEq, Repr

end Sys2Proof.Machine
end

