-- ==== Sys2Proof/Machine/StRadio.lean ====
section
/-! DEFINITION. The state of the radio front-ends, the regulatory lock and the baseband PHYs (spec/03_radio_front_end.md,
spec/04_phy_receive.md, spec/05_phy_transmit.md), with the transmit vector and the receive report they exchange with the
MAC. Plain data. Times named due, until, start and so on are TB counts (4 ns) unless a name ends in Us, Ms or S. -/

namespace Sys2Proof.Machine

/-- The states of a radio (spec/03 R67). -/
inductive RState where
  | sleep | standby | synthOn | receive | transmit
deriving DecidableEq, Repr

/-- RFE_x.STATE.CAL_PHASE (spec/03, RFE_x.STATE). -/
inductive CalPhase where
  | none | coarse | fine | settle | image | periodic
deriving DecidableEq, Repr

/-- What a calibration in progress is for: the first on a channel, a channel change, a recalibration on the same channel
(R71), the periodic image and IQ calibration (R77), a relock after loss of lock, or the full calibration where that failed
(R75). -/
inductive CalKind where
  | first | chanChange | recal | periodic | relock | relockFull
deriving DecidableEq, Repr

/-- One user of a transmit vector (spec/05 R123, R124). -/
structure TxUser where
  sta : Nat
  /-- tones of the RU or MRU -/
  tones : Nat
  /-- the 20 MHz subchannels the RU touches, bit 0 lowest -/
  subch : Nat
  /-- index of the RU; users that share one are an MU-MIMO group -/
  ru : Nat
  mcs : Nat
  nss : Nat
  steered : Bool
  /-- power offset o_i, 0.25 dB -/
  off : Int
deriving DecidableEq, Repr

/-- What a PPDU is for. -/
inductive TxKind where
  | data | trigger | beacon | response | ctsSelf | rts | cfEnd | heat | sounding | mgmt | bar | mesh
deriving DecidableEq, Repr

/-- What a PPDU's frame carries besides queued MPDUs: a control frame's receiver address (spec/06 R167), a beacon's body with the
key slot, PN and MIC that protect it (spec/06 R153, R155), group frames with More Data (R158), the parts of a sounding sequence
(spec/05 R127): each listed station's Nc with the grouping and codebook asked for, the NDP's training fields, a trigger's
stations. -/
inductive TxFrame where
  | plain
  | control (ra : Nat)
  | beacon (body : List Byte) (bip : Option (Nat × Nat × Nat))
  | group (more : Bool)
  | ndpa (stas : List (Nat × Nat)) (ng : Nat) (high : Bool)
  | ndp (ltf : Nat)
  | bfrp (stas : List Nat)
deriving DecidableEq, Repr

/-- A transmit vector (spec/05 R120 to R123; spec/06 R162 for the start tolerance). Formats are numbered as FORMAT of
R117, with 9 HE MU, 10 VHT NDP, 11 HE NDP, 12 EHT NDP. -/
structure TxVec where
  kind : TxKind
  fmt : Nat
  bw : Nat
  /-- punctured subchannels, bit 0 lowest -/
  punct : Nat
  gi : Nat
  /-- an OFDMA PPDU (more than one RU) -/
  ofdma : Bool
  /-- P_REF, chip port, 0.25 dB -/
  pref : Int
  users : List TxUser
  /-- duration on air in µs, from the first sample to the last -/
  durUs : Nat
  /-- air time of the exchange that its stations are charged for, 1/16 µs: the data field of an MU PPDU or of the PPDU a
  trigger solicits, the whole of another (spec/08 R195) -/
  charge16 : Nat
  /-- start tolerance in µs of a PPDU without a frame that names one (spec/06 R162) -/
  tolUs : Nat
  /-- Duration field in µs: the own NAV it sets -/
  navUs : Nat
  /-- the PPDU solicits a response -/
  solicits : Bool
  /-- stations the exchange serves, with the tones each is charged for -/
  targets : List (Nat × Nat)
  /-- access category, 4 for a beacon; BSS of a beacon or group frame -/
  ac : Nat
  bss : Nat
  frame : TxFrame := .plain
  /-- air time in µs of what it solicits, the MAC's own answer to that included; 0 for a response within the wait of RESP_CFG -/
  respUs : Nat := 0
deriving DecidableEq, Repr

/-- The transmit report of the last PPDU (spec/05 R130). -/
structure TxRep where
  endCode : Nat
  clamped : Bool
  unsteered : Bool
  clampQ : Nat
  muDrop : Nat
  nchain : Nat
  tod : Nat
  onUs : Nat
  applied : List Int
  detect : List Int
deriving DecidableEq, Repr

/-- The receive report of one PPDU (spec/04 R117). -/
structure RxRep where
  endCode : Nat
  fmt : Nat
  bw : Nat
  nss : Nat
  mcs : Nat
  gi : Nat
  ldpc : Bool
  dup : Bool
  falseStart : Bool
  toa : Nat
  toaFrac : Nat
  cfo : Int
  rssiCh : List Int
  rssi : Int
  bssColor : Nat
  bypass : Bool
  lna : Nat
  vga : Nat
  punct : Nat
  user : Nat
  snr : List Nat
deriving DecidableEq, Repr

/-- A transmit command that waits: for a calibration phase (R72), for the precoders (R124) or for the duty window (R90). -/
structure TxWait where
  vec : TxVec
  /-- the MPDUs it carries, by frame identity -/
  fids : List Nat
  /-- the TB time by which the start must come: command time plus the start tolerance (R73) -/
  deadline : Nat
  forDuty : Bool
  forPrecoder : Bool
deriving DecidableEq, Repr

/-- The values of the FEM registers in force, which a write changes at the next PPDU start (R93). -/
structure FemNow where
  ramp : Word
  map : Word
  time : Word
  bias : Word
deriving DecidableEq, Repr

/-- One attempt of an image calibration (R76): gain and phase correction and the rejection measured with them, bin by bin of
each chain. -/
structure ImgSet where
  gain : List Int
  phase : List Int
  irr : List Nat
deriving DecidableEq, Repr

/-- The transmit corrections of the periodic calibration (R76): IQ gain and phase, LO leakage, chain by chain. -/
structure TxCorr where
  gain : List Int
  phase : List Int
  leakI : List Int
  leakQ : List Int
deriving DecidableEq, Repr

/-- What a calibration phase measures: the two attempts of the image calibration and the transmit corrections (R76). -/
structure CalMeas where
  first : ImgSet
  second : ImgSet
  tx : TxCorr
deriving DecidableEq, Repr

/-- One radio front-end RFE_x (spec/03). -/
structure Rfe where
  cur : RState
  /-- elementary transition in progress: the state it leads to and its end (R68) -/
  moving : Option (RState × Nat)
  locked : Bool
  calPhase : CalPhase
  calKind : CalKind
  /-- end of the calibration phase in progress -/
  phaseEnd : Nat
  /-- channel word the synthesizer is tuned to, its width and centre (R74) -/
  tuned : Word
  /-- LO side in use (R66) -/
  side : Bool
  /-- local oscillator of the last lock, MHz (R65) -/
  lo : Int
  /-- a CHAN write in Synth-on or above asks for a channel change (R92) -/
  chanReq : Bool
  /-- channels whose band result is kept: the current one and the one before it (R71) -/
  bands : List Word
  /-- radio on its way back to Transmit with this command when the wait ends -/
  wait : Option TxWait
  /-- worst-bin rejection in dB and time of the last image calibration (R76) -/
  irr : Nat
  imgTime : Option Nat
  /-- coefficients in use, and the transmit corrections (R76) -/
  image : ImgSet
  txCorr : TxCorr
  /-- time of the last periodic calibration (R77) -/
  perTime : Nat
  /-- temperatures at the last full synthesizer and periodic calibration, signed °C -/
  tempSyn : Int
  tempImg : Int
  /-- transceiver temperature as last measured -/
  tempNow : Int
  /-- a synthesizer recalibration, a periodic calibration are due; since when (R71, R77, R79) -/
  recalDue : Bool
  periodicDue : Bool
  dueSince : Option Nat
  overdue : Bool
  /-- end of the reservation of a quiet window in progress (R78); its calibrations start at the next Synth-on -/
  quiet : Option Nat
  calNext : Bool
  femNow : FemNow
deriving DecidableEq, Repr

/-- The regulatory lock (spec/03 R84 to R91). -/
structure Rgl where
  /-- shadow latches of the OTP regulatory page, words 0 to 63 -/
  shadow : Tab Word
  /-- per radio: on-time, in TB ticks, of each 1 ms bin of TB (R90) -/
  onTime : Tri (Tab Nat)
  /-- per radio: det_corr of each chain, 0.25 dB (R89) -/
  detCorr : Tri (Tab Nat)
  /-- per radio: chains refused until the next device reset (R89), bit per chain -/
  detOver : Tri Nat
  /-- per radio: starts are held now (R90) -/
  dutyHold : Tri Bool
  /-- per radio: first hold of the window already reported, until this ms bin -/
  holdSeen : Tri Nat
deriving DecidableEq, Repr

/-- Receiver states (spec/04 R96). -/
inductive RxState where
  | off | listen | settle | preamble | body | hold
deriving DecidableEq, Repr

/-- An L-STF recorded by the guard correlator (R105): start, power in dBm, confirmed. -/
structure GuardRec where
  start : Nat
  power : Int
  confirmed : Bool
deriving DecidableEq, Repr

/-- The reception in progress (R96 to R117), from the energy rise on. -/
structure Reception where
  /-- detected L-STF start; until detection the energy rise -/
  start : Nat
  /-- reference power, dBm (R102) -/
  ref : Int
  bypass : Bool
  lna : Nat
  vga : Nat
  dsss : Bool
  falseStart : Bool
  guardOpen : Bool
  /-- frequency estimate frozen, 0.01 ppm (R104) -/
  cfo : Option Int
  /-- end given by the L-SIG duration -/
  bodyEnd : Nat
  fmt : Nat
  bw : Nat
  nss : Nat
  mcs : Nat
  gi : Nat
  /-- END code a HOLD will report: 2 SIG_FAIL, 3 UNSUPPORTED -/
  holdEnd : Nat
  color : Nat
deriving DecidableEq, Repr

/-- A reception in BODY or HOLD that was cut off, and the END it reports: its report is passed by the RX_PPDU_END or HOLD_END
that follows (R111, R117; notes/assumptions/99.md). -/
structure Cut where
  rcp : Reception
  code : Nat
  at_ : Nat
deriving DecidableEq, Repr

/-- The receive configuration in force, taken at each return to LISTEN (spec/04, PHY registers). -/
structure RxCfg where
  det : Word
  agc : Word
  agcMan : Word
  ovt : Word
  cca : Word
  obss : Word
  dec : Word
  /-- RADAR_CFG, of PHY_B -/
  radar : Word
deriving DecidableEq, Repr

/-- A radar pulse in the FIFO of PHY_B (R114). -/
structure RadarPulse where
  tb : Nat
  subch : Nat
  power : Int
  width : Nat
deriving DecidableEq, Repr

/-- A station's sounding feedback on one radio (R128, R129): its record in DRAM with the report's time, Nc and the V matrix of
each tone group, and whether the on-chip cache holds it. -/
structure Feedback where
  time : Nat
  cached : Bool
  nc : Nat
  v : List (List Word)
deriving DecidableEq, Repr

/-- A sounding sequence in progress (R127): the stations listed, the groups still to be triggered, stations heard. -/
structure Sounding where
  stas : List Nat
  /-- the NDP has been sent -/
  ndp : Bool
  left : List (List Nat)
  heard : List Nat
deriving DecidableEq, Repr

/-- A PPDU on air (R130). -/
structure TxPpdu where
  vec : TxVec
  start : Nat
  stop : Nat
  onUs : Nat
  chains : List Nat
  request : Int
  clampQ : Nat
  /-- RGL's reduction of each chain (R88) -/
  cuts : Tab Nat
  clamped : Bool
  unsteered : Bool
  muDrop : Nat
  /-- the MPDUs it carries, by frame identity -/
  fids : List Nat
  /-- the precoder of each RU with steered users, one matrix a tone group (R124) -/
  prec : List (Nat × List (List Word))
deriving DecidableEq, Repr

/-- One baseband PHY_x (spec/04, spec/05). -/
structure Phy where
  rx : RxState
  rcp : Option Reception
  /-- receptions that were cut off and whose reports are still to be passed (R111) -/
  cuts : List Cut
  /-- END of the last receive report (R117) -/
  lastEnd : Option Nat
  /-- TB time of the energy rise (SETTLE) -/
  riseAt : Nat
  cfg : RxCfg
  /-- ED-busy subchannels -/
  ed : Nat
  /-- secondary subchannels PD-busy until a time (R112) -/
  pdSec : List (Nat × Nat)
  /-- since when each subchannel is clear of ED and PD (spec/06 R137) -/
  clearAt : Tab Nat
  radar : List RadarPulse
  /-- feedback by station -/
  fb : Tab Feedback
  /-- when each subchannel's SNR was measured, by 16 × station + subchannel (R118) -/
  snrAt : Tab Nat
  /-- stations of the on-chip feedback cache, least recently used last, at most 128 -/
  cache : List Nat
  sounding : Option Sounding
  tx : Option TxPpdu
  /-- APPLIED and DETECT of each chain in the last PPDU sent (PHY_x.TX_PWR_LAST) -/
  pwrLast : List Word
  /-- the last transmit report -/
  lastRep : Option TxRep
deriving DecidableEq, Repr

/-- A receive configuration at the reset values of its registers. -/
def RxCfg.reset : RxCfg :=
  { det := 0x009E0906, agc := 0xE2, agcMan := 0x1403, ovt := 0xA01, cca := 0xAEC2, obss := 0xAE00, dec := 8,
    radar := 0xC000 }

/-- A radio front-end as reset leaves it: Sleep, no band result, nothing calibrated (R71, RFE register resets). -/
def Rfe.reset (chan : Word) (side : Bool) : Rfe :=
  { cur := .sleep, moving := none, locked := false, calPhase := .none, calKind := .first, phaseEnd := 0,
    tuned := chan, side := side, lo := 0, chanReq := false, bands := [], wait := none, irr := 0, imgTime := none,
    image := ⟨[], [], []⟩, txCorr := ⟨[], [], [], []⟩, perTime := 0, tempSyn := 0, tempImg := 0,
    tempNow := 0, recalDue := false, periodicDue := false, dueSince := none, overdue := false, quiet := none, calNext := false,
    femNow := { ramp := 8, map := 0x1620, time := 0x0004140C, bias := 0 } }

/-- The regulatory lock with blank shadow latches. -/
def Rgl.reset : Rgl :=
  { shadow := [], onTime := ⟨[], [], []⟩, detCorr := ⟨[], [], []⟩, detOver := ⟨0, 0, 0⟩,
    dutyHold := ⟨false, false, false⟩, holdSeen := ⟨0, 0, 0⟩ }

/-- A PHY as reset leaves it: OFF, nothing received or sent. -/
def Phy.reset : Phy :=
  { rx := .off, rcp := none, cuts := [], lastEnd := none, riseAt := 0, cfg := RxCfg.reset, ed := 0, pdSec := [], clearAt := [],
    radar := [], fb := [], snrAt := [], cache := [],
    sounding := none, tx := none, pwrLast := List.replicate 8 0x80008000, lastRep := none }

end Sys2Proof.Machine
end

