-- ==== Sys2Proof/Machine/StWireless.lean ====
section
/-! DEFINITION. The state of the wireless MACs and of multi-link operation (spec/06_wireless_mac.md,
spec/07_multi_link.md). Plain data. -/

namespace Sys2Proof.Machine

/-- A key slot (spec/06 R150 to R152). Receive PNs are kept for TIDs 0 to 8. -/
structure KeySlot where
  cipher : Nat
  txEn : Bool
  rxEn : Bool
  key : List Word
  txPn : Nat
  rxPn : List Nat
deriving DecidableEq, Repr

/-- A BSS of a radio: words 0 to 6 of BSS_SET (R154). -/
structure Bss where
  enable : Bool
  mesh : Bool
  txBssid : Bool
  nonTx : Bool
  txIndex : Nat
  dtim : Nat
  bssid : Nat
  intervalTu : Nat
  offsetTu : Nat
  basic : Nat
  bcnRate : Nat
  bcnDup : Bool
  gtk : List Nat
  bigtk : List Nat
  color : Nat
deriving DecidableEq, Repr

/-- A beacon template (R155): the one in use, the chunks of the next one, and whether it is complete. -/
structure Template where
  cur : List Byte
  timOff : Nat
  next : Tab (List Byte)
  nextLen : Nat
  nextTim : Nat
  complete : Bool
deriving DecidableEq, Repr

/-- A TWT schedule (R159). -/
structure Twt where
  typ : Nat
  trigger : Bool
  bss : Nat
  sta : Nat
  target : Nat
  intervalUs : Nat
  durUs : Nat
  tids : Nat
  members : List Nat
  /-- end of the service period in progress, and whether it has been shortened (R160) -/
  sp : Option Nat
  cut : Bool
deriving DecidableEq, Repr

/-- A TXOP the radio holds (R133, R136, R137): AC (4 beacon), its end, the bandwidth of its first PPDU. -/
structure Txop where
  ac : Nat
  until_ : Nat
  bw : Nat
  /-- TB of its start -/
  start : Nat
  /-- total conducted power at the antenna port, 0.25 dB, while R138 applies -/
  limit : Option Int
  /-- a TXOP limit of 0: one PPDU and its response, which has been sent -/
  single : Bool
  done : Bool
  /-- protected by an RTS and its CTS -/
  prot : Bool
  /-- a DL MU PPDU whose MU-BAR is still to be sent: its frames and stations (spec/08 R201) -/
  pend : List Nat
  pendFrom : List (Nat × Nat)
deriving DecidableEq, Repr

/-- The wait for an expected response (R144): its end, the responders (empty: a trigger-based PPDU), AC. -/
structure RespWait where
  until_ : Nat
  from_ : List Nat
  trig : Bool
  ac : Nat
  fids : List Nat
  /-- the PPDU that solicits it -/
  vec : TxVec
deriving DecidableEq, Repr

/-- The kinds of hardware response (R140). -/
inductive RespKind where
  | ack | blockAck | cts | multiSta
deriving DecidableEq, Repr

/-- A response due at SIFS (R140, R141). -/
structure RespDue where
  kind : RespKind
  due : Nat
  sta : Option Nat
  tid : Nat
  ssn : Nat
  bitmap : Nat
  /-- the eliciting PPDU's END was NORMAL -/
  ok : Bool
  bw : Nat
  /-- the non-HT reference rate of the eliciting PPDU, as a place of the basic rate set, and the BSS that answers (R142) -/
  ref : Nat
  bss : Nat
  /-- the Duration of the eliciting frame, µs: the response's own NAV follows from it (R135) -/
  nav : Nat := 0
  /-- a Multi-STA BlockAck's stations: station, TID, SSN, bitmap (R140) -/
  per : List (Nat × Nat × Nat × Nat) := []
deriving DecidableEq, Repr

/-- An MPDU as the MAC receives it: what its header, FCS and decryption say (R146 to R149). Kinds: 0 data, 1 management,
2 action, 3 BlockAckReq, 4 RTS, 5 PS-Poll, 6 Ack or CTS, 7 BlockAck, 8 beacon, 9 wildcard probe request, 10 class 3,
11 sounding feedback, 12 CF-End. -/
structure RxMpdu where
  kind : Nat
  ra : Nat
  ta : Nat
  /-- the BSSID it names or its BSS color stands for, 0 for none -/
  bssid : Nat
  len : Nat
  fcs : Bool
  prot : Bool
  keyId : Nat
  /-- the protected body and MIC as they arrived, as one number -/
  mic : Nat
  pn : Nat
  tid : Nat
  sn : Nat
  frag : Nat
  retry : Bool
  /-- ack policy: 0 Normal or implicit BlockAckReq, 1 No Ack, 2 BlockAck -/
  ackPolicy : Nat
  /-- power management bit -/
  pm : Bool
  durUs : Nat
  aggregated : Bool
  /-- SSN and bitmap of a BlockAck or BlockAckReq -/
  ssn : Nat
  bitmap : Nat
  /-- the Ethernet frame its MSDU converts to -/
  hdr : Hdr
  /-- it arrives while its station's controlled port is closed (notes/assumptions/50.md) -/
  closed : Bool
  /-- queue sizes it reports, by TID, and the station's power headroom in dB (spec/08 R192) -/
  bsr : List (Nat × Nat)
  headroom : Option Nat
  /-- a feedback report: Nc, and the SNR per stream and subchannel (spec/05 R128) -/
  fb : Option (Nat × List Nat)
  /-- the report's V matrices, one a tone group -/
  fbV : List (List Word) := []
  /-- an RTS that asks for a dynamic-bandwidth CTS (R142) -/
  dynBw : Bool := false
  /-- its More Data bit -/
  more : Bool := false
deriving DecidableEq, Repr

/-- One MAC (spec/06). -/
structure Mac where
  /-- contention windows after a failure, by index 0 to 4: BE, BK, VI, VO, beacon; one not listed is at CWmin (R145) -/
  cw : Tab Nat
  /-- backoff counters in slots, by the same index; one not listed is 0 (R134) -/
  backoff : Tab Nat
  /-- since when the medium has been idle for the radio (R134) -/
  idleAt : Option Nat
  /-- the next AIFS of every queue is EIFS (R139) -/
  eifs : Bool
  navBasic : Nat
  navIntra : Nat
  /-- transmitters that set the basic and the intra-BSS NAV last -/
  navBy : Nat
  navIntraBy : Nat
  ownNav : Nat
  txop : Option Txop
  wait : Option RespWait
  due : Option RespDue
  bss : Tab Bss
  tmpl : Tab Template
  /-- beacons that wait in the beacon queue: TB of the TBTT and BSS, first to send first (R156) -/
  bcnQueue : List (Nat × Nat)
  /-- of those, the ones whose medium has been busy or NAV set throughout (R157) -/
  bcnBusy : List Nat
  starved : Tab Nat
  escalated : Nat
  dtimCount : Tab Nat
  twt : Tab Twt
  /-- OBSS power limit: level and the end of the OBSS PPDU (R138) -/
  obss : Option (Int × Nat)
  /-- receive buffers posted on the radio's receive ring (R166) -/
  rxBufs : List HostBuf
  /-- end on air of the last PPDU or response of the radio's exchanges, with its signal extension (R133, R141) -/
  airEnd : Nat
  /-- the PPDU being filled is short for want of cells or of a head in Inkwell (R168) -/
  short : Bool
  /-- snapshot of the allocation whose sounding list has been served (spec/08 R196) -/
  sounded : Option Nat
  /-- end of the last TXOP: a frame ready before it counts from there (R177) -/
  txopEnd : Nat
  /-- BSSs whose held group-addressed frames go out now, after a DTIM beacon (R158) -/
  groupOpen : List Nat
deriving DecidableEq, Repr

/-- State of an SN in a scoreboard (spec/07 R175): in flight on a link, awaiting retry, returned unbound to the head of its
queue (R165, R180), acknowledged, given up. -/
inductive SnState where
  | inFlight (link : Nat)
  | retry
  | queued
  | acked
  | givenUp
deriving DecidableEq, Repr

/-- One MPDU of a scoreboard: its queue entry and state. -/
structure BoardEnt where
  sn : Nat
  st : SnState
  entry : Entry
deriving DecidableEq, Repr

/-- An uplink MPDU waiting in the reorder buffer (R182), by SN. -/
structure RxHeld where
  sn : Nat
  pn : Nat
  slot : Option Nat
  link : Nat
  frame : InFrame
deriving DecidableEq, Repr

/-- The shared state of one station-TID (spec/06 R148, spec/07 R174, R175, R182). TID 8 is management. -/
structure StaTid where
  nextSn : Nat
  /-- downlink agreement: WINSIZE, window start -/
  txWin : Option Nat
  txStart : Nat
  board : List BoardEnt
  /-- a BlockAckReq waits to lead the next PPDU, with this SSN -/
  bar : Option Nat
  rxWin : Option Nat
  rxStart : Nat
  held : List RxHeld
  /-- SNs of the window already received -/
  seen : List Nat
  /-- SNs received and released, latest first, for BlockAck bitmaps (R140) -/
  done : List Nat
  dup : Option (Nat × Nat)
  /-- the radio Baton last bound it to (spec/14 R337) -/
  bound : Option Nat
deriving DecidableEq, Repr

/-- A station, station MLD or mesh peer (spec/07 R170). -/
structure Station where
  apMld : Nat
  links : Nat
  mld : Bool
  maxLen : Nat
  addr : Nat
  addrs : Tri Nat
  map : Nat
  powerSave : Bool
deriving DecidableEq, Repr

/-- An AP MLD (R169). -/
structure ApMld where
  links : Nat
  bss : Tri Nat
  linkId : Tri Nat
  addr : Nat
deriving DecidableEq, Repr

/-- Multi-link state, with the tables the three MACs share (spec/06 R151, R148; spec/07). -/
structure Mld where
  keys : Tab KeySlot
  apMlds : Tab ApMld
  stations : Tab Station
  /-- by 16 × station + TID -/
  tids : Tab StaTid
  /-- duplicate entries of transmitters that are not associated: address, SN, fragment; most recent first, at most 64 -/
  others : List (Nat × Nat × Nat)
  /-- quiesce requested by a self-test, and reached (R181), per radio -/
  quiesce : Tri Bool
  quiesced : Tri Bool
  /-- a data-plane reset is in progress (R180) -/
  dpReset : Bool
  accDly : Tri Nat
  bcStr : Bool
  /-- REORDER_NOBUF continues -/
  noBuf : Bool
deriving DecidableEq, Repr

/-- A station-TID before any traffic. -/
def StaTid.reset : StaTid :=
  { nextSn := 0, txWin := none, txStart := 0, board := [], bar := none, rxWin := none, rxStart := 0, held := [],
    seen := [], done := [], dup := none, bound := none }

/-- A MAC after reset. -/
def Mac.reset : Mac :=
  { cw := [], backoff := [], idleAt := none, eifs := false, navBasic := 0, navIntra := 0, navBy := 0, navIntraBy := 0, ownNav := 0, txop := none, wait := none,
    due := none, bss := [], tmpl := [], bcnQueue := [], bcnBusy := [], starved := [], escalated := 0, dtimCount := [],
    twt := [], obss := none, rxBufs := [], airEnd := 0, short := false, sounded := none, txopEnd := 0,
    groupOpen := [] }

/-- Multi-link state after reset. -/
def Mld.reset : Mld :=
  { keys := [], apMlds := [], stations := [], tids := [], others := [], quiesce := ⟨false, false, false⟩,
    quiesced := ⟨false, false, false⟩, dpReset := false, accDly := ⟨0, 0, 0⟩, bcStr := false, noBuf := false }

end Sys2Proof.Machine
end

