-- ==== Sys2Proof/Machine/StOut.lean ====
section
/-! DEFINITION. What the device sends out of itself: the entries of the output log that State keeps, newest first. Plain
data. -/

namespace Sys2Proof.Machine

/-- What a port sends (spec/13). -/
inductive EthOut where
  /-- a whole frame; whether it is express -/
  | frame (e : Entry) (express : Bool)
  /-- one fragment of a preempted frame (R328) -/
  | fragment (e : Entry)
  /-- a frame cut off with an invalid end (R318) -/
  | aborted (e : Entry)
  /-- a generated frame and the source address it carries (R326, R328, R330, R334) -/
  | ctl (src : Nat) (x : EthCtl)
  /-- Low Power Idle starts or ends (R329) -/
  | lpi (on : Bool)
  /-- a PTP message: the clockIdentity of its sender, domain, type, sequence number, and its timestamp (R362, R363) -/
  | ptp (id : Nat) (domain : Nat) (typ : Nat) (seq : Nat) (value : Nat)
  /-- a frame of TS_SEND: its bytes and the originTimestamp written into it, if it is one-step (R364) -/
  | timed (bytes : List Word) (origin : Option Nat)
deriving DecidableEq, Repr

/-- One thing the device puts out: on a host interface, on a port, on the air, on a pin. -/
inductive Out where
  /-- an entry written to a reply ring: ring, position, its words, and the payload written before it at a host address (spec/02
  R44, R46) -/
  | ringWrite (ring pos : Nat) (words : List Word) (host : Nat) (payload : List Word)
  /-- an MSI-X message (R47) -/
  | msix (vec : Nat)
  /-- bytes shifted out on SPI (R48) -/
  | spi (bytes : List Byte)
  /-- an ACP datagram: arrival port, return address, carrier, bytes (R52) -/
  | acp (port peer : Nat) (udp : Bool) (bytes : List Byte)
  /-- the reply to a request of the MP's own -/
  | mp (r : Reply)
  /-- a frame or a record written to a host buffer (spec/06 R166; spec/12 R313) -/
  | hostFrame (buf : Nat) (h : Hdr)
  | hostRecord (buf : Nat) (words : List Word)
  /-- a port sends -/
  | eth (port : Nat) (f : EthOut)
  /-- a PPDU starts: radio, its vector, first-sample TB, the frames it carries -/
  | air (r : Radio) (v : TxVec) (start : Nat) (fids : List Nat)
  /-- a hardware response is sent (spec/06 R140) -/
  | resp (r : Radio) (d : RespDue)
  /-- a mesh message to a neighbour, or to all of them (spec/16 R388) -/
  | mesh (mac : Option Nat) (m : MeshMsg)
  /-- a QoS Null frame with the Power Management bit clear (spec/16 R396) -/
  | qosNull (mac : Nat)
  /-- the FEM lines of a radio from a time on, in ns of TB: CTL3 to CTL0 of each chain, and the bias level (spec/03 R82, R83) -/
  | fem (r : Radio) (ns : Nat) (lines : List Nat) (bias : Nat)
  /-- a PA ramp from a time on, in ns of TB: its length in ns and the amplitudes of its 16 steps, in 10⁻⁶ (spec/03 R81) -/
  | ramp (r : Radio) (ns : Nat) (len : Nat) (steps : List Nat)
  /-- an MPDU of the PPDU that starts: its SN, and the protected bytes it carries (spec/06 R150, R153) -/
  | mpdu (r : Radio) (fid : Nat) (sn : Option Nat) (sealed : Option Nat)
  /-- PPS_OUT (spec/15 R367) -/
  | pps (level : Bool)
  /-- one of the 32 words of the test port's data register (spec/21 R489) -/
  | tdo (w : Word)
deriving DecidableEq, Repr

end Sys2Proof.Machine
end

