-- ==== Sys2Proof/Machine/Dev.lean ====
section
/-! DEFINITION. The whole device but its queue of commands: every register, table, queue, mode and pin the spec gives the
SPW93, as plain data (INVENTORY.md, State). -/

namespace Sys2Proof.Machine

/-- The device. Registers that are only storage stand in `regs`, by their 24-bit address (spec/00 Registers); an address not
listed reads as its reset value. Registers that show a live condition are computed from the blocks' own state when read. -/
structure Dev where
  regs : Tab Word
  /-- the page headers, by page number; a page not listed is as reset leaves it (R58) -/
  pages : Tab Page
  hci : Hci
  rfe : Tri Rfe
  rgl : Rgl
  phy : Tri Phy
  mac : Tri Mac
  mld : Mld
  asc : Asc
  qar : Qar
  /-- the management processor, an Etold core (spec/10) -/
  mp : Core
  tmg : Tmg
  pke : Pke
  eth : Tab EthPort
  mem : Mem
  tmu : Tmu
  msh : Msh
  mgt : Mgt
  pmu : Pmu
  bst : Bst
  port : PortInstr
  /-- what the device has put out, newest first -/
  out : List Out
  /-- the MODEL's own: how many free values have been taken (notes/assumptions/3.md) -/
  free : Nat
deriving DecidableEq, Repr

/-- The device held in reset, before power-on (spec/20 R468): every block as its reset leaves it. -/
def Dev.reset : Dev :=
  { regs := [], pages := [], hci := Hci.reset,
    rfe := ⟨Rfe.reset 0x096C0001 false, Rfe.reset 0x143C0024 false, Rfe.reset 0x17430001 true⟩,
    rgl := Rgl.reset, phy := ⟨Phy.reset, Phy.reset, Phy.reset⟩, mac := ⟨Mac.reset, Mac.reset, Mac.reset⟩,
    mld := Mld.reset, asc := Asc.reset, qar := Qar.reset, mp := Core.reset true, tmg := Tmg.reset, pke := Pke.reset,
    eth := [], mem := Mem.reset, tmu := Tmu.reset, msh := Msh.reset, mgt := Mgt.reset, pmu := Pmu.reset,
    bst := Bst.reset, port := .bypass, out := [], free := 0 }

/-- The device's time: TB (spec/15 R353). -/
abbrev Dev.tb (d : Dev) : Nat := d.tmu.tb

/-- A port's state; a port not listed is as reset leaves it. -/
def Dev.ethPort (d : Dev) (n : Nat) : EthPort := (tabFind d.eth n).getD EthPort.reset

/-! Change one part of the device -/
def Dev.onHci (d : Dev) (f : Hci → Hci) : Dev := { d with hci := f d.hci }
def Dev.onMld (d : Dev) (f : Mld → Mld) : Dev := { d with mld := f d.mld }
def Dev.onAsc (d : Dev) (f : Asc → Asc) : Dev := { d with asc := f d.asc }
def Dev.onQar (d : Dev) (f : Qar → Qar) : Dev := { d with qar := f d.qar }
def Dev.onMp (d : Dev) (f : Core → Core) : Dev := { d with mp := f d.mp }
def Dev.onTmg (d : Dev) (f : Tmg → Tmg) : Dev := { d with tmg := f d.tmg }
def Dev.onPke (d : Dev) (f : Pke → Pke) : Dev := { d with pke := f d.pke }
def Dev.onMem (d : Dev) (f : Mem → Mem) : Dev := { d with mem := f d.mem }
def Dev.onTmu (d : Dev) (f : Tmu → Tmu) : Dev := { d with tmu := f d.tmu }
def Dev.onMsh (d : Dev) (f : Msh → Msh) : Dev := { d with msh := f d.msh }
def Dev.onMgt (d : Dev) (f : Mgt → Mgt) : Dev := { d with mgt := f d.mgt }
def Dev.onPmu (d : Dev) (f : Pmu → Pmu) : Dev := { d with pmu := f d.pmu }
def Dev.onBst (d : Dev) (f : Bst → Bst) : Dev := { d with bst := f d.bst }
def Dev.onRgl (d : Dev) (f : Rgl → Rgl) : Dev := { d with rgl := f d.rgl }
def Dev.onRfe (d : Dev) (r : Radio) (f : Rfe → Rfe) : Dev := { d with rfe := d.rfe.set r (f (d.rfe.get r)) }
def Dev.onPhy (d : Dev) (r : Radio) (f : Phy → Phy) : Dev := { d with phy := d.phy.set r (f (d.phy.get r)) }
def Dev.onMac (d : Dev) (r : Radio) (f : Mac → Mac) : Dev := { d with mac := d.mac.set r (f (d.mac.get r)) }
def Dev.onEth (d : Dev) (n : Nat) (f : EthPort → EthPort) : Dev := { d with eth := tabPut d.eth n (f (d.ethPort n)) }

end Sys2Proof.Machine
end

