-- ==== Sys2Proof/Machine/RegTable.lean ====
section
/-! DEFINITION. The register tables of the spec: for every block its registers with the fields' places, accesses, reset
values and ranges, its counters and its attention causes (the register sections of spec/02 to spec/19). A field whose reset is
fused, or that shows a live condition, stands here with reset 0: what it reads is computed. -/

namespace Sys2Proof.Machine

/-- Access of a field (spec/00, Registers). -/
inductive Acc where
  | rw | ro | rop | rwl | wo | rw1c | rw1s
deriving DecidableEq, Repr

/-- The values a field may take: any, an unsigned range, a range of the field read as signed. -/
inductive Rng where
  | any
  | u (lo hi : Nat)
  | s (lo hi : Int)
deriving DecidableEq, Repr

/-- A field: its highest and lowest bit, access, reset value, range. -/
structure Fld where
  hi : Nat
  lo : Nat
  acc : Acc
  rst : Nat
  rng : Rng
deriving DecidableEq, Repr

/-- A register, or `cnt` of them at a stride: offset in the page, and its fields; all other bits are reserved. -/
structure RegDef where
  off : Nat
  cnt : Nat
  stride : Nat
  flds : List Fld
deriving DecidableEq, Repr

/-- What clears a counter besides a write of 0 and a device reset: SOFT_RESET too, nothing else, or power-on alone (the
device reset does not). -/
inductive CtrClr where
  | soft | keep | por
deriving DecidableEq, Repr

/-- A counter, or `cnt` of them: 64 bits wide or 32, saturating or wrapping (spec/02 R64). -/
structure CtrDef where
  off : Nat
  cnt : Nat
  stride : Nat
  wide : Bool
  sat : Bool
  clr : CtrClr
deriving DecidableEq, Repr

/-- An attention cause of a page: bit, group, default class, class fixed, reports a continuing condition (R33 to R35). -/
structure CauseDef where
  bit : Nat
  group : Nat
  cls : Nat
  fixed : Bool
  cont : Bool
deriving DecidableEq, Repr

/-- The blocks that own register pages (spec/02 R62). -/
inductive Blk where
  | glb | hci | pmu | mgt | tmu | rgl | pci | bst
  | rfe (r : Radio) | phy (r : Radio) | mac (r : Radio)
  | mld | asc | qar | tmg | pke
  | eth (n : Nat)
  | mem | msh
deriving DecidableEq, Repr

/-- One of three values, by radio. -/
def byRadio {α : Type} (r : Radio) (a b c : α) : α :=
  match r with
  | .a => a
  | .b => b
  | .c => c

/-- Registers of GLB (spec/00_scope.md). -/
def glbRegs0 : List RegDef := [
  -- VARIANT: GRADE, PORTS, C_BW, CHAINS_C, CHAINS_B, CHAINS_A, RADIOSET
  ⟨0x040, 1, 4, [⟨27, 24, .rop, 0, .any⟩, ⟨23, 20, .rop, 0, .any⟩, ⟨19, 16, .rop, 0, .any⟩, ⟨15, 12, .rop, 0, .any⟩, ⟨11, 8, .rop, 0, .any⟩, ⟨7, 4, .rop, 0, .any⟩, ⟨3, 0, .rop, 0, .any⟩]⟩]

/-- All block registers of GLB. -/
def glbRegs : List RegDef := glbRegs0

/-- Counters of GLB. -/
def glbCtrs : List CtrDef := []

/-- Attention causes of GLB: none. -/
def glbCauses : List CauseDef := []

/-- Registers of HCI (spec/02_host_control.md). -/
def hciRegs0 : List RegDef := [
  -- ATTN_SEQ: SEQ
  ⟨0x040, 1, 4, [⟨31, 0, .ro, 0, .any⟩]⟩,
  -- ACP_CFG: IDLE_S, PORTS, MAX_VER, MIN_VER, UDP_EN, ETH_EN
  ⟨0x048, 1, 4, [⟨31, 22, .rw, 60, .u 5 1023⟩, ⟨21, 12, .rw, 0, .any⟩, ⟨11, 8, .rw, 3, .u 1 3⟩, ⟨7, 4, .rw, 1, .u 1 3⟩, ⟨1, 1, .rw, 0, .any⟩, ⟨0, 0, .rw, 0, .any⟩]⟩,
  -- ACP_ADDR: UDP_PORT, ETYPE
  ⟨0x04C, 1, 4, [⟨31, 16, .rw, 0x190A, .any⟩, ⟨15, 0, .rw, 0x88B5, .u 1536 65535⟩]⟩,
  -- ACP_HWM_k: HWM
  ⟨0x060, 8, 4, [⟨31, 0, .ro, 0, .any⟩]⟩,
  -- ACP_KEY_k: KEY
  ⟨0x080, 32, 4, [⟨31, 0, .wo, 0, .any⟩]⟩]

/-- All block registers of HCI. -/
def hciRegs : List RegDef := hciRegs0

/-- Counters of HCI. -/
def hciCtrs : List CtrDef := [
  ⟨0x100, 1, 4, false, true, .keep⟩ /- ACP_AUTH_FAIL -/,
  ⟨0x104, 1, 4, false, true, .keep⟩ /- ACP_REPLAY_DROP -/,
  ⟨0x108, 1, 4, false, true, .keep⟩ /- ACP_MALFORMED -/,
  ⟨0x10C, 1, 4, false, true, .keep⟩ /- SPI_CRC_ERR -/,
  ⟨0x110, 1, 4, false, true, .keep⟩ /- SPI_REJECT -/,
  ⟨0x114, 1, 4, false, true, .keep⟩ /- INTERNAL_CNT -/]

/-- Attention causes of HCI: ACP_AUTH_BURST 0, SESSION_FULL 4, RING_ERROR 8. -/
def hciCauses : List CauseDef := [⟨0, 0, 2, false, false⟩, ⟨4, 1, 2, false, false⟩, ⟨8, 2, 4, false, false⟩]

/-- Registers of PMU (spec/18_power.md). -/
def pmuRegs0 : List RegDef := [
  -- MODE: MODE
  ⟨0x040, 1, 4, [⟨2, 0, .rw, 0, .u 0 4⟩]⟩,
  -- STAT: RESUME_VALID, WAKE_CAUSE, LAST_STATE
  ⟨0x044, 1, 4, [⟨12, 12, .ro, 0, .any⟩, ⟨11, 8, .ro, 0, .any⟩, ⟨2, 0, .ro, 0, .any⟩]⟩,
  -- ENTRY_STAT: PAGE, REASON
  ⟨0x048, 1, 4, [⟨31, 20, .ro, 0, .any⟩, ⟨3, 0, .ro, 0, .any⟩]⟩,
  -- WAKE_EN: WAKE_EN
  ⟨0x04C, 1, 4, [⟨2, 0, .rw, 7, .any⟩]⟩,
  -- WAKE_AT_LO: WAKE_AT_LO
  ⟨0x050, 1, 4, [⟨31, 0, .rw, 0, .any⟩]⟩,
  -- WAKE_AT_HI: WAKE_AT_HI
  ⟨0x054, 1, 4, [⟨31, 0, .rw, 0, .any⟩]⟩,
  -- VIN_CFG: WARN_MV
  ⟨0x058, 1, 4, [⟨15, 0, .rw, 10000, .u 4000 11000⟩]⟩,
  -- RESUME_BASE_LO: BASE
  ⟨0x05C, 1, 4, [⟨31, 20, .rw, 0, .any⟩]⟩,
  -- RESUME_BASE_HI: BASE_HI
  ⟨0x060, 1, 4, [⟨31, 0, .rw, 0, .any⟩]⟩,
  -- AON_STAT: I_UA
  ⟨0x064, 1, 4, [⟨15, 0, .ro, 0, .any⟩]⟩]

/-- All block registers of PMU. -/
def pmuRegs : List RegDef := pmuRegs0

/-- Counters of PMU. -/
def pmuCtrs : List CtrDef := [
  ⟨0x100, 1, 4, false, false, .keep⟩ /- IDLE_CNT -/,
  ⟨0x104, 1, 4, false, false, .keep⟩ /- SLEEP_CNT -/,
  ⟨0x108, 1, 4, false, false, .keep⟩ /- DEEP_CNT -/,
  ⟨0x10C, 1, 4, false, true, .keep⟩ /- ENTRY_REFUSE_CNT -/,
  ⟨0x110, 1, 4, false, true, .keep⟩ /- VIN_WARN_CNT -/,
  ⟨0x114, 1, 4, false, true, .por⟩ /- BROWNOUT_CNT -/]

/-- Attention causes of PMU: VIN_WARN 0, ENTRY_REFUSED 4, RESUME_FAIL 8. -/
def pmuCauses : List CauseDef := [⟨0, 0, 6, true, true⟩, ⟨4, 1, 1, false, false⟩, ⟨8, 2, 3, false, false⟩]

/-- Registers of MGT (spec/17_management.md). -/
def mgtRegs0 : List RegDef := [
  -- EVT_SEL: EVT_SEL
  ⟨0x040, 1, 4, [⟨8, 0, .rw, 0x1FF, .any⟩]⟩,
  -- EVT_PEND: EVT_PEND
  ⟨0x044, 1, 4, [⟨8, 0, .rw1c, 0, .any⟩]⟩,
  -- DRAM_WIN: BASE
  ⟨0x048, 1, 4, [⟨3, 0, .rw, 0, .any⟩]⟩,
  -- WDOG: WDOG_MS
  ⟨0x04C, 1, 4, [⟨15, 0, .rw, 1000, .u 100 60000⟩]⟩,
  -- BOOT_STAT: CAUSE, UNSIGNED, WARM, SLOT, STAGE
  ⟨0x060, 1, 4, [⟨23, 16, .ro, 0, .any⟩, ⟨8, 8, .ro, 0, .any⟩, ⟨7, 7, .ro, 0, .any⟩, ⟨4, 4, .ro, 0, .any⟩, ⟨3, 0, .ro, 0, .any⟩]⟩,
  -- LC_STAT: STATE
  ⟨0x064, 1, 4, [⟨2, 0, .ro, 0, .any⟩]⟩,
  -- UID_k: UID
  ⟨0x068, 4, 4, [⟨31, 0, .rop, 0, .any⟩]⟩,
  -- UPD_STAT: FMT_MAX, FMT_MIN, STATE
  ⟨0x080, 1, 4, [⟨31, 28, .ro, 0, .any⟩, ⟨27, 24, .ro, 0, .any⟩, ⟨2, 0, .ro, 0, .any⟩]⟩,
  -- UPD_CFG: ADVANCE, TRIAL_S
  ⟨0x084, 1, 4, [⟨31, 31, .rw, 1, .any⟩, ⟨15, 0, .rw, 300, .u 10 3600⟩]⟩,
  -- SLOT_A: STATE, GEN
  ⟨0x088, 1, 4, [⟨31, 24, .ro, 0, .any⟩, ⟨23, 0, .ro, 0, .any⟩]⟩,
  -- SLOT_B: STATE, GEN
  ⟨0x08C, 1, 4, [⟨31, 24, .ro, 0, .any⟩, ⟨23, 0, .ro, 0, .any⟩]⟩,
  -- OTP_KEYS: REVOKED, PROGRAMMED
  ⟨0x090, 1, 4, [⟨7, 4, .rop, 0, .any⟩, ⟨3, 0, .rop, 0, .any⟩]⟩,
  -- ARB_CNT: ARB_CNT
  ⟨0x094, 1, 4, [⟨6, 0, .rop, 0, .any⟩]⟩,
  -- BLT_CFG: COMMIT_MS, LOG_CLASS
  ⟨0x0A0, 1, 4, [⟨31, 16, .rw, 1000, .u 10 60000⟩, ⟨2, 0, .rw, 3, .u 1 6⟩]⟩,
  -- BLT_STAT: NEXT_SEQ
  ⟨0x0A4, 1, 4, [⟨31, 0, .ro, 0, .any⟩]⟩,
  -- BLT_COMMIT_SEQ: COMMIT_SEQ
  ⟨0x0A8, 1, 4, [⟨31, 0, .ro, 0, .any⟩]⟩]

/-- Registers of MGT (spec/17_management.md), continued. -/
def mgtRegs1 : List RegDef := [
  -- TEMP_CFG: HYST_C, WARN_C
  ⟨0x0B0, 1, 4, [⟨15, 8, .rw, 5, .u 1 20⟩, ⟨7, 0, .rw, 0, .s (60) (120)⟩]⟩,
  -- TEMP_k: TEMP
  ⟨0x0C0, 12, 4, [⟨15, 0, .ro, 0, .any⟩]⟩,
  -- VM_k: VM
  ⟨0x100, 6, 4, [⟨15, 0, .ro, 0, .any⟩]⟩,
  -- IIN: IIN
  ⟨0x118, 1, 4, [⟨15, 0, .ro, 0, .any⟩]⟩,
  -- PIN: PIN
  ⟨0x11C, 1, 4, [⟨15, 0, .ro, 0, .any⟩]⟩]

/-- All block registers of MGT. -/
def mgtRegs : List RegDef := mgtRegs0 ++ mgtRegs1

/-- Counters of MGT. -/
def mgtCtrs : List CtrDef := [
  ⟨0x180, 1, 4, false, true, .keep⟩ /- BLT_DROP_CNT -/,
  ⟨0x184, 1, 4, false, true, .keep⟩ /- UPD_FAIL_CNT -/,
  ⟨0x188, 1, 4, false, true, .keep⟩ /- MP_RESTART_CNT -/]

/-- Attention causes of MGT: TEMP_WARN 0, UPD_ROLLBACK 4, MP_RESTART 8, FLASH_FAIL 12. -/
def mgtCauses : List CauseDef := [⟨0, 0, 3, false, true⟩, ⟨4, 1, 4, false, false⟩, ⟨8, 2, 3, false, false⟩, ⟨12, 3, 4, false, false⟩]

/-- Registers of TMU (spec/15_time.md). -/
def tmuRegs0 : List RegDef := [
  -- SERVO_CFG: MASTER, SRC_ORDER
  ⟨0x040, 1, 4, [⟨31, 31, .rw, 0, .any⟩, ⟨15, 0, .rw, 0x0321, .any⟩]⟩,
  -- SERVO_GAIN: KP, KI
  ⟨0x044, 1, 4, [⟨31, 16, .rw, 0xB333, .u 1 65535⟩, ⟨15, 0, .rw, 0x4CCD, .u 1 65535⟩]⟩,
  -- SERVO_LIM: LOCK_NS, STEP_US
  ⟨0x048, 1, 4, [⟨31, 16, .rw, 50, .u 5 10000⟩, ⟨15, 0, .rw, 20, .u 1 65535⟩]⟩,
  -- SERVO_LIM2: HOLDOVER_S, LOCK_CNT, FREQ_MAX_PPM
  ⟨0x04C, 1, 4, [⟨31, 16, .rw, 60, .u 1 65535⟩, ⟨15, 8, .rw, 8, .u 1 255⟩, ⟨7, 0, .rw, 100, .u 1 200⟩]⟩,
  -- SERVO_STAT: HOPS, SRC, STATE
  ⟨0x050, 1, 4, [⟨23, 16, .ro, 0, .any⟩, ⟨10, 8, .ro, 0, .any⟩, ⟨2, 0, .ro, 0, .any⟩]⟩,
  -- OFS_LAST: OFS_LAST
  ⟨0x054, 1, 4, [⟨31, 0, .ro, 0, .any⟩]⟩,
  -- FREQ: FREQ
  ⟨0x058, 1, 4, [⟨31, 0, .ro, 0, .any⟩]⟩,
  -- PTP_CFG0: PRIO1, DOMAIN, LOG_SYNC, TWO_STEP, PROFILE, EN
  ⟨0x060, 1, 4, [⟨31, 24, .rw, 248, .any⟩, ⟨23, 16, .rw, 0, .any⟩, ⟨15, 12, .rw, 0xD, .s (-7) (1)⟩, ⟨2, 2, .rw, 0, .any⟩, ⟨1, 1, .rw, 1, .any⟩, ⟨0, 0, .rw, 0, .any⟩]⟩,
  -- PTP_CFG1: PRIO2, PORTS
  ⟨0x064, 1, 4, [⟨31, 24, .rw, 248, .any⟩, ⟨9, 0, .rw, 0, .any⟩]⟩,
  -- FTM_CFG: PER_BURST, PERIOD_MS
  ⟨0x068, 1, 4, [⟨19, 16, .rw, 4, .u 1 8⟩, ⟨9, 0, .rw, 125, .u 16 1000⟩]⟩,
  -- PPS_CFG: IN_ADJ, WIDTH_MS, OUT_EN, IN_EN
  ⟨0x06C, 1, 4, [⟨31, 16, .rw, 0, .any⟩, ⟨15, 8, .rw, 100, .u 1 255⟩, ⟨1, 1, .rw, 0, .any⟩, ⟨0, 0, .rw, 0, .any⟩]⟩,
  -- SLEEP_CFG: TSAMPLE_S, K, T0
  ⟨0x070, 1, 4, [⟨31, 24, .rw, 8, .u 1 255⟩, ⟨23, 16, .rw, 0xDE, .any⟩, ⟨15, 8, .rw, 25, .any⟩]⟩,
  -- SLEEP_STAT: F0, T_E
  ⟨0x074, 1, 4, [⟨31, 16, .ro, 0, .any⟩, ⟨15, 8, .ro, 0, .any⟩]⟩,
  -- AIR_ADJ_k: RX, TX
  ⟨0x080, 3, 4, [⟨31, 16, .rw, 0, .any⟩, ⟨15, 0, .rw, 0, .any⟩]⟩]

/-- All block registers of TMU. -/
def tmuRegs : List RegDef := tmuRegs0

/-- Counters of TMU. -/
def tmuCtrs : List CtrDef := [
  ⟨0x100, 1, 4, false, false, .keep⟩ /- SAMPLE_CNT -/,
  ⟨0x104, 1, 4, false, true, .keep⟩ /- SAMPLE_REJECT_CNT -/,
  ⟨0x108, 1, 4, false, true, .keep⟩ /- STEP_CNT -/,
  ⟨0x10C, 1, 4, false, true, .keep⟩ /- LAUNCH_LATE_CNT -/,
  ⟨0x110, 1, 4, false, false, .keep⟩ /- PTP_RX_CNT -/,
  ⟨0x114, 1, 4, false, false, .keep⟩ /- PTP_TX_CNT -/,
  ⟨0x118, 1, 4, false, true, .keep⟩ /- FTM_FAIL_CNT -/,
  ⟨0x11C, 1, 4, false, true, .keep⟩ /- PPS_MISS_CNT -/]

/-- Attention causes of TMU: SERVO_CHANGE 0, TIME_STEP 4, HOLDOVER 8. -/
def tmuCauses : List CauseDef := [⟨0, 0, 1, false, false⟩, ⟨4, 1, 1, false, false⟩, ⟨8, 2, 3, false, true⟩]

/-- Registers of RGL (spec/03_radio_front_end.md). -/
def rglRegs0 : List RegDef := [
  -- OTP_STAT: REGION, FORMAT, SOURCE, LOCK, VALID
  ⟨0x040, 1, 4, [⟨23, 16, .rop, 0, .any⟩, ⟨15, 8, .rop, 0, .any⟩, ⟨2, 2, .ro, 0, .any⟩, ⟨1, 1, .rop, 0, .any⟩, ⟨0, 0, .ro, 0, .any⟩]⟩,
  -- EFF_k: DUTY_LIM, DUTY_HOLD, CHAN_OK, PWR_LIM
  ⟨0x044, 3, 4, [⟨25, 16, .ro, 0, .any⟩, ⟨9, 9, .ro, 0, .any⟩, ⟨8, 8, .ro, 0, .any⟩, ⟨7, 0, .ro, 0, .any⟩]⟩,
  -- DUTY_NOW_k: DUTY_NOW
  ⟨0x050, 3, 4, [⟨19, 0, .ro, 0, .any⟩]⟩,
  -- DET_CORR_k: DET_CORR
  ⟨0x060, 6, 4, [⟨31, 0, .ro, 0, .any⟩]⟩,
  -- OTP_W_k: OTP_W
  ⟨0x100, 64, 4, [⟨31, 0, .rop, 0, .any⟩]⟩,
  -- FIELD_CHAN_k: FIELD_CHAN
  ⟨0x200, 24, 4, [⟨31, 0, .rwl, 0xFFFFFFFF, .any⟩]⟩,
  -- FIELD_PWR0: PWR_A40, PWR_A20
  ⟨0x260, 1, 4, [⟨15, 8, .rwl, 0xFF, .any⟩, ⟨7, 0, .rwl, 0xFF, .any⟩]⟩,
  -- FIELD_PWR1: PWR_B160, PWR_B80, PWR_B40, PWR_B20
  ⟨0x264, 1, 4, [⟨31, 24, .rwl, 0xFF, .any⟩, ⟨23, 16, .rwl, 0xFF, .any⟩, ⟨15, 8, .rwl, 0xFF, .any⟩, ⟨7, 0, .rwl, 0xFF, .any⟩]⟩,
  -- FIELD_PWR2: PWR_C160, PWR_C80, PWR_C40, PWR_C20
  ⟨0x268, 1, 4, [⟨31, 24, .rwl, 0xFF, .any⟩, ⟨23, 16, .rwl, 0xFF, .any⟩, ⟨15, 8, .rwl, 0xFF, .any⟩, ⟨7, 0, .rwl, 0xFF, .any⟩]⟩,
  -- FIELD_PWR3: PWR_C320
  ⟨0x26C, 1, 4, [⟨7, 0, .rwl, 0xFF, .any⟩]⟩,
  -- FIELD_DUTY: DUTY_C, DUTY_B, DUTY_A
  ⟨0x270, 1, 4, [⟨29, 20, .rwl, 1000, .u 0 1000⟩, ⟨19, 10, .rwl, 1000, .u 0 1000⟩, ⟨9, 0, .rwl, 1000, .u 0 1000⟩]⟩,
  -- TEST_W_k: TEST_W
  ⟨0x300, 32, 4, [⟨31, 0, .rw, 0, .any⟩]⟩]

/-- All block registers of RGL. -/
def rglRegs : List RegDef := rglRegs0

/-- Counters of RGL. -/
def rglCtrs : List CtrDef := [
  ⟨0x400, 3, 4, false, true, .soft⟩ /- CLAMP_CNT -/,
  ⟨0x40C, 3, 4, false, true, .soft⟩ /- CHAN_REFUSE_CNT -/,
  ⟨0x418, 3, 4, false, true, .soft⟩ /- DUTY_HOLD_CNT -/,
  ⟨0x424, 3, 4, false, true, .soft⟩ /- DUTY_DROP_CNT -/]

/-- Attention causes of RGL: REQ_CLAMPED 0, DUTY_LIMIT 4, CHAN_REFUSED 8, DETECT_OVER 12, OTP_INVALID 16. -/
def rglCauses : List CauseDef := [⟨0, 0, 1, false, false⟩, ⟨4, 1, 1, false, false⟩, ⟨8, 2, 1, false, false⟩, ⟨12, 3, 3, false, false⟩, ⟨16, 4, 4, true, true⟩]

/-- PCI has no block registers. -/
def pciRegs0 : List RegDef := []

/-- All block registers of PCI. -/
def pciRegs : List RegDef := pciRegs0

/-- Counters of PCI. -/
def pciCtrs : List CtrDef := []

/-- Attention causes of PCI: none. -/
def pciCauses : List CauseDef := []

/-- Registers of BST (spec/19_self_test.md). -/
def bstRegs0 : List RegDef := [
  -- BOOT_SEL: DRAM, SCHED_SRAM, INKWELL, TMG, PKE, ETH, QUILL, RADIOS
  ⟨0x040, 1, 4, [⟨7, 7, .rw, 0, .any⟩, ⟨6, 6, .rw, 1, .any⟩, ⟨5, 5, .rw, 1, .any⟩, ⟨4, 4, .rw, 1, .any⟩, ⟨3, 3, .rw, 1, .any⟩, ⟨2, 2, .rw, 0, .any⟩, ⟨1, 1, .rw, 0, .any⟩, ⟨0, 0, .rw, 0, .any⟩]⟩,
  -- STAT: ELAPSED_MS, UNIT, PHASE
  ⟨0x044, 1, 4, [⟨31, 16, .ro, 0, .any⟩, ⟨15, 8, .ro, 0, .any⟩, ⟨1, 0, .ro, 0, .any⟩]⟩]

/-- All block registers of BST. -/
def bstRegs : List RegDef := bstRegs0

/-- Counters of BST. -/
def bstCtrs : List CtrDef := [
  ⟨0x100, 1, 4, false, false, .keep⟩ /- RUN_CNT -/,
  ⟨0x104, 1, 4, false, true, .keep⟩ /- FAIL_CNT -/,
  ⟨0x108, 1, 4, false, true, .keep⟩ /- INCOMPLETE_CNT -/,
  ⟨0x10C, 1, 4, false, true, .keep⟩ /- ALIAS_CNT -/,
  ⟨0x110, 1, 4, false, true, .keep⟩ /- REFUSE_CNT -/]

/-- Attention causes of BST: SELFTEST_DONE 0, SELFTEST_FAIL 4, SIGNATURE_ALIAS 8. -/
def bstCauses : List CauseDef := [⟨0, 0, 1, false, false⟩, ⟨4, 1, 4, false, false⟩, ⟨8, 2, 4, true, false⟩]

/-- Registers of RFE (spec/03_radio_front_end.md). -/
def rfeRegs0 (r : Radio) : List RegDef := [
  -- STATE_CMD: TARGET
  ⟨0x040, 1, 4, [⟨2, 0, .rw, 0, .u 0 3⟩]⟩,
  -- STATE: REMAIN_US, CAL_PHASE, LOCKED, MOVING, CURRENT
  ⟨0x044, 1, 4, [⟨31, 16, .ro, 0, .any⟩, ⟨15, 12, .ro, 0, .any⟩, ⟨8, 8, .ro, 0, .any⟩, ⟨3, 3, .ro, 0, .any⟩, ⟨2, 0, .ro, 0, .any⟩]⟩,
  -- CHAN: CENTER_MHZ, WIDTH, PRIMARY
  ⟨0x048, 1, 4, [⟨28, 16, .rw, (byRadio r 0x96c 0x143c 0x1743), .any⟩, ⟨10, 8, .rw, 0, .u 0 4⟩, ⟨7, 0, .rw, (byRadio r 1 0x24 1), .any⟩]⟩,
  -- CHAIN_EN: ENABLE
  ⟨0x04C, 1, 4, [⟨7, 0, .rw, 0, .any⟩]⟩,
  -- SYN_CFG: AUTO_RECAL, RECAL_DT
  ⟨0x050, 1, 4, [⟨8, 8, .rw, 1, .any⟩, ⟨7, 0, .rw, 10, .u 2 40⟩]⟩,
  -- IF_CFG: SIDE
  ⟨0x054, 1, 4, [⟨0, 0, .rw, (byRadio r 0 0 1), .any⟩]⟩,
  -- CAL_CFG: MAX_DEFER_MS, DT_C, PERIOD_S
  ⟨0x058, 1, 4, [⟨27, 16, .rw, 1000, .u 100 4000⟩, ⟨11, 8, .rw, 5, .u 1 15⟩, ⟨7, 0, .rw, 60, .u 10 255⟩]⟩,
  -- RAMP_CFG: RAMP
  ⟨0x05C, 1, 4, [⟨4, 0, .rw, 8, .u 4 20⟩]⟩,
  -- FEM_MAP: TX, RX_BYP, RX, OFF
  ⟨0x060, 1, 4, [⟨15, 12, .rw, 1, .any⟩, ⟨11, 8, .rw, 6, .any⟩, ⟨7, 4, .rw, 2, .any⟩, ⟨3, 0, .rw, 0, .any⟩]⟩,
  -- FEM_TIME: TX_LAG, BIAS_LEAD, TX_LEAD
  ⟨0x064, 1, 4, [⟨23, 16, .rw, 4, .u 0 20⟩, ⟨15, 8, .rw, 20, .u 0 32⟩, ⟨7, 0, .rw, 12, .u 0 20⟩]⟩,
  -- FEM_BIAS: IDLE_LEVEL, TX_LEVEL
  ⟨0x068, 1, 4, [⟨25, 16, .rw, 0, .any⟩, ⟨9, 0, .rw, 0, .any⟩]⟩,
  -- IMG_STAT: AGE_S, VALID, IRR_DB
  ⟨0x080, 1, 4, [⟨31, 16, .ro, 0, .any⟩, ⟨8, 8, .ro, 0, .any⟩, ⟨7, 0, .ro, 0, .any⟩]⟩,
  -- CAL_STAT: DEFER_MS, TEMP_SYN, TEMP_IMG
  ⟨0x084, 1, 4, [⟨31, 16, .ro, 0, .any⟩, ⟨15, 8, .ro, 0, .any⟩, ⟨7, 0, .ro, 0, .any⟩]⟩]

/-- All block registers of RFE. -/
def rfeRegs (r : Radio) : List RegDef := rfeRegs0 r

/-- Counters of RFE. -/
def rfeCtrs : List CtrDef := [
  ⟨0x100, 1, 4, false, true, .soft⟩ /- UNLOCK_CNT -/,
  ⟨0x104, 1, 4, false, true, .soft⟩ /- TX_LATE_CNT -/,
  ⟨0x108, 1, 4, false, true, .soft⟩ /- TX_WAIT_CNT -/,
  ⟨0x10C, 1, 4, false, true, .soft⟩ /- CAL_ABORT_CNT -/,
  ⟨0x110, 1, 4, false, false, .soft⟩ /- CAL_RUN_CNT -/,
  ⟨0x114, 1, 4, false, true, .soft⟩ /- CAL_DEFER_CNT -/]

/-- Attention causes of RFE: SYN_UNLOCK 0, CAL_OVERDUE 4, IMG_LOW 8. -/
def rfeCauses : List CauseDef := [⟨0, 0, 3, false, false⟩, ⟨4, 1, 3, false, true⟩, ⟨8, 2, 3, false, false⟩]

/-- Registers of PHY (spec/04_phy_receive.md). -/
def phyRegs0 : List RegDef := [
  -- DET_CFG: DET_LVL, CORR, RISE_DB
  ⟨0x040, 1, 4, [⟨23, 16, .rw, 0x9E, .s (-100) (-62)⟩, ⟨11, 8, .rw, 9, .u 4 15⟩, ⟨3, 0, .rw, 6, .any⟩]⟩,
  -- AGC_CFG: MANUAL, BYP_LVL
  ⟨0x044, 1, 4, [⟨8, 8, .rw, 0, .any⟩, ⟨7, 0, .rw, 0xE2, .s (-40) (-10)⟩]⟩,
  -- AGC_MAN: BYPASS, VGA, LNA
  ⟨0x048, 1, 4, [⟨16, 16, .rw, 0, .any⟩, ⟨12, 8, .rw, 20, .any⟩, ⟨1, 0, .rw, 3, .any⟩]⟩,
  -- OVT_CFG: STEP_DB, EN
  ⟨0x04C, 1, 4, [⟨12, 8, .rw, 10, .u 6 30⟩, ⟨0, 0, .rw, 1, .any⟩]⟩,
  -- CCA_CFG: PD_LVL, ED_LVL
  ⟨0x050, 1, 4, [⟨15, 8, .rw, 0xAE, .s (-95) (-62)⟩, ⟨7, 0, .rw, 0xC2, .s (-82) (-40)⟩]⟩,
  -- OBSS_CFG: LEVEL, EN
  ⟨0x054, 1, 4, [⟨15, 8, .rw, 0xAE, .s (-82) (-62)⟩, ⟨0, 0, .rw, 0, .any⟩]⟩,
  -- DEC_CFG: MAX_ITER
  ⟨0x058, 1, 4, [⟨4, 0, .rw, 8, .u 2 16⟩]⟩,
  -- RX_STAT: REF_DBM, CCA_VALID, RESP_WAIT, GUARD, STATE
  ⟨0x060, 1, 4, [⟨15, 8, .ro, 0, .any⟩, ⟨5, 5, .ro, 0, .any⟩, ⟨4, 4, .ro, 0, .any⟩, ⟨3, 3, .ro, 0, .any⟩, ⟨2, 0, .ro, 0, .any⟩]⟩,
  -- CCA_STAT: PD, ED
  ⟨0x064, 1, 4, [⟨31, 16, .ro, 0, .any⟩, ⟨15, 0, .ro, 0, .any⟩]⟩,
  -- TX_CFG: MU_EN, SPAT_EXP
  ⟨0x090, 1, 4, [⟨1, 1, .rw, 1, .any⟩, ⟨0, 0, .rw, 1, .any⟩]⟩,
  -- SND_CFG: MAX_STA, CB, NG
  ⟨0x094, 1, 4, [⟨12, 8, .rw, 16, .u 1 16⟩, ⟨4, 4, .rw, 1, .any⟩, ⟨0, 0, .rw, 1, .any⟩]⟩,
  -- FB_STAT: CACHED, VALID_STA
  ⟨0x098, 1, 4, [⟨23, 16, .ro, 0, .any⟩, ⟨10, 0, .ro, 0, .any⟩]⟩,
  -- TX_PWR_LAST_k: DETECT, APPLIED
  ⟨0x0A0, 8, 4, [⟨31, 16, .ro, 0, .any⟩, ⟨15, 0, .ro, 0, .any⟩]⟩]

/-- Registers of PHY present on PHY_B alone. -/
def phyRegsB : List RegDef := [
  -- RADAR_CFG: LEVEL, EN
  ⟨0x070, 1, 4, [⟨15, 8, .rw, 0xC0, .s (-80) (-50)⟩, ⟨0, 0, .rw, 0, .any⟩]⟩,
  -- RADAR_FIFO0: TB
  ⟨0x080, 1, 4, [⟨31, 0, .ro, 0, .any⟩]⟩,
  -- RADAR_FIFO1: VALID, SUBCH, POWER, WIDTH
  ⟨0x084, 1, 4, [⟨31, 31, .ro, 0, .any⟩, ⟨27, 24, .ro, 0, .any⟩, ⟨23, 16, .ro, 0, .any⟩, ⟨15, 0, .ro, 0, .any⟩]⟩]

/-- All block registers of PHY. -/
def phyRegs (r : Radio) : List RegDef := phyRegs0 ++ (byRadio r [] phyRegsB [])

/-- Counters of PHY. -/
def phyCtrs : List CtrDef := [
  ⟨0x100, 1, 4, false, false, .soft⟩ /- DET_CNT -/,
  ⟨0x104, 1, 4, false, true, .soft⟩ /- FALSESTART_CNT -/,
  ⟨0x108, 1, 4, false, true, .soft⟩ /- FALSESTART_LOSS_EST -/,
  ⟨0x10C, 1, 4, false, true, .soft⟩ /- OVT_CNT -/,
  ⟨0x110, 1, 4, false, true, .soft⟩ /- OVT_SUPPR_CNT -/,
  ⟨0x114, 1, 4, false, true, .soft⟩ /- SIG_FAIL_CNT -/,
  ⟨0x118, 1, 4, false, true, .soft⟩ /- UNSUPP_CNT -/,
  ⟨0x11C, 1, 4, false, true, .soft⟩ /- CFO_REJECT_CNT -/,
  ⟨0x120, 1, 4, false, true, .soft⟩ /- OBSS_PD_CNT -/,
  ⟨0x124, 1, 4, false, true, .soft⟩ /- RADAR_OVF_CNT -/,
  ⟨0x128, 1, 4, false, true, .soft⟩ /- TXV_REJECT_CNT -/,
  ⟨0x12C, 1, 4, false, false, .soft⟩ /- SND_SEQ_CNT -/,
  ⟨0x130, 1, 4, false, true, .soft⟩ /- FB_MISS_CNT -/,
  ⟨0x134, 1, 4, false, true, .soft⟩ /- MU_DROP_CNT -/,
  ⟨0x138, 1, 4, false, true, .soft⟩ /- BF_UNSTEERED_CNT -/]

/-- Attention causes of PHY: RADAR_PULSE 0. -/
def phyCauses (r : Radio) : List CauseDef := byRadio r [] [⟨0, 0, 2, false, true⟩] []

/-- Registers of MAC (spec/06_wireless_mac.md). -/
def macRegs0 (r : Radio) : List RegDef := [
  -- EDCA_AC0: TXOP, ECWMAX, ECWMIN, AIFSN
  ⟨0x040, 1, 4, [⟨31, 16, .rw, 0, .any⟩, ⟨11, 8, .rw, 6, .u 0 10⟩, ⟨7, 4, .rw, 4, .u 0 10⟩, ⟨3, 0, .rw, 3, .u 1 15⟩]⟩,
  -- EDCA_AC1: TXOP, ECWMAX, ECWMIN, AIFSN
  ⟨0x044, 1, 4, [⟨31, 16, .rw, 0, .any⟩, ⟨11, 8, .rw, 10, .u 0 10⟩, ⟨7, 4, .rw, 4, .u 0 10⟩, ⟨3, 0, .rw, 7, .u 1 15⟩]⟩,
  -- EDCA_AC2: TXOP, ECWMAX, ECWMIN, AIFSN
  ⟨0x048, 1, 4, [⟨31, 16, .rw, 0x5E, .any⟩, ⟨11, 8, .rw, 4, .u 0 10⟩, ⟨7, 4, .rw, 3, .u 0 10⟩, ⟨3, 0, .rw, 1, .u 1 15⟩]⟩,
  -- EDCA_AC3: TXOP, ECWMAX, ECWMIN, AIFSN
  ⟨0x04C, 1, 4, [⟨31, 16, .rw, 0x2F, .any⟩, ⟨11, 8, .rw, 3, .u 0 10⟩, ⟨7, 4, .rw, 2, .u 0 10⟩, ⟨3, 0, .rw, 1, .u 1 15⟩]⟩,
  -- BCN_CFG: ECWMAX, ECWMIN, AIFSN
  ⟨0x050, 1, 4, [⟨11, 8, .rw, 2, .u 0 10⟩, ⟨7, 4, .rw, 2, .u 0 10⟩, ⟨3, 0, .rw, 2, .u 1 15⟩]⟩,
  -- ACC_CFG: DYN_BW, CF_END, LONG_SLOT, RTS_THR
  ⟨0x054, 1, 4, (byRadio r [⟨16, 16, .rw, 0, .any⟩] [] []) ++ [⟨18, 18, .rw, 1, .any⟩, ⟨17, 17, .rw, 1, .any⟩, ⟨15, 0, .rw, 0xFFFF, .any⟩]⟩,
  -- RESP_CFG: PWR, TIMEOUT_US
  ⟨0x058, 1, 4, [⟨16, 8, .rw, 0, .any⟩, ⟨7, 0, .rw, (byRadio r 0x27 0x2d 0x2d), .u 30 100⟩]⟩,
  -- RETRY_CFG: LIMIT
  ⟨0x05C, 1, 4, [⟨3, 0, .rw, 7, .u 1 15⟩]⟩,
  -- NAV_STAT: INTRA_US, BASIC_US
  ⟨0x060, 1, 4, [⟨31, 16, .ro, 0, .any⟩, ⟨15, 0, .ro, 0, .any⟩]⟩,
  -- OWN_NAV: OWN_US
  ⟨0x064, 1, 4, [⟨15, 0, .ro, 0, .any⟩]⟩,
  -- BCN_STAT: ESCALATED
  ⟨0x068, 1, 4, [⟨15, 0, .ro, 0, .any⟩]⟩,
  -- ADDR_LO: ADDR_LO
  ⟨0x070, 1, 4, [⟨31, 0, .rw, 0, .any⟩]⟩,
  -- ADDR_HI: ADDR_HI
  ⟨0x074, 1, 4, [⟨15, 0, .rw, 0, .any⟩]⟩]

/-- All block registers of MAC. -/
def macRegs (r : Radio) : List RegDef := macRegs0 r

/-- Counters of MAC. -/
def macCtrs : List CtrDef := [
  ⟨0x100, 1, 4, false, false, .soft⟩ /- TX_PPDU_CNT -/,
  ⟨0x104, 1, 4, false, false, .soft⟩ /- TX_MPDU_CNT -/,
  ⟨0x108, 1, 4, false, true, .soft⟩ /- TX_RETRY_CNT -/,
  ⟨0x10C, 1, 4, false, true, .soft⟩ /- TX_FAIL_CNT -/,
  ⟨0x110, 1, 4, false, true, .soft⟩ /- TX_ABORT_CNT -/,
  ⟨0x114, 1, 4, false, true, .soft⟩ /- UNDERRUN_CNT -/,
  ⟨0x118, 1, 4, false, true, .soft⟩ /- RU_DROP_CNT -/,
  ⟨0x11C, 1, 4, false, true, .soft⟩ /- OBSS_PWR_CNT -/,
  ⟨0x120, 1, 4, false, false, .soft⟩ /- RESP_TX_CNT -/,
  ⟨0x124, 1, 4, false, true, .soft⟩ /- RESP_SKIP_CNT -/,
  ⟨0x128, 1, 4, false, true, .soft⟩ /- RESP_TIMEOUT_CNT -/,
  ⟨0x12C, 1, 4, false, false, .soft⟩ /- RX_MPDU_CNT -/,
  ⟨0x130, 1, 4, false, true, .soft⟩ /- RX_FCS_ERR_CNT -/,
  ⟨0x134, 1, 4, false, true, .soft⟩ /- RX_RUNT_CNT -/,
  ⟨0x138, 1, 4, false, true, .soft⟩ /- RX_OVERSIZE_CNT -/,
  ⟨0x13C, 1, 4, false, true, .soft⟩ /- DUP_CNT -/,
  ⟨0x140, 1, 4, false, true, .soft⟩ /- REPLAY_CNT -/,
  ⟨0x144, 1, 4, false, true, .soft⟩ /- MIC_FAIL_CNT -/,
  ⟨0x148, 1, 4, false, true, .soft⟩ /- RX_NOKEY_CNT -/,
  ⟨0x14C, 1, 4, false, true, .soft⟩ /- TX_NOKEY_CNT -/,
  ⟨0x150, 1, 4, false, false, .soft⟩ /- BCN_TX_CNT -/,
  ⟨0x154, 1, 4, false, true, .soft⟩ /- BCN_MISS_CNT -/,
  ⟨0x158, 1, 4, false, true, .soft⟩ /- TWT_SP_CUT_CNT -/,
  ⟨0x15C, 1, 4, false, true, .soft⟩ /- RX_HOST_DROP_CNT -/]

/-- Attention causes of MAC: BEACON_STARVED 0, MIC_FAIL 4, RX_HOST_EMPTY 8. -/
def macCauses : List CauseDef := [⟨0, 0, 3, false, false⟩, ⟨4, 1, 2, false, false⟩, ⟨8, 2, 2, false, false⟩]

/-- Registers of MLD (spec/07_multi_link.md). -/
def mldRegs0 : List RegDef := [
  -- LINK_CTRL: DISABLE
  ⟨0x040, 1, 4, [⟨2, 0, .rw, 0, .any⟩]⟩,
  -- LINK_STAT: REASON_C, REASON_B, REASON_A, BC_STR, QUIESCED, AVAIL
  ⟨0x044, 1, 4, [⟨27, 24, .ro, 0, .any⟩, ⟨23, 20, .ro, 0, .any⟩, ⟨19, 16, .ro, 0, .any⟩, ⟨8, 8, .ro, 0, .any⟩, ⟨6, 4, .ro, 0, .any⟩, ⟨2, 0, .ro, 0, .any⟩]⟩,
  -- BATON_CFG: MAX_DEFER, BIAS_US
  ⟨0x048, 1, 4, [⟨19, 16, .rw, 2, .any⟩, ⟨15, 0, .rw, 50, .u 0 10000⟩]⟩,
  -- REORDER_CFG: VO, VI, BK, BE
  ⟨0x04C, 1, 4, [⟨31, 24, .rw, 10, .u 1 255⟩, ⟨23, 16, .rw, 20, .u 1 255⟩, ⟨15, 8, .rw, 100, .u 1 255⟩, ⟨7, 0, .rw, 50, .u 1 255⟩]⟩,
  -- NSTR_CFG: SYNC_START
  ⟨0x050, 1, 4, [⟨0, 0, .rw, 1, .any⟩]⟩,
  -- ACC_DLY_k: ACC_DLY
  ⟨0x060, 3, 4, [⟨15, 0, .ro, 0, .any⟩]⟩]

/-- All block registers of MLD. -/
def mldRegs : List RegDef := mldRegs0

/-- Counters of MLD. -/
def mldCtrs : List CtrDef := [
  ⟨0x100, 3, 4, false, false, .soft⟩ /- BIND_CNT -/,
  ⟨0x10C, 1, 4, false, true, .soft⟩ /- BATON_DEFER_CNT -/,
  ⟨0x110, 1, 4, false, true, .soft⟩ /- XLINK_RETRY_CNT -/,
  ⟨0x114, 1, 4, false, true, .soft⟩ /- BAR_TX_CNT -/,
  ⟨0x118, 1, 4, false, true, .soft⟩ /- HOLE_TIMEOUT_CNT -/,
  ⟨0x11C, 1, 4, false, true, .soft⟩ /- HOLE_FORCED_CNT -/,
  ⟨0x120, 1, 4, false, true, .soft⟩ /- RX_NOBUF_CNT -/,
  ⟨0x124, 1, 4, false, true, .soft⟩ /- NSTR_DEFER_CNT -/,
  ⟨0x128, 1, 4, false, true, .soft⟩ /- NSTR_ALIGN_CNT -/,
  ⟨0x12C, 1, 4, false, false, .soft⟩ /- QUIESCE_CNT -/]

/-- Attention causes of MLD: STR_CHANGED 0, REORDER_NOBUF 4. -/
def mldCauses : List CauseDef := [⟨0, 0, 1, false, false⟩, ⟨4, 1, 3, false, true⟩]

/-- Registers of ASC (spec/08_access_scheduler.md). -/
def ascRegs0 : List RegDef := [
  -- ROUND_CFG: REUSE_US, IDLE_SKIP, PERIOD_US
  ⟨0x040, 1, 4, [⟨31, 16, .rw, 2000, .u 0 2000⟩, ⟨8, 8, .rw, 1, .any⟩, ⟨7, 0, .rw, 20, .u 10 20⟩]⟩,
  -- PRIO: HEAT, C, B, A
  ⟨0x044, 1, 4, [⟨7, 6, .rw, 0, .any⟩, ⟨5, 4, .rw, 1, .any⟩, ⟨3, 2, .rw, 1, .any⟩, ⟨1, 0, .rw, 2, .any⟩]⟩,
  -- AGE_CFG: BSR_MS, SND_MS
  ⟨0x048, 1, 4, [⟨31, 16, .rw, 20, .u 1 1000⟩, ⟨15, 0, .rw, 50, .u 5 1000⟩]⟩,
  -- POL_CFG: DL_EN, UL_EN, MU_EN, MRU_EN, MAX_RU, DEBT_CAP_US
  ⟨0x04C, 1, 4, [⟨27, 27, .rw, 1, .any⟩, ⟨26, 26, .rw, 1, .any⟩, ⟨25, 25, .rw, 1, .any⟩, ⟨24, 24, .rw, 1, .any⟩, ⟨18, 16, .rw, 5, .any⟩, ⟨15, 0, .rw, 20000, .u 1000 60000⟩]⟩,
  -- CLASS_BONUS: C3, C2, C1, C0
  ⟨0x050, 1, 4, [⟨31, 24, .rw, 0xFC, .any⟩, ⟨23, 16, .rw, 0, .any⟩, ⟨15, 8, .rw, 4, .any⟩, ⟨7, 0, .rw, 16, .any⟩]⟩,
  -- RATE_CFG: CONS_NSS, CONS_DB, MARGIN
  ⟨0x054, 1, 4, [⟨19, 16, .rw, 1, .u 1 8⟩, ⟨15, 8, .rw, 24, .u 0 60⟩, ⟨7, 0, .rw, 8, .u 0 60⟩]⟩,
  -- UL_CFG: TRIG_AC, LTF, GI, TARGET_RSSI, TB_US
  ⟨0x058, 1, 4, [⟨31, 29, .rw, 0, .u 0 3⟩, ⟨28, 27, .rw, 1, .u 0 2⟩, ⟨26, 25, .rw, 1, .u 0 2⟩, ⟨23, 16, .rw, 0xC4, .s (-90) (-20)⟩, ⟨15, 0, .rw, 1000, .u 100 5484⟩]⟩,
  -- DL_CFG: ACK_MODE, LTF, GI, DL_US
  ⟨0x05C, 1, 4, [⟨21, 21, .rw, 0, .any⟩, ⟨20, 19, .rw, 1, .u 0 2⟩, ⟨18, 17, .rw, 0, .u 0 2⟩, ⟨15, 0, .rw, 2000, .u 100 5484⟩]⟩,
  -- MU_CFG: MAX_USERS, CORR_MAX
  ⟨0x060, 1, 4, [⟨11, 8, .rw, 8, .u 2 8⟩, ⟨7, 0, .rw, 77, .any⟩]⟩,
  -- MISS_CFG: BURST
  ⟨0x064, 1, 4, [⟨13, 0, .rw, 50, .u 1 10000⟩]⟩,
  -- EXT_BASE_LO: BASE
  ⟨0x068, 1, 4, [⟨31, 12, .rw, 0, .any⟩]⟩,
  -- EXT_BASE_HI: BASE_HI
  ⟨0x06C, 1, 4, [⟨31, 0, .rw, 0, .any⟩]⟩,
  -- ALLOC_STAT_k: AGE_US, VALID, ROUND
  ⟨0x070, 3, 4, [⟨31, 20, .ro, 0, .any⟩, ⟨16, 16, .ro, 0, .any⟩, ⟨15, 0, .ro, 0, .any⟩]⟩,
  -- HEAT_CFG_k: LEAD_US, MAX_VER, MIN_VER, GROUP
  ⟨0x080, 3, 4, [⟨31, 24, .rw, 30, .u 20 200⟩, ⟨23, 20, .rw, 2, .u 1 2⟩, ⟨19, 16, .rw, 1, .u 1 2⟩, ⟨15, 0, .rw, 0, .any⟩]⟩,
  -- HEAT_CTRL: EN
  ⟨0x08C, 1, 4, [⟨2, 0, .rw, 0, .any⟩]⟩,
  -- HEAT_STAT: SERVO_LOCKED, PENDING, PLAN_WAIT, ACTIVE
  ⟨0x090, 1, 4, [⟨12, 12, .ro, 0, .any⟩, ⟨10, 8, .ro, 0, .any⟩, ⟨6, 4, .ro, 0, .any⟩, ⟨2, 0, .ro, 0, .any⟩]⟩]

/-- Registers of ASC (spec/08_access_scheduler.md), continued. -/
def ascRegs1 : List RegDef := [
  -- HEAT_PLAN_k: SEQ, FORMAT, H
  ⟨0x094, 3, 4, [⟨31, 16, .ro, 0, .any⟩, ⟨15, 12, .ro, 0, .any⟩, ⟨4, 0, .ro, 0, .any⟩]⟩]

/-- All block registers of ASC. -/
def ascRegs : List RegDef := ascRegs0 ++ ascRegs1

/-- Counters of ASC. -/
def ascCtrs : List CtrDef := [
  ⟨0x100, 3, 4, false, true, .soft⟩ /- MISS_CNT -/,
  ⟨0x10C, 3, 4, false, false, .soft⟩ /- ROUND_CNT -/,
  ⟨0x118, 3, 4, false, true, .soft⟩ /- REUSE_CNT -/,
  ⟨0x124, 3, 4, false, true, .soft⟩ /- SU_FALLBACK_CNT -/,
  ⟨0x130, 1, 4, false, false, .soft⟩ /- IDLE_ROUND_CNT -/,
  ⟨0x134, 1, 4, false, true, .soft⟩ /- STALE_CNT -/,
  ⟨0x138, 1, 4, false, true, .soft⟩ /- RU_EMPTY_CNT -/,
  ⟨0x13C, 1, 4, false, false, .soft⟩ /- HEAT_RUN_CNT -/,
  ⟨0x140, 1, 4, false, true, .soft⟩ /- HEAT_SKIP_CNT -/,
  ⟨0x144, 1, 4, false, true, .soft⟩ /- HEAT_MISS_CNT -/,
  ⟨0x148, 1, 4, false, true, .soft⟩ /- HEAT_PLAN_REJECT_CNT -/,
  ⟨0x14C, 1, 4, false, true, .soft⟩ /- CONS_RATE_CNT -/]

/-- Attention causes of ASC: ROUND_MISS_BURST 0, HEAT_SUSPENDED 4, HEAT_PLAN_REJECTED 8. -/
def ascCauses : List CauseDef := [⟨0, 0, 3, false, false⟩, ⟨4, 1, 3, false, true⟩, ⟨8, 2, 2, false, false⟩]

/-- Registers of QAR (spec/09_quill_array.md). -/
def qarRegs0 : List RegDef := [
  -- CORE_CTRL: RUN
  ⟨0x040, 1, 4, [⟨15, 0, .rw, 0, .any⟩]⟩,
  -- CORE_STAT: FAULTED, WAITING
  ⟨0x044, 1, 4, [⟨31, 16, .ro, 0, .any⟩, ⟨15, 0, .ro, 0, .any⟩]⟩,
  -- DISP_STAT: INSTANCES, INFLIGHT, FREE_SLOTS
  ⟨0x048, 1, 4, [⟨28, 24, .ro, 0, .any⟩, ⟨22, 16, .ro, 0, .any⟩, ⟨8, 0, .ro, 0, .any⟩]⟩,
  -- LIST_DEPTH: L3, L2, L1, L0
  ⟨0x04C, 1, 4, [⟨31, 24, .ro, 0, .any⟩, ⟨23, 16, .ro, 0, .any⟩, ⟨15, 8, .ro, 0, .any⟩, ⟨7, 0, .ro, 0, .any⟩]⟩,
  -- ASC_TPL: HEAT, ORD
  ⟨0x050, 1, 4, [⟨12, 8, .rw, 1, .any⟩, ⟨4, 0, .rw, 0, .any⟩]⟩,
  -- FW_VER: MAJOR, MINOR, BUILD
  ⟨0x054, 1, 4, [⟨31, 24, .ro, 0, .any⟩, ⟨23, 16, .ro, 0, .any⟩, ⟨15, 0, .ro, 0, .any⟩]⟩,
  -- DUCTUS_CFG: POST, TRIG_FAULT, TRIG_MISS, EN
  ⟨0x058, 1, 4, [⟨27, 16, .rw, 2048, .any⟩, ⟨2, 2, .rw, 1, .any⟩, ⟨1, 1, .rw, 0, .any⟩, ⟨0, 0, .rw, 1, .any⟩]⟩,
  -- DUCTUS_STAT: TRIGGERED, STOPPED
  ⟨0x05C, 1, 4, [⟨1, 1, .ro, 0, .any⟩, ⟨0, 0, .ro, 0, .any⟩]⟩,
  -- DUCTUS_SEQ: DUCTUS_SEQ
  ⟨0x060, 1, 4, [⟨31, 0, .ro, 0, .any⟩]⟩,
  -- DUCTUS_TRIG_SEQ: TRIG_SEQ
  ⟨0x064, 1, 4, [⟨31, 0, .ro, 0, .any⟩]⟩,
  -- TPL_VALID: TPL_VALID
  ⟨0x068, 1, 4, [⟨31, 0, .ro, 0, .any⟩]⟩,
  -- TRACE_PUT0: TRACE_PUT0
  ⟨0x070, 1, 4, [⟨31, 0, .wo, 0, .any⟩]⟩,
  -- TRACE_PUT1: TRACE_PUT1
  ⟨0x074, 1, 4, [⟨31, 0, .wo, 0, .any⟩]⟩]

/-- All block registers of QAR. -/
def qarRegs : List RegDef := qarRegs0

/-- Counters of QAR. -/
def qarCtrs : List CtrDef := [
  ⟨0x100, 1, 4, false, false, .soft⟩ /- INSTANCE_CNT -/,
  ⟨0x104, 1, 4, false, true, .soft⟩ /- REFUSE_CNT -/,
  ⟨0x108, 1, 4, false, true, .soft⟩ /- CANCEL_CNT -/,
  ⟨0x10C, 1, 4, false, true, .soft⟩ /- FAULT_CNT -/,
  ⟨0x110, 1, 4, false, true, .soft⟩ /- DEMOTE_CNT -/]

/-- Attention causes of QAR: CORE_FAULT 0, DUCTUS_TRIGGERED 4. -/
def qarCauses : List CauseDef := [⟨0, 0, 4, false, false⟩, ⟨4, 1, 1, false, true⟩]

/-- Registers of TMG (spec/11_traffic_manager.md). -/
def tmgRegs0 : List RegDef := [
  -- SPILL_BASE_LO: BASE
  ⟨0x040, 1, 4, [⟨31, 12, .rw, 0, .any⟩]⟩,
  -- SPILL_BASE_HI: BASE_HI
  ⟨0x044, 1, 4, [⟨31, 0, .rw, 0, .any⟩]⟩,
  -- SPILL_SIZE: MIB
  ⟨0x048, 1, 4, [⟨15, 0, .rw, 0, .u 0 32768⟩]⟩,
  -- SPILL_STAT: USED_MIB
  ⟨0x04C, 1, 4, [⟨15, 0, .ro, 0, .any⟩]⟩,
  -- ETH_SCHED_k: SP
  ⟨0x080, 10, 4, [⟨7, 0, .rw, 0, .any⟩]⟩]

/-- All block registers of TMG. -/
def tmgRegs : List RegDef := tmgRegs0

/-- Counters of TMG. -/
def tmgCtrs : List CtrDef := [
  ⟨0x100, 1, 4, false, false, .soft⟩ /- ADMIT_CNT -/,
  ⟨0x104, 1, 4, false, true, .soft⟩ /- DROP_METER_CNT -/,
  ⟨0x108, 1, 4, false, true, .soft⟩ /- DROP_QLIM_CNT -/,
  ⟨0x10C, 1, 4, false, true, .soft⟩ /- DROP_SPILL_FULL_CNT -/,
  ⟨0x110, 1, 4, false, true, .soft⟩ /- DROP_NOCELL_CNT -/,
  ⟨0x114, 1, 4, false, true, .soft⟩ /- DROP_FROZEN_CNT -/,
  ⟨0x118, 1, 4, false, true, .soft⟩ /- AGED_CNT -/,
  ⟨0x11C, 1, 4, false, false, .soft⟩ /- SPILL_CNT -/,
  ⟨0x120, 1, 4, false, false, .soft⟩ /- REFILL_CNT -/,
  ⟨0x124, 1, 4, false, true, .soft⟩ /- DROP_NOLINK_CNT -/]

/-- Attention causes of TMG: SPILL_FULL 0. -/
def tmgCauses : List CauseDef := [⟨0, 0, 3, false, true⟩]

/-- Registers of PKE (spec/12_packet_engine.md). -/
def pkeRegs0 : List RegDef := [
  -- FLOW_BASE_LO: BASE
  ⟨0x040, 1, 4, [⟨31, 12, .rw, 0, .any⟩]⟩,
  -- FLOW_BASE_HI: BASE_HI
  ⟨0x044, 1, 4, [⟨31, 0, .rw, 0, .any⟩]⟩,
  -- FLOW_CFG: TCP_CLOSE_S, EN
  ⟨0x048, 1, 4, [⟨31, 16, .rw, 10, .u 1 65535⟩, ⟨0, 0, .rw, 0, .any⟩]⟩,
  -- L2_CFG: AGE_S, S_TPID
  ⟨0x04C, 1, 4, [⟨31, 16, .rw, 300, .any⟩, ⟨15, 0, .rw, 0x88A8, .any⟩]⟩,
  -- HOLD_CFG: HOLD_MS, MAX_FRAMES
  ⟨0x050, 1, 4, [⟨31, 16, .rw, 10, .u 1 1000⟩, ⟨8, 0, .rw, 64, .u 1 256⟩]⟩,
  -- REMARK: RED_DSCP, YELLOW_DSCP, RED_EN, YELLOW_EN
  ⟨0x054, 1, 4, [⟨21, 16, .rw, 0, .any⟩, ⟨13, 8, .rw, 0, .any⟩, ⟨1, 1, .rw, 0, .any⟩, ⟨0, 0, .rw, 0, .any⟩]⟩,
  -- PKE_STAT: INFLIGHT, HELD
  ⟨0x058, 1, 4, [⟨26, 16, .ro, 0, .any⟩, ⟨8, 0, .ro, 0, .any⟩]⟩,
  -- EXC_CFG_01: METER, METER_EN, CLASS, HOLD, EN
  ⟨0x084, 1, 4, [⟨27, 16, .rw, 0, .any⟩, ⟨5, 5, .rw, 0, .any⟩, ⟨4, 2, .rw, 6, .any⟩, ⟨1, 1, .rw, 0, .any⟩, ⟨0, 0, .rw, 1, .any⟩]⟩,
  -- EXC_CFG_02: METER, METER_EN, CLASS, HOLD, EN
  ⟨0x088, 1, 4, [⟨27, 16, .rw, 0, .any⟩, ⟨5, 5, .rw, 0, .any⟩, ⟨4, 2, .rw, 6, .any⟩, ⟨1, 1, .rw, 0, .any⟩, ⟨0, 0, .rw, 1, .any⟩]⟩,
  -- EXC_CFG_03: METER, METER_EN, CLASS, HOLD, EN
  ⟨0x08C, 1, 4, [⟨27, 16, .rw, 0, .any⟩, ⟨5, 5, .rw, 0, .any⟩, ⟨4, 2, .rw, 7, .any⟩, ⟨1, 1, .rw, 0, .any⟩, ⟨0, 0, .rw, 1, .any⟩]⟩,
  -- EXC_CFG_04: METER, METER_EN, CLASS, HOLD, EN
  ⟨0x090, 1, 4, [⟨27, 16, .rw, 0, .any⟩, ⟨5, 5, .rw, 0, .any⟩, ⟨4, 2, .rw, 2, .any⟩, ⟨1, 1, .rw, 0, .any⟩, ⟨0, 0, .rw, 1, .any⟩]⟩,
  -- EXC_CFG_05: METER, METER_EN, CLASS, HOLD, EN
  ⟨0x094, 1, 4, [⟨27, 16, .rw, 0, .any⟩, ⟨5, 5, .rw, 0, .any⟩, ⟨4, 2, .rw, 2, .any⟩, ⟨1, 1, .rw, 0, .any⟩, ⟨0, 0, .rw, 1, .any⟩]⟩,
  -- EXC_CFG_06: METER, METER_EN, CLASS, HOLD, EN
  ⟨0x098, 1, 4, [⟨27, 16, .rw, 0, .any⟩, ⟨5, 5, .rw, 0, .any⟩, ⟨4, 2, .rw, 2, .any⟩, ⟨1, 1, .rw, 0, .any⟩, ⟨0, 0, .rw, 1, .any⟩]⟩,
  -- EXC_CFG_07: METER, METER_EN, CLASS, HOLD, EN
  ⟨0x09C, 1, 4, [⟨27, 16, .rw, 0, .any⟩, ⟨5, 5, .rw, 0, .any⟩, ⟨4, 2, .rw, 2, .any⟩, ⟨1, 1, .rw, 0, .any⟩, ⟨0, 0, .rw, 1, .any⟩]⟩,
  -- EXC_CFG_08: METER, METER_EN, CLASS, HOLD, EN
  ⟨0x0A0, 1, 4, [⟨27, 16, .rw, 0, .any⟩, ⟨5, 5, .rw, 0, .any⟩, ⟨4, 2, .rw, 2, .any⟩, ⟨1, 1, .rw, 1, .any⟩, ⟨0, 0, .rw, 1, .any⟩]⟩,
  -- EXC_CFG_09: METER, METER_EN, CLASS, HOLD, EN
  ⟨0x0A4, 1, 4, [⟨27, 16, .rw, 0, .any⟩, ⟨5, 5, .rw, 0, .any⟩, ⟨4, 2, .rw, 2, .any⟩, ⟨1, 1, .rw, 0, .any⟩, ⟨0, 0, .rw, 1, .any⟩]⟩]

/-- Registers of PKE (spec/12_packet_engine.md), continued. -/
def pkeRegs1 : List RegDef := [
  -- EXC_CFG_0A: METER, METER_EN, CLASS, HOLD, EN
  ⟨0x0A8, 1, 4, [⟨27, 16, .rw, 0, .any⟩, ⟨5, 5, .rw, 0, .any⟩, ⟨4, 2, .rw, 2, .any⟩, ⟨1, 1, .rw, 1, .any⟩, ⟨0, 0, .rw, 1, .any⟩]⟩,
  -- EXC_CFG_0B: METER, METER_EN, CLASS, HOLD, EN
  ⟨0x0AC, 1, 4, [⟨27, 16, .rw, 0, .any⟩, ⟨5, 5, .rw, 0, .any⟩, ⟨4, 2, .rw, 2, .any⟩, ⟨1, 1, .rw, 0, .any⟩, ⟨0, 0, .rw, 1, .any⟩]⟩,
  -- EXC_CFG_0C: METER, METER_EN, CLASS, HOLD, EN
  ⟨0x0B0, 1, 4, [⟨27, 16, .rw, 0, .any⟩, ⟨5, 5, .rw, 0, .any⟩, ⟨4, 2, .rw, 2, .any⟩, ⟨1, 1, .rw, 0, .any⟩, ⟨0, 0, .rw, 1, .any⟩]⟩,
  -- EXC_CFG_0D: METER, METER_EN, CLASS, HOLD, EN
  ⟨0x0B4, 1, 4, [⟨27, 16, .rw, 0, .any⟩, ⟨5, 5, .rw, 0, .any⟩, ⟨4, 2, .rw, 2, .any⟩, ⟨1, 1, .rw, 0, .any⟩, ⟨0, 0, .rw, 1, .any⟩]⟩,
  -- EXC_CFG_0E: METER, METER_EN, CLASS, HOLD, EN
  ⟨0x0B8, 1, 4, [⟨27, 16, .rw, 0, .any⟩, ⟨5, 5, .rw, 0, .any⟩, ⟨4, 2, .rw, 2, .any⟩, ⟨1, 1, .rw, 0, .any⟩, ⟨0, 0, .rw, 1, .any⟩]⟩,
  -- EXC_CFG_0F: METER, METER_EN, CLASS, HOLD, EN
  ⟨0x0BC, 1, 4, [⟨27, 16, .rw, 0, .any⟩, ⟨5, 5, .rw, 0, .any⟩, ⟨4, 2, .rw, 1, .any⟩, ⟨1, 1, .ro, 0, .any⟩, ⟨0, 0, .rw, 1, .any⟩]⟩,
  -- EXC_CFG_10: METER, METER_EN, CLASS, HOLD, EN
  ⟨0x0C0, 1, 4, [⟨27, 16, .rw, 0, .any⟩, ⟨5, 5, .rw, 0, .any⟩, ⟨4, 2, .rw, 1, .any⟩, ⟨1, 1, .ro, 0, .any⟩, ⟨0, 0, .rw, 1, .any⟩]⟩,
  -- EXC_CFG_11: METER, METER_EN, CLASS, HOLD, EN
  ⟨0x0C4, 1, 4, [⟨27, 16, .rw, 0, .any⟩, ⟨5, 5, .rw, 0, .any⟩, ⟨4, 2, .rw, 1, .any⟩, ⟨1, 1, .ro, 0, .any⟩, ⟨0, 0, .rw, 1, .any⟩]⟩,
  -- EXC_CFG_12: METER, METER_EN, CLASS, HOLD, EN
  ⟨0x0C8, 1, 4, [⟨27, 16, .rw, 0, .any⟩, ⟨5, 5, .rw, 0, .any⟩, ⟨4, 2, .rw, 2, .any⟩, ⟨1, 1, .rw, 0, .any⟩, ⟨0, 0, .rw, 1, .any⟩]⟩]

/-- All block registers of PKE. -/
def pkeRegs : List RegDef := pkeRegs0 ++ pkeRegs1

/-- Counters of PKE. -/
def pkeCtrs : List CtrDef := [
  ⟨0x100, 1, 4, false, false, .soft⟩ /- RX_FRAME_CNT -/,
  ⟨0x104, 1, 4, false, false, .soft⟩ /- EXC_CNT -/,
  ⟨0x108, 1, 4, false, false, .soft⟩ /- FLOW_HIT_CNT -/,
  ⟨0x10C, 1, 4, false, false, .soft⟩ /- FLOW_MISS_CNT -/,
  ⟨0x110, 1, 4, false, false, .soft⟩ /- FLOW_CACHE_MISS_CNT -/,
  ⟨0x114, 1, 4, false, true, .soft⟩ /- FLOW_POISON_CNT -/,
  ⟨0x118, 1, 4, false, true, .soft⟩ /- DROP_VLAN_CNT -/,
  ⟨0x11C, 1, 4, false, true, .soft⟩ /- DROP_ISOLATE_CNT -/,
  ⟨0x120, 1, 4, false, true, .soft⟩ /- DROP_ACL_CNT -/,
  ⟨0x124, 1, 4, false, true, .soft⟩ /- DROP_EXC_CNT -/,
  ⟨0x128, 1, 4, false, true, .soft⟩ /- DROP_HOLD_CNT -/,
  ⟨0x12C, 1, 4, false, true, .soft⟩ /- DROP_FROZEN_CNT -/,
  ⟨0x130, 1, 4, false, true, .soft⟩ /- H_DROP_CNT -/,
  ⟨0x134, 1, 4, false, true, .soft⟩ /- L2_LEARN_FAIL_CNT -/,
  ⟨0x138, 1, 4, false, true, .soft⟩ /- PIN_REDIRECT_CNT -/,
  ⟨0x13C, 1, 4, false, true, .soft⟩ /- HOLD_TIMEOUT_CNT -/,
  ⟨0x140, 1, 4, false, true, .soft⟩ /- HOLD_OVF_CNT -/,
  ⟨0x144, 1, 4, false, true, .soft⟩ /- HOLD_STALE_CNT -/,
  ⟨0x148, 1, 4, false, true, .soft⟩ /- L2_MOVE_CNT -/,
  ⟨0x14C, 1, 4, false, true, .soft⟩ /- DROP_SELF_CNT -/]

/-- Attention causes of PKE: L2_FULL 0, FLOW_LOST 4, HOLD_FULL 8. -/
def pkeCauses : List CauseDef := [⟨0, 0, 2, false, true⟩, ⟨4, 1, 3, false, false⟩, ⟨8, 2, 2, false, true⟩]

/-- Registers of ETH (spec/13_ethernet.md). -/
def ethRegs0 : List RegDef := [
  -- MODE: SPEED, AN, FEC, MODE
  ⟨0x040, 1, 4, [⟨10, 9, .rw, 2, .u 0 2⟩, ⟨8, 8, .rw, 1, .any⟩, ⟨5, 4, .rw, 0, .u 0 2⟩, ⟨2, 0, .rw, 0, .u 0 6⟩]⟩,
  -- MAX_FRAME: MAX
  ⟨0x044, 1, 4, [⟨13, 0, .rw, 1522, .u 1518 10240⟩]⟩,
  -- FC_CFG: QUANTA, MODE
  ⟨0x048, 1, 4, [⟨31, 16, .rw, 0xFFFF, .u 1 65535⟩, ⟨1, 0, .rw, 0, .u 0 2⟩]⟩,
  -- FC_STAT: HELD_RESET, TX_XOFF, RX_PAUSED
  ⟨0x04C, 1, 4, [⟨16, 16, .ro, 0, .any⟩, ⟨15, 8, .ro, 0, .any⟩, ⟨7, 0, .ro, 0, .any⟩]⟩,
  -- FC_THR_0: XON_KIB, XOFF_KIB
  ⟨0x050, 1, 4, [⟨31, 16, .rw, 128, .u 1 2560⟩, ⟨15, 0, .rw, 192, .u 2 2560⟩]⟩,
  -- FC_THR_k: XON_KIB, XOFF_KIB
  ⟨0x054, 7, 4, [⟨31, 16, .rw, 16, .u 1 2560⟩, ⟨15, 0, .rw, 24, .u 2 2560⟩]⟩,
  -- PREEMPT_CFG: VERIFY_MS, EXPRESS, ADD_FRAG, VERIFY_DIS, EN
  ⟨0x070, 1, 4, [⟨23, 16, .rw, 10, .u 1 128⟩, ⟨15, 8, .rw, 0xC0, .any⟩, ⟨3, 2, .rw, 0, .any⟩, ⟨1, 1, .rw, 0, .any⟩, ⟨0, 0, .rw, 0, .any⟩]⟩,
  -- PREEMPT_STAT: VERIFY
  ⟨0x074, 1, 4, [⟨1, 0, .ro, 0, .any⟩]⟩,
  -- EEE_CFG: WAKE_US, IDLE_US, EN
  ⟨0x078, 1, 4, [⟨31, 24, .rw, 16, .u 1 255⟩, ⟨23, 8, .rw, 50, .u 1 65535⟩, ⟨0, 0, .rw, 0, .any⟩]⟩,
  -- TS_ADJ: RX, TX
  ⟨0x084, 1, 4, [⟨31, 16, .rw, 0, .any⟩, ⟨15, 0, .rw, 0, .any⟩]⟩,
  -- LINK_STAT: LOCAL_FAULT, REMOTE_FAULT, FEC_LOCK, LPI_RX, LPI_TX, RATE, LINK
  ⟨0x088, 1, 4, [⟨8, 8, .ro, 0, .any⟩, ⟨7, 7, .ro, 0, .any⟩, ⟨6, 6, .ro, 0, .any⟩, ⟨5, 5, .ro, 0, .any⟩, ⟨4, 4, .ro, 0, .any⟩, ⟨3, 1, .ro, 0, .any⟩, ⟨0, 0, .ro, 0, .any⟩]⟩,
  -- MAC_LO: MAC_LO
  ⟨0x08C, 1, 4, [⟨31, 0, .rw, 0, .any⟩]⟩,
  -- MAC_HI: MAC_HI
  ⟨0x090, 1, 4, [⟨15, 0, .rw, 0, .any⟩]⟩]

/-- Registers of ETH present on ETH_0 and ETH_1 alone. -/
def ethRegsStride : List RegDef := [
  -- STRIDE_CFG: LEAD_US, MAX_VER, MIN_VER, EN
  ⟨0x07C, 1, 4, [⟨31, 16, .rw, 100, .u 20 10000⟩, ⟨15, 12, .rw, 2, .u 1 2⟩, ⟨11, 8, .rw, 1, .u 1 2⟩, ⟨0, 0, .rw, 0, .any⟩]⟩,
  -- STRIDE_STAT: VERSION, PARTNER, RUNNING, RESULT
  ⟨0x080, 1, 4, [⟨11, 8, .ro, 0, .any⟩, ⟨7, 7, .ro, 0, .any⟩, ⟨6, 6, .ro, 0, .any⟩, ⟨2, 0, .ro, 0, .any⟩]⟩]

/-- All block registers of ETH. -/
def ethRegs (n : Nat) : List RegDef := ethRegs0 ++ (if n ≤ 1 then ethRegsStride else [])

/-- Counters of ETH. -/
def ethCtrs : List CtrDef := [
  ⟨0x100, 1, 4, false, false, .soft⟩ /- RX_OK_CNT -/,
  ⟨0x104, 1, 4, true, false, .soft⟩ /- RX_OCTET_CNT -/,
  ⟨0x10C, 1, 4, false, true, .soft⟩ /- RX_RUNT_CNT -/,
  ⟨0x110, 1, 4, false, true, .soft⟩ /- RX_OVERSIZE_CNT -/,
  ⟨0x114, 1, 4, false, true, .soft⟩ /- RX_FCS_ERR_CNT -/,
  ⟨0x118, 1, 4, false, true, .soft⟩ /- RX_OVERFLOW_CNT -/,
  ⟨0x11C, 1, 4, false, true, .soft⟩ /- RX_REASM_ERR_CNT -/,
  ⟨0x120, 1, 4, false, false, .soft⟩ /- RX_PAUSE_CNT -/,
  ⟨0x124, 1, 4, false, false, .soft⟩ /- RX_PFC_CNT -/,
  ⟨0x128, 1, 4, false, true, .soft⟩ /- RX_PAUSE_ZERO_CNT -/,
  ⟨0x12C, 1, 4, false, true, .soft⟩ /- RX_CTRL_OTHER_CNT -/,
  ⟨0x130, 1, 4, false, false, .soft⟩ /- TX_OK_CNT -/,
  ⟨0x134, 1, 4, true, false, .soft⟩ /- TX_OCTET_CNT -/,
  ⟨0x13C, 1, 4, false, true, .soft⟩ /- TX_OVERSIZE_CNT -/,
  ⟨0x140, 1, 4, false, true, .soft⟩ /- TX_ABORT_CNT -/,
  ⟨0x144, 1, 4, false, false, .soft⟩ /- TX_PAUSE_CNT -/,
  ⟨0x148, 1, 4, false, false, .soft⟩ /- TX_PFC_CNT -/,
  ⟨0x14C, 1, 4, false, false, .soft⟩ /- FRAG_TX_CNT -/,
  ⟨0x150, 1, 4, false, true, .soft⟩ /- VERIFY_FAIL_CNT -/,
  ⟨0x154, 1, 4, false, false, .soft⟩ /- LPI_TX_CNT -/,
  ⟨0x158, 1, 4, false, true, .soft⟩ /- LINK_DOWN_CNT -/,
  ⟨0x15C, 1, 4, false, false, .soft⟩ /- STRIDE_CNT -/,
  ⟨0x160, 1, 4, false, false, .soft⟩ /- STRIDE_RX_CNT -/]

/-- Attention causes of ETH: LINK_CHANGE 0, STRIDE_END 4, STRIDE_FAIL 8, VERIFY_FAIL 12. -/
def ethCauses : List CauseDef := [⟨0, 0, 1, false, false⟩, ⟨4, 1, 1, false, false⟩, ⟨8, 2, 3, false, false⟩, ⟨12, 3, 2, false, false⟩]

/-- Registers of MEM (spec/14_memory.md). -/
def memRegs0 : List RegDef := [
  -- INK_PART0: HOST, RX, ETH
  ⟨0x040, 1, 4, [⟨23, 16, .rw, 16, .any⟩, ⟨15, 8, .rw, 24, .any⟩, ⟨7, 0, .rw, 40, .any⟩]⟩,
  -- INK_PART1: TXC, TXB, TXA
  ⟨0x044, 1, 4, [⟨23, 16, .rw, 28, .any⟩, ⟨15, 8, .rw, 16, .any⟩, ⟨7, 0, .rw, 4, .any⟩]⟩,
  -- INK_CTRL: COMMIT
  ⟨0x048, 1, 4, [⟨0, 0, .rw1s, 0, .any⟩]⟩,
  -- INK_USE_k: PEAK, USE
  ⟨0x050, 6, 4, [⟨31, 16, .rw, 0, .any⟩, ⟨15, 0, .ro, 0, .any⟩]⟩,
  -- DDR_CFG: EN, RANKS, WIDTH, DENSITY, SPEED
  ⟨0x080, 1, 4, [⟨8, 8, .rw, 0, .any⟩, ⟨7, 7, .rw, 0, .any⟩, ⟨6, 6, .rw, 0, .any⟩, ⟨5, 4, .rw, 0, .u 0 2⟩, ⟨2, 0, .rw, 4, .u 0 4⟩]⟩,
  -- DDR_STAT: HOT, STATE
  ⟨0x084, 1, 4, [⟨8, 8, .ro, 0, .any⟩, ⟨2, 0, .ro, 0, .any⟩]⟩,
  -- INIT_CFG: BG_PCT, EARLY_MIB
  ⟨0x088, 1, 4, [⟨23, 16, .rw, 25, .u 5 100⟩, ⟨15, 0, .rw, 512, .u 64 32768⟩]⟩,
  -- INIT_STAT: FRONTIER_MIB
  ⟨0x08C, 1, 4, [⟨15, 0, .ro, 0, .any⟩]⟩,
  -- TRAIN_CFG: ZQ_MS, OSC_MS, DRIFT_PS
  ⟨0x090, 1, 4, [⟨23, 16, .rw, 128, .u 16 255⟩, ⟨15, 8, .rw, 10, .u 1 100⟩, ⟨7, 0, .rw, 20, .u 5 100⟩]⟩,
  -- SCRUB_CFG: PERIOD_H
  ⟨0x094, 1, 4, [⟨15, 0, .rw, 24, .any⟩]⟩,
  -- FRZ_CFG: WDOG_MS
  ⟨0x098, 1, 4, [⟨15, 0, .rw, 2000, .u 100 60000⟩]⟩,
  -- FRZ_INFO: RANK, SUBCH, PORT, CMD, CAUSE
  ⟨0x0A0, 1, 4, [⟨17, 17, .ro, 0, .any⟩, ⟨16, 16, .ro, 0, .any⟩, ⟨11, 8, .ro, 0, .any⟩, ⟨5, 4, .ro, 0, .any⟩, ⟨1, 0, .ro, 0, .any⟩]⟩,
  -- FRZ_ADDR_LO: ADDR
  ⟨0x0A4, 1, 4, [⟨31, 0, .ro, 0, .any⟩]⟩,
  -- FRZ_ADDR_HI: ADDR_HI
  ⟨0x0A8, 1, 4, [⟨2, 0, .ro, 0, .any⟩]⟩,
  -- FRZ_TIME_LO: TIME
  ⟨0x0AC, 1, 4, [⟨31, 0, .ro, 0, .any⟩]⟩,
  -- FRZ_TIME_HI: TIME_HI
  ⟨0x0B0, 1, 4, [⟨31, 0, .ro, 0, .any⟩]⟩]

/-- Registers of MEM (spec/14_memory.md), continued. -/
def memRegs1 : List RegDef := [
  -- FRZ_SYND_k: SYND
  ⟨0x0B4, 4, 4, [⟨31, 0, .ro, 0, .any⟩]⟩,
  -- PORT_CFG_0: TARGET
  ⟨0x0D0, 1, 4, [⟨11, 0, .rw, 100, .any⟩]⟩,
  -- PORT_CFG_1: TARGET
  ⟨0x0D4, 1, 4, [⟨11, 0, .rw, 200, .any⟩]⟩,
  -- PORT_CFG_2: TARGET
  ⟨0x0D8, 1, 4, [⟨11, 0, .rw, 200, .any⟩]⟩,
  -- PORT_CFG_3: TARGET
  ⟨0x0DC, 1, 4, [⟨11, 0, .rw, 200, .any⟩]⟩,
  -- PORT_CFG_4: TARGET
  ⟨0x0E0, 1, 4, [⟨11, 0, .rw, 200, .any⟩]⟩,
  -- PORT_CFG_5: TARGET
  ⟨0x0E4, 1, 4, [⟨11, 0, .rw, 300, .any⟩]⟩,
  -- PORT_CFG_6: TARGET
  ⟨0x0E8, 1, 4, [⟨11, 0, .rw, 300, .any⟩]⟩,
  -- PORT_CFG_7: TARGET
  ⟨0x0EC, 1, 4, [⟨11, 0, .rw, 400, .any⟩]⟩,
  -- PORT_CFG_8: TARGET
  ⟨0x0F0, 1, 4, [⟨11, 0, .rw, 400, .any⟩]⟩,
  -- PORT_CFG_9: TARGET
  ⟨0x0F4, 1, 4, [⟨11, 0, .rw, 800, .any⟩]⟩,
  -- PORT_CFG_10: TARGET
  ⟨0x0F8, 1, 4, [⟨11, 0, .rw, 0, .any⟩]⟩,
  -- PORT_CFG_11: TARGET
  ⟨0x0FC, 1, 4, [⟨11, 0, .rw, 0, .any⟩]⟩]

/-- All block registers of MEM. -/
def memRegs : List RegDef := memRegs0 ++ memRegs1

/-- Counters of MEM. -/
def memCtrs : List CtrDef := [
  ⟨0x100, 1, 4, false, true, .keep⟩ /- ECC_CE_CNT -/,
  ⟨0x104, 1, 4, false, true, .keep⟩ /- ECC_UE_CNT -/,
  ⟨0x108, 1, 4, false, true, .keep⟩ /- WCRC_RETRY_CNT -/,
  ⟨0x10C, 1, 4, false, true, .keep⟩ /- FREEZE_CNT -/,
  ⟨0x110, 1, 4, false, true, .keep⟩ /- POISON_READ_CNT -/,
  ⟨0x114, 1, 4, false, false, .keep⟩ /- RETRAIN_CNT -/,
  ⟨0x118, 1, 4, false, true, .keep⟩ /- INK_CE_CNT -/,
  ⟨0x11C, 1, 4, false, true, .keep⟩ /- INK_UE_CNT -/,
  ⟨0x140, 12, 4, false, true, .keep⟩ /- LAT_MISS_CNT -/]

/-- Attention causes of MEM: DRAM_FROZEN 0, FREEZE_WDOG 4, TRAIN_FAIL 8, DRAM_HOT 12, INK_UE 16. -/
def memCauses : List CauseDef := [⟨0, 0, 5, true, true⟩, ⟨4, 1, 4, false, false⟩, ⟨8, 2, 4, false, true⟩, ⟨12, 3, 2, false, true⟩, ⟨16, 4, 4, false, false⟩]

/-- Registers of MSH (spec/16_mesh.md). -/
def mshRegs0 : List RegDef := [
  -- MESH_CFG: EN, COORD_EN, RADIO, BSS, STA_FIRST
  ⟨0x040, 1, 4, [⟨31, 31, .rw, 0, .any⟩, ⟨30, 30, .rw, 0, .any⟩, ⟨25, 24, .rw, 2, .u 0 2⟩, ⟨23, 20, .rw, 0, .any⟩, ⟨9, 0, .rw, 991, .u 0 991⟩]⟩,
  -- ROOT_CFG: PRIO, UPLINK_HOLD_S, CHAN, UPLINK
  ⟨0x044, 1, 4, [⟨31, 24, .rw, 0, .any⟩, ⟨23, 16, .rw, 10, .u 1 255⟩, ⟨14, 10, .rw, 0, .any⟩, ⟨9, 0, .rw, 0, .any⟩]⟩,
  -- JOIN_CFG: MIN_RSSI, MAX_DEPTH, JOIN_TIMEOUT, MAX_CHILD
  ⟨0x048, 1, 4, [⟨31, 24, .rw, 0xB5, .s (-95) (-40)⟩, ⟨19, 16, .rw, 8, .u 1 15⟩, ⟨11, 8, .rw, 4, .u 2 15⟩, ⟨5, 0, .rw, 32, .u 0 32⟩]⟩,
  -- SCAN_CFG: DWELL_MS, COUNT
  ⟨0x04C, 1, 4, [⟨31, 16, .rw, 105, .u 30 1000⟩, ⟨4, 0, .rw, 1, .u 1 30⟩]⟩,
  -- LEASE_CFG: LEASE_S
  ⟨0x050, 1, 4, [⟨15, 0, .rw, 600, .u 60 3600⟩]⟩,
  -- RELAY_CFG: JITTER_US, SUPPRESS
  ⟨0x054, 1, 4, [⟨31, 16, .rw, 2000, .u 0 20000⟩, ⟨3, 0, .rw, 3, .any⟩]⟩,
  -- VER_CFG: MAX_VER, MIN_VER
  ⟨0x058, 1, 4, [⟨11, 8, .rw, 3, .u 1 3⟩, ⟨7, 4, .rw, 1, .u 1 3⟩]⟩,
  -- SLEEP_CFG: GUARD_US, BCN_LATE_US
  ⟨0x05C, 1, 4, [⟨31, 16, .rw, 2000, .u 100 8000⟩, ⟨15, 0, .rw, 1000, .u 0 10000⟩]⟩,
  -- START_CFG: FTM_MS
  ⟨0x060, 1, 4, [⟨9, 0, .rw, 40, .u 16 1000⟩]⟩,
  -- MESH_ID: MESH_ID
  ⟨0x064, 1, 4, [⟨31, 0, .rw, 0, .any⟩]⟩,
  -- NODE_STAT: STATE, DEPTH, CHILDREN, ADDR
  ⟨0x070, 1, 4, [⟨31, 28, .ro, 0, .any⟩, ⟨27, 24, .ro, 0, .any⟩, ⟨21, 16, .ro, 0, .any⟩, ⟨9, 0, .ro, 0, .any⟩]⟩,
  -- PARENT_STAT: VERSION, PARENT, RSSI
  ⟨0x074, 1, 4, [⟨31, 28, .ro, 0, .any⟩, ⟨25, 16, .ro, 0, .any⟩, ⟨7, 0, .ro, 0, .any⟩]⟩,
  -- SLEEP_STAT: G_US, MISSES, MODE
  ⟨0x078, 1, 4, [⟨31, 16, .ro, 0, .any⟩, ⟨5, 4, .ro, 0, .any⟩, ⟨1, 0, .ro, 0, .any⟩]⟩,
  -- LEASE_STAT: LEASE_S
  ⟨0x07C, 1, 4, [⟨15, 0, .ro, 0, .any⟩]⟩,
  -- SEEN_STAT: SEEN
  ⟨0x080, 1, 4, [⟨12, 0, .ro, 0, .any⟩]⟩,
  -- CHAN_k: CENTER_MHZ, WIDTH, PRIMARY
  ⟨0x0C0, 30, 4, [⟨28, 16, .rw, 0, .any⟩, ⟨10, 8, .rw, 0, .u 0 4⟩, ⟨7, 0, .rw, 0, .any⟩]⟩]

/-- All block registers of MSH. -/
def mshRegs : List RegDef := mshRegs0

/-- Counters of MSH. -/
def mshCtrs : List CtrDef := [
  ⟨0x180, 1, 4, false, false, .keep⟩ /- JOIN_REQ_CNT -/,
  ⟨0x184, 1, 4, false, true, .keep⟩ /- JOIN_RETRY_CNT -/,
  ⟨0x188, 1, 4, false, false, .keep⟩ /- GRANT_TX_CNT -/,
  ⟨0x18C, 1, 4, false, true, .keep⟩ /- LEASE_EXPIRE_CNT -/,
  ⟨0x190, 1, 4, false, false, .keep⟩ /- RELAY_RX_CNT -/,
  ⟨0x194, 1, 4, false, false, .keep⟩ /- RELAY_DUP_CNT -/,
  ⟨0x198, 1, 4, false, false, .keep⟩ /- RELAY_FWD_CNT -/,
  ⟨0x19C, 1, 4, false, false, .keep⟩ /- RELAY_SUPPR_CNT -/,
  ⟨0x1A0, 1, 4, false, true, .keep⟩ /- SEEN_EVICT_CNT -/,
  ⟨0x1A4, 1, 4, false, true, .keep⟩ /- VER_REJECT_CNT -/,
  ⟨0x1A8, 1, 4, false, true, .keep⟩ /- WIN_MISS_CNT -/,
  ⟨0x1AC, 1, 4, false, true, .keep⟩ /- PARENT_LOST_CNT -/,
  ⟨0x1B0, 1, 4, false, true, .keep⟩ /- REATTACH_CNT -/,
  ⟨0x1B4, 1, 4, false, true, .keep⟩ /- FULL_SCAN_CNT -/,
  ⟨0x1B8, 1, 4, false, true, .keep⟩ /- CHILD_LOST_CNT -/,
  ⟨0x1BC, 1, 4, false, true, .keep⟩ /- MSG_DROP_CNT -/]

/-- Attention causes of MSH: PARENT_LOST 0, ROOT_CHANGE 4, ADDR_CHANGED 8, MSG_PENDING 12. -/
def mshCauses : List CauseDef := [⟨0, 0, 3, false, false⟩, ⟨4, 1, 2, false, false⟩, ⟨8, 2, 2, false, false⟩, ⟨12, 3, 1, false, true⟩]

/-- The registers of a block. -/
def blkRegs : Blk → List RegDef
  | .glb => glbRegs
  | .hci => hciRegs
  | .pmu => pmuRegs
  | .mgt => mgtRegs
  | .tmu => tmuRegs
  | .rgl => rglRegs
  | .pci => pciRegs
  | .bst => bstRegs
  | .rfe r => rfeRegs r
  | .phy r => phyRegs r
  | .mac r => macRegs r
  | .mld => mldRegs
  | .asc => ascRegs
  | .qar => qarRegs
  | .tmg => tmgRegs
  | .pke => pkeRegs
  | .eth n => ethRegs n
  | .mem => memRegs
  | .msh => mshRegs

/-- The counters of a block. -/
def blkCtrs : Blk → List CtrDef
  | .glb => glbCtrs
  | .hci => hciCtrs
  | .pmu => pmuCtrs
  | .mgt => mgtCtrs
  | .tmu => tmuCtrs
  | .rgl => rglCtrs
  | .pci => pciCtrs
  | .bst => bstCtrs
  | .rfe _ => rfeCtrs
  | .phy _ => phyCtrs
  | .mac _ => macCtrs
  | .mld => mldCtrs
  | .asc => ascCtrs
  | .qar => qarCtrs
  | .tmg => tmgCtrs
  | .pke => pkeCtrs
  | .eth _ => ethCtrs
  | .mem => memCtrs
  | .msh => mshCtrs

/-- The attention causes of a block. -/
def blkCauses : Blk → List CauseDef
  | .glb => glbCauses
  | .hci => hciCauses
  | .pmu => pmuCauses
  | .mgt => mgtCauses
  | .tmu => tmuCauses
  | .rgl => rglCauses
  | .pci => pciCauses
  | .bst => bstCauses
  | .rfe _ => rfeCauses
  | .phy r => phyCauses r
  | .mac _ => macCauses
  | .mld => mldCauses
  | .asc => ascCauses
  | .qar => qarCauses
  | .tmg => tmgCauses
  | .pke => pkeCauses
  | .eth _ => ethCauses
  | .mem => memCauses
  | .msh => mshCauses

end Sys2Proof.Machine
end

