-- ==== Sys2Proof/Machine/RegNames.lean ====
section
/-! DEFINITION. The addresses of the registers and counters, under the names the spec gives them, and the numbers of the
attention causes. -/

namespace Sys2Proof.Machine

/-- The first page of a block (spec/02 R62). -/
def blkPage : Blk → Nat
  | .glb => 0x000
  | .hci => 0x010
  | .pmu => 0x020
  | .mgt => 0x030
  | .tmu => 0x050
  | .rgl => 0x060
  | .pci => 0x070
  | .bst => 0x080
  | .rfe r => 0x100 + 0x40 * r.num
  | .phy r => 0x200 + 0x40 * r.num
  | .mac r => 0x300 + 0x40 * r.num
  | .mld => 0x3C0
  | .asc => 0x400
  | .qar => 0x440
  | .tmg => 0x500
  | .pke => 0x600
  | .eth n => 0x700 + 0x10 * n
  | .mem => 0x800
  | .msh => 0x880

def A.GLB.VARIANT : Nat := 0x000040


def A.HCI.ATTN_SEQ : Nat := 0x010040
def A.HCI.ACP_CFG : Nat := 0x010048
def A.HCI.ACP_ADDR : Nat := 0x01004C
def A.HCI.ACP_HWM (k : Nat) : Nat := 0x010060 + 4 * k
def A.HCI.ACP_KEY (k : Nat) : Nat := 0x010080 + 4 * k
def A.HCI.ACP_AUTH_FAIL : Nat := 0x010100
def A.HCI.ACP_REPLAY_DROP : Nat := 0x010104
def A.HCI.ACP_MALFORMED : Nat := 0x010108
def A.HCI.SPI_CRC_ERR : Nat := 0x01010C
def A.HCI.SPI_REJECT : Nat := 0x010110
def A.HCI.INTERNAL_CNT : Nat := 0x010114

def Cause.HCI.ACP_AUTH_BURST : Nat := 0
def Cause.HCI.SESSION_FULL : Nat := 4
def Cause.HCI.RING_ERROR : Nat := 8

def A.PMU.MODE : Nat := 0x020040
def A.PMU.STAT : Nat := 0x020044
def A.PMU.ENTRY_STAT : Nat := 0x020048
def A.PMU.WAKE_EN : Nat := 0x02004C
def A.PMU.WAKE_AT_LO : Nat := 0x020050
def A.PMU.WAKE_AT_HI : Nat := 0x020054
def A.PMU.VIN_CFG : Nat := 0x020058
def A.PMU.RESUME_BASE_LO : Nat := 0x02005C
def A.PMU.RESUME_BASE_HI : Nat := 0x020060
def A.PMU.AON_STAT : Nat := 0x020064
def A.PMU.IDLE_CNT : Nat := 0x020100
def A.PMU.SLEEP_CNT : Nat := 0x020104
def A.PMU.DEEP_CNT : Nat := 0x020108
def A.PMU.ENTRY_REFUSE_CNT : Nat := 0x02010C
def A.PMU.VIN_WARN_CNT : Nat := 0x020110
def A.PMU.BROWNOUT_CNT : Nat := 0x020114

def Cause.PMU.VIN_WARN : Nat := 0
def Cause.PMU.ENTRY_REFUSED : Nat := 4
def Cause.PMU.RESUME_FAIL : Nat := 8

def A.MGT.EVT_SEL : Nat := 0x030040
def A.MGT.EVT_PEND : Nat := 0x030044
def A.MGT.DRAM_WIN : Nat := 0x030048
def A.MGT.WDOG : Nat := 0x03004C
def A.MGT.BOOT_STAT : Nat := 0x030060
def A.MGT.LC_STAT : Nat := 0x030064
def A.MGT.UID (k : Nat) : Nat := 0x030068 + 4 * k
def A.MGT.UPD_STAT : Nat := 0x030080
def A.MGT.UPD_CFG : Nat := 0x030084
def A.MGT.SLOT_A : Nat := 0x030088
def A.MGT.SLOT_B : Nat := 0x03008C
def A.MGT.OTP_KEYS : Nat := 0x030090
def A.MGT.ARB_CNT : Nat := 0x030094
def A.MGT.BLT_CFG : Nat := 0x0300A0
def A.MGT.BLT_STAT : Nat := 0x0300A4
def A.MGT.BLT_COMMIT_SEQ : Nat := 0x0300A8
def A.MGT.TEMP_CFG : Nat := 0x0300B0
def A.MGT.TEMP (k : Nat) : Nat := 0x0300C0 + 4 * k
def A.MGT.VM (k : Nat) : Nat := 0x030100 + 4 * k
def A.MGT.IIN : Nat := 0x030118
def A.MGT.PIN : Nat := 0x03011C
def A.MGT.BLT_DROP_CNT : Nat := 0x030180
def A.MGT.UPD_FAIL_CNT : Nat := 0x030184
def A.MGT.MP_RESTART_CNT : Nat := 0x030188

def Cause.MGT.TEMP_WARN : Nat := 0
def Cause.MGT.UPD_ROLLBACK : Nat := 4
def Cause.MGT.MP_RESTART : Nat := 8
def Cause.MGT.FLASH_FAIL : Nat := 12

def A.TMU.SERVO_CFG : Nat := 0x050040
def A.TMU.SERVO_GAIN : Nat := 0x050044
def A.TMU.SERVO_LIM : Nat := 0x050048
def A.TMU.SERVO_LIM2 : Nat := 0x05004C
def A.TMU.SERVO_STAT : Nat := 0x050050
def A.TMU.OFS_LAST : Nat := 0x050054
def A.TMU.FREQ : Nat := 0x050058
def A.TMU.PTP_CFG0 : Nat := 0x050060
def A.TMU.PTP_CFG1 : Nat := 0x050064
def A.TMU.FTM_CFG : Nat := 0x050068
def A.TMU.PPS_CFG : Nat := 0x05006C
def A.TMU.SLEEP_CFG : Nat := 0x050070
def A.TMU.SLEEP_STAT : Nat := 0x050074
def A.TMU.AIR_ADJ (k : Nat) : Nat := 0x050080 + 4 * k
def A.TMU.SAMPLE_CNT : Nat := 0x050100
def A.TMU.SAMPLE_REJECT_CNT : Nat := 0x050104
def A.TMU.STEP_CNT : Nat := 0x050108
def A.TMU.LAUNCH_LATE_CNT : Nat := 0x05010C
def A.TMU.PTP_RX_CNT : Nat := 0x050110
def A.TMU.PTP_TX_CNT : Nat := 0x050114
def A.TMU.FTM_FAIL_CNT : Nat := 0x050118
def A.TMU.PPS_MISS_CNT : Nat := 0x05011C

def Cause.TMU.SERVO_CHANGE : Nat := 0
def Cause.TMU.TIME_STEP : Nat := 4
def Cause.TMU.HOLDOVER : Nat := 8

def A.RGL.OTP_STAT : Nat := 0x060040
def A.RGL.EFF (k : Nat) : Nat := 0x060044 + 4 * k
def A.RGL.DUTY_NOW (k : Nat) : Nat := 0x060050 + 4 * k
def A.RGL.DET_CORR (k : Nat) : Nat := 0x060060 + 4 * k
def A.RGL.OTP_W (k : Nat) : Nat := 0x060100 + 4 * k
def A.RGL.FIELD_CHAN (k : Nat) : Nat := 0x060200 + 4 * k
def A.RGL.FIELD_PWR0 : Nat := 0x060260
def A.RGL.FIELD_PWR1 : Nat := 0x060264
def A.RGL.FIELD_PWR2 : Nat := 0x060268
def A.RGL.FIELD_PWR3 : Nat := 0x06026C
def A.RGL.FIELD_DUTY : Nat := 0x060270
def A.RGL.TEST_W (k : Nat) : Nat := 0x060300 + 4 * k
def A.RGL.CLAMP_CNT (k : Nat) : Nat := 0x060400 + 4 * k
def A.RGL.CHAN_REFUSE_CNT (k : Nat) : Nat := 0x06040C + 4 * k
def A.RGL.DUTY_HOLD_CNT (k : Nat) : Nat := 0x060418 + 4 * k
def A.RGL.DUTY_DROP_CNT (k : Nat) : Nat := 0x060424 + 4 * k

def Cause.RGL.REQ_CLAMPED : Nat := 0
def Cause.RGL.DUTY_LIMIT : Nat := 4
def Cause.RGL.CHAN_REFUSED : Nat := 8
def Cause.RGL.DETECT_OVER : Nat := 12
def Cause.RGL.OTP_INVALID : Nat := 16



def A.BST.BOOT_SEL : Nat := 0x080040
def A.BST.STAT : Nat := 0x080044
def A.BST.RUN_CNT : Nat := 0x080100
def A.BST.FAIL_CNT : Nat := 0x080104
def A.BST.INCOMPLETE_CNT : Nat := 0x080108
def A.BST.ALIAS_CNT : Nat := 0x08010C
def A.BST.REFUSE_CNT : Nat := 0x080110

def Cause.BST.SELFTEST_DONE : Nat := 0
def Cause.BST.SELFTEST_FAIL : Nat := 4
def Cause.BST.SIGNATURE_ALIAS : Nat := 8

def A.RFE.STATE_CMD (r : Radio) : Nat := 0x100000 + 0x40000 * r.num + 0x040
def A.RFE.STATE (r : Radio) : Nat := 0x100000 + 0x40000 * r.num + 0x044
def A.RFE.CHAN (r : Radio) : Nat := 0x100000 + 0x40000 * r.num + 0x048
def A.RFE.CHAIN_EN (r : Radio) : Nat := 0x100000 + 0x40000 * r.num + 0x04C
def A.RFE.SYN_CFG (r : Radio) : Nat := 0x100000 + 0x40000 * r.num + 0x050
def A.RFE.IF_CFG (r : Radio) : Nat := 0x100000 + 0x40000 * r.num + 0x054
def A.RFE.CAL_CFG (r : Radio) : Nat := 0x100000 + 0x40000 * r.num + 0x058
def A.RFE.RAMP_CFG (r : Radio) : Nat := 0x100000 + 0x40000 * r.num + 0x05C
def A.RFE.FEM_MAP (r : Radio) : Nat := 0x100000 + 0x40000 * r.num + 0x060
def A.RFE.FEM_TIME (r : Radio) : Nat := 0x100000 + 0x40000 * r.num + 0x064
def A.RFE.FEM_BIAS (r : Radio) : Nat := 0x100000 + 0x40000 * r.num + 0x068
def A.RFE.IMG_STAT (r : Radio) : Nat := 0x100000 + 0x40000 * r.num + 0x080
def A.RFE.CAL_STAT (r : Radio) : Nat := 0x100000 + 0x40000 * r.num + 0x084
def A.RFE.UNLOCK_CNT (r : Radio) : Nat := 0x100000 + 0x40000 * r.num + 0x100
def A.RFE.TX_LATE_CNT (r : Radio) : Nat := 0x100000 + 0x40000 * r.num + 0x104
def A.RFE.TX_WAIT_CNT (r : Radio) : Nat := 0x100000 + 0x40000 * r.num + 0x108
def A.RFE.CAL_ABORT_CNT (r : Radio) : Nat := 0x100000 + 0x40000 * r.num + 0x10C
def A.RFE.CAL_RUN_CNT (r : Radio) : Nat := 0x100000 + 0x40000 * r.num + 0x110
def A.RFE.CAL_DEFER_CNT (r : Radio) : Nat := 0x100000 + 0x40000 * r.num + 0x114

def Cause.RFE.SYN_UNLOCK : Nat := 0
def Cause.RFE.CAL_OVERDUE : Nat := 4
def Cause.RFE.IMG_LOW : Nat := 8

def A.PHY.DET_CFG (r : Radio) : Nat := 0x200000 + 0x40000 * r.num + 0x040
def A.PHY.AGC_CFG (r : Radio) : Nat := 0x200000 + 0x40000 * r.num + 0x044
def A.PHY.AGC_MAN (r : Radio) : Nat := 0x200000 + 0x40000 * r.num + 0x048
def A.PHY.OVT_CFG (r : Radio) : Nat := 0x200000 + 0x40000 * r.num + 0x04C
def A.PHY.CCA_CFG (r : Radio) : Nat := 0x200000 + 0x40000 * r.num + 0x050
def A.PHY.OBSS_CFG (r : Radio) : Nat := 0x200000 + 0x40000 * r.num + 0x054
def A.PHY.DEC_CFG (r : Radio) : Nat := 0x200000 + 0x40000 * r.num + 0x058
def A.PHY.RX_STAT (r : Radio) : Nat := 0x200000 + 0x40000 * r.num + 0x060
def A.PHY.CCA_STAT (r : Radio) : Nat := 0x200000 + 0x40000 * r.num + 0x064
def A.PHY.RADAR_CFG (r : Radio) : Nat := 0x200000 + 0x40000 * r.num + 0x070
def A.PHY.RADAR_FIFO0 (r : Radio) : Nat := 0x200000 + 0x40000 * r.num + 0x080
def A.PHY.RADAR_FIFO1 (r : Radio) : Nat := 0x200000 + 0x40000 * r.num + 0x084
def A.PHY.TX_CFG (r : Radio) : Nat := 0x200000 + 0x40000 * r.num + 0x090
def A.PHY.SND_CFG (r : Radio) : Nat := 0x200000 + 0x40000 * r.num + 0x094
def A.PHY.FB_STAT (r : Radio) : Nat := 0x200000 + 0x40000 * r.num + 0x098
def A.PHY.TX_PWR_LAST (r : Radio) (k : Nat) : Nat := 0x200000 + 0x40000 * r.num + 0x0A0 + 4 * k
def A.PHY.DET_CNT (r : Radio) : Nat := 0x200000 + 0x40000 * r.num + 0x100
def A.PHY.FALSESTART_CNT (r : Radio) : Nat := 0x200000 + 0x40000 * r.num + 0x104
def A.PHY.FALSESTART_LOSS_EST (r : Radio) : Nat := 0x200000 + 0x40000 * r.num + 0x108
def A.PHY.OVT_CNT (r : Radio) : Nat := 0x200000 + 0x40000 * r.num + 0x10C
def A.PHY.OVT_SUPPR_CNT (r : Radio) : Nat := 0x200000 + 0x40000 * r.num + 0x110
def A.PHY.SIG_FAIL_CNT (r : Radio) : Nat := 0x200000 + 0x40000 * r.num + 0x114
def A.PHY.UNSUPP_CNT (r : Radio) : Nat := 0x200000 + 0x40000 * r.num + 0x118
def A.PHY.CFO_REJECT_CNT (r : Radio) : Nat := 0x200000 + 0x40000 * r.num + 0x11C
def A.PHY.OBSS_PD_CNT (r : Radio) : Nat := 0x200000 + 0x40000 * r.num + 0x120
def A.PHY.RADAR_OVF_CNT (r : Radio) : Nat := 0x200000 + 0x40000 * r.num + 0x124
def A.PHY.TXV_REJECT_CNT (r : Radio) : Nat := 0x200000 + 0x40000 * r.num + 0x128
def A.PHY.SND_SEQ_CNT (r : Radio) : Nat := 0x200000 + 0x40000 * r.num + 0x12C
def A.PHY.FB_MISS_CNT (r : Radio) : Nat := 0x200000 + 0x40000 * r.num + 0x130
def A.PHY.MU_DROP_CNT (r : Radio) : Nat := 0x200000 + 0x40000 * r.num + 0x134
def A.PHY.BF_UNSTEERED_CNT (r : Radio) : Nat := 0x200000 + 0x40000 * r.num + 0x138

def Cause.PHY.RADAR_PULSE : Nat := 0

def A.MAC.EDCA_AC0 (r : Radio) : Nat := 0x300000 + 0x40000 * r.num + 0x040
def A.MAC.EDCA_AC1 (r : Radio) : Nat := 0x300000 + 0x40000 * r.num + 0x044
def A.MAC.EDCA_AC2 (r : Radio) : Nat := 0x300000 + 0x40000 * r.num + 0x048
def A.MAC.EDCA_AC3 (r : Radio) : Nat := 0x300000 + 0x40000 * r.num + 0x04C
def A.MAC.BCN_CFG (r : Radio) : Nat := 0x300000 + 0x40000 * r.num + 0x050
def A.MAC.ACC_CFG (r : Radio) : Nat := 0x300000 + 0x40000 * r.num + 0x054
def A.MAC.RESP_CFG (r : Radio) : Nat := 0x300000 + 0x40000 * r.num + 0x058
def A.MAC.RETRY_CFG (r : Radio) : Nat := 0x300000 + 0x40000 * r.num + 0x05C
def A.MAC.NAV_STAT (r : Radio) : Nat := 0x300000 + 0x40000 * r.num + 0x060
def A.MAC.OWN_NAV (r : Radio) : Nat := 0x300000 + 0x40000 * r.num + 0x064
def A.MAC.BCN_STAT (r : Radio) : Nat := 0x300000 + 0x40000 * r.num + 0x068
def A.MAC.ADDR_LO (r : Radio) : Nat := 0x300000 + 0x40000 * r.num + 0x070
def A.MAC.ADDR_HI (r : Radio) : Nat := 0x300000 + 0x40000 * r.num + 0x074
def A.MAC.TX_PPDU_CNT (r : Radio) : Nat := 0x300000 + 0x40000 * r.num + 0x100
def A.MAC.TX_MPDU_CNT (r : Radio) : Nat := 0x300000 + 0x40000 * r.num + 0x104
def A.MAC.TX_RETRY_CNT (r : Radio) : Nat := 0x300000 + 0x40000 * r.num + 0x108
def A.MAC.TX_FAIL_CNT (r : Radio) : Nat := 0x300000 + 0x40000 * r.num + 0x10C
def A.MAC.TX_ABORT_CNT (r : Radio) : Nat := 0x300000 + 0x40000 * r.num + 0x110
def A.MAC.UNDERRUN_CNT (r : Radio) : Nat := 0x300000 + 0x40000 * r.num + 0x114
def A.MAC.RU_DROP_CNT (r : Radio) : Nat := 0x300000 + 0x40000 * r.num + 0x118
def A.MAC.OBSS_PWR_CNT (r : Radio) : Nat := 0x300000 + 0x40000 * r.num + 0x11C
def A.MAC.RESP_TX_CNT (r : Radio) : Nat := 0x300000 + 0x40000 * r.num + 0x120
def A.MAC.RESP_SKIP_CNT (r : Radio) : Nat := 0x300000 + 0x40000 * r.num + 0x124
def A.MAC.RESP_TIMEOUT_CNT (r : Radio) : Nat := 0x300000 + 0x40000 * r.num + 0x128
def A.MAC.RX_MPDU_CNT (r : Radio) : Nat := 0x300000 + 0x40000 * r.num + 0x12C
def A.MAC.RX_FCS_ERR_CNT (r : Radio) : Nat := 0x300000 + 0x40000 * r.num + 0x130
def A.MAC.RX_RUNT_CNT (r : Radio) : Nat := 0x300000 + 0x40000 * r.num + 0x134
def A.MAC.RX_OVERSIZE_CNT (r : Radio) : Nat := 0x300000 + 0x40000 * r.num + 0x138
def A.MAC.DUP_CNT (r : Radio) : Nat := 0x300000 + 0x40000 * r.num + 0x13C
def A.MAC.REPLAY_CNT (r : Radio) : Nat := 0x300000 + 0x40000 * r.num + 0x140
def A.MAC.MIC_FAIL_CNT (r : Radio) : Nat := 0x300000 + 0x40000 * r.num + 0x144
def A.MAC.RX_NOKEY_CNT (r : Radio) : Nat := 0x300000 + 0x40000 * r.num + 0x148
def A.MAC.TX_NOKEY_CNT (r : Radio) : Nat := 0x300000 + 0x40000 * r.num + 0x14C
def A.MAC.BCN_TX_CNT (r : Radio) : Nat := 0x300000 + 0x40000 * r.num + 0x150
def A.MAC.BCN_MISS_CNT (r : Radio) : Nat := 0x300000 + 0x40000 * r.num + 0x154
def A.MAC.TWT_SP_CUT_CNT (r : Radio) : Nat := 0x300000 + 0x40000 * r.num + 0x158
def A.MAC.RX_HOST_DROP_CNT (r : Radio) : Nat := 0x300000 + 0x40000 * r.num + 0x15C

def Cause.MAC.BEACON_STARVED : Nat := 0
def Cause.MAC.MIC_FAIL : Nat := 4
def Cause.MAC.RX_HOST_EMPTY : Nat := 8

def A.MLD.LINK_CTRL : Nat := 0x3C0040
def A.MLD.LINK_STAT : Nat := 0x3C0044
def A.MLD.BATON_CFG : Nat := 0x3C0048
def A.MLD.REORDER_CFG : Nat := 0x3C004C
def A.MLD.NSTR_CFG : Nat := 0x3C0050
def A.MLD.ACC_DLY (k : Nat) : Nat := 0x3C0060 + 4 * k
def A.MLD.BIND_CNT (k : Nat) : Nat := 0x3C0100 + 4 * k
def A.MLD.BATON_DEFER_CNT : Nat := 0x3C010C
def A.MLD.XLINK_RETRY_CNT : Nat := 0x3C0110
def A.MLD.BAR_TX_CNT : Nat := 0x3C0114
def A.MLD.HOLE_TIMEOUT_CNT : Nat := 0x3C0118
def A.MLD.HOLE_FORCED_CNT : Nat := 0x3C011C
def A.MLD.RX_NOBUF_CNT : Nat := 0x3C0120
def A.MLD.NSTR_DEFER_CNT : Nat := 0x3C0124
def A.MLD.NSTR_ALIGN_CNT : Nat := 0x3C0128
def A.MLD.QUIESCE_CNT : Nat := 0x3C012C

def Cause.MLD.STR_CHANGED : Nat := 0
def Cause.MLD.REORDER_NOBUF : Nat := 4

def A.ASC.ROUND_CFG : Nat := 0x400040
def A.ASC.PRIO : Nat := 0x400044
def A.ASC.AGE_CFG : Nat := 0x400048
def A.ASC.POL_CFG : Nat := 0x40004C
def A.ASC.CLASS_BONUS : Nat := 0x400050
def A.ASC.RATE_CFG : Nat := 0x400054
def A.ASC.UL_CFG : Nat := 0x400058
def A.ASC.DL_CFG : Nat := 0x40005C
def A.ASC.MU_CFG : Nat := 0x400060
def A.ASC.MISS_CFG : Nat := 0x400064
def A.ASC.EXT_BASE_LO : Nat := 0x400068
def A.ASC.EXT_BASE_HI : Nat := 0x40006C
def A.ASC.ALLOC_STAT (k : Nat) : Nat := 0x400070 + 4 * k
def A.ASC.HEAT_CFG (k : Nat) : Nat := 0x400080 + 4 * k
def A.ASC.HEAT_CTRL : Nat := 0x40008C
def A.ASC.HEAT_STAT : Nat := 0x400090
def A.ASC.HEAT_PLAN (k : Nat) : Nat := 0x400094 + 4 * k
def A.ASC.MISS_CNT (k : Nat) : Nat := 0x400100 + 4 * k
def A.ASC.ROUND_CNT (k : Nat) : Nat := 0x40010C + 4 * k
def A.ASC.REUSE_CNT (k : Nat) : Nat := 0x400118 + 4 * k
def A.ASC.SU_FALLBACK_CNT (k : Nat) : Nat := 0x400124 + 4 * k
def A.ASC.IDLE_ROUND_CNT : Nat := 0x400130
def A.ASC.STALE_CNT : Nat := 0x400134
def A.ASC.RU_EMPTY_CNT : Nat := 0x400138
def A.ASC.HEAT_RUN_CNT : Nat := 0x40013C
def A.ASC.HEAT_SKIP_CNT : Nat := 0x400140
def A.ASC.HEAT_MISS_CNT : Nat := 0x400144
def A.ASC.HEAT_PLAN_REJECT_CNT : Nat := 0x400148
def A.ASC.CONS_RATE_CNT : Nat := 0x40014C

def Cause.ASC.ROUND_MISS_BURST : Nat := 0
def Cause.ASC.HEAT_SUSPENDED : Nat := 4
def Cause.ASC.HEAT_PLAN_REJECTED : Nat := 8

def A.QAR.CORE_CTRL : Nat := 0x440040
def A.QAR.CORE_STAT : Nat := 0x440044
def A.QAR.DISP_STAT : Nat := 0x440048
def A.QAR.LIST_DEPTH : Nat := 0x44004C
def A.QAR.ASC_TPL : Nat := 0x440050
def A.QAR.FW_VER : Nat := 0x440054
def A.QAR.DUCTUS_CFG : Nat := 0x440058
def A.QAR.DUCTUS_STAT : Nat := 0x44005C
def A.QAR.DUCTUS_SEQ : Nat := 0x440060
def A.QAR.DUCTUS_TRIG_SEQ : Nat := 0x440064
def A.QAR.TPL_VALID : Nat := 0x440068
def A.QAR.TRACE_PUT0 : Nat := 0x440070
def A.QAR.TRACE_PUT1 : Nat := 0x440074
def A.QAR.INSTANCE_CNT : Nat := 0x440100
def A.QAR.REFUSE_CNT : Nat := 0x440104
def A.QAR.CANCEL_CNT : Nat := 0x440108
def A.QAR.FAULT_CNT : Nat := 0x44010C
def A.QAR.DEMOTE_CNT : Nat := 0x440110

def Cause.QAR.CORE_FAULT : Nat := 0
def Cause.QAR.DUCTUS_TRIGGERED : Nat := 4

def A.TMG.SPILL_BASE_LO : Nat := 0x500040
def A.TMG.SPILL_BASE_HI : Nat := 0x500044
def A.TMG.SPILL_SIZE : Nat := 0x500048
def A.TMG.SPILL_STAT : Nat := 0x50004C
def A.TMG.ETH_SCHED (k : Nat) : Nat := 0x500080 + 4 * k
def A.TMG.ADMIT_CNT : Nat := 0x500100
def A.TMG.DROP_METER_CNT : Nat := 0x500104
def A.TMG.DROP_QLIM_CNT : Nat := 0x500108
def A.TMG.DROP_SPILL_FULL_CNT : Nat := 0x50010C
def A.TMG.DROP_NOCELL_CNT : Nat := 0x500110
def A.TMG.DROP_FROZEN_CNT : Nat := 0x500114
def A.TMG.AGED_CNT : Nat := 0x500118
def A.TMG.SPILL_CNT : Nat := 0x50011C
def A.TMG.REFILL_CNT : Nat := 0x500120
def A.TMG.DROP_NOLINK_CNT : Nat := 0x500124

def Cause.TMG.SPILL_FULL : Nat := 0

def A.PKE.FLOW_BASE_LO : Nat := 0x600040
def A.PKE.FLOW_BASE_HI : Nat := 0x600044
def A.PKE.FLOW_CFG : Nat := 0x600048
def A.PKE.L2_CFG : Nat := 0x60004C
def A.PKE.HOLD_CFG : Nat := 0x600050
def A.PKE.REMARK : Nat := 0x600054
def A.PKE.PKE_STAT : Nat := 0x600058
def A.PKE.EXC_CFG (k : Nat) : Nat := 0x600080 + 4 * k
def A.PKE.RX_FRAME_CNT : Nat := 0x600100
def A.PKE.EXC_CNT : Nat := 0x600104
def A.PKE.FLOW_HIT_CNT : Nat := 0x600108
def A.PKE.FLOW_MISS_CNT : Nat := 0x60010C
def A.PKE.FLOW_CACHE_MISS_CNT : Nat := 0x600110
def A.PKE.FLOW_POISON_CNT : Nat := 0x600114
def A.PKE.DROP_VLAN_CNT : Nat := 0x600118
def A.PKE.DROP_ISOLATE_CNT : Nat := 0x60011C
def A.PKE.DROP_ACL_CNT : Nat := 0x600120
def A.PKE.DROP_EXC_CNT : Nat := 0x600124
def A.PKE.DROP_HOLD_CNT : Nat := 0x600128
def A.PKE.DROP_FROZEN_CNT : Nat := 0x60012C
def A.PKE.H_DROP_CNT : Nat := 0x600130
def A.PKE.L2_LEARN_FAIL_CNT : Nat := 0x600134
def A.PKE.PIN_REDIRECT_CNT : Nat := 0x600138
def A.PKE.HOLD_TIMEOUT_CNT : Nat := 0x60013C
def A.PKE.HOLD_OVF_CNT : Nat := 0x600140
def A.PKE.HOLD_STALE_CNT : Nat := 0x600144
def A.PKE.L2_MOVE_CNT : Nat := 0x600148
def A.PKE.DROP_SELF_CNT : Nat := 0x60014C

def Cause.PKE.L2_FULL : Nat := 0
def Cause.PKE.FLOW_LOST : Nat := 4
def Cause.PKE.HOLD_FULL : Nat := 8

def A.ETH.MODE (n : Nat) : Nat := 0x700000 + 0x10000 * n + 0x040
def A.ETH.MAX_FRAME (n : Nat) : Nat := 0x700000 + 0x10000 * n + 0x044
def A.ETH.FC_CFG (n : Nat) : Nat := 0x700000 + 0x10000 * n + 0x048
def A.ETH.FC_STAT (n : Nat) : Nat := 0x700000 + 0x10000 * n + 0x04C
def A.ETH.FC_THR (n : Nat) (k : Nat) : Nat := 0x700000 + 0x10000 * n + 0x050 + 4 * k
def A.ETH.PREEMPT_CFG (n : Nat) : Nat := 0x700000 + 0x10000 * n + 0x070
def A.ETH.PREEMPT_STAT (n : Nat) : Nat := 0x700000 + 0x10000 * n + 0x074
def A.ETH.EEE_CFG (n : Nat) : Nat := 0x700000 + 0x10000 * n + 0x078
def A.ETH.STRIDE_CFG (n : Nat) : Nat := 0x700000 + 0x10000 * n + 0x07C
def A.ETH.STRIDE_STAT (n : Nat) : Nat := 0x700000 + 0x10000 * n + 0x080
def A.ETH.TS_ADJ (n : Nat) : Nat := 0x700000 + 0x10000 * n + 0x084
def A.ETH.LINK_STAT (n : Nat) : Nat := 0x700000 + 0x10000 * n + 0x088
def A.ETH.MAC_LO (n : Nat) : Nat := 0x700000 + 0x10000 * n + 0x08C
def A.ETH.MAC_HI (n : Nat) : Nat := 0x700000 + 0x10000 * n + 0x090
def A.ETH.RX_OK_CNT (n : Nat) : Nat := 0x700000 + 0x10000 * n + 0x100
def A.ETH.RX_OCTET_CNT (n : Nat) : Nat := 0x700000 + 0x10000 * n + 0x104
def A.ETH.RX_RUNT_CNT (n : Nat) : Nat := 0x700000 + 0x10000 * n + 0x10C
def A.ETH.RX_OVERSIZE_CNT (n : Nat) : Nat := 0x700000 + 0x10000 * n + 0x110
def A.ETH.RX_FCS_ERR_CNT (n : Nat) : Nat := 0x700000 + 0x10000 * n + 0x114
def A.ETH.RX_OVERFLOW_CNT (n : Nat) : Nat := 0x700000 + 0x10000 * n + 0x118
def A.ETH.RX_REASM_ERR_CNT (n : Nat) : Nat := 0x700000 + 0x10000 * n + 0x11C
def A.ETH.RX_PAUSE_CNT (n : Nat) : Nat := 0x700000 + 0x10000 * n + 0x120
def A.ETH.RX_PFC_CNT (n : Nat) : Nat := 0x700000 + 0x10000 * n + 0x124
def A.ETH.RX_PAUSE_ZERO_CNT (n : Nat) : Nat := 0x700000 + 0x10000 * n + 0x128
def A.ETH.RX_CTRL_OTHER_CNT (n : Nat) : Nat := 0x700000 + 0x10000 * n + 0x12C
def A.ETH.TX_OK_CNT (n : Nat) : Nat := 0x700000 + 0x10000 * n + 0x130
def A.ETH.TX_OCTET_CNT (n : Nat) : Nat := 0x700000 + 0x10000 * n + 0x134
def A.ETH.TX_OVERSIZE_CNT (n : Nat) : Nat := 0x700000 + 0x10000 * n + 0x13C
def A.ETH.TX_ABORT_CNT (n : Nat) : Nat := 0x700000 + 0x10000 * n + 0x140
def A.ETH.TX_PAUSE_CNT (n : Nat) : Nat := 0x700000 + 0x10000 * n + 0x144
def A.ETH.TX_PFC_CNT (n : Nat) : Nat := 0x700000 + 0x10000 * n + 0x148
def A.ETH.FRAG_TX_CNT (n : Nat) : Nat := 0x700000 + 0x10000 * n + 0x14C
def A.ETH.VERIFY_FAIL_CNT (n : Nat) : Nat := 0x700000 + 0x10000 * n + 0x150
def A.ETH.LPI_TX_CNT (n : Nat) : Nat := 0x700000 + 0x10000 * n + 0x154
def A.ETH.LINK_DOWN_CNT (n : Nat) : Nat := 0x700000 + 0x10000 * n + 0x158
def A.ETH.STRIDE_CNT (n : Nat) : Nat := 0x700000 + 0x10000 * n + 0x15C
def A.ETH.STRIDE_RX_CNT (n : Nat) : Nat := 0x700000 + 0x10000 * n + 0x160

def Cause.ETH.LINK_CHANGE : Nat := 0
def Cause.ETH.STRIDE_END : Nat := 4
def Cause.ETH.STRIDE_FAIL : Nat := 8
def Cause.ETH.VERIFY_FAIL : Nat := 12

def A.MEM.INK_PART0 : Nat := 0x800040
def A.MEM.INK_PART1 : Nat := 0x800044
def A.MEM.INK_CTRL : Nat := 0x800048
def A.MEM.INK_USE (k : Nat) : Nat := 0x800050 + 4 * k
def A.MEM.DDR_CFG : Nat := 0x800080
def A.MEM.DDR_STAT : Nat := 0x800084
def A.MEM.INIT_CFG : Nat := 0x800088
def A.MEM.INIT_STAT : Nat := 0x80008C
def A.MEM.TRAIN_CFG : Nat := 0x800090
def A.MEM.SCRUB_CFG : Nat := 0x800094
def A.MEM.FRZ_CFG : Nat := 0x800098
def A.MEM.FRZ_INFO : Nat := 0x8000A0
def A.MEM.FRZ_ADDR_LO : Nat := 0x8000A4
def A.MEM.FRZ_ADDR_HI : Nat := 0x8000A8
def A.MEM.FRZ_TIME_LO : Nat := 0x8000AC
def A.MEM.FRZ_TIME_HI : Nat := 0x8000B0
def A.MEM.FRZ_SYND (k : Nat) : Nat := 0x8000B4 + 4 * k
def A.MEM.PORT_CFG (k : Nat) : Nat := 0x8000D0 + 4 * k
def A.MEM.ECC_CE_CNT : Nat := 0x800100
def A.MEM.ECC_UE_CNT : Nat := 0x800104
def A.MEM.WCRC_RETRY_CNT : Nat := 0x800108
def A.MEM.FREEZE_CNT : Nat := 0x80010C
def A.MEM.POISON_READ_CNT : Nat := 0x800110
def A.MEM.RETRAIN_CNT : Nat := 0x800114
def A.MEM.INK_CE_CNT : Nat := 0x800118
def A.MEM.INK_UE_CNT : Nat := 0x80011C
def A.MEM.LAT_MISS_CNT (k : Nat) : Nat := 0x800140 + 4 * k

def Cause.MEM.DRAM_FROZEN : Nat := 0
def Cause.MEM.FREEZE_WDOG : Nat := 4
def Cause.MEM.TRAIN_FAIL : Nat := 8
def Cause.MEM.DRAM_HOT : Nat := 12
def Cause.MEM.INK_UE : Nat := 16

def A.MSH.MESH_CFG : Nat := 0x880040
def A.MSH.ROOT_CFG : Nat := 0x880044
def A.MSH.JOIN_CFG : Nat := 0x880048
def A.MSH.SCAN_CFG : Nat := 0x88004C
def A.MSH.LEASE_CFG : Nat := 0x880050
def A.MSH.RELAY_CFG : Nat := 0x880054
def A.MSH.VER_CFG : Nat := 0x880058
def A.MSH.SLEEP_CFG : Nat := 0x88005C
def A.MSH.START_CFG : Nat := 0x880060
def A.MSH.MESH_ID : Nat := 0x880064
def A.MSH.NODE_STAT : Nat := 0x880070
def A.MSH.PARENT_STAT : Nat := 0x880074
def A.MSH.SLEEP_STAT : Nat := 0x880078
def A.MSH.LEASE_STAT : Nat := 0x88007C
def A.MSH.SEEN_STAT : Nat := 0x880080
def A.MSH.CHAN (k : Nat) : Nat := 0x8800C0 + 4 * k
def A.MSH.JOIN_REQ_CNT : Nat := 0x880180
def A.MSH.JOIN_RETRY_CNT : Nat := 0x880184
def A.MSH.GRANT_TX_CNT : Nat := 0x880188
def A.MSH.LEASE_EXPIRE_CNT : Nat := 0x88018C
def A.MSH.RELAY_RX_CNT : Nat := 0x880190
def A.MSH.RELAY_DUP_CNT : Nat := 0x880194
def A.MSH.RELAY_FWD_CNT : Nat := 0x880198
def A.MSH.RELAY_SUPPR_CNT : Nat := 0x88019C
def A.MSH.SEEN_EVICT_CNT : Nat := 0x8801A0
def A.MSH.VER_REJECT_CNT : Nat := 0x8801A4
def A.MSH.WIN_MISS_CNT : Nat := 0x8801A8
def A.MSH.PARENT_LOST_CNT : Nat := 0x8801AC
def A.MSH.REATTACH_CNT : Nat := 0x8801B0
def A.MSH.FULL_SCAN_CNT : Nat := 0x8801B4
def A.MSH.CHILD_LOST_CNT : Nat := 0x8801B8
def A.MSH.MSG_DROP_CNT : Nat := 0x8801BC

def Cause.MSH.PARENT_LOST : Nat := 0
def Cause.MSH.ROOT_CHANGE : Nat := 4
def Cause.MSH.ADDR_CHANGED : Nat := 8
def Cause.MSH.MSG_PENDING : Nat := 12

end Sys2Proof.Machine
end

