-- ==== Sys2Proof/Machine/Ops.lean ====
section
/-! DEFINITION. The named operations every meaning is written over: registers, counters, page headers, the status word,
replies and completions, WATCH, attention, the Blotter, MP events (spec/02; spec/17 R407, R413 to R418). -/

namespace Sys2Proof.Machine

/-! Registers -/

/-- The block of a page, for every page in the page index (spec/02 R62). -/
def blkOfPage (p : Nat) : Option Blk :=
  if p = 0x000 then some .glb
  else if p = 0x010 then some .hci
  else if p = 0x020 then some .pmu
  else if 0x030 ≤ p ∧ p ≤ 0x04F then some .mgt
  else if p = 0x050 then some .tmu
  else if p = 0x060 then some .rgl
  else if p = 0x070 then some .pci
  else if 0x080 ≤ p ∧ p ≤ 0x09F then some .bst
  else if p = 0x100 then some (.rfe .a)
  else if p = 0x140 then some (.rfe .b)
  else if p = 0x180 then some (.rfe .c)
  else if p = 0x200 then some (.phy .a)
  else if p = 0x240 then some (.phy .b)
  else if p = 0x280 then some (.phy .c)
  else if p = 0x300 then some (.mac .a)
  else if p = 0x340 then some (.mac .b)
  else if p = 0x380 then some (.mac .c)
  else if p = 0x3C0 then some .mld
  else if p = 0x400 then some .asc
  else if p = 0x440 then some .qar
  else if 0x500 ≤ p ∧ p ≤ 0x5FF then some .tmg
  else if 0x600 ≤ p ∧ p ≤ 0x6FF then some .pke
  else if 0x700 ≤ p ∧ p ≤ 0x790 ∧ p % 16 = 0 then some (.eth ((p - 0x700) / 16))
  else if p = 0x800 then some .mem
  else if p = 0x880 then some .msh
  else none

/-- Whether an offset is one of the `cnt` places from `off` at a stride. -/
def atOffset (off cnt stride o : Nat) : Bool :=
  decide (off ≤ o ∧ (o - off) % stride = 0 ∧ (o - off) / stride < cnt)

/-- The register of a block at an offset of its page. -/
def regAt (b : Blk) (o : Nat) : Option RegDef := (blkRegs b).find? (fun r => atOffset r.off r.cnt r.stride o)

/-- The counter of a block at an offset of its page. -/
def ctrAt (b : Blk) (o : Nat) : Option CtrDef := (blkCtrs b).find? (fun c => atOffset c.off c.cnt c.stride o)

/-- The reset value of a register: its fields' reset values in place. -/
def fldsReset (fs : List Fld) : Word := fs.foldl (fun w f => w ||| wd (f.rst <<< f.lo)) 0

/-- Present chains of a radio, from the variant fuses (spec/00 R3). -/
def chainsOf (variant : Word) : Radio → Nat
  | .a => bitsOf variant 7 4
  | .b => bitsOf variant 11 8
  | .c => bitsOf variant 15 12

/-- Present Ethernet ports (spec/00 R3). -/
def portsOf (variant : Word) : Nat := bitsOf variant 23 20

/-- The reset value of the register at an address. Two depend on the variant: every present chain is enabled (spec/03,
CHAIN_EN), and the temperature warning is 100 °C on C grade and 110 °C on I grade (spec/17 R411). -/
def resetVal (variant : Word) (a : Nat) : Word :=
  match blkOfPage (a / 4096) with
  | none => 0
  | some b =>
    if a / 4096 ≠ blkPage b then 0
    else match b, a % 4096 with
      | .rfe r, 0x04C => wd (2 ^ chainsOf variant r - 1)
      | .mgt, 0x0B0 => wd (0x500 + if bitsOf variant 27 24 = 1 then 110 else 100)
      | b, o => match regAt b o with
        | some r => fldsReset r.flds
        | none => 0

/-- Read the stored value of a register. -/
def Dev.rd (d : Dev) (a : Nat) : Word := tabGet (resetVal d.mgt.otp.variant a) d.regs a

/-- Store a register. -/
def Dev.wr (d : Dev) (a : Nat) (v : Word) : Dev :=
  { d with regs := tabSet (resetVal d.mgt.otp.variant a) d.regs a v }

/-- A field of a register. -/
def Dev.fld (d : Dev) (a hi lo : Nat) : Nat := bitsOf (d.rd a) hi lo

/-- A one-bit field of a register. -/
def Dev.bit (d : Dev) (a i : Nat) : Bool := bitOf (d.rd a) i

/-- Count `n` events on a counter: 32 or 64 bits, wrapping or saturating as its table says (R64 and the counter tables). -/
def Dev.countN (d : Dev) (a n : Nat) : Dev :=
  match (blkOfPage (a / 4096)).bind (fun b => ctrAt b (a % 4096)) with
  | none => d
  | some c =>
    if c.wide then
      let v := (d.rd a).toNat + 2 ^ 32 * (d.rd (a + 4)).toNat + n
      (d.wr a (wd v)).wr (a + 4) (wd (v / 2 ^ 32))
    else if c.sat then d.wr a (wd (satAdd 32 (d.rd a).toNat n))
    else d.wr a (d.rd a + wd n)

/-- Count one event. -/
def Dev.count (d : Dev) (a : Nat) : Dev := d.countN a 1

/-- The present chains and ports of this device. -/
def Dev.chains (d : Dev) (r : Radio) : Nat := chainsOf d.mgt.otp.variant r
def Dev.ports (d : Dev) : Nat := portsOf d.mgt.otp.variant

/-- A block is present (spec/00 R4). -/
def Dev.present (d : Dev) : Blk → Bool
  | .eth n => decide (n < d.ports)
  | _ => true

/-! Free values -/

/-- The next free value, below `n` when `n` is not 0; and the device with that choice taken. -/
def Dev.freeVal (d : Dev) (n : Nat) : Nat := if n = 0 then Config.freeNat d.free else Config.freeNat d.free % n
def Dev.took (d : Dev) : Dev := { d with free := d.free + 1 }

/-! Page headers -/

/-- The reset value of ATTN_CLASS: each group's default class, 1 for a group without a cause (R34, R58). -/
def clsReset (cs : List CauseDef) : Word :=
  cs.foldl (fun w c => putBits w (4 * c.group + 2) (4 * c.group) c.cls) 0x11111111

/-- A page header after reset (R58): ENABLE 0 on MAC_x, TMG, PKE and ETH_n, 1 elsewhere. -/
def Page.init (p : Nat) : Page :=
  { enable := match blkOfPage p with
      | some (.mac _) | some .tmg | some .pke | some (.eth _) => false
      | _ => true,
    clkForce := false, isolate := false, lock := false, cause := 0, mask := 0xFFFFFFFF,
    cls := match blkOfPage p with
      | some b => if blkPage b = p then clsReset (blkCauses b) else 0x11111111
      | none => 0x11111111,
    inited := false, resetting := false, selftest := false, failed := false, power := 0 }

/-- The header of a page. -/
def Dev.page (d : Dev) (p : Nat) : Page := (tabFind d.pages p).getD (Page.init p)

/-- Replace the header of a page. -/
def Dev.setPage (d : Dev) (p : Nat) (g : Page) : Dev := { d with pages := tabPut d.pages p g }

/-- The header that holds a block's conditions: that of its first page. -/
def Dev.blk (d : Dev) (b : Blk) : Page := d.page (blkPage b)
def Dev.setBlk (d : Dev) (b : Blk) (g : Page) : Dev := d.setPage (blkPage b) g

/-- A block is initialized and in service: PG_STAT.READY (R58, R462). -/
def Dev.ready (d : Dev) (b : Blk) : Bool :=
  let g := d.blk b
  d.present b && g.inited && g.enable && !g.resetting && !g.selftest && !g.failed

/-! The status word (R29, R33) -/

/-- The pending causes of a page. -/
def Page.pend (g : Page) : Word := g.cause &&& ~~~ g.mask

/-- The class of a cause bit. -/
def Page.classOf (g : Page) (i : Nat) : Nat := bitsOf g.cls (4 * (i / 4) + 2) (4 * (i / 4))

/-- The highest pending class of a page. -/
def Page.top (g : Page) : Nat := (bitList g.pend 32).foldl (fun m i => max m (g.classOf i)) 0

/-- The highest pending class of the device. -/
def Dev.topClass (d : Dev) : Nat := d.pages.foldl (fun m e => max m e.2.top) 0

/-- Some cause is pending. -/
def Dev.attn (d : Dev) : Bool := d.pages.any (fun e => decide (e.2.pend ≠ 0))

/-- The status word with a reply code (R29). -/
def Dev.status (d : Dev) (code : Nat) : Nat :=
  b2n d.attn * 2 ^ 15 + d.topClass * 2 ^ 12 + (d.hci.attnSeq.toNat % 16) * 2 ^ 8 + code

/-! Replies (R24, R46, R50, R52) -/

/-- A reply as the device composes it now. -/
def Dev.reply (d : Dev) (op : Nat) (tag : Word) (code detail : Nat) (ws : List Word) : Reply :=
  { op := op, tag := tag, status := d.status code, detail := detail, seq := d.hci.attnSeq, payload := ws }

/-- The four header words of a reply, PHASE 0. -/
def Reply.header (r : Reply) : List Word :=
  [wd (r.op + 2 ^ 16 * (4 * r.payload.length)), r.tag, wd (r.status + 2 ^ 16 * r.detail), r.seq]

/-- The bytes of a reply message. -/
def Reply.bytes (r : Reply) : List Byte := wordsBytes (r.header ++ r.payload)

/-- A list of words filled up with zeros to `n`. -/
def padTo (n : Nat) (ws : List Word) : List Word := ws ++ List.replicate (n - ws.length) 0

/-- A ring pair's configuration; a pair never written is off. -/
def Dev.ring (d : Dev) (n : Nat) : Ring := (tabFind d.hci.rings n).getD Ring.reset
def Dev.setRing (d : Dev) (n : Nat) (r : Ring) : Dev := { d with hci := { d.hci with rings := tabPut d.hci.rings n r } }

/-- Entries of a ring. -/
def Ring.size (r : Ring) : Nat := 2 ^ r.log2

/-- The reply ring has no room: the position after the next one to write is the host's (R497). -/
def Ring.full (r : Ring) : Bool := decide ((r.rspPos + 1) % r.size = r.cons)

/-- Put something out. -/
def Dev.emit (d : Dev) (o : Out) : Dev := { d with out := o :: d.out }

/-- Send an MSI-X message on a vector, or mark it pending while it is masked (R47). -/
def Dev.msix (d : Dev) (v : Nat) : Dev :=
  if d.hci.msixMask.getLsbD v then { d with hci := { d.hci with msixPending := d.hci.msixPending ||| oneBit v } }
  else d.emit (.msix v)

/-- Write one entry at the device's position of a reply ring, after its payload at a host address, and send its MSI-X message (R44,
R46, R47). -/
def Dev.ringWrite (d : Dev) (n : Nat) (ws : List Word) (host : Nat) (payload : List Word) : Dev :=
  let r := d.ring n
  let ws' := match ws with
    | w :: t => (if r.phase then w ||| 0x8000 else w) :: t
    | [] => []
  let last := decide (r.rspPos + 1 = r.size)
  let d1 := d.emit (.ringWrite n r.rspPos ws' host payload)
  let d2 := d1.setRing n { r with rspPos := if last then 0 else r.rspPos + 1,
                                  phase := if last then !r.phase else r.phase }
  d2.msix r.vec

/-- Write entries that waited for room, oldest first. -/
def Dev.ringDrain (d : Dev) (n : Nat) : Nat → Dev
  | 0 => d
  | fuel + 1 =>
    let r := d.ring n
    match r.waiting with
    | [] => d
    | (ws, at_, p) :: rest =>
      if r.full then d else ((d.setRing n { r with waiting := rest }).ringWrite n ws at_ p).ringDrain n fuel

/-- Give an entry to a reply ring: written at once, or kept until the host frees an entry; none is dropped, and none is
written on a pair that is off (R45, R46). -/
def Dev.ringPut (d : Dev) (n : Nat) (ws : List Word) (host : Nat) (payload : List Word) : Dev :=
  let r := d.ring n
  if !r.enable then d
  else if r.full || !r.waiting.isEmpty then d.setRing n { r with waiting := r.waiting ++ [(ws, host, payload)] }
  else d.ringWrite n ws host payload

/-- The first 16 bytes of an HMAC, the TAG of a datagram (R52). -/
def hmacTag (key : List Word) (b : List Byte) : List Byte := natBytes 16 (Config.hmac key b).toNat

/-- The bytes of an ACP datagram of the device (R52): header, messages and the first 16 bytes of its HMAC. -/
def acpBytes (ver id key ctr : Nat) (keyWords : List Word) (rs : List Reply) : List Byte :=
  let b := natBytes 1 ver ++ [1] ++ natBytes 2 id ++ natBytes 1 key ++ natBytes 1 rs.length ++ [0, 0] ++ natBytes 8 ctr
    ++ (rs.map Reply.bytes).flatten
  b ++ hmacTag keyWords b

/-- The eight words of an ACP key slot. -/
def Dev.acpKey (d : Dev) (slot : Nat) : List Word := (List.range 8).map (fun i => tabGet 0 d.hci.keys (8 * slot + i))

/-- Send replies of an ACP session in one datagram, under its next COUNTER. -/
def Dev.acpSend (d : Dev) (id : Nat) (a : Acp) (rs : List Reply) : Dev :=
  let d1 := d.emit (.acp a.port a.peer a.udp (acpBytes a.version id a.slot a.txCtr (d.acpKey a.slot) rs))
  { d1 with hci := { d1.hci with acp := tabPut d1.hci.acp id { a with txCtr := a.txCtr + 1 } } }

/-- The last eight replies of an ACP session, newest first (R55). -/
def Dev.acpKeep (d : Dev) (id : Nat) (r : Reply) : Dev :=
  match tabFind d.hci.acp id with
  | some a => { d with hci := { d.hci with acp := tabPut d.hci.acp id { a with last := (r :: a.last).take 8 } } }
  | none => d

/-- The host address an INDIRECT request gives for its reply payload; none where the payload stands in the entry (R44). -/
def Rq.to (rq : Rq) : Option Nat := if rq.flags % 2 = 1 then some rq.rspAt else none

/-- Send a reply to where its request came from; its payload goes to a host address, or stands in the entry (R44). -/
def Dev.deliver (d : Dev) (src : Src) (addr : Option Nat) (r : Reply) : Dev :=
  match src with
  | .pcie n => match addr with
    | some host => d.ringPut n (padTo 16 r.header) host r.payload
    | none => d.ringPut n (padTo 16 (r.header ++ r.payload)) 0 []
  | .spi => { d with hci := { d.hci with spi := { d.hci.spi with replies := d.hci.spi.replies ++ [r] } } }
  | .acp id => match tabFind d.hci.acp id with
    | none => d
    | some a => (d.acpSend id a [r]).acpKeep id r
  | .mp => d.emit (.mp r)

/-! A batched datagram's replies (R52, R55) -/

/-- Replies grouped so that each datagram stays within 1,400 bytes. -/
def acpGroups : List Reply → List Reply → List (List Reply)
  | [], [] => []
  | [], acc => [acc]
  | r :: rs, acc =>
    let n := ((acc ++ [r]).map (fun x => x.bytes.length)).foldl (· + ·) 0
    if acc ≠ [] ∧ (1368 < n ∨ 8 ≤ acc.length) then acc :: acpGroups rs [r] else acpGroups rs (acc ++ [r])

/-- The replies composed to the datagram at the front are sent, once every message of it has been executed. -/
def Dev.acpFlush (d : Dev) (id : Nat) : Dev :=
  match tabFind d.hci.acp id with
  | some a => match a.todo with
    | [] :: rest =>
      let d1 := { d with hci := { d.hci with acp := tabPut d.hci.acp id { a with todo := rest, done := [] } } }
      (acpGroups a.done []).foldl (fun d g => match tabFind d.hci.acp id with
        | some a => d.acpSend id a g
        | none => d) d1
    | _ => d
  | none => d

/-- A reply of a session's datagram is composed: it is kept, and waits for those of the messages after it (R55). -/
def Dev.acpReply (d : Dev) (id : Nat) (r : Reply) : Dev :=
  match tabFind d.hci.acp id with
  | some a => (({ d with hci := { d.hci with acp := tabPut d.hci.acp id { a with done := a.done ++ [r] } } } : Dev).acpKeep id r).acpFlush id
  | none => d

/-- Answer a request: over ACP with the replies of its datagram, elsewhere at once (R28, R55). -/
def Dev.respond (d : Dev) (rq : Rq) (r : Reply) : Dev :=
  match rq.src with
  | .acp id => d.acpReply id r
  | src => d.deliver src rq.to r

/-! The executor (R28) -/

/-- The COMMAND that holds the executor has taken effect, or failed: its reply is composed, and the executor is free. -/
def Dev.execDone (d : Dev) (code detail : Nat) (ws : List Word) : Dev :=
  match d.hci.inExec with
  | none => d
  | some x =>
    let d1 : Dev := { d with hci := { d.hci with inExec := none } }
    if x.live then d1.respond x.rq (d1.reply x.op x.rq.tag code detail ws) else d1

/-! WATCH (R37, R38) -/

/-- The open WATCH of a session. -/
def Dev.watchOf (d : Dev) : Src → Option Watch
  | .pcie n => (d.ring n).watch
  | .spi => d.hci.spi.watch
  | .acp id => (tabFind d.hci.acp id).bind (fun a => a.watch)
  | .mp => none

/-- Set or end the open WATCH of a session; one that ends was activity until then (R56). -/
def Dev.setWatch (d : Dev) (src : Src) (w : Option Watch) : Dev :=
  match src with
  | .pcie n => d.setRing n { d.ring n with watch := w }
  | .spi => { d with hci := { d.hci with spi := { d.hci.spi with watch := w } } }
  | .acp id => match tabFind d.hci.acp id with
    | none => d
    | some a =>
      let active := if a.watch.isSome ∧ w.isNone then d.tmu.tb else a.active
      { d with hci := { d.hci with acp := tabPut d.hci.acp id { a with watch := w, active := active } } }
  | .mp => d

/-- Answer the open WATCH of a session with OK and a DETAIL, and end it. -/
def Dev.answerWatch (d : Dev) (src : Src) (detail : Nat) : Dev :=
  match d.watchOf src with
  | none => d
  | some w => (d.setWatch src none).deliver src none (d.reply 5 w.tag 0 detail [])

/-- The sessions that may hold a WATCH. -/
def Dev.sessions (d : Dev) : List Src :=
  (tabKeys d.hci.rings).map Src.pcie ++ [Src.spi] ++ (tabKeys d.hci.acp).map Src.acp

/-- Answer every open WATCH whose ATTN_SEQ value differs from the present one (R37). -/
def Dev.answerWatches (d : Dev) : Dev :=
  d.sessions.foldl (fun d src =>
    match d.watchOf src with
    | some w => if w.seen ≠ d.hci.attnSeq then d.answerWatch src 0 else d
    | none => d) d

/-! MP events (spec/17 R407) -/

/-- A selected event of the MP ends IDLE, or the entry into it turns round (spec/18 R445, R448). -/
def Pmu.idleWake (p : Pmu) : Pmu :=
  if p.entering = some .idle then { p with wakePending := some (p.wakePending.getD 1) }
  else if p.state = .idle ∧ p.entering = none ∧ p.exiting = none then { p with exiting := some 1 }
  else p

/-- An event for the MP: its bit of MGT.EVT_PEND is set and, when it is selected, the MP's event flag. -/
def Dev.event (d : Dev) (i : Nat) : Dev :=
  let d1 := d.wr A.MGT.EVT_PEND (d.rd A.MGT.EVT_PEND ||| oneBit i)
  if d1.bit A.MGT.EVT_SEL i then { d1 with mp := { d1.mp with evt := true }, pmu := d1.pmu.idleWake } else d1

/-! The Blotter (spec/17 R413 to R418) -/

/-- Records of the ring that no commit record covers yet. -/
def Mgt.uncommitted (m : Mgt) : List BltRec := m.ring.filter (fun r => decide (m.commitSeq < r.seq))

/-- Blotter time now (R414). -/
def Dev.bltTime (d : Dev) : Nat := (d.tb / 256 + d.mgt.epoch) % 2 ^ 48

/-- Store a record under the next SEQ; the ring keeps 8,192, dropping committed ones first (R418). -/
def Dev.bltStore (d : Dev) (page cls code : Nat) (args : List Word) : Dev :=
  let r : BltRec := { time := d.bltTime, seq := d.mgt.nextSeq, page := page, cls := cls, code := code, args := args }
  { d with mgt := { d.mgt with ring := (d.mgt.ring ++ [r]).drop (d.mgt.ring.length + 1 - 8192),
                               nextSeq := d.mgt.nextSeq + 1 } }

/-- The flash takes no write now: a failure, another operation in progress, or VIN_WARN, under which only the one commit of
R429 is made (R418, R429). -/
def Dev.flashBlocked (d : Dev) : Bool :=
  (d.mgt.vinWarn && !d.mgt.failCommit) || d.mgt.flashFail || d.mgt.flashBusy

/-- Start writing the group of every uncommitted record to flash, if one is due and the flash can take it (R416). -/
def Dev.bltKick (d : Dev) (due : Bool) : Dev :=
  let m := d.mgt
  let n := m.uncommitted.length
  if n = 0 then { d with mgt := { m with wantCommit := false } }
  else if !(due || m.wantCommit || decide (16 ≤ n)) then d
  else if d.flashBlocked then { d with mgt := { m with wantCommit := due || m.wantCommit } }
  else { d with mgt := { m with committing := m.nextSeq - 1, wantCommit := false, failCommit := false,
                                flashBusy := true } }

/-- Write a Blotter record (R413 to R418): a class of 4 or above commits its group; while 8,192 records are uncommitted the
new one is not stored but consumes its SEQ; when space returns one LOST record reports the dropped ones. -/
def Dev.blotter (d : Dev) (page cls code : Nat) (args : List Word) : Dev :=
  if 8192 ≤ d.mgt.uncommitted.length then
    let s := d.mgt.nextSeq
    let lost := match d.mgt.dropped with
      | some (f, n) => (f, n + 1)
      | none => (s, 1)
    let d1 := { d with mgt := { d.mgt with nextSeq := s + 1, dropped := some lost } }
    d1.count A.MGT.BLT_DROP_CNT
  else
    let first := d.mgt.uncommitted.isEmpty
    let d1 := match d.mgt.dropped with
      | some (f, n) => { d with mgt := { d.mgt with dropped := none } }.bltStore 0x030 0 0x0002 [wd f, wd n]
      | none => d
    let d2 := d1.bltStore page cls code args
    let d3 := if first then { d2 with mgt := { d2.mgt with openSince := d2.tb } } else d2
    d3.bltKick (decide (4 ≤ cls))

/-- The device failed to execute a request: it is counted, and a record holds its OP, ADDR and TAG (R30, R63; spec/17 R415). -/
def Dev.internalError (d : Dev) (op : Nat) (addr tag : Word) : Dev :=
  (d.count A.HCI.INTERNAL_CNT).blotter 0x010 0 0x0011 [wd op, addr, tag]

/-- The COMMAND that holds the executor failed in the device: INTERNAL (R30). -/
def Dev.execFailed (d : Dev) (detail : Nat) : Dev :=
  match d.hci.inExec with
  | none => d
  | some x => (d.internalError x.op x.addr x.rq.tag).execDone 0x7F detail []

/-! Attention (R33 to R36; spec/17 R415) -/

/-- An ATTN record for each cause that enters the pending set of a page with a class at or above LOG_CLASS (spec/17 R415). -/
def Dev.attnLog (d : Dev) (p : Nat) (g : Page) (enter : Word) : Dev :=
  (bitList enter 32).foldl (fun d i =>
    if d.fld A.MGT.BLT_CFG 2 0 ≤ g.classOf i then d.blotter p (g.classOf i) 0x0010 [oneBit i, g.pend, wd (g.classOf i), 0] else d) d

/-- ATTN_SEQ advances by a number of changes (R36). -/
def Dev.attnStep (d : Dev) (n : Nat) : Dev := { d with hci := { d.hci with attnSeq := d.hci.attnSeq + wd n } }

/-- Replace ATTN_CAUSE and ATTN_MASK of a page: ATTN_SEQ advances by one for each cause that enters or leaves the pending
set, an ATTN record is written for each that enters with a class at or above LOG_CLASS, the MP gets its event, and every
open WATCH is answered. -/
def Dev.attnSet (d : Dev) (p : Nat) (cause mask : Word) : Dev :=
  let g := d.page p
  let g' := { g with cause := cause, mask := mask }
  let enter := g'.pend &&& ~~~ g.pend
  let leave := g.pend &&& ~~~ g'.pend
  let n := popCount enter + popCount leave
  let d1 := d.setPage p g'
  if n = 0 then d1
  else
    (((d1.attnStep n).attnLog p g' enter).event 1).answerWatches

/-- A block sets a cause of its page. -/
def Dev.raise (d : Dev) (b : Blk) (i : Nat) : Dev :=
  let g := d.blk b
  d.attnSet (blkPage b) (g.cause ||| oneBit i) g.mask

/-- A block clears a cause of its page, when a continuing condition ends. -/
def Dev.lower (d : Dev) (b : Blk) (i : Nat) : Dev :=
  let g := d.blk b
  d.attnSet (blkPage b) (g.cause &&& ~~~ oneBit i) g.mask

/-- A continuing cause follows its condition. -/
def Dev.follow (d : Dev) (b : Blk) (i : Nat) (on : Bool) : Dev :=
  if on then (if bitOf (d.blk b).cause i then d else d.raise b i)
  else if bitOf (d.blk b).cause i then d.lower b i else d

/-- `d'` differs from `d` in the host control interface and the output only: what a request's arrival and its reply may change. -/
def Dev.hciOnly (d d' : Dev) : Prop := d' = { d with hci := d'.hci, out := d'.out }

/-! Time and power levels -/

/-- A block's own hardware event wakes it without any request (R442). -/
def Dev.hwWake (d : Dev) (b : Blk) : Dev :=
  let g := d.blk b
  if g.power = 1 ∨ g.power = 2 ∨ g.power = 4 then d.setBlk b { g with power := 3 } else d

/-- `n` ticks pass: TB counts them, and the PTP clock adds 4 ns + FREQ × 2⁻³² ns in each (R353, R354). -/
def Tmu.run (t : Tmu) (n : Nat) : Tmu :=
  { t with tb := (t.tb + n) % 2 ^ 64, ptp := (Int.ofNat t.ptp + Int.ofNat n * (2 ^ 34 + t.freq)).toNat % (2 ^ 80 * 1000000000) }

/-- Advance TB to an event's time, if that is later (notes/assumptions/7.md). -/
def Dev.at_ (d : Dev) (t : Nat) : Dev := { d with tmu := d.tmu.run (t - d.tmu.tb) }

end Sys2Proof.Machine
end

