-- ==== Sys2Proof/Machine/Cmd.lean ====
section
/-! DEFINITION. Reply codes and their order (spec/02 R30, R31), what a COMMAND answers, version negotiation (R41). -/

namespace Sys2Proof.Machine

/-! The reply codes (R30) -/
def RC.OK : Nat := 0x00
def RC.BUSY : Nat := 0x10
def RC.BUSY_SELFTEST : Nat := 0x11
def RC.BUSY_CALIBRATION : Nat := 0x12
def RC.BAD_ADDRESS : Nat := 0x20
def RC.BAD_LENGTH : Nat := 0x21
def RC.BAD_VALUE : Nat := 0x22
def RC.ABSENT : Nat := 0x23
def RC.LOCKED : Nat := 0x30
def RC.NOT_IN_STATE : Nat := 0x31
def RC.NOT_PERMITTED : Nat := 0x32
def RC.VERSION : Nat := 0x40
def RC.FROZEN : Nat := 0x50
def RC.POWER : Nat := 0x60
def RC.TX_LATE : Nat := 0x70
def RC.INTERNAL : Nat := 0x7F
def RC.RETRY_LIMIT : Nat := 0x80
def RC.AGED : Nat := 0x81
def RC.NO_KEY : Nat := 0x82
def RC.STA_GONE : Nat := 0x83
def RC.FLUSHED : Nat := 0x84

/-- The codes in the order in which they apply (R31). -/
def codeOrder : List Nat :=
  [RC.VERSION, RC.BAD_LENGTH, RC.BAD_ADDRESS, RC.ABSENT, RC.NOT_IN_STATE, RC.NOT_PERMITTED, RC.LOCKED, RC.BAD_VALUE,
   RC.BUSY_SELFTEST, RC.BUSY_CALIBRATION, RC.POWER, RC.FROZEN, RC.BUSY]

/-- Of the codes that apply, the one that R31 puts first; OK where none applies. -/
def firstCode (cs : List Nat) : Nat := (codeOrder.find? (fun c => cs.contains c)).getD RC.OK

/-- The codes of the conditions that hold, the first of them by R31. -/
def refuse (cs : List (Bool × Nat)) : Nat := firstCode ((cs.filter (fun c => c.1)).map (fun c => c.2))

/-- The checks ranked ahead of BUSY_SELFTEST, which are made whatever the state of the block (R31). -/
def isFormCode (c : Nat) : Bool :=
  [RC.VERSION, RC.BAD_LENGTH, RC.BAD_ADDRESS, RC.ABSENT, RC.NOT_IN_STATE, RC.NOT_PERMITTED, RC.LOCKED,
   RC.BAD_VALUE].contains c

/-- What a request answers: code, DETAIL, payload; `later`: no reply yet, one follows when the work is done. -/
structure Ans where
  code : Nat
  detail : Nat
  words : List Word
  later : Bool
deriving DecidableEq, Repr

/-- OK with a payload. -/
def Ans.ok (ws : List Word) : Ans := { code := RC.OK, detail := 0, words := ws, later := false }

/-- A refusal. -/
def Ans.err (c : Nat) : Ans := { code := c, detail := 0, words := [], later := false }

/-- A command answers OK and changes the device, unless one of the conditions refuses it. -/
def cmdIf (d : Dev) (cs : List (Bool × Nat)) (eff : Dev × List Word) : Dev × Ans :=
  let c := refuse cs
  if c = RC.OK then (eff.1, Ans.ok eff.2) else (d, Ans.err c)

/-- A request came over ACP. -/
def Src.isAcp : Src → Bool
  | .acp _ => true
  | _ => false

/-- Version negotiation (R41): the lower maximum, unless it is below the higher minimum. -/
def agree (min1 max1 min2 max2 : Nat) : Option Nat :=
  if min max1 max2 < max min1 min2 then none else some (min max1 max2)

/-- Some bit of a payload word outside the given field mask is set. -/
def extra (w mask : Word) : Bool := decide (w &&& ~~~ mask ≠ 0)

/-- A number lies outside a range. -/
def outside (v lo hi : Nat) : Bool := decide (v < lo ∨ hi < v)

/-- SEQ order modulo 2¹⁶: `a` is newer than `b` (spec/08 R208). -/
def newer16 (a b : Nat) : Bool := let k := (a + 65536 - b % 65536) % 65536; decide (1 ≤ k ∧ k ≤ 0x7FFF)

/-- A header of no frame, for entries that carry none. -/
def Hdr.none : Hdr :=
  { len := 0, dst := 0, src := 0, tags := [], etype := 0, ipver := 0, malformed := false, deep := false, options := false, proto := 0,
    sip := 0, dip := 0, dscp := 0, ttl := 0, frag := false, nonFirst := false, sport := 0, dport := 0, tcpFlags := 0,
    icmpError := false, icmpEcho := false, ipSum := 0, l4Sum := 0, ndTarget := Option.none }

end Sys2Proof.Machine
end

