-- ==== Sys2Proof/Machine/Node.lean ====
section
/-! DEFINITION. The PTP clock's time in ticks, and what a mesh node is: its radio and BSS, its beacon interval, its place, the mesh element
of its beacons (spec/15 R354; spec/16 R377, R380). -/

namespace Sys2Proof.Machine

/-- PTP time in ns. -/
def Dev.ptpNs (d : Dev) : Nat := d.tmu.ptp / 2 ^ 32

/-- The tick at which the PTP clock reaches a time in ns, and the PTP time in ns of a tick, at the clock's present rate (spec/15 R354). -/
def Dev.tickAt (d : Dev) (ns : Nat) : Nat := d.tb + ceilDiv (ns * 2 ^ 32 - d.tmu.ptp) (2 ^ 34 + d.tmu.freq).toNat
def Dev.ptpAt (d : Dev) (t : Nat) : Nat := (Int.ofNat d.tmu.ptp + (Int.ofNat t - Int.ofNat d.tb) * (2 ^ 34 + d.tmu.freq)).toNat / 2 ^ 32

/-- The tick at which the PTP clock's count of µs has advanced by `us`. -/
def Dev.usAhead (d : Dev) (us : Nat) : Nat := d.tickAt ((d.ptpNs / 1000 + us) * 1000)

/-- The radio's MAC address (R167). -/
def Dev.macAddr (d : Dev) (r : Radio) : Nat := (d.rd (A.MAC.ADDR_LO r)).toNat + 2 ^ 32 * d.fld (A.MAC.ADDR_HI r) 15 0

/-! The mesh node -/

/-- The mesh radio and its BSS (MSH.MESH_CFG). -/
def Dev.meshRadio (d : Dev) : Radio := Radio.ofNum (d.fld A.MSH.MESH_CFG 25 24)
def Dev.meshBss (d : Dev) : Nat := d.fld A.MSH.MESH_CFG 23 20
def Dev.meshOn (d : Dev) : Bool := d.bit A.MSH.MESH_CFG 31

/-- This node's MAC address: that of the mesh radio. -/
def Dev.nodeMac (d : Dev) : Nat := d.macAddr d.meshRadio

/-- The limits of the mesh registers: lease, depth, versions, guard. -/
def Dev.leaseS (d : Dev) : Nat := d.fld A.MSH.LEASE_CFG 15 0
def Dev.maxDepth (d : Dev) : Nat := d.fld A.MSH.JOIN_CFG 19 16
def Dev.minVer (d : Dev) : Nat := d.fld A.MSH.VER_CFG 7 4
def Dev.maxVer (d : Dev) : Nat := d.fld A.MSH.VER_CFG 11 8
def Dev.guardCfg (d : Dev) : Nat := d.fld A.MSH.SLEEP_CFG 31 16

/-- The beacon interval of the mesh in TU: that of the mesh BSS, 100 where it is not set. -/
def Dev.meshTu (d : Dev) : Nat :=
  match tabFind (d.mac.get d.meshRadio).bss d.meshBss with
  | some b => if b.intervalTu = 0 then 100 else b.intervalTu
  | none => 100

/-- A beacon interval in TB ticks: 1,024 µs for each TU. -/
def Dev.meshTicks (d : Dev) : Nat := d.meshTu * 256000

/-- The number of this node's own beacon interval now: TBTTs fall at (17 × address) mod the interval (R377). -/
def Dev.ownInterval (d : Dev) : Nat :=
  ((d.ptpNs / 1000) + d.meshTu * 1024 - (17 * d.msh.addr % d.meshTu) * 1024) / (d.meshTu * 1024)

/-- The tick of the next TBTT of a node with a given address, `k` intervals on from the next one (R377). -/
def Dev.nextTbtt (d : Dev) (addr k : Nat) : Nat :=
  let us := d.ptpNs / 1000
  let off := (17 * addr % d.meshTu) * 1024
  let per := d.meshTu * 1024
  let n := (us + per - off) / per
  d.usAhead (off + (n + k) * per - us)

/-- The node beacons on the mesh BSS: as CANDIDATE, JOINED or ROOT, and in SEARCH (R381, R385, R399). -/
def Msh.beacons (m : Msh) : Bool := decide (m.state = .candidate ∨ m.state = .joined ∨ m.state = .root ∨ m.state = .search)

/-- The mesh radio is away from the mesh channel: the node scans (R377). -/
def Dev.offMesh (d : Dev) (r : Radio) : Bool := d.meshOn && decide (r = d.meshRadio ∧ d.msh.state = .scan)

/-- A BSS is the mesh's on a node whose mesh runs. -/
def Dev.isMeshBss (d : Dev) (r : Radio) (i : Nat) : Bool := d.meshOn && decide (r = d.meshRadio ∧ i = d.meshBss)

/-- States as SERVO_STAT numbers them. -/
def Servo.code : Servo → Nat
  | .free => 0
  | .acquire => 1
  | .locked => 2
  | .holdover => 3

/-- HOPS of SERVO_STAT: 0 on a time source (R358). -/
def Dev.hops (d : Dev) : Nat := if d.bit A.TMU.SERVO_CFG 31 then 0 else d.tmu.hops

/-- ADMITTING of the mesh element: fewer than MAX_CHILD children, depth below MAX_DEPTH, not in SEARCH (R380). -/
def Dev.admitting (d : Dev) : Bool :=
  decide (d.msh.children.length < d.fld A.MSH.JOIN_CFG 5 0) && decide (d.msh.depth < d.maxDepth)
    && decide (d.msh.state ≠ .search)

/-- The code of a state, as NODE_STAT and the mesh element give it. -/
def NodeState.code : NodeState → Nat
  | .off => 0
  | .candidate => 1
  | .scan => 2
  | .joining => 3
  | .joined => 4
  | .root => 5
  | .search => 6

/-- The body of the mesh element in this node's beacons (R380); version-1 and version-2 beacons drop bytes 19 to 21. -/
def Dev.meshElement (d : Dev) : List Byte :=
  let m := d.msh
  let st := match m.state with
    | .candidate => 1
    | .root => 5
    | .joined | .search => 4
    | _ => 0
  let r := d.meshRadio
  natBytes 4 (d.rd A.MSH.MESH_ID).toNat ++ natBytes 1 (d.minVer + 16 * d.maxVer) ++ natBytes 1 st
    ++ natBytes 2 (m.addr % 1024 + 1024 * (m.depth % 16))
    ++ natBytes 1 (if m.state = .root ∨ m.state = .candidate then d.fld A.MSH.ROOT_CFG 31 24 else 0)
    ++ natBytes 1 (m.children.length % 64 + 64 * b2n d.admitting + 128 * b2n (decide (d.tmu.servo = .locked)))
    ++ natBytes 1 d.hops ++ natBytes 6 (if m.state = .root then d.nodeMac else m.rootMac) ++ natBytes 2 d.meshTu
    ++ if d.maxVer < 3 then []
       else natBytes 2 (d.fld (A.ASC.HEAT_CFG r.num) 15 0)
         ++ natBytes 1 (d.fld (A.ASC.HEAT_CFG r.num) 19 16 + 16 * d.fld (A.ASC.HEAT_CFG r.num) 23 20)

/-- The vendor-specific element of a mesh beacon (R380). -/
def Dev.meshVendor (d : Dev) : List Byte :=
  natBytes 1 221 ++ natBytes 1 (3 + d.meshElement.length) ++ natBytes 3 Config.vendorId.toNat ++ d.meshElement

end Sys2Proof.Machine
end

