-- ==== Sys2Proof/Machine/Rgl.lean ====
section
/-! DEFINITION. The regulatory lock: the page, the effective limits, the start check, the detector correction and the duty
meter (spec/03 R84 to R91, R95), and a radio's channel as subchannels (R92). Powers are in 0.25 dB. -/

namespace Sys2Proof.Machine

/-! The regulatory page (R84 to R86) -/

/-- The reserved fields of words 0 to 31 that must be 0. -/
def rglReserved (ws : List Word) : Bool :=
  decide (word ws 0 &&& 0x7F0000F8 = 0) && decide (word ws 25 &&& 0xFFFF0000 = 0) && decide (word ws 28 &&& 0xFFFFFF00 = 0)
    && decide (word ws 29 &&& 0xFF000000 = 0) && decide (word ws 30 &&& 0xFF000000 = 0) && decide (word ws 31 &&& 0xC0000000 = 0)
    && ((List.range 31).map (fun i => word ws (32 + i))).all (fun w => decide (w = 0))

/-- CRC-32 of words 0 to 62, with bit 31 of word 0 taken as 0. -/
def rglCrc (ws : List Word) : Word :=
  crc32 (wordsBytes ((List.range 63).map (fun i => if i = 0 then word ws 0 &&& 0x7FFFFFFF else word ws i)))

/-- The page is valid: CRC, FORMAT and reserved fields (R85). -/
def rglPageOk (ws : List Word) : Bool :=
  decide (rglCrc ws = word ws 63) && decide (bitsOf (word ws 0) 23 16 = 1) && rglReserved ws

/-- LOCK of the shadow latches. -/
def Dev.rglLocked (d : Dev) : Bool := bitOf (tabGet 0 d.rgl.shadow 0) 31

/-- RGL takes its limits from the TEST registers (R86). -/
def Dev.rglTest (d : Dev) : Bool := decide (d.mgt.otp.lc = .raw ∨ d.mgt.otp.lc = .test) && !d.rglLocked

/-- A word of the limits in use. -/
def Dev.rglWord (d : Dev) (k : Nat) : Word :=
  if d.rglTest then (if k < 32 then d.rd (A.RGL.TEST_W k) else 0) else tabGet 0 d.rgl.shadow k

/-- OTP_STAT.VALID: the page in use is valid; the TEST registers have no CRC (R85, R86). -/
def Dev.rglValid (d : Dev) : Bool :=
  if d.rglTest then
    let ws := (List.range 32).map d.rglWord
    decide (bitsOf (word ws 0) 23 16 = 1) && rglReserved ((word ws 0 &&& 0x7FFFFFFF) :: ws.drop 1)
  else rglPageOk ((List.range 64).map d.rglWord)

/-- Transmission is not refused for the page: valid, and locked outside RAW and TEST (R85). -/
def Dev.rglSource (d : Dev) : Bool :=
  d.rglValid && (d.rglLocked || decide (d.mgt.otp.lc = .raw ∨ d.mgt.otp.lc = .test))

/-- OTP_INVALID follows the check (R85). -/
def Dev.rglCheck (d : Dev) : Dev := d.follow .rgl Cause.RGL.OTP_INVALID (!d.rglSource)

/-- The shadow latches are loaded from the fuses (R84, R91). -/
def Dev.rglLoad (d : Dev) : Dev := (d.onRgl (fun g => { g with shadow := d.mgt.otp.reg })).rglCheck

/-! Effective limits (R87) -/

/-- A 20 MHz channel number is allowed on a radio. -/
def Dev.chanOk (d : Dev) (r : Radio) (ch : Nat) : Bool :=
  let k := 8 * r.num + ch / 32 % 8
  bitOf (d.rglWord (1 + k)) (ch % 32) && bitOf (d.rd (A.RGL.FIELD_CHAN k)) (ch % 32)

/-- The limit of one word and bit position for a width. -/
def pwrPlace (r : Radio) (bw : Nat) : Nat × Nat :=
  match r with
  | .a => (25, 8 * min bw 1)
  | .b => (26, 8 * min bw 3)
  | .c => if bw < 4 then (27, 8 * bw) else (28, 0)

/-- The effective antenna-port limit of a single chain at a width. -/
def Dev.pwrLim (d : Dev) (r : Radio) (bw : Nat) : Nat :=
  let (w, lo) := pwrPlace r bw
  min (bitsOf (d.rglWord w) (lo + 7) lo) (bitsOf (d.rd (A.RGL.FIELD_PWR0 + 4 * (w - 25))) (lo + 7) lo)

/-- The effective duty limit, 0.1 %. -/
def Dev.dutyLim (d : Dev) (r : Radio) : Nat :=
  min (bitsOf (d.rglWord 31) (10 * r.num + 9) (10 * r.num)) (d.fld A.RGL.FIELD_DUTY (10 * r.num + 9) (10 * r.num))

/-- FEM gain (signed) and antenna-gain allowance of a radio. -/
def Dev.femGain (d : Dev) (r : Radio) : Int := signed 8 (bitsOf (d.rglWord 29) (8 * r.num + 7) (8 * r.num))
def Dev.allowance (d : Dev) (r : Radio) : Nat := bitsOf (d.rglWord 30) (8 * r.num + 7) (8 * r.num)

/-! Channels (R92) -/

/-- Centre, width code and primary channel number of a CHAN word. -/
def chanCenter (w : Word) : Nat := bitsOf w 28 16
def chanWidth (w : Word) : Nat := bitsOf w 10 8
def chanPrim (w : Word) : Nat := bitsOf w 7 0

/-- Channel number of a 20 MHz centre frequency on a radio (IEEE 802.11: 2,407, 5,000 and 5,950 MHz plus 5 a channel; channel
14 of the 2.4 GHz band at 2,484 MHz). -/
def chanNum (r : Radio) (mhz : Nat) : Nat :=
  match r with
  | .a => if mhz = 2484 then 14 else (mhz - 2407) / 5
  | .b => (mhz - 5000) / 5
  | .c => if mhz = 5935 then 2 else (mhz - 5950) / 5

/-- Centre frequency of subchannel `i` of a channel of `n` subchannels. -/
def subMhz (w : Word) (i : Nat) : Nat := chanCenter w + 10 + 20 * i - 10 * 2 ^ chanWidth w

/-- The channel numbers of a channel's 20 MHz subchannels, lowest first. -/
def chanSubs (r : Radio) (w : Word) : List Nat := (List.range (2 ^ chanWidth w)).map (fun i => chanNum r (subMhz w i))

/-- The index of the primary subchannel. -/
def primIdx (r : Radio) (w : Word) : Nat := (chanSubs r w).findIdx (fun c => decide (c = chanPrim w))

/-- The subchannels of the block of width code `bw` that contains the primary. -/
def blockSubs (r : Radio) (w : Word) (bw : Nat) : List Nat :=
  let p := primIdx r w
  (List.range (2 ^ bw)).map (fun i => p / 2 ^ bw * 2 ^ bw + i)

/-- 20 MHz channels of the bands as IEEE 802.11 defines them: 1 to 14; 36 to 64, 100 to 144, 149 to 177; 1 to 233 in steps of
4, and 2. -/
def chan20 (r : Radio) (c : Nat) : Bool :=
  match r with
  | .a => decide (1 ≤ c ∧ c ≤ 14)
  | .b => decide (c % 4 = 0 ∧ (36 ≤ c ∧ c ≤ 64 ∨ 100 ≤ c ∧ c ≤ 144)) || decide (c % 4 = 1 ∧ 149 ≤ c ∧ c ≤ 177)
  | .c => decide (c % 4 = 1 ∧ c ≤ 233) || decide (c = 2)

/-- A wider channel starts on its grid: 5 GHz at 36, 52, 100, 149 and on; 6 GHz at 1 and on, with 320 MHz in both of its
alignments (every 160 MHz). -/
def onGrid (r : Radio) (w c : Nat) : Bool :=
  match r with
  | .a => true
  | .b =>
    let base := if c < 100 then 36 else if c < 149 then 100 else 149
    decide ((c - base) % (4 * 2 ^ w) = 0)
  | .c => decide (w = 0) || decide ((c - 1) % (4 * 2 ^ min w 3) = 0)

/-- The centre of a 20 MHz channel of a band. -/
def mhz20 (r : Radio) (f : Nat) : Bool :=
  match r with
  | .a => decide (f = 2484 ∨ 2412 ≤ f ∧ f ≤ 2472 ∧ (f - 2407) % 5 = 0)
  | .b => decide ((f - 5000) % 5 = 0) && chan20 .b (chanNum .b f)
  | .c => decide (f = 5935) || (decide (5955 ≤ f ∧ (f - 5950) % 5 = 0) && chan20 .c (chanNum .c f))

/-- A CHAN word names a channel of the band whose primary lies within it: each 20 MHz part is a channel of the band, 2.4 GHz
channel 14 and 6 GHz channel 2 stand alone, and a wide channel starts on its grid (R92). -/
def chanValid (r : Radio) (w : Word) : Bool :=
  let fs := (List.range (2 ^ chanWidth w)).map (subMhz w)
  let wide := decide (chanWidth w ≤ match r with
    | .a => 1
    | .b => 3
    | .c => 4)
  wide && decide (2400 < chanCenter w) && fs.all (mhz20 r)
    && (decide (chanWidth w = 0) || !(fs.contains 2484 || fs.contains 5935))
    && (chanSubs r w).contains (chanPrim w) && (decide (chanCenter w = 5935) || onGrid r (chanWidth w) ((chanSubs r w).headD 0))

/-! Power of a chain (R123): sums of powers as numbers with 12 decimal digits -/

/-- 10^(k/40) × 10¹² for k from 0 to 39: steps of 0.25 dB over one decade. -/
def quarterDb : List Nat :=
  [1000000000000, 1059253725177, 1122018454302, 1188502227437, 1258925411794, 1333521432163, 1412537544623, 1496235656094,
   1584893192461, 1678804018123] ++
  [1778279410039, 1883649089490, 1995262314969, 2113489039837, 2238721138568, 2371373705662, 2511886431510, 2660725059799,
   2818382931264, 2985382618918] ++
  [3162277660168, 3349654391578, 3548133892336, 3758374042884, 3981071705535, 4216965034286, 4466835921510, 4731512589615,
   5011872336273, 5308844442310] ++
  [5623413251903, 5956621435290, 6309573444802, 6683439175686, 7079457843841, 7498942093325, 7943282347243, 8413951416452,
   8912509381337, 9440608762859]

/-- The factor of `k` quarter-dB above −16 dB. -/
def dbFactor (k : Nat) : Nat := quarterDb.getD (k % 40) 0 * 10 ^ (k / 40)

/-- Offset of quarter-dB as an index from −16 dB. -/
def dbIndex (o : Int) : Nat := (o + 64).toNat

/-- 10 log10(Σ n_i 10^(o_i/10) / N) rounded up to 0.25 dB; 0 where no RU is given tones (an NDP, a PPDU on the whole width). -/
def meanOffset (us : List (Nat × Int)) : Int :=
  let n := us.foldl (fun s u => s + u.1) 0
  let p := us.foldl (fun s u => s + u.1 * dbFactor (dbIndex u.2)) 0
  if n = 0 then 0 else match (List.range 90).find? (fun k => decide (p ≤ n * dbFactor k)) with
  | some k => (k : Int) - 64
  | none => 26

/-! The start check (R88 to R90) -/

/-- The chip-port floor and top of a radio (R120). -/
def chipFloor (r : Radio) : Int := if r = .a then -128 else -136
def chipTop (r : Radio) : Int := if r = .a then 32 else 24

/-- 10 log10(n) rounded up, 0.25 dB. -/
def dirGain (n : Nat) : Nat := [0, 0, 13, 20, 25, 28, 32, 34, 37].getD n 37

/-- On-time of a PPDU from ramp-up start to ramp-down end at the ramp it will take, in TB ticks, and in whole µs, rounded up
(R90). -/
def Dev.onTicks (d : Dev) (r : Radio) (durUs : Nat) : Nat := 250 * durUs + 50 * d.fld (A.RFE.RAMP_CFG r) 4 0
def Dev.onUs (d : Dev) (r : Radio) (durUs : Nat) : Nat := ceilDiv (d.onTicks r durUs) 250

/-- The present 1 ms bin. -/
def Dev.msBin (d : Dev) : Nat := d.tb / 250000

/-- On-time, in ticks, of the bin `k` after the present one and the 1,000 before it (R90). -/
def Dev.dutyAhead (d : Dev) (r : Radio) (k : Nat) : Nat :=
  ((d.rgl.onTime.get r).filter (fun e => decide (d.msBin + k ≤ e.1 + 1000))).foldl (fun n e => n + e.2) 0

/-- On-time of the current bin and the 1,000 before it, in ticks. -/
def Dev.dutySum (d : Dev) (r : Radio) : Nat := d.dutyAhead r 0

/-- The effective duty limit of a window in ticks, none where it never holds a start (R90). -/
def Dev.dutyRoom (d : Dev) (r : Radio) : Option Nat := if d.dutyLim r < 1000 then some (250000 * d.dutyLim r) else none

/-- The duty meter holds a start of an on-time. -/
def Dev.dutyHolds (d : Dev) (r : Radio) (on : Nat) : Bool :=
  match d.dutyRoom r with
  | some room => decide (room < d.dutySum r + on)
  | none => false

/-- The tick from which the duty window allows a held start: now, or the start of the first bin from which the sum leaves room
(R90). -/
def Dev.dutyRelease (d : Dev) (r : Radio) (on : Nat) : Option Nat :=
  match d.dutyRoom r with
  | none => some d.tb
  | some room =>
    ((List.range 1002).find? (fun k => decide (d.dutyAhead r k + on ≤ room))).map (fun k =>
      if k = 0 then d.tb else 250000 * (d.msBin + k))

/-- Add on-time from a start to an end, in TB ticks, to the bins it falls in; bins older than the window go. -/
def Dev.addOn (d : Dev) (r : Radio) (start stop : Nat) : Dev :=
  let first := start / 250000
  let bins := (List.range (stop / 250000 + 1 - first)).map (fun i =>
    (first + i, min stop (250000 * (first + i + 1)) - max start (250000 * (first + i))))
  let kept := (d.rgl.onTime.get r).filter (fun e => decide (d.msBin ≤ e.1 + 1001))
  d.onRgl (fun g => { g with onTime := g.onTime.set r (bins.foldl (fun t e => tabSet 0 t e.1 (tabGet 0 t e.1 + e.2)) kept) })

/-- What RGL answers to a start request: refused, for a channel or otherwise; held, or started, with each chain's reduction. -/
inductive RglStart where
  | refuse (chan : Bool)
  | hold (cut : List (Nat × Nat))
  | go (cut : List (Nat × Nat))
deriving DecidableEq, Repr

/-- The start check of R88: width, punctured subchannels (of the PPDU's block, bit 0 lowest), the transmitting chains, the
request of each, the on-time in ticks. -/
def Dev.rglStart (d : Dev) (r : Radio) (bw punct : Nat) (chains : List Nat) (request : Int) (on : Nat) : RglStart :=
  let w := (d.rfe.get r).tuned
  let subs := blockSubs r w bw
  let punctOk := bitOf (d.rglWord 0) r.num
  let chanBad := (List.range subs.length).any (fun i =>
    !(punct.testBit i && punctOk) && !d.chanOk r ((chanSubs r w).getD (subs.getD i 0) 256))
  let n := chains.length
  let lim : Int := Int.ofNat (d.pwrLim r bw) - (if 1 < n then (Int.ofNat (dirGain n - d.allowance r)) else 0) - d.femGain r
  let cLim (c : Nat) : Int := lim - Int.ofNat (tabGet 0 (d.rgl.detCorr.get r) c)
  if !d.rglSource || !d.ready .rgl then .refuse false
  else if chanBad then .refuse true
  else if chains.any (fun c => decide (cLim c < chipFloor r) || (d.rgl.detOver.get r).testBit c) then .refuse false
  else
    let cut := chains.map (fun c => (c, (request - cLim c).toNat))
    if d.dutyHolds r on then .hold cut else .go cut

/-- A refused start: counted and caused when it is for the channel (R88). -/
def Dev.rglRefused (d : Dev) (r : Radio) (chan : Bool) : Dev :=
  if chan then (d.count (A.RGL.CHAN_REFUSE_CNT r.num)).raise .rgl Cause.RGL.CHAN_REFUSED else d

/-- A check that clamps is counted and caused, whether the start is then held or not (R88). -/
def Dev.rglClamped (d : Dev) (r : Radio) (cut : List (Nat × Nat)) : Dev :=
  if cut.any (fun e => decide (0 < e.2)) then (d.count (A.RGL.CLAMP_CNT r.num)).raise .rgl Cause.RGL.REQ_CLAMPED else d

/-- A held start: DUTY_LIMIT at the first hold in a window: set once, and not again for the 1,001 bins after that hold
(R90; notes/assumptions/100.md). -/
def Dev.rglHeld (d : Dev) (r : Radio) (cut : List (Nat × Nat)) (response : Bool) : Dev :=
  let d1 := (d.rglClamped r cut).count (if response then A.RGL.DUTY_DROP_CNT r.num else A.RGL.DUTY_HOLD_CNT r.num)
  let first := decide (d.rgl.holdSeen.get r ≤ d.msBin)
  let d2 := d1.onRgl (fun g => { g with dutyHold := g.dutyHold.set r true,
                                        holdSeen := if first then g.holdSeen.set r (d.msBin + 1001) else g.holdSeen })
  if first then d2.raise .rgl Cause.RGL.DUTY_LIMIT else d2

/-- Starts are held no longer (R90). -/
def Dev.rglFree (d : Dev) (r : Radio) : Dev := d.onRgl (fun g => { g with dutyHold := g.dutyHold.set r false })

/-- Detector readings after a PPDU (R89): each chain's applied power and reading. A reading more than 0.5 dB above the applied
power raises the correction by the whole difference, one within 0.5 dB of it lowers the correction by 0.25 dB, one further below
leaves it. -/
def Dev.detUpdate (d : Dev) (r : Radio) (readings : List (Nat × Int × Int)) : Dev :=
  readings.foldl (fun d x =>
    let (c, applied, reading) := x
    let now := tabGet 0 (d.rgl.detCorr.get r) c
    if applied + 2 < reading then
      let v := now + (reading - applied).toNat
      if 24 < v then
        (d.onRgl (fun g => { g with detOver := g.detOver.set r (g.detOver.get r ||| 2 ^ c) })).raise .rgl Cause.RGL.DETECT_OVER
      else d.onRgl (fun g => { g with detCorr := g.detCorr.set r (tabSet 0 (g.detCorr.get r) c v) })
    else if applied ≤ reading + 2 then
      d.onRgl (fun g => { g with detCorr := g.detCorr.set r (tabSet 0 (g.detCorr.get r) c (now - 1)) })
    else d) d

/-! The RGL page -/

/-- What a write of an RGL register meets besides its fields' ranges (R86; RGL registers). -/
def rglPre (o : Nat) (v : Word) (d : Dev) : List (Bool × Nat) :=
  if 0x300 ≤ o ∧ o ≤ 0x37C then [(!d.rglTest, RC.NOT_IN_STATE)]
  else if o = 0x270 then
    [(decide (1000 < bitsOf v 9 0 ∨ 1000 < bitsOf v 19 10 ∨ 1000 < bitsOf v 29 20), RC.BAD_VALUE)]
  else []

/-- A TEST register has been written: the page is checked again. -/
def rglPost (o : Nat) (d : Dev) : Dev := if 0x300 ≤ o ∧ o ≤ 0x37C then d.rglCheck else d

/-- The live registers of the RGL page. While SOURCE is 1, OTP_STAT.REGION and FORMAT show word 0 of the TEST registers, the
page in use (notes/assumptions/101.md). -/
def rglLive (o : Nat) (d : Dev) : Option Word :=
  if o = 0x040 then
    some (wd (bitsOf (d.rglWord 0) 15 8 * 2 ^ 16 + bitsOf (d.rglWord 0) 23 16 * 2 ^ 8 + b2n d.rglTest * 4
      + b2n d.rglLocked * 2 + b2n d.rglValid))
  else if 0x044 ≤ o ∧ o ≤ 0x04C then
    let r := Radio.ofNum ((o - 0x044) / 4)
    let w := d.rd (A.RFE.CHAN r)
    some (wd (d.dutyLim r * 2 ^ 16 + b2n (d.rgl.dutyHold.get r) * 2 ^ 9 + b2n ((chanSubs r w).all (d.chanOk r)) * 2 ^ 8
      + d.pwrLim r (chanWidth w)))
  else if 0x050 ≤ o ∧ o ≤ 0x058 then
    let r := Radio.ofNum ((o - 0x050) / 4)
    let now : Nat := match (d.phy.get r).tx with
      | some x => d.tb - (x.start - 25 * bitsOf (d.rfe.get r).femNow.ramp 4 0)
      | none => 0
    some (wd ((d.dutySum r + now) / 250 % 2 ^ 20))
  else if 0x060 ≤ o ∧ o ≤ 0x074 then
    let k := (o - 0x060) / 4
    let t := d.rgl.detCorr.get (Radio.ofNum (k / 2))
    some (wd ((List.range 4).foldl (fun n i => n + tabGet 0 t (4 * (k % 2) + i) * 2 ^ (8 * i)) 0))
  else if 0x100 ≤ o ∧ o ≤ 0x1FC then some (tabGet 0 d.rgl.shadow ((o - 0x100) / 4))
  else if 0x300 ≤ o ∧ o ≤ 0x37C then (if d.rglTest then none else some 0)
  else none

end Sys2Proof.Machine
end

