-- ==== Sys2Proof/Machine/Image.lean ====
section
/-! DEFINITION. Firmware images, their checks, and the two slots they are kept in (spec/17 R420 to R422). -/

namespace Sys2Proof.Machine

/-- A refusal with a DETAIL. -/
def Ans.errD (c det : Nat) : Ans := { code := c, detail := det, words := [], later := false }

/-! Images (R421, R422) -/

/-- A component of an image: type, its bytes, its hash. -/
structure Component where
  typ : Nat
  off : Nat
  bytes : List Byte
  hash : Nat
deriving DecidableEq, Repr

/-- A big-endian number of bytes, as hashes and keys are written. -/
def beNat (bs : List Byte) : Nat := bs.foldl (fun n b => 256 * n + b.toNat) 0

/-- The components an image's header lists. -/
def imageParts (im : List Byte) : List Component :=
  (List.range (leNat ((im.drop 6).take 2))).map (fun i =>
    let h := (im.drop (128 + 64 * i)).take 64
    let off := leNat ((h.drop 4).take 4)
    { typ := byteAt h 0, off := off, bytes := (im.drop off).take (leNat ((h.drop 8).take 4)),
      hash := beNat ((h.drop 16).take 48) })

/-- The largest size of a component of a type (R421). -/
def partLimit (typ : Nat) : Nat := if typ = 1 then 352 * 1024 else 64 * 1024

/-- Bytes from `a` to below `b` are zero. -/
def zeros (im : List Byte) (a b : Nat) : Bool := ((im.take b).drop a).all (fun x => decide (x = 0))

/-- Step 2 of R422: magic, lengths, offsets, reserved fields; each type once, and the required components present. -/
def imageShape (im : List Byte) : Bool :=
  let n := leNat ((im.drop 6).take 2)
  let ps := imageParts im
  let types := ps.map (fun p => p.typ)
  decide (leNat (im.take 4) = 0x49575053) && decide (1 ≤ n ∧ n ≤ 16) && decide (byteAt im 5 ≤ 3)
    && decide (leNat ((im.drop 8).take 4) = im.length ∧ 4096 ≤ im.length ∧ im.length ≤ 8 * 2 ^ 20)
    && decide (leNat ((im.drop 12).take 4) ≤ 64)
    && zeros im 20 24 && zeros im 121 128 && zeros im 1248 4096
    && ps.all (fun p => decide (1 ≤ p.typ ∧ p.typ ≤ 7) && decide (p.off % 4096 = 0 ∧ 4096 ≤ p.off ∧ p.off ≤ im.length))
    && (List.range n).all (fun i => zeros im (128 + 64 * i + 1) (128 + 64 * i + 4)
      && zeros im (128 + 64 * i + 12) (128 + 64 * i + 16)
      && decide (leNat ((im.drop (128 + 64 * i + 4)).take 4) + leNat ((im.drop (128 + 64 * i + 8)).take 4) ≤ im.length))
    && types.all (fun t => decide ((types.filter (fun x => decide (x = t))).length = 1))
    && [1, 2, 3, 4, 5, 6].all (fun t => types.contains t)

/-- The key of an image: its hash matches a programmed key hash. -/
def Dev.keyOk (d : Dev) (k : Nat) (pub : List Byte) : Bool := decide (tabFind d.mgt.otp.keys k = some (Config.sha384 pub).toNat)
def Dev.keyRevoked (d : Dev) (k : Nat) : Bool := tabGet false d.mgt.otp.revoked k

/-- Steps 3 to 6 are skipped in RAW, TEST and PROVISION while no key hash is programmed (R422). -/
def Dev.unsignedOk (d : Dev) : Bool :=
  decide (d.mgt.otp.lc = .raw ∨ d.mgt.otp.lc = .test ∨ d.mgt.otp.lc = .provision) && d.mgt.otp.keys.isEmpty

/-- The checks of R422 in order: reply code and DETAIL of the first that fails. What flash reads back is what was written, unless
flash is out of use after FLASH_FAIL (notes/assumptions/61.md). -/
def Dev.verify (d : Dev) (im : List Byte) : Option (Nat × Nat) :=
  let k := byteAt im 5
  let pub := (im.drop 24).take 97
  if byteAt im 4 ≠ 1 then some (RC.VERSION, 1)
  else if !imageShape im then some (RC.BAD_VALUE, 2)
  else if !d.unsignedOk && !d.keyOk k pub then some (RC.NOT_PERMITTED, 3)
  else if !d.unsignedOk && d.keyRevoked k then some (RC.NOT_PERMITTED, 4)
  else if !d.unsignedOk && decide (leNat ((im.drop 12).take 4) < d.mgt.otp.arb) then some (RC.NOT_PERMITTED, 5)
  else if !d.unsignedOk && !Config.ecdsaOk pub ((im.drop 1152).take 96) (Config.sha384 (im.take 1152)).toNat then
    some (RC.NOT_PERMITTED, 6)
  else if (imageParts im).any (fun p => decide (partLimit p.typ < p.bytes.length)
      || decide ((Config.sha384 p.bytes).toNat ≠ p.hash)) then some (RC.BAD_VALUE, 7)
  else if d.mgt.flashFail then some (RC.INTERNAL, 9)
  else none

/-! Slots (R420, R424) -/

/-- The slot that runs, and the other one. -/
def Mgt.running (m : Mgt) : Slot := if m.slot then m.flash.slotB else m.flash.slotA
def Mgt.other (m : Mgt) : Slot := if m.slot then m.flash.slotA else m.flash.slotB

/-- Write the descriptor and image of the running or the other slot. -/
def Mgt.setOther (m : Mgt) (x : Slot) : Mgt :=
  if m.slot then { m with flash := { m.flash with slotA := x } } else { m with flash := { m.flash with slotB := x } }
def Mgt.setRunning (m : Mgt) (x : Slot) : Mgt :=
  if m.slot then { m with flash := { m.flash with slotB := x } } else { m with flash := { m.flash with slotA := x } }

/-- The component of a type of the running slot's image. -/
def Dev.runningPart (d : Dev) (typ : Nat) : List Byte :=
  match (imageParts d.mgt.running.image).find? (fun p => decide (p.typ = typ)) with
  | some p => p.bytes
  | none => []

/-- MP SRAM with the MP firmware of the running slot in it (R409, R421; spec/18 R447). -/
def Dev.fwInto (d : Dev) (sram : Tab Byte) : Tab Byte := (d.runningPart 1).zipIdx.foldl (fun t e => tabSet 0 t e.2 e.1) sram

end Sys2Proof.Machine
end

