-- ==== Sys2Proof/Machine/Mem.lean ====
section
/-! DEFINITION. Inkwell's shares, the DDR5 controller's state, DRAM contents and poison, and the MEM page's registers
(spec/14_memory.md). What a freeze and a reset do to the controller's clients stands in Reset.lean. -/

namespace Sys2Proof.Machine

/-! Inkwell shares (R336 to R338): 0 ETH, 1 TXA, 2 TXB, 3 TXC, 4 RX, 5 HOST -/

/-- The radio's TX staging share. -/
def stagingOf (r : Radio) : Nat := 1 + r.num

/-- The size of a share in 64 KiB units. -/
def Dev.shareUnits (d : Dev) (s : Nat) : Nat :=
  if s = 0 then d.fld A.MEM.INK_PART0 7 0
  else if s = 1 then d.fld A.MEM.INK_PART1 7 0
  else if s = 2 then d.fld A.MEM.INK_PART1 15 8
  else if s = 3 then d.fld A.MEM.INK_PART1 23 16
  else if s = 4 then d.fld A.MEM.INK_PART0 15 8
  else d.fld A.MEM.INK_PART0 23 16

/-- Cells in use of a share. -/
def Dev.inkUse (d : Dev) (s : Nat) : Nat := tabGet 0 d.mem.inkUse s

/-- A share has room for `n` more cells. -/
def Dev.inkRoom (d : Dev) (s n : Nat) : Bool := decide (d.inkUse s + n ≤ 256 * d.shareUnits s)

/-- Account a number of cells to a share (INK_USE.USE, PEAK). -/
def Dev.inkSet (d : Dev) (s n : Nat) : Dev :=
  d.onMem (fun m => { m with inkUse := tabSet 0 m.inkUse s n, inkPeak := tabSet 0 m.inkPeak s (max n (tabGet 0 m.inkPeak s)) })
def Dev.inkTake (d : Dev) (s n : Nat) : Dev := d.inkSet s (d.inkUse s + n)
def Dev.inkFree (d : Dev) (s n : Nat) : Dev := d.inkSet s (d.inkUse s - n)

/-- Cells of a frame of `len` bytes (R13). -/
def cellsOf (len : Nat) : Nat := ceilDiv len 256

/-- PG_CTRL.ENABLE may not be set on the data plane before the partition is committed (R338). -/
def Dev.inkCommitted (d : Dev) : Bool := d.bit A.MEM.INK_CTRL 0

/-! The controller -/

/-- Capacity of the configured channel in MiB, 0 for a combination outside R341. -/
def ddrMib (cfg : Word) : Nat :=
  let dens := bitsOf cfg 5 4
  let one := (if bitOf cfg 6 then 8 else 16) * (if dens = 0 then 2 else if dens = 1 then 3 else 4) * 512
  if bitOf cfg 7 then (if one ≤ 16384 ∧ (bitOf cfg 6 ∨ dens = 0) ∧ bitsOf cfg 2 0 ≤ 3 then 2 * one else 0) else one

/-- Capacity of DRAM, MiB. -/
def Dev.dramMib (d : Dev) : Nat := ddrMib (d.rd A.MEM.DDR_CFG)

/-- Transfer rate, MT/s. -/
def Dev.dramRateMt (d : Dev) : Nat :=
  match d.fld A.MEM.DDR_CFG 2 0 with
  | 0 => 3200
  | 1 => 4000
  | 2 => 4800
  | 3 => 5600
  | _ => 6400

/-- The controller serves requests (R499). -/
def Dev.serving (d : Dev) : Bool := decide (d.mem.ddr = .serving) && !d.mem.stopping

/-- The controller answers the requests it has taken: it serves, or completes them before it stops (R499). -/
def Dev.answers (d : Dev) : Bool := decide (d.mem.ddr = .serving)

/-- Number of the 64-byte line of a DRAM address. -/
def lineOf (addr : Nat) : Nat := addr / 64

/-- A line reads back flagged POISON (R348, R499). -/
def Dev.poisoned (d : Dev) (addr : Nat) : Bool := tabGet d.mem.poisonInit d.mem.poison (lineOf addr)

/-- Write the poison marker on a line, or clear it. -/
def Dev.setPoison (d : Dev) (addr : Nat) (p : Bool) : Dev :=
  d.onMem (fun m => { m with poison := tabSet m.poisonInit m.poison (lineOf addr) p })

/-- What a byte of DRAM reads as with nothing written: 0, as the initialization leaves it (R344), or a free value in a region that a
self-test left undefined (spec/19 R458). -/
def Mem.unwritten (m : Mem) (addr : Nat) : Byte :=
  match m.undef.find? (fun e => decide (e.1 ≤ addr ∧ addr < e.1 + e.2.1)) with
  | some e => Config.freeByte e.2.2 addr
  | none => 0

/-- A byte of DRAM. -/
def Dev.dramByte (d : Dev) (addr : Nat) : Byte := tabGet 0 d.mem.dram addr ^^^ d.mem.unwritten addr

/-- A self-test leaves a region undefined (spec/19 R458). -/
def Dev.dramUndefined (d : Dev) (base len : Nat) : Dev :=
  d.took.onMem (fun m => { m with dram := m.dram.filter (fun e => decide (e.1 < base ∨ base + len ≤ e.1)),
                                  undef := (base, len, d.free) :: m.undef })

/-- Bytes of DRAM from an address. -/
def Dev.dramBytes (d : Dev) (addr n : Nat) : List Byte := (List.range n).map (fun i => d.dramByte (addr + i))

/-- Some line of a range is poisoned. -/
def Dev.rangePoisoned (d : Dev) (addr n : Nat) : Bool :=
  (List.range (lineOf (addr + n - 1) + 1 - lineOf addr)).any (fun i => d.poisoned (64 * (lineOf addr + i)))

/-- A write of less than a whole line: discarded where the line is poisoned (R348). -/
def Dev.dramPartial (d : Dev) (addr : Nat) : List Byte → Dev
  | [] => d
  | b :: bs =>
    let d1 := if d.poisoned addr then d else d.onMem (fun m => { m with dram := tabSet 0 m.dram addr (b ^^^ m.unwritten addr) })
    d1.dramPartial (addr + 1) bs

/-- A write of whole aligned lines: clears their poison (R348). -/
def Dev.dramLines (d : Dev) (addr : Nat) (bs : List Byte) : Dev :=
  let d1 := (List.range (ceilDiv bs.length 64)).foldl (fun d i => d.setPoison (addr + 64 * i) false) d
  d1.dramPartial addr bs

/-- A request of a client port completed after its target (R347). -/
def Dev.latency (d : Dev) (port ns : Nat) : Dev :=
  let t := d.fld (A.MEM.PORT_CFG port) 11 0
  if port < 12 ∧ t ≠ 0 ∧ 10 * t < ns then d.count (A.MEM.LAT_MISS_CNT port) else d

/-- The rank and the subchannel of a DRAM address (R341). -/
def Dev.rankOf (d : Dev) (addr : Nat) : Nat :=
  if d.bit A.MEM.DDR_CFG 7 ∧ d.dramMib / 2 * 2 ^ 20 ≤ addr then 1 else 0

/-! Training, initialization, refresh -/

/-- DDR_CFG.EN is set: boot training starts; after the controller has served, every line counts as poisoned until it is
written (R342, R344, R499). -/
def Dev.ddrStart (d : Dev) : Dev :=
  d.onMem (fun m => { m with ddr := .training, trained := false, initEarly := false, frontier := 0, trainFails := 0,
                             stopping := false, dram := [], undef := [], poison := [], poisonInit := m.served })

/-- The controller is off: the contents are lost, and RESUME_VALID clears (R499). -/
def Dev.ddrOff (d : Dev) : Dev :=
  let d1 := d.onMem (fun m => { m with ddr := .off, stopping := false, trained := false, initEarly := false,
                                       frontier := 0, dram := [], undef := [], poison := [] })
  (d1.onPmu (fun p => { p with resumeValid := false, resumeBody := false })).lower .mem Cause.MEM.TRAIN_FAIL

/-- DDR_CFG.EN is cleared: a serving controller completes its outstanding requests first (R499). -/
def Dev.ddrStop (d : Dev) : Dev :=
  if d.mem.ddr = .serving then d.onMem (fun m => { m with stopping := true }) else d.ddrOff

/-- Training failed twice (R343). -/
def Dev.trainFailed (d : Dev) : Dev :=
  (d.onMem (fun m => { m with ddr := .failed, thawing := false })).raise .mem Cause.MEM.TRAIN_FAIL

/-- DDR_TRAINING_DONE: a boot training, or the fast training of a THAW, completes or fails; the second failure stops
(R343, R344). -/
def effDdrTrainingDone (ok : Bool) (d : Dev) : Dev :=
  if (d.mem.ddr = .training ∧ !d.mem.trained) ∨ (d.mem.ddr = .frozen ∧ d.mem.thawing) then
    if ok then d.onMem (fun m => { m with trained := true, trainFails := 0 })
    else if d.mem.trainFails = 0 then d.onMem (fun m => { m with trainFails := 1 })
    else d.trainFailed
  else d

/-- DDR_INIT_EARLY_DONE: the early region is written; the controller serves and MEM is READY (R344). The MP writes the resume
image where it fits (spec/18 R447). -/
def effDdrInitEarlyDone (d : Dev) : Dev :=
  if d.mem.ddr = .training ∧ d.mem.trained then
    let d1 := d.onMem (fun m => { m with ddr := .serving, initEarly := true, served := true,
                                         frontier := min (d.fld A.MEM.INIT_CFG 15 0) d.dramMib })
    let base := d.fld A.PMU.RESUME_BASE_LO 31 20 * 2 ^ 20 + (d.rd A.PMU.RESUME_BASE_HI).toNat * 2 ^ 32
    let fits := decide (base + 4 * 2 ^ 20 ≤ d.dramMib * 2 ^ 20)
    (d1.setBlk .mem { d1.blk .mem with inited := true }).onPmu (fun p => { p with resumeBody := fits })
  else d

/-- DDR_INIT_DONE: the background initialization reaches the end; it pauses while frozen (R344, R349). -/
def effDdrInitDone (d : Dev) : Dev :=
  if d.serving ∧ d.mem.initEarly then d.onMem (fun m => { m with frontier := d.dramMib }) else d

/-- DDR_REFRESH: a rank is refreshed, or its refresh is postponed, at most four times and only while a request at urgency 3
waits for the rank (R345). -/
def effDdrRefresh (rank : Nat) (urgent : Bool) (d : Dev) : Dev :=
  if d.mem.ddr = .off ∨ d.mem.ddr = .failed ∨ d.mem.ddr = .training ∨ d.fld A.MEM.DDR_CFG 7 7 < rank then d
  else
    let n := tabGet 0 d.mem.postponed rank
    d.onMem (fun m => { m with postponed := tabSet 0 m.postponed rank (if urgent ∧ n < 4 then n + 1 else 0) })

/-- MR4_POLL: the report of every rank; HOT and DRAM_HOT follow, and the refresh rate with them (R345). -/
def effMr4Poll (hot0 hot1 : Bool) (d : Dev) : Dev :=
  if d.mem.ddr = .serving ∨ d.mem.ddr = .frozen then
    let h1 := hot1 && d.bit A.MEM.DDR_CFG 7
    let d1 := d.onMem (fun m => { m with hot := tabSet false (tabSet false m.hot 0 hot0) 1 h1 })
    d1.follow .mem Cause.MEM.DRAM_HOT (hot0 || h1)
  else d

/-- DQS_OSC_READ: a drift above DRIFT_PS is re-centered (R343). -/
def effDqsOscRead (drift : Nat) (d : Dev) : Dev :=
  if !d.serving then d
  else if d.fld A.MEM.TRAIN_CFG 7 0 < drift then (d.onMem (fun m => { m with drift := 0 })).count A.MEM.RETRAIN_CNT
  else d.onMem (fun m => { m with drift := drift })

/-- ZQ_CAL: the calibration runs with no pause (R343). -/
def effZqCal (d : Dev) : Dev :=
  if d.serving then
    let d1 := d.at_ (d.mem.zqAt + msT (d.fld A.MEM.TRAIN_CFG 23 16))
    d1.onMem (fun m => { m with zqAt := d1.tb })
  else d

/-- The DRAM goes to self-refresh in SLEEP and DEEP (R345, R443). -/
def Dev.ddrSleep (d : Dev) : Dev :=
  if d.mem.ddr = .serving then d.onMem (fun m => { m with ddr := .selfRefresh }) else d

/-- Exit from self-refresh with its fast training (R343). -/
def Dev.ddrWake (d : Dev) : Dev :=
  if d.mem.ddr = .selfRefresh then d.onMem (fun m => { m with ddr := .serving }) else d

/-! The MEM page -/

/-- The state as DDR_STAT numbers it. -/
def DdrState.code : DdrState → Nat
  | .off => 0
  | .training => 1
  | .serving => 2
  | .selfRefresh => 3
  | .frozen => 4
  | .failed => 5

/-- The six shares of a partition are at least 1 and sum to 128 (R338). -/
def Dev.partOk (d : Dev) : Bool :=
  let u := (List.range 6).map d.shareUnits
  u.all (fun x => decide (1 ≤ x)) && decide (u.foldl (· + ·) 0 = 128)

/-- What a write of a MEM register meets besides its fields' ranges (R338, R342, R350). -/
def memPre (o : Nat) (v : Word) (d : Dev) : List (Bool × Nat) :=
  if o = 0x040 ∨ o = 0x044 then [(d.inkCommitted, RC.NOT_IN_STATE)]
  else if o = 0x048 then [(bitOf v 0 && !d.inkCommitted && !d.partOk, RC.BAD_VALUE)]
  else if o = 0x080 then
    let old := d.rd A.MEM.DDR_CFG
    [(bitOf old 8 && decide ((old ^^^ v) &&& 0xF7 ≠ 0), RC.NOT_IN_STATE),
     (bitOf old 8 && !bitOf v 8 && decide (d.mem.ddr = .frozen), RC.NOT_IN_STATE),
     (decide (ddrMib v = 0), RC.BAD_VALUE)]
  else if o = 0x090 then
    [(outside (bitsOf v 23 16) 16 255 || outside (bitsOf v 15 8) 1 100 || outside (bitsOf v 7 0) 5 100, RC.BAD_VALUE)]
  else []

/-- What a write of a MEM register starts: EN set or cleared; PEAK of a share restarts at the present USE (R336). -/
def memPost (o : Nat) (old new : Word) (d : Dev) : Dev :=
  if o = 0x080 then
    if bitOf new 8 ∧ !bitOf old 8 then (if d.mem.stopping then d.ddrOff else d).ddrStart
    else if bitOf old 8 ∧ !bitOf new 8 then d.ddrStop
    else d
  else d

/-- A write of INK_USE_x: PEAK 0 restarts the tracking, another value changes nothing (R336). -/
def Dev.inkPeakWrite (d : Dev) (s : Nat) (v : Word) : Dev :=
  if bitsOf v 31 16 = 0 then d.onMem (fun m => { m with inkPeak := tabSet 0 m.inkPeak s (tabGet 0 m.inkUse s) }) else d

/-- The live registers of the MEM page. -/
def memLive (o : Nat) (d : Dev) : Option Word :=
  let m := d.mem
  let f := m.frz
  if 0x050 ≤ o ∧ o ≤ 0x064 then
    let s := (o - 0x050) / 4
    some (wd (tabGet 0 m.inkPeak s % 65536 * 65536 + tabGet 0 m.inkUse s % 65536))
  else if o = 0x084 then some (wd (b2n (m.hot.any (fun e => e.2)) * 256 + m.ddr.code))
  else if o = 0x08C then some (wd (m.frontier % 65536))
  else if o = 0x0A0 then
    some (if f.cause = 0 then 0 else
      wd (d.rankOf f.addr * 2 ^ 17 + (f.addr / 64 % 2) * 2 ^ 16 + f.port % 16 * 2 ^ 8 + f.cmd * 16 + f.cause))
  else if o = 0x0A4 then some (wd f.addr)
  else if o = 0x0A8 then some (wd (f.addr / 2 ^ 32))
  else if o = 0x0AC then some (wd f.time)
  else if o = 0x0B0 then some (wd (f.time / 2 ^ 32))
  else if 0x0B4 ≤ o ∧ o ≤ 0x0C0 then some (f.synd.getD ((o - 0x0B4) / 4) 0)
  else none

end Sys2Proof.Machine
end

