-- ==== Sys2Proof/Machine/EthFc.lean ====
section
/-! DEFINITION. Occupancy of the Ethernet headroom per port and class, and the flow control a port generates from it
(spec/13 R322 to R327; spec/14 R336). -/

namespace Sys2Proof.Machine

/-- One pause quantum at a rate code, in 0.01 ns (R323). -/
def quantum (rate : Nat) : Nat :=
  match rate with
  | 6 => 2048
  | 5 => 5120
  | 4 => 10240
  | 3 => 20480
  | 2 => 51200
  | 1 => 512000
  | _ => 5120000

/-- Times on the wire: `bytes` at a rate, in TB ticks (R323: a quantum is 64 bytes). -/
def wireTicks (rate bytes : Nat) : Nat := ceilDiv (bytes * quantum rate) 25600

/-- A pause time in TB ticks (R323). -/
def pauseTicks (rate quanta : Nat) : Nat := ceilDiv (quanta * quantum rate) 400

/-! Generated frames (R326, R328, R330) -/

/-- The port's own MAC address (R334). -/
def Dev.ethMac (d : Dev) (n : Nat) : Nat := (d.rd (A.ETH.MAC_LO n)).toNat + 2 ^ 32 * d.fld (A.ETH.MAC_HI n) 15 0

/-- A port in LPI leaves it for a frame, and sends after WAKE_US (R329). -/
def Dev.lpiLeave (d : Dev) (n : Nat) : Dev :=
  let p := d.ethPort n
  if p.lpiTx then
    (d.onEth n (fun p => { p with lpiTx := false, waking := some (d.tb + usT (d.fld (A.ETH.EEE_CFG n) 31 24)) })).emit
      (.eth n (.lpi false))
  else d

/-- No frame or fragment may start: a Stride change is quiet or relocking, or the port is waking (R329, R332). -/
def EthPort.noStart (p : EthPort) : Bool :=
  p.waking.isSome || match p.stride with
    | some s => match s.phase with
      | .quiet _ | .relock _ => true
      | _ => false
    | none => false

/-- A generated frame may start: nothing is on the wire, and nothing bars a start. -/
def EthPort.wireFree (p : EthPort) : Bool := p.tx.isNone && !p.lpiTx && !p.noStart

/-- A generated frame goes out; the switch instant of a change lies its lead after the last byte of the ACK (R332, R334). -/
def Dev.ctlPut (d : Dev) (n : Nat) (x : EthCtl) : Dev :=
  (d.emit (.eth n (.ctl (d.ethMac n) x))).onEth n (fun p => match x, p.stride with
    | .stride 3 _ _, some s => match s.phase with
      | .acking lead => { p with stride := some { s with phase := .agreed (d.tb + wireTicks p.rate 72 + usT lead) } }
      | _ => p
    | _, _ => p)

/-- The generated frames that wait go out, ahead of every queued frame, as soon as the wire is free (R326). -/
def Dev.ctlFlush (d : Dev) (n : Nat) : Dev :=
  let p := d.ethPort n
  if p.wireFree then p.ctl.foldl (fun d x => d.ctlPut n x) (d.onEth n (fun p => { p with ctl := [] })) else d

/-- A port generates a frame: it goes at once on a free wire; a frame in progress ends or is cut first, and LPI is left
(R326, R328, R329). -/
def Dev.ctlSend (d : Dev) (n : Nat) (x : EthCtl) : Dev :=
  ((d.onEth n (fun p => { p with ctl := p.ctl ++ [x] })).lpiLeave n).ctlFlush n

/-- Cells that frames received on a port hold in the Ethernet headroom share: of one class, and of all. -/
def EthPort.occOf (p : EthPort) (c : Nat) : Nat := tabGet 0 p.occ c
def EthPort.occAll (p : EthPort) : Nat := p.occ.foldl (fun n e => n + e.2) 0

/-- Flow-control mode of a port: 0 none, 1 PAUSE, 2 PFC. -/
def Dev.fcMode (d : Dev) (n : Nat) : Nat := d.fld (A.ETH.FC_CFG n) 1 0

/-- The threshold register of a class. -/
def Dev.fcThr (d : Dev) (n c : Nat) : Word :=
  d.rd (A.ETH.FC_THR n c)

/-- The occupancy a class is judged by: in PAUSE mode the port's (R326). -/
def Dev.fcOcc (d : Dev) (n c : Nat) : Nat := if d.fcMode n = 1 then (d.ethPort n).occAll else (d.ethPort n).occOf c

/-- The class's occupancy has reached XOFF; it lies below XON (R326). -/
def Dev.fcAbove (d : Dev) (n c : Nat) : Bool :=
  (d.ethPort n).heldReset || decide (4 * bitsOf (d.fcThr n (if d.fcMode n = 1 then 0 else c)) 15 0 ≤ d.fcOcc n c)
def Dev.fcBelow (d : Dev) (n c : Nat) : Bool :=
  !(d.ethPort n).heldReset && decide (d.fcOcc n c < 4 * bitsOf (d.fcThr n (if d.fcMode n = 1 then 0 else c)) 31 16)

/-- Send a PAUSE or PFC frame for a set of classes, and count it (R326). -/
def Dev.fcSend (d : Dev) (n classes quanta : Nat) : Dev :=
  if d.fcMode n = 1 then (d.ctlSend n (.pause quanta)).count (A.ETH.TX_PAUSE_CNT n)
  else (d.ctlSend n (.pfc classes quanta)).count (A.ETH.TX_PFC_CNT n)

/-- Half the sent time from now. -/
def Dev.fcRefresh (d : Dev) (n : Nat) : Nat :=
  d.tb + pauseTicks (d.ethPort n).rate (d.fld (A.ETH.FC_CFG n) 31 16) / 2

/-- A class is paused now (R324). -/
def Dev.ethPaused (d : Dev) (n c : Nat) : Bool := match tabFind (d.ethPort n).paused c with
  | some t => decide (tabGet 0 (d.ethPort n).pausedAt c ≤ d.tb) && decide (d.tb < t)
  | none => false

/-- A pause bars a start of the class: in the tick in which it begins, a start is decided first (R325). -/
def Dev.pauseBars (d : Dev) (n c : Nat) : Bool := d.ethPaused n c && decide (tabGet 0 (d.ethPort n).pausedAt c < d.tb)

/-- Hold off a class, or every class in PAUSE mode. -/
def Dev.fcXoff (d : Dev) (n c : Nat) : Dev :=
  let cs := if d.fcMode n = 1 then List.range 8 else [c]
  let t := d.fcRefresh n
  let d1 := d.fcSend n (cs.foldl (fun b c => b + 2 ^ c) 0) (d.fld (A.ETH.FC_CFG n) 31 16)
  d1.onEth n (fun p => { p with xoff := cs.foldl (fun x c => tabPut x c t) p.xoff })

/-- Let a class go on, or every class in PAUSE mode: time 0. -/
def Dev.fcXon (d : Dev) (n c : Nat) : Dev :=
  let cs := if d.fcMode n = 1 then List.range 8 else [c]
  let d1 := d.fcSend n (cs.foldl (fun b c => b + 2 ^ c) 0) 0
  d1.onEth n (fun p => { p with xoff := cs.foldl tabDel p.xoff })

/-- Judge one class after its occupancy changed: XOFF when it reaches the threshold, XON when it falls below (R326). -/
def Dev.fcJudge (d : Dev) (n c : Nat) : Dev :=
  if d.fcMode n = 0 ∨ !(d.ethPort n).link then d
  else
    let held := (tabFind (d.ethPort n).xoff c).isSome
    if !held && d.fcAbove n c then d.fcXoff n c
    else if held && d.fcBelow n c then d.fcXon n c
    else d

/-- Change the occupancy of a class of a port. -/
def Dev.occSet (d : Dev) (n c v : Nat) : Dev := (d.onEth n (fun p => { p with occ := tabSet 0 p.occ c v })).fcJudge n c

/-- Account cells to a share, and take them out; cells of the Ethernet headroom also count against their ingress port and
class (R336). -/
def Dev.cellsTake (d : Dev) (share n : Nat) (ingress : Option (Nat × Nat)) : Dev :=
  let d1 := d.inkTake share n
  match ingress with
  | some (p, c) => if share = 0 then d1.occSet p c ((d1.ethPort p).occOf c + n) else d1
  | none => d1
def Dev.cellsFree (d : Dev) (share n : Nat) (ingress : Option (Nat × Nat)) : Dev :=
  let d1 := d.inkFree share n
  match ingress with
  | some (p, c) => if share = 0 then d1.occSet p c ((d1.ethPort p).occOf c - n) else d1
  | none => d1

/-- XOFF_REFRESH: half the sent time has passed; the frame is sent again while the occupancy stays at or above XON (R326). -/
def effXoffRefresh (n : Nat) (d : Dev) : Dev :=
  match (d.ethPort n).xoff with
  | [] => d
  | (c, t) :: rest =>
    if d.fcMode n = 0 ∨ !(d.ethPort n).link then d
    else
      let (c, t) := rest.foldl (fun m e => if e.2 < m.2 then e else m) (c, t)
      let d1 := d.at_ t
      if d1.fcBelow n c then d1.fcXon n c else d1.fcXoff n c

/-- Every port with flow control treats its classes as above XOFF during a data-plane reset, and lets them go after it
(R327). -/
def Dev.fcHold (d : Dev) (on : Bool) : Dev :=
  (List.range d.ports).foldl (fun d n =>
    if d.fcMode n = 0 then d
    else
      let d1 := d.onEth n (fun p => { p with heldReset := on })
      (List.range 8).foldl (fun d c => d.fcJudge n c) d1) d

end Sys2Proof.Machine
end

