-- ==== Sys2Proof/Machine/Queues.lean ====
section
/-! DEFINITION. Completions of transmit requests, the shared scoreboard, queues, Pacers and meters, admission and removal
(spec/06 R162 to R165; spec/07 R174, R175; spec/11_traffic_manager.md). -/

namespace Sys2Proof.Machine

/-! Completions on a data ring, in submission order (R46, OP3) -/

/-- Write the completions at the front of a ring's submissions that are known, in order. -/
def Dev.subsFlush (d : Dev) (n : Nat) : Nat → Dev
  | 0 => d
  | fuel + 1 =>
    let r := d.ring n
    match r.subs with
    | (_, some ws) :: rest => ((d.setRing n { r with subs := rest }).ringPut n (padTo 16 ws) 0 []).subsFlush n fuel
    | _ => d

/-- A submission is taken from a ring; it owes a completion. -/
def Dev.submitted (d : Dev) (n fid : Nat) : Dev := d.setRing n { d.ring n with subs := (d.ring n).subs ++ [(fid, none)] }

/-- The completion of a submission is known. -/
def Dev.complete (d : Dev) (n fid : Nat) (ws : List Word) : Dev :=
  let r := d.ring n
  let d1 := d.setRing n { r with subs := r.subs.map (fun e => if e.1 = fid then (e.1, some ws) else e) }
  d1.subsFlush n r.subs.length

/-- The completion of a transmit request (R164). -/
def Dev.txWords (d : Dev) (e : Entry) (cookie : Word) (code : Nat) : List Word :=
  [wd (0x10 + 2 ^ 16 * (min 255 e.wl.attempts) + 2 ^ 24 * (min 255 e.wl.late)), cookie,
   wd (d.status code + 2 ^ 16 * e.wl.lastLink.getD 3), wd (e.wl.sn.getD 0 % 4096)] ++ padTo 12 e.wl.rep

/-- A frame of a transmit request completes; frames the host did not submit have no completion (R164). -/
def Dev.txComplete (d : Dev) (e : Entry) (code : Nat) : Dev :=
  match e.host with
  | some (n, cookie) => d.complete n e.fid (d.txWords e cookie code)
  | none => d

/-- Inkwell could not correct a word of a frame as it was read: the frame is lost; of a frame that completes a record is written
(spec/06 R164; spec/14 R340; notes/assumptions/129.md). -/
def Dev.inkUe (d : Dev) (e : Entry) : Dev :=
  let d1 := (d.count A.MEM.INK_UE_CNT).raise .mem Cause.MEM.INK_UE
  match e.host with
  | some (_, cookie) => d1.blotter (blkPage .mem) 0 0x0011 [0x10, 0, cookie]
  | none => d1

/-! Stations' shared sequence spaces (spec/07 R174, R175) -/

/-- The state of a station-TID; 16 keys per station, TID 8 is management. -/
def Dev.staTid (d : Dev) (s t : Nat) : StaTid := (tabFind d.mld.tids (16 * s + t)).getD StaTid.reset
def Dev.setStaTid (d : Dev) (s t : Nat) (x : StaTid) : Dev := d.onMld (fun m => { m with tids := tabPut m.tids (16 * s + t) x })
def Dev.station (d : Dev) (s : Nat) : Option Station := tabFind d.mld.stations s

/-- The window start advances past every SN acknowledged or given up; whether a given-up one was passed (R175). -/
def StaTid.advance : Nat → StaTid → StaTid × Bool
  | 0, x => (x, false)
  | fuel + 1, x =>
    match x.board with
    | b :: rest =>
      if b.st = .acked ∨ b.st = .givenUp then
        let (y, g) := StaTid.advance fuel { x with board := rest, txStart := (b.sn + 1) % 4096 }
        (y, g || decide (b.st = .givenUp))
      else (x, false)
    | [] => (x, false)

/-- Advance a station-TID's window, and queue a BlockAckReq when it passed a given-up SN (R175). -/
def Dev.winAdvance (d : Dev) (s t : Nat) : Dev :=
  let x := d.staTid s t
  let (y, g) := StaTid.advance x.board.length x
  d.setStaTid s t (if g ∧ y.txWin.isSome then { y with bar := some y.txStart } else y)

/-- Set the state of one SN of a scoreboard. -/
def Dev.snSet (d : Dev) (s t sn : Nat) (st : SnState) : Dev :=
  let x := d.staTid s t
  d.setStaTid s t { x with board := x.board.map (fun b => if b.sn = sn then { b with st := st } else b) }

/-- An MPDU whose SN was assigned is given up (R175). -/
def Dev.giveUp (d : Dev) (e : Entry) : Dev :=
  match e.wl.sn with
  | some sn => if e.wl.tid < 8 then (d.snSet e.wl.sta e.wl.tid sn .givenUp).winAdvance e.wl.sta e.wl.tid else d
  | none => d

/-! Queues (R274 to R278) -/

/-- The kinds of queue (R274). -/
inductive QKind where
  | sta (s t : Nat)
  | group (r : Radio) (bss : Nat)
  | mgmt (r : Radio)
  | mesh (r : Radio) (kind : Nat)
  | eth (n c : Nat)
  | host (c : Nat)
deriving DecidableEq, Repr

/-- The kind of a queue number; none is reserved (R274). -/
def qKind (q : Nat) : Option QKind :=
  if q < 8192 then some (.sta (q / 8) (q % 8))
  else if q < 8240 then some (.group (Radio.ofNum ((q - 8192) / 16)) ((q - 8192) % 16))
  else if q < 8243 then some (.mgmt (Radio.ofNum (q - 8240)))
  else if q < 8249 then some (.mesh (Radio.ofNum ((q - 8243) / 2)) ((q - 8243) % 2))
  else if q < 8256 then none
  else if q < 8336 then some (.eth ((q - 8256) / 8) ((q - 8256) % 8))
  else if q < 8344 then some (.host (q - 8336))
  else none

/-- A queue; one never written is as reset leaves it (R278). -/
def Dev.queue (d : Dev) (q : Nat) : Queue := (tabFind d.tmg.queues q).getD Queue.reset
def Dev.setQueue (d : Dev) (q : Nat) (x : Queue) : Dev := d.onTmg (fun t => { t with queues := tabPut t.queues q x })

/-- A profile (R277). -/
def Dev.profile (d : Dev) (k : Nat) : Profile := (tabFind d.tmg.profiles k).getD Profile.reset

/-- An entry counts as DRAM-resident: it is in DRAM, or its write has not completed (R282). -/
def Entry.inDram (e : Entry) : Bool := !e.inInk || e.writing

/-- Depth of a queue in bytes, and its Inkwell-resident part (R279, R14). -/
def depthOf (es : List Entry) : Nat := es.foldl (fun n e => n + e.len) 0
def Queue.inkDepth (x : Queue) : Nat := depthOf (x.entries.filter (fun e => !e.inDram))
def Queue.hasDram (x : Queue) : Bool := x.entries.any Entry.inDram

/-- The configuration a Pacer has been given last (R284). -/
def Pacer.last (p : Pacer) : PacerCfg := p.next.getD p.cfg

/-- A Pacer at a time: every refill due by then has happened, the first of them applying a waiting configuration. A refill so comes
before any departure and any PACER_SET of its tick (R284). -/
def Pacer.upTo (p : Pacer) (tb : Nat) : Pacer :=
  if !p.cfg.enable ∨ tb < p.refillAt then p
  else
    let c := p.last
    let n := if c.enable then (tb - p.refillAt) / max 1 (usT c.periodUs) + 1 else 1
    { cfg := c, next := none, credit := min (p.credit + n * c.inc) (16 * c.burst), refillAt := p.refillAt + n * usT c.periodUs }

/-- A Pacer as it stands now (R284). -/
def Dev.pacer (d : Dev) (p : Nat) : Pacer := ((tabFind d.tmg.pacers p).getD Pacer.reset).upTo d.tb
def Dev.setPacer (d : Dev) (p : Nat) (x : Pacer) : Dev := d.onTmg (fun t => { t with pacers := tabPut t.pacers p x })

/-- The Pacers that gate and charge a queue: its own, when it names an enabled one, and that one's enabled parent (R284;
notes/assumptions/40.md). -/
def Dev.pacersOf (d : Dev) (x : Queue) : List Nat :=
  let p := d.pacer x.pacer
  if x.pacerEn && p.cfg.enable then
    x.pacer :: (if p.cfg.parentEn && (d.pacer p.cfg.parent).cfg.enable then [p.cfg.parent] else [])
  else []

/-- The queue's Pacers allow a departure. -/
def Dev.paced (d : Dev) (x : Queue) : Bool := (d.pacersOf x).all (fun p => decide (0 < (d.pacer p).credit))

/-- Charge a departure of `len` bytes. -/
def Dev.charge (d : Dev) (x : Queue) (len : Nat) : Dev :=
  (d.pacersOf x).foldl (fun d p => d.setPacer p { d.pacer p with credit := (d.pacer p).credit - 16 * len }) d

/-- The queues a Pacer gates, by itself or as a parent. -/
def Dev.pacedBy (d : Dev) (k : Nat) : List Nat :=
  (tabKeys d.tmg.queues).filter (fun q =>
    let x := d.queue q
    x.pacerEn && (decide (x.pacer = k) || ((d.pacer x.pacer).cfg.parentEn && decide ((d.pacer x.pacer).cfg.parent = k))))

/-! The scheduler SRAM (spec/08 R192, R193) -/

/-- Write `n` little-endian bytes at an offset of the scheduler SRAM. -/
def Dev.sramPut (d : Dev) (off n v : Nat) : Dev :=
  d.onAsc (fun a => { a with sram := (List.range n).foldl (fun t i => tabSet 0 t (off + i) (BitVec.ofNat 8 (v / 256 ^ i))) a.sram })

/-- Read `n` bytes at an offset of the scheduler SRAM. -/
def Dev.sramGet (d : Dev) (off n : Nat) : Nat := leNat ((List.range n).map (fun i => tabGet 0 d.asc.sram (off + i)))

/-- The bytes of a station-TID queue that can be fetched now: 0 while its Pacer blocks it; while the controller is frozen
they stop at the first DRAM-resident entry (R283). -/
def Dev.fetchable (d : Dev) (q : Nat) : Nat :=
  let x := d.queue q
  if !d.paced x then 0
  else if d.serving then depthOf x.entries
  else depthOf (x.entries.takeWhile (fun e => !e.inDram))

/-- DL_BYTES and DL_TB of the station's core record follow a change of its queue (R283). -/
def Dev.dlBytes (d : Dev) (q : Nat) : Dev :=
  match qKind q with
  | some (.sta s t) => (d.sramPut (0x80 * s + 0x10 + 4 * t) 4 (d.fetchable q)).sramPut (0x80 * s + 0x50) 4 d.tb
  | _ => d

/-- The queues with entries in DRAM: what can be fetched of them changes with the controller's service (R283). -/
def Dev.dlAll (d : Dev) : Dev :=
  ((tabKeys d.tmg.queues).filter (fun q => (d.queue q).entries.any Entry.inDram)).foldl Dev.dlBytes d

/-! Where an entry's cells belong (R336, R337) -/

/-- The radio whose staging share holds a station-TID's MPDUs: the one Baton last bound it to, else the highest-lettered of
the TID's link map (R337). -/
def Dev.stagingRadio (d : Dev) (s t : Nat) : Nat :=
  match (d.staTid s t).bound with
  | some r => r
  | none => match d.station s with
    | some x =>
      let m := x.map / 2 ^ (3 * t) % 8 &&& x.links
      if m.testBit 2 then 2 else if m.testBit 1 then 1 else 0
    | none => 0

/-- The share a queue's Inkwell-resident entries are accounted to; an Ethernet queue keeps the source's (R337). -/
def Dev.destShare (d : Dev) (q src : Nat) : Nat :=
  match qKind q with
  | some (.sta s t) => 1 + d.stagingRadio s t
  | some (.group r _) | some (.mgmt r) | some (.mesh r _) => stagingOf r
  | some (.host _) => 5
  | _ => src

/-- A station-TID queue's station is enabled and its TID maps to a link of the station (R279). -/
def Dev.qLinked (d : Dev) (q : Nat) : Bool :=
  match qKind q with
  | some (.sta s t) => match d.station s with
    | some x => decide (x.map / 2 ^ (3 * t) % 8 &&& x.links ≠ 0)
    | none => false
  | _ => true

/-! Leaving a queue -/

/-- The 256-byte cells of the spill area in use change; SPILL_FULL follows (R281). -/
def Dev.spillSet (d : Dev) (n : Nat) : Dev :=
  let d1 := d.onTmg (fun t => { t with spillUsed := n })
  let area := 4096 * d1.fld A.TMG.SPILL_SIZE 15 0
  d1.follow .tmg Cause.TMG.SPILL_FULL (decide (area ≠ 0 ∧ area < n + 45))

/-- Cells of the spill area an entry holds. -/
def Entry.spillCells (e : Entry) : Nat := if e.inDram then cellsOf e.len else 0

/-- An entry has left the device or is lost: its cells and its place in DRAM are released. -/
def Dev.release (d : Dev) (e : Entry) : Dev :=
  let d1 := if e.inInk then d.cellsFree e.share e.cells e.ingress else d
  if e.spillCells = 0 then d1 else d1.spillSet (d1.tmg.spillUsed - e.spillCells)

/-- An entry leaves its queue: the count of its domain's pin on its port falls (spec/12 R296). -/
def Dev.unpin (d : Dev) (e : Entry) : Dev :=
  match e.pin with
  | some (dom, port) => d.onPke (fun p =>
      let (q, n) := tabGet (0, 0) p.pins (16 * dom + port)
      { p with pins := tabSet (0, 0) p.pins (16 * dom + port) (if n ≤ 1 then (0, 0) else (q, n - 1)) })
  | none => d

/-- An accepted entry is lost: what it held is released, a host frame completes with a code, and an assigned SN is given up
(R289, R470). -/
def Dev.lose (d : Dev) (e : Entry) (code : Nat) : Dev := (((d.unpin e).release e).txComplete e code).giveUp e

/-- Count a drop in the queue's own drop count, saturating (R279, R289). -/
def Dev.qDrop (d : Dev) (q : Nat) : Dev := d.setQueue q { d.queue q with dropCnt := satAdd 32 (d.queue q).dropCnt 1 }

/-- The head is older than the queue's age limit; a DRAM-resident head is not aged while the controller is frozen (R288). -/
def Dev.aged (d : Dev) (x : Queue) : Bool :=
  let ms := (d.profile x.profile).ageMs
  match x.entries with
  | e :: _ => decide (ms ≠ 0) && decide (msT ms < d.tb - e.stamp) && (d.serving || !e.inDram)
  | [] => false

/-- Remove aged entries from a queue's head until the head is young enough (R288). -/
def Dev.ageHead (d : Dev) (q : Nat) : Nat → Dev
  | 0 => d
  | fuel + 1 =>
    let x := d.queue q
    if d.aged x then
      match x.entries with
      | e :: rest =>
        let d1 := d.setQueue q { x with entries := rest, ageCnt := satAdd 32 x.ageCnt 1 }
        (((d1.count A.TMG.AGED_CNT).lose e RC.AGED).ageHead q fuel)
      | [] => d
    else d

/-- Age a queue's head, and write its depth (R288, R283). -/
def Dev.ageCheck (d : Dev) (q : Nat) : Dev := (d.ageHead q (d.queue q).entries.length).dlBytes q

/-- The head of a queue may leave now: it is in Inkwell and its Pacers allow it (R282, R284). -/
def Dev.headReady (d : Dev) (q : Nat) : Option Entry :=
  let x := d.queue q
  match x.entries with
  | e :: _ => if !e.inDram && d.paced x then some e else none
  | [] => none

/-- A charge that leaves a Pacer without credit blocks every queue it gates: their depths are written (R283). -/
def Dev.chargeDepth (d : Dev) (x : Queue) (len : Nat) : Dev :=
  let out := (d.pacersOf x).filter (fun p => decide ((d.pacer p).credit ≤ 16 * len))
  out.foldl (fun d p => (d.pacedBy p).foldl Dev.dlBytes d) (d.charge x len)

/-- The head departs: the Pacers are charged, and the new head's age is checked (R284, R288). Its cells stay taken. -/
def Dev.depart (d : Dev) (q : Nat) : Dev :=
  let x := d.queue q
  match x.entries with
  | e :: rest => (((d.setQueue q { x with entries := rest }).unpin e).chargeDepth x e.len).ageCheck q
  | [] => d

/-- Return entries to the head of their queue, in their original order, ahead of every other (R276). -/
def Dev.putBack (d : Dev) (q : Nat) (es : List Entry) : Dev :=
  (d.setQueue q { d.queue q with entries := es ++ (d.queue q).entries }).dlBytes q

/-! The egress editor (spec/12 R309) -/

/-- An IP header with another DSCP; an IPv4 header's checksum follows (notes/assumptions/143.md). -/
def Hdr.withDscp (h : Hdr) (x : Nat) : Hdr :=
  if h.ipver = 4 then { h with dscp := x, ipSum := csum h.ipSum (4 * h.dscp) (4 * x) }
  else if h.ipver = 6 then { h with dscp := x }
  else h

/-- The DSCP a frame leaves with: the remark of its colour, or the ACL's rewrite. -/
def Dev.remark (d : Dev) (e : Entry) : Hdr :=
  let w := d.rd A.PKE.REMARK
  let v := if e.color = 1 ∧ bitOf w 0 then some (bitsOf w 13 8)
    else if e.color = 2 ∧ bitOf w 1 then some (bitsOf w 21 16)
    else e.setDscp
  match v with
  | some x => e.hdr.withDscp x
  | none => e.hdr

/-! The host port H (spec/12 R313) -/

/-- The completion of a frame or record for H. -/
def Dev.hWords (d : Dev) (h : ToHost) (len : Nat) (cookie : Word) (code : Nat) : List Word :=
  [wd (0x40 + 2 ^ 8 * (b2n h.token.isSome + 2 * b2n h.notice.isSome) + 2 ^ 16 * len), cookie,
   wd (d.status code + 2 ^ 16 * h.reason + 2 ^ 24 * h.cls), wd (h.source + 2 ^ 16 * h.domain),
   wd (h.vlan + 2 ^ 16 * h.token.getD 0), 0, wd h.time, wd (h.time / 2 ^ 32)]

/-- What H is told of a frame that carries nothing else. -/
def ToHost.plain : ToHost :=
  { reason := 0, cls := 0, source := 0, domain := 0, vlan := 0, token := none, time := 0, notice := none }

/-- The highest class of H whose head may leave. -/
def Dev.hostNext (d : Dev) : Option (Nat × Entry) :=
  (List.range 8).foldl (fun m c => match d.headReady (8336 + c) with
    | some e => some (8336 + c, e)
    | none => m) none

/-- Fill posted buffers with frames queued to H, class 7 first; a frame longer than its buffer is dropped. LEN of a frame is
without its FCS (R274, R313; notes/assumptions/45.md). -/
def Dev.serveHost (d : Dev) : Nat → Dev
  | 0 => d
  | fuel + 1 =>
    match d.pke.hBufs, d.hostNext with
    | b :: bs, some (q, e) =>
      let h := e.toHost.getD ToHost.plain
      let d1 := (d.onPke (fun p => { p with hBufs := bs })).depart q
      let d2 := d1.release e
      let len := if h.notice.isSome then e.len else e.len - 4
      if b.size < len then
        let d3 := d2.count A.PKE.H_DROP_CNT
        (d3.complete b.ring b.sid (d3.hWords h len b.cookie RC.BAD_LENGTH)).serveHost fuel
      else
        let d3 := d2.emit (match h.notice with
          | some ws => .hostRecord b.buf ws
          | none => .hostFrame b.buf (d2.remark e))
        (d3.complete b.ring b.sid (d3.hWords h len b.cookie RC.OK)).serveHost fuel
    | _, _ => d

/-- Serve H until its buffers or its frames run out. -/
def Dev.hostServe (d : Dev) : Dev := d.serveHost d.pke.hBufs.length

/-! Meters (R285, R286): tokens in 1/65,536 byte -/

/-- A meter (R285). -/
def Dev.meter (d : Dev) (m : Nat) : Meter := (tabFind d.tmg.meters m).getD Meter.reset

/-- Tokens earned at `kbps` in `ticks`: kb/s is 1/8,000,000 byte per µs; one tick is 4 ns. -/
def earned (kbps ticks : Nat) : Nat := kbps * ticks * 65536 / 2000000

/-- Add the tokens earned since the previous arrival (R286). -/
def Meter.fill (m : Meter) (tb : Nat) : Meter :=
  let c := earned m.cir (tb - m.last)
  let cmax := 65536 * m.cbs
  let emax := 65536 * m.ebs
  if m.mode = 1 then
    let spare := m.tc + c - min cmax (m.tc + c)
    { m with tc := min cmax (m.tc + c), te := min emax (m.te + spare), last := tb }
  else if m.mode = 2 then
    { m with tc := min cmax (m.tc + c), te := min emax (m.te + earned m.pir (tb - m.last)), last := tb }
  else { m with last := tb }

/-- Mark a frame: its colour, and the meter after it (R286). -/
def Meter.mark (m : Meter) (len input : Nat) : Nat × Meter :=
  let b := 65536 * len
  let i := if m.aware then input else 0
  if m.mode = 1 then
    if i = 0 ∧ b ≤ m.tc then (0, { m with tc := m.tc - b })
    else if i ≠ 2 ∧ b ≤ m.te then (1, { m with te := m.te - b })
    else (2, m)
  else if m.mode = 2 then
    if i = 2 ∨ m.te < b then (2, m)
    else if i = 1 ∨ m.tc < b then (1, { m with te := m.te - b })
    else (0, { m with te := m.te - b, tc := m.tc - b })
  else (input, m)

/-- Count a marked frame; 64-bit counts that wrap (R287). -/
def Meter.tally (m : Meter) (color len : Nat) : Meter :=
  let w (n : Nat) := n % 2 ^ 64
  if color = 0 then { m with gFrames := w (m.gFrames + 1), gBytes := w (m.gBytes + len) }
  else if color = 1 then { m with yFrames := w (m.yFrames + 1), yBytes := w (m.yBytes + len) }
  else { m with rFrames := w (m.rFrames + 1), rBytes := w (m.rBytes + len) }

/-- A frame passes its meter: its colour, whether it is dropped, and the device after it. -/
def Dev.metered (d : Dev) (k : Option Nat) (len input : Nat) : Nat × Bool × Dev :=
  match k with
  | none => (input, false, d)
  | some k =>
    let (c, m) := ((d.meter k).fill d.tb).mark len input
    let m := m.tally c len
    (c, if c = 0 then m.greenDrop else if c = 1 then m.yellowDrop else m.redDrop,
     d.onTmg (fun t => { t with meters := tabPut t.meters k m }))

/-! Admission (R279, R280, R289) -/

/-- Why a frame is not admitted: the counter of the step that fails. -/
inductive Refused where
  | noLink | meter | qlim | spillFull | noCell | frozen
deriving DecidableEq, Repr

/-- The counter of a step (R279). -/
def Refused.counter : Refused → Nat
  | .noLink => A.TMG.DROP_NOLINK_CNT
  | .meter => A.TMG.DROP_METER_CNT
  | .qlim => A.TMG.DROP_QLIM_CNT
  | .spillFull => A.TMG.DROP_SPILL_FULL_CNT
  | .noCell => A.TMG.DROP_NOCELL_CNT
  | .frozen => A.TMG.DROP_FROZEN_CNT

/-- R14 sends an arrival of this queue to DRAM. -/
def Dev.toDram (d : Dev) (x : Queue) : Bool :=
  let s := (d.profile x.profile).spill
  decide (d.fld A.TMG.SPILL_SIZE 15 0 ≠ 0) && (x.hasDram || (decide (s ≠ 0xFFFF) && decide (1024 * s ≤ x.inkDepth)))

/-- The depth limit of a colour (R277). -/
def Profile.limit (p : Profile) (color : Nat) : Nat :=
  1024 * (if color = 0 then p.qlim else if color = 1 then p.ylim else p.rlim)

/-- Steps 2 to 5 of admission for a frame whose cells are accounted to `e.share` (none, when `e.inInk` is false). -/
def Dev.admitStep (d : Dev) (q : Nat) (e : Entry) : Option Refused :=
  let x := d.queue q
  let s := d.destShare q e.share
  let room := (e.inInk && decide (s = e.share)) || d.inkRoom s e.cells
  if (d.profile x.profile).limit e.color < depthOf x.entries + e.len then some .qlim
  else if d.toDram x && d.serving then
    if 4096 * d.fld A.TMG.SPILL_SIZE 15 0 < d.tmg.spillUsed + cellsOf e.len then some .spillFull
    else if e.inInk || room then none else some .noCell
  else if room then none
  else if d.toDram x then some .frozen
  else some .noCell

/-- Put an admitted frame on its queue: in Inkwell with its cells accounted to the destination's share, or on its way to
DRAM with the cells it holds until its write completes (R13, R14, R279, R282). Where it lies in DRAM is the TMG's own
choice: a free value. -/
def Dev.admitted (d : Dev) (q : Nat) (e : Entry) : Dev :=
  let x := d.queue q
  let dram := d.toDram x && d.serving
  let s := if dram && e.inInk then e.share else d.destShare q e.share
  let d1 := if e.inInk && decide (s = e.share) then d
    else (if e.inInk then d.cellsFree e.share e.cells e.ingress else d).cellsTake s e.cells none
  let area := 4096 * d.fld A.TMG.SPILL_SIZE 15 0
  let base := (d.rd A.TMG.SPILL_BASE_LO).toNat + 2 ^ 32 * (d.rd A.TMG.SPILL_BASE_HI).toNat
  let e1 : Entry := { e with share := s, inInk := true, writing := dram, stamp := d.tb,
                             ingress := if s = e.share then e.ingress else none,
                             dram := if dram then base + 256 * d.freeVal area else 0 }
  let d2 := if dram then ((d1.took).spillSet (d1.tmg.spillUsed + cellsOf e.len)).count A.TMG.SPILL_CNT else d1
  let d3 := d2.setQueue q { d2.queue q with entries := (d2.queue q).entries ++ [e1] }
  ((d3.count A.TMG.ADMIT_CNT).dlBytes q)

/-- A dropped arrival: its cells are released, and it is counted once and in its queue (R279). -/
def Dev.dropArrival (d : Dev) (q : Nat) (e : Entry) (why : Refused) : Dev :=
  let d1 := if e.inInk then d.cellsFree e.share e.cells e.ingress else d
  let d2 := (d1.count why.counter).qDrop q
  if why = .spillFull then d2.raise .tmg Cause.TMG.SPILL_FULL else d2

/-- A frame arrives at a queue: metered, then admitted or dropped. Answers whether it was admitted (R279). -/
def Dev.arrive (d : Dev) (q : Nat) (e : Entry) (meter : Option Nat) : Bool × Dev :=
  if !d.qLinked q then (false, d.dropArrival q e .noLink)
  else
    let (c, dropIt, d1) := d.metered meter e.len e.color
    let e1 := { e with color := c }
    if dropIt then (false, d1.dropArrival q e1 .meter)
    else match d1.admitStep q e1 with
      | some why => (false, d1.dropArrival q e1 why)
      | none => (true, d1.admitted q e1)

/-- A host frame's queue can admit it now (R280); it is green and bypasses the meter. -/
def Dev.hostAdmits (d : Dev) (q : Nat) (e : Entry) : Bool := (d.admitStep q { e with color := 0 }).isNone

/-- An entry that no host request, no radio and no port stands behind. -/
def Wl.plain : Wl :=
  { sta := 0, tid := 0, bss := 0, mpdu := false, noAck := false, noEncrypt := false, lateFinal := false, launch := none, lateAt := none,
    fixedRate := none, links := 0, tol := 50, retry := 0, attempts := 0, late := 0, defers := 0, sn := none, pn := none,
    lastLink := none, rep := [] }

/-- What a new head of a queue sets off: H gets what its buffers can take, a port leaves LPI. -/
def Dev.settle (d : Dev) (q : Nat) : Dev :=
  match qKind q with
  | some (.host _) => d.hostServe
  | some (.eth n c) => if (d.headReady q).isSome && !d.pauseBars n c then d.lpiLeave n else d
  | _ => d

end Sys2Proof.Machine
end

