-- ==== Sys2Proof/Machine/Traffic.lean ====
section
/-! DEFINITION. The traffic manager's commands, its timed events and its page (spec/11_traffic_manager.md). -/

namespace Sys2Proof.Machine

/-- A queue number's block is absent: an Ethernet queue of a port the variant lacks (R274). -/
def Dev.qAbsent (d : Dev) (q : Nat) : Bool :=
  match qKind q with
  | some (.eth n _) => !d.present (.eth n)
  | _ => false

/-- QUEUE_SET (R278). -/
def cmdQueueSet (ws : List Word) (d : Dev) : Dev × Ans :=
  let w := word ws 0
  let q := bitsOf w 13 0
  let d1 := d.setQueue q { d.queue q with profile := bitsOf w 21 16, pacerEn := bitOf w 22, pacer := bitsOf (word ws 1) 11 0 }
  cmdIf d [(decide (ws.length ≠ 2), RC.BAD_LENGTH), (d.qAbsent q, RC.ABSENT),
           ((qKind q).isNone || extra w 0x7F3FFF || extra (word ws 1) 0xFFF, RC.BAD_VALUE)]
    (d1.dlBytes q, [])

/-- PROFILE_SET (R277). -/
def cmdProfileSet (ws : List Word) (d : Dev) : Dev × Ans :=
  let p : Profile := { quantum := bitsOf (word ws 0) 31 16, qlim := bitsOf (word ws 1) 15 0, ylim := bitsOf (word ws 1) 31 16,
                       rlim := bitsOf (word ws 2) 15 0, spill := bitsOf (word ws 2) 31 16, ageMs := bitsOf (word ws 3) 15 0 }
  cmdIf d [(decide (ws.length ≠ 4), RC.BAD_LENGTH),
           (extra (word ws 0) 0xFFFF003F || extra (word ws 3) 0xFFFF || outside p.quantum 64 65536
             || outside p.qlim 1 65534 || decide (p.qlim < p.ylim) || decide (p.ylim < p.rlim), RC.BAD_VALUE)]
    (d.onTmg (fun t => { t with profiles := tabPut t.profiles (bitsOf (word ws 0) 5 0) p }), [])

/-- PACER_SET: a disabled Pacer that is enabled starts at once; an enabled one changes at its next refill (R284). -/
def cmdPacerSet (ws : List Word) (d : Dev) : Dev × Ans :=
  let w := word ws 0
  let k := bitsOf w 11 0
  let c : PacerCfg := { enable := bitOf w 12, parentEn := bitOf w 13, parent := bitsOf w 27 16,
                        periodUs := bitsOf (word ws 1) 9 0, inc := bitsOf (word ws 2) 23 0, burst := bitsOf (word ws 3) 23 0 }
  let named := d.tmg.pacers.any (fun e => decide (e.1 ≠ k) && e.2.last.parentEn && decide (e.2.last.parent = k))
  let old := d.pacer k
  let new : Pacer :=
    if old.cfg.enable then { old with next := some c }
    else if c.enable then { cfg := c, next := none, credit := 16 * c.burst, refillAt := d.tb + usT c.periodUs }
    else { old with cfg := c }
  cmdIf d [(decide (ws.length ≠ 4), RC.BAD_LENGTH),
           (extra w 0x0FFF3FFF || extra (word ws 1) 0x3FF || extra (word ws 2) 0xFFFFFF || extra (word ws 3) 0xFFFFFF
             || outside c.periodUs 1 1000 || outside c.inc 1 16777215 || outside c.burst 64 16777215
             || (c.parentEn && (decide (c.parent = k) || (d.pacer c.parent).last.parentEn || named)), RC.BAD_VALUE)]
    (let d1 := d.setPacer k new
     (d1.pacedBy k).foldl Dev.dlBytes d1, [])

/-- METER_SET: a change of MODE fills both buckets and clears the counts; otherwise the tokens earned at the old rates are
kept, clamped to the new sizes (R285, R287). -/
def cmdMeterSet (ws : List Word) (d : Dev) : Dev × Ans :=
  let w := word ws 0
  let k := bitsOf w 11 0
  let mode := bitsOf w 13 12
  let cir := (word ws 1).toNat
  let pir := (word ws 2).toNat
  let cbs := (word ws 3).toNat
  let ebs := (word ws 4).toNat
  let old := (d.meter k).fill d.tb
  let base : Meter := { old with mode := mode, aware := bitOf w 14, greenDrop := bitOf w 16, yellowDrop := bitOf w 17,
                                 redDrop := bitOf w 18, cir := cir, pir := pir, cbs := cbs, ebs := ebs }
  let new : Meter :=
    if mode = old.mode then { base with tc := min old.tc (65536 * cbs), te := min old.te (65536 * ebs) }
    else { base with tc := 65536 * cbs, te := 65536 * ebs, gFrames := 0, yFrames := 0, rFrames := 0, gBytes := 0,
                     yBytes := 0, rBytes := 0 }
  let bad := decide (mode ≠ 0) && (outside cir 8 100000000 || outside cbs 64 16777215
    || (if mode = 2 then outside pir cir 100000000 || outside ebs cbs 16777215
        else decide (pir ≠ 0) || decide (16777215 < ebs)))
  cmdIf d [(decide (ws.length ≠ 5), RC.BAD_LENGTH), (extra w 0x77FFF || decide (mode = 3) || bad, RC.BAD_VALUE)]
    (d.onTmg (fun t => { t with meters := tabPut t.meters k new }), [])

/-- METER_STAT (R287). -/
def cmdMeterStat (ws : List Word) (d : Dev) : Dev × Ans :=
  let m := d.meter (bitsOf (word ws 0) 11 0)
  let two (n : Nat) : List Word := [wd n, wd (n / 2 ^ 32)]
  cmdIf d [(decide (ws.length ≠ 1), RC.BAD_LENGTH), (extra (word ws 0) 0xFFF, RC.BAD_VALUE)]
    (d, two m.gFrames ++ two m.yFrames ++ two m.rFrames ++ two m.gBytes ++ two m.yBytes ++ two m.rBytes)

/-- QUEUE_STAT (R289). -/
def cmdQueueStat (ws : List Word) (d : Dev) : Dev × Ans :=
  let q := (word ws 0).toNat
  let x := d.queue q
  cmdIf d [(decide (ws.length ≠ 1), RC.BAD_LENGTH), (d.qAbsent q, RC.ABSENT), ((qKind q).isNone, RC.BAD_VALUE)]
    (d, [wd (depthOf x.entries), wd x.entries.length, wd (x.entries.filter Entry.inDram).length, wd x.dropCnt, wd x.ageCnt])

/-- Empty a queue from the head with a completion code (R289). -/
def Dev.flushQueue (d : Dev) (q code : Nat) : Dev :=
  let x := d.queue q
  let d1 := d.setQueue q { x with entries := [] }
  (x.entries.foldl (fun d e => d.lose e code) d1).dlBytes q

/-- QUEUE_FLUSH also clears the queue's two counts (R289). -/
def cmdQueueFlush (ws : List Word) (d : Dev) : Dev × Ans :=
  let q := (word ws 0).toNat
  let d1 := d.flushQueue q RC.FLUSHED
  cmdIf d [(decide (ws.length ≠ 1), RC.BAD_LENGTH), (d.qAbsent q, RC.ABSENT), ((qKind q).isNone, RC.BAD_VALUE)]
    (d1.setQueue q { d1.queue q with dropCnt := 0, ageCnt := 0 }, [])

/-- Empty every queue (spec/16 R400: the queues are drained; spec/01 R21). -/
def Dev.flushAll (d : Dev) : Dev := (tabKeys d.tmg.queues).foldl (fun d q => d.flushQueue q RC.FLUSHED) d

/-- PACER_REFILL: the refill happens, and every queue the Pacer gates has its depth written and its head served (R283, R284). -/
def effPacerRefill (k : Nat) (d : Dev) : Dev :=
  match tabFind d.tmg.pacers k with
  | none => d
  | some p =>
    if !p.cfg.enable then d
    else
      let d0 := d.at_ p.refillAt
      let d1 := d0.setPacer k (d0.pacer k)
      (d1.pacedBy k).foldl (fun d q => (d.dlBytes q).settle q) d1

/-- AGE_CHECK of a queue, once a millisecond (R288). -/
def effAgeCheck (q : Nat) (d : Dev) : Dev :=
  if (qKind q).isNone || d.qAbsent q then d else (d.ageCheck q).settle q

/-- Change the first entry of a queue that meets a condition. -/
def onFirst (c : Entry → Bool) (f : Entry → Entry) : List Entry → List Entry
  | [] => []
  | e :: es => if c e then f e :: es else e :: onFirst c f es

/-- A spill write has completed: the entry is in DRAM, its Inkwell cells are released, its whole lines are written and so no
longer poisoned (R282, R348). -/
def Dev.spillDone (d : Dev) (q : Nat) : Dev :=
  match (d.queue q).entries.find? Entry.writing with
  | none => d
  | some e =>
    let d1 := d.setQueue q { d.queue q with entries := onFirst Entry.writing (fun e => { e with inInk := false, writing := false }) (d.queue q).entries }
    let d2 := (List.range (4 * cellsOf e.len)).foldl (fun d i => d.setPoison (e.dram + 64 * i) false) d1
    d2.cellsFree e.share e.cells e.ingress

/-- SPILL_WRITE_DONE of a queue's oldest outstanding write (R282). -/
def effSpillWriteDone (q : Nat) (d : Dev) : Dev := if d.answers then d.spillDone q else d

/-- REFILL_DONE: the queue's oldest DRAM-resident entry returns to Inkwell while the Inkwell-resident depth ahead of it is below the
threshold (notes/assumptions/142.md) and cells are free; a poisoned one is removed in place (R282, R289, R348). -/
def effRefillDone (q : Nat) (d : Dev) : Dev :=
  let x := d.queue q
  match x.entries.find? Entry.inDram with
  | none => d
  | some e =>
    let s := d.destShare q e.share
    let ahead := depthOf (x.entries.takeWhile (fun e => !e.inDram))
    if !d.answers || e.writing || !(decide (ahead < 1024 * (d.profile x.profile).spill)) then d
    else if d.rangePoisoned e.dram (256 * cellsOf e.len) then
      let d1 := d.setQueue q { x with entries := x.entries.filter (fun f => decide (f.fid ≠ e.fid)),
                                      dropCnt := satAdd 32 x.dropCnt 1 }
      (((d1.count A.MEM.POISON_READ_CNT).lose e RC.FROZEN).dlBytes q).settle q
    else if !d.inkRoom s e.cells then d
    else
      let back (f : Entry) : Entry := { f with inInk := true, share := s, ingress := if s = f.share then f.ingress else none }
      let d1 := d.setQueue q { x with entries := onFirst Entry.inDram back x.entries }
      let d2 := (d1.cellsTake s e.cells (if s = e.share then e.ingress else none)).spillSet (d1.tmg.spillUsed - cellsOf e.len)
      ((d2.count A.TMG.REFILL_CNT).dlBytes q).settle q

/-- What a write of a TMG register meets besides its fields' ranges (R281). -/
def tmgPre (o : Nat) (d : Dev) : List (Bool × Nat) :=
  if o = 0x040 ∨ o = 0x044 ∨ o = 0x048 then [((d.blk .tmg).enable, RC.NOT_IN_STATE)] else []

/-- What a write of a TMG register starts: the room of the spill area is judged anew (R281). -/
def tmgPost (o : Nat) (d : Dev) : Dev := if o = 0x048 then d.spillSet d.tmg.spillUsed else d

/-- The live register of the TMG page (R281). -/
def tmgLive (o : Nat) (d : Dev) : Option Word := if o = 0x04C then some (wd (ceilDiv d.tmg.spillUsed 4096)) else none

end Sys2Proof.Machine
end

