-- ==== Sys2Proof/Machine/Bind.lean ====
section
/-! DEFINITION. Links of the multi-link layer, keys and PNs, MPDUs on their way through the scoreboard: binding, return to the
head, acknowledgement, failed attempts (spec/06 R145, R150 to R153, R165; spec/07 R174 to R180). -/

namespace Sys2Proof.Machine

/-! Availability of a link (R180) -/

/-- A link's REASON: the first condition of R180, in its order, that holds AVAIL clear; 0 available; the mesh radio is not available away
from the mesh channel (spec/16 R377; notes/assumptions/47.md). -/
def Dev.linkReason (d : Dev) (r : Radio) : Nat :=
  let f := d.rfe.get r
  if d.chains r = 0 then 1
  else if d.bit A.MLD.LINK_CTRL r.num then 2
  else if f.cur ≠ .receive ∧ f.cur ≠ .transmit ∨ d.pmu.state = .held ∨ d.offMesh r then 3
  else if !f.locked then 7
  else if f.calPhase ≠ .none ∨ f.quiet.isSome then 4
  else if d.mld.quiesce.get r then 5
  else if d.mld.dpReset then 6
  else 0

/-- MLD.LINK_STAT.AVAIL. -/
def Dev.avail (d : Dev) (r : Radio) : Bool := decide (d.linkReason r = 0)

/-! Keys (R150 to R153) -/

/-- A key slot; an empty slot is not listed. -/
def Dev.keySlot (d : Dev) (k : Nat) : Option KeySlot := tabFind d.mld.keys k

/-- The pairwise slot of a station with TX_EN. -/
def Dev.txSlot (d : Dev) (s : Nat) : Option Nat :=
  [2 * s, 2 * s + 1].find? (fun k => match d.keySlot k with
    | some x => x.txEn
    | none => false)

/-- What protection a frame meets: none needed, a slot, or a slot that is missing (R153; notes/assumptions/48.md). -/
inductive Prot where
  | clear
  | slot (k : Nat)
  | missing
deriving DecidableEq, Repr

/-- The group slot a BSS names first among a list, if it can transmit. -/
def Dev.groupSlot (d : Dev) (ks : List Nat) : Prot :=
  match ks.filter (fun k => decide (k ≠ 0xFF)) with
  | [] => .clear
  | named => match named.find? (fun k => match d.keySlot (0x800 + k) with
      | some x => x.txEn
      | none => false) with
    | some k => .slot (0x800 + k)
    | none => .missing

/-- A station has management frame protection: a BSS of its AP MLD names an IGTK (R153; notes/assumptions/107.md). -/
def Dev.mfp (d : Dev) (s : Nat) : Bool :=
  match (d.station s).bind (fun x => tabFind d.mld.apMlds x.apMld) with
  | some a => [Radio.a, .b, .c].any (fun r => a.links.testBit r.num && (match tabFind (d.mac.get r).bss (a.bss.get r) with
      | some b => (b.gtk.drop 2).any (fun k => decide (k ≠ 0xFF))
      | none => false))
  | none => false

/-- The protection of a frame to be sent on a radio: a station's data by its pairwise slot, its management frames too where it has
management frame protection; group-addressed frames by the BSS's GTK, group-addressed management frames by its IGTK; a frame to an
unassociated station by none; mesh frames are data (R153; spec/16 R377, R388). -/
def Dev.protOf (d : Dev) (r : Radio) (e : Entry) : Prot :=
  if e.wl.noEncrypt then .clear
  else if e.wl.sta < 0x7FF then
    if e.wl.tid = 8 ∧ !d.mfp e.wl.sta ∧ e.mesh.isNone then .clear
    else match d.txSlot e.wl.sta with
      | some k => .slot k
      | none => .missing
  else if e.wl.tid = 8 ∧ !e.hdr.dst.testBit 40 then .clear
  else match tabFind (d.mac.get r).bss e.wl.bss with
    | some b => if e.mesh.isNone && (e.wl.mpdu || e.wl.tid == 8) then d.groupSlot (b.gtk.drop 2) else d.groupSlot (b.gtk.take 2)
    | none => .clear

/-- A slot protects content: its next PN, and the protected bytes under its cipher and key (R150, R153). -/
def Dev.protect (d : Dev) (k : Nat) (content : List Nat) : Option (Nat × Nat) × Dev :=
  match d.keySlot k with
  | some x =>
    (some (x.txPn + 1, Config.seal x.cipher x.key (x.txPn + 1) content),
     d.onMld (fun m => { m with keys := tabPut m.keys k { x with txPn := (x.txPn + 1) % 2 ^ 48 } }))
  | none => (none, d)

/-! Where MPDUs stand -/

/-- The queue an entry belongs to, on a radio. -/
def entryQueue (r : Radio) (e : Entry) : Nat :=
  match e.mesh with
  | some (.flood _) => 8243 + 2 * r.num
  | some _ => 8244 + 2 * r.num
  | none =>
  if e.wl.sta < 0x7FF then (if e.wl.tid < 8 then 8 * e.wl.sta + e.wl.tid else 8240 + r.num)
  else if e.wl.tid = 8 then 8240 + r.num else 8192 + 16 * r.num + e.wl.bss

/-- The scoreboard entry of a frame, with its station and TID. -/
def Dev.boardFind (d : Dev) (fid : Nat) : Option (Nat × Nat × BoardEnt) :=
  d.mld.tids.findSome? (fun e => (e.2.board.find? (fun b => decide (b.entry.fid = fid))).map (fun b => (e.1 / 16, e.1 % 16, b)))

/-- Change the scoreboard entry of a frame. -/
def Dev.boardSet (d : Dev) (s t fid : Nat) (f : BoardEnt → BoardEnt) : Dev :=
  let x := d.staTid s t
  d.setStaTid s t { x with board := x.board.map (fun b => if b.entry.fid = fid then f b else b) }

/-- Take a frame out of a scoreboard. -/
def Dev.boardDel (d : Dev) (s t fid : Nat) : Dev :=
  let x := d.staTid s t
  d.setStaTid s t { x with board := x.board.filter (fun b => decide (b.entry.fid ≠ fid)) }

/-- The kinds of board that keep a window: a station's TIDs 0 to 7. -/
def windowed (s t : Nat) : Bool := decide (s < 0x7FF ∧ t < 8)

/-- A frame is settled: its place in the scoreboard becomes acknowledged or given up and the window advances; a frame
outside a window leaves its board (R175). -/
def Dev.settleSn (d : Dev) (s t fid : Nat) (st : SnState) : Dev :=
  if windowed s t then (d.boardSet s t fid (fun b => { b with st := st })).winAdvance s t else d.boardDel s t fid

/-- A frame completes and leaves the device. -/
def Dev.frameDone (d : Dev) (s t : Nat) (b : BoardEnt) (code : Nat) (st : SnState) : Dev :=
  ((d.release b.entry).txComplete b.entry code).settleSn s t b.entry.fid st

/-- An MPDU is acknowledged, or was sent where none applies. -/
def Dev.acked (d : Dev) (fid : Nat) : Dev :=
  match d.boardFind fid with
  | some (s, t, b) => d.frameDone s t b RC.OK .acked
  | none => d

/-- An MPDU is given up with a code (R175). -/
def Dev.gaveUp (d : Dev) (fid code : Nat) : Dev :=
  match d.boardFind fid with
  | some (s, t, b) => d.frameDone s t b code .givenUp
  | none => d

/-- A failed attempt of an MPDU on a radio: awaiting retry, or given up at its limit; one that another link's BlockAck settled
meanwhile stays so (R145, R175). -/
def Dev.failedAttempt (d : Dev) (r : Radio) (fid : Nat) : Dev :=
  match d.boardFind fid with
  | some (s, t, b) =>
    let limit := if b.entry.wl.retry ≠ 0 then b.entry.wl.retry else d.fld (A.MAC.RETRY_CFG r) 3 0
    if b.st = .acked ∨ b.st = .givenUp then d
    else if limit ≤ b.entry.wl.attempts then (d.gaveUp fid RC.RETRY_LIMIT).count (A.MAC.TX_FAIL_CNT r)
    else d.boardSet s t fid (fun b => { b with st := .retry })
  | none => d

/-- Return MPDUs of a PPDU that was not sent: one that was sent before awaits retry again, any other goes back to the head of
its queue in the original order, ahead of every other entry (R126, R137, R165, R180, R276). -/
def Dev.toHead (d : Dev) (r : Radio) (fids : List Nat) : Dev :=
  let bs := fids.filterMap d.boardFind
  let d1 := bs.foldl (fun d x =>
    if x.2.2.entry.wl.attempts = 0 then
      (if windowed x.1 x.2.1 then d.boardSet x.1 x.2.1 x.2.2.entry.fid (fun b => { b with st := .queued })
       else d.boardDel x.1 x.2.1 x.2.2.entry.fid)
    else d.boardSet x.1 x.2.1 x.2.2.entry.fid (fun b => { b with st := .retry })) d
  let fresh := (bs.filter (fun x => decide (x.2.2.entry.wl.attempts = 0))).map (fun x => x.2.2.entry)
  let qs := (fresh.map (entryQueue r)).eraseDups
  qs.foldl (fun d q => d.putBack q (fresh.filter (fun e => decide (entryQueue r e = q)))) d1

/-- A frame whose launch has come is late when it would start after its tolerance; it is a timed frame no longer (spec/15 R369). -/
def Dev.launchLate (d : Dev) (fids : List Nat) (start : Nat) : Bool × Dev :=
  let late := fids.filter (fun f => match (d.boardFind f).bind (fun x => x.2.2.entry.wl.lateAt) with
    | some t => decide (t < start)
    | none => false)
  (!late.isEmpty, (late.foldl (fun d f => match d.boardFind f with
    | some (s, t, _) => d.boardSet s t f (fun b => { b with entry := { b.entry with wl := { b.entry.wl with lateAt := none } } })
    | none => d) d).countN A.TMU.LAUNCH_LATE_CNT late.length)

/-- A transmit command was refused TX_LATE: every MPDU returns unbound with its LATE_CNT one higher; one with LATE_FINAL
completes (R165). -/
def Dev.lateFrames (d : Dev) (r : Radio) (fids : List Nat) : Dev :=
  let d1 := fids.foldl (fun d f => match d.boardFind f with
    | some (s, t, b) =>
      let w := { b.entry.wl with late := b.entry.wl.late + 1 }
      let d1 := d.boardSet s t f (fun b => { b with entry := { b.entry with wl := w } })
      if w.lateFinal then d1.gaveUp f RC.TX_LATE else d1
    | none => d) d
  d1.toHead r fids

/-- Frames of a PPDU that ends without going on air complete with a code. -/
def Dev.refusedFrames (d : Dev) (fids : List Nat) (code : Nat) : Dev := fids.foldl (fun d f => d.gaveUp f code) d

/-- A BlockAckReq waits for a station. -/
def Dev.barWaits (d : Dev) (s : Nat) : Bool := (List.range 8).any (fun t => (d.staTid s t).bar.isSome)

/-- The BlockAckReqs that wait for a station lead the PPDU that starts now (R175). -/
def Dev.barLead (d : Dev) (s : Nat) : Dev :=
  (List.range 8).foldl (fun d t =>
    let y := d.staTid s t
    if y.bar.isSome then (d.setStaTid s t { y with bar := none }).count A.MLD.BAR_TX_CNT else d) d

/-! Binding (R174, R176) -/

/-- The lowest-SN MPDU of a queue that awaits retry. -/
def Dev.retryOf (d : Dev) (r : Radio) (q : Nat) : Option BoardEnt :=
  match qKind q with
  | some (.sta s t) => (d.staTid s t).board.find? (fun b => decide (b.st = .retry))
  | _ => d.mld.tids.findSome? (fun e => e.2.board.find? (fun b => decide (b.st = .retry) && decide (entryQueue r b.entry = q)))

/-- WINSIZE SNs lie between the window start and the next SN. -/
def StaTid.full (x : StaTid) : Bool := decide (x.txWin.getD 1 ≤ (x.nextSn + 4096 - x.txStart) % 4096)

/-- What a queue offers next: an MPDU that awaits retry, or its head, which must be in Inkwell and allowed by its Pacers. A
head that waits for a timed launch is not offered, nor is what stands behind it (spec/15 R369). -/
def Dev.offer (d : Dev) (r : Radio) (q : Nat) : Option (Entry × Bool) :=
  match d.retryOf r q with
  | some b => some (b.entry, true)
  | none => match d.headReady q with
    | some e => if e.wl.launch.isSome then none else some (e, false)
    | none => none

/-- The head would not fit its window, as an unsent MPDU. -/
def Dev.windowFull (d : Dev) (q : Nat) (e : Entry) : Bool :=
  match qKind q with
  | some (.sta s t) => e.wl.sn.isNone && (d.staTid s t).full
  | _ => false

/-- The cells of an MPDU move to the staging share of the radio it is bound to (R337). -/
def Dev.restage (d : Dev) (r : Radio) (e : Entry) : Option (Dev × Entry) :=
  let s := stagingOf r
  if e.share = s ∨ !e.inInk then some (d, e)
  else if d.inkRoom s e.cells then
    some ((d.cellsFree e.share e.cells e.ingress).cellsTake s e.cells none, { e with share := s, ingress := none })
  else none

/-- Put a bound entry on its board. -/
def Dev.boardPut (d : Dev) (s t : Nat) (b : BoardEnt) : Dev :=
  let x := d.staTid s t
  let board := if x.board.any (fun y => decide (y.entry.fid = b.entry.fid)) then
      x.board.map (fun y => if y.entry.fid = b.entry.fid then b else y)
    else x.board ++ [b]
  d.setStaTid s t { x with board := board }

/-- What binding one MPDU came to. -/
inductive Bound where
  | ok (fid len : Nat)
  | noKey
  | noCells
deriving DecidableEq, Repr

/-- The sequence number, PN and ciphertext of an MPDU bound for the first time (R150, R174). -/
def Dev.assign (d : Dev) (r : Radio) (e : Entry) : Option (Entry × Dev) :=
  if e.wl.sn.isSome then some (e, d)
  else
    let x := d.staTid e.wl.sta e.wl.tid
    let sn := x.nextSn
    let d1 := d.setStaTid e.wl.sta e.wl.tid { x with nextSn := (sn + 1) % 4096 }
    match d.protOf r e with
    | .missing => none
    | .clear => some ({ e with wl := { e.wl with sn := some sn } }, d1)
    | .slot k =>
      let (x, d2) := d1.protect k [e.fid, e.len, e.hdr.dst, e.hdr.src, e.hdr.etype, sn]
      some ({ e with wl := { e.wl with sn := some sn, pn := x.map (fun y => y.1), sealed := x.map (fun y => y.2) } }, d2)

/-- Bind what a queue offers to a radio (R174, R176). A frame whose key is missing completes with NO_KEY (R153). -/
def Dev.bindTo (d : Dev) (r : Radio) (q : Nat) (e : Entry) (retry : Bool) : Bound × Dev :=
  match d.restage r e with
  | none => (.noCells, d)
  | some (d0, e0) =>
    let s := e.wl.sta
    let t := e.wl.tid
    if retry then
      let x := decide (e.wl.lastLink.isSome ∧ e.wl.lastLink ≠ some r.num)
      let d1 := d0.boardSet s t e.fid (fun b => { b with st := .inFlight r.num, entry := e0 })
      let d2 := (if x then d1.count A.MLD.XLINK_RETRY_CNT else d1).count (A.MLD.BIND_CNT r.num)
      (.ok e.fid e.len, d2)
    else
      let d1 := d0.depart q
      match d1.assign r { e0 with pin := none } with
      | none => (.noKey, ((d1.release e0).txComplete e0 RC.NO_KEY).count (A.MAC.TX_NOKEY_CNT r))
      | some (e1, d2) =>
        let d3 := d2.boardPut s t { sn := e1.wl.sn.getD 0, st := .inFlight r.num, entry := e1 }
        let d4 := if windowed s t then d3.setStaTid s t { d3.staTid s t with bound := some r.num } else d3
        (.ok e.fid e.len, (d4.count (A.MLD.BIND_CNT r.num)).dlBytes q)

/-- The MPDUs in flight on a radio, or bound to a PPDU of it that has not started. -/
def Dev.boundTo (d : Dev) (r : Radio) : List Nat :=
  (d.mld.tids.map (fun e => (e.2.board.filter (fun b => decide (b.st = .inFlight r.num))).map (fun b => b.entry.fid))).flatten

/-- MCS and streams last chosen for a station on a link, from its link record (R192). -/
def Dev.lastRate (d : Dev) (s link : Nat) : Nat × Nat :=
  let w := d.sramGet (0x20000 + 0x100 * (3 * s + link) + 4) 4
  (w % 256, w / 256 % 16)

/-- The predicted end of an MPDU on another link, in ticks from now (R176). -/
def Dev.predOther (d : Dev) (y : Radio) (s : Nat) (e : Entry) : Nat :=
  let m := d.mac.get y
  let until_ := [match m.txop with
      | some x => x.until_
      | none => 0, m.ownNav, match (d.asc.radios.get y).heatRun with
      | some (t, _) => t
      | none => 0, (d.rfe.get y).quiet.getD 0]
  let busy := until_.foldl max 0 - d.tb
  let (mcs, nss) := d.lastRate s y.num
  busy + usT (d.mld.accDly.get y) + usT (Config.airtime e.len mcs nss)

/-- The other links Baton may wait for: of the station, in the TID's map, in the request's LINKS, and available. -/
def Dev.otherLinks (d : Dev) (x : Radio) (s t : Nat) (e : Entry) : List Radio :=
  match d.station s with
  | none => []
  | some st =>
    [Radio.a, .b, .c].filter (fun y => decide (y ≠ x) && st.links.testBit y.num && (st.map / 2 ^ (3 * t)).testBit y.num
      && (decide (e.wl.links = 0) || e.wl.links.testBit y.num) && d.avail y)

/-- Baton passes an MPDU over for a better link (R176). `end_`: the end of the PPDU being filled, in ticks from now. -/
def Dev.defersTo (d : Dev) (x : Radio) (q : Nat) (e : Entry) (end_ : Nat) : Bool :=
  match qKind q with
  | some (.sta s t) =>
    let preds := (d.otherLinks x s t e).map (fun y => d.predOther y s e)
    match preds with
    | [] => false
    | p :: ps => decide (e.wl.defers < d.fld A.MLD.BATON_CFG 19 16)
        && decide (ps.foldl min p + usT (d.fld A.MLD.BATON_CFG 15 0) < end_)
  | _ => false

/-- Note a deferral on the MPDU where it stands. -/
def Dev.deferNote (d : Dev) (q : Nat) (e : Entry) (retry : Bool) : Dev :=
  let w := { e.wl with defers := e.wl.defers + 1 }
  let d1 := if retry then d.boardSet e.wl.sta e.wl.tid e.fid (fun b => { b with entry := { b.entry with wl := w } })
    else d.setQueue q { d.queue q with entries := match (d.queue q).entries with
      | h :: rest => { h with wl := w } :: rest
      | [] => [] }
  d1.count A.MLD.BATON_DEFER_CNT

/-- The MPDU's request allows the link (R162). -/
def linkAllowed (x : Radio) (e : Entry) : Bool := decide (e.wl.links = 0) || e.wl.links.testBit x.num

/-- A queue's head is not in Inkwell: a PPDU it was planned for is filled short (R18, R168). -/
def Dev.headAway (d : Dev) (q : Nat) : Bool :=
  match (d.queue q).entries with
  | e :: _ => !e.inInk && e.wl.launch.isNone
  | [] => false

/-- Baton's procedure for one RU: the queues of its allotment in order, the room left in bytes, what is bound so far (R176). -/
def Dev.baton (d : Dev) (x : Radio) (end_ : Nat) : Nat → List Nat → Nat → List Nat → Dev × List Nat
  | 0, _, _, acc => (d, acc)
  | _, [], _, acc => (d, acc)
  | fuel + 1, q :: qs, room, acc =>
    match d.offer x q with
    | none => (if d.headAway q then d.onMac x (fun m => { m with short := true }) else d).baton x end_ fuel qs room acc
    | some (e, retry) =>
      if room < e.len ∨ (!retry && d.windowFull q e) ∨ !linkAllowed x e ∨ (e.wl.lateAt.isSome && !acc.isEmpty) then d.baton x end_ fuel qs room acc
      else if !acc.isEmpty && d.defersTo x q e end_ then (d.deferNote q e retry).baton x end_ fuel qs room acc
      else match d.bindTo x q e retry with
        | (.ok f len, d1) => if e.wl.lateAt.isSome then (d1, [f]) else d1.baton x end_ fuel (q :: qs) (room - len) (acc ++ [f])
        | (.noKey, d1) => d1.baton x end_ fuel (q :: qs) room acc
        | (.noCells, d1) => (d1.onMac x (fun m => { m with short := true })).baton x end_ fuel qs room acc

/-! A link becomes available or is withdrawn (R177, R180) -/

/-- What follows when AVAIL changes: the access delay starts at 0; MPDUs bound to a PPDU that has not started return to the
head of their queues, and those of one that has started complete their exchange, its response and its MU-BAR. -/
def Dev.linkEdge (before : Bool) (r : Radio) (d : Dev) : Dev :=
  let after := d.avail r
  if after && !before then (d.onMld (fun m => { m with accDly := m.accDly.set r 0 })).onMac r (fun m => { m with txopEnd := d.tb })
  else if before && !after then
    let started := (match (d.phy.get r).tx with
      | some x => x.fids
      | none => []) ++ (match (d.mac.get r).wait with
      | some w => w.fids
      | none => []) ++ (match (d.mac.get r).txop with
      | some x => x.pend
      | none => [])
    let back := (d.boundTo r).filter (fun f => !started.contains f)
    let d1 := d.onRfe r (fun f => { f with wait := none })
    let d2 := d1.onAsc (fun a => { a with radios := a.radios.set r { a.radios.get r with good := none, heatGood := [] } })
    d2.toHead r back
  else d

/-- Apply a change of the device, and what it does to the availability of the links. -/
def Dev.withLinks (d : Dev) (f : Dev → Dev) : Dev :=
  let d' := f d
  ((Dev.linkEdge (d.avail .c) .c) ((Dev.linkEdge (d.avail .b) .b) (Dev.linkEdge (d.avail .a) .a d')))

/-- The B–C pair is STR: Radio C's lower edge at least 250 MHz above Radio B's upper edge (R178). -/
def Dev.strNow (d : Dev) : Bool :=
  let b := (d.rfe.get .b).tuned
  let c := (d.rfe.get .c).tuned
  decide (chanCenter b + 10 * 2 ^ chanWidth b + 250 ≤ chanCenter c - 10 * 2 ^ chanWidth c)

/-- The rule is evaluated at a channel change (R178). -/
def Dev.strEval (d : Dev) : Dev :=
  let s := d.strNow
  if s = d.mld.bcStr then d else (d.onMld (fun m => { m with bcStr := s })).raise .mld Cause.MLD.STR_CHANGED

end Sys2Proof.Machine
end

