-- ==== Sys2Proof/Machine/Rfe.lean ====
section
/-! DEFINITION. Radio states, the synthesizer and image calibrations, channel changes, the FEM lines (spec/03 R65 to R83, R92
to R94). A transmission that waits for them is started in PhyTx.lean. -/

namespace Sys2Proof.Machine

/-! Frequency plan (R65) -/

/-- f_IF, MHz: 0.75 × channel width. -/
def ifMhz (w : Word) : Nat := 15 * 2 ^ chanWidth w

/-- f_LO, MHz: f_center − f_IF on low side, f_center + f_IF on high side. -/
def Rfe.loMhz (f : Rfe) : Int :=
  if f.side then Int.ofNat (chanCenter f.tuned) + Int.ofNat (ifMhz f.tuned) else Int.ofNat (chanCenter f.tuned) - Int.ofNat (ifMhz f.tuned)

/-- The bands of the channel and of its image at the complex ADC, MHz, lower edge first; the sides exchange their signs. -/
def Rfe.chanBand (f : Rfe) : Int × Int :=
  let k : Int := 5 * 2 ^ chanWidth f.tuned
  if f.side then (-5 * k, -k) else (k, 5 * k)
def Rfe.imageBand (f : Rfe) : Int × Int := (-f.chanBand.2, -f.chanBand.1)

/-- The rate of a radio's ADC, MS/s. -/
def adcRate : Radio → Nat
  | .a => 120
  | .b => 480
  | .c => 960

/-- The loopback tones of an image calibration at the ADC, kHz: the centre of each of 16 equal bins across the channel, and its
image (R76). -/
def Rfe.calTones (f : Rfe) : List (Int × Int) :=
  (List.range 16).map (fun k =>
    let t : Int := 1000 * f.chanBand.1 + Int.ofNat ((2 * k + 1) * (625 * 2 ^ chanWidth f.tuned))
    (t, -t))

/-! Times, in TB ticks: 25 ticks to 0.1 µs -/

/-- RAMP in 0.1 µs and TX_LAG in 50 ns, as written. -/
def Dev.ramp (d : Dev) (r : Radio) : Nat := d.fld (A.RFE.RAMP_CFG r) 4 0
def Dev.txLag (d : Dev) (r : Radio) : Nat := d.fld (A.RFE.FEM_TIME r) 23 16

/-- Transition into Transmit from Synth-on and from Receive (R68). -/
def Dev.intoTx (d : Dev) (r : Radio) (fromRx : Bool) : Nat := (if fromRx then 625 else 1000) + 25 * d.ramp r - 200

/-- Transmit to Receive: RAMP + TX_LAG + 1.0 µs, of the PPDU that ends (R68, R83). -/
def Dev.txToRx (d : Dev) (r : Radio) : Nat :=
  25 * bitsOf (d.rfe.get r).femNow.ramp 4 0 + ceilDiv (25 * bitsOf (d.rfe.get r).femNow.time 23 16) 2 + 250

/-! FEM lines (R82, R83) -/

/-- Chains with FEM balls (spec/21, Package). -/
def femChains : Radio → Nat
  | .a => 4
  | _ => 8

/-- The lines of every chain under a pattern: an absent chain drives 0 in every state (spec/21 R494). -/
def Dev.femLines (d : Dev) (r : Radio) (p : Nat) : List Nat := (List.range (femChains r)).map (fun c => if c < d.chains r then p else 0)

/-- The lines and the bias output change at a time in ns; without a present chain the bias is 0 V (spec/21 R494). -/
def Dev.femOut (d : Dev) (r : Radio) (ns p bias : Nat) : Dev :=
  d.emit (.fem r ns (d.femLines r p) (if d.chains r = 0 then 0 else bias))

/-- The FEM's LNA bypass is selected: by the reception in progress, or by the manual gain in force (R67, R101, R103). -/
def Dev.rxByp (d : Dev) (r : Radio) : Bool :=
  match (d.phy.get r).rcp with
  | some x => x.bypass
  | none => bitOf (d.phy.get r).cfg.agc 8 && bitOf (d.phy.get r).cfg.agcMan 16

/-- The pattern of Receive, or of Receive with LNA bypass. -/
def Dev.femRx (d : Dev) (r : Radio) : Nat :=
  if d.rxByp r then bitsOf (d.rfe.get r).femNow.map 11 8 else bitsOf (d.rfe.get r).femNow.map 7 4

/-- Put the FEM pattern of a state other than Transmit on the radio's chains, with the idle bias (R67, R82). -/
def Dev.femPut (d : Dev) (r : Radio) : Dev :=
  let n := (d.rfe.get r).femNow
  d.femOut r (4 * d.tb) (if (d.rfe.get r).cur = .receive then d.femRx r else bitsOf n.map 3 0) (bitsOf n.bias 25 16)

/-- The Off pattern, without bias: what the AON domain drives where the radio has no power (spec/18 R439). -/
def Dev.femOff (d : Dev) (r : Radio) : Dev := d.femOut r (4 * d.tb) (bitsOf (d.rfe.get r).femNow.map 3 0) 0

/-- The amplitudes 0.5 (1 − cos(π k / 16)) of the 16 steps of a ramp-up, in 10⁻⁶ of the final amplitude (R81). -/
def rampSteps : List Nat :=
  [9607, 38060, 84265, 146447, 222215, 308658, 402455, 500000, 597545, 691342, 777785, 853553, 915735, 961940, 990393, 1000000]

/-- The steps of a ramp-down: the same in reverse order, ending at zero. -/
def fallSteps : List Nat := rampSteps.dropLast.reverse ++ [0]

/-- What the pins do before a PPDU's first sample at a tick: from Receive its pattern is released, the bias moves BIAS_LEAD and
the Transmit pattern TX_LEAD before the ramp-up, which ends at the first sample (R81, R83). -/
def Dev.femLaunch (d : Dev) (r : Radio) (start : Nat) : Dev :=
  let n := (d.rfe.get r).femNow
  let rise := 4 * start - 100 * bitsOf n.ramp 4 0
  let off := bitsOf n.map 3 0
  let tx := bitsOf n.map 15 12
  let lvl := bitsOf n.bias 9 0
  let bias := rise - 50 * bitsOf n.time 15 8
  let pat := rise - 50 * bitsOf n.time 7 0
  let d0 := if (d.rfe.get r).cur = .receive then d.femOut r (4 * (start - d.intoTx r true) + 200) off (bitsOf n.bias 25 16) else d
  let d1 := if pat < bias then d0.femOut r pat tx (bitsOf n.bias 25 16) else d0.femOut r bias off lvl
  (d1.femOut r (max pat bias) tx lvl).emit (.ramp r rise (100 * bitsOf n.ramp 4 0) rampSteps)

/-- What the pins do after a PPDU's last sample at a tick: the ramp-down, the Off pattern with the idle bias TX_LAG after it, and
on the way to Receive its pattern 0.2 µs later (R81, R83). -/
def Dev.femRelease (d : Dev) (r : Radio) (stop : Nat) (toRx : Bool) : Dev :=
  let n := (d.rfe.get r).femNow
  let len := 100 * bitsOf n.ramp 4 0
  let off := 4 * stop + len + 50 * bitsOf n.time 23 16
  let idle := bitsOf n.bias 25 16
  let d1 := (d.emit (.ramp r (4 * stop) len fallSteps)).femOut r off (bitsOf n.map 3 0) idle
  if toRx then d1.femOut r (off + 200) (d.femRx r) idle else d1

/-- The FEM registers take effect at a PPDU start (R93). -/
def Dev.femTake (d : Dev) (r : Radio) : Dev :=
  d.onRfe r (fun f => { f with femNow := { ramp := d.rd (A.RFE.RAMP_CFG r), map := d.rd (A.RFE.FEM_MAP r),
                                           time := d.rd (A.RFE.FEM_TIME r), bias := d.rd (A.RFE.FEM_BIAS r) } })

/-! The receiver with the radio (R96, R97, R102, R111) -/

/-- The receiver returns to LISTEN with its configuration as written, or is OFF where the radio is not in Receive; the
reception in progress is gone. -/
def Dev.rxRearm (d : Dev) (r : Radio) : Dev :=
  let on := decide ((d.rfe.get r).cur = .receive)
  let cfg : RxCfg := { det := d.rd (A.PHY.DET_CFG r), agc := d.rd (A.PHY.AGC_CFG r), agcMan := d.rd (A.PHY.AGC_MAN r),
                       ovt := d.rd (A.PHY.OVT_CFG r), cca := d.rd (A.PHY.CCA_CFG r), obss := d.rd (A.PHY.OBSS_CFG r),
                       dec := d.rd (A.PHY.DEC_CFG r), radar := if r = .b then d.rd (A.PHY.RADAR_CFG r) else 0xC000 }
  d.onPhy r (fun p => { p with rx := if on then .listen else .off, rcp := none, cfg := if on then cfg else p.cfg,
                               ed := if on then p.ed else 0, pdSec := if on then p.pdSec else [] })

/-- The receiver returns to LISTEN, and the FEM lines follow the bypass (R102, R103). -/
def Dev.rxListen (d : Dev) (r : Radio) : Dev :=
  let d1 := d.rxRearm r
  if d.rxByp r = d1.rxByp r then d1 else d1.femPut r

/-- Which of the events that end a reception in one tick sets END: LOST_LOCK, RADIO_EXIT, TX_ABORT, OVERTAKEN (R111). -/
def endRank (code : Nat) : Nat := if code = 5 then 0 else if code = 6 then 1 else if code = 4 then 2 else 3

/-- A reception in BODY or HOLD that is cut off will be reported with an END code; one in PREAMBLE ends without a report. Where
the reception was cut off in this very tick, the first of the codes in their order stands (R111). -/
def Dev.rxEnds (d : Dev) (r : Radio) (code : Nat) : Dev :=
  let p := d.phy.get r
  match p.rcp with
  | some x =>
    if p.rx = .body ∨ p.rx = .hold then
      d.onPhy r (fun p => { p with lastEnd := some code, cuts := p.cuts ++ [{ rcp := x, code := code, at_ := d.tb }] })
    else d
  | none => d.onPhy r (fun p => { p with cuts := p.cuts.map (fun c =>
      if c.at_ = d.tb ∧ endRank code < endRank c.code then { c with code := code } else c) })

/-- A radio takes a state: its FEM lines and its receiver follow; the lines around Transmit change at their own times. -/
def Dev.enter (d : Dev) (r : Radio) (s : RState) : Dev :=
  let was := (d.rfe.get r).cur
  let d1 := d.onRfe r (fun f => { f with cur := s, moving := none, locked := f.locked && decide (s ≠ .sleep ∧ s ≠ .standby) })
  let d2 := if (was = .receive) ≠ (s = .receive) then (d1.rxEnds r (if s = .transmit then 4 else 6)).rxRearm r else d1
  if was = s ∨ was = .transmit ∨ s = .transmit then d2 else d2.femPut r

/-! Calibration phases (R71, R76, R77) -/

/-- A calibration phase begins. -/
def Dev.phase (d : Dev) (r : Radio) (p : CalPhase) (k : CalKind) (ticks : Nat) : Dev :=
  d.onRfe r (fun f => { f with calPhase := p, calKind := k, phaseEnd := d.tb + ticks })

/-- The LO side of IF_CFG takes effect: at a channel change, and when a full calibration has searched its band (R66). -/
def Dev.latchSide (d : Dev) (r : Radio) : Dev := d.onRfe r (fun f => { f with side := d.bit (A.RFE.IF_CFG r) 0 })

/-- A channel change: the synthesizer is on the stored channel with the side of IF_CFG; STR is evaluated and the feedback of the
radio's stations is invalidated (R66, R129, R178). -/
def Dev.setChannel (d : Dev) (r : Radio) : Dev :=
  let w := d.rd (A.RFE.CHAN r)
  let d1 := (d.onRfe r (fun f => { f with tuned := w, chanReq := false })).latchSide r
  let d2 := d1.onPhy r (fun p => { p with fb := [], cache := [], sounding := none })
  ((tabKeys d2.mld.stations).foldl (fun d s => d.sramPut (0x20008 + 0x100 * (3 * s + r.num)) 8 0) d2).strEval

/-- The stored channel applies, where it is another (R92). -/
def Dev.takeChannel (d : Dev) (r : Radio) : Dev :=
  if d.rd (A.RFE.CHAN r) = (d.rfe.get r).tuned then d.onRfe r (fun f => { f with chanReq := false }) else d.setChannel r

/-- Begin the path from Standby to Synth-on: 13 µs of start, then the fine tune, or the full search at once (R68, R71). -/
def Dev.synthStart (d : Dev) (r : Radio) : Dev :=
  let d1 := d.takeChannel r
  let known := (d1.rfe.get r).bands.contains (d1.rfe.get r).tuned
  let d2 := d1.onRfe r (fun f => { f with moving := some (.synthOn, d.tb + (if known then usT 45 else usT 180)) })
  if known then d2.phase r .none .first (usT 13) else d2.phase r .coarse .first (usT 148)

/-- Begin a channel change: the narrow search; with its image refresh it takes 75 µs (R68, R71). -/
def Dev.chanChange (d : Dev) (r : Radio) : Dev :=
  let d1 := (d.setChannel r).enter r .synthOn
  (d1.onRfe r (fun f => { f with locked := false, moving := some (.synthOn, d.tb + usT 75) })).phase r .coarse .chanChange (usT 23)

/-- The radio's resting state, and Transmit's path while a command waits (R69, R70). -/
def Dev.target (d : Dev) (r : Radio) : Nat :=
  if (d.rfe.get r).wait.isSome then 3 else d.fld (A.RFE.STATE_CMD r) 2 0

/-- Move on toward the target by the next elementary transition (R68, R69); no move starts during a data-plane reset (spec/01
R20). -/
def Dev.moveOn (d : Dev) (r : Radio) : Dev :=
  let f := d.rfe.get r
  let t := d.target r
  let go (s : RState) (ticks : Nat) : Dev := d.onRfe r (fun f => { f with moving := some (s, d.tb + ticks) })
  if f.moving.isSome ∨ f.calPhase ≠ .none ∨ f.cur = .transmit ∨ d.mld.dpReset then d
  else match f.cur with
    | .sleep => if 1 ≤ t then go .standby (usT 90) else d
    | .standby => if t = 0 then go .sleep (usT 2) else if 2 ≤ t then d.synthStart r else d
    | .synthOn =>
      if t = 0 then go .sleep (usT 2) else if t = 1 then go .standby (usT 1)
      else if f.chanReq ∨ d.rd (A.RFE.CHAN r) ≠ f.tuned then d.chanChange r
      else if t = 3 ∧ f.locked then go .receive (usT 3) else d
    | .receive =>
      if t = 0 then go .sleep (usT 2) else if t = 1 then go .standby (usT 1)
      else if f.chanReq ∨ d.rd (A.RFE.CHAN r) ≠ f.tuned then d.chanChange r
      else if t = 2 then go .synthOn (usT 1) else d
    | .transmit => d

/-- Work that R69 protects is in progress: a TXOP, an own NAV, a Heat. -/
def Dev.radioHeld (d : Dev) (r : Radio) : Bool :=
  let m := d.mac.get r
  m.txop.isSome || decide (d.tb < m.ownNav) || (d.asc.radios.get r).heatRun.isSome

/-- What is left of the transition or calibration phase in progress, µs rounded up (RFE_x.STATE.REMAIN_US). -/
def Dev.remainUs (d : Dev) (r : Radio) : Nat :=
  let f := d.rfe.get r
  let e := if f.calPhase ≠ .none then f.phaseEnd else match f.moving with
    | some (_, t) => t
    | none => d.tb
  ceilDiv (e - d.tb) 250

/-- The band result of the channel is stored, beside that of the channel before it (R71). -/
def Dev.bandKeep (d : Dev) (r : Radio) : Dev :=
  d.onRfe r (fun f => { f with bands := (f.tuned :: f.bands.filter (fun w => decide (w ≠ f.tuned))).take 2 })

/-- The temperature at a radio's transceiver sensor, whole °C (spec/17 R410: sensors 0 to 2, in 0.125 °C). -/
def Dev.radioTemp (d : Dev) (r : Radio) : Int := d.mgt.temps.getD r.num 0 / 8

/-- The worst bin of an attempt, dB. -/
def ImgSet.worst (s : ImgSet) : Nat :=
  match s.irr with
  | [] => 0
  | x :: xs => xs.foldl min x

/-- The coefficient set an image calibration keeps: the first attempt's where it reaches 60 dB, else the better of the two; of two
equal ones the first (R76). -/
def CalMeas.kept (m : CalMeas) : ImgSet :=
  if 60 ≤ m.first.worst ∨ m.second.worst ≤ m.first.worst then m.first else m.second

/-- An image calibration has set its coefficients: the worst bin's rejection is shown, and IMG_LOW is set where it is below 60 dB
(R76). -/
def Dev.imageDone (d : Dev) (r : Radio) (m : CalMeas) : Dev :=
  let irr := m.kept.worst
  let d1 := d.onRfe r (fun f => { f with irr := min 255 irr, imgTime := some d.tb, image := m.kept })
  if irr < 60 then d1.raise (.rfe r) Cause.RFE.IMG_LOW else d1

/-- A due calibration has run or been placed: nothing is deferred, CAL_OVERDUE ends (R79). -/
def Dev.calSettled (d : Dev) (r : Radio) : Dev :=
  let f := d.rfe.get r
  if f.recalDue ∨ f.periodicDue then d
  else (d.onRfe r (fun f => { f with dueSince := none, overdue := false })).follow (.rfe r) Cause.RFE.CAL_OVERDUE false

/-- A full calibration is done: the temperature it was done at, from which drift counts again; none is due any longer (R71). -/
def Dev.fullDone (d : Dev) (r : Radio) : Dev :=
  (d.onRfe r (fun f => { f with tempSyn := d.radioTemp r, tempNow := d.radioTemp r, recalDue := false })).calSettled r

/-- A calibration falls due (R71, R77). -/
def Dev.calDue (d : Dev) (r : Radio) : Dev :=
  d.onRfe r (fun f => { f with dueSince := some (f.dueSince.getD d.tb) })

/-- The synthesizer is in lock again and rests in Synth-on. -/
def Dev.inLock (d : Dev) (r : Radio) : Dev :=
  ((d.onRfe r (fun f => { f with locked := true, calPhase := .none, moving := none, lo := f.loMhz })).bandKeep r).enter r .synthOn

/-- SYN_CAL_PHASE_DONE: the phase in progress ends and the next begins; `m` is what an image or periodic calibration measured
(R66, R71, R72, R76, R77). -/
def Dev.phaseDone (d : Dev) (r : Radio) (m : CalMeas) : Dev :=
  let f := d.rfe.get r
  let starting := decide (f.calPhase = .none ∧ f.calKind = .first) && decide (f.cur = .standby) && f.moving.isSome
    && decide (f.phaseEnd ≠ 0)
  if f.calPhase = .none ∧ !starting then d
  else
    let d := d.at_ f.phaseEnd
    match f.calPhase with
    | .none => d.phase r .fine .first (usT 12)
    | .coarse => (if f.calKind = .chanChange then d else d.latchSide r).phase r .fine f.calKind (usT 12)
    | .fine => d.phase r .settle f.calKind (usT 20)
    | .settle =>
      match f.calKind with
      | .relock | .relockFull => d
      | .chanChange => ((d.onRfe r (fun f => { f with locked := true, lo := f.loMhz })).bandKeep r).phase r .image .chanChange (usT 20)
      | .first => (if f.bands.contains f.tuned then d.inLock r else (d.inLock r).fullDone r).moveOn r
      | .recal | .periodic => ((d.inLock r).fullDone r).moveOn r
    | .image => ((d.inLock r).imageDone r m).moveOn r
    | .periodic =>
      let d1 := (d.imageDone r m).onRfe r (fun f => { f with periodicDue := false, perTime := d.tb, tempImg := d.radioTemp r,
                                                             txCorr := m.tx, tempNow := d.radioTemp r, calPhase := .none })
      if f.recalDue then d1.phase r .coarse .recal (usT 148) else ((d1.calSettled r).inLock r).moveOn r

/-- SYN_RELOCK_DONE: fine tune and settle regained lock, or did not, and then a full calibration runs (R75). -/
def Dev.relockDone (d : Dev) (r : Radio) (ok : Bool) : Dev :=
  let f := d.rfe.get r
  if f.calPhase ≠ .settle then d
  else match f.calKind with
    | .relock =>
      let d1 := d.at_ f.phaseEnd
      if ok then (d1.inLock r).moveOn r else d1.phase r .coarse .relockFull (usT 148)
    | .relockFull =>
      let d1 := d.at_ f.phaseEnd
      if ok then ((d1.inLock r).fullDone r).moveOn r else d1.phase r .coarse .relockFull (usT 148)
    | _ => d

/-- A radio's transceiver sensor reads `t`, in 0.125 °C. -/
def Dev.tempRead (d : Dev) (r : Radio) (t : Int) : Dev :=
  let d1 : Dev := { d with mgt := { d.mgt with temps := d.mgt.temps.set r.num t } }
  d1.onRfe r (fun f => { f with tempNow := d1.radioTemp r })

/-- TEMP_DRIFT_RECAL_DUE: the transceiver sensor reads `t`, in 0.125 °C, RECAL_DT or more from the last full calibration (R71). -/
def effTempDriftRecalDue (r : Radio) (t : Int) (d : Dev) : Dev :=
  let d1 := d.tempRead r t
  let f := d1.rfe.get r
  if d.bit (A.RFE.SYN_CFG r) 8 && f.locked && decide (d.fld (A.RFE.SYN_CFG r) 7 0 ≤ (f.tempNow - f.tempSyn).natAbs) && !f.recalDue then
    (d1.onRfe r (fun f => { f with recalDue := true })).calDue r
  else d1

/-- PERIODIC_CAL_DUE: by temperature at once, else when PERIOD_S has passed. Before the first periodic calibration the
temperature is compared with the reset value of TEMP_IMG (R77; notes/assumptions/102.md). -/
def effPeriodicCalDue (r : Radio) (t : Int) (d : Dev) : Dev :=
  let d1 := d.tempRead r t
  let f := d1.rfe.get r
  if !f.locked || f.periodicDue then d1
  else
    let d2 := if d.fld (A.RFE.CAL_CFG r) 11 8 ≤ (f.tempNow - f.tempImg).natAbs then d1
      else d1.at_ (f.perTime + sT (d.fld (A.RFE.CAL_CFG r) 7 0))
    (d2.onRfe r (fun f => { f with periodicDue := true })).calDue r

/-- CAL_DEFER_EXPIRY: a due calibration found no window in MAX_DEFER_MS (R79). -/
def effCalDeferExpiry (r : Radio) (d : Dev) : Dev :=
  let f := d.rfe.get r
  match f.dueSince with
  | some t => if f.overdue then d
    else
      let d1 := (d.at_ (t + msT (d.fld (A.RFE.CAL_CFG r) 27 16))).onRfe r (fun f => { f with overdue := true })
      (d1.count (A.RFE.CAL_DEFER_CNT r)).raise (.rfe r) Cause.RFE.CAL_OVERDUE
  | none => d

/-- QUIET_WINDOW_END: the reservation has ended (R78). -/
def Dev.quietEnd (d : Dev) (r : Radio) : Dev :=
  match (d.rfe.get r).quiet with
  | some t => (d.at_ t).onRfe r (fun f => { f with quiet := none })
  | none => d

/-! Writes -/

/-- A CHAN word asks for a width that the radio is not fused for (R5, R92). -/
def Dev.widthAbsent (d : Dev) (r : Radio) (w : Word) : Bool :=
  decide (r = .c) && decide (chanWidth w = 4) && decide (bitsOf d.mgt.otp.variant 19 16 < 4)

/-- What refuses a CHAN or STATE_CMD write, the host's and the MP's alike: a calibration phase, a TXOP, an own NAV, a Heat (R69). -/
def Dev.rfeBusy (d : Dev) (r : Radio) : List (Bool × Nat) :=
  [(decide ((d.rfe.get r).calPhase ≠ .none), RC.BUSY_CALIBRATION), (d.radioHeld r, RC.BUSY)]

/-- A write of CHAN or STATE_CMD has changed it and the radio moves; a CHAN write in Synth-on or above starts a channel change,
whatever the word (R69, R92). -/
def Dev.rfeMoves (d : Dev) (r : Radio) (chan : Bool) : Dev :=
  let up := decide ((d.rfe.get r).cur ≠ .sleep ∧ (d.rfe.get r).cur ≠ .standby)
  (if chan && up then d.onRfe r (fun f => { f with chanReq := true }) else d).withLinks (fun d => d.moveOn r)

/-- The MP's own tuning for the mesh: what a CHAN write does, refused where that is (R69, R92, R383). -/
def Dev.tune (d : Dev) (r : Radio) (w : Word) : Dev :=
  if (d.rfeBusy r).any (fun x => x.1) || d.widthAbsent r w || !chanValid r w then d else (d.wr (A.RFE.CHAN r) w).rfeMoves r true

/-- The MP's own write of STATE_CMD, refused where the host's is (R69, R400). -/
def Dev.stateCmd (d : Dev) (r : Radio) (t : Nat) : Dev :=
  if (d.rfeBusy r).any (fun x => x.1) then d
  else (d.wr (A.RFE.STATE_CMD r) (putBits (d.rd (A.RFE.STATE_CMD r)) 2 0 t)).rfeMoves r false

/-- What a write of an RFE register meets besides its fields' ranges (R5, R69, R92). -/
def rfePre (r : Radio) (o : Nat) (v : Word) (d : Dev) : List (Bool × Nat) :=
  if o = 0x040 then (decide (3 < bitsOf v 2 0), RC.BAD_VALUE) :: d.rfeBusy r
  else if o = 0x048 then (d.widthAbsent r v, RC.ABSENT) :: (!chanValid r v, RC.BAD_VALUE) :: d.rfeBusy r
  else if o = 0x04C then [(decide (2 ^ d.chains r ≤ bitsOf v 7 0), RC.ABSENT)]
  else []

/-- What follows a write of an RFE register. -/
def rfePost (r : Radio) (o : Nat) (d : Dev) : Dev := if o = 0x040 ∨ o = 0x048 then d.rfeMoves r (o == 0x048) else d

/-- The number of a radio state (RFE_x.STATE.CURRENT). -/
def RState.code : RState → Nat
  | .sleep => 0
  | .standby => 1
  | .synthOn => 2
  | .receive => 3
  | .transmit => 4

/-- The number of a calibration phase (RFE_x.STATE.CAL_PHASE). -/
def CalPhase.code : CalPhase → Nat
  | .none => 0
  | .coarse => 1
  | .fine => 2
  | .settle => 3
  | .image => 4
  | .periodic => 5

/-- The live registers of an RFE page. -/
def rfeLive (r : Radio) (o : Nat) (d : Dev) : Option Word :=
  let f := d.rfe.get r
  if o = 0x044 then
    some (wd (min 65535 (d.remainUs r) * 2 ^ 16 + f.calPhase.code * 2 ^ 12 + b2n f.locked * 2 ^ 8 + b2n f.moving.isSome * 8
      + f.cur.code))
  else if o = 0x080 then
    some (match f.imgTime with
      | some t => wd (min 65535 ((d.tb - t) / 250000000) * 2 ^ 16 + 2 ^ 8 + f.irr)
      | none => 0)
  else if o = 0x084 then
    some (wd ((match f.dueSince with
      | some t => min 65535 ((d.tb - t) / 250000)
      | none => 0) * 2 ^ 16 + unsigned 8 f.tempSyn * 2 ^ 8 + unsigned 8 f.tempImg))
  else none

/-! Quiesce and re-initialization for a self-test (R181, R456) -/

/-- A self-test asks for a quiesce. -/
def Dev.quiesce (d : Dev) (r : Radio) : Dev :=
  d.withLinks (fun d => d.onMld (fun m => { m with quiesce := m.quiesce.set r true }))

/-- The longest time until the radio is quiesced, µs: the remaining TXOP and the response timeout. -/
def Dev.quiesceBoundUs (d : Dev) (r : Radio) : Nat :=
  (match (d.mac.get r).txop with
    | some x => ceilDiv (x.until_ - d.tb) 250
    | none => 0) + d.fld (A.MAC.RESP_CFG r) 7 0

/-- Nothing of the radio is left in progress: no TXOP, no response wait, no bound MPDU. -/
def Dev.radioQuiet (d : Dev) (r : Radio) : Bool :=
  (d.mac.get r).txop.isNone && (d.mac.get r).wait.isNone && (d.boundTo r).isEmpty && (d.phy.get r).tx.isNone

/-- The radio is in service again from its registers, at its target, newly calibrated; what its image calibration measured is
the device's own: a free value (R456). -/
def Dev.unquiesce (d : Dev) (r : Radio) : Dev :=
  let d0 := d.onMld (fun m => { m with quiesce := m.quiesce.set r false, quiesced := m.quiesced.set r false })
  d0.withLinks (fun d =>
    let t := d.fld (A.RFE.STATE_CMD r) 2 0
    let s : RState := if t = 0 then .sleep else if t = 1 then .standby else if t = 2 then .synthOn else .receive
    let d1 := d.setChannel r
    let d2 := d1.took.onRfe r (fun f => { f with moving := none, calPhase := .none, wait := none, quiet := none, calNext := false })
    let s1 : ImgSet := ⟨[], [], [d1.freeVal 256]⟩
    let d3 := if 2 ≤ t then ((d2.inLock r).fullDone r).imageDone r ⟨s1, s1, d2.rfe.get r |>.txCorr⟩ else d2
    d3.enter r s)

end Sys2Proof.Machine
end

