-- ==== Sys2Proof/Machine/PhyTx.lean ====
section
/-! DEFINITION. The transmit command: the vector's check, feedback, power, the start on air, the transmit report (spec/03 R70 to
R75, R80; spec/05 R120 to R131). -/

namespace Sys2Proof.Machine

/-! The transmit vector (R120 to R122) -/

/-- The formats a radio transmits, numbered as TxVec numbers them. -/
def txFormats : Radio → List Nat
  | .a => [0, 1, 2, 4, 5, 7, 9, 11, 12]
  | .b => [1, 2, 3, 4, 5, 7, 9, 10, 11, 12]
  | .c => [1, 4, 5, 7, 9, 11, 12]

/-- The highest MCS or rate code of a format. -/
def maxMcs (fmt : Nat) : Nat :=
  match fmt with
  | 0 => 3
  | 1 => 7
  | 2 => 31
  | 3 | 10 => 9
  | 4 | 5 | 9 | 11 => 11
  | _ => 13

/-- The widest width code of a format. -/
def maxBw (fmt : Nat) : Nat :=
  match fmt with
  | 0 => 0
  | 2 => 1
  | 5 => 0
  | 1 | 7 | 12 => 4
  | _ => 3

/-- The guard intervals of a format: none for DSSS and non-HT, short or long for HT and VHT, 0.8, 1.6 or 3.2 µs for HE and EHT, their
NDPs among them (R120). -/
def txGi (fmt gi : Nat) : Bool :=
  if fmt < 2 then decide (gi = 3) else if fmt = 2 ∨ fmt = 3 ∨ fmt = 10 then decide (gi ≤ 1) else decide (gi ≤ 2)

/-- Users of one RU, most streams of one user, most RUs of a PPDU (R120). -/
def maxNss (r : Radio) : Nat := if r = .a then 4 else 8
def maxRus (r : Radio) : Nat :=
  match r with
  | .a => 18
  | .b => 74
  | .c => 148

/-- The distinct RUs of a vector, with their tones and offset. -/
def TxVec.rus (v : TxVec) : List (Nat × Nat × Int) :=
  v.users.foldl (fun l u => if l.any (fun x => decide (x.1 = u.ru)) then l else l ++ [(u.ru, u.tones, u.off)]) []

/-- The users that share an RU. -/
def TxVec.sharing (v : TxVec) (ru : Nat) : List TxUser := v.users.filter (fun u => decide (u.ru = ru))

/-- Bit mask of `n` bits from a place. -/
def maskAt (lo n : Nat) : Nat := (2 ^ n - 1) * 2 ^ lo

/-- Patterns of a non-OFDMA EHT MU PPDU: the U-SIG punctured-channel indication of IEEE 802.11be (notes/assumptions/49.md). -/
def ehtPatterns (bw : Nat) : List Nat :=
  if bw = 2 then (List.range 4).map (fun i => maskAt i 1)
  else if bw = 3 then (List.range 8).map (fun i => maskAt i 1) ++ (List.range 4).map (fun i => maskAt (2 * i) 2)
  else if bw = 4 then
    (List.range 8).map (fun i => maskAt (2 * i) 2) ++ (List.range 4).map (fun i => maskAt (4 * i) 4)
      ++ (List.range 6).map (fun i => maskAt 0 4 + maskAt (4 + 2 * i) 2) ++ (List.range 6).map (fun i => maskAt 12 4 + maskAt (2 * i) 2)
  else []

/-- Punctured bits a segment of 80 MHz of an OFDMA EHT MU PPDU may have. -/
def segPatterns : List Nat := [0, 1, 2, 4, 8, 3, 12, 6, 15]

/-- A puncturing pattern that R122 permits; `p`: the primary's place in the PPDU's block. -/
def punctOk (r : Radio) (v : TxVec) (p : Nat) : Bool :=
  if v.punct = 0 then true
  else if v.punct.testBit p ∨ 2 ^ 2 ^ v.bw ≤ v.punct then false
  else match r, v.fmt with
    | .a, _ => false
    | _, 7 => if v.ofdma then
        decide (2 ≤ v.bw) && (List.range (2 ^ (v.bw - 2))).all (fun k => segPatterns.contains (v.punct / 2 ^ (4 * k) % 16))
      else (ehtPatterns v.bw).contains v.punct
    | .b, 9 =>
      let seg := p / 4
      let own := v.punct / 2 ^ (4 * seg) % 16
      let q := p % 4
      let sec20 := 2 ^ (if q % 2 = 0 then q + 1 else q - 1)
      let sec40 := if q < 2 then [4, 8] else [1, 2]
      if v.bw = 2 then decide (own = sec20) || sec40.contains own
      else if v.bw = 3 then decide (own = sec20) || decide (own &&& (15 - sec40.foldl (· + ·) 0) = 0)
      else false
    | _, _ => false

/-- The check of R121 but for the request's range: format, width, streams, MCS, GI, one RU a station, RUs, MU-MIMO, puncturing,
offsets. -/
def Dev.txvOk (d : Dev) (r : Radio) (v : TxVec) : Bool :=
  let w := (d.rfe.get r).tuned
  let chains := popNat 8 (d.fld (A.RFE.CHAIN_EN r) 7 0)
  let p := primIdx r w % 2 ^ v.bw
  (txFormats r).contains v.fmt && decide (v.bw ≤ chanWidth w) && decide (v.bw ≤ maxBw v.fmt) && txGi v.fmt v.gi
    && v.users.all (fun u => decide ((v.users.filter (fun x => decide (x.sta = u.sta))).length ≤ 1))
    && v.users.all (fun u => decide (u.mcs ≤ maxMcs v.fmt) && decide (u.nss ≤ maxNss r) && decide (u.nss ≤ chains)
      && decide (-64 ≤ u.off ∧ u.off ≤ 24) && decide (u.subch &&& v.punct = 0))
    && decide (v.rus.length ≤ maxRus r)
    && v.rus.all (fun x =>
      let us := v.sharing x.1
      decide (us.length ≤ 1) || (d.bit (A.PHY.TX_CFG r) 1 && decide (us.length ≤ 8 ∧ 242 ≤ x.2.1)
        && us.all (fun u => decide (u.nss ≤ 4)) && decide (us.foldl (fun n u => n + u.nss) 0 ≤ chains)))
    && punctOk r v p && decide (chipFloor r ≤ v.pref ∧ v.pref ≤ chipTop r)

/-! Feedback (R126, R129) -/

/-- A user's feedback is missing. -/
def Dev.fbMissing (d : Dev) (r : Radio) (u : TxUser) : Bool :=
  u.steered && match tabFind (d.phy.get r).fb u.sta with
    | some f => !f.cached && !d.serving
    | none => true

/-- The vector as it is sent: single users unsteered, MU-MIMO users removed. Answers the vector, UNSTEERED, MU_DROP and the
stations removed. A user alone on its RU of an OFDMA PPDU is sent unsteered in place, as in a single-user PPDU (R126;
notes/assumptions/103.md). -/
def Dev.withFeedback (d : Dev) (r : Radio) (v : TxVec) : TxVec × Bool × Nat × List Nat :=
  let mu (u : TxUser) : Bool := decide (1 < (v.sharing u.ru).length)
  let miss := d.fbMissing r
  let gone := v.users.filter (fun u => miss u && mu u)
  let kept := (v.users.filter (fun u => !(miss u && mu u))).map (fun u => if miss u then { u with steered := false } else u)
  let bits := (List.range v.users.length).foldl (fun n i => match v.users[i]? with
    | some u => if miss u && mu u && decide (i < 8) then n + 2 ^ i else n
    | none => n) 0
  ({ v with users := kept }, v.users.any (fun u => miss u && !mu u), bits, gone.map (fun u => u.sta))

/-- The least recently used entries leave the on-chip cache above 128 stations (R128). -/
def Dev.cacheFb (d : Dev) (r : Radio) (s : Nat) : Dev :=
  d.onPhy r (fun p =>
    let order := s :: p.cache.filter (fun x => decide (x ≠ s))
    let kept := order.take 128
    { p with cache := kept, fb := p.fb.map (fun e => (e.1, { e.2 with cached := kept.contains e.1 })) })

/-- Feedback of a station on a radio is invalidated; the scheduler sees it as never sounded (R129). -/
def Dev.dropFb (d : Dev) (r : Radio) (s : Nat) : Dev :=
  (d.onPhy r (fun p => { p with fb := tabDel p.fb s, cache := p.cache.filter (fun x => decide (x ≠ s)) })).sramPut
    (0x20008 + 0x100 * (3 * s + r.num)) 8 0

/-- The PHY prefetches the feedback of ranked candidates into its cache, from their records in DRAM while it serves (R128). -/
def Dev.prefetchFb (d : Dev) (r : Radio) (ss : List Nat) : Dev :=
  ss.foldl (fun d s => match tabFind (d.phy.get r).fb s with
    | some f => if f.cached || d.serving then d.cacheFb r s else d
    | none => d) d

/-- A valid feedback report is stored: the V matrices in the station's record and the cache, the SNR per stream and subchannel and the
times in its scheduler state (R128). -/
def Dev.storeFb (d : Dev) (r : Radio) (s nc : Nat) (v : List (List Word)) (snr : List Nat) : Dev :=
  let base := 0x20000 + 0x100 * (3 * s + r.num)
  let d1 := d.onPhy r (fun p => { p with fb := tabPut p.fb s { time := d.tb, cached := true, nc := nc, v := v } })
  let d2 := ((d1.cacheFb r s).sramPut (base + 0x08) 8 d.tb).sramPut (base + 0x10) 8 d.tb
  (List.range 64).foldl (fun d i => match snr[i]? with
    | some v => if v = 0xFF then d else d.sramPut (base + 0x20 + i) 1 v
    | none => d) d2

/-- The V matrices of a user's feedback, one a tone group. -/
def Dev.vOf (d : Dev) (r : Radio) (s : Nat) : List (List Word) :=
  match tabFind (d.phy.get r).fb s with
  | some f => f.v
  | none => []

/-- The precoder of an RU's steered users: the stored V matrices of a single user, a regularized zero-forcing precoder across the
users' on each tone group, normalized to the chains' request (R124). -/
def Dev.precoder (d : Dev) (r : Radio) (us : List TxUser) : List (List Word) :=
  match us with
  | [] => []
  | [u] => d.vOf r u.sta
  | u :: _ => (List.range (d.vOf r u.sta).length).map (fun g => Config.zeroForcing (us.map (fun x => (d.vOf r x.sta).getD g [])))

/-- The precoders of a vector, by RU. -/
def Dev.precoders (d : Dev) (r : Radio) (v : TxVec) : List (Nat × List (List Word)) :=
  (v.rus.map (fun x => (x.1, d.precoder r ((v.sharing x.1).filter (fun u => u.steered))))).filter (fun x => decide (x.2 ≠ []))

/-! The transmit report (R130) -/

/-- A signed 16-bit half-word. -/
def half (v : Int) : Nat := unsigned 16 v

/-- The twelve words of a transmit report. -/
def TxRep.words (x : TxRep) : List Word :=
  let pairs (l : List Int) : List Word := (List.range 4).map (fun k =>
    wd (half (l.getD (2 * k) (-32768)) + 2 ^ 16 * half (l.getD (2 * k + 1) (-32768))))
  [wd (x.endCode * 2 ^ 28 + b2n x.clamped * 2 ^ 27 + b2n x.unsteered * 2 ^ 26 + x.clampQ % 256 * 2 ^ 16 + x.muDrop % 256 * 2 ^ 8
     + x.nchain % 16), wd x.tod, wd (x.tod / 2 ^ 32), wd (x.onUs % 65536)] ++ pairs x.applied ++ pairs x.detect

/-- A report of a PPDU that was not sent, with what feedback it lacked (R126). -/
def TxRep.refused (code : Nat) (unst : Bool) (drop : Nat) : TxRep :=
  { endCode := code, clamped := false, unsteered := unst, clampQ := 0, muDrop := drop, nchain := 0, tod := 0, onUs := 0,
    applied := List.replicate 8 (-32768), detect := List.replicate 8 (-32768) }

/-- The report of a PPDU on air, with its END and the detector readings by chain. -/
def TxPpdu.report (x : TxPpdu) (code : Nat) (detect : List Int) : TxRep :=
  let sent := decide (code = 0)
  { endCode := code, clamped := x.clamped, unsteered := x.unsteered, clampQ := x.clampQ, muDrop := x.muDrop,
    nchain := x.chains.length, tod := if sent then x.start else 0, onUs := if sent then x.onUs else 0,
    applied := (List.range 8).map (fun c => if x.chains.contains c then x.request - Int.ofNat (tabGet 0 x.cuts c) else -32768),
    detect := (List.range 8).map (fun c => if sent && x.chains.contains c then detect.getD c (-32768) else -32768) }

/-! The start -/

/-- The enabled chains of a radio. -/
def Dev.enabled (d : Dev) (r : Radio) : List Nat := (List.range (d.chains r)).filter (fun i => d.bit (A.RFE.CHAIN_EN r) i)

/-- The chains that carry a PPDU: all enabled ones, or without spatial expansion the first NSS of an unsteered PPDU (R125). -/
def Dev.txChains (d : Dev) (r : Radio) (v : TxVec) : List Nat :=
  let all := d.enabled r
  if v.users.any (fun u => u.steered) ∨ d.bit (A.PHY.TX_CFG r) 0 then all
  else all.take (v.users.foldl (fun n u => max n u.nss) 1)

/-- The request of each chain (R123). -/
def TxVec.request (v : TxVec) : Int := v.pref + (if v.rus = [] then 0 else meanOffset (v.rus.map (fun x => x.2)))

/-- A transmit command ends a reception in PREAMBLE, BODY or HOLD (R111). -/
def Dev.rxAbort (d : Dev) (r : Radio) : Dev :=
  let p := (d.phy.get r).rx
  if p = .preamble ∨ p = .body ∨ p = .hold then (d.rxEnds r 4).rxListen r else d

/-- A transmit report is passed: it is the last report, and each frame of the PPDU carries it into its completion (R130). -/
def Dev.reportTo (d : Dev) (r : Radio) (rep : TxRep) (fids : List Nat) : Dev :=
  fids.foldl (fun d f => match d.boardFind f with
    | some (s, t, _) => d.boardSet s t f (fun b =>
        { b with entry := { b.entry with wl := { b.entry.wl with rep := rep.words } } })
    | none => d) (d.onPhy r (fun p => { p with lastRep := some rep }))

/-- A refusal ends a transmit command with a report. -/
def Dev.txRefuse (d : Dev) (r : Radio) (code : Nat) (unst : Bool) (drop : Nat) (fids : List Nat) : Dev :=
  (d.reportTo r (TxRep.refused code unst drop) fids).onRfe r (fun f => { f with wait := none })

/-- TX_LATE (R73, R165). -/
def Dev.txLate (d : Dev) (r : Radio) (fids : List Nat) : Dev :=
  ((d.onRfe r (fun f => { f with wait := none })).count (A.RFE.TX_LATE_CNT r)).lateFrames r fids

/-- TXV_INVALID (R121): BAD_VALUE for the frames. -/
def Dev.txInvalid (d : Dev) (r : Radio) (unst : Bool) (drop : Nat) (fids : List Nat) : Dev :=
  ((d.txRefuse r 1 unst drop fids).count (A.PHY.TXV_REJECT_CNT r)).refusedFrames fids RC.BAD_VALUE

/-- An MPDU goes on air: an attempt on this link. A mesh frame carries its message (spec/16 R388). -/
def Dev.onAirFrame (d : Dev) (r : Radio) (fid : Nat) : Dev :=
  match d.boardFind fid with
  | some (s, t, b) =>
    let again := decide (0 < b.entry.wl.attempts)
    let w := { b.entry.wl with attempts := b.entry.wl.attempts + 1, lastLink := some r.num }
    let d1 := ((d.boardSet s t fid (fun b => { b with entry := { b.entry with wl := w } })).count (A.MAC.TX_MPDU_CNT r)).emit
      (.mpdu r fid w.sn w.sealed)
    let d1 := match b.entry.mesh with
      | some (.flood m) => d1.emit (.mesh none m)
      | some (.link mac m) => d1.emit (.mesh (some mac) m)
      | some (.null mac) => d1.emit (.qosNull mac)
      | none => d1
    if again then d1.count (A.MAC.TX_RETRY_CNT r) else d1
  | none => d

/-- The frames of stations that a PPDU no longer carries. -/
def Dev.framesOf (d : Dev) (fids sts : List Nat) : List Nat :=
  fids.filter (fun f => match d.boardFind f with
    | some (s, _, _) => sts.contains s
    | none => false)

/-- SIFS in ticks; the signal extension after an OFDM PPDU on Radio A (R141). -/
def sifs (r : Radio) : Nat := if r = .a then usT 10 else usT 16
def sigExt (r : Radio) (fmt : Nat) : Nat := if r = .a ∧ fmt ≠ 0 then usT 6 else 0

/-- The other radio of the B–C pair. -/
def pairOf : Radio → Option Radio
  | .a => none
  | .b => some .c
  | .c => some .b

/-- The ends of two soliciting PPDUs of a non-STR pair are brought within 8 µs: the earlier is padded (R179). -/
def Dev.nstrAlign (d : Dev) (r : Radio) : Dev :=
  match pairOf r with
  | none => d
  | some o =>
    match (d.phy.get r).tx, (d.phy.get o).tx with
    | some x, some y =>
      if d.mld.bcStr || !x.vec.solicits || !y.vec.solicits then d
      else if x.stop + 2000 < y.stop then
        (d.onPhy r (fun p => { p with tx := some { x with stop := y.stop } })).count A.MLD.NSTR_ALIGN_CNT
      else if y.stop + 2000 < x.stop then
        (d.onPhy o (fun p => { p with tx := some { y with stop := x.stop } })).count A.MLD.NSTR_ALIGN_CNT
      else d
    | _, _ => d

/-- A PPDU that RGL admitted starts: it takes the FEM registers, goes on its way to the first sample, and sets the own NAV of its
Duration; the BlockAckReqs of its stations lead it, and its steered users' feedback is the latest used (R83, R93, R124, R128,
R135, R175). -/
def Dev.airStart (d : Dev) (r : Radio) (v : TxVec) (fids chains : List Nat) (req : Int) (cut : List (Nat × Nat)) (unst : Bool)
    (drop start : Nat) : Dev :=
  let q := cut.foldl (fun m e => max m e.2) 0
  let x : TxPpdu := { vec := v, start := start, stop := start + usT v.durUs, onUs := d.onUs r v.durUs, chains := chains, request := req,
                      clampQ := q, cuts := cut.filter (fun e => decide (e.2 ≠ 0)), clamped := decide (0 < q), unsteered := unst,
                      muDrop := drop, fids := fids, prec := d.precoders r v }
  let d1 := (((d.rglClamped r cut).rglFree r).femTake r).onPhy r (fun p => { p with tx := some x })
  let d2 := (d1.onRfe r (fun f => { f with moving := some (.transmit, start), wait := none })).femLaunch r start
  let d3 := d2.onMac r (fun m => { m with ownNav := max m.ownNav (if v.navUs = 0 then 0 else x.stop + usT v.navUs) })
  let d4 := (v.users.filter (fun u => u.steered)).foldl (fun d u => d.cacheFb r u.sta) d3
  let d5 := if v.kind = .data ∨ v.kind = .bar then v.users.foldl (fun d u => d.barLead u.sta) d4 else d4
  (fids.foldl (fun d f => d.onAirFrame r f) d5).count (A.MAC.TX_PPDU_CNT r)

/-- A PPDU that waits in no queue: a held start of it is not sent later. -/
def TxVec.unqueued (v : TxVec) : Bool := decide (v.kind = .ctsSelf ∨ v.kind = .cfEnd)

/-- Start a PPDU at a time: feedback, request, RGL's check, then the way to its first sample (R88, R90, R121, R123, R126). A held
queued transmission waits for the duty window, where that comes within its deadline; the feedback is looked at again then. -/
def Dev.launch (d : Dev) (r : Radio) (v : TxVec) (fids : List Nat) (deadline start : Nat) : Dev :=
  let (tooLate, d) := (d.onRfe r (fun f => { f with wait := none })).launchLate fids start
  if tooLate then d.lateFrames r fids else
  let (v1, unst, drop, gone) := d.withFeedback r v
  let lost := d.framesOf fids gone
  let fids1 := fids.filter (fun f => !lost.contains f)
  let d0 := (d.countN (A.PHY.MU_DROP_CNT r) gone.length).toHead r lost
  let d1 := if unst then d0.count (A.PHY.BF_UNSTEERED_CNT r) else d0
  let req := v1.request
  if (v1.users = [] ∧ v.users ≠ []) ∨ req < chipFloor r ∨ chipTop r < req then d1.txInvalid r unst drop fids1
  else
    let chains := d1.txChains r v1
    match d1.rglStart r v1.bw v1.punct chains req (d1.onTicks r v1.durUs) with
    | .refuse chan => ((d1.rglRefused r chan).txRefuse r 2 unst drop fids1).refusedFrames fids1 RC.NOT_PERMITTED
    | .hold cut =>
      let h := d.rglHeld r cut false
      match d.dutyRelease r (d.onTicks r v1.durUs) with
      | some t =>
        if v.unqueued ∨ deadline < t + d.intoTx r true then h.txLate r fids
        else h.onRfe r (fun f => { f with wait := some { vec := v, fids := fids, deadline := deadline, forDuty := true, forPrecoder := false } })
      | none => h.txLate r fids
    | .go cut => ((d1.airStart r v1 fids1 chains req cut unst drop start).emit (.air r v1 start fids1)).nstrAlign r

/-- How long a transmit command waits for a calibration (R72, R80), in ticks, and whether the calibration is abandoned. -/
def Dev.calWait (d : Dev) (r : Radio) : Nat × Bool :=
  let f := d.rfe.get r
  let left := f.phaseEnd - d.tb
  let image := if f.calKind = .chanChange then usT 20 else 0
  match f.calPhase with
  | .none => (0, false)
  | .coarse => if f.calKind = .recal then (usT 8, true) else (left + usT 32 + image, false)
  | .fine => (left + usT 20 + image, false)
  | .settle => (left + image, false)
  | .image => (left, false)
  | .periodic => (left % usT 20, true)

/-- The rest of the way into Transmit after that wait, in ticks (R68, R70). -/
def Dev.wayToTx (d : Dev) (r : Radio) : Nat :=
  let f := d.rfe.get r
  let synth := if f.bands.contains (d.rd (A.RFE.CHAN r)) then usT 45 else usT 180
  let from_ (s : RState) : Nat := match s with
    | .sleep => usT 90 + synth + d.intoTx r false
    | .standby => synth + d.intoTx r false
    | .synthOn => d.intoTx r false
    | .receive | .transmit => d.intoTx r true
  if f.calPhase ≠ .none then d.intoTx r false
  else match f.moving with
    | some (s, t) => (t - d.tb) + from_ s
    | none => from_ f.cur

/-- The start tolerance of a PPDU, µs: the least of its frames', or the vector's own (R73, R162; notes/assumptions/104.md). -/
def Dev.tolOf (d : Dev) (v : TxVec) (fids : List Nat) : Nat :=
  match (fids.filterMap d.boardFind).map (fun x => x.2.2.entry.wl.tol) with
  | [] => v.tolUs
  | t :: ts => ts.foldl min t

/-- Before this tick no PPDU's first sample leaves: the signal extension of the last PPDU runs, and the PPDUs of a TXOP, its CF-End
among them, are SIFS apart (R133, R141). -/
def Dev.notBefore (d : Dev) (r : Radio) (v : TxVec) : Nat :=
  (d.mac.get r).airEnd + (if (d.mac.get r).txop.isSome ∨ v.kind = .cfEnd then sifs r else 0)

/-- MAC_x issues a transmit command: the vector is checked, the start predicted, and the PPDU starts, waits, or is refused
(R70 to R73, R80, R121, R124). TX_WAIT_CNT counts every command that has to wait, one that abandons a calibration among them
(notes/assumptions/68.md). `ready`: the precoders of a steered PPDU are computed. -/
def Dev.transmit (d : Dev) (r : Radio) (v : TxVec) (fids : List Nat) (ready : Bool) : Dev :=
  let d := d.rxAbort r
  if !d.txvOk r v then d.txInvalid r false 0 fids
  else
    let (w, abandon) := d.calWait r
    let start := max (d.tb + w + d.wayToTx r) (d.notBefore r v)
    let deadline := d.tb + usT (d.tolOf v fids)
    if deadline < start then d.txLate r fids
    else
      let d1 := if abandon then
          ((d.onRfe r (fun f => { f with calPhase := .none, locked := true, moving := some (.synthOn, d.tb + w) })).count
            (A.RFE.CAL_ABORT_CNT r))
        else d
      let d2 := if w = 0 then d1 else d1.count (A.RFE.TX_WAIT_CNT r)
      let f := d2.rfe.get r
      let waits (pre : Bool) : Dev := d2.onRfe r (fun f =>
        { f with wait := some { vec := v, fids := fids, deadline := deadline, forDuty := false, forPrecoder := pre } })
      if v.users.any (fun u => u.steered) && !ready then (waits true).moveOn r
      else if w = 0 ∧ f.locked ∧ (f.cur = .receive ∨ f.cur = .synthOn) ∧ f.calPhase = .none then
        d2.launch r v fids deadline start
      else (waits false).moveOn r

/-- A waiting command goes on once the radio can transmit (R72, R73). -/
def Dev.resumeTx (d : Dev) (r : Radio) : Dev :=
  let f := d.rfe.get r
  match f.wait with
  | none => d
  | some w =>
    if w.forDuty || w.forPrecoder || !f.locked || decide (f.calPhase ≠ .none)
        || decide (f.cur ≠ .synthOn ∧ f.cur ≠ .receive) then d
    else
      let start := max (d.tb + d.intoTx r (decide (f.cur = .receive))) (d.notBefore r w.vec)
      if w.deadline < start then d.txLate r w.fids else d.launch r w.vec w.fids w.deadline start

/-- After a radio event: a waiting transmission starts, else the radio moves toward its target. -/
def Dev.radioNext (d : Dev) (r : Radio) : Dev :=
  let d1 := d.resumeTx r
  if (d1.phy.get r).tx.isSome then d1 else d1.moveOn r

/-- A service period is shortened by a Heat, a quiet window or a beacon that falls inside it (R160). -/
def Dev.twtCut (d : Dev) (r : Radio) : Dev :=
  let n := ((d.mac.get r).twt.filter (fun e => e.2.sp.isSome && !e.2.cut)).length
  (d.onMac r (fun m => { m with twt := m.twt.map (fun e => (e.1, if e.2.sp.isSome then { e.2 with cut := true } else e.2)) })).countN
    (A.MAC.TWT_SP_CUT_CNT r) n

/-- The first sample of a quiet window's CTS-to-self is on air: the reservation runs to the end of its Duration (R78). -/
def Dev.quietBegin (d : Dev) (r : Radio) : Dev :=
  match (d.phy.get r).tx with
  | some x =>
    if x.vec.kind = .ctsSelf then
      ((d.onRfe r (fun f => { f with quiet := some (x.stop + usT x.vec.navUs) })).twtCut r).count (A.RFE.CAL_RUN_CNT r)
    else d
  | none => d

/-- In Synth-on after the CTS-to-self the due calibrations begin: the periodic one, then the recalibration (R77, R78). -/
def Dev.quietCal (d : Dev) (r : Radio) : Dev :=
  let f := d.rfe.get r
  if f.calNext && decide (f.cur = .synthOn) then
    let d1 := d.onRfe r (fun f => { f with calNext := false })
    if f.periodicDue then d1.phase r .periodic .periodic (usT 300)
    else if f.recalDue then d1.phase r .coarse .recal (usT 148) else d1
  else d

/-- RADIO_TRANSITION_DONE (R68, R69). A path that calibration phases take ends with the last of them. -/
def effRadioTransitionDone (r : Radio) (d : Dev) : Dev :=
  match (d.rfe.get r).moving with
  | none => d
  | some (s, t) =>
    if (d.rfe.get r).calPhase ≠ .none ∨ ((d.rfe.get r).cur = .standby ∧ s = .synthOn) then d
    else d.withLinks (fun d =>
      let d1 := (d.at_ t).enter r s
      if s = .transmit then d1.quietBegin r else (d1.quietCal r).radioNext r)

/-- SYN_CAL_PHASE_DONE. -/
def effSynCalPhaseDone (r : Radio) (m : CalMeas) (d : Dev) : Dev := d.withLinks (fun d => (d.phaseDone r m).radioNext r)

/-- SYN_RELOCK_DONE. -/
def effSynRelockDone (r : Radio) (ok : Bool) (d : Dev) : Dev := d.withLinks (fun d => (d.relockDone r ok).radioNext r)

/-- DUTY_HOLD_RELEASE: the moment comes from which the duty window allows the held start (R90). -/
def effDutyHoldRelease (r : Radio) (d : Dev) : Dev :=
  match (d.rfe.get r).wait with
  | none => d
  | some w =>
    if !w.forDuty then d
    else match d.dutyRelease r (d.onTicks r w.vec.durUs) with
      | none => d
      | some t => (((d.at_ t).rglFree r).onRfe r (fun f => { f with wait := some { w with forDuty := false } })).radioNext r

/-- PRECODER_READY: the precoders of a waiting steered PPDU are computed (R124). -/
def effPrecoderReady (r : Radio) (d : Dev) : Dev :=
  match (d.rfe.get r).wait with
  | none => d
  | some w => if w.forPrecoder then
      (d.onRfe r (fun f => { f with wait := some { w with forPrecoder := false } })).radioNext r
    else d

/-- The PPDU on air ends: its on-time counts, its report is passed, its detector readings correct RGL (R89, R90, R130). -/
def Dev.txEnd (d : Dev) (r : Radio) (code : Nat) (detect : List Int) (x : TxPpdu) : Dev :=
  let ramp := 25 * bitsOf (d.rfe.get r).femNow.ramp 4 0
  let stop := if code = 0 then x.stop else d.tb
  let d1 := d.addOn r (x.start - ramp) (stop + ramp)
  let rep := x.report code detect
  let d2 := (d1.onPhy r (fun p => { p with tx := none,
                                           pwrLast := if code = 0 then (List.range 8).map (fun c =>
                                             wd (half (rep.applied.getD c 0) + 2 ^ 16 * half (rep.detect.getD c 0))) else p.pwrLast })).onMac r
    (fun m => { m with airEnd := stop + sigExt r x.vec.fmt })
  let d3 := d2.reportTo r rep x.fids
  if code = 0 then
    d3.detUpdate r ((x.chains.filter (fun c => decide (detect.getD c (-32768) ≠ -32768))).map (fun c =>
      (c, x.request - Int.ofNat (tabGet 0 x.cuts c), detect.getD c 0)))
  else d3

/-- After its PPDU the radio moves to Receive, or to Synth-on on its way down or for the calibrations of a quiet window (R68, R78,
R83). -/
def Dev.afterTx (d : Dev) (r : Radio) (x : TxPpdu) : Dev :=
  let toRx := decide (d.fld (A.RFE.STATE_CMD r) 2 0 = 3 ∧ x.vec.kind ≠ .ctsSelf)
  (d.femRelease r x.stop toRx).onRfe r (fun f =>
    { f with cur := .transmit, calNext := decide (x.vec.kind = .ctsSelf),
             moving := some (if toRx then (.receive, d.tb + d.txToRx r)
                             else (.synthOn, d.tb + 25 * bitsOf f.femNow.ramp 4 0 + usT 1)) })

/-- SYN_UNLOCK: loss of lock is a fault: a PPDU on air ends incomplete, a reception ends, relocking starts (R75, R111).
Answers the PPDU that ended, for the MAC. -/
def Dev.unlock (d : Dev) (r : Radio) : Dev × Option TxPpdu :=
  let f := d.rfe.get r
  if !f.locked then (d, none)
  else
    let x := (d.phy.get r).tx
    let d1 := match x with
      | some p => (d.txEnd r 3 [] p).femRelease r d.tb false
      | none => d
    let d2 := (((d1.rxEnds r 5).rxRearm r).enter r .synthOn).onRfe r (fun f => { f with locked := false, moving := none })
    (((d2.phase r .fine .relock (usT 12)).count (A.RFE.UNLOCK_CNT r)).raise (.rfe r) Cause.RFE.SYN_UNLOCK, x)

end Sys2Proof.Machine
end

