-- ==== Sys2Proof/Machine/PhyRx.lean ====
section
/-! DEFINITION. The receiver: energy rise, detection, the false-start guard, frequency, signal fields, overtake, clear channel
assessment, OBSS packet detection, radar, the receive report (spec/04_phy_receive.md). What the air brings is an operand of
each event. What the MAC does with a report is in MacRx.lean. -/

namespace Sys2Proof.Machine

/-- A signed byte field of a word. -/
def sbyte (w : Word) (lo : Nat) : Int := signed 8 (bitsOf w (lo + 7) lo)

/-- The gain of a reception: manual gain overrides what the loop found (R101, R103). Bypass, LNA, VGA. -/
def RxCfg.gain (c : RxCfg) (byp : Bool) (lna vga : Nat) : Bool × Nat × Nat :=
  if bitOf c.agc 8 then (bitOf c.agcMan 16, bitsOf c.agcMan 1 0, bitsOf c.agcMan 12 8) else (byp, lna % 4, vga % 32)

/-- The power calls for the FEM's LNA bypass (R101). -/
def RxCfg.bypassed (c : RxCfg) (power : Int) : Bool :=
  if bitOf c.agc 8 then bitOf c.agcMan 16 else decide (sbyte c.agc 0 < power)

/-- A reception that starts, with nothing decoded. -/
def Reception.new (start : Nat) (ref : Int) (byp : Bool) (lna vga : Nat) (dsss falseStart : Bool) : Reception :=
  { start := start, ref := ref, bypass := byp, lna := lna, vga := vga, dsss := dsss, falseStart := falseStart,
    guardOpen := true, cfo := none, bodyEnd := 0, fmt := 0, bw := 0, nss := 0, mcs := 0, gi := 3, holdEnd := 0, color := 0 }

/-- Take a receiver state and its reception; the FEM lines follow the bypass (R67, R96). -/
def Dev.rxSet (d : Dev) (r : Radio) (s : RxState) (x : Reception) : Dev :=
  let was := d.rxByp r
  let d1 := d.onPhy r (fun p => { p with rx := s, rcp := some x })
  if was = x.bypass then d1 else d1.femPut r

/-- ENERGY_RISE: in-band power, in dBm, above DET_LVL (R96, R101). -/
def effEnergyRise (r : Radio) (power : Int) (d : Dev) : Dev :=
  let p := d.phy.get r
  if p.rx = .listen ∧ sbyte p.cfg.det 16 < power then
    let x := { Reception.new d.tb power (p.cfg.bypassed power) 3 0 false false with guardOpen := false }
    (d.onPhy r (fun p => { p with riseAt := d.tb })).rxSet r .settle x
  else d

/-- What the detector reports: the 0.8 µs boundary after the energy rise, the estimated first L-STF sample, the power on the
primary, the gain the loop settled at, the correlation in sixteenths, DSSS or OFDM (R98, R100). -/
structure Detect where
  boundary : Nat
  start : Nat
  power : Int
  lna : Nat
  vga : Nat
  corr : Nat
  dsss : Bool
deriving DecidableEq, Repr

/-- DETECTION: the AGC freezes at the reference power and the guard window opens. A DSSS or CCK detection, which needs 8 µs of SYNC
while SETTLE ends after 6.4 µs, comes from LISTEN as well as from SETTLE (R98, R100, R102; notes/assumptions/105.md). -/
def effDetection (r : Radio) (x : Detect) (d : Dev) : Dev :=
  let p := d.phy.get r
  let byp : Bool := match p.rcp with
    | some y => y.bypass
    | none => p.cfg.bypassed x.power
  let ofdm := decide (p.rx = .settle ∧ 1 ≤ x.boundary ∧ x.boundary ≤ 8) && decide (sbyte p.cfg.det 16 ≤ x.power)
    && decide (bitsOf p.cfg.det 11 8 ≤ x.corr)
  let dsss := decide (r = .a) && decide (p.rx = .settle ∨ p.rx = .listen)
  if if x.dsss then dsss else ofdm then
    let d1 := if x.dsss then d else d.at_ (p.riseAt + 200 * x.boundary)
    let (b, l, v) := p.cfg.gain byp x.lna x.vga
    (d1.rxSet r .preamble (Reception.new x.start x.power b l v x.dsss false)).count (A.PHY.DET_CNT r)
  else d

/-- SETTLE_TIMEOUT: 6.4 µs without detection (R98). -/
def effSettleTimeout (r : Radio) (d : Dev) : Dev :=
  let p := d.phy.get r
  if p.rx = .settle then (d.at_ (p.riseAt + 1600)).rxListen r else d

/-- Abort the reception in PREAMBLE now, with what the guard recorded: lock to the latest recorded L-STF if it is at most
5.6 µs old, else LISTEN; confirmed ones that are not locked are counted as possible losses (R106, R107). -/
def Dev.guardAbort (d : Dev) (r : Radio) (recs : List GuardRec) (lna vga : Nat) : Dev :=
  let p := d.phy.get r
  let d1 := d.count (A.PHY.FALSESTART_CNT r)
  match recs.getLast? with
  | some g =>
    let lock := decide (d.tb ≤ g.start + 1400)
    let lost := (recs.filter (fun x => x.confirmed && !(lock && decide (x.start = g.start)))).length
    let d2 := d1.countN (A.PHY.FALSESTART_LOSS_EST r) lost
    let (b, l, v) := p.cfg.gain (p.cfg.bypassed g.power) lna vga
    if lock then d2.rxSet r .preamble (Reception.new g.start g.power b l v false true) else d2.rxListen r
  | none => d1.rxListen r

/-- A recorded L-STF is confirmed and rises RISE_DB above the reference (R106). -/
def riseOf (c : RxCfg) (ref : Int) (recs : List GuardRec) : Option GuardRec :=
  recs.find? (fun g => g.confirmed && decide (ref + (bitsOf c.det 3 0 : Nat) ≤ g.power))

/-- FALSESTART_ABORT: the guard's records so far, in order, and the gain it measured for the latest. On a DSSS reception the
record is a new SYNC, and the receiver returns to LISTEN (R100, R106). -/
def effFalsestartAbort (r : Radio) (recs : List GuardRec) (lna vga : Nat) (d : Dev) : Dev :=
  let p := d.phy.get r
  match p.rcp with
  | some x =>
    match riseOf p.cfg x.ref recs with
    | some g =>
      if p.rx ≠ .preamble ∨ !x.guardOpen then d
      else if x.dsss then (d.count (A.PHY.FALSESTART_CNT r)).rxListen r
      else (d.at_ (g.start + 400)).guardAbort r recs lna vga
    | none => d
  | none => d

/-- AFC_FREEZE: the estimate in 0.01 ppm, 16 µs after the detected L-STF start (R104). -/
def effAfcFreeze (r : Radio) (cfo : Int) (d : Dev) : Dev :=
  let p := d.phy.get r
  match p.rcp with
  | some x =>
    if p.rx ≠ .preamble ∨ x.dsss ∨ x.cfo.isSome then d
    else
      let d1 := d.at_ (x.start + usT 16)
      if 6000 < cfo.natAbs then (d1.rxListen r).count (A.PHY.CFO_REJECT_CNT r)
      else d1.rxSet r .preamble { x with cfo := some cfo }
  | none => d

/-- What the signal fields give of a PPDU: duration after L-SIG in µs, format, width, streams, MCS, GI, BSS color, users of a
trigger-based PPDU (R115, R117). -/
structure SigInfo where
  durUs : Nat
  fmt : Nat
  bw : Nat
  nss : Nat
  mcs : Nat
  gi : Nat
  color : Nat
  users : Nat
deriving DecidableEq, Repr

/-- Formats a radio receives (R115), by FORMAT code. -/
def rxFormats : Radio → List Nat
  | .a => [0, 1, 2, 4, 5, 6, 7, 8]
  | .b => [1, 2, 3, 4, 5, 6, 7, 8]
  | .c => [1, 4, 5, 6, 7, 8]

/-- The highest MCS received of a format (R115). -/
def rxMaxMcs (fmt : Nat) : Nat :=
  if fmt = 0 then 3 else if fmt = 1 then 7 else if fmt = 2 then 31 else if fmt = 3 then 9 else if fmt ≤ 6 then 11 else 13

/-- The guard intervals of a format: HT and VHT short or long, HE and EHT 0.8, 1.6 or 3.2 µs (R115). -/
def rxGi (fmt gi : Nat) : Bool :=
  if fmt < 2 then decide (gi = 3) else if fmt < 4 then decide (gi ≤ 1) else decide (gi ≤ 2)

/-- A PPDU lies within the decoder's limits (R115, R3). -/
def Dev.rxSupported (d : Dev) (r : Radio) (s : SigInfo) : Bool :=
  let tb := decide (s.fmt = 6 ∨ s.fmt = 8)
  (rxFormats r).contains s.fmt
    && decide (s.bw ≤ match r with
      | .a => 1
      | .b => 3
      | .c => if bitsOf d.mgt.otp.variant 19 16 < 4 then 3 else 4)
    && decide (s.nss ≤ min (if r = .a ∨ tb then 4 else 8) (d.chains r)) && decide (s.mcs ≤ rxMaxMcs s.fmt) && rxGi s.fmt s.gi
    && (!tb || decide (s.users ≤ maxRus r))

/-- The signal fields of a reception are noted. -/
def Reception.sig (x : Reception) (s : SigInfo) (end_ : Nat) : Reception :=
  { x with guardOpen := false, bodyEnd := end_, fmt := s.fmt, bw := s.bw, nss := s.nss, mcs := s.mcs, gi := s.gi,
           color := s.color }

/-- L_SIG_RESULT: 20 µs after the detected L-STF start. On failure the reception aborts with the guard's records; else it enters BODY,
and a PPDU the decoder does not receive goes on to HOLD (R96, R106, R107, R116). -/
def effLSigResult (r : Radio) (ok : Bool) (s : SigInfo) (recs : List GuardRec) (lna vga : Nat) (d : Dev) : Dev :=
  let p := d.phy.get r
  match p.rcp with
  | some x =>
    if p.rx ≠ .preamble ∨ x.dsss then d
    else
      let d1 := d.at_ (x.start + usT 20)
      if !ok then d1.guardAbort r recs lna vga
      else
        let y := x.sig s (x.start + usT (20 + s.durUs))
        let d2 := d1.rxSet r .body y
        if d1.rxSupported r s then d2 else (d2.rxSet r .hold { y with holdEnd := 3 }).count (A.PHY.UNSUPP_CNT r)
  | none => d

/-- DSSS_HEADER_RESULT: the PLCP header CRC, 96 or 192 µs after the preamble start (R100). -/
def effDsssHeaderResult (r : Radio) (ok short : Bool) (rate durUs : Nat) (cfo : Int) (d : Dev) : Dev :=
  let p := d.phy.get r
  match p.rcp with
  | some x =>
    if p.rx ≠ .preamble ∨ !x.dsss then d
    else
      let t := x.start + usT (if short then 96 else 192)
      let d1 := d.at_ t
      if !ok then (d1.count (A.PHY.FALSESTART_CNT r)).rxListen r
      else
        let s : SigInfo := { durUs := durUs, fmt := 0, bw := 0, nss := 0, mcs := rate % 4, gi := 3, color := 0, users := 0 }
        d1.rxSet r .body { x.sig s (t + usT durUs) with cfo := some cfo }
  | none => d

/-- SIG_FAIL: a later signal field fails; what it would have given is never decoded (R108, R117). -/
def effSigFail (r : Radio) (d : Dev) : Dev :=
  let p := d.phy.get r
  match p.rcp with
  | some x => if p.rx = .body ∧ !x.dsss then (d.rxSet r .hold { x with holdEnd := 2, bw := 0, nss := 0, mcs := 0, gi := 0, color := 0 }).count (A.PHY.SIG_FAIL_CNT r) else d
  | none => d

/-- OBSS_PD: an HE or EHT PPDU of another BSS below the OBSS-PD level, at the end of HE-SIG-A or U-SIG (R113). -/
def effObssPd (r : Radio) (rssi : Int) (d : Dev) : Dev :=
  let p := d.phy.get r
  match p.rcp with
  | some x =>
    let own := (d.mac.get r).bss.any (fun b => b.2.enable && decide (b.2.color = x.color))
    let lvl := sbyte p.cfg.obss 8
    if p.rx = .body ∧ bitOf p.cfg.obss 0 ∧ 4 ≤ x.fmt ∧ x.color ≠ 0 ∧ !own ∧ rssi < lvl then
      let d1 := (d.at_ (x.start + usT 32)).onMac r (fun m => { m with obss := some (lvl, x.bodyEnd) })
      (d1.rxListen r).count (A.PHY.OBSS_PD_CNT r)
    else d
  | none => d

/-! Clear channel assessment (R112) -/

/-- ED_BUSY_CHANGE: the power of a subchannel averaged over 4 µs. -/
def effEdBusyChange (r : Radio) (sub : Nat) (power : Int) (d : Dev) : Dev :=
  let p := d.phy.get r
  if p.rx = .off ∨ 2 ^ chanWidth (d.rfe.get r).tuned ≤ sub then d
  else
    let busy := decide (sbyte p.cfg.cca 0 ≤ power)
    d.onPhy r (fun p => { p with ed := if p.ed.testBit sub = busy then p.ed else if busy then p.ed + 2 ^ sub else p.ed - 2 ^ sub })

/-- SECONDARY_PD_DETECT: a preamble on a secondary subchannel, at or above PD_LVL, lasts what its L-SIG gives (R99, R112). -/
def effSecondaryPdDetect (r : Radio) (sub : Nat) (power : Int) (durUs : Nat) (d : Dev) : Dev :=
  let p := d.phy.get r
  let w := (d.rfe.get r).tuned
  if p.rx = .off ∨ 2 ^ chanWidth w ≤ sub ∨ sub = primIdx r w ∨ power < sbyte p.cfg.cca 8 then d
  else d.onPhy r (fun p => { p with pdSec := p.pdSec.filter (fun e => decide (d.tb < e.2)) ++ [(sub, d.tb + usT durUs)] })

/-- The subchannels of a block of a width around the primary, as bits of the channel. -/
def blockMask (r : Radio) (w : Word) (bw : Nat) : Nat :=
  let n := 2 ^ min bw (chanWidth w)
  maskAt (primIdx r w / n * n) n

/-- PD-busy subchannels now. -/
def Dev.pdBusy (d : Dev) (r : Radio) : Nat :=
  let p := d.phy.get r
  let w := (d.rfe.get r).tuned
  let own := match p.rx with
    | .preamble => blockMask r w 0
    | .body | .hold => blockMask r w (match p.rcp with
      | some x => x.bw
      | none => 0)
    | _ => 0
  p.pdSec.foldl (fun m e => if d.tb < e.2 then m ||| 2 ^ e.1 else m) own

/-- Subchannels busy by ED or PD; every one while CCA is not valid (R97, R112). -/
def Dev.ccaBusy (d : Dev) (r : Radio) : Nat :=
  let p := d.phy.get r
  if p.rx = .off then 2 ^ 2 ^ chanWidth (d.rfe.get r).tuned - 1 else p.ed ||| d.pdBusy r

/-! Radar (R114) -/

/-- RADAR_PULSE: subchannel, power in dBm, width in 25 ns. -/
def effRadarPulse (sub : Nat) (power : Int) (width : Nat) (d : Dev) : Dev :=
  let p := d.phy.b
  if !bitOf p.cfg.radar 0 ∨ p.rx = .off ∨ power < sbyte p.cfg.radar 8 then d
  else if 64 ≤ p.radar.length then d.count (A.PHY.RADAR_OVF_CNT .b)
  else
    let x : RadarPulse := { tb := d.tb % 2 ^ 32, subch := sub % 16, power := power, width := min 65535 width }
    (d.onPhy .b (fun p => { p with radar := p.radar ++ [x] })).follow (.phy .b) Cause.PHY.RADAR_PULSE true

/-- A read of RADAR_FIFO1 removes the oldest entry. -/
def Dev.radarPop (d : Dev) : Dev :=
  let d1 := d.onPhy .b (fun p => { p with radar := p.radar.drop 1 })
  d1.follow (.phy .b) Cause.PHY.RADAR_PULSE (!d1.phy.b.radar.isEmpty)

/-! The receive report (R117) -/

/-- Four bytes of a list in a word, the first lowest. -/
def byteWord (l : List Nat) (k : Nat) : Word :=
  wd ((List.range 4).foldl (fun n i => n + l.getD (4 * k + i) 0 % 256 * 256 ^ i) 0)

/-- The twelve words of a receive report. -/
def RxRep.words (x : RxRep) : List Word :=
  let ch := x.rssiCh.map (unsigned 8)
  [wd (x.endCode * 2 ^ 28 + x.fmt * 2 ^ 24 + x.bw * 2 ^ 20 + x.nss * 2 ^ 16 + x.mcs * 2 ^ 8 + x.gi * 2 ^ 6 + b2n x.ldpc * 32
     + b2n x.dup * 16 + b2n x.falseStart * 8),
   wd x.toa, wd (x.toa / 2 ^ 32), wd (unsigned 16 x.cfo * 2 ^ 16 + x.toaFrac % 65536), byteWord ch 0, byteWord ch 1,
   wd (x.bssColor % 64 * 2 ^ 26 + unsigned 8 x.rssi * 2 ^ 16 + b2n x.bypass * 128 + x.lna * 32 + x.vga),
   wd (x.punct % 65536 * 2 ^ 16 + x.user % 4096)] ++ (List.range 4).map (byteWord x.snr)

/-- The signal fields after L-SIG have been decoded by now: at the end of HE-SIG-A or U-SIG 32 µs after the L-STF start, of HT-SIG or
VHT-SIG-A at 28 µs; non-HT and DSSS have none (R113; notes/assumptions/106.md). -/
def Reception.decoded (x : Reception) (now : Nat) : Bool :=
  decide (x.dsss ∨ x.fmt < 2 ∨ x.start + usT (if x.fmt < 4 then 28 else 32) ≤ now)

/-- The report of a reception that ends with a code: what the receiver holds of it, with what was measured; each user of a
trigger-based PPDU has its own streams and MCS. For a code other than NORMAL no SNR is measured, and fields never decoded read 0;
absent and disabled chains report 0x80 (R117). `now`: when it ended. -/
def Dev.rxReport (d : Dev) (r : Radio) (x : Reception) (m : RxRep) (code now : Nat) : RxRep :=
  let tb := decide (x.fmt = 6 ∨ x.fmt = 8)
  let full := decide (code = 0 ∨ code = 3)
  let got := full || (decide (code ≠ 2) && x.decoded now)
  let keep (n : Nat) : Nat := if got then n else 0
  { m with endCode := code, fmt := if got || decide (code = 2) then x.fmt else 0, bw := keep x.bw, nss := keep (if tb then m.nss else x.nss),
           mcs := keep (if tb then m.mcs else x.mcs), gi := keep x.gi, falseStart := x.falseStart, ldpc := got && m.ldpc,
           dup := got && m.dup, punct := keep m.punct, user := if got then m.user else 0xFFF,
           cfo := x.cfo.getD 0, bypass := x.bypass, lna := x.lna, vga := x.vga, bssColor := keep x.color,
           rssiCh := (List.range 8).map (fun i => if (d.enabled r).contains i then m.rssiCh.getD i (-128) else -128),
           snr := if code = 0 then m.snr else List.replicate 16 0xFF }

/-- The end of a reception in BODY, with the signal extension of an OFDM PPDU on Radio A (R102). -/
def Reception.ends (x : Reception) (r : Radio) : Nat := x.bodyEnd + sigExt r x.fmt

/-- A reception in BODY or HOLD ends with a report and the receiver returns to LISTEN (R96, R102). -/
def Dev.rxFinish (d : Dev) (r : Radio) (code : Nat) : Dev :=
  (d.onPhy r (fun p => { p with lastEnd := some code })).rxListen r

/-- The oldest reception that was cut off, whose report is passed now (R111, R117). -/
def Dev.cutPass (d : Dev) (r : Radio) (hold : Bool) : Option (Cut × Dev) :=
  match (d.phy.get r).cuts with
  | c :: cs => if decide (c.rcp.holdEnd ≠ 0) = hold then some (c, d.onPhy r (fun p => { p with cuts := cs })) else none
  | [] => none

/-- A stronger PPDU takes the place of the weaker (R109): its start, power and gain. Answers the END the weaker reports; none
where there is nothing to overtake or it is suppressed (R110). -/
def Dev.overtake (d : Dev) (r : Radio) (start : Nat) (power : Int) (lna vga : Nat) : Dev × Option (Reception × Nat) :=
  let p := d.phy.get r
  match p.rcp with
  | some x =>
    if (p.rx ≠ .body ∧ p.rx ≠ .hold) ∨ x.dsss ∨ !bitOf p.cfg.ovt 0 ∨ power < x.ref + (bitsOf p.cfg.ovt 12 8 : Nat) then (d, none)
    else
      let d1 := d.at_ (start + 400)
      if (d.mac.get r).wait.isSome then (d1.count (A.PHY.OVT_SUPPR_CNT r), none)
      else
        let (b, l, v) := p.cfg.gain (p.cfg.bypassed power) lna vga
        let code := if p.rx = .hold then x.holdEnd else 1
        let d2 := (d1.onPhy r (fun p => { p with lastEnd := some code })).count (A.PHY.OVT_CNT r)
        (d2.rxSet r .preamble (Reception.new start power b l v false false), some (x, code))
  | none => (d, none)

/-! The PHY page -/

/-- The number of a receiver state (R96). -/
def RxState.code : RxState → Nat
  | .off => 0
  | .listen => 1
  | .settle => 2
  | .preamble => 3
  | .body => 4
  | .hold => 5

/-- The live registers of a PHY page. -/
def phyLive (r : Radio) (o : Nat) (d : Dev) : Option Word :=
  let p := d.phy.get r
  let w := (d.rfe.get r).tuned
  if o = 0x060 then
    let ref : Nat := match p.rcp with
      | some x => if p.rx = .settle then 0 else unsigned 8 x.ref
      | none => 0
    let g : Nat := match p.rcp with
      | some x => b2n x.guardOpen
      | none => 0
    some (wd (ref * 2 ^ 8 + b2n (decide (p.rx ≠ .off)) * 32 + b2n (d.mac.get r).wait.isSome * 16 + g * 8 + p.rx.code))
  else if o = 0x064 then
    let n := 2 ^ 2 ^ chanWidth w
    some (if p.rx = .off then 0 else wd (d.pdBusy r % n * 2 ^ 16 + p.ed % n))
  else if o = 0x080 ∧ r = .b then some (match p.radar with
    | x :: _ => wd x.tb
    | [] => 0)
  else if o = 0x084 ∧ r = .b then some (match p.radar with
    | x :: _ => wd (2 ^ 31 + x.subch * 2 ^ 24 + unsigned 8 x.power * 2 ^ 16 + x.width)
    | [] => 0)
  else if o = 0x098 then some (wd (p.cache.length * 2 ^ 16 + p.fb.length))
  else if 0x0A0 ≤ o ∧ o ≤ 0x0BC ∧ o % 4 = 0 then some (p.pwrLast.getD ((o - 0x0A0) / 4) 0x80008000)
  else none

end Sys2Proof.Machine
end

