-- ==== Sys2Proof/Machine/Pke.lean ====
section
/-! DEFINITION. The packet engine: parsing, bridging, routing, the flow table, the ACL, exceptions, holds, the sequencer and
its tables' commands (spec/12_packet_engine.md). -/

namespace Sys2Proof.Machine

/-! PARSE (R294) -/

/-- The TPIDs of a VLAN tag: that of 802.1Q, and the S-tag's (R294). -/
def Dev.isTag (d : Dev) (t : VTag) : Bool := decide (t.tpid = 0x8100) || decide (t.tpid = d.fld A.PKE.L2_CFG 15 0)

/-- The headers of a frame as PARSE sees them: up to two VLAN tags; behind anything else it finds neither IP nor ARP, and the
Ethertype is that of what stands there (R294; notes/assumptions/143.md). -/
def Dev.parse (d : Dev) (h : Hdr) : Hdr :=
  let tags := (h.tags.takeWhile d.isTag).take 2
  match h.tags.drop tags.length with
  | [] => h
  | t :: _ => { h with tags := tags, etype := t.tpid, ipver := 0, malformed := false, deep := false, options := false, proto := 0,
                       dscp := 0, tcpFlags := 0, frag := false, nonFirst := false, icmpError := false, icmpEcho := false,
                       ndTarget := none }

/-- The frame behind its edits: what PARSE took for payload is as it came. -/
def unparse (h view x : Hdr) : Hdr :=
  if view.tags.length = h.tags.length then x
  else { h with tags := x.tags ++ h.tags.drop view.tags.length, len := x.len, ipver := 0 }

/-! Ordering domains (R295) -/

/-- A frame is IP. -/
def Hdr.isIp (h : Hdr) : Bool := decide (h.ipver = 4 ∨ h.ipver = 6)

/-- The fields of a frame's domain key. -/
def domainFields (h : Hdr) (vlan : Nat) : List Nat :=
  if h.isIp then [h.ipver, h.proto, h.sip, h.dip, if h.nonFirst then 0 else h.sport, if h.nonFirst then 0 else h.dport, h.dscp]
  else [vlan, h.dst, h.src]

/-- The ordering domain: bits [11:0] of the CRC-32 of the domain key, whose byte layout the spec leaves open. -/
def domainOf (h : Hdr) (vlan : Nat) : Nat := (crc32 (Config.domainKey (domainFields h vlan))).toNat % 4096

/-! CLASSIFY (R297, R308) -/

/-- PORT_VLAN of a source. -/
def Dev.portVlan (d : Dev) (s : Nat) : PortVlan := (tabFind d.pke.portVlan s).getD PortVlan.reset

/-- A frame carries a VLAN tag with a VLAN ID. -/
def Hdr.vid (h : Hdr) : Nat :=
  match h.tags with
  | t :: _ => t.vid
  | [] => 0

/-- The VLAN of a radio's frame: its station's, else its BSS's (R297). -/
def Dev.radioVlan (d : Dev) (f : InFrame) : Nat :=
  let s := match f.sta with
    | some s => tabGet 0 d.pke.staVlan s
    | none => 0
  if s ≠ 0 then s else tabGet 0 d.pke.bssVlan (16 * (f.source - 11) + f.bss)

/-- The VLAN of a frame. -/
def Dev.vlanOf (d : Dev) (f : InFrame) : Nat :=
  if 11 ≤ f.source then d.radioVlan f
  else if f.hdr.vid = 0 then (d.portVlan f.source).pvid else f.hdr.vid

/-- ACCEPT and the membership of the source (R297). -/
def Dev.vlanOk (d : Dev) (f : InFrame) (v : Nat) : Bool :=
  let mode := (d.portVlan f.source).accept
  let tagged := decide (f.hdr.vid ≠ 0)
  match tabFind d.pke.vlans v with
  | none => false
  | some x =>
    if 11 ≤ f.source then x.bss.testBit (16 * (f.source - 11) + f.bss)
    else x.members.testBit f.source && (decide (mode = 0) || (decide (mode = 1) && tagged) || (decide (mode = 2) && !tagged))

/-- The DSCP and PCP maps; at reset DSCP d gives d >> 3 and PCP p gives p, all green (R308). -/
def Dev.dscpEnt (d : Dev) (k : Nat) : MapEnt := (tabFind d.pke.dscpMap k).getD { cls := k / 8, color := 0 }
def Dev.pcpEnt (d : Dev) (k : Nat) : MapEnt := (tabFind d.pke.pcpMap k).getD { cls := k, color := 0 }

/-- Class and input colour (R308). -/
def Dev.classify (d : Dev) (f : InFrame) : MapEnt :=
  if f.hdr.isIp then d.dscpEnt (f.hdr.dscp % 64)
  else match f.hdr.tags with
    | t :: _ => d.pcpEnt (t.pcp % 8)
    | [] => { cls := if 11 ≤ f.source then (if f.tid < 8 then f.tid else 0) else (d.portVlan f.source).cls, color := 0 }

/-! BRIDGE (R298, R299) -/

/-- The key of an L2 entry. -/
def l2Key (vlan mac : Nat) : Nat := vlan * 2 ^ 48 + mac

/-- A bucket of four holds this key's entries. -/
def Dev.l2Full (d : Dev) (k : Nat) : Bool :=
  decide (4 ≤ (d.pke.l2.filter (fun e => decide (Config.l2Hash e.1 16384 = Config.l2Hash k 16384))).length)

/-- Some bucket of the L2 table is full: the condition of L2_FULL. -/
def Dev.l2AnyFull (d : Dev) : Bool := d.pke.l2.any (fun e => d.l2Full e.1)

/-- L2_FULL ends when no bucket is full any more. -/
def Dev.l2Eased (d : Dev) : Dev :=
  if bitOf (d.blk .pke).cause Cause.PKE.L2_FULL && !d.l2AnyFull then d.lower .pke Cause.PKE.L2_FULL else d

/-- What a frame's source address is learned against: kind and index (R298). -/
def learnDest (f : InFrame) : Option (Nat × Nat) :=
  if f.source < 10 then some (0, f.source)
  else if f.source = 10 then some (2, 0)
  else f.sta.map (fun s => (1, s))

/-- A frame, an exception or a notice goes to a queue of H, with cells of its own (R310). -/
def Dev.noticeEntry (d : Dev) (r cls : Nat) (ws : List Word) : Entry :=
  { fid := d.tmg.nextFid, len := 4 * ws.length, color := 0, stamp := 0, inInk := false, writing := false, dram := 0,
    cells := cellsOf (4 * ws.length), share := 5, ingress := none,
    hdr := { len := 4 * ws.length, dst := 0, src := 0, tags := [], etype := 0, ipver := 0, malformed := false, deep := false,
             options := false, proto := 0, sip := 0, dip := 0, dscp := 0, ttl := 0, frag := false, nonFirst := false,
             sport := 0, dport := 0, tcpFlags := 0, icmpError := false, icmpEcho := false, ipSum := 0, l4Sum := 0,
             ndTarget := none },
    host := none, pin := none, setDscp := none, wl := Wl.plain,
    toHost := some { ToHost.plain with reason := r, cls := cls, time := d.tb, notice := some ws } }

/-- The next frame identity is taken. -/
def Dev.nextFid (d : Dev) : Dev := d.onTmg (fun t => { t with nextFid := t.nextFid + 1 })

/-- Fields of EXC_CFG_r (R310). -/
def Dev.excEn (d : Dev) (r : Nat) : Bool := d.bit (A.PKE.EXC_CFG r) 0
def Dev.excClass (d : Dev) (r : Nat) : Nat := d.fld (A.PKE.EXC_CFG r) 4 2
def Dev.excMeter (d : Dev) (r : Nat) : Option Nat :=
  if d.bit (A.PKE.EXC_CFG r) 5 then some (d.fld (A.PKE.EXC_CFG r) 27 16) else none

/-- A notice for the host: its record, queued to H (R310, R313). -/
def Dev.notice (d : Dev) (r : Nat) (ws : List Word) : Dev :=
  let d1 := d.count A.PKE.EXC_CNT
  if !d1.excEn r then d1.count A.PKE.DROP_EXC_CNT
  else
    let q := 8336 + d1.excClass r
    ((d1.nextFid.arrive q (d1.noticeEntry r (d1.excClass r) ws) (d1.excMeter r)).2).hostServe

/-- Learn a frame's source address in its VLAN; a learned entry's disuse ends whenever its source sends, LEARN or not (R298). -/
def Dev.learn (d : Dev) (f : InFrame) (vlan : Nat) : Dev :=
  let k := l2Key vlan f.hdr.src
  match tabFind d.pke.vlans vlan, learnDest f with
  | some v, some (kind, i) =>
    match tabFind d.pke.l2 k with
      | some e =>
        if e.static then d
        else if e.kind = kind ∧ e.index = i then d.onPke (fun p => { p with l2 := tabPut p.l2 k { e with used := d.tb } })
        else if !v.learn then d
        else
          let d1 := (d.onPke (fun p => { p with l2 := tabPut p.l2 k { e with kind := kind, index := i, used := d.tb } })).count
            A.PKE.L2_MOVE_CNT
          if e.kind = 1 then
            d1.notice 0x0F [wd f.hdr.src, wd (f.hdr.src / 2 ^ 32), wd vlan, wd e.index, wd (kind * 2 ^ 16 + i)]
          else d1
      | none =>
        if !v.learn then d
        else if d.l2Full k then (d.count A.PKE.L2_LEARN_FAIL_CNT).raise .pke Cause.PKE.L2_FULL
        else d.onPke (fun p => { p with l2 := tabPut p.l2 k { kind := kind, index := i, static := false, used := d.tb } })
  | _, _ => d

/-- Put a VLAN tag on a frame, or take its outer tag off, as the port's untagged set says (R299). -/
def Hdr.tagged (h : Hdr) (vlan cls : Nat) : Hdr :=
  match h.tags with
  | t :: ts => { h with tags := { t with vid := vlan } :: ts }
  | [] => { h with tags := [{ tpid := 0x8100, vid := vlan, pcp := cls }], len := h.len + 4 }
def Hdr.untagged (h : Hdr) : Hdr :=
  match h.tags with
  | _ :: ts => { h with tags := ts, len := h.len - 4 }
  | [] => h

/-- One destination of RESOLVE (R308). -/
def destTo (q : Nat) (h : Hdr) (meter : Option Nat) (color : Nat) (pin : Option Nat) (th : Option ToHost) : Dest :=
  { queue := q, hdr := h, meter := meter, color := color, pinPort := pin, toHost := th, setDscp := none }

/-- What a frame tells the host in its completion (R313). -/
def Dev.hostInfo (_d : Dev) (f : InFrame) (dom vlan reason cls : Nat) (token : Option Nat) : ToHost :=
  { reason := reason, cls := cls, source := f.source, domain := dom, vlan := vlan, token := token, time := f.time, notice := none }

/-- The destination of a port, a station or H in a VLAN (R299, R308). -/
def Dev.destFor (d : Dev) (f : InFrame) (dom vlan : Nat) (h : Hdr) (cls : Nat) (meter : Option Nat) (color kind i : Nat) : Dest :=
  let untag := match tabFind d.pke.vlans vlan with
    | some v => v.untagged.testBit i
    | none => false
  if kind = 0 then destTo (8256 + 8 * i + cls) (if untag then h.untagged else h.tagged vlan cls) meter color (some i) none
  else if kind = 1 then destTo (8 * i + cls) h.untagged meter color none none
  else destTo (8336 + cls) h meter color (some 10) (some (d.hostInfo f dom vlan 0 cls none))

/-- A group address. -/
def isGroup (mac : Nat) : Bool := mac.testBit 40

/-- The destinations of a flood: member ports and H other than the source, and the member BSSs' group queues (R299). -/
def Dev.flood_ (d : Dev) (f : InFrame) (dom vlan : Nat) (h : Hdr) (cls : Nat) (meter : Option Nat) (color : Nat) : List Dest :=
  match tabFind d.pke.vlans vlan with
  | none => []
  | some v =>
    let ports := ((List.range 10).filter (fun n => v.members.testBit n && decide (n ≠ f.source) && d.present (.eth n))).map
      (fun n => d.destFor f dom vlan h cls meter color 0 n)
    let toH := if v.floodH ∧ f.source ≠ 10 then [d.destFor f dom vlan h cls meter color 2 0] else []
    let bss := if v.isolate ∧ f.sta.isSome then []
      else ((List.range 48).filter (fun b => v.bss.testBit b)).map (fun b => destTo (8192 + b) h.untagged meter color none none)
    ports ++ toH ++ bss

/-- Where a bridged frame goes, and the counter that counts it when it goes nowhere (R299). -/
def Dev.bridge (d : Dev) (f : InFrame) (dom vlan : Nat) (cls color : Nat) : List Dest × Option Nat :=
  match (if isGroup f.hdr.dst then none else tabFind d.pke.l2 (l2Key vlan f.hdr.dst)) with
  | none => (d.flood_ f dom vlan f.hdr cls none color, none)
  | some e =>
    let isolated : Bool := match tabFind d.pke.vlans vlan with
      | some v => v.isolate
      | none => false
    let self := (decide (e.kind = 0) && decide (f.source = e.index)) || (decide (e.kind = 2) && decide (f.source = 10))
      || (decide (e.kind = 1) && decide (f.sta = some e.index))
    if self then ([], some A.PKE.DROP_SELF_CNT)
    else if e.kind = 1 ∧ f.sta.isSome ∧ isolated then ([], some A.PKE.DROP_ISOLATE_CNT)
    else ([d.destFor f dom vlan f.hdr cls none color e.kind e.index], none)

/-! ROUTE (R300 to R305) -/

/-- A valid L3 interface. -/
def Dev.iface (d : Dev) (i : Nat) : Option Iface := tabFind d.pke.ifaces i

/-- The interface a frame is routed on: that of its VLAN, when the destination MAC is its router MAC (R301). -/
def Dev.routedOn (d : Dev) (f : InFrame) (vlan : Nat) : Option Nat :=
  match tabFind d.pke.vlans vlan with
  | some v => match d.iface v.iface with
    | some x => if f.hdr.isIp ∧ v.iface ≠ 0xFF ∧ x.mac = f.hdr.dst then some v.iface else none
    | none => none
  | none => none

/-- The address is in the local-address table (R301, R51). -/
def Dev.isLocal (d : Dev) (kind a : Nat) : Bool := d.pke.locals.any (fun e => decide (e.2 = { kind := kind, addr := a }))
def Dev.localIp (d : Dev) (h : Hdr) (a : Nat) : Bool := d.isLocal (if h.ipver = 4 then 1 else 2) a

/-- The frame is ACP on an enabled port and carrier, and is consumed (R51). -/
def Dev.isAcp (d : Dev) (f : InFrame) : Bool :=
  let cfg := d.rd A.HCI.ACP_CFG
  let on := decide (f.source < 10) && (bitsOf cfg 21 12).testBit f.source
  on && ((bitOf cfg 0 && decide (f.hdr.etype = d.fld A.HCI.ACP_ADDR 15 0) && d.isLocal 0 f.hdr.dst)
    || (bitOf cfg 1 && decide (f.hdr.proto = 17) && f.hdr.isIp && !f.hdr.frag
        && decide (f.hdr.dport = d.fld A.HCI.ACP_ADDR 31 16) && d.localIp f.hdr f.hdr.dip))

/-- 224.0.0.0/24 and ff02::/16 (R301); any IP multicast. -/
def ctrlMcast (h : Hdr) : Bool := (decide (h.ipver = 4) && decide (h.dip / 256 = 0xE00000)) || (decide (h.ipver = 6) && decide (h.dip / 2 ^ 112 = 0xFF02))

/-- Flow lookup applies: TCP, UDP, ICMP echo, not a non-first fragment. -/
def Hdr.flowable (h : Hdr) : Bool := (decide (h.proto = 6 ∨ h.proto = 17) || h.icmpEcho) && !h.nonFirst

/-- The key of a frame on an interface (R303). -/
def keyOf (h : Hdr) (ifn : Nat) : FlowKey :=
  { proto := h.proto, v6 := decide (h.ipver = 6), iface := ifn, sip := h.sip, dip := h.dip, sport := h.sport,
    dport := if h.icmpEcho then 0 else h.dport }

/-- The bucket of a key, and its DRAM address (R302). -/
def FlowKey.fields (k : FlowKey) : List Nat := [k.proto, b2n k.v6, k.iface, k.sip, k.dip, k.sport, k.dport]
def FlowKey.bucket (k : FlowKey) : Nat := Config.flowHash k.fields 65536
def Dev.bucketAddr (d : Dev) (b : Nat) : Nat :=
  (d.rd A.PKE.FLOW_BASE_LO).toNat + 2 ^ 32 * (d.rd A.PKE.FLOW_BASE_HI).toNat + 256 * b

def Dev.flow (d : Dev) (k : FlowKey) : Option Flow := d.pke.flows.find? (fun x => decide (x.key = k))

/-- A bucket's four entries are lost: counted, a notice names the bucket, FLOW_LOST is set (R302). -/
def Dev.bucketLost (d : Dev) (b : Nat) : Dev :=
  let d1 := d.onPke (fun p => { p with flows := p.flows.filter (fun x => decide (x.key.bucket ≠ b)),
                                       flowCache := p.flowCache.filter (fun x => decide (x.bucket ≠ b)) })
  ((d1.count A.PKE.FLOW_POISON_CNT).notice 0x11 [wd b]).raise .pke Cause.PKE.FLOW_LOST

/-- A bucket read, which may meet poison (R302, R348). -/
def Dev.bucketRead (d : Dev) (b : Nat) : Dev :=
  if d.rangePoisoned (d.bucketAddr b) 256 then (d.count A.MEM.POISON_READ_CNT).bucketLost b else d

/-- A write of the PKE to a line that fails: its bucket is lost, as at a poisoned read of the line (R349). -/
def Dev.bucketWriteFailed (d : Dev) (addr : Nat) : Dev :=
  if d.bucketAddr 0 ≤ addr ∧ addr < d.bucketAddr 65536 then d.bucketLost ((addr - d.bucketAddr 0) / 256) else d

/-- A hit: counted in the entry and in FLOW_HIT_CNT; a TCP FIN or RST of a tracked flow lowers its limit (R302, R304). -/
def Dev.flowHit (d : Dev) (x : Flow) (h : Hdr) : Dev :=
  let close := d.fld A.PKE.FLOW_CFG 31 16
  let low := bitOf x.w10 4 && decide (h.proto = 6) && (h.tcpFlags.testBit 0 || h.tcpFlags.testBit 2)
    && (decide (x.idleS = 0) || decide (close < x.idleS))
  let y := { x with packets := (x.packets + 1) % 2 ^ 64, bytes := (x.bytes + h.len) % 2 ^ 64, used := d.tb,
                    idleS := if low then close else x.idleS }
  (d.onPke (fun p => { p with flows := p.flows.map (fun z => if z.key = x.key then y else z) })).count A.PKE.FLOW_HIT_CNT

/-- The checksum after an IPv4 address changes. -/
def csumAddr (hc a a' : Nat) : Nat := csum (csum hc (a / 65536) (a' / 65536)) a a'

/-- NAT44: rewrite the source, or the destination, address and port or ICMP identifier; checksums follow, and a UDP checksum
of 0 stays 0 (R305). -/
def nat44 (x : Flow) (h : Hdr) : Hdr :=
  let src := bitOf x.w10 2
  let dst := bitOf x.w10 3
  if !(src || dst) || decide (h.ipver ≠ 4) then h
  else
    let a := if src then h.sip else h.dip
    let p := if src || h.icmpEcho then h.sport else h.dport
    let p' := if x.natPort = 0 then p else x.natPort
    let l4 := if h.icmpEcho then csum h.l4Sum p p' else csum (csumAddr h.l4Sum a x.natAddr) p p'
    let h1 := { h with ipSum := csumAddr h.ipSum a x.natAddr,
                       l4Sum := if h.proto = 17 ∧ h.l4Sum = 0 then 0 else l4 }
    let h2 := if src then { h1 with sip := x.natAddr } else { h1 with dip := x.natAddr }
    if src || h.icmpEcho then { h2 with sport := p' } else { h2 with dport := p' }

/-- The longest matching prefix (R300). -/
def lpm (rs : List Route) (bits a : Nat) : Option Route :=
  rs.foldl (fun m r =>
    if a / 2 ^ (bits - r.len) = r.prefx / 2 ^ (bits - r.len) then
      match m with
      | some b => if b.len < r.len then some r else m
      | none => some r
    else m) none

/-! Decisions -/

/-- What the stages up to ROUTE decide for a frame: its destinations, or an exception; or it is dropped, with the counter;
or it is consumed; or it waits for its flow bucket. -/
inductive Decision where
  | go (ds : List Dest) (copy : Option Nat)
  | exc (reason : Nat)
  | drop (ctr : Option Nat)
  | wait (k : FlowKey)
deriving DecidableEq, Repr

/-- A routed frame's exit: next hop checks, MTU, edits, and the L2 entry of the next hop in the egress VLAN, or a flood of it
(R301 steps 7 and 8; notes/assumptions/44.md). -/
def Dev.routeVia (d : Dev) (f : InFrame) (dom nh : Nat) (h : Hdr) (cls : Nat) (meter : Option Nat) (color : Nat) : Decision :=
  match tabFind d.pke.nexthops nh with
  | none => .exc 0x07
  | some n =>
    if !n.resolved then .exc 0x08
    else match d.iface n.iface with
      | none => .exc 0x07
      | some x =>
        if x.mtu < h.len - 18 - 4 * h.tags.length then .exc 0x09
        else
          let ttl := h.ttl - 1
          let h1 := { h with dst := n.mac, src := x.mac, ttl := ttl,
                             ipSum := if h.ipver = 4 then csum h.ipSum (256 * h.ttl) (256 * ttl) else h.ipSum }
          match tabFind d.pke.l2 (l2Key x.vlan n.mac) with
          | some e => .go [d.destFor f dom x.vlan h1 cls meter color e.kind e.index] none
          | none => .go (d.flood_ { f with source := 14, sta := none } dom x.vlan h1 cls meter color) none

/-- The decisions of R301 after the flow lookup, with the entry it found. On a NAT_ZONE interface a fragment raises FRAG and a
lookup that misses FLOW_MISS; a packet that is neither has no lookup to miss and goes on to its prefix. -/
def Dev.afterFlow (d : Dev) (f : InFrame) (dom ifn : Nat) (cls color : Nat) (x : Option Flow) : Decision :=
  match x with
  | some x =>
    let act := bitsOf x.w10 1 0
    let c := if bitOf x.w11 16 then bitsOf x.w11 15 13 else cls
    let m := if bitOf x.w11 12 then some (bitsOf x.w11 11 0) else none
    if act = 1 then .drop none
    else if act = 2 then .exc 0x0D
    else d.routeVia f dom (bitsOf x.w10 27 16) (nat44 x f.hdr) c m color
  | none =>
    let natZone : Bool := match d.iface ifn with
      | some i => i.nat
      | none => false
    if natZone && (f.hdr.frag || f.hdr.flowable) then .exc (if f.hdr.frag then 0x0B else 0x0A)
    else
      let r := if f.hdr.ipver = 4 then lpm d.pke.routes4 32 f.hdr.dip else lpm d.pke.routes6 128 f.hdr.dip
      match r with
      | none => .exc 0x07
      | some r => d.routeVia f dom r.nh f.hdr cls none color

/-- The decisions of R301 for a routed frame, up to the flow lookup; `read`: its bucket has been read. -/
def Dev.route (d : Dev) (f : InFrame) (dom ifn : Nat) (cls color : Nat) (read : Bool) : Dev × Decision :=
  let h := f.hdr
  let natZone : Bool := match d.iface ifn with
    | some i => i.nat
    | none => false
  if d.localIp h h.dip then (d, .exc 0x01)
  else if h.malformed then (d, .exc 0x04)
  else if h.options then (d, .exc 0x05)
  else if h.ttl ≤ 1 then (d, .exc 0x06)
  else if h.icmpError ∧ natZone then (d, .exc 0x0C)
  else if !h.flowable then (d, d.afterFlow f dom ifn cls color none)
  else
    let k := keyOf h ifn
    if !d.bit A.PKE.FLOW_CFG 0 then
      (d.count A.PKE.FLOW_MISS_CNT, (d.count A.PKE.FLOW_MISS_CNT).afterFlow f dom ifn cls color none)
    else if read || d.pke.flowCache.contains k then
      match d.flow k with
      | some x =>
        let d1 := d.flowHit x h
        let cache := (k :: d1.pke.flowCache.filter (fun y => decide (y ≠ k))).take 32768
        (d1.onPke (fun p => { p with flowCache := cache }), d1.afterFlow f dom ifn cls color (some x))
      | none => (d.count A.PKE.FLOW_MISS_CNT, (d.count A.PKE.FLOW_MISS_CNT).afterFlow f dom ifn cls color none)
    else
      let d1 := d.count A.PKE.FLOW_CACHE_MISS_CNT
      if d1.serving then (d1, .wait k) else (d1, .drop (some A.PKE.DROP_FROZEN_CNT))

/-- The stages up to ROUTE (R294): PARSE, CLASSIFY, BRIDGE, ROUTE. `read`: the frame's flow bucket has been read, and learning
is done. -/
def Dev.decide_ (d : Dev) (f : InFrame) (dom vlan : Nat) (read : Bool) : Dev × Decision :=
  match f.direct with
  | some (n, c) => (d, .go [destTo (8256 + 8 * n + c) f.hdr none 0 (some n) none] none)
  | none =>
    if !d.vlanOk f vlan then (d, .drop (some A.PKE.DROP_VLAN_CNT))
    else
      let m := d.classify f
      let d1 := if read then d else d.learn f vlan
      if f.hdr.deep then (d1, .exc 0x12)
      else match (if ctrlMcast f.hdr then none else d1.routedOn f vlan) with
        | some i => d1.route f dom i m.cls m.color read
        | none =>
          let nd := match f.hdr.ndTarget with
            | some t => d1.isLocal 1 t || d1.isLocal 2 t
            | none => false
          if f.hdr.malformed then (d1, .exc 0x04)
          else if nd then (d1, .exc 0x02)
          else match d1.bridge f dom vlan m.cls m.color with
            | (_, some ctr) => (d1, .drop (some ctr))
            | (ds, none) => (d1, .go ds (if ctrlMcast f.hdr then some 0x03 else none))

/-! ACL (R306, R307) -/

/-- An address as the ACL compares it: an IPv4 address in the lowest-numbered word. -/
def aclAddr (h : Hdr) (a : Nat) : Nat := if h.ipver = 4 then a * 2 ^ 96 else if h.ipver = 6 then a else 0

/-- A field matches under its mask. -/
def maskEq (x v m : Nat) : Bool := decide (x &&& m = v &&& m)

/-- A rule matches a frame (R306). -/
def AclRule.hits (r : AclRule) (f : InFrame) (vlan : Nat) : Bool :=
  let w (i : Nat) := word r.words i
  let h := f.hdr
  let ver := bitsOf (w 0) 29 28
  let range (x : Word) (p : Nat) : Bool :=
    let lo := bitsOf x 15 0
    let hi := bitsOf x 31 16
    (decide (lo = 0) && decide (hi = 65535)) || (h.isIp && decide (h.proto = 6 ∨ h.proto = 17) && decide (lo ≤ p ∧ p ≤ hi))
  (decide (ver = 0) || (decide (ver = 1) && decide (h.ipver = 4)) || (decide (ver = 2) && decide (h.ipver = 6))
    || (decide (ver = 3) && !h.isIp))
  && maskEq f.source (bitsOf (w 1) 19 16) (bitsOf (w 1) 23 20)
  && maskEq vlan (bitsOf (w 2) 11 0) (bitsOf (w 2) 27 16)
  && maskEq h.etype (bitsOf (w 3) 15 0) (bitsOf (w 3) 31 16)
  && maskEq h.proto (bitsOf (w 4) 7 0) (bitsOf (w 4) 15 8)
  && maskEq h.dscp (bitsOf (w 4) 21 16) (bitsOf (w 4) 29 24)
  && maskEq h.tcpFlags (bitsOf (w 5) 7 0) (bitsOf (w 5) 15 8)
  && maskEq (aclAddr h h.sip) (ip6At r.words 6) (ip6At r.words 10)
  && maskEq (aclAddr h h.dip) (ip6At r.words 14) (ip6At r.words 18)
  && range (w 22) h.sport && range (w 23) h.dport

/-- The lowest-indexed valid rule that matches. -/
def Dev.aclRule (d : Dev) (f : InFrame) (vlan : Nat) : Option AclRule :=
  (d.pke.acl.find? (fun e => e.2.hits f vlan)).map (fun e => e.2)

/-- A destination's class: the last three bits of its queue; SET_CLASS moves it within its destination. -/
def Dest.withClass (x : Dest) (c : Nat) : Dest :=
  if (8192 ≤ x.queue ∧ x.queue < 8256) then x
  else { x with queue := x.queue / 8 * 8 + c, toHost := x.toHost.map (fun t => { t with cls := c }) }

/-! Exceptions and holds (R310 to R312) -/

/-- Redirects that hold by EXC_CFG_r.HOLD; copies and notices never do. -/
def Dev.excHolds (d : Dev) (r : Nat) : Bool := d.bit (A.PKE.EXC_CFG r) 1 && decide (r ≠ 0x03 ∧ r ≠ 0x0E ∧ r ≠ 0x0F ∧ r ≠ 0x10 ∧ r ≠ 0x11)

/-- The destination of an exception, or none when it is disabled (R310). -/
def Dev.excDest (d : Dev) (f : InFrame) (dom vlan r : Nat) (color : Nat) (token : Option Nat) : Option Dest :=
  if d.excEn r then
    some (destTo (8336 + d.excClass r) f.hdr (d.excMeter r) color (some 10)
      (some (d.hostInfo f dom vlan r (d.excClass r) token)))
  else none

/-- Count an exception, and one that is dropped (R310). -/
def Dev.excCount (d : Dev) (r : Nat) : Dev :=
  let d1 := d.count A.PKE.EXC_CNT
  if d1.excEn r then d1 else d1.count A.PKE.DROP_EXC_CNT

/-- A frame leaves its share without a destination. -/
def InFrame.ingress (f : InFrame) : Option (Nat × Nat) := if f.source < 10 then some (f.source, f.icls) else none
def Dev.dropFrame (d : Dev) (f : InFrame) : Dev := d.cellsFree f.share f.cells f.ingress

/-- The hold of a domain, if it is held. -/
def Dev.holdOf (d : Dev) (dom : Nat) : Option (Nat × Hold) := d.pke.holds.find? (fun e => decide (e.2.domain = dom))

/-- A frame enters its domain's hold list, in the host-and-exception share; it is dropped where the list is full or the share
has no cell (R311). -/
def Dev.enlist (d : Dev) (token : Nat) (h : Hold) (f : InFrame) : Dev :=
  let room := decide (f.share = 5) || d.inkRoom 5 f.cells
  if h.listed.length < d.fld A.PKE.HOLD_CFG 8 0 ∧ room then
    let d1 := if f.share = 5 then d else (d.dropFrame f).cellsTake 5 f.cells none
    d1.onPke (fun p => { p with holds := tabPut p.holds token { h with listed := h.listed ++ [{ f with share := 5 }] } })
  else (d.dropFrame f).count A.PKE.DROP_HOLD_CNT

/-- The condition of HOLD_FULL: 256 domains are held. -/
def Dev.holdFull (d : Dev) : Bool := decide (256 ≤ d.pke.holds.length)

/-- The ordering domain of a frame as it arrives (R294, R295). -/
def Dev.domainNow (d : Dev) (f : InFrame) : Nat :=
  let g := { f with hdr := d.parse f.hdr }
  domainOf g.hdr (d.vlanOf g)

/-- Open a hold for a redirect; later frames of the domain that are already inside or released go to its list (R311). The
token, or none where 256 domains are held. -/
def Dev.openHold (d : Dev) (f : InFrame) (dom : Nat) : Dev × Option Nat :=
  if d.holdFull then (((d.count A.PKE.HOLD_OVF_CNT).raise .pke Cause.PKE.HOLD_FULL), none)
  else
    let t := d.pke.nextToken
    let h : Hold := { domain := dom, frame := f, listed := [], due := d.tb + msT (d.fld A.PKE.HOLD_CFG 31 16) }
    let d1 := d.onPke (fun p => { p with holds := tabPut p.holds t h, nextToken := (t + 1) % 65536 })
    (d1, some t)

/-- A hold ends: the frames it listed, after the one that continues in its place, go ahead of every source (R312). -/
def Dev.endHold (d : Dev) (token : Nat) (cont : Option InFrame) : Dev :=
  match tabFind d.pke.holds token with
  | none => d
  | some h =>
    let d1 := d.onPke (fun p => { p with holds := tabDel p.holds token, released := p.released ++ cont.toList ++ h.listed })
    if d1.holdFull then d1 else d1.follow .pke Cause.PKE.HOLD_FULL false

/-- HOLD_TIMEOUT: acts as a discard (R312). -/
def effHoldTimeout (token : Nat) (d : Dev) : Dev :=
  match tabFind d.pke.holds token with
  | none => d
  | some h => ((d.at_ h.due).endHold token none).count A.PKE.HOLD_TIMEOUT_CNT

/-! The pipelines (R292 to R295) -/

/-- Apply the ACL to what was decided, count exceptions, open a hold: the frame's destinations, and its token (R307, R310,
R311). -/
def Dev.resolve (d : Dev) (f : InFrame) (dom vlan : Nat) (dec : Decision) : Dev × List Dest × Option Nat :=
  let m := d.classify f
  let rule := d.aclRule f vlan
  let w0 := match rule with
    | some r => word r.words 0
    | none => 0
  let act := bitsOf w0 15 12
  let one (d : Dev) (r : Nat) : Dev × List Dest × Option Nat :=
    let d1 := d.excCount r
    if d1.excEn r && d1.excHolds r then
      let (d2, t) := d1.openHold f dom
      (d2, (d2.excDest f dom vlan r m.color t).toList, t)
    else (d1, (d1.excDest f dom vlan r m.color none).toList, none)
  match dec with
  | .drop none => (d, [], none)
  | .drop (some c) => (d.count c, [], none)
  | .wait _ => (d, [], none)
  | dec =>
    if f.direct.isSome then
      (d, match dec with
        | .go ds _ => ds
        | _ => [], none)
    else if rule.isSome && decide (act = 1) then (d.count A.PKE.DROP_ACL_CNT, [], none)
    else if rule.isSome && decide (act = 2) then one d 0x0D
    else
      let (d1, ds, t) : Dev × List Dest × Option Nat := match dec with
        | .exc r =>
          let (d1, ds, t) := one d r
          (d1, ds.map (fun x => { x with setDscp := if bitOf w0 21 then some (bitsOf w0 27 22) else none }), t)
        | .go ds cp =>
          let mset := if bitOf w0 20 then (match rule with
            | some r => some (bitsOf (word r.words 1) 11 0)
            | none => none) else none
          let ds1 := ds.map (fun x =>
            let x1 := if bitOf w0 16 then x.withClass (bitsOf w0 19 17) else x
            { x1 with meter := if mset.isSome then mset else x1.meter,
                      setDscp := if bitOf w0 21 then some (bitsOf w0 27 22) else none })
          match cp with
          | some r => (d.excCount r, ds1 ++ (d.excDest f dom vlan r m.color none).toList, none)
          | none => (d, ds1, none)
        | _ => (d, [], none)
      if rule.isSome && decide (act = 3) then (d1.excCount 0x0E, ds ++ (d1.excDest f dom vlan 0x0E m.color none).toList, t)
      else (d1, ds, t)

/-- Replace a job of the PKE. -/
def Dev.setJob (d : Dev) (id : Nat) (g : PkeJob → PkeJob) : Dev :=
  d.onPke (fun p => { p with jobs := p.jobs.map (fun j => if j.frame.id = id then g j else j) })

/-- Decide a job whose turn in its domain has come; with a hold, the later frames of the domain move to its list (R311). -/
def Dev.decideJob (d : Dev) (j : PkeJob) (read : Bool) : Dev :=
  let f := { j.frame with hdr := j.view }
  let (d1, dec) := d.decide_ f j.domain j.vlan read
  match dec with
  | .wait k => d1.setJob j.frame.id (fun x => { x with waits := some k })
  | dec =>
    let (d2, ds, t) := d1.resolve f j.domain j.vlan dec
    let d3 := d2.setJob j.frame.id (fun x => { x with decided := true, waits := none, dests := ds, token := t })
    match t with
    | none => d3
    | some t =>
      let later := (d3.pke.jobs.dropWhile (fun x => decide (x.frame.id ≠ j.frame.id))).drop 1
      let mine := later.filter (fun x => decide (x.domain = j.domain))
      let rel := d3.pke.released.filter (fun x => decide (d3.domainNow x = j.domain))
      let d4 := d3.onPke (fun p => { p with
        jobs := p.jobs.filter (fun x => !(mine.any (fun y => decide (y.frame.id = x.frame.id)))),
        released := p.released.filter (fun x => decide (d3.domainNow x ≠ j.domain)) })
      (mine.map (fun x => x.frame) ++ rel).foldl (fun d f => match tabFind d.pke.holds t with
        | some h => d.enlist t h f
        | none => d) d4

/-- A job may be decided: no earlier frame of its domain is undecided. -/
def Dev.jobTurn (d : Dev) (j : PkeJob) : Bool :=
  (d.pke.jobs.takeWhile (fun x => decide (x.frame.id ≠ j.frame.id))).all (fun x => decide (x.domain ≠ j.domain) || x.decided)

/-- Decide the jobs of a domain that wait behind one that has just been decided. -/
def Dev.decideBehind (d : Dev) (dom : Nat) : Nat → Dev
  | 0 => d
  | fuel + 1 =>
    match d.pke.jobs.find? (fun j => decide (j.domain = dom) && !j.decided) with
    | none => d
    | some j => if j.waits.isSome then d else (d.decideJob j false).decideBehind dom fuel

/-- The arbiter's next frame: released frames first, then the sources round-robin (R292). -/
def Dev.arbiter (d : Dev) : Option (InFrame × Dev) :=
  match d.pke.released with
  | f :: rest => some (f, d.onPke (fun p => { p with released := rest }))
  | [] =>
    let order := (List.range 14).map (fun i => (d.pke.turn + i) % 14)
    match order.find? (fun s => decide (tabGet [] d.pke.waiting s ≠ [])) with
    | none => none
    | some s => match tabGet [] d.pke.waiting s with
      | f :: rest => some (f, (d.onPke (fun p => { p with waiting := tabSet [] p.waiting s rest, turn := (s + 1) % 14 })).count
          A.PKE.RX_FRAME_CNT)
      | [] => none

/-- PKE_ADMIT: the arbiter admits a frame; ACP is consumed, a frame of a held domain joins its list, any other is decided
when its turn in its domain comes (R292 to R295, R311, R51). -/
def effPkeAdmit (d : Dev) : Dev :=
  if !d.ready .pke || decide (1024 ≤ d.pke.jobs.length) then d
  else match d.arbiter with
    | none => d
    | some (f, d1) =>
      let g := { f with hdr := d1.parse f.hdr }
      if d1.isAcp g then d1.dropFrame f
      else
        let v := d1.vlanOf g
        let dom := domainOf g.hdr v
        match d1.holdOf dom with
        | some (t, h) => d1.enlist t h f
        | none =>
          let j : PkeJob := { frame := f, domain := dom, vlan := v, decided := false, waits := none, dests := [], token := none,
                              stuck := false, passed := false, view := g.hdr, due := d.tb + 100 }
          let d2 := d1.onPke (fun p => { p with jobs := p.jobs ++ [j] })
          if d2.jobTurn j then d2.decideJob j false else d2

/-- FLOW_BUCKET_READ_DONE: the bucket of a waiting frame has been read; the frame and those behind it go on (R302). -/
def effFlowBucketReadDone (id : Nat) (d : Dev) : Dev :=
  match d.pke.jobs.find? (fun j => decide (j.frame.id = id)) with
  | none => d
  | some j => match j.waits with
    | none => d
    | some k =>
      if !d.answers then d
      else
        let d1 := d.bucketRead k.bucket
        (d1.decideJob j true).decideBehind j.domain d1.pke.jobs.length

/-- A flow read that the controller answers FROZEN drops its frame (R302, R349). -/
def Dev.pkeFrozen (d : Dev) : Dev :=
  d.pke.jobs.foldl (fun d j =>
    if j.waits.isSome then
      let d1 := (d.setJob j.frame.id (fun x => { x with decided := true, waits := none, dests := [] })).count A.PKE.DROP_FROZEN_CNT
      d1.decideBehind j.domain d1.pke.jobs.length
    else d) d

/-! The sequencer (R295, R296) -/

/-- The entry of one destination; the first takes the frame's cells, each further copy takes cells of its own. -/
def Dev.destEntry (d : Dev) (j : PkeJob) (x : Dest) (first : Bool) : Entry :=
  let f := j.frame
  { fid := d.tmg.nextFid, len := x.hdr.len, color := x.color, stamp := 0, inInk := first, writing := false, dram := 0,
    cells := if first then f.cells else cellsOf x.hdr.len, share := f.share,
    ingress := if first && decide (f.share = 0) then f.ingress else none,
    hdr := unparse f.hdr j.view x.hdr, host := none,
    pin := x.pinPort.map (fun p => (j.domain, p)), setDscp := x.setDscp,
    wl := match qKind x.queue with
      | some (.sta s t) => { Wl.plain with sta := s, tid := t }
      | some (.group _ b) => { Wl.plain with sta := 0x7FF, bss := b }
      | _ => Wl.plain,
    toHost := x.toHost }

/-- The queue a domain's pin sends a frame to (R296). -/
def Dev.pinned (d : Dev) (j : PkeJob) (x : Dest) : Nat × Dev :=
  match x.pinPort with
  | some p =>
    let (q, n) := tabGet (0, 0) d.pke.pins (16 * j.domain + p)
    if 0 < n ∧ q ≠ x.queue then (q, d.count A.PKE.PIN_REDIRECT_CNT) else (x.queue, d)
  | none => (x.queue, d)

/-- Count a frame that its queue holds for its domain (R296). -/
def Dev.pinAdd (d : Dev) (j : PkeJob) (x : Dest) (q : Nat) : Dev :=
  match x.pinPort with
  | some p => d.onPke (fun k =>
      { k with pins := tabSet (0, 0) k.pins (16 * j.domain + p) (q, (tabGet (0, 0) k.pins (16 * j.domain + p)).2 + 1) })
  | none => d

/-- Hand the destinations of a job to the TMG in turn; a host frame its queue cannot admit stops there (R280). Answers the
destinations left. A held redirect that is dropped ends its hold (R312). -/
def Dev.handOff (d : Dev) (j : PkeJob) (first : Bool) : List Dest → Dev × List Dest × Bool
  | [] => (d, [], first)
  | x :: xs =>
    let (q, d1) := d.pinned j x
    let e := d1.destEntry j x first
    if j.frame.ring.isSome && !d1.hostAdmits q e && d1.qLinked q then (d, x :: xs, first)
    else
      let (ok, d2) := d1.nextFid.arrive q e (if j.frame.ring.isSome then none else x.meter)
      let d3 := if ok then (d2.pinAdd j x q).settle q
        else match x.toHost.bind (fun t => t.token) with
          | some t => d2.endHold t none
          | none => d2
      d3.handOff j false xs

/-- SEQUENCE_RELEASE: a decided frame that is the earliest of its domain is handed to the TMG, 0.4 µs after its admission at the
earliest (R293, R295). -/
def effSequenceRelease (id : Nat) (d : Dev) : Dev :=
  match d.pke.jobs.find? (fun j => decide (j.frame.id = id)) with
  | none => d
  | some j =>
    let earlier := (d.pke.jobs.takeWhile (fun x => decide (x.frame.id ≠ id))).any (fun x => decide (x.domain = j.domain))
    if earlier || !j.decided || !d.ready .tmg then d
    else
      let (d1, left, first) := (d.at_ j.due).handOff j (!j.passed) j.dests
      if left = [] then
        let d2 := d1.onPke (fun p => { p with jobs := p.jobs.filter (fun x => decide (x.frame.id ≠ id)) })
        if first && j.dests.isEmpty then d2.dropFrame j.frame else d2
      else d1.setJob id (fun x => { x with dests := left, stuck := true, passed := !first })

/-! Frames from the host (R314) -/

/-- The completion of a TYPE 0x30 entry. -/
def Dev.sendWords (d : Dev) (cookie : Word) (code : Nat) : List Word := [0x30, cookie, wd (d.status code)]

/-- A TYPE 0x30 entry: sent through the PKE or queued directly; with RELEASE it continues or discards a held domain.
`none`: it cannot be taken yet (R280, R312, R314). -/
def Dev.hostSend (d : Dev) (n : Nat) (ws : List Word) (h : Hdr) : Option Dev :=
  let w0 := word ws 0
  let direct := bitOf w0 8
  let release := bitOf w0 9
  let len := bitsOf w0 31 16
  let cookie := word ws 1
  let token := bitsOf (word ws 4) 15 0
  let port := bitsOf (word ws 4) 19 16
  let cls := bitsOf (word ws 4) 22 20
  let id := d.tmg.nextFid
  let stale := release && (tabFind d.pke.holds token).isNone
  let d0 := if stale then (d.nextFid.submitted n id).count A.PKE.HOLD_STALE_CNT else d.nextFid.submitted n id
  let done (d : Dev) (code : Nat) : Dev := d.complete n id (d.sendWords cookie code)
  let f : InFrame := { id := id, source := 10, hdr := { h with len := len + 4 }, time := d.tb, sta := none, tid := 0, bss := 0,
                       direct := if direct then some (port, cls) else none, cells := cellsOf (len + 4), share := 5, icls := 0,
                       ring := some n }
  let absent := direct && !d.present (.eth port)
  if release && decide (len = 0) && !absent then some (done (d0.endHold token none) RC.OK)
  else if !(release && decide (len = 0))
      && outside len 60 ((if direct && !absent then d.fld (A.ETH.MAX_FRAME port) 13 0 else 10240) - 4) then
    some (done d0 RC.BAD_LENGTH)
  else if absent then some (done d0 RC.ABSENT)
  else if !d.inkRoom 5 f.cells then none
  else
    let d1 := (d0.cellsTake 5 f.cells none)
    match (if release then tabFind d1.pke.holds token else none) with
    | some x =>
      let g := { f with source := x.frame.source, sta := x.frame.sta, bss := x.frame.bss, tid := x.frame.tid,
                        direct := none, ring := none }
      some (done (d1.endHold token (some g)) RC.OK)
    | none => some (done (d1.onPke (fun p => { p with waiting := tabPut p.waiting 10 (tabGet [] p.waiting 10 ++ [f]) })) RC.OK)

/-- H_BUFFER_POST: a TYPE 0x40 entry (R313). -/
def Dev.hostPost (d : Dev) (n : Nat) (ws : List Word) : Dev :=
  let id := d.tmg.nextFid
  let b : HostBuf := { ring := n, cookie := word ws 1, size := bitsOf (word ws 0) 31 16, buf := pair ws 2, sid := id }
  ((d.nextFid.submitted n id).onPke (fun p => { p with hBufs := p.hBufs ++ [b] })).hostServe

/-! Timed events -/

/-- FLOW_SCAN: a flow idle for its limit is removed, and the host is told its key and counts; the scanner stops while the
controller is not serving (R304). -/
def FlowKey.toWords (k : FlowKey) : List Word :=
  let addr (a : Nat) : List Word := if k.v6 then [wd (a / 2 ^ 96), wd (a / 2 ^ 64), wd (a / 2 ^ 32), wd a] else [wd a, 0, 0, 0]
  [wd (k.proto + 2 ^ 8 * b2n k.v6 + 2 ^ 16 * k.iface)] ++ addr k.sip ++ addr k.dip ++ [wd (k.sport + 2 ^ 16 * k.dport)]
def two64 (n : Nat) : List Word := [wd n, wd (n / 2 ^ 32)]
def Dev.flowDrop (d : Dev) (k : FlowKey) : Dev :=
  d.onPke (fun p => { p with flows := p.flows.filter (fun x => decide (x.key ≠ k)),
                             flowCache := p.flowCache.filter (fun x => decide (x ≠ k)) })
def effFlowScan (k : FlowKey) (d : Dev) : Dev :=
  match d.flow k with
  | none => d
  | some x =>
    if x.idleS = 0 ∨ !d.serving then d
    else
      let d1 := (d.at_ (x.used + sT x.idleS)).flowDrop k
      d1.notice 0x10 (k.toWords ++ two64 x.packets ++ two64 x.bytes)

/-- L2_AGE_OUT: a learned entry no frame has carried as its source for AGE_S (R298). -/
def effL2AgeOut (vlan mac : Nat) (d : Dev) : Dev :=
  let age := d.fld A.PKE.L2_CFG 31 16
  match tabFind d.pke.l2 (l2Key vlan mac) with
  | none => d
  | some e =>
    if e.static ∨ age = 0 then d
    else ((d.at_ (e.used + sT age)).onPke (fun p => { p with l2 := tabDel p.l2 (l2Key vlan mac) })).l2Eased

/-! Commands of the PKE page (R315) -/

/-- A command that inserts: BUSY carries DETAIL 1 (R315). -/
def cmdIns (d : Dev) (cs : List (Bool × Nat)) (eff : Dev × List Word) : Dev × Ans :=
  let r := cmdIf d cs eff
  if r.2.code = RC.BUSY then (r.1, { r.2 with detail := 1 }) else r

/-- L2_SET (R315). -/
def cmdL2Set (ws : List Word) (d : Dev) : Dev × Ans :=
  let w := word ws 0
  let k := l2Key (bitsOf w 11 0) (macAt ws 1)
  let kind := bitsOf w 15 14
  let i := bitsOf w 26 16
  let e : L2Ent := { kind := kind, index := i, static := bitOf w 13, used := d.tb }
  let old := tabFind d.pke.l2 k
  let bad := decide (kind = 3) || (decide (kind = 0) && decide (9 < i)) || (decide (kind = 1) && decide (1023 < i))
    || (decide (kind = 2) && decide (i ≠ 0))
  cmdIns d [(decide (ws.length ≠ 3), RC.BAD_LENGTH), (decide (kind = 0) && decide (i < 10) && !d.present (.eth i), RC.ABSENT),
            (!bitOf w 12 && old.isNone, RC.NOT_IN_STATE),
            (extra w 0x07FFFFFF || extra (word ws 2) 0xFFFF || (bitOf w 12 && bad), RC.BAD_VALUE),
            (bitOf w 12 && old.isNone && d.l2Full k, RC.BUSY)]
    (if bitOf w 12 then d.onPke (fun p => { p with l2 := tabPut p.l2 k e })
     else (d.onPke (fun p => { p with l2 := tabDel p.l2 k })).l2Eased, [])

/-- VLAN_SET (R315). -/
def cmdVlanSet (ws : List Word) (d : Dev) : Dev × Ans :=
  let w := word ws 0
  let v : Vlan := { learn := bitOf w 13, isolate := bitOf w 14, floodH := bitOf w 15, iface := bitsOf w 23 16,
                    members := bitsOf (word ws 1) 10 0, untagged := bitsOf (word ws 1) 25 16,
                    bss := (word ws 2).toNat + 2 ^ 32 * bitsOf (word ws 3) 15 0 }
  let absent := (List.range 10).any (fun n => (v.members.testBit n || v.untagged.testBit n) && !d.present (.eth n))
  cmdIf d [(decide (ws.length ≠ 4), RC.BAD_LENGTH), (absent, RC.ABSENT),
           (extra w 0x00FFFFFF || extra (word ws 1) 0x03FF07FF || extra (word ws 3) 0xFFFF, RC.BAD_VALUE)]
    (d.onPke (fun p => { p with vlans := if bitOf w 12 then tabPut p.vlans (bitsOf w 11 0) v else tabDel p.vlans (bitsOf w 11 0) }), [])

/-- PORT_VLAN (R297). -/
def cmdPortVlan (ws : List Word) (d : Dev) : Dev × Ans :=
  let w := word ws 0
  let s := bitsOf w 3 0
  cmdIf d [(decide (ws.length ≠ 1), RC.BAD_LENGTH), (decide (s < 10) && !d.present (.eth s), RC.ABSENT),
           (extra w 0x0073FFFF || decide (10 < s) || decide (bitsOf w 17 16 = 3), RC.BAD_VALUE)]
    (d.onPke (fun p => { p with portVlan := tabPut p.portVlan s { pvid := bitsOf w 15 4, accept := bitsOf w 17 16, cls := bitsOf w 22 20 } }), [])

/-- BSS_VLAN (R297). -/
def cmdBssVlan (ws : List Word) (d : Dev) : Dev × Ans :=
  let w := word ws 0
  cmdIf d [(decide (ws.length ≠ 1), RC.BAD_LENGTH), (extra w 0x0FFF00F3 || decide (bitsOf w 1 0 = 3), RC.BAD_VALUE)]
    (d.onPke (fun p => { p with bssVlan := tabSet 0 p.bssVlan (16 * bitsOf w 1 0 + bitsOf w 7 4) (bitsOf w 27 16) }), [])

/-- STA_VLAN (R297). -/
def cmdStaVlan (ws : List Word) (d : Dev) : Dev × Ans :=
  let w := word ws 0
  cmdIf d [(decide (ws.length ≠ 1), RC.BAD_LENGTH), (extra w 0x0FFF07FF || decide (1023 < bitsOf w 10 0), RC.BAD_VALUE)]
    (d.onPke (fun p => { p with staVlan := tabSet 0 p.staVlan (bitsOf w 10 0) (bitsOf w 27 16) }), [])

/-- IF_SET (R300). -/
def cmdIfSet (ws : List Word) (d : Dev) : Dev × Ans :=
  let w := word ws 0
  let x : Iface := { nat := bitOf w 9, vlan := bitsOf w 27 16, mac := macAt ws 1, mtu := bitsOf (word ws 3) 13 0 }
  cmdIf d [(decide (ws.length ≠ 4), RC.BAD_LENGTH),
           (extra w 0x0FFF03FF || extra (word ws 2) 0xFFFF || extra (word ws 3) 0x3FFF
             || (bitOf w 8 && outside x.mtu 576 9216), RC.BAD_VALUE)]
    (d.onPke (fun p => { p with ifaces := if bitOf w 8 then tabPut p.ifaces (bitsOf w 7 0) x else tabDel p.ifaces (bitsOf w 7 0) }), [])

/-- NH_SET (R300). -/
def cmdNhSet (ws : List Word) (d : Dev) : Dev × Ans :=
  let w := word ws 0
  let x : NextHop := { resolved := bitOf w 13, iface := bitsOf w 23 16, mac := macAt ws 1 }
  cmdIf d [(decide (ws.length ≠ 3), RC.BAD_LENGTH), (extra w 0x00FF3FFF || extra (word ws 2) 0xFFFF, RC.BAD_VALUE)]
    (d.onPke (fun p => { p with nexthops := if bitOf w 12 then tabPut p.nexthops (bitsOf w 11 0) x else tabDel p.nexthops (bitsOf w 11 0) }), [])

/-- The prefix of a ROUTE command: its bits per address, length and value; and whether R315 refuses it. -/
def routeOf (ws : List Word) : Bool × Nat × Nat × Bool :=
  let w := word ws 0
  let v6 := bitOf w 8
  let len := bitsOf w 7 0
  let p := if v6 then ip6At ws 1 else (word ws 1).toNat
  let bits := if v6 then 128 else 32
  (v6, len, p, decide (bits < len) || decide (p % 2 ^ (bits - len) ≠ 0)
    || (!v6 && decide (word ws 2 ≠ 0 ∨ word ws 3 ≠ 0 ∨ word ws 4 ≠ 0)))

/-- ROUTE_ADD (R315). -/
def cmdRouteAdd (ws : List Word) (d : Dev) : Dev × Ans :=
  let (v6, len, p, bad) := routeOf ws
  let rs := if v6 then d.pke.routes6 else d.pke.routes4
  let r : Route := { prefx := p, len := len, nh := bitsOf (word ws 0) 27 16 }
  let same (x : Route) : Bool := decide (x.prefx = p ∧ x.len = len)
  let rs' := if rs.any same then rs.map (fun x => if same x then r else x) else rs ++ [r]
  cmdIns d [(decide (ws.length ≠ 5), RC.BAD_LENGTH), (extra (word ws 0) 0x0FFF01FF || bad, RC.BAD_VALUE),
            (!rs.any same && decide ((if v6 then 8192 else 16384) ≤ rs.length), RC.BUSY)]
    (d.onPke (fun k => if v6 then { k with routes6 := rs' } else { k with routes4 := rs' }), [])

/-- ROUTE_DEL (R315). -/
def cmdRouteDel (ws : List Word) (d : Dev) : Dev × Ans :=
  let (v6, len, p, bad) := routeOf ws
  let rs := if v6 then d.pke.routes6 else d.pke.routes4
  let same (x : Route) : Bool := decide (x.prefx = p ∧ x.len = len)
  let rs' := rs.filter (fun x => !same x)
  cmdIf d [(decide (ws.length ≠ 5), RC.BAD_LENGTH), (extra (word ws 0) 0x0FFF01FF || bad, RC.BAD_VALUE),
           (!rs.any same, RC.NOT_IN_STATE)]
    (d.onPke (fun k => if v6 then { k with routes6 := rs' } else { k with routes4 := rs' }), [])

/-- The key of a FLOW command (R303, R498). -/
def flowKeyOf (ws : List Word) : FlowKey :=
  let w := word ws 0
  let v6 := bitOf w 8
  { proto := bitsOf w 7 0, v6 := v6, iface := bitsOf w 23 16,
    sip := if v6 then ip6At ws 1 else (word ws 1).toNat, dip := if v6 then ip6At ws 5 else (word ws 5).toNat,
    sport := bitsOf (word ws 9) 15 0, dport := bitsOf (word ws 9) 31 16 }

/-- A FLOW key's words that must be 0 hold something. -/
def flowKeyBad (ws : List Word) : Bool :=
  extra (word ws 0) 0x00FF01FF
    || (!bitOf (word ws 0) 8 && [2, 3, 4, 6, 7, 8].any (fun i => decide (word ws i ≠ 0)))

/-- FLOW_ADD: the bucket is read first, so a poisoned one loses its entries; its lines are then written whole (R302, R303,
R305). -/
def cmdFlowAdd (ws : List Word) (d : Dev) : Dev × Ans :=
  let k := flowKeyOf ws
  let w10 := word ws 10
  let x : Flow := { key := k, w10 := w10, w11 := word ws 11, natAddr := (word ws 12).toNat, natPort := bitsOf (word ws 13) 15 0,
                    idleS := bitsOf (word ws 13) 31 16, packets := 0, bytes := 0, used := d.tb }
  let nat := bitOf w10 2 || bitOf w10 3
  let d1 := d.bucketRead k.bucket
  let others := d1.pke.flows.filter (fun y => decide (y.key ≠ k))
  let full := decide (4 ≤ (others.filter (fun y => decide (y.key.bucket = k.bucket))).length)
  let d2 := (d1.flowDrop k).onPke (fun p => { p with flows := p.flows ++ [x] })
  let d3 := (List.range 4).foldl (fun d i => d.setPoison (d.bucketAddr k.bucket + 64 * i) false) d2
  let r := cmdIns d [(decide (ws.length ≠ 14), RC.BAD_LENGTH),
            (flowKeyBad ws || extra w10 0x0FFF001F || extra (word ws 11) 0x1FFFF || decide (bitsOf w10 1 0 = 3)
              || (bitOf w10 2 && bitOf w10 3) || (nat && k.v6), RC.BAD_VALUE),
            (!d.serving, RC.FROZEN), (full, RC.BUSY)] (d3, [])
  if r.2.code = RC.BUSY then (d1, r.2) else r

/-- FLOW_DEL (R303, R315). -/
def cmdFlowDel (ws : List Word) (d : Dev) : Dev × Ans :=
  let k := flowKeyOf ws
  let d1 := d.bucketRead k.bucket
  let r := cmdIf d [(decide (ws.length ≠ 10), RC.BAD_LENGTH), (flowKeyBad ws, RC.BAD_VALUE), (!d.serving, RC.FROZEN)] (d1.flowDrop k, [])
  if r.2.code = RC.OK ∧ (d1.flow k).isNone then (d1, Ans.err RC.NOT_IN_STATE) else r

/-- FLOW_GET: the entry as FLOW_ADD gave it, then its packet and byte counts (R303). -/
def cmdFlowGet (ws : List Word) (d : Dev) : Dev × Ans :=
  let k := flowKeyOf ws
  let d1 := d.bucketRead k.bucket
  let r := cmdIf d [(decide (ws.length ≠ 10), RC.BAD_LENGTH), (flowKeyBad ws, RC.BAD_VALUE), (!d.serving, RC.FROZEN)]
    (d1, match d1.flow k with
      | some x => k.toWords ++ [x.w10, x.w11, wd x.natAddr, wd (x.natPort + 2 ^ 16 * x.idleS)] ++ two64 x.packets ++ two64 x.bytes
      | none => [])
  if r.2.code = RC.OK ∧ (d1.flow k).isNone then (d1, Ans.err RC.NOT_IN_STATE) else r

/-- ACL_SET (R306). -/
def cmdAclSet (ws : List Word) (d : Dev) : Dev × Ans :=
  let w := word ws 0
  let i := bitsOf w 10 0
  cmdIf d [(decide (ws.length ≠ 24), RC.BAD_LENGTH),
           (extra w 0x3FFFFFFF || decide (3 < bitsOf w 15 12) || extra (word ws 1) 0x00FF0FFF || extra (word ws 2) 0x0FFF0FFF
             || extra (word ws 4) 0x3F3FFFFF || extra (word ws 5) 0xFFFF, RC.BAD_VALUE)]
    (d.onPke (fun p => { p with acl := if bitOf w 11 then tabPut p.acl i { words := ws } else tabDel p.acl i }), [])

/-- LOCAL_SET (R315). -/
def cmdLocalSet (ws : List Word) (d : Dev) : Dev × Ans :=
  let w := word ws 0
  let kind := bitsOf w 7 6
  let a := if kind = 0 then macAt ws 1 else if kind = 1 then (word ws 1).toNat else ip6At ws 1
  cmdIf d [(decide (ws.length ≠ 5), RC.BAD_LENGTH), 
           (extra w 0xFF || decide (kind = 3) || (decide (kind = 0) && extra (word ws 2) 0xFFFF)
             || (decide (kind = 1) && decide (word ws 2 ≠ 0)) || (decide (kind ≠ 2) && decide (word ws 3 ≠ 0 ∨ word ws 4 ≠ 0)),
            RC.BAD_VALUE)]
    (d.onPke (fun p => { p with locals := if bitOf w 5 then tabPut p.locals (bitsOf w 4 0) { kind := kind, addr := a }
                                          else tabDel p.locals (bitsOf w 4 0) }), [])

/-- MAP_SET (R308). -/
def cmdMapSet (ws : List Word) (d : Dev) : Dev × Ans :=
  let w := word ws 0
  let pcp := bitOf w 6
  let i := bitsOf w 5 0
  let e : MapEnt := { cls := bitsOf w 10 8, color := bitsOf w 13 12 }
  cmdIf d [(decide (ws.length ≠ 1), RC.BAD_LENGTH), (extra w 0x377F || (pcp && decide (7 < i)) || decide (e.color = 3), RC.BAD_VALUE)]
    (d.onPke (fun p => if pcp then { p with pcpMap := tabPut p.pcpMap i e } else { p with dscpMap := tabPut p.dscpMap i e }), [])

/-- L2_FLUSH (R315). -/
def cmdL2Flush (ws : List Word) (d : Dev) : Dev × Ans :=
  let w := word ws 0
  let d1 := d.onPke (fun p => { p with l2 := p.l2.filter (fun e =>
    e.2.static || (!bitOf w 12 && decide (e.1 / 2 ^ 48 ≠ bitsOf w 11 0))) })
  cmdIf d [(decide (ws.length ≠ 1), RC.BAD_LENGTH), (extra w 0x1FFF, RC.BAD_VALUE)] (d1.l2Eased, [])

/-! The PKE page -/

/-- What a write of a PKE register meets besides its fields' ranges: the flow base while FLOW_CFG.EN is 1; AGE_S is 0 or at
least 10. -/
def pkePre (o : Nat) (v : Word) (d : Dev) : List (Bool × Nat) :=
  if o = 0x040 ∨ o = 0x044 then [(d.bit A.PKE.FLOW_CFG 0, RC.NOT_IN_STATE)]
  else if o = 0x04C then [(decide (0 < bitsOf v 31 16 ∧ bitsOf v 31 16 < 10), RC.BAD_VALUE)]
  else []

/-- The live register of the PKE page (R293). -/
def pkeLive (o : Nat) (d : Dev) : Option Word :=
  if o = 0x058 then some (wd (min 1024 d.pke.jobs.length * 2 ^ 16 + min 256 d.pke.holds.length)) else none

end Sys2Proof.Machine
end

