-- ==== Sys2Proof/Machine/Mld.lean ====
section
/-! DEFINITION. Multi-link operation: AP MLDs, stations, agreements, the reorder buffers and their release, quiesce
(spec/07 R169 to R173, R180 to R185; spec/06 R149). -/

namespace Sys2Proof.Machine

/-- The access category of a TID: 0 BE, 1 BK, 2 VI, 3 VO (R132). -/
def acOf (tid : Nat) : Nat :=
  if tid = 1 ∨ tid = 2 then 1 else if tid = 0 ∨ tid = 3 then 0 else if tid = 4 ∨ tid = 5 then 2 else 3

/-! The reorder buffer (R182, R183) -/

/-- Distance of an SN ahead of another, modulo 4,096. -/
def snDist (a b : Nat) : Nat := (b + 4096 - a % 4096) % 4096

/-- The PKE source that takes an MSDU: the receiving radio's, unless an earlier MSDU of the same station and TID still waits in
another radio's; then that one, so that they enter in sequence order (R17, R22; notes/assumptions/69.md). -/
def Dev.pkeSource (d : Dev) (f : InFrame) : Nat :=
  match f.sta with
  | some s => ([11, 12, 13].find? (fun k => (tabGet [] d.pke.waiting k).any (fun g =>
      decide (g.sta = some s ∧ g.tid = f.tid)))).getD f.source
  | none => f.source

/-- Hand an MSDU to the PKE (R17, R292). -/
def Dev.toPke (d : Dev) (f : InFrame) : Dev :=
  let k := d.pkeSource f
  let g : InFrame := { f with id := d.tmg.nextFid, source := k }
  (d.nextFid).onPke (fun p => { p with waiting := tabSet [] p.waiting k (tabGet [] p.waiting k ++ [g]) })

/-- An MSDU is lost: its cells are free. -/
def Dev.rxDrop (d : Dev) (f : InFrame) : Dev := d.cellsFree f.share f.cells none

/-- The replay check of an MPDU under a pairwise slot: passed with the PN stored, or rejected and counted on the radio that
received it (R149). -/
def Dev.replay (d : Dev) (slot : Option Nat) (t pn link : Nat) : Bool × Dev :=
  match slot.bind (fun k => (d.keySlot k).map (fun x => (k, x))) with
  | none => (true, d)
  | some (k, x) =>
    let i := if 0x800 ≤ k then 0 else t
    if pn ≤ x.rxPn.getD i 0 then (false, d.count (A.MAC.REPLAY_CNT (Radio.ofNum link)))
    else (true, d.onMld (fun m => { m with keys := tabPut m.keys k { x with rxPn := x.rxPn.set i pn } }))

/-- An SN has been received and released: a BlockAck still acknowledges it (R140). -/
def StaTid.rxDone (x : StaTid) (sn : Nat) : StaTid := { x with done := (sn :: x.done.filter (fun k => decide (k ≠ sn))).take 1024 }

/-- Release one held MPDU to the PKE, or discard it as a replay (R149, R182). -/
def Dev.rxRelease (d : Dev) (t : Nat) (h : RxHeld) : Dev :=
  match d.replay h.slot t h.pn h.link with
  | (true, d1) => d1.toPke h.frame
  | (false, d1) => d1.rxDrop h.frame

/-- The SNs at the window start that have been received are released, in order, up to the first hole; `fuel` positions. -/
def Dev.rxRun (d : Dev) (s t : Nat) : Nat → Dev
  | 0 => d
  | fuel + 1 =>
    let x := d.staTid s t
    let sn := x.rxStart
    if x.seen.contains sn then
      match x.held.find? (fun h => decide (h.sn = sn)) with
      | some h =>
        let d1 := d.setStaTid s t { x with rxStart := (sn + 1) % 4096, seen := x.seen.filter (fun k => decide (k ≠ sn)),
                                           held := x.held.filter (fun k => decide (k.sn ≠ sn)) }
        ((d1.setStaTid s t ((d1.staTid s t).rxDone sn)).rxRelease t h).rxRun s t fuel
      | none => d
    else d

/-- Pass every SN below one: holes are passed, held MPDUs are released in order. Answers how many holes (runs of SNs with
nothing to release) were passed; `inHole`: the SN before this one was part of a hole. -/
def Dev.rxPass (d : Dev) (s t : Nat) (inHole : Bool) : Nat → Nat × Dev
  | 0 => (0, d)
  | fuel + 1 =>
    let x := d.staTid s t
    let sn := x.rxStart
    let y := { x with rxStart := (sn + 1) % 4096, seen := x.seen.filter (fun k => decide (k ≠ sn)),
                      held := x.held.filter (fun k => decide (k.sn ≠ sn)) }
    let d1 := d.setStaTid s t y
    match x.held.find? (fun h => decide (h.sn = sn)) with
    | some h => ((d1.setStaTid s t (y.rxDone sn)).rxRelease t h).rxPass s t false fuel
    | none =>
      let (n, d2) := d1.rxPass s t true fuel
      (if inHole then n else n + 1, d2)

/-- Expire every hole below an SN at once, and go on from there (R182). -/
def Dev.rxForce (d : Dev) (s t sn : Nat) : Dev :=
  let x := d.staTid s t
  let (n, d1) := d.rxPass s t false (snDist x.rxStart sn)
  (d1.countN A.MLD.HOLE_FORCED_CNT n).rxRun s t 4096

/-- What the reorder buffer makes of an SN. -/
inductive RxPlace where
  | old
  | again
  | inside
  | above
deriving DecidableEq, Repr

/-- Where an SN lies against the window (R148, R182). -/
def StaTid.place (x : StaTid) (win sn : Nat) : RxPlace :=
  let k := snDist x.rxStart sn
  if k < win then (if x.seen.contains sn then .again else .inside) else if k < 2048 then .above else .old

/-- The SN of an MPDU counts as received; an MPDU above the window moves it, and the holes that leave it expire (R182). -/
def Dev.rxMark (d : Dev) (s t win sn : Nat) : Dev :=
  let x := d.staTid s t
  let d1 := if x.place win sn = .above then d.rxForce s t ((sn + 4097 - win) % 4096) else d
  let y := d1.staTid s t
  d1.setStaTid s t { y with seen := y.seen ++ [sn] }

/-- An acknowledged uplink MPDU found room in the RX share, or was dropped for want of it: REORDER_NOBUF is set while drops continue
(R183). -/
def Dev.rxBuffered (d : Dev) (ok : Bool) : Dev :=
  let d1 := if ok then d else d.count A.MLD.RX_NOBUF_CNT
  (d1.onMld (fun m => { m with noBuf := !ok })).follow .mld Cause.MLD.REORDER_NOBUF (!ok)

/-- An acknowledged MPDU of an agreement enters the reorder buffer, or is dropped for want of cells and leaves a hole
(R182, R183). -/
def Dev.rxHold (d : Dev) (s t sn pn : Nat) (slot : Option Nat) (link : Nat) (f : InFrame) : Dev :=
  if d.inkRoom 4 f.cells then
    let d2 := (d.cellsTake 4 f.cells none).rxBuffered true
    let x := d2.staTid s t
    let h : RxHeld := { sn := sn, pn := pn, slot := slot, link := link, frame := f }
    (d2.setStaTid s t { x with held := x.held ++ [h] }).rxRun s t 4096
  else
    d.rxBuffered false

/-- When the first hole of a reorder buffer expires: HOLE_MS after the first MPDU above it arrived (R182). -/
def Dev.holeDue (d : Dev) (s t : Nat) : Option Nat :=
  match (d.staTid s t).held.map (fun h => h.frame.time) with
  | [] => none
  | a :: l =>
    let ac := acOf t
    let ms := d.fld A.MLD.REORDER_CFG (8 * ac + 7) (8 * ac)
    some (l.foldl min a + msT ms)

/-- How far the first held SN lies above the window start. -/
def StaTid.toHeld (x : StaTid) : Nat := (x.held.map (fun h => snDist x.rxStart h.sn)).foldl min 4096

/-- REORDER_HOLE_TIMEOUT: the hole at the window start is passed, and what follows it is released (R182). -/
def effReorderHoleTimeout (s t : Nat) (d : Dev) : Dev :=
  match d.holeDue s t with
  | none => d
  | some due =>
    let d1 := d.at_ due
    let (n, d2) := d1.rxPass s t false (d1.staTid s t).toHeld
    (d2.countN A.MLD.HOLE_TIMEOUT_CNT n).rxRun s t 4096

/-- Release everything a reorder buffer holds, in order. -/
def Dev.rxEmpty (d : Dev) (s t : Nat) : Dev :=
  let x := d.staTid s t
  (x.held.foldl (fun n h => max n (snDist x.rxStart h.sn + 1)) 0 |> d.rxPass s t false).2

/-! Stations (R170, R171) -/

/-- The core record of a station that is entered anew, and its link records without capabilities (spec/08 R192, R203). -/
def Dev.staRecords (d : Dev) (s : Nat) (x : Station) : Dev :=
  let d1 := (d.sramPut (0x80 * s) 4 (1 + 2 * x.links + 2 * 2 ^ 8 + 16 * 2 ^ 16)).sramPut (0x80 * s + 4) 0x7C 0
  (List.range 3).foldl (fun d l =>
    let b := 0x20000 + 0x100 * (3 * s + l)
    ((d.sramPut b 0x1C 0).sramPut (b + 0x1C) 4 0xFFFFFFFF).sramPut (b + 0x20) 0x40 (2 ^ 512 - 1)) d1

/-- Clear both record kinds of a station (R203). -/
def Dev.staClear (d : Dev) (s : Nat) : Dev := (d.sramPut (0x80 * s) 0x80 0).sramPut (0x20000 + 0x300 * s) 0x300 0

/-- The station's depths and records follow a change of its links. -/
def Dev.staDepths (d : Dev) (s : Nat) : Dev := (List.range 8).foldl (fun d t => d.dlBytes (8 * s + t)) d

/-- Enter or update a station (R170). -/
def Dev.staEnter (d : Dev) (s : Nat) (x : Station) : Dev :=
  let d1 := d.onMld (fun m => { m with stations := tabPut m.stations s x })
  match d.station s with
  | none => (d1.staRecords s x).staDepths s
  | some _ => (d1.sramPut (0x80 * s) 1 (d.sramGet (0x80 * s) 1 &&& 0xF0 ||| (1 + 2 * x.links))).staDepths s

/-- Entries of a queue that belong to a station leave it with a code (management frames of R274's radio queues). -/
def Dev.purge (d : Dev) (q s code : Nat) : Dev :=
  let es := (d.queue q).entries
  let d1 := d.setQueue q { d.queue q with entries := es.filter (fun e => decide (e.wl.sta ≠ s)) }
  (es.filter (fun e => decide (e.wl.sta = s))).foldl (fun d e => d.lose e code) d1

/-- Remove a station: its queued frames complete with STA_GONE, its agreements, duplicate, reorder and scoreboard state, its
feedback and its records go; its keys stay (R171). -/
def Dev.staDelete (d : Dev) (s : Nat) : Dev :=
  let d1 := (List.range 8).foldl (fun d t => d.flushQueue (8 * s + t) RC.STA_GONE) d
  let d2 := [8240, 8241, 8242].foldl (fun d q => d.purge q s RC.STA_GONE) d1
  let d3 := (List.range 9).foldl (fun d t =>
    let x := d.staTid s t
    let d1 := x.board.foldl (fun d b =>
      if b.st = .acked ∨ b.st = .givenUp ∨ b.st = .queued then d else (d.release b.entry).txComplete b.entry RC.STA_GONE) d
    let d2 := x.held.foldl (fun d h => d.rxDrop h.frame) d1
    d2.onMld (fun m => { m with tids := tabDel m.tids (16 * s + t) })) d2
  let d4 := [Radio.a, .b, .c].foldl (fun d r =>
    (d.dropFb r s).onMac r (fun m => { m with twt := m.twt.map (fun e =>
      (e.1, { e.2 with members := e.2.members.filter (fun k => decide (k ≠ s)) })) })) d3
  (d4.staClear s).onMld (fun m => { m with stations := tabDel m.stations s })

/-- The fields of STA_SET. -/
def staOf (ws : List Word) (powerSave : Bool) : Station :=
  let w := word ws 0
  { apMld := bitsOf w 15 12, links := bitsOf w 18 16, mld := bitOf w 19,
    maxLen := if bitsOf w 21 20 = 0 then 3895 else if bitsOf w 21 20 = 1 then 7991 else 11454, addr := macAt ws 1,
    addrs := ⟨macAt ws 3, macAt ws 5, macAt ws 7⟩, map := bitsOf (word ws 9) 23 0, powerSave := powerSave }

/-- STA_SET (R170). ENABLE 0 takes the station out of service without removing its state (notes/assumptions/51.md). -/
def cmdStaSet (ws : List Word) (d : Dev) : Dev × Ans :=
  let w := word ws 0
  let s := bitsOf w 10 0
  let on := bitOf w 31
  let old := d.station s
  let x := staOf ws (match old with
    | some y => y.powerSave
    | none => false)
  let ap : Nat := match tabFind d.mld.apMlds x.apMld with
    | some a => a.links
    | none => 0
  let map := (List.range 8).any (fun t => decide (x.map / 2 ^ (3 * t) % 8 &&& x.links = 0))
  let moved : Bool := match old with
    | some y => on && decide (y.apMld ≠ x.apMld)
    | none => false
  let bad := decide (1023 < s) || extra w 0x803FF7FF || decide (bitsOf w 21 20 = 3) || extra (word ws 2) 0xFFFF
    || [4, 6, 8].any (fun i => extra (word ws i) 0xFFFF) || extra (word ws 9) 0xFFFFFF
    || (on && (decide (x.links = 0) || decide (x.links &&& ap ≠ x.links) || map || (!x.mld && decide (popNat 3 x.links ≠ 1))))
  let absent := on && [Radio.a, .b, .c].any (fun r => x.links.testBit r.num && decide (d.chains r = 0))
  cmdIf d [(decide (ws.length ≠ 10), RC.BAD_LENGTH), (absent, RC.ABSENT), (moved, RC.NOT_IN_STATE), (bad, RC.BAD_VALUE)]
    (if on then d.staEnter s x
     else (d.onMld (fun m => { m with stations := tabDel m.stations s })).sramPut (0x80 * s) 1
       (d.sramGet (0x80 * s) 1 &&& 0xFE), [])

/-- STA_DEL (R171). -/
def cmdStaDel (ws : List Word) (d : Dev) : Dev × Ans :=
  let w := word ws 0
  cmdIf d [(decide (ws.length ≠ 1), RC.BAD_LENGTH), (extra w 0x7FF || decide (1023 < w.toNat) , RC.BAD_VALUE)] (d.staDelete (bitsOf w 10 0), [])

/-- AP_MLD_SET (R169). -/
def cmdApMldSet (ws : List Word) (d : Dev) : Dev × Ans :=
  let w := word ws 0
  let i := bitsOf w 3 0
  let links := bitsOf w 6 4
  let on := bitOf w 7
  let rs := [Radio.a, .b, .c].filter (fun r => links.testBit r.num)
  let bss (r : Radio) : Nat := bitsOf w (11 + 4 * r.num) (8 + 4 * r.num)
  let lid (r : Radio) : Nat := bitsOf w (23 + 4 * r.num) (20 + 4 * r.num)
  let enabled (r : Radio) : Bool := match tabFind (d.mac.get r).bss (bss r) with
    | some b => b.enable
    | none => false
  let taken (r : Radio) : Bool := d.mld.apMlds.any (fun e => decide (e.1 ≠ i) && e.2.links.testBit r.num
    && decide (e.2.bss.get r = bss r))
  let bad := extra (word ws 2) 0xFFFF || decide (word ws 3 ≠ 0)
    || (on && (rs.any (fun r => !enabled r || taken r || decide (14 < lid r))
      || decide ((rs.map lid).eraseDups.length ≠ rs.length)))
  let used := !on && d.mld.stations.any (fun e => decide (e.2.apMld = i))
  let x : ApMld := { links := links, bss := ⟨bss .a, bss .b, bss .c⟩, linkId := ⟨lid .a, lid .b, lid .c⟩, addr := macAt ws 1 }
  cmdIf d [(decide (ws.length ≠ 4), RC.BAD_LENGTH), (on && rs.any (fun r => decide (d.chains r = 0)), RC.ABSENT), (used, RC.NOT_IN_STATE), (bad, RC.BAD_VALUE)]
    (d.onMld (fun m => { m with apMlds := if on then tabPut m.apMlds i x else tabDel m.apMlds i }), [])

/-- BA_SET (R172). A downlink agreement that starts with nothing outstanding takes the starting SN as its next SN; one
removed on the uplink releases what it holds (notes/assumptions/52.md). -/
def cmdBaSet (ws : List Word) (d : Dev) : Dev × Ans :=
  let w := word ws 0
  let s := bitsOf w 10 0
  let t := bitsOf w 14 12
  let on := bitOf w 17
  let win := bitsOf (word ws 1) 10 0
  let sn := bitsOf (word ws 1) 27 16
  let bad := extra w 0x377FF || extra (word ws 1) 0x0FFF07FF || (d.station s).isNone || (on && outside win 1 1024)
  let x := d.staTid s t
  let eff : Dev :=
    if !bitOf w 16 then
      if !on then d.setStaTid s t { x with txWin := none, bar := none }
      else if x.board = [] then d.setStaTid s t { x with txWin := some win, txStart := sn, nextSn := sn, bar := none }
      else d.setStaTid s t { x with txWin := some win }
    else
      let d1 := d.rxEmpty s t
      let y := d1.staTid s t
      d1.setStaTid s t { y with rxWin := if on then some win else none, rxStart := if on then sn else y.rxStart, seen := [],
                                done := [], dup := none }
  cmdIf d [(decide (ws.length ≠ 2), RC.BAD_LENGTH), (bad, RC.BAD_VALUE)] (eff, [])

/-! Quiesce (R181) and the MLD page -/

/-- QUIESCE_DONE: a radio under quiesce holds no TXOP, response wait or bound MPDU (R181). -/
def Dev.quiesceDone (d : Dev) (r : Radio) : Dev :=
  if d.mld.quiesce.get r && !d.mld.quiesced.get r && d.radioQuiet r then
    (d.onMld (fun m => { m with quiesced := m.quiesced.set r true })).count A.MLD.QUIESCE_CNT
  else d

/-- The live registers of the MLD page. -/
def mldLive (o : Nat) (d : Dev) : Option Word :=
  if o = 0x044 then
    let rs := [Radio.a, .b, .c]
    some (wd (rs.foldl (fun n r => n + d.linkReason r * 2 ^ (16 + 4 * r.num) + b2n (d.mld.quiesced.get r) * 2 ^ (4 + r.num)
      + b2n (d.avail r) * 2 ^ r.num) (b2n d.mld.bcStr * 2 ^ 8)))
  else if o = 0x060 then some (wd d.mld.accDly.a)
  else if o = 0x064 then some (wd d.mld.accDly.b)
  else if o = 0x068 then some (wd d.mld.accDly.c)
  else none

end Sys2Proof.Machine
end

