-- ==== Sys2Proof/Machine/MacCmd.lean ====
section
/-! DEFINITION. The MAC's commands and schedules: keys, BSSs, beacon templates, TWT, TBTTs, TSF times; host transmit requests and
receive buffers (spec/06 R150 to R168; spec/11 R275; spec/15 R372). -/

namespace Sys2Proof.Machine

/-! Keys (R150 to R152) -/

/-- Words of key a cipher uses: 4 for a 16-byte key, 8 for a 32-byte key. -/
def keyWords (cipher : Nat) : Nat := if cipher % 2 = 1 then 4 else 8

/-- Put a key in a slot; TX_EN on a station's pairwise slot clears it on the other key ID (R152). -/
def Dev.keyPut (d : Dev) (k : Nat) (x : KeySlot) : Dev :=
  let other := if k % 2 = 0 then k + 1 else k - 1
  d.onMld (fun m =>
    let ks := if k < 0x800 ∧ x.txEn then
        match tabFind m.keys other with
        | some y => tabPut m.keys other { y with txEn := false }
        | none => m.keys
      else m.keys
    { m with keys := tabPut ks k x })

/-- KEY_SET (R152). -/
def cmdKeySet (ws : List Word) (d : Dev) : Dev × Ans :=
  let w := word ws 0
  let k := bitsOf w 11 0
  let c := bitsOf w 19 16
  let x : KeySlot := { cipher := c, txEn := bitOf w 24, rxEn := bitOf w 25, key := ws.drop 5, txPn := macAt ws 1,
                       rxPn := List.replicate 9 (macAt ws 3) }
  let bad := extra w 0x030F0FFF || decide (0x83F < k) || outside c 1 8 || extra (word ws 2) 0xFFFF || extra (word ws 4) 0xFFFF
    || (ws.drop (5 + keyWords c)).any (fun v => decide (v ≠ 0))
  cmdIf d [(decide (ws.length ≠ 13), RC.BAD_LENGTH), (bad, RC.BAD_VALUE)] (d.keyPut k x, [])

/-- KEY_CLEAR (R152). -/
def cmdKeyClear (ws : List Word) (d : Dev) : Dev × Ans :=
  let w := word ws 0
  cmdIf d [(decide (ws.length ≠ 1), RC.BAD_LENGTH), (decide (0x83F < w.toNat), RC.BAD_VALUE)]
    (d.onMld (fun m => { m with keys := tabDel m.keys w.toNat }), [])

/-- KEY_PN (R152): the PNs of a slot; an empty slot reads as PN 0 (notes/assumptions/54.md). -/
def cmdKeyPn (ws : List Word) (d : Dev) : Dev × Ans :=
  let w := word ws 0
  let pns := match d.keySlot w.toNat with
    | some x => x.txPn :: (List.range 9).map (fun t => x.rxPn.getD t 0)
    | none => List.replicate 10 0
  cmdIf d [(decide (ws.length ≠ 1), RC.BAD_LENGTH), (decide (0x83F < w.toNat), RC.BAD_VALUE)]
    (d, (pns.map (fun p => [wd p, wd (p / 2 ^ 32)])).flatten)

/-! BSSs and beacon templates (R154, R155) -/

/-- A group slot named by a BSS holds a key of the class: data (CCMP, GCMP) or BIP; 0xFF names none. -/
def Dev.groupKeyOk (d : Dev) (bip : Bool) (k : Nat) : Bool :=
  if k = 0xFF then true
  else if 64 ≤ k then false
  else match d.keySlot (0x800 + k) with
    | some x => bip == decide (5 ≤ x.cipher)
    | none => false

/-- The fields of BSS_SET. -/
def bssOf (ws : List Word) : Bss :=
  let w := word ws 0
  let g := word ws 5
  let h := word ws 6
  { enable := bitOf w 4, mesh := bitOf w 5, txBssid := bitOf w 6, nonTx := bitOf w 7, txIndex := bitsOf w 11 8,
    dtim := bitsOf w 23 16, bssid := macAt ws 1, intervalTu := bitsOf (word ws 3) 15 0, offsetTu := bitsOf (word ws 3) 31 16,
    basic := bitsOf (word ws 4) 11 0, bcnRate := bitsOf (word ws 4) 23 16, bcnDup := bitOf (word ws 4) 24,
    gtk := [bitsOf g 7 0, bitsOf g 15 8, bitsOf g 23 16, bitsOf g 31 24], bigtk := [bitsOf h 7 0, bitsOf h 15 8],
    color := bitsOf h 21 16 }

/-- A BSS takes its place on a radio; a beacon of a BSS that is no longer enabled leaves the beacon queue. -/
def Dev.bssPut (d : Dev) (r : Radio) (i : Nat) (b : Bss) : Dev :=
  d.onMac r (fun m => { m with bss := tabPut m.bss i b,
                               bcnQueue := if b.enable then m.bcnQueue else m.bcnQueue.filter (fun e => decide (e.2 ≠ i)) })

/-- BSS_SET (R154). -/
def cmdBssSet (r : Radio) (ws : List Word) (d : Dev) : Dev × Ans :=
  let b := bssOf ws
  let tx : Bool := match tabFind (d.mac.get r).bss b.txIndex with
    | some x => x.txBssid
    | none => false
  let rateOk := decide (b.bcnRate ≤ 7) || (decide (r = .a) && !outside b.bcnRate 0x10 0x13)
  let bad := extra (word ws 0) 0x00FF0FFF || decide (b.dtim = 0) || extra (word ws 2) 0xFFFF || outside b.intervalTu 16 1000
    || decide (b.intervalTu ≤ b.offsetTu) || extra (word ws 4) 0x01FF0FFF || (decide (r ≠ .a) && decide (b.basic % 16 ≠ 0))
    || !rateOk || extra (word ws 6) 0x003FFFFF || !((b.gtk.take 2).all (d.groupKeyOk false)) || !((b.gtk.drop 2).all (d.groupKeyOk true))
    || !(b.bigtk.all (d.groupKeyOk true)) || (b.nonTx && !tx)
  cmdIf d [(decide (ws.length ≠ 7), RC.BAD_LENGTH), (bad, RC.BAD_VALUE)] (d.bssPut r (bitsOf (word ws 0) 3 0) b, [])

/-- A template with nothing in it. -/
def Template.empty : Template := { cur := [], timOff := 0, next := [], nextLen := 0, nextTim := 0, complete := false }

/-- BEACON_SET (R155): chunk `c` holds the template's bytes from 1,016 × c on. -/
def cmdBeaconSet (r : Radio) (ws : List Word) (d : Dev) : Dev × Ans :=
  let w := word ws 0
  let i := bitsOf w 3 0
  let c := bitsOf w 15 8
  let total := bitsOf w 31 16
  let tim := bitsOf (word ws 1) 15 0
  let n := min 1016 (total - 1016 * c)
  let t := (tabFind (d.mac.get r).tmpl i).getD Template.empty
  let fresh := t.complete || decide (t.nextLen ≠ total)
  let next := tabPut (if fresh then [] else t.next) c ((wordsBytes (ws.drop 2)).take n)
  let whole := (List.range (ceilDiv total 1016)).all (fun k => (tabFind next k).isSome)
  let t1 : Template := { t with next := next, nextLen := total, nextTim := tim, complete := whole }
  let bad := extra w 0xFFFFFF0F || extra (word ws 1) 0xFFFF || outside total 1 2048 || decide (total ≤ 1016 * c)
    || decide (total ≤ tim)
  cmdIf d [(decide (ws.length < 2 ∨ (!bad ∧ ws.length ≠ 2 + ceilDiv n 4)), RC.BAD_LENGTH), (bad, RC.BAD_VALUE)]
    (d.onMac r (fun m => { m with tmpl := tabPut m.tmpl i t1 }), [])

/-! TSF time (spec/15 R372) -/

/-- The TSF of a BSS, µs. -/
def Dev.tsf (d : Dev) (r : Radio) (b : Nat) : Nat := (d.ptpNs / 1000 + tabGet 0 d.tmu.tsfOfs (16 * r.num + b)) % 2 ^ 64

/-- µs until the TSF is next congruent to `at_` modulo `period`: from 1 to `period`. -/
def Dev.tsfWait (d : Dev) (r : Radio) (b at_ period : Nat) : Nat :=
  let k := (at_ + period - d.tsf r b % period) % period
  if k = 0 then period else k

/-- The tick of the next TBTT of a BSS (R156). -/
def Dev.tbttTick (d : Dev) (r : Radio) (i : Nat) (b : Bss) : Nat :=
  d.usAhead (d.tsfWait r i (1024 * b.offsetTu) (1024 * max 1 b.intervalTu))

/-- The BSSs of a radio that beacon, with their indexes. -/
def Dev.beaconing (d : Dev) (r : Radio) : List (Nat × Bss) := (d.mac.get r).bss.filter (fun e => e.2.enable && !e.2.nonTx)

/-! Target wake time (R159, R160) -/

/-- The four schedule IDs in a station's link record (spec/08 R192). -/
def Dev.twtRecord (d : Dev) (r : Radio) (s : Nat) : Dev :=
  let ids := ((d.mac.get r).twt.filter (fun e => e.2.members.contains s)).map (fun e => e.1)
  d.sramPut (0x20000 + 0x100 * (3 * s + r.num) + 0x1C) 4
    ((List.range 4).foldl (fun n i => n + ids.getD i 0xFF * 256 ^ i) 0)

/-- Schedules of a radio that a station belongs to. -/
def Dev.twtCount (d : Dev) (r : Radio) (s : Nat) : Nat := ((d.mac.get r).twt.filter (fun e => e.2.members.contains s)).length

/-- The members of a schedule have their records written. -/
def Dev.twtRecords (d : Dev) (r : Radio) (ss : List Nat) : Dev := ss.foldl (fun d s => d.twtRecord r s) d

/-- TWT_SET (R159). A schedule written again keeps its members, unless it is individual. -/
def cmdTwtSet (r : Radio) (ws : List Word) (d : Dev) : Dev × Ans :=
  let w := word ws 0
  let id := bitsOf w 7 0
  let typ := bitsOf w 9 8
  let s := bitsOf w 26 16
  let old := tabFind (d.mac.get r).twt id
  let was := match old with
    | some x => x.members
    | none => []
  let dur := bitsOf (word ws 4) 15 0
  let iv := (word ws 3).toNat
  let on := bitOf w 31
  let x : Twt := { typ := typ, trigger := bitOf w 10, bss := bitsOf w 15 12, sta := s, target := pair ws 1, intervalUs := iv,
                   durUs := dur, tids := bitsOf (word ws 4) 23 16, members := if typ = 0 then [s] else was, sp := none, cut := false }
  let bad := decide (typ = 3) || extra w 0x87FFF7FF || (on && (decide (iv < 1024) || decide (dur < 256) || decide (iv < dur)
    || extra (word ws 4) 0xFFFFFF || (decide (typ = 0) && (d.station s).isNone)))
  let full := on && decide (typ = 0) && !was.contains s && decide (4 ≤ d.twtCount r s)
  let d1 := if on then d.onMac r (fun m => { m with twt := tabPut m.twt id x }) else d.onMac r (fun m => { m with twt := tabDel m.twt id })
  cmdIf d [(decide (ws.length ≠ 5), RC.BAD_LENGTH), (bad, RC.BAD_VALUE), (full, RC.BUSY)]
    (d1.twtRecords r (was ++ (if on ∧ typ = 0 then [s] else [])), [])

/-- TWT_JOIN (R159). -/
def cmdTwtJoin (r : Radio) (ws : List Word) (d : Dev) : Dev × Ans :=
  let id := bitsOf (word ws 0) 7 0
  let s := bitsOf (word ws 1) 10 0
  let leave := bitOf (word ws 1) 31
  match tabFind (d.mac.get r).twt id with
  | none => cmdIf d [(decide (ws.length ≠ 2), RC.BAD_LENGTH), (true, RC.BAD_VALUE)] (d, [])
  | some x =>
    let ms := x.members.filter (fun k => decide (k ≠ s))
    let y := { x with members := if leave then ms else ms ++ [s] }
    let bad := extra (word ws 0) 0xFF || extra (word ws 1) 0x800007FF || decide (x.typ = 0) || (!leave && (d.station s).isNone)
    let full := !leave && !x.members.contains s && decide (4 ≤ d.twtCount r s)
    cmdIf d [(decide (ws.length ≠ 2), RC.BAD_LENGTH), (bad, RC.BAD_VALUE), (full, RC.BUSY)]
      ((d.onMac r (fun m => { m with twt := tabPut m.twt id y })).twtRecord r s, [])

/-- µs until a schedule's next service period starts. -/
def Dev.twtWait (d : Dev) (r : Radio) (x : Twt) : Nat :=
  let now := d.tsf r x.bss
  if now < x.target then x.target - now else d.tsfWait r x.bss (x.target % max 1 x.intervalUs) (max 1 x.intervalUs)

/-- TWT_SP_START (R160). -/
def effTwtSpStart (r : Radio) (id : Nat) (d : Dev) : Dev :=
  match tabFind (d.mac.get r).twt id with
  | none => d
  | some x =>
    if x.sp.isSome then d
    else
      let d1 := d.at_ (d.usAhead (d.twtWait r x))
      let d2 := d1.onMac r (fun m => { m with twt := tabPut m.twt id { x with sp := some (d1.tb + usT x.durUs), cut := false } })
      let busy := (d2.asc.radios.get r).heatRun.isSome || (d2.rfe.get r).quiet.isSome
      if busy then d2.twtCut r else d2

/-- TWT_SP_END (R160). -/
def effTwtSpEnd (r : Radio) (id : Nat) (d : Dev) : Dev :=
  match tabFind (d.mac.get r).twt id with
  | none => d
  | some x => match x.sp with
    | none => d
    | some t => (d.at_ t).onMac r (fun m => { m with twt := tabPut m.twt id { x with sp := none, cut := false } })

/-- Frames may be sent to a station now, by its individual and broadcast schedules; the end the TXOP must keep (R160). -/
def Dev.twtAllows (d : Dev) (r : Radio) (s : Nat) (end_ : Nat) : Bool :=
  let xs := (d.mac.get r).twt.filter (fun e => decide (e.2.typ ≤ 1) && e.2.members.contains s)
  xs.isEmpty || xs.any (fun e => match e.2.sp with
    | some t => decide (end_ ≤ t)
    | none => false)

/-! The medium and TBTT (R134, R155 to R157) -/

/-- The medium is idle for the radio: CCA valid, primary clear, NAVs zero, no quiet window, no Heat (R134). -/
def Dev.mediumIdle (d : Dev) (r : Radio) : Bool :=
  let m := d.mac.get r
  decide ((d.phy.get r).rx ≠ .off) && !(d.ccaBusy r).testBit (primIdx r (d.rfe.get r).tuned)
    && decide (m.navBasic ≤ d.tb) && decide (m.navIntra ≤ d.tb) && (d.rfe.get r).quiet.isNone
    && (d.asc.radios.get r).heatRun.isNone

/-- Slots, AIFS, EIFS (R133, R139). -/
def Dev.slot (d : Dev) (r : Radio) : Nat := if r = .a ∧ d.bit (A.MAC.ACC_CFG r) 16 then usT 20 else usT 9
def Dev.pifs (d : Dev) (r : Radio) : Nat := sifs r + d.slot r

/-- The access register of an AC; 4 is the beacon queue. -/
def acReg (r : Radio) (ac : Nat) : Nat := A.MAC.EDCA_AC0 r + 4 * ac

/-- AIFSN of an AC; 1 for an escalated beacon queue (R132, R157). -/
def Dev.aifsn (d : Dev) (r : Radio) (ac : Nat) : Nat :=
  if ac = 4 ∧ (d.mac.get r).escalated ≠ 0 then 1 else d.fld (acReg r ac) 3 0

/-- The Ack time of EIFS: 44 µs, or 304 µs on a Radio A with a BSS whose basic rate set holds only DSSS rates (R139;
notes/assumptions/108.md). -/
def Dev.ackTime (d : Dev) (r : Radio) : Nat :=
  if r = .a ∧ (d.mac.get r).bss.any (fun e => e.2.enable && decide (e.2.basic ≠ 0 ∧ e.2.basic < 16)) then usT 304 else usT 44

/-- AIFS of an AC, or once after a failed reception EIFS (R133, R139). -/
def Dev.aifs (d : Dev) (r : Radio) (ac : Nat) : Nat :=
  sifs r + d.aifsn r ac * d.slot r + (if (d.mac.get r).eifs then sifs r + d.ackTime r else 0)

/-- Since when the medium is idle, and when an AC's backoff counter reaches zero if it stays so (R134). -/
def Dev.idleSince (d : Dev) (r : Radio) : Nat := ((d.mac.get r).idleAt).getD d.tb
def Dev.expiry (d : Dev) (r : Radio) (ac : Nat) : Nat :=
  d.idleSince r + d.aifs r ac + tabGet 0 (d.mac.get r).backoff ac * d.slot r

/-- The medium turns busy: every backoff counter has decreased by the idle slots since its AIFS, and stands still; an EIFS that has run
out is over (R134, R139). -/
def Dev.backoffFreeze (d : Dev) (r : Radio) : Dev :=
  let t0 := d.idleSince r
  let left (ac n : Nat) : Nat := n - (d.tb - (t0 + d.aifs r ac)) / d.slot r
  let ran := [0, 1, 2, 3, 4].all (fun ac => decide (t0 + d.aifs r ac ≤ d.tb))
  d.onMac r (fun m => { m with idleAt := none, backoff := m.backoff.map (fun e => (e.1, left e.1 e.2)), eifs := m.eifs && !ran })

/-- What a change of the medium does: an idle medium is noted with its time, a busy one freezes the counters; each subchannel's time
of becoming clear is kept (R134, R137). -/
def Dev.mediumEdge (idle : Bool) (busy : Nat) (r : Radio) (d : Dev) : Dev :=
  let now := d.ccaBusy r
  let d1 := d.onPhy r (fun p => { p with clearAt := (List.range 16).foldl (fun t k =>
    if busy.testBit k && !now.testBit k then tabPut t k d.tb else t) p.clearAt })
  if d.mediumIdle r && !idle then d1.onMac r (fun m => { m with idleAt := some d.tb })
  else if idle && !d.mediumIdle r then d1.backoffFreeze r else d1

/-- An event at a radio, and what it does to the medium as the MAC sees it. -/
def Dev.onMedium (d : Dev) (r : Radio) (f : Dev → Dev) : Dev := Dev.mediumEdge (d.mediumIdle r) (d.ccaBusy r) r (f d)

/-- The subchannels that are not idle at a TXOP start: busy, or not yet clear for PIFS (R137). -/
def Dev.notIdle (d : Dev) (r : Radio) : Nat :=
  let p := d.phy.get r
  let late := (List.range 16).foldl (fun m k => if d.tb < tabGet 0 p.clearAt k + d.pifs r then m ||| 2 ^ k else m) 0
  let pd := p.pdSec.foldl (fun m e => if d.tb < e.2 + d.pifs r then m ||| 2 ^ e.1 else m) 0
  (d.ccaBusy r ||| late ||| pd) % 2 ^ 2 ^ chanWidth (d.rfe.get r).tuned

/-- The medium keeps a beacon from being sent: the primary is busy, or a NAV is set (R157). -/
def Dev.bcnBlocked (d : Dev) (r : Radio) : Bool :=
  let m := d.mac.get r
  (decide ((d.phy.get r).rx ≠ .off) && (d.ccaBusy r).testBit (primIdx r (d.rfe.get r).tuned)) || decide (d.tb < m.navBasic)
    || decide (d.tb < m.navIntra)

/-- Beacons that wait have seen a medium without either: they are not starved by it (R157). -/
def Dev.bcnSeen (d : Dev) (r : Radio) : Dev := if d.bcnBlocked r then d else d.onMac r (fun m => { m with bcnBusy := [] })

/-- A beacon not sent by the next TBTT is dropped; starved three times running, its access is escalated (R156, R157). -/
def Dev.bcnMiss (d : Dev) (r : Radio) (i : Nat) : Dev :=
  let m := d.mac.get r
  let busy := m.bcnBusy.contains i
  let n := if busy then tabGet 0 m.starved i + 1 else 0
  let d1 := (d.onMac r (fun m => { m with bcnQueue := m.bcnQueue.filter (fun e => decide (e.2 ≠ i)),
                                          starved := tabSet 0 m.starved i n })).count (A.MAC.BCN_MISS_CNT r)
  if n = 3 then (d1.onMac r (fun m => { m with escalated := m.escalated ||| 2 ^ i })).raise (.mac r) Cause.MAC.BEACON_STARVED
  else d1

/-- Queue a beacon by TBTT time and index. -/
def bcnInsert (e : Nat × Nat) : List (Nat × Nat) → List (Nat × Nat)
  | [] => [e]
  | f :: l => if e.1 < f.1 ∨ (e.1 = f.1 ∧ e.2 < f.2) then e :: f :: l else f :: bcnInsert e l

/-- The next template applies from this TBTT, if it is complete (R155). -/
def Template.apply (t : Template) : Template :=
  if t.complete then { cur := (t.next.map (fun e => e.2)).flatten, timOff := t.nextTim, next := [], nextLen := 0, nextTim := 0,
                       complete := false }
  else t

/-- TBTT: the time comes, an unsent beacon of the BSS is dropped, and its beacon is queued, if it has a template, or for the mesh BSS
while the node beacons (R155, R156; spec/16 R381, R385). -/
def effTbtt (r : Radio) (i : Nat) (d : Dev) : Dev :=
  match tabFind (d.mac.get r).bss i with
  | none => d
  | some b =>
    if !b.enable || b.nonTx then d
    else
      let d0 := d.at_ (d.tbttTick r i b)
      let d1 := if (d0.mac.get r).bcnQueue.any (fun e => decide (e.2 = i)) then d0.bcnMiss r i else d0
      let t := ((tabFind (d1.mac.get r).tmpl i).getD Template.empty).apply
      let k := tabGet 0 (d1.mac.get r).dtimCount i
      let busy := d1.bcnBlocked r
      let d2 := d1.onMac r (fun m => { m with tmpl := tabPut m.tmpl i t,
                                              dtimCount := tabSet 0 m.dtimCount i (if k = 0 then b.dtim - 1 else k - 1) })
      if (if d2.isMeshBss r i then !d2.msh.beacons else decide (t.cur = [])) then d2
      else
        let d3 := d2.onMac r (fun m => { m with bcnQueue := bcnInsert (d2.tb, i) m.bcnQueue,
                                                bcnBusy := if busy then i :: m.bcnBusy.filter (fun k => decide (k ≠ i))
                                                           else m.bcnBusy.filter (fun k => decide (k ≠ i)) })
        d3.twtCut r

/-- A beacon of a BSS has been sent: a DTIM beacon lets its held group-addressed frames go (R157, R158). -/
def Dev.bcnSent (d : Dev) (r : Radio) (i : Nat) : Dev :=
  let dtim := decide (tabGet 0 (d.mac.get r).dtimCount i = 0)
  let clr (n : Nat) : Nat := if n.testBit i then n - 2 ^ i else n
  (d.onMac r (fun m => { m with bcnQueue := m.bcnQueue.filter (fun e => decide (e.2 ≠ i)), starved := tabSet 0 m.starved i 0,
                                escalated := clr m.escalated,
                                bcnBusy := m.bcnBusy.filter (fun k => decide (k ≠ i)),
                                groupOpen := if dtim ∧ (d.queue (8192 + 16 * r.num + i)).entries ≠ [] then i :: m.groupOpen.filter (fun k => decide (k ≠ i))
                                             else m.groupOpen })).count (A.MAC.BCN_TX_CNT r)

/-! The beacon as it is sent (R155) -/

/-- A station's AID, for the TIM: its index plus 1 (notes/assumptions/109.md). -/
def aidOf (s : Nat) : Nat := s + 1

/-- The BSSs whose stations a beacon's TIM covers: its own, and the nontransmitted members of its set (R154). -/
def Dev.setOf (d : Dev) (r : Radio) (i : Nat) : List Nat :=
  i :: ((d.mac.get r).bss.filter (fun e => e.2.enable && e.2.nonTx && decide (e.2.txIndex = i ∧ e.1 ≠ i))).map (fun e => e.1)

/-- The AIDs with a bit in a beacon's TIM: stations of its BSSs in power save with frames queued, for any link of the station
(R155; spec/07 R184). -/
def Dev.timAids (d : Dev) (r : Radio) (i : Nat) : List Nat :=
  (d.mld.stations.filter (fun e => e.2.powerSave && (e.2.mld || e.2.links.testBit r.num) && (match tabFind d.mld.apMlds e.2.apMld with
    | some a => a.links.testBit r.num && (d.setOf r i).contains (a.bss.get r)
    | none => false)
    && (List.range 8).any (fun t => decide ((d.queue (8 * e.1 + t)).entries ≠ [])))).map (fun e => aidOf e.1)

/-- The TIM element of a beacon: DTIM count and period, bitmap control with the group bit of a DTIM beacon, and the partial virtual
bitmap from its first to its last octet in use (R155, R158). -/
def Dev.tim (d : Dev) (r : Radio) (i : Nat) : List Byte :=
  let count := tabGet 0 (d.mac.get r).dtimCount i
  let period : Nat := match tabFind (d.mac.get r).bss i with
    | some b => b.dtim
    | none => 0
  let aids := d.timAids r i
  let octets := (List.range 252).filter (fun k => aids.any (fun a => decide (a / 8 = k)))
  let first := octets.headD 0 / 2 * 2
  let last := max first (octets.getLastD 0)
  let group := decide (count = 0) && (d.setOf r i).any (fun b => decide ((d.queue (8192 + 16 * r.num + b)).entries ≠ []))
  let bitmap := (List.range (last + 1 - first)).map (fun k =>
    (List.range 8).foldl (fun n b => if aids.contains (8 * (first + k) + b) then n + 2 ^ b else n) 0)
  ([5, 3 + bitmap.length, count, period, b2n group + first] ++ bitmap).map (BitVec.ofNat 8)

/-- A beacon as it is sent: the template with the BSS's TSF in its Timestamp, after the 24 octets of its header, and the TIM in place
of the template's; what follows moves with its length, and the mesh BSS's beacons end with the mesh element (R155; spec/16 R380;
notes/assumptions/127.md). -/
def Dev.beaconBody (d : Dev) (r : Radio) (i : Nat) : List Byte :=
  let t := (tabFind (d.mac.get r).tmpl i).getD Template.empty
  let stamp := (List.range 8).map (fun k => BitVec.ofNat 8 (d.tsf r i / 256 ^ k))
  let old := 2 + (t.cur.getD (t.timOff + 1) 0).toNat
  let mesh := if d.isMeshBss r i then d.meshVendor else []
  if t.cur = [] then mesh
  else (t.cur.take 24 ++ stamp ++ (t.cur.take t.timOff).drop 32) ++ d.tim r i ++ t.cur.drop (t.timOff + old) ++ mesh

/-! Frames from and to the host (R162 to R166) -/

/-- Header and security overhead of an MPDU (R163): the sizes of IEEE 802.11 (notes/assumptions/55.md). -/
def secOverhead (cipher : Nat) : Nat :=
  if cipher = 1 then 16 else if cipher ≤ 4 then 24 else if cipher = 5 then 18 else if cipher ≤ 8 then 26 else 0
def Dev.mpduLen (d : Dev) (r : Radio) (e : Entry) : Nat :=
  let sec : Nat := match d.protOf r e with
    | .slot k => match d.keySlot k with
      | some x => secOverhead x.cipher
      | none => 0
    | _ => 0
  if e.wl.mpdu then e.len + sec + 4 else (e.len - 14) + 8 + 26 + sec + 4

/-- The radio whose management or group queue takes a frame (spec/11 R275; notes/assumptions/53.md). -/
def Dev.hostRadio (d : Dev) (w : Wl) : Radio :=
  let ok (r : Radio) : Bool := decide (w.links = 0) || w.links.testBit r.num
  let rs := [Radio.a, .b, .c].filter ok
  match d.station w.sta with
  | some x => (rs.find? (fun r => x.links.testBit r.num)).getD .a
  | none => ((rs.find? (fun r => match tabFind (d.mac.get r).bss w.bss with
      | some b => b.enable
      | none => false)).getD (rs.headD .a))

/-- The queue of a transmit request (R274, R275). -/
def Dev.hostQueue (d : Dev) (w : Wl) : Nat :=
  if w.sta < 0x7FF ∧ w.tid < 8 then 8 * w.sta + w.tid
  else if w.tid = 8 then 8240 + (d.hostRadio w).num else 8192 + 16 * (d.hostRadio w).num + w.bss

/-- The entry of a TYPE 0x10 request (R162). -/
def Dev.txEntry (d : Dev) (n : Nat) (ws : List Word) (h : Hdr) : Entry :=
  let w0 := word ws 0
  let w4 := word ws 4
  let w5 := word ws 5
  let wl : Wl := { Wl.plain with
                   sta := bitsOf w4 10 0, tid := bitsOf w4 19 16, bss := bitsOf w4 23 20, mpdu := bitOf w0 8, noAck := bitOf w0 9,
                   noEncrypt := bitOf w0 10, lateFinal := bitOf w0 11, launch := if bitOf w0 12 then some (pair ws 6) else none, lateAt := none,
                   fixedRate := if bitOf w0 13 then some (bitsOf w5 31 16) else none, links := bitsOf w4 26 24,
                   tol := if bitsOf w5 7 0 = 0 then 50 else bitsOf w5 7 0, retry := bitsOf w5 15 8 }
  { fid := d.tmg.nextFid, len := bitsOf w0 31 16, color := 0, stamp := 0, inInk := false, writing := false, dram := 0,
    cells := cellsOf (bitsOf w0 31 16), share := 5, ingress := none, hdr := { h with len := bitsOf w0 31 16 },
    host := some (n, word ws 1), pin := none, setDscp := none, wl := wl, toHost := none }

/-- The code that refuses a request; OK when it is queued (R163, R31). -/
def Dev.txCheck (d : Dev) (ws : List Word) (e : Entry) : Nat :=
  let w := e.wl
  let len := d.mpduLen (d.hostRadio w) e
  let sta := d.station w.sta
  let max_ : Nat := match sta with
    | some x => x.maxLen
    | none => 3895
  let links : Nat := match sta with
    | some x => x.links
    | none => 7
  let bad := (decide (w.sta ≠ 0x7FF) && sta.isNone) || decide (8 < w.tid) || (w.lateFinal && decide (w.tid < 8))
    || (decide (w.links ≠ 0) && decide (w.links &&& links = 0)) || decide (15 < w.retry) || bitOf (word ws 0) 14
    || bitOf (word ws 0) 15 || extra (word ws 4) 0x07FF07FF || (ws.drop 8).any (fun v => decide (v ≠ 0))
  let absent := decide (w.links ≠ 0) && [Radio.a, .b, .c].all (fun r => !w.links.testBit r.num || decide (d.chains r = 0))
  refuse [(decide (len < 14 ∨ max_ < len), RC.BAD_LENGTH), (absent, RC.ABSENT), (bad, RC.BAD_VALUE)]

/-- A TYPE 0x10 entry: checked, then queued, or completed with an error. `none`: the queue cannot admit it now, and the ring
waits (R163, R280). -/
def Dev.txRequest (d : Dev) (n : Nat) (ws : List Word) (h : Hdr) : Option Dev :=
  let e := d.txEntry n ws h
  let c := d.txCheck ws e
  let d1 := (d.nextFid).submitted n e.fid
  let q := d.hostQueue e.wl
  if c ≠ RC.OK then some (d1.txComplete e c)
  else if !d.ready .tmg || !d.hostAdmits q e then none
  else some (d1.admitted q e)

/-- RX_BUFFER_POST: a TYPE 0x20 entry (R166). -/
def Dev.rxPost (d : Dev) (n : Nat) (ws : List Word) : Dev :=
  let id := d.tmg.nextFid
  let b : HostBuf := { ring := n, cookie := word ws 1, size := bitsOf (word ws 0) 31 16, buf := pair ws 2, sid := id }
  let r := Radio.ofNum (Config.ringRadio n % 3)
  (d.nextFid.submitted n id).onMac r (fun m => { m with rxBufs := m.rxBufs ++ [b] })

/-- Deliver a frame to the next posted buffer of the radio's receive ring (R166). -/
def Dev.hostRx (d : Dev) (r : Radio) (m : RxMpdu) (sta : Nat) (dec : Bool) (bss reason : Nat) (rep : RxRep) : Dev :=
  match (d.mac.get r).rxBufs with
  | [] => (d.count (A.MAC.RX_HOST_DROP_CNT r)).raise (.mac r) Cause.MAC.RX_HOST_EMPTY
  | b :: bs =>
    let d1 := d.onMac r (fun x => { x with rxBufs := bs })
    let long := decide (b.size < m.len)
    let code := if long then RC.BAD_LENGTH else RC.OK
    let ws := [wd (0x20 + 2 ^ 16 * m.len), b.cookie, wd (d.status code + 2 ^ 16 * sta),
               wd (m.tid % 16 + 16 * r.num + 64 * b2n dec + 2 ^ 8 * bss + 2 ^ 16 * reason)] ++ rep.words
    let d2 := if long then d1.count (A.MAC.RX_HOST_DROP_CNT r) else d1.emit (.hostFrame b.buf m.hdr)
    d2.complete b.ring b.sid ws

/-! The MAC page -/

/-- What a write of a MAC register meets besides its fields' ranges (R132, R167, RESP_CFG). -/
def macPre (r : Radio) (o : Nat) (v : Word) (d : Dev) : List (Bool × Nat) :=
  let pwr := signed 9 (bitsOf v 16 8)
  if 0x040 ≤ o ∧ o ≤ 0x050 then [(decide (bitsOf v 11 8 < bitsOf v 7 4 ∨ 10 < bitsOf v 11 8), RC.BAD_VALUE)]
  else if o = 0x058 then [(decide (pwr < chipFloor r ∨ chipTop r < pwr), RC.BAD_VALUE)]
  else if o = 0x074 then [(bitOf v 8, RC.BAD_VALUE)]
  else (fun _ => []) d

/-- Time left until a tick, µs rounded up, at most 65,535. -/
def Dev.leftUs (d : Dev) (t : Nat) : Nat := min 65535 (ceilDiv (t - d.tb) 250)

/-- The live registers of a MAC page. -/
def macLive (r : Radio) (o : Nat) (d : Dev) : Option Word :=
  let m := d.mac.get r
  if o = 0x060 then some (wd (d.leftUs m.navIntra * 2 ^ 16 + d.leftUs m.navBasic))
  else if o = 0x064 then some (wd (d.leftUs m.ownNav))
  else if o = 0x068 then some (wd (m.escalated % 65536))
  else none

end Sys2Proof.Machine
end

