-- ==== Sys2Proof/Machine/Mac.lean ====
section
/-! DEFINITION. Channel access and transmission: TXOPs, what a PPDU is filled with, the end of a PPDU, failed attempts, quiet windows
(spec/06 R132 to R138, R144, R145, R158; spec/07 R176 to R179; spec/08 R189, R190, R195; spec/05 R127; spec/03 R78). -/

namespace Sys2Proof.Machine

/-! Access parameters (R132, R133) -/

/-- CWmin and CWmax of an AC; an escalated beacon queue has a window of 0 (R132, R157). -/
def Dev.cwMin (d : Dev) (r : Radio) (ac : Nat) : Nat :=
  if ac = 4 ∧ (d.mac.get r).escalated ≠ 0 then 0 else 2 ^ d.fld (acReg r ac) 7 4 - 1
def Dev.cwMax (d : Dev) (r : Radio) (ac : Nat) : Nat :=
  if ac = 4 ∧ (d.mac.get r).escalated ≠ 0 then 0 else 2 ^ d.fld (acReg r ac) 11 8 - 1

/-- An AC's contention window; 0 for an escalated beacon queue (R145, R157). -/
def Dev.cwOf (d : Dev) (r : Radio) (ac : Nat) : Nat := min (d.cwMax r ac) ((tabFind (d.mac.get r).cw ac).getD (d.cwMin r ac))

/-- A backoff counter is drawn anew, from 0 to the window: a free value (R134; notes/assumptions/128.md). -/
def Dev.drawBackoff (d : Dev) (r : Radio) (ac : Nat) : Dev :=
  (d.onMac r (fun m => { m with backoff := tabPut m.backoff ac (d.freeVal (d.cwOf r ac + 1)) })).took

/-- After a failed attempt, and after a success (R145). -/
def Dev.cwFail (d : Dev) (r : Radio) (ac : Nat) : Dev :=
  (d.onMac r (fun m => { m with cw := tabPut m.cw ac (min (2 * (d.cwOf r ac + 1) - 1) (d.cwMax r ac)) })).drawBackoff r ac
def Dev.cwGood (d : Dev) (r : Radio) (ac : Nat) : Dev := (d.onMac r (fun m => { m with cw := tabDel m.cw ac })).drawBackoff r ac

/-! Heats and restricted service periods ahead (R136; spec/08 R209) -/

/-- The first start after now of what recurs from a time on, in PTP ns. -/
def nextStart (first period now : Nat) : Nat :=
  if now < first then first else first + ((now - first) / max 1 period + 1) * period

/-- The tick of the next Heat start on a radio under its plan in force. -/
def Dev.nextHeat (d : Dev) (r : Radio) : Option Nat :=
  match (d.asc.radios.get r).plan with
  | none => none
  | some p =>
    let act := p.actS * 1000000000 + p.actNs
    match p.heats.map (fun h => nextStart (act + 1000 * h.offUs) (1000 * p.periodUs) d.ptpNs) with
    | [] => none
    | t :: ts => some (d.tickAt (ts.foldl min t))

/-- When the latest of a station's individual and broadcast service periods ends; none where it has no such schedule, 0 outside all of
them (R160). -/
def Dev.spEnd (d : Dev) (r : Radio) (s : Nat) : Option Nat :=
  match (d.mac.get r).twt.filter (fun e => decide (e.2.typ ≤ 1) && e.2.members.contains s) with
  | [] => none
  | xs => some (xs.foldl (fun m e => max m (e.2.sp.getD 0)) 0)

/-- The last tick at which a TXOP that began at a start may end, with frames for the given stations, and no later than a limit:
before the next Heat and before each restricted service period of others, one that has begun since its start too, and by the end of
the service periods its stations are in (R136, R160). -/
def Dev.endBy (d : Dev) (r : Radio) (start : Nat) (stas : List Nat) (limit : Nat) : Nat :=
  let m0 := match d.nextHeat r with
    | some t => min limit (t - 1)
    | none => limit
  let m1 := (d.mac.get r).twt.foldl (fun m e =>
    if e.2.typ ≠ 2 ∨ (!stas.isEmpty && stas.all (fun s => e.2.members.contains s)) then m
    else
      let ahead := min m (d.usAhead (d.twtWait r e.2) - 1)
      match e.2.sp with
      | some t => if t ≤ start + usT e.2.durUs then ahead else min ahead start
      | none => ahead) m0
  stas.foldl (fun m s => match d.spEnd r s with
    | some t => min m t
    | none => m) m1

/-! The non-STR pair (spec/07 R179) -/

/-- A start may answer the other radio's: that one's PPDU begins within 4 µs of the first sample here, and this primary has been idle
for PIFS. -/
def Dev.syncOk (d : Dev) (r : Radio) : Bool :=
  match (pairOf r).bind (fun o => (d.phy.get o).tx) with
  | some x => !d.mld.bcStr && d.bit A.MLD.NSTR_CFG 0 && decide (x.vec.kind ≠ .heat) && decide (d.tb + d.wayToTx r ≤ x.start + 1000)
      && decide (d.idleSince r + d.pifs r ≤ d.tb)
  | none => false

/-- A start on a radio is held by what the other radio of a non-STR pair does. `sync`: it answers the other's start. -/
def Dev.nstrHolds (d : Dev) (r : Radio) (sync : Bool) : Bool :=
  match pairOf r with
  | none => false
  | some o =>
    if d.mld.bcStr then false
    else
      let p := d.phy.get o
      match p.tx with
      | some x => decide (x.vec.kind ≠ .heat) && !(sync && d.syncOk r)
      | none => (d.mac.get o).wait.isSome || decide (p.rx = .preamble ∨ p.rx = .body ∨ p.rx = .hold)

/-! Lengths of PPDUs (spec/08 R201) -/

/-- Symbol and EHT-LTF durations in 0.1 µs; EHT-LTFs of a stream count. -/
def symT (gi : Nat) : Nat := if gi = 0 then 136 else if gi = 1 then 144 else 160
def ltfT (ltf gi : Nat) : Nat := (if ltf = 0 then 32 else if ltf = 1 then 64 else 128) + symT gi - 128
def ltfCount (nss : Nat) : Nat := if nss ≤ 1 then 1 else if nss ≤ 2 then 2 else if nss ≤ 4 then 4 else if nss ≤ 6 then 6 else 8

/-- The preamble and packet extension of a DL MU PPDU for some users, by the word of an allocation that gives its LTF, 0.1 µs. -/
def muPre (w3 : Word) (us : List TxUser) : Nat :=
  Config.muPreamble us.length (ltfCount (us.foldl (fun n u => max n u.nss) 1)) (bitsOf w3 6 5)

/-- A TB PPDU by the words of an allocation that give its GI and LTF, its symbols, PE and EHT-LTF count, 0.1 µs. -/
def tbLen (w5 w7 : Word) : Nat :=
  400 + bitsOf w7 31 24 * ltfT (bitsOf w5 6 5) (bitsOf w5 4 3) + bitsOf w7 15 0 * symT (bitsOf w5 4 3) + 10 * bitsOf w7 23 16

/-- How long an exchange lasts from its PPDU's first sample: the PPDU, and the response it solicits, or the wait for one (R144). -/
def Dev.exchTicks (d : Dev) (r : Radio) (v : TxVec) : Nat :=
  usT v.durUs + (if v.solicits then sigExt r v.fmt + (if v.respUs = 0 then usT (d.fld (A.MAC.RESP_CFG r) 7 0) else sifs r + usT v.respUs)
    else 0)

/-! Allocations (spec/08 R189, R190, R202) -/

/-- A 32-bit word of the scheduler SRAM. -/
def Dev.sram32 (d : Dev) (off : Nat) : Word := wd (d.sramGet off 4)

/-- The SRAM offset of an allocation buffer of a radio. -/
def allocAt (r : Radio) (buf : Nat) : Nat := 0xE0000 + 0x5000 * r.num + 0x1400 * buf

/-- The newest good allocation young enough to use (R189). -/
def Dev.youngAlloc (d : Dev) (r : Radio) : Option Alloc :=
  match (d.asc.radios.get r).good with
  | some a => if d.tb - a.snap < usT (d.fld A.ASC.ROUND_CFG 31 16) then some a else none
  | none => none

/-- One DL user of an allocation: the user of the vector, its TIDs in Baton's order, its byte budget (R202). -/
def Dev.dlUser (d : Dev) (bw at_ : Nat) : TxUser × List Nat × Nat :=
  let w0 := d.sram32 at_
  let w1 := d.sram32 (at_ + 4)
  let w2 := d.sram32 (at_ + 8)
  let ru := bitsOf w0 20 12
  let tids := ((List.range 8).map (fun i => bitsOf w2 (4 * i + 3) (4 * i))).takeWhile (fun t => decide (t < 8))
  ({ sta := bitsOf w0 10 0, tones := Config.ruTones ru, subch := Config.ruSubch bw ru, ru := ru, mcs := bitsOf w1 7 0,
     nss := bitsOf w0 27 24, steered := bitOf w1 9, off := signed 8 (bitsOf w1 23 16) }, tids, (d.sram32 (at_ + 12)).toNat)

/-- A station may be served on a radio now. -/
def Dev.staOn (d : Dev) (r : Radio) (s : Nat) : Bool :=
  match d.station s with
  | some x => x.links.testBit r.num
  | none => false

/-! What a PPDU is filled with -/

/-- What the MAC sends next: its beacon queue's head, frames of queues of one receiver, a DL MU PPDU, a trigger frame, the next
PPDU of a sounding sequence, an RTS, an MU-RTS, the MU-BAR after a DL MU PPDU, or nothing more in this TXOP. -/
inductive TxPick where
  | beacon
  | single (qs : List Nat)
  | mu
  | trigger
  | sounding
  | rts (sta : Nat)
  | muRts (stas : List Nat)
  | muBar
  | endTxop
deriving DecidableEq, Repr

/-- One start: what is sent, the vector IEEE 802.11 gives it (its format, durations and, outside an allocation, its rate, power
and width), the room of each RU in bytes, whether the precoders are computed, whether it answers a start on the other link, and what
Inkwell's code finds as the PPDU's MPDUs are read: words corrected, and MPDUs that cannot be (spec/14 R340). -/
structure TxStart where
  pick : TxPick
  vec : TxVec
  rooms : List Nat
  ready : Bool
  sync : Bool
  ce : Nat := 0
  ue : List Nat := []
deriving DecidableEq, Repr

/-- A PPDU put together: its vector, its frames, and whether it may be sent. -/
structure Filled where
  dev : Dev
  vec : TxVec
  fids : List Nat

/-- Group-addressed frames that follow a DTIM beacon wait to go first (R158). -/
def Dev.groupsFirst (d : Dev) (r : Radio) : Bool :=
  (d.mac.get r).groupOpen.any (fun b => decide ((d.queue (8192 + 16 * r.num + b)).entries ≠ []))

/-- A queue of a station, of a BSS's group frames or of a radio may be served now: the link is available, the station is awake and in
its service period, held group frames follow the DTIM beacon and go before individually addressed ones, the queue belongs to the
radio (R158, R160, R180). -/
def Dev.qOpen (d : Dev) (r : Radio) (q end_ : Nat) : Bool :=
  d.avail r && match qKind q with
  | some (.sta s t) =>
    match d.station s with
    | some x => x.links.testBit r.num && (x.map / 2 ^ (3 * t)).testBit r.num && !x.powerSave && d.twtAllows r s end_ && !d.groupsFirst r
    | none => false
  | some (.group x b) =>
    let ps := d.mld.stations.any (fun e => e.2.powerSave && e.2.links.testBit r.num &&
      (match tabFind d.mld.apMlds e.2.apMld with
        | some a => decide (a.bss.get r = b)
        | none => false))
    decide (x = r) && (!ps || (d.mac.get r).groupOpen.contains b)
  | some (.mgmt x) => decide (x = r) && !d.groupsFirst r
  | some (.mesh x _) => decide (x = r)
  | _ => false

/-- The AC a queue contends in: its TID's, VO for host management frames and for the mesh queues (R132; spec/11 R274). -/
def Dev.queueAc (d : Dev) (q : Nat) : Option Nat :=
  match qKind q with
  | some (.sta _ t) => some (acOf t)
  | some (.mgmt _) | some (.mesh _ _) => some 3
  | some (.group _ _) => (d.queue q).entries.head?.map (fun e => if e.wl.tid = 8 then 3 else acOf e.wl.tid)
  | _ => none

/-- The stations behind a list of queues. -/
def queueStas (qs : List Nat) : List Nat :=
  (qs.filterMap (fun q => match qKind q with
    | some (.sta s _) => some s
    | _ => none)).eraseDups

/-- The DL users of an allocation that are left after R190, and how many were removed: a queue that may not be served now holds no
MPDU the radio can fetch. -/
def Dev.dlUsers (d : Dev) (r : Radio) (base end_ : Nat) : List (TxUser × List Nat × Nat) × Nat :=
  let w3 := d.sram32 (base + 12)
  let n := min 148 (bitsOf (d.sram32 (base + 16)) 23 16)
  let all := (List.range n).map (fun i => d.dlUser (bitsOf w3 2 0) (base + 64 + 16 * i))
  let kept := all.filter (fun u => d.staOn r u.1.sta && u.2.1.any (fun t =>
    d.qOpen r (8 * u.1.sta + t) end_ && (d.offer r (8 * u.1.sta + t)).isSome))
  (kept, all.length - kept.length)

/-- The UL users of an allocation: station and tones, but for those outside their service periods; those no longer enabled are
counted (R160, R190). -/
def Dev.ulUsers (d : Dev) (r : Radio) (base end_ : Nat) : List (Nat × Nat) × Nat :=
  let n := min 148 (bitsOf (d.sram32 (base + 24)) 23 16)
  let all := (List.range n).map (fun i =>
    let w := d.sram32 (base + 2432 + 16 * i)
    (bitsOf w 10 0, Config.ruTones (bitsOf w 20 12)))
  let kept := all.filter (fun u => d.staOn r u.1)
  (kept.filter (fun u => d.twtAllows r u.1 end_), all.length - kept.length)

/-- The rate of a user: the request's fixed rate, or the one given (R162). Answers the format too. -/
def fixedRate (w : Option Nat) (u : TxUser) (fmt : Nat) : TxUser × Nat :=
  match w with
  | some w => ({ u with mcs := w % 256, nss := w / 256 % 16 }, w / 4096 % 16)
  | none => (u, fmt)

/-- Fill a PPDU to one receiver: a station's TIDs by Baton, led by the BlockAckReq that waits for it, or one MPDU of another queue;
every queue contends in the AC that won. The user's rate is the request's fixed rate, or the RATE entry of the link record; group
frames say whether more follow (R132, R158, R162, R172, R175, R176, R189). -/
def Dev.fillSingle (d : Dev) (r : Radio) (v : TxVec) (qs : List Nat) (room : Nat) : Dev × Option Filled :=
  let end_ := usT v.durUs
  let u0 : TxUser := { v.users.headD ⟨0x7FF, 0, 0, 0, 0, 0, false, 0⟩ with subch := 2 ^ 2 ^ v.bw - 1 - v.punct % 2 ^ 2 ^ v.bw }
  match qs with
  | [] => (d, none)
  | q :: _ =>
    if !(qs.all (fun k => d.qOpen r k (d.tb + end_) && (match d.queueAc k with
        | some a => decide (a = v.ac)
        | none => true))) || decide (1 < (queueStas qs).length) then (d, none)
    else match queueStas qs with
      | s :: _ =>
        let led := d.barWaits s
        let (mcs, nss) := d.lastRate s r.num
        let (d1, fids) := d.baton r end_ (4096 + qs.length) qs room []
        let es := (fids.filterMap d1.boardFind).map (fun x => x.2.2.entry)
        let (u, fmt) := fixedRate (es.findSome? (fun e => e.wl.fixedRate)) { u0 with sta := s, mcs := mcs, nss := nss } v.fmt
        if fids = [] ∧ !led then (d1, none)
        else (d1, some ⟨d1, { v with kind := if fids = [] then .bar else .data, users := [u], fmt := fmt, ofdma := false,
                                     targets := [(s, 1)], charge16 := 16 * v.durUs,
                                     solicits := led || !es.all (fun e => e.wl.noAck) }, fids⟩)
      | [] =>
        let (d1, fids) := d.baton r end_ 1 [q] room []
        match (fids.filterMap d1.boardFind).map (fun x => x.2.2.entry) with
        | [] => (d1, none)
        | e :: _ =>
          let grp := decide (e.wl.sta = 0x7FF) && e.hdr.dst.testBit 40
          let (u, fmt) := fixedRate e.wl.fixedRate u0 v.fmt
          (d1, some ⟨d1, { v with kind := if e.wl.tid = 8 ∧ e.mesh.isNone then .mgmt else .data, ofdma := false, bss := e.wl.bss, users := [u], fmt := fmt,
                                  targets := if grp then [] else [(e.wl.sta, 1)], charge16 := 16 * v.durUs,
                                  frame := if grp then .group (decide ((d1.queue q).entries ≠ [])) else .plain,
                                  solicits := !grp && !e.wl.noAck }, fids⟩)

/-- Fill the RUs of a DL MU PPDU: the user, its room, the room of the allocation (R176, R190, R202). -/
def Dev.fillUsers (d : Dev) (r : Radio) (end_ : Nat) : List (TxUser × List Nat × Nat) → List Nat → List (TxUser × List Nat) →
    Dev × List (TxUser × List Nat)
  | [], _, acc => (d, acc)
  | (u, tids, budget) :: us, rooms, acc =>
    let qs := (tids.map (fun t => 8 * u.sta + t)).filter (fun q => d.qOpen r q (d.tb + end_))
    let (d1, fids) := d.baton r end_ (4096 + qs.length) qs (min budget (rooms.headD budget)) []
    d1.fillUsers r end_ us (rooms.drop 1) (acc ++ [(u, fids)])

/-- RUs on busy or excluded subchannels are removed, and their MPDUs return to the head of their queues (R137). -/
def Dev.dropRus (d : Dev) (r : Radio) (bad : Nat) (us : List (TxUser × List Nat)) : Dev × List (TxUser × List Nat) :=
  let out := us.filter (fun u => decide (u.1.subch &&& bad ≠ 0))
  let d1 := d.toHead r (out.map (fun u => u.2)).flatten
  (d1.countN (A.MAC.RU_DROP_CNT r) ((out.map (fun u => u.1.ru)).eraseDups).length,
   us.filter (fun u => decide (u.1.subch &&& bad = 0)))

/-- The bandwidth and puncturing of the first PPDU: as planned with the subchannels punctured that were not idle for PIFS, where R122
permits, else the widest block around the primary that was idle (R137). Answers width and puncturing. -/
def Dev.widthFor (d : Dev) (r : Radio) (v : TxVec) : Nat × Nat :=
  let w := (d.rfe.get r).tuned
  let n := 2 ^ min v.bw (chanWidth w)
  let lo := primIdx r w / n * n
  let off := d.notIdle r &&& (2 ^ 2 ^ chanWidth w - 1 - 2 ^ primIdx r w)
  let busy := (off / 2 ^ lo) % 2 ^ n
  let p := v.punct ||| busy
  if busy = 0 ∨ punctOk r { v with punct := p } (primIdx r w - lo) then (v.bw, p)
  else
    let idle := (List.range (v.bw + 1)).filter (fun b => decide (off &&& blockMask r w b = 0))
    (idle.foldl max 0, 0)

/-- Fill a DL MU PPDU from an allocation buffer (R189, R190, R137). `first`: the PPDU starts the TXOP; else its width is at most
`bw`. The users removed are counted, also where none is left. -/
def Dev.fillMu (d : Dev) (r : Radio) (base : Nat) (v : TxVec) (rooms : List Nat) (first : Bool) (bw : Nat) : Dev × Option Filled :=
  let w3 := d.sram32 (base + 12)
  let w4 := d.sram32 (base + 16)
  let dur := bitsOf w3 31 16
  let (users, gone) := d.dlUsers r base (d.tb + usT dur)
  let d0 := d.countN A.ASC.RU_EMPTY_CNT gone
  if users = [] then (d0, none)
  else
    let block := 2 ^ min (bitsOf w3 2 0) (chanWidth (d.rfe.get r).tuned)
    let lo := primIdx r (d.rfe.get r).tuned / block * block
    let v0 : TxVec := { v with kind := .data, bw := bitsOf w3 2 0, gi := bitsOf w3 4 3, durUs := dur,
                               punct := (2 ^ 2 ^ min 4 (bitsOf w3 2 0) - 1) &&& (2 ^ 2 ^ min 4 (bitsOf w3 2 0) - 1 - bitsOf w4 15 0 / 2 ^ lo % 2 ^ block),
                               pref := signed 9 (bitsOf (d.sram32 (base + 36)) 8 0), ofdma := true }
    let (d1, filled) := d0.fillUsers r (usT dur) users rooms []
    let (bw1, p1) := if first then d1.widthFor r v0 else (min v0.bw bw, v0.punct)
    let bad := if bw1 = v0.bw then p1 else
      let w := (d.rfe.get r).tuned
      (2 ^ block - 1) - (blockMask r w bw1 / 2 ^ (primIdx r w / block * block)) % 2 ^ block
    let (d2, kept) := d1.dropRus r bad filled
    let us := kept.map (fun u => u.1)
    if us = [] then (d2, none)
    else (d2, some ⟨d2, { v0 with bw := bw1, punct := if bw1 = v0.bw then p1 else 0, users := us, solicits := !bitOf w3 11,
                                  charge16 := 16 * dur - ceilDiv (16 * muPre w3 us) 10,
                                  targets := us.map (fun u => (u.sta, u.tones / max 1 ((us.filter (fun x => decide (x.ru = u.ru))).length))) },
                    (kept.map (fun u => u.2)).flatten⟩)

/-- A trigger frame for the UL section of an allocation: it solicits a TB PPDU of that length, and its stations are charged for the
data field (R189, R190, R202). -/
def Dev.fillTrigger (d : Dev) (r : Radio) (base : Nat) (v : TxVec) : Dev × Option Filled :=
  let w5 := d.sram32 (base + 20)
  let w7 := d.sram32 (base + 28)
  let tb := ceilDiv (tbLen w5 w7) 10
  let (users, gone) := d.ulUsers r base (d.tb + usT (v.durUs + tb))
  let d0 := d.countN A.ASC.RU_EMPTY_CNT gone
  if users = [] then (d0, none)
  else (d0, some ⟨d0, { v with kind := .trigger, bw := bitsOf w5 2 0, ofdma := false, solicits := true, targets := users,
                               charge16 := 16 * bitsOf w7 15 0 * symT (bitsOf w5 4 3) / 10, respUs := v.respUs + tb }, []⟩)

/-- Groups of up to 8. -/
def eights : Nat → List Nat → List (List Nat)
  | 0, _ => []
  | fuel + 1, l => if l = [] then [] else l.take 8 :: eights fuel (l.drop 8)

/-- The stations of the sounding list of the allocation in use, while that list has not been served (spec/08 R196). -/
def Dev.toSound (d : Dev) (r : Radio) : List Nat :=
  match d.youngAlloc r with
  | none => []
  | some a =>
    let base := allocAt r a.buf
    if !bitOf (d.sram32 base) 23 || decide ((d.mac.get r).sounded = some a.snap) then []
    else ((List.range (min (bitsOf (d.sram32 (base + 32)) 4 0) (d.fld (A.PHY.SND_CFG r) 12 8))).map (fun i =>
      d.sramGet (base + 4800 + 2 * i) 2)).filter (fun s => d.staOn r s)

/-- SND_CFG.NG and CB. -/
def Dev.sndNg (d : Dev) (r : Radio) : Nat := if d.bit (A.PHY.SND_CFG r) 0 then 16 else 4
def Dev.sndHigh (d : Dev) (r : Radio) : Bool := d.bit (A.PHY.SND_CFG r) 4

/-- Air time of a sounding sequence over the channel's width, in ticks (spec/05 R127). -/
def Dev.soundTicks (d : Dev) (r : Radio) (ss : List Nat) : Nat :=
  usT (Config.soundUs (chanWidth (d.rfe.get r).tuned) ss.length (d.enabled r).length (d.sndNg r) (d.sndHigh r))

/-- CAPS of a station on a radio (spec/08 R192). -/
def Dev.capsOf (d : Dev) (s : Nat) (r : Radio) : Word := d.sram32 (0x20000 + 0x100 * (3 * s + r.num))

/-- The next PPDU of a sounding sequence: the announcement of the list, as a non-HT duplicate, which starts a TXOP; the NDP, an HE one
where every station is HE-only, with a training field for each enabled chain, rounded up; a BFRP trigger (spec/05 R127). `bw`: the
sounding bandwidth, the announcement's. -/
def Dev.fillSounding (d : Dev) (r : Radio) (v : TxVec) (first : Bool) (bw : Nat) : Option Filled :=
  let n := (d.enabled r).length
  let v0 : TxVec := { v with kind := .sounding, fmt := 1, gi := 3, ofdma := false, solicits := false, targets := [],
                             users := [⟨0x7FF, 0, 0, 0, (v.users.headD ⟨0x7FF, 0, 0, 0, 0, 0, false, 0⟩).mcs, 1, false, 0⟩] }
  match (d.phy.get r).sounding with
  | some x =>
    if first then none
    else if !x.ndp then
      some ⟨d.onPhy r (fun p => { p with sounding := some { x with ndp := true } }),
            { v0 with fmt := if x.stas.all (fun s => !bitOf (d.capsOf s r) 12) then 11 else 12, gi := min v.gi 2, punct := 0, bw := bw,
                      users := [⟨0x7FF, 0, 0, 0, 0, n, false, 0⟩], frame := .ndp (ltfCount n) }, []⟩
    else match x.left with
      | g :: _ => some ⟨d, { v0 with solicits := true, targets := g.map (fun s => (s, 1)), frame := .bfrp g }, []⟩
      | [] => none
  | none =>
    let ss := d.toSound r
    if !first || ss.isEmpty then none
    else
      let nc (s : Nat) : Nat := min 4 (bitsOf (d.capsOf s r) 4 1)
      some ⟨((d.onPhy r (fun p => { p with sounding := some { stas := ss, ndp := false, left := eights 2 ss, heard := [] } })).onMac r
              (fun m => { m with sounded := (d.youngAlloc r).map (fun a => a.snap) })).count (A.PHY.SND_SEQ_CNT r),
            { v0 with bw := chanWidth (d.rfe.get r).tuned, frame := .ndpa (ss.map (fun s => (s, nc s))) (d.sndNg r) (d.sndHigh r) }, []⟩

/-- The beacon at the head of the beacon queue, at the BSS's beacon rate, over the channel's width where BCN_DUP asks for it, with the
BIP of its BIGTK; one whose key is missing is not sent, nor is one of a radio away from the mesh channel (R153 to R156; spec/16 R377). -/
def Dev.fillBeacon (d : Dev) (r : Radio) (v : TxVec) : Dev × Option Filled :=
  if d.offMesh r then (d, none)
  else match (d.mac.get r).bcnQueue, tabFind (d.mac.get r).bss (((d.mac.get r).bcnQueue.headD (0, 0)).2) with
  | (_, i) :: _, some b =>
    let dsss := decide (0x10 ≤ b.bcnRate)
    let body := d.beaconBody r i
    let v0 : TxVec := { v with kind := .beacon, ac := 4, bss := i, fmt := if dsss then 0 else 1, gi := 3, ofdma := false,
                               bw := if b.bcnDup && !dsss then chanWidth (d.rfe.get r).tuned else 0, punct := 0, solicits := false,
                               targets := [], frame := .beacon body none,
                               users := [⟨0x7FF, 0, 0, 0, b.bcnRate % 16, 1, false, 0⟩] }
    match d.groupSlot b.bigtk with
    | .clear => (d, some ⟨d, v0, []⟩)
    | .slot k =>
      let (x, d1) := d.protect k (body.map (fun y => y.toNat))
      (d1, some ⟨d1, { v0 with frame := .beacon body (x.map (fun y => (k, y))) }, []⟩)
    | .missing => ((d.onMac r (fun m => { m with bcnQueue := m.bcnQueue.drop 1 })).count (A.MAC.TX_NOKEY_CNT r), none)
  | _, _ => (d, none)

/-- Put together what the MAC picks, in a vector of its width. -/
def Dev.fillPick (d : Dev) (r : Radio) (s : TxStart) (v : TxVec) (first : Bool) (bw : Nat) : Dev × Option Filled :=
  let plain (k : TxKind) (stas : List (Nat × Nat)) (f : TxFrame) : Dev × Option Filled :=
    (d, some ⟨d, { v with kind := k, ofdma := false, solicits := true, targets := stas, frame := f }, []⟩)
  if s.pick = .endTxop ∨ (s.pick ≠ .beacon ∧ !d.avail r) then (d, none)
  else match s.pick, d.youngAlloc r with
  | .beacon, _ => d.fillBeacon r v
  | .single qs, _ => d.fillSingle r v qs (s.rooms.headD 0)
  | .mu, some a =>
    if bitOf (d.sram32 (allocAt r a.buf)) 25 && decide (bitsOf (d.sram32 (allocAt r a.buf + 12)) 10 8 = v.ac) then
      d.fillMu r (allocAt r a.buf) v s.rooms first bw
    else (d, none)
  | .trigger, some a =>
    if bitOf (d.sram32 (allocAt r a.buf)) 24 && decide (bitsOf (d.sram32 (allocAt r a.buf + 20)) 10 8 = v.ac) then
      d.fillTrigger r (allocAt r a.buf) v
    else (d, none)
  | .mu, none | .trigger, none => (d, none)
  | .sounding, _ => (d, d.fillSounding r v first bw)
  | .rts k, _ => if d.staOn r k then plain .rts [(k, 1)] (.control (match d.station k with
      | some x => x.addrs.get r
      | none => 0)) else (d, none)
  | .muRts ks, _ => if ks ≠ [] ∧ ks.all (fun k => d.staOn r k) then plain .rts (ks.map (fun k => (k, 1))) (.control (2 ^ 48 - 1)) else (d, none)
  | .muBar, _ => match (d.mac.get r).txop with
    | some x => if x.pend = [] then (d, none) else plain .bar x.pendFrom .plain
    | none => (d, none)
  | .endTxop, _ => (d, none)

/-- Inkwell's code on a PPDU's MPDUs as they are read: what it corrects counts, and an MPDU it cannot correct is given up; a PPDU that
loses all it carried is not sent (spec/14 R340). -/
def Dev.inkRead (d : Dev) (x : Option Filled) (ce : Nat) (ue : List Nat) : Dev × Option Filled :=
  match x with
  | none => (d, none)
  | some f =>
    let bad := f.fids.filter (fun i => ue.contains i)
    let d1 := (bad.foldl (fun d i => match d.boardFind i with
      | some (_, _, b) => (d.gaveUp i RC.INTERNAL).inkUe b.entry
      | none => d) f.dev).countN A.MEM.INK_CE_CNT ce
    let left := f.fids.filter (fun i => !ue.contains i)
    if left = [] ∧ f.fids ≠ [] then (d1, none) else (d1, some { f with dev := d1, fids := left })

/-- A PPDU filled short of its plan counts once (R168). -/
def Dev.shortDone (d : Dev) (r : Radio) : Dev :=
  if (d.mac.get r).short then (d.onMac r (fun m => { m with short := false })).count (A.MAC.UNDERRUN_CNT r) else d

/-- Put together what the MAC picks: a TXOP's first PPDU takes the width and puncturing R137 leaves it, a later one no more than the
first's. Answers the device also where nothing is to be sent. -/
def Dev.fill (d : Dev) (r : Radio) (s : TxStart) (first : Bool) (bw : Nat) : Dev × Option Filled :=
  let (w, p) := if first then d.widthFor r s.vec else (min bw s.vec.bw, s.vec.punct)
  let (d1, x) := d.fillPick r s { s.vec with bw := w, punct := p } first bw
  match d1.inkRead x s.ce s.ue with
  | (d2, none) => (d2.onMac r (fun m => { m with short := false }), none)
  | (_, some f) =>
    let (w1, p1) := if first && !f.vec.ofdma then d.widthFor r f.vec else (f.vec.bw, f.vec.punct)
    let d2 := f.dev.shortDone r
    (d2, some { f with dev := d2, vec := { f.vec with bw := w1, punct := p1 } })

/-- How allocations are used and missed by a start; a TXOP without one counts as it starts (R189). -/
def Dev.allocUse (d : Dev) (r : Radio) (p : TxPick) (first : Bool) : Dev :=
  match p with
  | .mu | .trigger =>
    match d.youngAlloc r, (d.asc.radios.get r).missedAt with
    | some a, some t => if a.pub < t then d.count (A.ASC.REUSE_CNT r.num) else d
    | _, _ => d
  | .single _ => if first && (d.youngAlloc r).isNone then d.count (A.ASC.SU_FALLBACK_CNT r.num) else d
  | _ => d

/-! The OBSS power limit (R138) -/

/-- Total conducted power, 0.25 dB at the antenna port, of a TXOP gained during an OBSS PPDU. -/
def Dev.obssLimit (d : Dev) (r : Radio) : Option Int :=
  match (d.mac.get r).obss with
  | some (lvl, end_) =>
    if end_ ≤ d.tb then none
    else
      let ref : Int := if (d.enabled r).length ≤ 2 then 21 else 25
      some (4 * (ref - (lvl + 82)))
  | none => none

/-! Starts -/

/-- No PPDU, response or command is on its way, and the MAC and RGL are in service. -/
def Dev.macFree (d : Dev) (r : Radio) : Bool :=
  d.ready (.mac r) && d.ready (.phy r) && (d.phy.get r).tx.isNone && (d.rfe.get r).wait.isNone && (d.mac.get r).wait.isNone
    && (d.mac.get r).due.isNone

/-- A start is possible: also no self-test or data-plane reset keeps the radio quiet (spec/07 R181). -/
def Dev.macIdle (d : Dev) (r : Radio) : Bool := d.macFree r && !d.mld.quiesce.get r && !d.mld.dpReset

/-- The stations a pick serves. -/
def Dev.pickStas (d : Dev) (r : Radio) (p : TxPick) : List Nat :=
  let base := (d.youngAlloc r).map (fun a => allocAt r a.buf)
  match p, base with
  | .mu, some b => (d.dlUsers r b d.tb).1.map (fun u => u.1.sta)
  | .trigger, some b => (d.ulUsers r b d.tb).1.map (fun u => u.1)
  | .sounding, _ => match (d.phy.get r).sounding with
    | some x => x.stas
    | none => d.toSound r
  | .rts k, _ => [k]
  | .muRts ks, _ => ks
  | _, _ => []

/-- Frames of protected TIDs for members go first while a restricted service period runs: what is picked is theirs, or none of them
waits (R160). -/
def Dev.rtwtFirst (d : Dev) (r : Radio) (p : TxPick) : Bool :=
  let own (q : Nat) (x : Twt) : Bool := match qKind q with
    | some (.sta s t) => x.members.contains s && x.tids.testBit t
    | _ => false
  let act := (d.mac.get r).twt.filter (fun e => decide (e.2.typ = 2) && e.2.sp.isSome)
  let theirs (x : Twt) : Bool := match p with
    | .beacon | .endTxop | .muBar => true
    | .single qs => qs.all (fun q => own q x)
    | _ => (d.pickStas r p).all (fun s => x.members.contains s)
  act.all (fun e => theirs e.2 || !e.2.members.any (fun s => (List.range 8).any (fun t =>
    e.2.tids.testBit t && (d.offer r (8 * s + t)).isSome)))

/-- Send what was put together, within the OBSS limit of its TXOP: per chain of this PPDU at the chip port (R138). -/
def Dev.send (d : Dev) (r : Radio) (f : Filled) (ready : Bool) : Dev :=
  let lim := match (d.mac.get r).txop with
    | some x => x.limit
    | none => none
  let v := match lim with
    | some p => { f.vec with pref := min (p - Int.ofNat (dirGain (d.txChains r f.vec).length) - d.femGain r) f.vec.pref }
    | none => f.vec
  f.dev.transmit r v f.fids ready

/-- The start came to nothing: no PPDU is on its way. -/
def Dev.noStart (d : Dev) (r : Radio) : Bool := (d.phy.get r).tx.isNone && (d.rfe.get r).wait.isNone

/-- Bytes of the frames of a PPDU. -/
def Dev.psdu (d : Dev) (fids : List Nat) : Nat := (fids.filterMap d.boardFind).foldl (fun n x => n + x.2.2.entry.len) 0

/-- A PSDU longer than RTS_THR is sent only after an RTS and its CTS (ACC_CFG). -/
def Dev.needsRts (d : Dev) (r : Radio) (f : Filled) (prot : Bool) : Bool :=
  let thr := d.fld (A.MAC.ACC_CFG r) 15 0
  !prot && decide (thr ≠ 0xFFFF) && decide (thr < f.dev.psdu f.fids)

/-! A TXOP ends -/

/-- The vector of a control frame to a receiver at the response power, non-HT on the primary (R142, R167). -/
def Dev.ctrlVec (d : Dev) (r : Radio) (k : TxKind) (ra durUs : Nat) : TxVec :=
  { kind := k, fmt := 1, bw := 0, punct := 0, gi := 3, ofdma := false, pref := signed 9 (d.fld (A.MAC.RESP_CFG r) 16 8),
    users := [], durUs := durUs, charge16 := 0, tolUs := 50, navUs := 0, solicits := false, targets := [], ac := 3, bss := 0,
    frame := .control ra }

/-- The TXOP ends: a CF-End, 20 bytes at 6 Mb/s to all, when at least 100 µs of its NAV are left; a DL MU PPDU whose MU-BAR was not
sent has failed (R133). The other radio of a non-STR pair holds a CF-End as any start (spec/07 R179). -/
def Dev.txopFinish (d : Dev) (r : Radio) : Dev :=
  let m := d.mac.get r
  match m.txop with
  | none => d
  | some x =>
    let d1 := x.pend.foldl (fun d f => d.failedAttempt r f) d
    let d2 := (d1.onMac r (fun m => { m with txop := none, txopEnd := d.tb })).onPhy r (fun p => { p with sounding := none })
    let f := d.rfe.get r
    if d.bit (A.MAC.ACC_CFG r) 17 && decide (d.tb + usT 100 ≤ m.ownNav) && f.locked && decide (f.cur = .receive ∨ f.cur = .transmit)
        && d.noStart r then
      if d.nstrHolds r false then d2.count A.MLD.NSTR_DEFER_CNT
      else d2.transmit r (d2.ctrlVec r .cfEnd (2 ^ 48 - 1) 52) [] true
    else d2

/-- The exchange is over: a TXOP of one PPDU, or one that has reached its end, ends, and any under a quiesce (spec/07 R181). -/
def Dev.txopNext (d : Dev) (r : Radio) : Dev :=
  match (d.mac.get r).txop with
  | some x =>
    if (x.pend = [] ∧ ((x.single ∧ x.done) ∨ (!x.single ∧ x.until_ ≤ d.tb))) ∨ d.mld.quiesce.get r then d.txopFinish r else d
  | none => d

/-- The MAC notes the end of a station's exchange, and the TMG, while it can measure the queues, that its depths are as they stand
(spec/08 R192, R193). -/
def Dev.exchEnd (d : Dev) (s : Nat) : Dev :=
  if 1024 ≤ s then d
  else
    let d1 := d.sramPut (0x80 * s + 0x0C) 4 d.tb
    if d.serving then d1.sramPut (0x80 * s + 0x50) 4 d.tb else d1

/-- The MAC charges the stations of an exchange and notes its end (spec/08 R192, R195). -/
def Dev.charged (d : Dev) (r : Radio) (v : TxVec) : Dev :=
  let sum := v.targets.foldl (fun n x => n + x.2) 0
  let d1 := v.targets.foldl (fun d x =>
    let at_ := 0x80 * x.1 + 8
    if x.1 < 1024 then (d.sramPut at_ 4 (d.sramGet at_ 4 + v.charge16 * x.2 / max 1 sum)).exchEnd x.1 else d) d
  if v.targets = [] then d1
  else d1.onAsc (fun a => { a with radios := a.radios.set r { a.radios.get r with exchanges := (a.radios.get r).exchanges ++ [16 * v.durUs] } })

/-! Access (R134 to R138; spec/07 R177) -/

/-- The moments from which what a TXOP starts with was ready: its frames' and its receivers' queue heads' entry, a beacon's TBTT. -/
def Dev.readyTimes (d : Dev) (f : Filled) (r : Radio) : List Nat :=
  (f.fids.filterMap f.dev.boardFind).map (fun x => x.2.2.entry.stamp)
    ++ (f.vec.targets.flatMap (fun x => (List.range 8).filterMap (fun t => (d.queue (8 * x.1 + t)).entries.head?.map (fun e => e.stamp))))
    ++ (if f.vec.kind = .beacon then ((d.mac.get r).bcnQueue.take 1).map (fun e => e.1) else [])

/-- The access delay from the moment a frame was ready to the start of a TXOP (spec/07 R177). -/
def Dev.accessDelay (d : Dev) (r : Radio) (ready : List Nat) : Dev :=
  match ready with
  | [] => d
  | t :: ts =>
    let us := min 65535 ((d.tb - max (ts.foldl min t) (d.mac.get r).txopEnd) / 250)
    d.onMld (fun m => { m with accDly := m.accDly.set r ((15 * m.accDly.get r + us) / 16) })

/-- The AC that gained access starts a TXOP with what it picks, where that fits: the TXOP's limit, what must not begin before its end,
a sounding list that waits, protection by RTS. `losers`: queues whose counters reached zero in the same slot act as after a failed
transmission. None: nothing of it happens. -/
def Dev.txopOpen (d : Dev) (r : Radio) (ac : Nat) (losers : List Nat) (s : TxStart) : Option Dev :=
  let lim := if ac = 4 then 0 else 32 * d.fld (acReg r ac) 31 16
  let go := d.tb + d.wayToTx r
  match d.fill r { s with vec := { s.vec with ac := ac } } true 0 with
  | (d1, none) => some d1
  | (_, some f) =>
    let exch := d.exchTicks r f.vec
    let by_ := d.endBy r d.tb (f.vec.targets.map (fun y => y.1)) (go + if lim = 0 then exch else usT lim)
    let ss := d.toSound r
    let sound := decide (lim ≠ 0) && !ss.isEmpty && decide (go + d.soundTicks r ss ≤ d.endBy r d.tb ss (go + usT lim))
    if by_ < go + exch ∨ d.needsRts r f false ∨ sound ≠ decide (s.pick = .sounding) then none
    else
      let ol := d.obssLimit r
      let x : Txop := { ac := ac, until_ := by_, bw := f.vec.bw, start := d.tb, limit := ol, single := decide (lim = 0),
                        done := decide (s.pick ≠ .sounding ∧ f.vec.kind ≠ .rts), prot := false, pend := [], pendFrom := [] }
      let d1 := losers.foldl (fun d a => d.cwFail r a)
        (f.dev.onMac r (fun m => { m with txop := some x, eifs := false, backoff := tabDel m.backoff ac }))
      let d2 := if ol.isSome then (d1.allocUse r s.pick true).count (A.MAC.OBSS_PWR_CNT r) else d1.allocUse r s.pick true
      let d3 := d2.send r { f with dev := d2 } s.ready
      some (if d3.noStart r then d3.txopFinish r else d3.accessDelay r (d.readyTimes f r))

/-- BACKOFF_EXPIRY: the first counter of the queues with a frame ready reaches zero; of those that reach it in this slot the highest,
Beacon, VO, VI, BE, BK, starts a TXOP, and each lower one acts as after a failed transmission (R134 to R138). A start in step with the
other radio of a non-STR pair waits for no counter (spec/07 R179). -/
def effBackoffExpiry (r : Radio) (acs : List Nat) (s : TxStart) (d : Dev) : Dev :=
  match acs.map (fun a => d.expiry r a) with
  | [] => d
  | t :: ts =>
    let e := if s.sync then d else d.at_ (ts.foldl min t)
    let up := if s.sync then acs else acs.filter (fun a => decide (e.expiry r a ≤ e.tb))
    match [4, 3, 2, 0, 1].find? (fun a => up.contains a) with
    | none => d
    | some ac =>
      if !e.macIdle r || !e.mediumIdle r || (e.mac.get r).txop.isSome || decide (s.pick = .beacon) != decide (ac = 4)
          || !e.rtwtFirst r s.pick || (s.sync && !e.syncOk r) then d
      else if e.nstrHolds r s.sync then e.count A.MLD.NSTR_DEFER_CNT
      else (e.txopOpen r ac (if s.sync then [] else up.filter (fun a => decide (a ≠ ac))) s).getD d

/-- TXOP_NEXT_PPDU: the next PPDU of the TXOP goes on its way, to start SIFS after the last PPDU or response, or the TXOP ends: at its
end, under a quiesce, or when that moment has passed (R133, R136; spec/07 R181). -/
def effTxopNextPpdu (r : Radio) (s : TxStart) (d : Dev) : Dev :=
  match (d.mac.get r).txop with
  | none => d
  | some x =>
    let due := (d.mac.get r).airEnd + sifs r - d.intoTx r true
    if !d.macFree r then d
    else if s.pick = .endTxop ∨ !d.macIdle r ∨ due < d.tb then d.txopFinish r
    else if x.single ∧ x.done ∧ s.pick ≠ .muBar ∨ s.pick = .beacon ∨ !d.rtwtFirst r s.pick then d
    else if d.nstrHolds r s.sync then d.count A.MLD.NSTR_DEFER_CNT
    else
      let e := d.at_ due
      match e.fill r { s with vec := { s.vec with ac := x.ac } } false x.bw with
      | (d1, none) => d1
      | (_, some f) =>
        let end_ := e.tb + e.wayToTx r + e.exchTicks r f.vec
        let by_ := e.endBy r x.start (f.vec.targets.map (fun y => y.1)) (if x.single then end_ else x.until_)
        if by_ < end_ ∨ e.needsRts r f x.prot then d
        else
          let y := { x with done := x.done || decide (s.pick ≠ .sounding ∧ f.vec.kind ≠ .rts), until_ := by_ }
          let d1 := (f.dev.allocUse r s.pick false).onMac r (fun m => { m with txop := some y })
          let d2 := d1.send r { f with dev := d1 } s.ready
          if d2.noStart r then d2.txopFinish r else d2

/-- TRANSMIT_COMMAND: MAC_x issues a transmit command for a vector and the MPDUs bound to it (R73; spec/07 R179). -/
def effTransmitCommand (r : Radio) (v : TxVec) (fids : List Nat) (ready : Bool) (d : Dev) : Dev :=
  if !d.macIdle r then d
  else if d.nstrHolds r false then d.count A.MLD.NSTR_DEFER_CNT
  else d.withLinks (fun d => d.transmit r v (fids.filter (fun f => (d.boundTo r).contains f)) ready)

/-! The end of a PPDU and failed attempts (R130, R144, R145) -/

/-- MPDUs of a PPDU that needs no acknowledgement are done. -/
def Dev.allSent (d : Dev) (fids : List Nat) : Dev := fids.foldl (fun d f => d.acked f) d

/-- The held group frames of a BSS have all gone (R158). -/
def Dev.groupDone (d : Dev) (r : Radio) : Dev :=
  d.onMac r (fun m => { m with groupOpen := m.groupOpen.filter (fun b => decide ((d.queue (8192 + 16 * r.num + b)).entries ≠ [])) })

/-- ACKSTAT of a station: MPDUs attempted and acknowledged (spec/08 R192). -/
def Dev.ackStat (d : Dev) (r : Radio) (s tried ok : Nat) : Dev :=
  if 1024 ≤ s then d
  else
    let at_ := 0x20000 + 0x100 * (3 * s + r.num) + 0x60
    (d.sramPut at_ 2 (min 65535 (d.sramGet at_ 2 + tried))).sramPut (at_ + 2) 2 (min 65535 (d.sramGet (at_ + 2) 2 + ok))

/-- An attempt has failed: its MPDUs, its AC's window, its TXOP (R144, R145; spec/05 R127). -/
def Dev.attemptFailed (d : Dev) (r : Radio) (v : TxVec) (fids : List Nat) : Dev :=
  let d0 := fids.foldl (fun d f => match d.boardFind f with
    | some (s, _, _) => (d.ackStat r s 1 0).failedAttempt r f
    | none => d) d
  let d1 := ((d0.cwFail r v.ac).charged r v)
  let d2 := match (d1.phy.get r).sounding with
    | some x => (d1.countN (A.PHY.FB_MISS_CNT r) ((x.left.headD []).filter (fun s => !x.heard.contains s)).length)
    | none => d1
  d2.txopFinish r

/-- TX_PPDU_END: the PPDU on air ends with its last sample (R68, R89, R130, R144, R158). `detect`: the chains' detector readings. -/
def effTxPpduEnd (r : Radio) (detect : List Int) (d : Dev) : Dev :=
  match (d.phy.get r).tx with
  | none => d
  | some x => d.withLinks (fun d =>
      let d1 := ((d.at_ x.stop).txEnd r 0 detect x).afterTx r x
      let v := x.vec
      match v.kind with
      | .beacon => (((d1.bcnSent r v.bss).cwGood r 4).txopNext r)
      | .response => v.targets.foldl (fun d y => d.exchEnd y.1) d1
      | .cfEnd => d1.onMac r (fun m => { m with ownNav := d1.tb })
      | .ctsSelf => d1
      | _ =>
        if v.solicits then
          let trig := decide (v.kind = .trigger ∨ v.kind = .sounding ∨ (v.kind = .heat ∧ x.fids = [])) 
            || decide (1 < v.targets.length ∧ v.kind ≠ .rts)
          let fids := match (d1.mac.get r).txop with
            | some t => if t.pend = [] then x.fids else t.pend
            | none => x.fids
          let w : RespWait := { until_ := x.stop + sigExt r v.fmt + usT (d1.fld (A.MAC.RESP_CFG r) 7 0),
                                from_ := v.targets.map (fun y => y.1), trig := trig, ac := v.ac, fids := fids, vec := v }
          d1.onMac r (fun m => { m with wait := some w,
                                        txop := m.txop.map (fun t => { t with pend := [], pendFrom := [] }) })
        else if v.ofdma ∧ x.fids ≠ [] then
          d1.onMac r (fun m => { m with txop := m.txop.map (fun t => { t with pend := x.fids, pendFrom := v.targets }) })
        else ((((d1.allSent x.fids).charged r v).cwGood r v.ac).groupDone r).txopNext r)

/-- RESPONSE_TIMEOUT: the wait ends without a PPDU having been detected; one that was detected ends the wait when it ends
(R144). -/
def effResponseTimeout (r : Radio) (d : Dev) : Dev :=
  match (d.mac.get r).wait with
  | none => d
  | some w =>
    let p := (d.phy.get r).rx
    if p = .preamble ∨ p = .body ∨ p = .hold then d
    else
      let d1 := ((d.at_ w.until_).onMac r (fun m => { m with wait := none })).count (A.MAC.RESP_TIMEOUT_CNT r)
      d1.attemptFailed r w.vec w.fids

/-- SYN_UNLOCK: a PPDU on air ends incomplete and is a failed attempt for each of its MPDUs (R75, R145). -/
def effSynUnlock (r : Radio) (d : Dev) : Dev :=
  d.withLinks (fun d =>
    match d.unlock r with
    | (d1, some x) => (d1.count (A.MAC.TX_ABORT_CNT r)).attemptFailed r x.vec x.fids
    | (d1, none) => d1)

/-- NAV_EXPIRY: the earliest NAV that runs ends (R135). -/
def effNavExpiry (r : Radio) (d : Dev) : Dev :=
  let m := d.mac.get r
  match [m.navBasic, m.navIntra, m.ownNav].filter (fun t => decide (d.tb < t)) with
  | [] => d
  | t :: ts => (d.at_ (ts.foldl min t)).bcnSeen r

/-! Quiet windows (spec/03 R78) -/

/-- QUIET_WINDOW_START: the CTS-to-self takes 44 µs and its Duration covers the rest; the due calibrations follow (R74, R77, R78). -/
def effQuietWindowStart (r : Radio) (durUs : Nat) (d : Dev) : Dev :=
  let f := d.rfe.get r
  let m := d.mac.get r
  let need := 47 + ceilDiv (25 * d.fld (A.RFE.RAMP_CFG r) 4 0 + 250) 250 + (if f.periodicDue then 300 else 0) + (if f.recalDue then 180 else 0)
  let end_ := d.tb + d.wayToTx r + usT (44 + durUs)
  let clear := (match d.nextHeat r with
      | some t => decide (end_ < t)
      | none => true) && (d.beaconing r).all (fun e => decide (end_ < d.tbttTick r e.1 e.2))
  if !d.macIdle r || !(f.periodicDue || f.recalDue) || !f.locked || decide (f.cur ≠ .receive ∨ f.calPhase ≠ .none) || m.txop.isSome
      || decide (d.tb < m.ownNav) || !d.mediumIdle r || decide (1456 < durUs ∨ 44 + durUs < need) || !clear then d
  else if d.nstrHolds r false then d.count A.MLD.NSTR_DEFER_CNT
  else d.withLinks (fun d => d.transmit r { d.ctrlVec r .ctsSelf (d.macAddr r) 44 with navUs := durUs } [] true)

/-- QUIET_WINDOW_END. -/
def effQuietWindowEnd (r : Radio) (d : Dev) : Dev := d.withLinks (fun d => d.quietEnd r)

end Sys2Proof.Machine
end

