-- ==== Sys2Proof/Machine/Graph.lean ====
section
/-! DEFINITION. What the standard scheduling graph computes: GATHER, RANK, SOUND, GROUP, PLACE, RATE, PAD and EMIT of a round
(spec/08 R193 to R202, R210). A node's effects happen with its DONE. -/

namespace Sys2Proof.Machine

/-! Station records (R192) -/

/-- Offset of a station's link record. -/
def linkRec (s : Nat) (r : Radio) : Nat := 0x20000 + 0x100 * (3 * s + r.num)

/-- FLAGS of a core record. -/
def Dev.flagsOf (d : Dev) (s : Nat) : Word := d.sram32 (0x80 * s)

/-- The airtime debt, 1/16 µs. -/
def Dev.debtOf (d : Dev) (s : Nat) : Int := signed 32 (d.sram32 (0x80 * s + 4)).toNat

/-- How many ticks ago a TB[31:0] value was. -/
def Dev.age32 (d : Dev) (t : Word) : Nat := (wd d.tb - t).toNat

/-- Queued bytes by direction and TID. -/
def Dev.dlOf (d : Dev) (s t : Nat) : Nat := d.sramGet (0x80 * s + 0x10 + 4 * t) 4
def Dev.ulOf (d : Dev) (s t : Nat) : Nat := d.sramGet (0x80 * s + 0x30 + 4 * t) 4

/-- The TIDs of a station with DL backlog for a radio, and with UL backlog. -/
def Dev.dlTids (d : Dev) (s : Nat) (r : Radio) : List Nat :=
  let map := match d.station s with
    | some x => x.map
    | none => 0
  (List.range 8).filter (fun t => (map / 2 ^ (3 * t)).testBit r.num && decide (0 < d.dlOf s t))
def Dev.ulTids (d : Dev) (s : Nat) : List Nat := (List.range 8).filter (fun t => decide (0 < d.ulOf s t))
def Dev.dlBacklog (d : Dev) (s : Nat) (r : Radio) : Nat := (d.dlTids s r).foldl (fun n t => n + d.dlOf s t) 0
def Dev.ulBacklog (d : Dev) (s : Nat) : Nat := (d.ulTids s).foldl (fun n t => n + d.ulOf s t) 0

/-- Stale state of a station (R193). -/
def Dev.dlStale (d : Dev) (s : Nat) : Bool :=
  decide (0 < signed 32 (d.sram32 (0x80 * s + 0x0C) - d.sram32 (0x80 * s + 0x50)).toNat)
def Dev.ulStale (d : Dev) (s : Nat) : Bool := decide (msT (d.fld A.ASC.AGE_CFG 31 16) < d.age32 (d.sram32 (0x80 * s + 0x54)))

/-- Eligible at all, for DL, for UL (R194). -/
def Dev.schedOn (d : Dev) (r : Radio) (s : Nat) : Bool :=
  let f := d.flagsOf s
  bitOf f 0 && bitOf f (1 + r.num) && bitOf (d.capsOf s r) 0 && d.twtAllows r s d.tb
def Dev.dlEligible (d : Dev) (r : Radio) (s : Nat) : Bool :=
  d.schedOn r s && !bitOf (d.flagsOf s) 4 && !(d.dlTids s r).isEmpty
def Dev.ulEligible (d : Dev) (r : Radio) (s : Nat) : Bool :=
  d.schedOn r s && !bitOf (d.flagsOf s) 24 && (!(d.ulTids s).isEmpty || d.ulStale s)

/-- The stations eligible on a radio. -/
def Dev.eligibleOn (d : Dev) (r : Radio) : List Nat :=
  (tabKeys d.mld.stations).filter (fun s => d.dlEligible r s || d.ulEligible r s)

/-! Policy (R204) -/

/-- The registers that govern a round: ROUND_CFG, AGE_CFG to MU_CFG, EXT_BASE. -/
def polRegs : List Nat := [A.ASC.ROUND_CFG, A.ASC.AGE_CFG, A.ASC.POL_CFG, A.ASC.CLASS_BONUS, A.ASC.RATE_CFG, A.ASC.UL_CFG, A.ASC.DL_CFG,
  A.ASC.MU_CFG, A.ASC.EXT_BASE_LO, A.ASC.EXT_BASE_HI]

/-- Their values now; the device with other values in them. -/
def Dev.polNow (d : Dev) : List (Nat × Word) := polRegs.map (fun a => (a, d.rd a))
def Dev.setPol (d : Dev) (ps : List (Nat × Word)) : Dev := ps.foldl (fun d p => d.wr p.1 p.2) d

/-! GATHER (R195) -/

/-- The weight of a station. -/
def Dev.weightOf (d : Dev) (s : Nat) : Nat := bitsOf (d.flagsOf s) 23 16

/-- A station's share of the air time of an exchange, 1/16 µs: by its weight among those eligible. -/
def debtShare (e w sum : Nat) : Nat := e * w / sum + (if e * w % sum ≠ 0 ∧ Config.debtUp e w sum then 1 else 0)

/-- Debt of one station: what the exchanges accrue to it, what it was served, within the cap. -/
def Dev.gather (d : Dev) (w : Work) (s : Nat) : Dev :=
  let sum := (w.prev.map d.weightOf).foldl (· + ·) 0
  let got := if w.prev.contains s then w.exch.foldl (fun n e => n + debtShare e (d.weightOf s) sum) 0 else 0
  let served := d.sramGet (0x80 * s + 8) 4
  if got = 0 ∧ served = 0 then d
  else
    let cap : Int := 16 * Int.ofNat (d.fld A.ASC.POL_CFG 15 0)
    let v := max (-cap) (min cap (d.debtOf s + Int.ofNat got - Int.ofNat served))
    (d.sramPut (0x80 * s + 4) 4 (unsigned 32 v)).sramPut (0x80 * s + 8) 4 0

/-! RANK -/

/-- The score of a station, 1/16 µs. -/
def Dev.score (d : Dev) (s : Nat) : Int :=
  let c := bitsOf (d.flagsOf s) 9 8
  d.debtOf s + 4000 * signed 8 (d.fld A.ASC.CLASS_BONUS (8 * c + 7) (8 * c))

/-- Put a station in score order; ties go to the lower index. -/
def rankIn (score : Nat → Int) (s : Nat) : List Nat → List Nat
  | [] => [s]
  | t :: ts => if score t < score s ∨ (score t = score s ∧ s < t) then s :: t :: ts else t :: rankIn score s ts

/-- RANK: the 64 eligible stations with the highest score, with their decision records; stale ones are flagged and counted
(R193, R195). -/
def Dev.rank (d : Dev) (r : Radio) (w : Work) : Dev × Work × List (Nat × Nat × Nat) :=
  let cs := ((d.eligibleOn r).foldl (fun l s => rankIn d.score s l) []).take 64
  let cands := cs.map (fun s => (0x10, s, unsigned 32 (d.score s)))
  let stale := cs.filter (fun s => d.dlStale s || d.ulStale s)
  let d1 := cs.foldl (fun d s =>
    let f := d.flagsOf s
    d.sramPut (0x80 * s) 4 (putBits f 6 5 (b2n (d.dlStale s) + 2 * b2n (d.ulStale s))).toNat) d
  ((d1.countN A.ASC.STALE_CNT stale.length).prefetchFb r cs,
   { w with dl := cs.filter (d.dlEligible r), ul := cs.filter (d.ulEligible r) },
   cands ++ stale.map (fun s => (0x11, s, b2n (d.dlStale s) + 2 * b2n (d.ulStale s))))

/-! SOUND and GROUP (R196, R197) -/

/-- The last sounding of a station on a radio is younger than SND_MS. -/
def Dev.sounded (d : Dev) (r : Radio) (s : Nat) : Bool :=
  let t := d.sramGet (linkRec s r + 8) 8
  decide (t ≠ 0 ∧ d.tb - t ≤ msT (d.fld A.ASC.AGE_CFG 15 0))

/-- The stations to sound. -/
def Dev.soundList (d : Dev) (r : Radio) (w : Work) : List Nat :=
  (w.dl.filter (fun s => decide (bitsOf (d.capsOf s r) 15 14 ≠ 0) && !d.sounded r s)).take (d.fld (A.PHY.SND_CFG r) 12 8)

/-- A station may be in a MU-MIMO group. -/
def Dev.muAble (d : Dev) (r : Radio) (s : Nat) : Bool :=
  bitOf (d.capsOf s r) 15 && !bitOf (d.flagsOf s) 25 && d.sounded r s

/-- Streams of a group member at most. -/
def Dev.muNss (d : Dev) (r : Radio) (s : Nat) : Nat := min 4 (bitsOf (d.capsOf s r) 4 1)

/-- Add users to a group in score order: within its size, its streams and the correlation limit on every subchannel of a mask. -/
def Dev.growGroup (d : Dev) (r : Radio) (mask : Nat) : List Nat → List Nat → List Nat
  | [], g => g
  | s :: ss, g =>
    let fits := decide (g.length < d.fld A.ASC.MU_CFG 11 8)
      && decide ((g.map (d.muNss r)).foldl (· + ·) (d.muNss r s) ≤ (d.enabled r).length)
      && g.all (fun t => (List.range 16).all (fun k => !mask.testBit k || decide (Config.vCorr (d.vOf r s) (d.vOf r t) k ≤ d.fld A.ASC.MU_CFG 7 0)))
    d.growGroup r mask ss (if fits then g ++ [s] else g)

/-- The groups of two or more. -/
def Dev.groupsOf (d : Dev) (r : Radio) (mask : Nat) : Nat → List Nat → List (List Nat)
  | 0, _ => []
  | fuel + 1, ss => match ss with
    | [] => []
    | s :: rest =>
      let g := d.growGroup r mask rest [s]
      let next := d.groupsOf r mask fuel (rest.filter (fun t => !g.contains t || decide (g.length < 2)))
      if 2 ≤ g.length then g :: next else next

/-! Rates (R199) -/

/-- SNR threshold of an MCS, dB; data bits per subcarrier and stream, in twelfths. -/
def mcsThr (m : Nat) : Nat := [2, 5, 8, 11, 15, 18, 21, 25, 29, 31, 34, 37, 40, 43].getD m 43
def mcsBits (m : Nat) : Nat := [6, 12, 18, 24, 36, 48, 54, 60, 72, 80, 90, 100, 108, 120].getD m 0

/-- 10 log10(n) in 0.01 dB. -/
def log10c (n : Nat) : Nat := [0, 0, 301, 477, 602, 699, 778, 845, 903].getD n 903

/-- The lowest SNR of a stream over subchannels, 0.25 dB; none where one is unmeasured. -/
def Dev.snrOf (d : Dev) (r : Radio) (s k subs : Nat) : Option Nat :=
  let v := (bitList (wd subs) 16).map (fun i => d.sramGet (linkRec s r + 0x20 + 16 * k + i) 1)
  if v = [] ∨ v.contains 0xFF then none else some (v.foldl min 0xFF)

/-- When a subchannel's SNR of a station was measured: by receive reports, each subchannel has its own time (spec/04 R118;
notes/assumptions/130.md). -/
def Dev.snrTime (d : Dev) (r : Radio) (s k : Nat) : Nat :=
  max ((tabFind (d.phy.get r).snrAt (16 * s + k)).getD (d.sramGet (linkRec s r + 0x10) 8)) (d.sramGet (linkRec s r + 8) 8)

/-- SNR data of some subchannels are old, or the extended record cannot be read in time (R193, R199). -/
def Dev.snrOld (d : Dev) (r : Radio) (s subs : Nat) : Bool :=
  let old (t : Nat) : Bool := decide (t = 0 ∨ msT (d.fld A.ASC.AGE_CFG 15 0) < d.tb - t)
  old (d.sramGet (linkRec s r + 0x10) 8) || (bitList (wd subs) 16).any (fun k => old (d.snrTime r s k)) || !d.serving
    || Config.extLate d.free s

/-- What UL loses because the station's headroom cannot bring it to the target RSSI, dB. -/
def Dev.shortfall (d : Dev) (r : Radio) (s : Nat) : Nat :=
  let i := d.sram32 (linkRec s r + 0x18)
  (signed 8 (d.fld A.ASC.UL_CFG 23 16) - (signed 8 (bitsOf i 7 0) + Int.ofNat (bitsOf i 15 8))).toNat

/-- SNR of stream k of a user less the margin, 0.01 dB. -/
def Dev.margined (d : Dev) (r : Radio) (ul : Bool) (s subs nss k : Nat) : Option Int :=
  let c := d.rd A.ASC.RATE_CFG
  let m := bitsOf c 7 0 + if d.snrOld r s subs then bitsOf c 15 8 else 0
  match d.snrOf r s (if ul then 0 else k) subs with
  | none => none
  | some v => some (25 * Int.ofNat v - 25 * Int.ofNat m
      - if ul then Int.ofNat (log10c nss + 100 * d.shortfall r s) else 0)

/-- A stream count and MCS pass the test. -/
def Dev.ratePasses (d : Dev) (r : Radio) (ul : Bool) (s subs nss mcs : Nat) : Bool :=
  (List.range nss).all (fun k => match d.margined r ul s subs nss k with
    | some v => decide (100 * Int.ofNat (mcsThr mcs) ≤ v)
    | none => false)

/-- The most streams and the highest MCS of a user: its own, the radio's chains, and what R115 and R120 allow the format: HE where the
station is no EHT one. -/
def Dev.nssCap (d : Dev) (r : Radio) (ul mu : Bool) (s subs : Nat) : Nat :=
  let c := d.capsOf s r
  let n := if ul then min (min 4 (bitsOf c 8 5)) (d.chains r)
    else min (min (bitsOf c 4 1) (d.enabled r).length) (if mu then 4 else maxNss r)
  max 1 (if d.snrOld r s subs then min n (d.fld A.ASC.RATE_CFG 19 16) else n)
def Dev.mcsCap (d : Dev) (r : Radio) (s : Nat) : Nat :=
  let c := d.capsOf s r
  min (if bitOf c 12 then 13 else 11) (bitsOf c 19 16)

/-- The stream count and MCS with the highest rate that pass; where none passes the spec states no choice, and a free value is
taken for each. -/
def Dev.rateFor (d : Dev) (r : Radio) (ul mu : Bool) (s subs : Nat) : Nat × Nat :=
  let all := ((List.range (d.nssCap r ul mu s subs)).map (fun n => (List.range (d.mcsCap r s + 1)).map (fun m => (m, n + 1)))).flatten
  let ok := all.filter (fun x => d.ratePasses r ul s subs x.2 x.1)
  match ok with
  | [] => (d.freeVal (d.mcsCap r s + 1), 1 + d.freeVal (d.nssCap r ul mu s subs))
  | x :: xs => xs.foldl (fun b y => if b.2 * mcsBits b.1 < y.2 * mcsBits y.1 then y else b) x

/-! Sizes and places (R198) -/

/-- Data subcarriers of an RU or MRU (IEEE 802.11be). -/
def dataTones (t : Nat) : Nat :=
  let e := [(26, 24), (52, 48), (78, 72), (106, 102), (132, 126), (242, 234), (484, 468), (726, 702), (996, 980), (1480, 1448),
    (1722, 1682), (1992, 1960), (2476, 2428), (2988, 2940), (3472, 3408), (3984, 3920)]
  match e.find? (fun x => decide (x.1 = t)) with
  | some x => x.2
  | none => t

/-- The sizes offered, rising: RUs, with MRUs where POL_CFG allows them, up to MAX_RU and the station's width. -/
def Dev.sizes (d : Dev) (bw : Nat) : List Nat :=
  let top := [26, 52, 106, 242, 484, 996, 1992, 3984].getD (d.fld A.ASC.POL_CFG 18 16) 996
  let wide := [242, 484, 996, 1992, 3984].getD bw 242
  (if d.bit A.ASC.POL_CFG 24 then [26, 52, 78, 106, 132, 242, 484, 726, 996, 1480, 1722, 1992, 2476, 2988, 3472, 3984]
    else [26, 52, 106, 242, 484, 996, 1992, 3984]).filter (fun t => decide (t ≤ top ∧ t ≤ wide))

/-- Data symbols of a TB PPDU of a length with a largest stream count and packet extension (R201). -/
def Dev.ulSymbols (d : Dev) (tbUs nss peUs : Nat) : Nat :=
  let c := d.rd A.ASC.UL_CFG
  (10 * tbUs - (400 + ltfCount nss * ltfT (bitsOf c 28 27) (bitsOf c 26 25)) - 10 * peUs) / symT (bitsOf c 26 25)

/-- Data symbols of a DL PPDU that lasts at most a number of µs. -/
def Dev.dlSymbols (d : Dev) (us users nss : Nat) : Nat :=
  let c := d.rd A.ASC.DL_CFG
  (10 * us - Config.muPreamble users (ltfCount nss) (bitsOf c 20 19)) / symT (bitsOf c 18 17)

/-- Bits of a symbol; bytes of some symbols. -/
def symBits (tones mcs nss : Nat) : Nat := dataTones tones * nss * mcsBits mcs / 12
def capBytes (syms tones mcs nss : Nat) : Nat := syms * symBits tones mcs nss / 8

/-- The packet extension a station needs, µs. -/
def Dev.peOf (d : Dev) (r : Radio) (s : Nat) : Nat := 4 * bitsOf (d.capsOf s r) 23 20

/-- The Heat a Heat round is for. -/
def Dev.heatOf (d : Dev) (r : Radio) (h : Nat) : Option HeatSlot := (d.asc.radios.get r).heatFor.bind (fun p => p.heats[h]?)

/-- The node's place in the member table of the plan. -/
def Dev.memberIdx (d : Dev) (p : HeatPlan) : Nat := p.members.findIdx (fun a => decide (a = d.msh.addr))

/-- The node's own subchannel mask, and its power limit, in a Heat. -/
def Dev.heatMask (d : Dev) (r : Radio) (h : Nat) : Nat × Nat :=
  match (d.asc.radios.get r).heatFor, d.heatOf r h with
  | some p, some x => (x.masks.getD (d.memberIdx p) 0, x.limits.getD (d.memberIdx p) 0xFF)
  | _, _ => (0, 0xFF)

/-- The subchannels PLACE starts from: those RGL allows, or the node's allotment in a Heat. -/
def Dev.placeMask (d : Dev) (r : Radio) (heat : Option Nat) : Nat :=
  let w := (d.rfe.get r).tuned
  match heat.bind (fun h => d.heatOf r h), heat with
  | some x, some h => if x.mode = 0 then (d.heatMask r h).1 else 2 ^ 2 ^ chanWidth w - 1
  | _, _ => ((chanSubs r w).zipIdx.filter (fun e => d.chanOk r e.1)).foldl (fun m e => m + 2 ^ e.2) 0

/-- The time a DL PPDU may take: DL_US, the AC's TXOP limit, the Heat (R201, R210). -/
def Dev.dlCapUs (d : Dev) (r : Radio) (heat : Option Nat) (ac : Nat) : Nat :=
  let l := 32 * d.fld (acReg r ac) 31 16
  let c := d.fld A.ASC.DL_CFG 15 0
  let c1 := if l = 0 then c else min c l
  match heat.bind (fun h => d.heatOf r h) with
  | some x => min c1 (x.durUs - Config.heatTail 0)
  | none => c1

/-- The time a TB PPDU may take: TB_US, the Heat (R201, R210). -/
def Dev.tbUs (d : Dev) (r : Radio) (heat : Option Nat) : Nat :=
  let t := d.fld A.ASC.UL_CFG 15 0
  match heat.bind (fun h => d.heatOf r h) with
  | some x => min t (x.durUs - Config.heatTail 1)
  | none => t

/-- The PPDU's width code and its lowest subchannel in the channel: the narrowest block around the primary that holds a mask. -/
def Dev.blockOf (d : Dev) (r : Radio) (mask : Nat) : Nat × Nat :=
  let w := (d.rfe.get r).tuned
  let bw := ((List.range (chanWidth w + 1)).find? (fun b => decide (mask &&& blockMask r w b = mask))).getD (chanWidth w)
  (bw, primIdx r w / 2 ^ bw * 2 ^ bw)

/-- The size of a user: the smallest whose capacity at the whole channel's rate covers the backlog, else the largest allowed. -/
def Dev.sizeFor (d : Dev) (r : Radio) (heat : Option Nat) (ul : Bool) (ac : Nat) (us : List Nat) (allowed : Nat) : Nat :=
  let s := us.headD 0
  let bw := bitsOf (d.capsOf s r) 11 9
  let (mcs, nss) := d.rateFor r ul (decide (1 < us.length)) s allowed
  let need := us.foldl (fun n s => n + if ul then d.ulBacklog s else d.dlBacklog s r) 0
  let syms := if ul then d.ulSymbols (d.tbUs r heat) nss (d.peOf r s) else d.dlSymbols (d.dlCapUs r heat ac) us.length nss
  let zs := (d.sizes bw).filter (fun t => decide (us.length ≤ 1 ∨ 242 ≤ t))
  if ul ∧ (need = 0 ∨ d.ulStale s) then 26
  else match zs.find? (fun t => decide (need ≤ capBytes syms t mcs nss)) with
    | some t => t
    | none => zs.getLastD 26

/-- Larger sizes go first, in score order among equals. -/
def bySize (x : List Nat × Nat) : List (List Nat × Nat) → List (List Nat × Nat)
  | [] => [x]
  | y :: ys => if y.2 < x.2 then x :: y :: ys else y :: bySize x ys

/-- Users with their sizes, each placed at the lowest position left for it; none where one has no place. `bw`, `lo`: the PPDU's
block, `allowed`: its subchannels. -/
def Dev.placeSizes (d : Dev) (r : Radio) (ul : Bool) (bw lo allowed : Nat) : List (List Nat × Nat) → List RuPlan → Option (List RuPlan)
  | [], acc => some acc
  | (us, size) :: rest, acc =>
    match Config.ruLowest (acc.map (fun p => p.ru)) size allowed bw (bitsOf (d.capsOf (us.headD 0) r) 11 9) with
    | none => none
    | some ru => d.placeSizes r ul bw lo allowed rest
        (acc ++ [{ ul := ul, ru := ru, subs := Config.ruSubch bw ru * 2 ^ lo, tones := size, users := us, done := false }])

/-- The sizes of users with one more of a size, larger first, if they all have a place. -/
def Dev.placeTry (d : Dev) (r : Radio) (ul : Bool) (bw lo allowed : Nat) (acc : List (List Nat × Nat)) (us : List Nat) (size : Nat) :
    Option (List (List Nat × Nat)) :=
  let next := bySize (us, size) acc
  (d.placeSizes r ul bw lo allowed next []).map (fun _ => next)

/-- Take candidates in score order: each gets its size, or the largest smaller one that is left for it; a group at least 242 tones;
until 148 users have one. -/
def Dev.placeAll (d : Dev) (r : Radio) (ul : Bool) (bw lo allowed : Nat) : List (List Nat × Nat) → List (List Nat × Nat) →
    List (List Nat × Nat)
  | [], acc => acc
  | (us, size) :: rest, acc =>
    let n := acc.foldl (fun k p => k + p.1.length) 0
    let zs := (d.sizes (bitsOf (d.capsOf (us.headD 0) r) 11 9)).filter (fun t => decide (t ≤ size ∧ (us.length ≤ 1 ∨ 242 ≤ t)))
    if 148 < n + us.length then acc
    else d.placeAll r ul bw lo allowed rest ((zs.reverse.findSome? (fun t => d.placeTry r ul bw lo allowed acc us t)).getD acc)

/-- The AC of the highest priority of some TIDs: VO, VI, BE, BK (ACI 3, 2, 0, 1). -/
def topAc (ts : List Nat) : Nat :=
  let acs := ts.map acOf
  if acs.contains 3 then 3 else if acs.contains 2 then 2 else if acs.contains 0 ∨ acs = [] then 0 else 1

/-- The plan of the RUs of both sections, once GROUP has decided the groups: sizes in score order, then larger ones placed first. -/
def Dev.planRus (d : Dev) (r : Radio) (heat : Option Nat) (w : Work) : List RuPlan :=
  let mask := d.placeMask r heat
  let (bw, lo) := d.blockOf r mask
  let allowed := mask / 2 ^ lo
  let ac := topAc ((w.dl.map (fun s => d.dlTids s r)).flatten)
  let grouped := w.groups.flatten
  let units := w.dl.filterMap (fun s =>
    if grouped.contains s then w.groups.find? (fun g => decide (g.head? = some s)) else some [s])
  let plan (ul : Bool) (us : List (List Nat)) : List RuPlan :=
    (d.placeSizes r ul bw lo allowed (d.placeAll r ul bw lo allowed (us.map (fun u => (u, d.sizeFor r heat ul ac u mask))) []) []).getD []
  (if d.bit A.ASC.POL_CFG 27 then plan false units else []) ++ (if d.bit A.ASC.POL_CFG 26 then plan true (w.ul.map (fun s => [s])) else [])

/-- The lowest subchannel of a mask. -/
def lowSub (m : Nat) : Nat := ((List.range 16).find? (fun i => m.testBit i)).getD 0

/-- PLACE of a subchannel: the RUs whose lowest tone lies in it; PLACE 0 records the candidates left without one (R198, R237). -/
def Dev.placeNode (d : Dev) (r : Radio) (sub : Nat) (w : Work) : Work × List (Nat × Nat × Nat) :=
  let mine := w.rus.filter (fun p => decide (lowSub p.subs = sub))
  let w1 := { w with rus := w.rus.map (fun p => if lowSub p.subs = sub then { p with done := true } else p) }
  let recs := (mine.map (fun p => p.users.map (fun s =>
    let (mcs, nss) := d.rateFor r p.ul (decide (1 < p.users.length)) s p.subs
    (0x12, s, p.ru % 512 + nss % 16 * 2 ^ 12 + mcs % 256 * 2 ^ 16)))).flatten
  let left := if sub = 0 then ((w.dl ++ w.ul).eraseDups).filter (fun s => !w.rus.any (fun p => p.users.contains s)) else []
  (w1, recs ++ left.map (fun s => (0x13, s, 0)))

/-! RATE and power (R199, R200) -/

/-- The power offset a user asks of its RU, 0.25 dB (R200). -/
def Dev.offFor (d : Dev) (r : Radio) (s subs mcs nss : Nat) : Int :=
  let vs := (List.range nss).filterMap (fun k => d.margined r false s subs nss k)
  match vs with
  | [] => 0
  | v :: t =>
    let x := t.foldl min v
    let above := x - 100 * Int.ofNat (mcsThr (mcs + 1))
    let under := 100 * Int.ofNat (mcsThr mcs) - x
    max (-64) (min 24 (if mcs < 13 ∧ 0 < above then -(above / 25) else if 0 < under then (under + 24) / 25 else 0))

/-- The MU group slot of a group's user: the first is slot 1; the field holds no 8, and what it shows of an eighth user is open (R202;
notes/assumptions/133.md). -/
def Dev.muSlot (d : Dev) (n i : Nat) : Nat := if n ≤ 1 then 0 else if i < 7 then i + 1 else d.freeVal 8

/-- RATE of a subchannel: users of its RUs; the link record gets the choice. Users of one RU share its offset, the highest of theirs (R199,
R200; notes/assumptions/132.md). -/
def Dev.rateNode (d : Dev) (r : Radio) (sub : Nat) (w : Work) : Dev × Work × List (Nat × Nat × Nat) :=
  let mine := w.rus.filter (fun p => p.done && decide (lowSub p.subs = sub))
  let us := (mine.map (fun p =>
    let rated := p.users.map (fun s => (s, d.rateFor r p.ul (decide (1 < p.users.length)) s p.subs))
    let offs := rated.map (fun e => d.offFor r e.1 p.subs e.2.1 e.2.2)
    let off := offs.foldl max (offs.headD 0)
    rated.zipIdx.map (fun e =>
      ({ ul := p.ul, ru := p.ru, subs := p.subs, tones := p.tones, sta := e.1.1, slot := d.muSlot p.users.length e.2, mcs := e.1.2.1,
         nss := e.1.2.2, steered := !p.ul && d.sounded r e.1.1 && decide (bitsOf (d.capsOf e.1.1 r) 15 14 ≠ 0),
         off := if p.ul then 0 else off } : RuUser)))).flatten
  let cons := us.filter (fun u => d.snrOld r u.sta u.subs)
  let d1 := us.foldl (fun d u => ((d.sramPut (linkRec u.sta r + 4) 4 (u.mcs + 256 * u.nss)).sramPut (linkRec u.sta r + 0x60) 4 0)) d
  (d1.countN A.ASC.CONS_RATE_CNT cons.length, { w with users := w.users ++ us }, cons.map (fun u => (0x14, u.sta, 0)))

/-- P_REF: the highest value that RGL does not clamp, and no more than a spatial-reuse Heat's limit allows (R200). -/
def Dev.prefFor (d : Dev) (r : Radio) (heat : Option Nat) (mask : Nat) (us : List RuUser) : Int :=
  let (bw, lo) := d.blockOf r mask
  let rus := (us.map (fun u => (u.ru, u.tones, u.off))).foldl (fun l x => if l.any (fun y => decide (y.1 = x.1)) then l else l ++ [x]) []
  let mo := if rus = [] then 0 else meanOffset (rus.map (fun x => x.2))
  let chains := d.enabled r
  let punct := (2 ^ 2 ^ bw - 1) - mask / 2 ^ lo % 2 ^ 2 ^ bw
  let top := match d.rglStart r bw punct chains (chipTop r) 0 with
    | .go cut | .hold cut => chipTop r - Int.ofNat (cut.foldl (fun m e => max m e.2) 0)
    | .refuse _ => chipFloor r
  let lim := match heat.bind (fun h => d.heatOf r h), heat with
    | some x, some h =>
      let l := (d.heatMask r h).2
      if x.mode = 1 ∧ l ≠ 0xFF then Int.ofNat l - Int.ofNat (dirGain chains.length) - d.femGain r else chipTop r
    | _, _ => chipTop r
  min (chipTop r) (min top lim - mo)

/-! PAD and EMIT (R201, R202) -/

/-- PAD: the duration of the DL PPDU and the symbols of the TB PPDU. -/
def Dev.padNode (d : Dev) (r : Radio) (heat : Option Nat) (w : Work) : Work :=
  let dl := w.users.filter (fun u => !u.ul)
  let ul := w.users.filter (fun u => u.ul)
  let maxN (l : List RuUser) := l.foldl (fun n u => max n u.nss) 1
  let ac := topAc ((dl.map (fun u => d.dlTids u.sta r)).flatten)
  let cap := d.dlCapUs r heat ac
  let c := d.rd A.ASC.DL_CFG
  let pre := Config.muPreamble dl.length (ltfCount (maxN dl)) (bitsOf c 20 19)
  let want := dl.foldl (fun n u => max n (ceilDiv (8 * d.dlBacklog u.sta r) (symBits u.tones u.mcs u.nss))) 0
  let pe := ul.foldl (fun n u => max n (d.peOf r u.sta)) 0
  { w with dlUs := min cap (ceilDiv (pre + want * symT (bitsOf c 18 17)) 10), ulSym := d.ulSymbols (d.tbUs r heat) (maxN ul) pe }

/-- A DL user entry: its four words. -/
def Dev.dlEntry (d : Dev) (r : Radio) (w : Work) (us : Nat) (u : RuUser) : List Word :=
  let tids := [3, 2, 0, 1].flatMap (fun ac => (d.dlTids u.sta r).filter (fun t => decide (acOf t = ac)))
  let maxN := w.users.foldl (fun n x => if x.ul then n else max n x.nss) 1
  [wd (u.sta + u.ru * 2 ^ 12 + u.slot % 8 * 2 ^ 21 + u.nss % 16 * 2 ^ 24),
   wd (u.mcs + b2n (bitOf (d.capsOf u.sta r) 13) * 2 ^ 8 + b2n u.steered * 2 ^ 9 + unsigned 8 u.off * 2 ^ 16),
   wd ((List.range 8).foldl (fun n i => n + tids.getD i 0xF * 16 ^ i) 0),
   wd (capBytes (d.dlSymbols w.dlUs us maxN) u.tones u.mcs u.nss)]

/-- A UL user entry; the aggregation limit is open. -/
def Dev.ulEntry (d : Dev) (r : Radio) (w : Work) (u : RuUser) : List Word :=
  [wd (u.sta + u.ru * 2 ^ 12 + u.nss % 16 * 2 ^ 24),
   wd (u.mcs + b2n (bitOf (d.capsOf u.sta r) 13) * 2 ^ 8 + d.fld A.ASC.UL_CFG 23 16 * 2 ^ 16),
   wd (topAc (d.ulTids u.sta) + d.freeVal 16 * 16),
   wd (min (d.ulBacklog u.sta) (capBytes w.ulSym u.tones u.mcs u.nss))]

/-- Words at a place of the scheduler SRAM. -/
def Dev.sramWords (d : Dev) (off : Nat) (ws : List Word) : Dev :=
  ws.zipIdx.foldl (fun d e => d.sramPut (off + 4 * e.2) 4 e.1.toNat) d

/-- Which section a Heat of kind 2 carries: the one with the greater debt-weighted backlog (R210). -/
def Dev.heatUl (d : Dev) (r : Radio) (h : HeatSlot) (w : Work) : Bool :=
  let wgt (l : List Nat) (f : Nat → Nat) : Int := l.foldl (fun n s => n + d.debtOf s * Int.ofNat (f s)) 0
  decide (h.kind = 1) || (decide (h.kind = 2) && decide (wgt w.dl (fun s => d.dlBacklog s r) < wgt w.ul d.ulBacklog))

/-- EMIT: the allocation record. -/
def Dev.emitNode (d : Dev) (r : Radio) (heat : Option Nat) (buf round : Nat) (w : Work) : Dev :=
  let sect := heat.bind (fun h => (d.heatOf r h).map (fun x => d.heatUl r x w))
  let dl := if sect = some true then [] else (w.users.filter (fun u => !u.ul)).take 148
  let ul := if sect = some false then [] else (w.users.filter (fun u => u.ul)).take 148
  let mask := d.placeMask r heat
  let bw := (d.blockOf r mask).1
  let c := d.rd A.ASC.DL_CFG
  let u := d.rd A.ASC.UL_CFG
  let ac := topAc ((dl.map (fun u => d.dlTids u.sta r)).flatten)
  let maxUl := ul.foldl (fun n u => max n u.nss) 1
  let pe := ul.foldl (fun n u => max n (d.peOf r u.sta)) 0
  let snap := w.snap.getD d.tb
  let snd := w.sounds.take 16
  let hdr : List Word := [wd (2 ^ 28 + r.num * 2 ^ 26 + b2n (!dl.isEmpty) * 2 ^ 25 + b2n (!ul.isEmpty) * 2 ^ 24 + b2n (!snd.isEmpty) * 2 ^ 23
      + b2n heat.isSome * 2 ^ 22 + round % 65536), wd snap, wd (snap / 2 ^ 32),
    wd (bw + bitsOf c 18 17 * 8 + bitsOf c 20 19 * 32 + ac * 256 + b2n (bitOf c 21) * 2 ^ 11 + w.dlUs % 65536 * 2 ^ 16),
    wd (mask % 65536 + dl.length * 2 ^ 16),
    wd (bw + bitsOf u 26 25 * 8 + bitsOf u 28 27 * 32 + bitsOf u 31 29 * 256 + (ceilDiv (d.tbUs r heat - 20) 4 * 3 - 5) % 4096 * 2 ^ 16),
    wd (mask % 65536 + ul.length * 2 ^ 16),
    wd (w.ulSym % 65536 + pe % 256 * 2 ^ 16 + ltfCount maxUl * 2 ^ 24), wd snd.length,
    wd (unsigned 9 (d.prefFor r heat mask dl)), 0, 0, 0, 0, 0, 0]
  let at_ := allocAt r buf
  let d1 := (d.sramPut at_ 0x1400 0).sramWords at_ hdr
  let d2 := d1.sramWords (at_ + 64) ((dl.map (fun x => d.dlEntry r w dl.length x)).flatten)
  let d3 := d2.sramWords (at_ + 2432) ((ul.map (fun x => d.ulEntry r w x)).flatten)
  snd.zipIdx.foldl (fun d e => d.sramPut (at_ + 4800 + 2 * e.2) 2 e.1) d3

/-- The effect of one node of the standard graph, and its decision records: kind, ARG0, ARG1. -/
def Dev.graphNode (d : Dev) (r : Radio) (heat : Option Nat) (buf round node : Nat) (w : Work) :
    Dev × Work × List (Nat × Nat × Nat) :=
  if node ≤ 3 then
    ((((tabKeys d.mld.stations).filter (fun s => decide (s / 256 = node))).foldl (fun d s => d.gather w s) d), w, [])
  else if node = 4 then d.rank r w
  else if node = 5 then (d, { w with sounds := d.soundList r w }, [])
  else if node = 6 then
    let w1 := { w with groups := if d.bit A.ASC.POL_CFG 25 then d.groupsOf r (d.placeMask r heat) 64 (w.dl.filter (d.muAble r)) else [] }
    (d.took, { w1 with rus := d.planRus r heat w1 }, [])
  else if node ≤ 22 then
    let (w1, recs) := d.placeNode r (node - 7) w
    (d, w1, recs)
  else if node ≤ 38 then d.took.rateNode r (node - 23) w
  else if node = 39 then (d, d.padNode r heat w, [])
  else (d.took.emitNode r heat buf round w, w, [])

end Sys2Proof.Machine
end

