-- ==== Sys2Proof/Machine/Qar.lean ====
section
/-! DEFINITION. The dispatcher of the Quill array, graph templates, TAKE and DONE, deadlines, the Ductus trace, the fetch engine and
the QAR page (spec/09 R216 to R241; spec/10 R269), with what a finished round publishes (spec/08 R187, R188). -/

namespace Sys2Proof.Machine

/-! Cores -/

/-- A Quill core; one not listed is as reset leaves it, stopped. -/
def Dev.quill (d : Dev) (k : Nat) : Core := (tabFind d.qar.cores k).getD (Core.reset false)
def Dev.setQuill (d : Dev) (k : Nat) (c : Core) : Dev := d.onQar (fun q => { q with cores := tabPut q.cores k c })

/-- A core is reset to its reset vector; its memories keep their contents (R217, R265). -/
def Core.restart (c : Core) (w : CoreWait) : Core :=
  { Core.reset false with imem := c.imem, dmem := c.dmem, faults := c.faults, faulted := c.faulted, wait := w }

/-- A core's RUN bit. -/
def Dev.runs (d : Dev) (k : Nat) : Bool := d.bit A.QAR.CORE_CTRL k

/-! Ductus (R235 to R239) -/

/-- A record is stored in the ring. -/
def Dev.ductusStore (d : Dev) (kind core inst node a0 a1 : Nat) : Dev :=
  d.onQar (fun q =>
    let x := q.ductus
    let r : DuctusRec := { time := d.tb % 2 ^ 32, kind := kind, core := core, inst := inst, node := node, seq := x.seq % 65536,
                           arg0 := a0 % 65536, arg1 := a1 % 2 ^ 32 }
    { q with ductus := { x with recs := (r :: x.recs).take 4096, seq := x.seq + 1,
                                postLeft := if x.triggered then x.postLeft - 1 else x.postLeft } })

/-- Nothing is recorded: EN is 0, or Ductus has stopped, or all records after a trigger are written. -/
def Dev.ductusOff (d : Dev) : Bool :=
  let x := d.qar.ductus
  !d.bit A.QAR.DUCTUS_CFG 0 || x.stopped || (x.triggered && decide (x.postLeft = 0))

/-- A trigger: a TRIGGER record, and the count of records after it starts; a second one is ignored (R239). -/
def Dev.trigger (d : Dev) (why : Nat) : Dev :=
  let x := d.qar.ductus
  if x.triggered then d
  else
    let d1 := if d.ductusOff then d else d.ductusStore 0x0A 0xFF 0xFF 0xFF why x.seq
    let d2 := d1.onQar (fun q => { q with ductus := { q.ductus with triggered := true, trigSeq := x.seq,
                                                                    postLeft := d.fld A.QAR.DUCTUS_CFG 27 16 } })
    (d2.follow .qar Cause.QAR.DUCTUS_TRIGGERED true).event 6

/-- An event of the dispatcher is recorded, and triggers where DUCTUS_CFG says so. -/
def Dev.ductus (d : Dev) (kind core inst node a0 a1 : Nat) : Dev :=
  if d.ductusOff then d
  else
    let d1 := d.ductusStore kind core inst node a0 a1
    if kind = 0x06 ∧ d.bit A.QAR.DUCTUS_CFG 1 then d1.trigger 1
    else if kind = 0x09 ∧ d.bit A.QAR.DUCTUS_CFG 2 then d1.trigger 2
    else d1

/-- DUCTUS_POST_DONE: the records after a trigger are written; Ductus stops (R239). -/
def effDuctusPostDone (d : Dev) : Dev :=
  if d.qar.ductus.triggered ∧ d.qar.ductus.postLeft = 0 then
    d.onQar (fun q => { q with ductus := { q.ductus with stopped := true } })
  else d

/-- The four words of a record (R235). -/
def DuctusRec.words (r : DuctusRec) : List Word :=
  [wd r.time, wd (r.kind + r.core * 2 ^ 8 + r.inst * 2 ^ 16 + r.node * 2 ^ 24), wd (r.seq + r.arg0 * 2 ^ 16), wd r.arg1]

/-- DUCTUS_GET: up to 64 records from a record number on (R238). -/
def cmdDuctusGet (ws : List Word) (d : Dev) : Dev × Ans :=
  let x := d.qar.ductus
  let back := (wd x.seq - word ws 0).toNat
  let n := if 2 ^ 31 ≤ back then 0 else back
  let have_ := min n x.recs.length
  if ws.length ≠ 1 then (d, Ans.err RC.BAD_LENGTH)
  else (d, { code := RC.OK, detail := min 65535 (n - have_), later := false,
             words := ((((x.recs.take have_).reverse).take 64).map DuctusRec.words).flatten })

/-- DUCTUS_CTRL: bit 0 triggers, bit 1 resumes recording (R239). -/
def cmdDuctusCtrl (ws : List Word) (d : Dev) : Dev × Ans :=
  let w := word ws 0
  let d1 := if bitOf w 0 then d.trigger 3 else d
  let d2 := if bitOf w 1 then
      (d1.onQar (fun q => { q with ductus := { q.ductus with triggered := false, stopped := false, postLeft := 0 } })).follow .qar
        Cause.QAR.DUCTUS_TRIGGERED false
    else d1
  cmdIf d [(decide (ws.length ≠ 1), RC.BAD_LENGTH), (extra w 3, RC.BAD_VALUE)] (d2, [])

/-! The order of operations (R223 to R225, R233) -/

/-- The instance of an operation. -/
def Dev.instOf (d : Dev) (o : Op) : Option Inst := tabFind d.qar.insts o.inst

/-- An operation comes before another (R224). -/
def Dev.before (d : Dev) (x y : Op) : Bool :=
  match d.instOf x, d.instOf y with
  | some a, some b =>
    let k := signed 32 (wd a.deadline - wd b.deadline).toNat
    if a.list ≠ b.list then decide (a.list < b.list)
    else if k ≠ 0 then decide (k < 0)
    else if a.order ≠ b.order then decide (a.order < b.order)
    else decide (x.node < y.node)
  | _, _ => false

/-- The PUBLISH node of a template. -/
def Dev.publishNode (d : Dev) (t : Nat) : Nat := match tabFind d.qar.templates t with
  | some x => x.nodes.length - 1
  | none => 0

/-- The PUBLISH node of an ASC instance waits for held operations of earlier cancelled instances of its radio and kind (R233). -/
def Dev.heldBack (d : Dev) (o : Op) : Bool :=
  match d.instOf o with
  | none => false
  | some a => decide (a.by_ ≤ 1 ∧ o.node = d.publishNode a.tpl) && d.qar.insts.any (fun e =>
      let b := e.2
      b.cancelled && decide (b.by_ = a.by_ ∧ b.radio = a.radio ∧ b.order < a.order)
        && d.qar.ops.any (fun p => decide (p.2.inst = e.1)))

/-- Operations waiting for a core: eligible ones and those on ready lists. -/
def Op.open_ (o : Op) : Bool := match o.st with
  | .eligible _ | .ready _ => true
  | _ => false
def Op.isHeld (o : Op) : Bool := match o.st with
  | .held _ _ => true
  | _ => false
def Op.isReady (o : Op) : Bool := match o.st with
  | .ready _ => true
  | _ => false

/-- When an operation became eligible. -/
def Op.since (o : Op) : Nat := match o.st with
  | .eligible t | .ready t | .held _ t => t
  | .waiting _ => 0

/-- Put an operation's slot in the order of R224. -/
def Dev.orderIn (d : Dev) (x : Nat × Op) : List (Nat × Op) → List (Nat × Op)
  | [] => [x]
  | y :: ys => if d.before x.2 y.2 then x :: y :: ys else y :: d.orderIn x ys

/-- The open operations in order. -/
def Dev.openOps (d : Dev) : List (Nat × Op) :=
  (d.qar.ops.filter (fun e => e.2.open_ && !d.heldBack e.2)).foldl (fun l e => d.orderIn e l) []

/-- Operations held by cores; in flight (R225). -/
def Dev.heldOps (d : Dev) : Nat := (d.qar.ops.filter (fun e => e.2.isHeld)).length
def Dev.inFlight (d : Dev) : Nat := (d.qar.ops.filter (fun e => e.2.isHeld || e.2.isReady)).length

/-- Change one operation. -/
def Dev.setOp (d : Dev) (k : Nat) (o : Op) : Dev := d.onQar (fun q => { q with ops := tabPut q.ops k o })

/-- A PUBLISH node that an earlier cancelled instance now holds back leaves the ready lists (R233). -/
def Dev.unready (d : Dev) : Dev :=
  (d.qar.ops.filter (fun e => e.2.isReady && d.heldBack e.2)).foldl
    (fun d e => d.setOp e.1 { e.2 with st := .eligible e.2.since }) d

/-- The ready lists hold the earliest open operations, at most 96 in flight; one displaced is recorded (R225). -/
def Dev.balance (d0 : Dev) : Dev :=
  let d := d0.unready
  let l := d.openOps
  let room := 96 - d.heldOps
  let d1 := (l.drop room).foldl (fun d e =>
    if e.2.isReady then
      ((d.setOp e.1 { e.2 with st := .eligible e.2.since }).ductus 0x08 0xFF e.2.inst e.2.node 0 e.1).count A.QAR.DEMOTE_CNT
    else d) d
  (l.take room).foldl (fun d e => if e.2.isReady then d else d.setOp e.1 { e.2 with st := .ready e.2.since }) d1

/-! What a round publishes (spec/08 R187, R188, R189, R210) -/

/-- Change a radio's scheduling state. -/
def Dev.onAscRadio (d : Dev) (r : Radio) (f : AscRadio → AscRadio) : Dev :=
  d.onAsc (fun a => { a with radios := a.radios.set r (f (a.radios.get r)) })

/-- A missed ordinary round is counted; the burst cause (R187). -/
def Dev.roundMissed (d : Dev) (r : Radio) : Dev :=
  let sec := d.tb / 250000000
  let n := (if d.asc.missSec = sec then d.asc.missNow else 0) + 1
  let d1 := ((d.onAsc (fun a => { a with missSec := sec, missNow := n })).onAscRadio r (fun x =>
    { x with inFlight := none, missedAt := some d.tb })).count (A.ASC.MISS_CNT r.num)
  if n = d.fld A.ASC.MISS_CFG 13 0 then d1.raise .asc Cause.ASC.ROUND_MISS_BURST else d1

/-- A missed Heat round is counted (R210). -/
def Dev.heatMissed (d : Dev) (r : Radio) : Dev :=
  (d.onAscRadio r (fun x => { x with heatFlight := none })).count A.ASC.HEAT_MISS_CNT

/-- An ASC instance ends without publishing. -/
def Dev.ascMissed (d : Dev) (x : Inst) : Dev :=
  if x.by_ = 0 then d.roundMissed (Radio.ofNum x.radio) else if x.by_ = 1 then d.heatMissed (Radio.ofNum x.radio) else d

/-- The single write that publishes an allocation (R188). -/
def Dev.ascPublish (d : Dev) (x : Inst) : Dev :=
  let r := Radio.ofNum x.radio
  let s := d.asc.radios.get r
  let snap := x.work.snap.getD x.at_
  if x.by_ = 0 then match s.inFlight with
    | some (_, _, buf) => d.onAscRadio r (fun s => { s with
        inFlight := none, good := some { buf := buf, round := s.round, snap := snap, pub := d.tb } })
    | none => d
  else if x.by_ = 1 then match s.heatFlight with
    | some (_, _, buf, h) => d.onAscRadio r (fun s => { s with
        heatFlight := none,
        heatGood := tabPut (s.heatGood.filter (fun e => decide (e.2.buf ≠ buf))) h { buf := buf, round := s.round, snap := snap, pub := d.tb } })
    | none => d
  else d

/-! Cancellation (R231, R232) -/

/-- FLAGS.CANCELLED of a slot's descriptor. -/
def Dev.descCancel (d : Dev) (slot : Nat) : Dev := d.onQar (fun q => { q with desc := tabSet 0 q.desc (32 * slot + 7) 1 })

/-- The instance entry is freed when no operation of it is left and it is complete or cancelled (R222). -/
def Dev.retire (d : Dev) (i : Nat) : Dev :=
  match tabFind d.qar.insts i with
  | some x => if (x.complete || x.cancelled) && !d.qar.ops.any (fun e => decide (e.2.inst = i)) then
      d.onQar (fun q => { q with insts := tabDel q.insts i }) else d
  | none => d

/-- An instance is cancelled: its operations not held are removed, held ones run on with CANCELLED set, one MISS record (R232). -/
def Dev.cancelInst (d : Dev) (i : Nat) : Dev :=
  match tabFind d.qar.insts i with
  | none => d
  | some x =>
    if x.cancelled || x.complete then d
    else
      let mine := d.qar.ops.filter (fun e => decide (e.2.inst = i))
      let held := mine.filter (fun e => e.2.isHeld)
      let d1 := d.onQar (fun q => { q with
        ops := (q.ops.filter (fun e => decide (e.2.inst ≠ i) || e.2.isHeld)).map (fun e =>
          if e.2.inst = i then (e.1, { e.2 with cancelled := true }) else e),
        insts := tabPut q.insts i { x with cancelled := true } })
      let d2 := held.foldl (fun d e => d.descCancel e.1) d1
      let d3 := (d2.ductus 0x06 0xFF i 0xFF (mine.length - held.length) (held.length + x.done * 2 ^ 16)).count A.QAR.CANCEL_CNT
      ((d3.ascMissed x).retire i).balance

/-- INSTANCE_DEADLINE: TB reaches an incomplete instance's deadline (R232). -/
def effInstanceDeadline (i : Nat) (d : Dev) : Dev :=
  match tabFind d.qar.insts i with
  | some x => if x.cancelled || x.complete then d else (d.at_ x.deadline).cancelInst i
  | none => d

/-- Every instance whose deadline has come is cancelled before anything else of the tick (R227). -/
def Dev.deadlines (d : Dev) : Dev :=
  (d.qar.insts.filter (fun e => !e.2.cancelled && !e.2.complete && decide (e.2.deadline ≤ d.tb))).foldl
    (fun d e => d.cancelInst e.1) d

/-! Submission (R222) -/

/-- The free slots. -/
def Dev.freeSlots (d : Dev) : List Nat := (List.range 256).filter (fun k => (tabFind d.qar.ops k).isNone)

/-- ARG0 of a SUBMIT record (R236). -/
def submitArg (tpl list by_ radio : Nat) : Nat := tpl % 32 + list % 4 * 2 ^ 6 + by_ % 4 * 2 ^ 8 + radio % 4 * 2 ^ 10

/-- The 32 bytes of a descriptor (R228). -/
def descBytes (n : TplNode) (node inst tpl list deadline : Nat) (ctx : List Word) : List Byte :=
  natBytes 2 n.entry ++ natBytes 1 n.param ++ natBytes 1 node ++ natBytes 1 inst ++ natBytes 1 tpl ++ natBytes 1 list ++ [0]
    ++ natBytes 4 deadline ++ [0, 0, 0, 0] ++ wordsBytes ((List.range 4).map (fun i => word ctx i))

/-- Enter the enabled nodes of a new instance into slots, each any free one (notes/assumptions/3.md). -/
def Dev.enterOps (d : Dev) (i : Nat) (x : Inst) (t : Tpl) : List Nat → Dev
  | [] => d
  | n :: ns =>
    let free := d.freeSlots
    let slot := free.getD (d.freeVal free.length) 0
    let node := t.nodes.getD n { entry := 0, param := 0, limit := 0, pred := 0 }
    let left := popNat 64 (node.pred &&& x.enable)
    let o : Op := { inst := i, node := n, st := if left = 0 then .eligible d.tb else .waiting left, cancelled := false }
    let bs := descBytes node n i x.tpl x.list x.deadline x.ctx
    let d1 := (d.took.setOp slot o).onQar (fun q => { q with
      desc := bs.zipIdx.foldl (fun m e => tabSet 0 m (32 * slot + e.2) e.1) q.desc })
    d1.enterOps i x t ns

/-- A submission: the instance, or why it is refused (1 no entry, 2 no slots, 3 not a valid submission). -/
def Dev.qarSubmit (d : Dev) (tpl list deadline enable : Nat) (ctx : List Word) (by_ radio : Nat) : Dev × Option Nat × Nat :=
  let nodes := match tabFind d.qar.templates tpl with
    | some t => t.nodes.length
    | none => 0
  let mask := enable % 2 ^ nodes
  let ns := (List.range nodes).filter (fun n => mask.testBit n)
  let entry := (List.range 16).find? (fun i => (tabFind d.qar.insts i).isNone)
  let why := if entry.isNone then 1 else if d.freeSlots.length < ns.length then 2
    else if nodes = 0 ∨ !mask.testBit (nodes - 1) then 3 else 0
  match entry, tabFind d.qar.templates tpl, why with
  | some i, some t, 0 =>
    let x : Inst := { tpl := tpl, list := list, deadline := deadline, enable := mask, ctx := ctx, order := d.qar.nextOrder,
                      at_ := d.tb, by_ := by_, radio := radio, cancelled := false, complete := false, done := 0,
                      work := { Work.reset with pol := if by_ ≤ 1 then d.polNow else [] } }
    let d1 := d.onQar (fun q => { q with insts := tabPut q.insts i x, nextOrder := q.nextOrder + 1 })
    let d2 := (d1.ductus 0x01 0xFF i 0xFF (submitArg tpl list by_ radio) deadline).count A.QAR.INSTANCE_CNT
    ((d2.enterOps i x t ns).balance, some i, 0)
  | _, _, _ => ((d.ductus 0x02 0xFF 0xFF 0xFF why (submitArg tpl list by_ radio)).count A.QAR.REFUSE_CNT, none, why)

/-- A TB[31:0] time as the TB value nearest to now. -/
def Dev.tbOf (d : Dev) (t : Word) : Nat := (Int.ofNat d.tb + signed 32 (t - wd d.tb).toNat).toNat

/-- SUBMIT (R222): the host in TEST and RETURN only, the MP in any state. -/
def cmdSubmit (rq : Rq) (ws : List Word) (d : Dev) : Dev × Ans :=
  let w := word ws 0
  let lc := d.mgt.otp.lc
  let c := refuse [(decide (ws.length ≠ 8), RC.BAD_LENGTH),
    (decide (rq.src ≠ .mp) && decide (lc ≠ .test ∧ lc ≠ .ret), RC.NOT_IN_STATE), (extra w 0xDF, RC.BAD_VALUE)]
  if c ≠ RC.OK then (d, Ans.err c)
  else
    match d.qarSubmit (bitsOf w 4 0) (bitsOf w 7 6) (d.tbOf (word ws 1)) (pair ws 2) (ws.drop 4)
        (if rq.src = .mp then 2 else 3) 0 with
    | (d1, some i, _) => (d1, Ans.ok [wd i])
    | (d1, none, why) => (d1, Ans.errD (if why = 3 then RC.BAD_VALUE else RC.BUSY) why)

/-! Templates (R219 to R221) -/

/-- The nodes of a template's bytes. -/
def tplNodes (bs : List Byte) : List TplNode :=
  (List.range (byteAt bs 1)).map (fun i =>
    let ws := bytesWords ((bs.drop (16 + 16 * i)).take 16)
    { entry := bitsOf (word ws 0) 13 0, param := bitsOf (word ws 0) 23 16, limit := bitsOf (word ws 1) 15 0, pred := pair ws 2 })

/-- Node `n` and what it waits for, back to the first nodes: the ancestors of the nodes marked, by decreasing index. -/
def ancestors (ns : List TplNode) : Nat → Nat → Nat
  | 0, m => m
  | i + 1, m => ancestors ns i (if m.testBit i then m ||| (ns.getD i { entry := 0, param := 0, limit := 0, pred := 0 }).pred else m)

/-- A template's bytes keep R219 and R220, the FW_MAJOR apart. -/
def tplOk (bs : List Byte) : Bool :=
  let n := byteAt bs 1
  let ns := tplNodes bs
  decide (byteAt bs 0 = 1 ∧ 1 ≤ n ∧ n ≤ 64 ∧ bs.length = 20 + 16 * n)
    && ((bs.drop 2).take 2 ++ (bs.drop 8).take 8).all (fun b => decide (b = 0))
    && decide ((crc32 (bs.take (bs.length - 4))).toNat = leNat (bs.drop (bs.length - 4)))
    && (List.range n).all (fun i =>
      let ws := bytesWords ((bs.drop (16 + 16 * i)).take 16)
      !extra (word ws 0) 0x00FF3FFF && !extra (word ws 1) 0xFFFF && decide (word ws 1 ≠ 0) && decide (pair ws 2 < 2 ^ i))
    && decide (ancestors ns n (2 ^ (n - 1)) = 2 ^ n - 1)

/-- The template of some bytes. -/
def tplOf (bs : List Byte) : Tpl :=
  { fwMajor := leNat ((bs.drop 4).take 2), ver := leNat ((bs.drop 6).take 2), nodes := tplNodes bs,
    standard := Config.standardTemplates bs }

/-- TPL_LOAD: one chunk of 1,016 bytes; the last one that is missing completes the template (R220). -/
def cmdTplLoad (ws : List Word) (d : Dev) : Dev × Ans :=
  let w := word ws 0
  let t := bitsOf w 4 0
  let k := bitsOf w 15 8
  let len := bitsOf w 31 16
  let data := ((wordsBytes (ws.drop 1)).take 1016).take (len - 1016 * k)
  let c := refuse [(decide (ws.length < 2 ∨ 255 < ws.length), RC.BAD_LENGTH),
    (extra w 0xFFFFFF1F || decide (len ≤ 1016 * k), RC.BAD_VALUE)]
  if c ≠ RC.OK then (d, Ans.err c)
  else
    let q := d.qar
    let old := if q.loadT = t ∧ q.loadLen = len then q.loadChunks else []
    let chunks := tabPut old k data
    if chunks.length < ceilDiv len 1016 then
      (d.onQar (fun q => { q with loadT := t, loadLen := len, loadChunks := chunks }), Ans.ok [])
    else
      let bs := (chunks.map (fun e => e.2)).flatten
      let d1 := d.onQar (fun q => { q with loadT := 0, loadLen := 0, loadChunks := [] })
      let live := d.qar.insts.any (fun e => decide (e.2.tpl = t)) || decide (d.fld A.QAR.ASC_TPL 4 0 = t ∨ d.fld A.QAR.ASC_TPL 12 8 = t)
      let c1 := refuse [(decide (leNat ((bs.drop 4).take 2) ≠ bitsOf d.qar.fwVer 31 24), RC.VERSION), (live, RC.NOT_IN_STATE),
        (!tplOk bs, RC.BAD_VALUE)]
      if c1 ≠ RC.OK then (d1, Ans.err c1)
      else (d1.onQar (fun q => { q with templates := tabPut q.templates t (tplOf bs) }), Ans.ok [])

/-! TAKE and DONE (R226 to R230) -/

/-- A core receives an operation; its descriptor's address goes to the place of rd. -/
def Dev.giveOp (d : Dev) (k : Nat) (place : Nat) (slot : Nat) (o : Op) : Dev :=
  let c := d.quill k
  let d1 := (d.setOp slot { o with st := .held k d.tb }).setQuill k
    { c.setPlace place (wd (0x50000000 + 32 * slot)) with wait := .none, held := some slot }
  let d2 := d1.ductus 0x03 k o.inst o.node (min 65535 (d.tb - o.since)) (slot + d1.inFlight * 2 ^ 16)
  match tabFind d2.qar.insts o.inst with
  | some x =>
    if x.work.snap.isSome then d2
    else
      let r := Radio.ofNum x.radio
      let s := d2.asc.radios.get r
      let w := if x.by_ ≤ 1 then { x.work with snap := some d.tb, exch := s.exchanges, prev := s.eligible } else { x.work with snap := some d.tb }
      let d3 := d2.onQar (fun q => { q with insts := tabPut q.insts o.inst { x with work := w } })
      if x.by_ ≤ 1 then d3.onAscRadio r (fun s => { s with exchanges := [], eligible := d2.eligibleOn r }) else d3
  | none => d2

/-- The cores that wait in TAKE: since when, number, place of the destination register. -/
def Dev.takers (d : Dev) : List (Nat × Nat × Nat) :=
  d.qar.cores.filterMap (fun e => match e.2.wait with
    | .take p t => some (t, e.1, p)
    | _ => none)

/-- TAKE_ASSIGN: the operation earliest in order goes to the core that has waited longest, the lowest-numbered of equals (R226). -/
def effTakeAssign (d : Dev) : Dev :=
  match d.openOps.find? (fun e => e.2.isReady), d.takers with
  | some (slot, o), t :: ts =>
    let b := ts.foldl (fun b x => if x.1 < b.1 then x else b) t
    (d.giveOp b.2.1 b.2.2 slot o).balance
  | _, _ => d

/-- A core executes TAKE: with its RUN bit clear it stops; otherwise it waits, and is served at once when an operation is ready
(R217, R226). -/
def Dev.take (d : Dev) (k place : Nat) : Dev :=
  let c := d.quill k
  if !d.runs k then d.setQuill k { c with wait := .stopped }
  else (d.setQuill k { c with wait := .take place d.tb }).deadlines |> effTakeAssign

/-- The decision records the standard firmware writes (R237). -/
def Dev.decisions (d : Dev) (k inst node : Nat) (rs : List (Nat × Nat × Nat)) : Dev :=
  rs.foldl (fun d r => d.ductus r.1 k inst node r.2.1 r.2.2) d

/-- What the standard firmware's node did, when its instance is a round of the ASC, by the policy registers the round began with (R221;
spec/08 R194 to R202, R204). -/
def Dev.nodeEffect (d : Dev) (k i node : Nat) (x : Inst) : Dev :=
  let std := match tabFind d.qar.templates x.tpl with
    | some t => t.standard
    | none => false
  if !std || decide (1 < x.by_) then d
  else
    let r := Radio.ofNum x.radio
    let s := d.asc.radios.get r
    let (buf, heat) := if x.by_ = 0 then ((match s.inFlight with
        | some (_, _, b) => b
        | none => 0), none)
      else match s.heatFlight with
        | some (_, _, b, h) => (b, some h)
        | none => (2, none)
    let (d1, w, rs) := (d.setPol x.work.pol).graphNode r heat buf s.round node x.work
    ((d1.setPol d.polNow).onQar (fun q => { q with insts := tabPut q.insts i { x with work := w } })).decisions k i node rs

/-- The successors of a node lose one predecessor (R223). -/
def Dev.unblock (d : Dev) (i node : Nat) : Dev :=
  match tabFind d.qar.insts i with
  | none => d
  | some x => match tabFind d.qar.templates x.tpl with
    | none => d
    | some t => d.onQar (fun q => { q with ops := q.ops.map (fun e =>
        if e.2.inst = i ∧ (t.nodes.getD e.2.node { entry := 0, param := 0, limit := 0, pred := 0 }).pred.testBit node then
          match e.2.st with
          | .waiting 1 => (e.1, { e.2 with st := .eligible d.tb })
          | .waiting n => (e.1, { e.2 with st := .waiting (n - 1) })
          | _ => e
        else e) })

/-- A FAULT record, its count, cause and event (R229, R231). -/
def Dev.qarFault (d : Dev) (k inst node why arg : Nat) : Dev :=
  (((d.ductus 0x09 k inst node why arg).count A.QAR.FAULT_CNT).raise .qar Cause.QAR.CORE_FAULT).event 6

/-- DONE: the core's operation is complete with a status (R229, R230). The caller has checked that the core holds one. -/
def Dev.doneOp (d0 : Dev) (k status : Nat) : Dev :=
  let d := d0.deadlines
  let c := d.quill k
  match c.held with
  | none => d
  | some slot => match tabFind d.qar.ops slot with
    | none => d.setQuill k { c with held := none }
    | some o =>
      let run := d.tb - o.since
      let d1 := (d.setQuill k { c with held := none }).onQar (fun q => { q with ops := tabDel q.ops slot })
      if o.cancelled then ((d1.ductus 0x07 k o.inst o.node status run).retire o.inst).balance
      else match tabFind d1.qar.insts o.inst with
        | none => d1
        | some x =>
          let d2 := (d1.nodeEffect k o.inst o.node x).ductus 0x04 k o.inst o.node status run
          let d3 := d2.onQar (fun q => { q with insts := match tabFind q.insts o.inst with
            | some y => tabPut q.insts o.inst { y with done := y.done + 1 }
            | none => q.insts })
          if 0x80 ≤ status then ((d3.cancelInst o.inst).qarFault k o.inst o.node 2 status).retire o.inst
          else if o.node = d3.publishNode x.tpl then
            let d4 := d3.onQar (fun q => { q with insts := match tabFind q.insts o.inst with
              | some y => tabPut q.insts o.inst { y with complete := true }
              | none => q.insts })
            let y := (tabFind d4.qar.insts o.inst).getD x
            let pub := decide (status = 1)
            let d5 := if pub then d4.ascPublish y else d4.ascMissed y
            ((d5.ductus 0x05 0xFF o.inst 0xFF (b2n pub) (d.tb - x.at_)).retire o.inst).balance
          else if status ≤ 1 then ((d3.unblock o.inst o.node).retire o.inst).balance
          else (d3.retire o.inst).balance

/-- LIMIT of an operation's node, in ticks (R219). -/
def Dev.limitOf (d : Dev) (o : Op) : Nat :=
  match (d.instOf o).bind (fun x => tabFind d.qar.templates x.tpl) with
  | some t => (t.nodes.getD o.node { entry := 0, param := 0, limit := 0, pred := 0 }).limit
  | none => 0

/-- The operation that a core holds, with its slot. -/
def Dev.heldBy (d : Dev) (k : Nat) : Option (Nat × Op) := (d.quill k).held.bind (fun s => (tabFind d.qar.ops s).map (fun o => (s, o)))

/-- Ticks until a core has been reset at LIMIT or has come to its TAKE: what is left of LIMIT for the operation it holds (R231). -/
def Dev.limitLeft (d : Dev) (k : Nat) : Nat :=
  match d.heldBy k with
  | some (_, o) => o.since + d.limitOf o - d.tb
  | none => 0

/-- LIMIT_EXPIRY: an operation is still held LIMIT after its TAKE (R231). -/
def effLimitExpiry (k : Nat) (d0 : Dev) : Dev :=
  match d0.heldBy k with
  | none => d0
  | some (slot, o) =>
    let lim := d0.limitOf o
    let d := (d0.at_ (o.since + lim)).deadlines
    let c := d.quill k
    let fs := d.tb :: c.faults.filter (fun t => decide (d.tb < t + sT 1))
    let out := decide (3 ≤ fs.length)
    let d1 := if out then d.wr A.QAR.CORE_CTRL (d.rd A.QAR.CORE_CTRL &&& ~~~ oneBit k) else d
    let c1 := { c with faults := fs.take 3, faulted := c.faulted || out }
    let d2 := (d1.setQuill k (c1.restart (if out then .stopped else .none))).onQar (fun q => { q with ops := tabDel q.ops slot })
    (((d2.cancelInst o.inst).qarFault k o.inst o.node 1 lim).retire o.inst).balance

/-! RUN (R217) -/

/-- The RUN bit of one core changes: it starts at its reset vector; a core waiting in TAKE stops at once; a halted core that
holds nothing is reset (R217, R264). -/
def Dev.runChange (d : Dev) (k : Nat) (was now : Bool) : Dev :=
  let c := d.quill k
  if now && !was then
    if c.wait = .stopped then d.setQuill k ({ c with faulted := false, faults := [] }.restart .none) else d
  else if was && !now then
    match c.wait with
    | .take _ _ => d.setQuill k { c with wait := .stopped }
    | .halted => if c.held.isNone then d.setQuill k (c.restart .stopped) else d
    | _ => d
  else d

/-- What a write of CORE_CTRL does (CORE_RUN_WRITE). -/
def Dev.runWrite (d : Dev) (old new : Word) : Dev :=
  (List.range 16).foldl (fun d k => d.runChange k (bitOf old k) (bitOf new k)) d

/-! The trace port (R237) -/

/-- TRACE_PUT0_WRITE. -/
def Dev.tracePut0 (d : Dev) (k : Nat) (v : Word) : Dev := d.setQuill k { d.quill k with put0 := v }

/-- TRACE_PUT1_WRITE: a decision record of the core's held operation. -/
def Dev.tracePut1 (d : Dev) (k : Nat) (v : Word) : Dev :=
  let c := d.quill k
  let kind := bitsOf c.put0 31 24
  match c.held.bind (fun s => tabFind d.qar.ops s) with
  | some o => if 0x10 ≤ kind ∧ kind ≤ 0x1F then d.ductus kind k o.inst o.node (bitsOf c.put0 15 0) v.toNat else d
  | none => d

/-! The fetch engine (R269) -/

/-- A word of a core's data memory, by offset. -/
def Core.dmemPut (c : Core) (off n v : Nat) : Core :=
  { c with dmem := (List.range n).foldl (fun t i => tabSet 0 t (off + i) (BitVec.ofNat 8 (v / 256 ^ i))) c.dmem }
def Core.dmemGet (c : Core) (off n : Nat) : Nat := leNat ((List.range n).map (fun i => tabGet 0 c.dmem (off + i)))

/-- The completion word of a fetch. -/
def Core.cplPut (c : Core) (cpl code : Nat) : Core :=
  if 0x10000000 ≤ cpl ∧ cpl + 4 ≤ 0x10008000 then c.dmemPut (cpl - 0x10000000) 4 code else c

/-- The value of a fetch's completion word when the controller serves. -/
def Dev.fetchCode (d : Dev) (f : Fetch) : Nat :=
  if f.len % 4 ≠ 0 ∨ f.len < 4 ∨ 4096 < f.len then RC.BAD_LENGTH
  else if f.src % 4 ≠ 0 ∨ d.dramMib * 2 ^ 20 < f.src + f.len ∨ f.dst < 0x10000000 ∨ 0x10008000 < f.dst + f.len ∨ f.dst % 4 ≠ 0 then
    RC.BAD_ADDRESS
  else RC.OK

/-- The oldest fetch of a core completes. A controller that does not serve and a poisoned line answer FROZEN; what the
destination then holds is undefined: free values (R269, R348, R499). -/
def Dev.fetchOne (d : Dev) (k : Nat) : Dev :=
  let c := d.quill k
  match c.fetches with
  | [] => d
  | f :: rest =>
    let asked := d.fetchCode f
    let closed := f.refused || !d.answers
    let bad := decide (asked = RC.OK) && !closed && d.rangePoisoned f.src f.len
    let code := if closed ∨ bad then RC.FROZEN else asked
    let free := decide (code = RC.FROZEN) && decide (asked = RC.OK)
    let bs : List Byte := if code = RC.OK then d.dramBytes f.src f.len
      else if free then (List.range f.len).map (fun i => BitVec.ofNat 8 (Config.freeNat (d.free + i)))
      else []
    let c1 := bs.zipIdx.foldl (fun c e => c.dmemPut (f.dst - 0x10000000 + e.2) 1 e.1.toNat) c
    let d1 := { d.setQuill k { c1.cplPut f.cpl code with fetches := rest, evt := true } with free := d.free + if free then f.len else 0 }
    if bad then d1.count A.MEM.POISON_READ_CNT else d1

/-- FETCH_START: a write of FGO with room for one more fetch; FROZEN while the controller does not serve, at once behind no earlier
fetch, which completes first (R269, R347, R499). -/
def Dev.fetchStart (d : Dev) (k : Nat) (len : Word) : Dev :=
  let c := (d.quill k).cplPut (d.quill k).fcpl.toNat 0xFF
  let f : Fetch := { src := c.fsrcLo.toNat + 2 ^ 32 * bitsOf c.fsrcHi 2 0, dst := c.fdst.toNat, cpl := c.fcpl.toNat, len := len.toNat,
                     refused := !d.serving }
  let d1 := d.setQuill k { c with fetches := c.fetches ++ [f] }
  if d.serving || !c.fetches.isEmpty then d1 else d1.fetchOne k

/-- A write of FGO: a fifth stalls the core until the oldest fetch completes (R269). -/
def Dev.fetchGo (d : Dev) (k : Nat) (len : Word) : Dev :=
  let c := d.quill k
  if 4 ≤ c.fetches.length then d.setQuill k { c with wait := .fetchRoom len } else d.fetchStart k len

/-- FETCH_COMPLETE: the oldest fetch of a core completes, and a core that stalled on a fifth write of FGO starts that one (R269). -/
def effFetchComplete (k : Nat) (d : Dev) : Dev :=
  let d1 := d.fetchOne k
  match (d1.quill k).wait with
  | .fetchRoom len =>
    let d2 := d1.setQuill k { d1.quill k with wait := .none }
    if (d1.quill k).fetches.length < 4 then d2.fetchStart k len else d1
  | _ => d1

/-! The QAR page -/

/-- The Quill firmware of the running image, as a core's instruction memory holds it (R217). -/
def Dev.quillCode (d : Dev) : Tab Byte := (d.runningPart 2).zipIdx.foldl (fun t e => tabSet 0 t e.2 e.1) []

/-- Cores and templates are loaded from the running image (R217, R241). -/
def Dev.qarLoad (d : Dev) : Dev :=
  let im := d.runningPart 2
  let code := d.quillCode
  let tpl (k : Nat) : Option Tpl := let b := Config.quillTpl im k
    if tplOk b then some (tplOf b) else none
  d.onQar (fun q => { q with
    cores := (List.range 16).map (fun k => (k, { (d.quill k) with imem := code })), fwVer := Config.quillVer im,
    templates := ((List.range 2).filterMap (fun k => (tpl k).map (fun t => (k, t)))) })

/-- The array is reset: instances and slots go, those of the ASC as missed rounds; cores restart, the image is loaded again; the trace is
kept (R241; spec/08 R187). -/
def Dev.qarReset (d : Dev) : Dev :=
  let d0 := (d.qar.insts.filter (fun e => !e.2.cancelled && !e.2.complete)).foldl (fun d e => d.ascMissed e.2) d
  let d1 := d0.onQar (fun q => { q with
    insts := [], ops := [], desc := [], loadT := 0, loadLen := 0, loadChunks := [],
    cores := (List.range 16).map (fun k => (k, (d.quill k).restart (if d.runs k then .none else .stopped))) })
  d1.qarLoad

/-- Every core with RUN set waits in TAKE, so that the array may report READY (R241). -/
def Dev.qarAtTake (d : Dev) : Bool :=
  (List.range 16).all (fun k => !d.runs k || (match (d.quill k).wait with
    | .take _ _ => true
    | _ => false))

/-- The RESET record, when the array resumes (R241). -/
def Dev.qarResume (d : Dev) : Dev := d.ductus 0x0B 0xFF 0xFF 0xFF 0 0

/-- A write of the trace port over a host transport (R237). -/
def qarPre (o : Nat) (_v : Word) (_d : Dev) : List (Bool × Nat) := [(decide (o = 0x070 ∨ o = 0x074), RC.NOT_PERMITTED)]

/-- What a write of a QAR register starts; the RUN bit of a core that failed its self-test stays clear (R217; spec/19 R462). -/
def qarPost (o : Nat) (old new : Word) (d : Dev) : Dev :=
  if o = 0x040 then
    let run := (List.range 16).foldl (fun w k => if d.bst.failed.contains (0x10 + k) then w &&& ~~~ oneBit k else w) new
    (if run = new then d else d.wr A.QAR.CORE_CTRL run).runWrite old run
  else d

/-- The live registers of the QAR page. -/
def qarLive (o : Nat) (d : Dev) : Option Word :=
  let q := d.qar
  let depth (l : Nat) : Nat := min 255 (q.ops.filter (fun e => e.2.isReady && (match d.instOf e.2 with
    | some x => decide (x.list = l)
    | none => false))).length
  if o = 0x044 then
    some (wd (q.cores.foldl (fun n e => n + (if e.2.faulted then 2 ^ (16 + e.1) else 0) + (match e.2.wait with
      | .take _ _ => 2 ^ e.1
      | _ => 0)) 0))
  else if o = 0x048 then some (wd (q.insts.length * 2 ^ 24 + d.inFlight * 2 ^ 16 + (256 - q.ops.length)))
  else if o = 0x04C then some (wd (depth 0 + depth 1 * 2 ^ 8 + depth 2 * 2 ^ 16 + depth 3 * 2 ^ 24))
  else if o = 0x054 then some q.fwVer
  else if o = 0x05C then some (wd (b2n q.ductus.triggered * 2 + b2n q.ductus.stopped))
  else if o = 0x060 then some (wd q.ductus.seq)
  else if o = 0x064 then some (wd q.ductus.trigSeq)
  else if o = 0x068 then some (wd (q.templates.foldl (fun n e => n + 2 ^ e.1) 0))
  else none

end Sys2Proof.Machine
end

