-- ==== Sys2Proof/Machine/Asc.lean ====
section
/-! DEFINITION. The access scheduler: rounds on the grid, station policy, Heat plans and their admission, Heats, the ASC page
(spec/08 R186 to R191, R203 to R215). -/

namespace Sys2Proof.Machine

/-! Rounds (R186, R191) -/

/-- The enable mask of a submission: PLACE and RATE of the channel's subchannels, every other node (R221). -/
def Dev.enableMask (d : Dev) (r : Radio) : Nat :=
  let n := 2 ^ chanWidth (d.rfe.get r).tuned
  ((List.range 64).filter (fun i => decide (i < 7 ∨ (i < 23 ∧ i - 7 < n) ∨ (23 ≤ i ∧ i < 39 ∧ i - 23 < n) ∨ 39 ≤ i))).foldl
    (fun m i => m + 2 ^ i) 0

/-- Something is to be scheduled on a radio: fetchable DL bytes, or a station eligible for UL (R191). -/
def Dev.roundWork (d : Dev) (r : Radio) : Bool :=
  d.mld.stations.any (fun e => (e.2.links.testBit r.num && !(d.dlTids e.1 r).isEmpty) || d.ulEligible r e.1)

/-- Free context words: the spec names what they say, not their form (R230). -/
def Dev.freeCtx (d : Dev) : List Word := (List.range 4).map (fun i => wd (Config.freeNat (d.free + i)))

/-- The first multiple of a period at or after a time. -/
def boundary (periodUs t : Nat) : Nat := ceilDiv t (usT periodUs) * usT periodUs

/-- The first boundary of the grid at or after a time: of the period in force, and from the boundary at which another one takes effect of
that one (R186). -/
def Dev.gridAt (d : Dev) (t : Nat) : Nat :=
  match d.asc.periodNext with
  | some (b, p) => if b ≤ t then boundary p t else min b (boundary d.asc.periodUs t)
  | none => boundary d.asc.periodUs t

/-- The period in force at a time. -/
def Dev.periodAt (d : Dev) (t : Nat) : Nat :=
  match d.asc.periodNext with
  | some (b, p) => if b ≤ t then p else d.asc.periodUs
  | none => d.asc.periodUs

/-- A write of PERIOD_US: it takes effect at the first boundary of its grid at or after the deadline of every round, Heat rounds among
them, that is in flight now (R186). -/
def Dev.periodWrite (d : Dev) (new : Nat) : Dev :=
  let now := d.periodAt d.tb
  let dl (x : AscRadio) : Nat := max ((x.inFlight.map (fun y => y.2.1)).getD 0) ((x.heatFlight.map (fun y => y.2.1)).getD 0)
  let last := max (dl d.asc.radios.a) (max (dl d.asc.radios.b) (dl d.asc.radios.c))
  d.onAsc (fun a => { a with periodUs := now, periodNext := if new = now then none else some (boundary new (max d.tb last), new) })

/-- What a write of an ASC register starts. -/
def ascPost (o : Nat) (old new : Word) (d : Dev) : Dev :=
  if o = 0x040 ∧ bitsOf old 7 0 ≠ bitsOf new 7 0 then d.periodWrite (bitsOf new 7 0) else d

/-- ROUND_START (R186, R187, R191). -/
def effRoundStart (r : Radio) (d0 : Dev) : Dev :=
  let t := d0.gridAt (max d0.tb (d0.asc.radios.get r).from_)
  let dl := d0.gridAt (t + 1)
  let d := ((d0.at_ t).deadlines).onAscRadio r (fun x => { x with from_ := t + 1 })
  let s := d.asc.radios.get r
  if !d.ready .asc || !d.ready .qar || !d.avail r || s.inFlight.isSome then d
  else if d.bit A.ASC.ROUND_CFG 8 && !d.roundWork r then d.count A.ASC.IDLE_ROUND_CNT
  else
    let buf := match s.good with
      | some a => 1 - a.buf
      | none => 0
    let d1 := (d.onAscRadio r (fun x => { x with round := (x.round + 1) % 65536 })).count (A.ASC.ROUND_CNT r.num)
    match { d1 with free := d1.free + 4 }.qarSubmit (d.fld A.QAR.ASC_TPL 4 0) (d.fld A.ASC.PRIO (2 * r.num + 1) (2 * r.num)) dl
        (d.enableMask r) d1.freeCtx 0 r.num with
    | (d2, some i, _) => d2.onAscRadio r (fun x => { x with inFlight := some (i, dl, buf) })
    | (d2, none, _) => d2.roundMissed r

/-! STA_POLICY (R203) -/

/-- Some field of a valid CAPS is out of range. -/
def capsBad (w : Word) : Bool :=
  extra w 0x00FFFFFF || (bitOf w 0 && (outside (bitsOf w 4 1) 1 8 || outside (bitsOf w 8 5) 1 8 || decide (4 < bitsOf w 11 9)
    || decide (13 < bitsOf w 19 16)))

/-- STA_POLICY. -/
def cmdStaPolicy (ws : List Word) (d : Dev) : Dev × Ans :=
  let w := word ws 0
  let s := bitsOf w 10 0
  let links := match d.station s with
    | some x => x.links
    | none => 0
  let f := d.flagsOf s
  let f1 := putBits (putBits (putBits f 9 8 (bitsOf w 13 12)) 23 16 (bitsOf w 23 16)) 25 24 (bitsOf w 25 24)
  cmdIf d
    [(decide (ws.length ≠ 4), RC.BAD_LENGTH),
     (extra w 0x03FF37FF || decide (1024 ≤ s) || (d.station s).isNone || decide (bitsOf w 23 16 = 0)
       || (List.range 3).any (fun l => capsBad (word ws (1 + l)) || (bitOf (word ws (1 + l)) 0 && !links.testBit l)), RC.BAD_VALUE)]
    ([Radio.a, .b, .c].foldl (fun d r => d.sramPut (linkRec s r) 4 (word ws (1 + r.num)).toNat) (d.sramPut (0x80 * s) 4 f1.toNat), [])

/-! Heat plans (R205 to R209) -/

/-- One Heat of a plan's bytes. -/
def heatSlotOf (bs : List Byte) : HeatSlot :=
  { offUs := leNat (bs.take 4), durUs := leNat ((bs.drop 4).take 2), kind := byteAt bs 6 % 4, ac := byteAt bs 6 / 16,
    mode := byteAt bs 7, masks := (List.range 16).map (fun m => leNat ((bs.drop (16 + 4 * m)).take 2)),
    limits := (List.range 16).map (fun m => byteAt bs (18 + 4 * m)) }

/-- The fields of a plan's bytes. -/
def heatPlanOf (bs : List Byte) : HeatPlan :=
  { format := byteAt bs 0, group := leNat ((bs.drop 2).take 2), seq := leNat ((bs.drop 4).take 2),
    center := leNat ((bs.drop 8).take 2), width := byteAt bs 10, band := byteAt bs 11, actS := leNat ((bs.drop 12).take 6),
    actNs := leNat ((bs.drop 18).take 4), periodUs := leNat ((bs.drop 24).take 4),
    members := (List.range (byteAt bs 6)).map (fun i => leNat ((bs.drop (32 + 2 * i)).take 2)),
    heats := (List.range (byteAt bs 7)).map (fun h => heatSlotOf ((bs.drop (64 + 80 * h)).take 80)) }

/-- Bytes at the given places are 0. -/
def zeroAt (bs : List Byte) (l : List Nat) : Bool := l.all (fun i => decide (byteAt bs i = 0))

/-- Length, CRC, reserved bytes, counts and ranges of R206. -/
def planShape (bs : List Byte) : Bool :=
  let m := byteAt bs 6
  let h := byteAt bs 7
  let p := heatPlanOf bs
  decide (1 ≤ m ∧ m ≤ 16 ∧ 1 ≤ h ∧ h ≤ 16 ∧ bs.length = 68 + 80 * h)
    && decide ((crc32 (bs.take (bs.length - 4))).toNat = leNat (bs.drop (bs.length - 4)))
    && zeroAt bs [1, 22, 23, 28, 29, 30, 31] && decide (p.width ≤ 4 ∧ p.band ≤ 2 ∧ p.actNs < 1000000000)
    && !outside p.periodUs 1024 1000000
    && p.members.all (fun a => decide (a < 1024))
    && (List.range 16).all (fun i => decide (i < m ∨ leNat ((bs.drop (32 + 2 * i)).take 2) = 0x3FF))
    && (List.range h).all (fun k => zeroAt (bs.drop (64 + 80 * k)) [8, 9, 10, 11, 12, 13, 14, 15]
      && (List.range 16).all (fun i => decide (byteAt (bs.drop (64 + 80 * k)) (19 + 4 * i) = 0))
      && decide (byteAt (bs.drop (64 + 80 * k)) 6 / 4 % 4 = 0))
    && p.heats.all (fun x => !outside x.durUs 100 10000 && decide (x.kind ≤ 2 ∧ x.ac ≤ 3 ∧ x.mode ≤ 1))
    && (decide (p.format ≠ 1) || (decide (p.width ≤ 3) && p.heats.all (fun x => decide (x.mode = 0) && x.masks.all (fun k => decide (k < 256)))))

/-- The CHAN word of a plan: its centre and width with the node's primary. -/
def Dev.planChan (d : Dev) (r : Radio) (p : HeatPlan) : Word :=
  putBits (putBits (d.rd (A.RFE.CHAN r)) 28 16 p.center) 10 8 p.width

/-- Heats lie within the period, rising, apart, and take at most 80 % of it. -/
def heatsFit (p : HeatPlan) : Bool :=
  p.heats.all (fun x => decide (x.offUs + x.durUs ≤ p.periodUs))
    && (List.range (p.heats.length - 1)).all (fun i => match p.heats[i]?, p.heats[i + 1]? with
      | some x, some y => decide (x.offUs + x.durUs ≤ y.offUs)
      | _, _ => true)
    && decide (10 * p.heats.foldl (fun n x => n + x.durUs) 0 ≤ 8 * p.periodUs)

/-- Masks that share no bit. -/
def disjoint (l : List Nat) : Bool := (l.foldl (fun (a : Nat × Bool) k => (a.1 ||| k, a.2 && decide (a.1 &&& k = 0))) (0, true)).2

/-- The node's own mask is a block around its primary with a puncturing pattern that R120 and R122 allow. -/
def Dev.maskOk (d : Dev) (r : Radio) (p : HeatPlan) (mask : Nat) : Bool :=
  let w := d.planChan r p
  let prim := primIdx r w
  mask.testBit prim && (List.range (p.width + 1)).any (fun b =>
    let lo := prim / 2 ^ b * 2 ^ b
    let blk := (2 ^ 2 ^ b - 1) * 2 ^ lo
    decide (mask &&& blk = mask) && punctOk r { d.ctrlVec r .heat 0 0 with fmt := 7, bw := b, ofdma := true, punct := (blk - mask) / 2 ^ lo }
      (prim - lo))

/-- SEQ of the plan a new one must be newer than (R208). -/
def Dev.heatSeq (d : Dev) (r : Radio) : Option Nat :=
  let s := d.asc.radios.get r
  match s.plan, s.pending with
  | some p, _ => some p.seq
  | none, some p => some p.seq
  | none, none => none

/-- The admission checks in order: the reply of the first that fails (R208). -/
def Dev.heatAdmit (d : Dev) (bs : List Byte) : Nat :=
  let p := heatPlanOf bs
  let r := Radio.ofNum p.band
  let c := d.rd (A.ASC.HEAT_CFG r.num)
  let me := d.memberIdx p
  if p.format < bitsOf c 19 16 ∨ bitsOf c 23 20 < p.format then RC.VERSION
  else if !planShape bs then RC.BAD_VALUE
  else if p.group ≠ bitsOf c 15 0 ∨ !d.bit A.ASC.HEAT_CTRL r.num then RC.NOT_PERMITTED
  else if p.members.length ≤ me then RC.NOT_PERMITTED
  else if (match d.heatSeq r with
      | some q => !newer16 p.seq q
      | none => false) then RC.NOT_IN_STATE
  else if !heatsFit p then RC.BAD_VALUE
  else if p.heats.any (fun x => decide (x.mode = 0) && !(disjoint (x.masks.take p.members.length) && d.maskOk r p (x.masks.getD me 0))) then
    RC.BAD_VALUE
  else if p.heats.any (fun x => decide (x.mode = 1 ∧ x.limits.getD me 0xFF = 0xFF)) then RC.BAD_VALUE
  else RC.OK

/-- The SRAM place of a plan slot (R192). -/
def planAt (r : Radio) (slot : Nat) : Nat := 0xF0000 + 0x800 * (2 * r.num + slot)

/-- Bytes at a place of the scheduler SRAM. -/
def Dev.sramBytes (d : Dev) (off : Nat) (bs : List Byte) : Dev := d.sramPut off bs.length (leNat bs)

/-- An admitted plan takes slot 1 (R208). -/
def Dev.heatPending (d : Dev) (bs : List Byte) : Dev :=
  let p := heatPlanOf bs
  let r := Radio.ofNum p.band
  ((d.sramPut (planAt r 1) 0x800 0).sramBytes (planAt r 1) bs).onAscRadio r (fun s =>
    { s with pending := some p, heatNext := if s.heatFor = s.pending ∧ s.pending ≠ s.plan then none else s.heatNext })

/-- HEAT_PLAN: one chunk of 1,016 bytes; the last one that is missing admits the plan or refuses it (R205). -/
def cmdHeatPlan (ws : List Word) (d : Dev) : Dev × Ans :=
  let w := word ws 0
  let k := bitsOf w 7 0
  let len := bitsOf w 31 16
  let data := ((wordsBytes (ws.drop 1)).take 1016).take (len - 1016 * k)
  let c := refuse [(decide (ws.length < 2 ∨ 255 < ws.length), RC.BAD_LENGTH),
    (extra w 0xFFFF00FF || decide (len ≤ 1016 * k ∨ 68 + 80 * 16 < len), RC.BAD_VALUE)]
  if c ≠ RC.OK then (d, Ans.err c)
  else
    let old := if d.asc.planLen = len then d.asc.planChunks else []
    let chunks := tabPut old k data
    if chunks.length < ceilDiv len 1016 then (d.onAsc (fun a => { a with planLen := len, planChunks := chunks }), Ans.ok [])
    else
      let bs := (chunks.map (fun e => e.2)).flatten
      let d1 := d.onAsc (fun a => { a with planLen := 0, planChunks := [] })
      let c1 := d.heatAdmit bs
      if c1 = RC.OK then (d1.heatPending bs, Ans.ok []) else (d1, Ans.err c1)

/-- A plan that Relay delivers (R205). -/
def Dev.heatPlanRx (d : Dev) (bs : List Byte) : Dev :=
  if d.heatAdmit bs = RC.OK then d.heatPending bs
  else (d.count A.ASC.HEAT_PLAN_REJECT_CNT).raise .asc Cause.ASC.HEAT_PLAN_REJECTED

/-- HEAT_SUSPENDED is set while some radio is suspended (R213). -/
def Dev.suspendCheck (d : Dev) : Dev :=
  d.follow .asc Cause.ASC.HEAT_SUSPENDED ([Radio.a, .b, .c].any (fun r => (d.asc.radios.get r).suspended))

/-- Both plan slots of a radio are emptied. -/
def Dev.heatClear (d : Dev) (r : Radio) : Dev :=
  (((d.sramPut (planAt r 0) 0x1000 0).onAscRadio r (fun s =>
    { s with plan := none, pending := none, heatNext := none, heatFor := none, suspended := false })).suspendCheck)

/-- HEAT_CLEAR. -/
def cmdHeatClear (ws : List Word) (d : Dev) : Dev × Ans :=
  cmdIf d [(decide (ws.length ≠ 1), RC.BAD_LENGTH), (extra (word ws 0) 3 || decide (bitsOf (word ws 0) 1 0 = 3), RC.BAD_VALUE)]
    (d.heatClear (Radio.ofNum (bitsOf (word ws 0) 1 0)), [])

/-- The newest good allocation of a radio, ordinary or of its Heats. -/
def Dev.newestAlloc (d : Dev) (r : Radio) (heat : Bool) : Option Alloc :=
  let s := d.asc.radios.get r
  if heat then match s.heatGood with
    | [] => none
    | x :: xs => some (xs.foldl (fun b e => if b.pub < e.2.pub then e.2 else b) x.2)
  else s.good

/-- ALLOC_GET. -/
def cmdAllocGet (ws : List Word) (d : Dev) : Dev × Ans :=
  let w := word ws 0
  let r := Radio.ofNum (bitsOf w 1 0)
  let a := d.newestAlloc r (bitOf w 2)
  let at_ := allocAt r (match a with
    | some x => x.buf
    | none => 0) + 1024 * bitsOf w 15 8
  cmdIf d [(decide (ws.length ≠ 1), RC.BAD_LENGTH), (a.isNone, RC.NOT_IN_STATE),
      (extra w 0xFF07 || decide (bitsOf w 1 0 = 3 ∨ 4 < bitsOf w 15 8), RC.BAD_VALUE)]
    (d, (List.range 256).map (fun i => d.sram32 (at_ + 4 * i)))

/-- A plan's channel is the one the radio is set to, and is on (R208). -/
def Dev.planHere (d : Dev) (r : Radio) (p : HeatPlan) : Bool :=
  let here (w : Word) : Bool := decide (chanCenter w = p.center ∧ chanWidth w = p.width)
  here (d.rd (A.RFE.CHAN r)) && here (d.rfe.get r).tuned

/-- The first period start of a plan, PTP ns, at or after now and its activation (R209). -/
def Dev.planStart (d : Dev) (p : HeatPlan) : Nat :=
  let act := p.actS * 1000000000 + p.actNs
  if d.ptpNs ≤ act then act else act + ceilDiv (d.ptpNs - act) (1000 * p.periodUs) * (1000 * p.periodUs)

/-- HEAT_PLAN_ACTIVATE: the pending plan takes force at its next period start; what was prepared for a Heat of the plan before goes,
one that runs completes (R209). -/
def effHeatPlanActivate (r : Radio) (d : Dev) : Dev :=
  match (d.asc.radios.get r).pending with
  | none => d
  | some p =>
    if !d.planHere r p then d
    else
      let d1 := d.at_ (d.tickAt (d.planStart p))
      let n := d1.sramGet (planAt r 1) 0x800
      (((d1.sramPut (planAt r 0) 0x800 n).sramPut (planAt r 1) 0x800 0).onAscRadio r (fun s =>
        { s with plan := some p, pending := none, suspended := false, heatNext := if s.heatFor = some p then s.heatNext else none,
                 heatGood := if s.heatFor = some p then s.heatGood else [], heatFor := some p })).suspendCheck

/-! Heats (R210 to R214) -/

/-- The first Heat of a plan that starts after a PTP time, ns, and not before another: its index and start. -/
def HeatPlan.nextAfter (p : HeatPlan) (t from_ : Nat) : Option (Nat × Nat) :=
  let act := p.actS * 1000000000 + p.actNs
  let l := p.heats.zipIdx.map (fun e => (e.2, nextStart (act + 1000 * e.1.offUs) (1000 * p.periodUs) (max t (from_ - 1))))
  match l with
  | [] => none
  | x :: xs => some (xs.foldl (fun b y => if y.2 < b.2 then y else b) x)

/-- The next Heat on a radio after a PTP time: of the plan in force up to where the pending one takes force, of that one from there on;
its plan, index and start (R209, R210). -/
def Dev.heatAfter (d : Dev) (r : Radio) (t : Nat) : Option (HeatPlan × Nat × Nat) :=
  let s := d.asc.radios.get r
  let old := s.plan.bind (fun p => (p.nextAfter t 0).map (fun x => (p, x)))
  match s.pending with
  | none => old
  | some q =>
    if !d.planHere r q then old
    else
      let sw := d.planStart q
      match old with
      | some (p, x) => if x.2 < sw then some (p, x) else (q.nextAfter t sw).map (fun y => (q, y))
      | none => (q.nextAfter t sw).map (fun y => (q, y))

/-- Some radios are suspended, or none (R213). -/
def Dev.suspendAll (d : Dev) (on : Bool) : Dev :=
  let f (s : AscRadio) : AscRadio := { s with suspended := on && (s.plan.isSome || s.suspended) }
  (d.onAsc (fun a => { a with radios := ⟨f a.radios.a, f a.radios.b, f a.radios.c⟩ })).suspendCheck

/-- HEAT_ROUND_SUBMIT: at launch − LEAD_US − PERIOD_US; the servo decides whether the node is to run the Heat (R210, R213). -/
def effHeatRoundSubmit (r : Radio) (d0 : Dev) : Dev :=
  let lead := d0.fld (A.ASC.HEAT_CFG r.num) 31 24
  let per := d0.periodAt d0.tb
  let last := match (d0.asc.radios.get r).heatNext with
    | some x => d0.ptpAt x.launch
    | none => 0
  match d0.heatAfter r (max (d0.ptpAt (d0.tb + usT (lead + per)) - 1) last) with
  | none => d0
  | some (p, h, startNs) =>
    let launch := d0.tickAt startNs
    let dur := match p.heats[h]? with
      | some x => x.durUs
      | none => 0
    let d := (d0.at_ (launch - usT (lead + per))).deadlines
    let un := decide (d.tmu.servo ≠ .locked)
    let d1 := (d.onAscRadio r (fun s => { s with
      heatNext := some { idx := h, launch := launch, end_ := launch + usT dur, un := un, sub := d.tb },
      heatGood := if s.heatFor = some p then s.heatGood else [], heatFor := some p })).suspendAll un
    if un || !d1.ready .asc || !d1.ready .qar || !d1.avail r || (d1.asc.radios.get r).heatFlight.isSome then d1
    else
      let buf := match d1.newestAlloc r true with
        | some a => 5 - a.buf
        | none => 2
      let dl := launch - usT lead
      match { d1 with free := d1.free + 4 }.qarSubmit (d.fld A.QAR.ASC_TPL 12 8) (d.fld A.ASC.PRIO 7 6) dl (d.enableMask r) d1.freeCtx
          1 r.num with
      | (d2, some i, _) => d2.onAscRadio r (fun s =>
          { s with heatFlight := some (i, dl, buf, h), heatGood := s.heatGood.filter (fun e => decide (e.2.buf ≠ buf)) })
      | (d2, none, _) => d2.heatMissed r

/-- Another Heat, on the other radio of a non-STR pair, keeps this one silent (R214). -/
def Dev.heatYields (d : Dev) (r : Radio) (launch end_ : Nat) : Bool :=
  match pairOf r with
  | none => false
  | some o =>
    match (d.asc.radios.get o).plan with
    | none => false
    | some p =>
      let ns := d.ptpAt
      let act := p.actS * 1000000000 + p.actNs
      !d.mld.bcStr && p.heats.any (fun x =>
        let first := act + 1000 * x.offUs
        let per := 1000 * p.periodUs
        if ns end_ ≤ first then false
        else
          let s := first + (ns end_ - 1 - first) / per * per
          let e := s + 1000 * x.durUs
          let same := decide (s ≤ ns launch + 3 ∧ ns launch ≤ s + 3)
          let near := decide (e ≤ ns end_ + 8000 ∧ ns end_ ≤ e + 8000)
          decide (ns launch < e) && !(same && near) && ((decide (s < ns launch) && !same) || (same && decide (r = .b))))

/-- The node stays silent in a Heat. -/
def Dev.heatSkip (d : Dev) : Dev := d.count A.ASC.HEAT_SKIP_CNT

/-- HEAT_LAUNCH: the launch PPDU's first sample leaves at the Heat start, or the node stays silent (R210 to R214). `s`: the vector
and rooms IEEE 802.11 gives it. -/
def effHeatLaunch (r : Radio) (s : TxStart) (d0 : Dev) : Dev :=
  match (d0.asc.radios.get r).heatNext with
  | none => d0
  | some x =>
    d0.withLinks (fun d0 =>
    let launch := x.launch
    let d := (d0.at_ (launch - d0.wayToTx r)).deadlines
    let ok := (d.asc.radios.get r).heatGood.find? (fun e => decide (e.1 = x.idx))
    let d1 := (d.twtCut r).onAscRadio r (fun s => { s with heatNext := none, heatRun := some (x.end_, true) })
    if x.un then d1
    else match ok with
      | none => d1.heatSkip
      | some (_, a) =>
        let base := allocAt r a.buf
        let aged := decide (a.pub < x.sub ∧ usT (d.fld A.ASC.ROUND_CFG 31 16) ≤ launch - a.snap)
        if aged || !d.avail r || d.heatYields r launch x.end_ || decide (launch < d.tb + d.wayToTx r) then d1.heatSkip
        else match (if bitOf (d.sram32 base) 25 then d1.fillMu r base s.vec s.rooms false 4 else d1.fillTrigger r base s.vec) with
          | (d2, none) => d2.heatSkip
          | (_, some f) =>
            let d2 := (f.dev.shortDone r).transmit r { f.vec with kind := .heat } f.fids s.ready
            if (d2.phy.get r).tx.isSome then
              (d2.onAscRadio r (fun s => { s with heatRun := some (x.end_, false) })).count A.ASC.HEAT_RUN_CNT
            else
              let left := match (d2.rfe.get r).wait with
                | some w => w.fids
                | none => []
              ((d2.onRfe r (fun f => { f with wait := none })).toHead r left).heatSkip)

/-- HEAT_END: contention resumes (R211). -/
def effHeatEnd (r : Radio) (d : Dev) : Dev :=
  match (d.asc.radios.get r).heatRun with
  | none => d
  | some (t, _) => ((d.at_ t).onAscRadio r (fun s => { s with heatRun := none })).bcnSeen r

/-! The ASC page and its resets -/

/-- The station records are rebuilt, DEBT 0; allocations and plans go (R215). -/
def Dev.ascReset (d : Dev) : Dev :=
  let rebuilt := d.mld.stations.foldl (fun d e =>
    let f := d.flagsOf e.1
    let caps := [Radio.a, .b, .c].map (fun r => d.capsOf e.1 r)
    let d1 := d.staRecords e.1 e.2
    let d2 := d1.sramPut (0x80 * e.1) 4 ((f &&& 0x03FF0300) ||| wd (1 + 2 * e.2.links + 16 * b2n e.2.powerSave)).toNat
    (caps.zipIdx.foldl (fun d c => d.sramPut (0x20000 + 0x100 * (3 * e.1 + c.2)) 4 c.1.toNat) d2).staDepths e.1)
    (d.onAsc (fun a => { a with sram := a.sram.filter (fun e => decide (e.1 < 0xE0000)) }))
  (rebuilt.onAsc (fun a => { a with radios := ⟨AscRadio.reset, AscRadio.reset, AscRadio.reset⟩, planLen := 0, planChunks := [],
                                     missSec := 0, missNow := 0 })).suspendCheck

/-- What a write of an ASC register meets besides its fields' ranges (R207). -/
def ascPre (o : Nat) (v : Word) (_d : Dev) : List (Bool × Nat) :=
  [(decide ((o = 0x080 ∨ o = 0x084 ∨ o = 0x088) ∧ bitsOf v 23 20 < bitsOf v 19 16), RC.BAD_VALUE)]

/-- The live registers of the ASC page. -/
def ascLive (o : Nat) (d : Dev) : Option Word :=
  let rs : List Radio := [.a, .b, .c]
  let bits (lo : Nat) (f : Radio → Bool) : Nat := rs.foldl (fun n r => n + b2n (f r) * 2 ^ (lo + r.num)) 0
  if o = 0x070 ∨ o = 0x074 ∨ o = 0x078 then
    some (match (d.asc.radios.get (Radio.ofNum ((o - 0x070) / 4))).good with
      | some a => wd (min 4095 ((d.tb - a.snap) / 250) * 2 ^ 20 + 2 ^ 16 + a.round % 65536)
      | none => 0)
  else if o = 0x090 then
    some (wd (b2n (decide (d.tmu.servo = .locked)) * 2 ^ 12 + bits 8 (fun r => (d.asc.radios.get r).pending.isSome)
      + bits 4 (fun r => match (d.asc.radios.get r).pending with
          | some p => !d.planHere r p
          | none => false)
      + bits 0 (fun r => (d.asc.radios.get r).plan.isSome && !(d.asc.radios.get r).suspended)))
  else if o = 0x094 ∨ o = 0x098 ∨ o = 0x09C then
    some (match (d.asc.radios.get (Radio.ofNum ((o - 0x094) / 4))).plan with
      | some p => wd (p.seq % 65536 * 2 ^ 16 + p.format % 16 * 2 ^ 12 + p.heats.length % 32)
      | none => 0)
  else none

end Sys2Proof.Machine
end

