-- ==== Sys2Proof/Machine/Eth.lean ====
section
/-! DEFINITION. Ethernet ports: link, reception, transmission with preemption, pause, energy saving, the Stride change
(spec/13_ethernet.md; spec/11 R290). -/

namespace Sys2Proof.Machine

/-- MODE, FEC and AN of a port (ETH_n.MODE). -/
def Dev.ethMode (d : Dev) (n : Nat) : Nat := d.fld (A.ETH.MODE n) 2 0

/-- A mode and FEC that R317 allows for the port. -/
def ethModeOk (n mode fec : Nat) : Bool :=
  if mode = 0 then decide (fec ≤ 2)
  else if mode = 1 then decide (n < 2 ∧ fec ≤ 2)
  else if mode = 2 then decide (fec ≤ 1)
  else decide (3 ≤ mode ∧ mode ≤ 6 ∧ 2 ≤ n ∧ fec = 0)

/-- The rate the mode gives; `an` is what in-band negotiation found, where the mode negotiates (R317). -/
def Dev.ethRate (d : Dev) (n an : Nat) : Option Nat :=
  let neg := d.bit (A.ETH.MODE n) 8
  match d.ethMode n with
  | 1 => some 6
  | 2 => some 5
  | 3 => if neg then (if an ≤ 5 then some an else none) else some 5
  | 4 => some 4
  | 5 => some 3
  | 6 => if neg then (if an ≤ 2 then some an else none) else some (min 2 (d.fld (A.ETH.MODE n) 10 9))
  | _ => none

/-- Preemption is active on transmission (R328). -/
def Dev.preempts (d : Dev) (n : Nat) : Bool :=
  d.bit (A.ETH.PREEMPT_CFG n) 0 && (d.bit (A.ETH.PREEMPT_CFG n) 1 || decide ((d.ethPort n).verify = 2))

/-- A class is express (R328); without preemption every frame is. -/
def Dev.isExpress (d : Dev) (n c : Nat) : Bool := !d.preempts n || d.bit (A.ETH.PREEMPT_CFG n) (8 + c)

/-- Verification starts: the first Verify goes out, or there is none to do (R328). -/
def Dev.verifyStart (d : Dev) (n : Nat) : Dev :=
  if d.bit (A.ETH.PREEMPT_CFG n) 0 && !d.bit (A.ETH.PREEMPT_CFG n) 1 then
    (d.onEth n (fun p => { p with verify := 1, attempts := 1, verifyDue := d.tb + msT (d.fld (A.ETH.PREEMPT_CFG n) 23 16) })).ctlSend
      n .verify
  else d.onEth n (fun p => { p with verify := 0, attempts := 0 })

/-- The words of a Stride frame after its type and transaction: version, minimum, maximum, target, FEC, lead, reason (R330). -/
def strideArgs (ver mn mx target fec lead reason : Nat) : List Nat := [ver, mn, mx, target, fec, lead, reason]
def Dev.strideSend (d : Dev) (n typ xid : Nat) (args : List Nat) : Dev := d.ctlSend n (.stride typ xid args)
def Dev.strideMin (d : Dev) (n : Nat) : Nat := d.fld (A.ETH.STRIDE_CFG n) 11 8
def Dev.strideMax (d : Dev) (n : Nat) : Nat := d.fld (A.ETH.STRIDE_CFG n) 15 12
def Dev.strideOn (d : Dev) (n : Nat) : Bool := decide (n < 2) && d.bit (A.ETH.STRIDE_CFG n) 0

/-- Send an OFFER; the next is due 10 s on (R331). -/
def Dev.strideOffer (d : Dev) (n : Nat) : Dev :=
  (d.strideSend n 1 0 (strideArgs (d.strideMax n) (d.strideMin n) (d.strideMax n) 0 0 0 0)).onEth n
    (fun p => { p with offer := some (d.tb + sT 10) })

/-- A Stride change ends, with a RESULT (R332). -/
def Dev.strideEnd (d : Dev) (n result : Nat) : Dev :=
  (d.onEth n (fun p => { p with stride := none, result := result })).raise (.eth n) Cause.ETH.STRIDE_END

/-- A port of UPLINK has its link up (spec/16 R381). -/
def Dev.hasUplink (d : Dev) : Bool :=
  (bitList (d.rd A.MSH.ROOT_CFG) 10).any (fun n => (d.ethPort n).link)

/-- A root notes since when it has had no uplink link (spec/16 R382). -/
def Dev.uplinkWatch (d : Dev) : Dev :=
  if d.hasUplink then d.onMsh (fun m => { m with uplinkLost := none })
  else if d.msh.state = .root ∧ d.msh.uplinkLost = none then d.onMsh (fun m => { m with uplinkLost := some d.tb }) else d

/-- The link is lost: the frame on the wire and a suspended one are aborted, pause state clears, a change ends with a RESULT
the spec does not state: a free value (R318). -/
def Dev.linkLost (d : Dev) (n : Nat) : Dev :=
  let p := d.ethPort n
  if !p.link then d
  else
    let abort (d : Dev) (t : Option EthTx) : Dev := match t with
      | some x => (d.release x.entry).count (A.ETH.TX_ABORT_CNT n)
      | none => d
    let d0 := match p.tx with
      | some x => d.emit (.eth n (.aborted x.entry))
      | none => d
    let d1 := abort (abort d0 p.tx) p.suspended
    let d2 := d1.onEth n (fun p => { p with link := false, fecLock := false, lpiRx := false, lpiTx := false, waking := none,
                                            paused := [], pausedAt := [], ctl := [], xoff := [], tx := none, suspended := none, verify := 0, attempts := 0,
                                            partnerOk := false, partner := none, offer := none })
    let d3 := if p.stride.isSome then d2.took.strideEnd n (d2.freeVal 8) else d2
    ((d3.count (A.ETH.LINK_DOWN_CNT n)).raise (.eth n) Cause.ETH.LINK_CHANGE).uplinkWatch

/-- LINK_DOWN: the link is lost, or a fault is signaled; the faults seen are reported (R317, R318). -/
def effLinkDown (n : Nat) (local_ remote : Bool) (d : Dev) : Dev :=
  if !d.present (.eth n) then d
  else (d.linkLost n).onEth n (fun p => { p with localFault := local_, remoteFault := remote })

/-- LINK_UP: block lock with no fault; verification and OFFERs start again (R317, R318, R328, R331). `an`: the rate that
in-band negotiation found. -/
def effLinkUp (n an : Nat) (d : Dev) : Dev :=
  let p := d.ethPort n
  if !d.present (.eth n) || !(d.blk (.eth n)).enable || p.link || (d.blk (.eth n)).selftest then d
  else match d.ethRate n an with
    | none => d
    | some r =>
      let d0 := d.hwWake (.eth n)
      let d1 := d0.onEth n (fun p => { p with link := true, rate := r, localFault := false, remoteFault := false,
                                              fecLock := decide (d.fld (A.ETH.MODE n) 5 4 ≠ 0), idleAt := d.tb })
      let d2 := (d1.verifyStart n).raise (.eth n) Cause.ETH.LINK_CHANGE
      let d3 := if d2.strideOn n then d2.strideOffer n else d2
      ((List.range 8).foldl (fun d c => d.fcJudge n c) d3).uplinkWatch

/-! Reception (R319, R320) -/

/-- What arrives on a port as a whole: a frame with what its FCS and its reassembly say and how many ticks ago its message
timestamp point was (R333), a Verify or a Respond mPacket,
the start or the end of the partner's low-power idle. -/
inductive EthIn where
  | frame (h : Hdr) (fcs : Bool) (preempted : Bool) (reasm : Bool) (age : Nat)
  | verify
  | respond
  | lpi (on : Bool)
deriving DecidableEq, Repr

/-- The class a received frame counts against in its port's occupancy: its outer tag's priority (notes/assumptions/46.md). -/
def Hdr.iclass (h : Hdr) : Nat := match h.tags with
  | t :: _ => t.pcp % 8
  | [] => 0

/-- A PTP frame on a port of the PTP instance (spec/15 R363). -/
def Dev.ptpFrame (d : Dev) (n : Nat) (h : Hdr) : Bool :=
  decide (h.etype = 0x88F7) && d.bit A.TMU.PTP_CFG0 0 && d.bit A.TMU.PTP_CFG1 n

/-- The ingress time of a frame whose timestamp point was `age` ticks ago, with the port's TS_ADJ.RX in quarters of a ns (R333). -/
def Dev.ingressTime (d : Dev) (n age : Nat) : Nat :=
  ((((d.tb - age : Nat) : Int) * 16 + signed 16 (d.fld (A.ETH.TS_ADJ n) 31 16)) / 16).toNat

/-- A frame good in size, FCS and cells enters the PKE's input with its ingress time (R319, R333); a PTP frame goes to the PTP
instance instead. -/
def Dev.ethAccept (d : Dev) (n : Nat) (h : Hdr) (age : Nat) : Dev :=
  if d.ptpFrame n h then ((d.count (A.ETH.RX_OK_CNT n)).countN (A.ETH.RX_OCTET_CNT n) h.len).count A.TMU.PTP_RX_CNT else
  let k := cellsOf h.len
  let f : InFrame := { id := d.tmg.nextFid, source := n, hdr := h, time := d.ingressTime n age, sta := none, tid := 0, bss := 0, direct := none,
                       cells := k, share := 0, icls := h.iclass, ring := none }
  let d1 := ((d.nextFid).count (A.ETH.RX_OK_CNT n)).countN (A.ETH.RX_OCTET_CNT n) h.len
  let d2 := d1.cellsTake 0 k (some (n, h.iclass))
  d2.onPke (fun p => { p with waiting := tabSet [] p.waiting n (tabGet [] p.waiting n ++ [f]) })

/-- The port is between a Stride change's switch and its block lock (R332). -/
def EthPort.relocking (p : EthPort) : Bool :=
  match p.stride with
  | some s => match s.phase with
    | .relock _ => true
    | _ => false
  | none => false

/-- A whole frame passes the port's checks: the link, its size, its FCS, cells for it (R319, R321). -/
def Dev.ethGood (d : Dev) (n : Nat) (h : Hdr) (fcs : Bool) : Bool :=
  (d.ethPort n).link && !(d.ethPort n).relocking && decide (64 ≤ h.len ∧ h.len ≤ d.fld (A.ETH.MAX_FRAME n) 13 0) && fcs
    && d.inkRoom 0 (cellsOf h.len)

/-- ETH_RX_FRAME (R319 to R322, R328). MAC control frames come here with an opcode that no rule acts on; PAUSE and PFC have
rows of their own. A data-plane frame wakes the port's block and, through the PKE's input, the PKE (R442). -/
def effEthRxFrame (n : Nat) (x : EthIn) (d : Dev) : Dev :=
  let p := d.ethPort n
  if !p.link || p.relocking then d
  else match x with
    | .verify => (d.onEth n (fun p => { p with partnerOk := true })).ctlSend n .respond
    | .respond => if p.verify = 1 then d.onEth n (fun p => { p with verify := 2 }) else d
    | .lpi on => d.onEth n (fun p => { p with lpiRx := on })
    | .frame h fcs pre reasm age =>
      if reasm || (pre && !p.partnerOk) then d.count (A.ETH.RX_REASM_ERR_CNT n)
      else if h.len < 64 then d.count (A.ETH.RX_RUNT_CNT n)
      else if d.fld (A.ETH.MAX_FRAME n) 13 0 < h.len then d.count (A.ETH.RX_OVERSIZE_CNT n)
      else if !fcs then d.count (A.ETH.RX_FCS_ERR_CNT n)
      else if !d.inkRoom 0 (cellsOf h.len) then d.count (A.ETH.RX_OVERFLOW_CNT n)
      else if h.etype = 0x8808 then d.count (A.ETH.RX_CTRL_OTHER_CNT n)
      else if n < 2 ∧ h.etype = 0x88B6 ∧ h.dst = 0x0180C200000E then d.count (A.ETH.STRIDE_RX_CNT n)
      else ((d.hwWake (.eth n)).hwWake .pke).ethAccept n h age

/-! Pause (R322 to R325) -/

/-- A pause time for one class takes effect in the next tick: the class, and whether it was zero with nothing paused. -/
def Dev.pauseClass (d : Dev) (n c quanta : Nat) : Dev × Bool :=
  let on : Bool := match tabFind (d.ethPort n).paused c with
    | some t => decide (d.tb < t)
    | none => false
  if quanta ≠ 0 then
    (d.onEth n (fun p => { p with paused := tabPut p.paused c (d.tb + 1 + pauseTicks p.rate quanta),
                                  pausedAt := if on then p.pausedAt else tabPut p.pausedAt c (d.tb + 1) }), false)
  else if on then (d.onEth n (fun p => { p with paused := tabPut p.paused c (d.tb + 1) }), false)
  else (d, true)

/-- Apply times to classes; a frame with a zero time for a class not paused is counted once (R324). -/
def Dev.pauseClasses (d : Dev) (n : Nat) (cs : List (Nat × Nat)) : Dev :=
  let (d1, z) := cs.foldl (fun (s : Dev × Bool) c =>
    let (d', z) := s.1.pauseClass n c.1 c.2
    (d', s.2 || z)) (d, false)
  if z then d1.count (A.ETH.RX_PAUSE_ZERO_CNT n) else d1

/-- A MAC control frame's destination is its group address or the port's own; an address of 0 matches nothing (R322, R334). -/
def Dev.ctrlMine (d : Dev) (n dst : Nat) : Bool :=
  decide (dst = 0x0180C2000001) || (decide (d.ethMac n ≠ 0) && decide (dst = d.ethMac n))

/-- PAUSE_RX. -/
def effPauseRx (n dst quanta : Nat) (d : Dev) : Dev :=
  if !(d.ethPort n).link then d
  else if d.fcMode n = 1 ∧ d.ctrlMine n dst then
    (d.count (A.ETH.RX_PAUSE_CNT n)).pauseClasses n ((List.range 8).map (fun c => (c, quanta % 65536)))
  else d.count (A.ETH.RX_CTRL_OTHER_CNT n)

/-- PFC_RX: the enable bits and the eight times. -/
def effPfcRx (n dst enables : Nat) (times : List Nat) (d : Dev) : Dev :=
  if !(d.ethPort n).link then d
  else if d.fcMode n = 2 ∧ d.ctrlMine n dst then
    (d.count (A.ETH.RX_PFC_CNT n)).pauseClasses n
      (((List.range 8).filter (fun c => enables.testBit c)).map (fun c => (c, times.getD c 0 % 65536)))
  else d.count (A.ETH.RX_CTRL_OTHER_CNT n)

/-- PAUSE_TIMER_EXPIRY of a class: its time has run out (R324). -/
def effPauseTimerExpiry (n c : Nat) (d : Dev) : Dev :=
  match tabFind (d.ethPort n).paused c with
  | none => d
  | some t => ((d.at_ t).onEth n (fun p => { p with paused := tabDel p.paused c })).settle (8256 + 8 * n + c)

/-! Transmission (R290, R321, R325, R328) -/

/-- A class is eligible: link up, not paused, its head in Inkwell and allowed by its Pacers (R290). -/
def Dev.ethEligible (d : Dev) (n c : Nat) : Option Entry :=
  if d.pauseBars n c || !(d.ethPort n).link || !d.ready .tmg then none
  else d.headReady (8256 + 8 * n + c)

/-- The classes that may start now: all of them with nothing suspended and nothing on the wire, else express ones (R325). -/
def Dev.ethMay (d : Dev) (n : Nat) (exprOnly : Bool) (c : Nat) : Option Entry :=
  if exprOnly && !d.isExpress n c then none else d.ethEligible n c

/-- Deficit round robin among the classes outside SP: from the class the round is at, downward; each class gets its quantum
when the round comes to it, and an empty class loses its deficit (R290). Answers the class to send. -/
def Dev.drr (d : Dev) (n : Nat) (exprOnly : Bool) : Nat → Nat → Bool → Dev × Option (Nat × Entry)
  | 0, _, _ => (d, none)
  | fuel + 1, c, fresh =>
    let q := 8256 + 8 * n + c
    let x := d.queue q
    let next := (c + 7) % 8
    if d.bit (A.TMG.ETH_SCHED n) c then d.drr n exprOnly fuel next true
    else if x.entries = [] then
      let d1 := if x.deficit = 0 then d else d.setQueue q { x with deficit := 0 }
      d1.drr n exprOnly fuel next true
    else match d.ethMay n exprOnly c with
      | none => d.drr n exprOnly fuel next true
      | some e =>
        let def_ := x.deficit + if fresh then (d.profile x.profile).quantum else 0
        if e.len ≤ def_ then
          ((d.setQueue q { x with deficit := def_ - e.len }).onEth n (fun p => { p with turn := c }), some (c, e))
        else (d.setQueue q { x with deficit := def_ }).drr n exprOnly fuel next true

/-- The class the scheduler releases: strict priority first, highest class first, then the round (R290). -/
def Dev.ethPick (d : Dev) (n : Nat) (exprOnly : Bool) : Dev × Option (Nat × Entry) :=
  let sp := [7, 6, 5, 4, 3, 2, 1, 0].filter (fun c => d.bit (A.TMG.ETH_SCHED n) c)
  match sp.find? (fun c => (d.ethMay n exprOnly c).isSome) with
  | some c => (d, (d.ethMay n exprOnly c).map (fun e => (c, e)))
  | none =>
    if (List.range 8).any (fun c => !d.bit (A.TMG.ETH_SCHED n) c && (d.ethMay n exprOnly c).isSome) then
      d.drr n exprOnly 1600 (d.ethPort n).turn false
    else (d, none)

/-- Bytes of a frame on the wire: padded to 64 (R321). -/
def wireLen (len : Nat) : Nat := max 64 len

/-- A piece of a frame begins: 8 bytes of preamble, its data, 12 of gap. -/
def Dev.ethBegin (d : Dev) (n : Nat) (x : EthTx) : Dev :=
  d.onEth n (fun p => { p with tx := some { x with began := d.tb, stop := d.tb + wireTicks p.rate (x.left + 20) } })

/-- Where a preemptable frame on the wire may be cut now: data bytes sent at the first 8-byte boundary that leaves a long
enough fragment and at least 64 bytes (R328). -/
def Dev.cutAt (d : Dev) (n : Nat) (x : EthTx) : Option Nat :=
  let sent := (d.tb - x.began) * 25600 / quantum (d.ethPort n).rate - 8
  let least := 64 * (1 + d.fld (A.ETH.PREEMPT_CFG n) 3 2) - 4
  let b := 8 * ceilDiv (max sent least) 8
  if b + 64 ≤ x.left then some b else none

/-- Cut the preemptable frame on the wire (R328): the fragment and its mCRC end, the rest waits. -/
def Dev.ethCut (d : Dev) (n : Nat) (x : EthTx) (b : Nat) : Dev :=
  let d1 := d.at_ (x.began + wireTicks (d.ethPort n).rate (b + 24))
  ((d1.onEth n (fun p => { p with tx := none, suspended := some { x with left := x.left - b } })).emit
    (.eth n (.fragment x.entry))).count (A.ETH.FRAG_TX_CNT n)

/-- Start the frame the scheduler released: it leaves its queue; one that is too long after its edits counts and goes no
further; one with an uncorrectable Inkwell error is lost (R284, R309, R321, R340). -/
def Dev.ethStart (d : Dev) (n c : Nat) (e : Entry) (ce ue : Bool) : Dev :=
  let d0 := d.depart (8256 + 8 * n + c)
  let d1 := if ce then d0.count A.MEM.INK_CE_CNT else d0
  if ue then
    ((d1.release e).txComplete e RC.INTERNAL).inkUe e
  else if d.fld (A.ETH.MAX_FRAME n) 13 0 < e.len then (d1.release e).count (A.ETH.TX_OVERSIZE_CNT n)
  else
    let x : EthTx := { entry := { e with hdr := d1.remark e }, cls := c, express := d.isExpress n c, began := 0,
                       left := wireLen e.len, stop := 0 }
    d1.ethBegin n x

/-- Resume the suspended frame with its next fragment, once its class is not paused (R325). -/
def Dev.ethResume (d : Dev) (n : Nat) : Dev :=
  match (d.ethPort n).suspended with
  | some x => if d.pauseBars n x.cls then d
    else (d.onEth n (fun p => { p with suspended := none })).ethBegin n x
  | none => d

/-- ETH_TX_START: the port scheduler starts an eligible frame; an express or a generated one cuts a preemptable frame on the wire;
a port in LPI wakes first. `ce`, `ue`: the frame's words in Inkwell show a corrected or an uncorrectable error (R340). -/
def effEthTxStart (n : Nat) (ce ue : Bool) (d : Dev) : Dev :=
  let p := d.ethPort n
  let any := (List.range 8).any (fun c => (d.ethEligible n c).isSome)
  if !p.link || p.noStart then d
  else if p.lpiTx then (if any then d.lpiLeave n else d)
  else match p.tx with
    | some x =>
      if x.express || !d.preempts n then d
      else if !p.ctl.isEmpty then (match d.cutAt n x with
        | some b => (d.ethCut n x b).ctlFlush n
        | none => d)
      else match d.ethPick n true, d.cutAt n x with
        | (d1, some (c, e)), some b => (d1.ethCut n x b).ethStart n c e ce ue
        | _, _ => d
    | none =>
      let (d1, r) := d.ethPick n p.suspended.isSome
      match r with
      | some (c, e) => d1.ethStart n c e ce ue
      | none => d1.ethResume n

/-- ETH_TX_FRAME_END: the frame on the wire is sent; its cells are released (R318, R325, R326). -/
def effEthTxFrameEnd (n : Nat) (d : Dev) : Dev :=
  match (d.ethPort n).tx with
  | none => d
  | some x =>
    let d1 := (d.at_ x.stop).onEth n (fun p => { p with tx := none, idleAt := max d.tb x.stop })
    let d2 := (d1.emit (.eth n (.frame x.entry x.express))).count (A.ETH.TX_OK_CNT n)
    ((d2.countN (A.ETH.TX_OCTET_CNT n) (wireLen x.entry.len)).ctlFlush n).release x.entry

/-- VERIFY_TIMER (R328). -/
def effVerifyTimer (n : Nat) (d : Dev) : Dev :=
  let p := d.ethPort n
  if p.verify ≠ 1 then d
  else
    let d1 := d.at_ p.verifyDue
    if p.attempts < 3 then
      (d1.onEth n (fun p => { p with attempts := p.attempts + 1, verifyDue := d1.tb + msT (d.fld (A.ETH.PREEMPT_CFG n) 23 16) })).ctlSend
        n .verify
    else ((d1.onEth n (fun p => { p with verify := 3 })).count (A.ETH.VERIFY_FAIL_CNT n)).raise (.eth n) Cause.ETH.VERIFY_FAIL

/-! Energy saving (R329) -/

/-- LPI is available in the port's mode and rate. -/
def Dev.lpiMode (d : Dev) (n : Nat) : Bool :=
  match d.ethMode n with
  | 1 | 2 | 3 => true
  | 6 => decide ((d.ethPort n).rate = 1 ∨ (d.ethPort n).rate = 2)
  | _ => false

/-- LPI_ENTRY. -/
def effLpiEntry (n : Nat) (d : Dev) : Dev :=
  let p := d.ethPort n
  let busy := p.tx.isSome || p.suspended.isSome || p.stride.isSome || p.waking.isSome || p.lpiTx || !p.ctl.isEmpty
    || (List.range 8).any (fun c => (d.ethEligible n c).isSome)
  if !p.link || !d.bit (A.ETH.EEE_CFG n) 0 || !d.lpiMode n || busy then d
  else
    let d1 := d.at_ (p.idleAt + usT (d.fld (A.ETH.EEE_CFG n) 23 8))
    ((d1.onEth n (fun p => { p with lpiTx := true })).emit (.eth n (.lpi true))).count (A.ETH.LPI_TX_CNT n)

/-- LPI_WAKE_DONE: the port may send. -/
def effLpiWakeDone (n : Nat) (d : Dev) : Dev :=
  match (d.ethPort n).waking with
  | none => d
  | some t => ((d.at_ t).onEth n (fun p => { p with waking := none, idleAt := max d.tb t })).ctlFlush n

/-! The Stride change (R330 to R332) -/

/-- STRIDE_OFFER_TIMER. -/
def effStrideOfferTimer (n : Nat) (d : Dev) : Dev :=
  match (d.ethPort n).offer with
  | some t => if (d.ethPort n).link && d.strideOn n then (d.at_ t).strideOffer n else d
  | none => d

/-- STRIDE_OFFER_RX: the versions are agreed by R41. -/
def effStrideOfferRx (n mn mx : Nat) (d : Dev) : Dev :=
  if !(d.ethPort n).link || decide (2 ≤ n) then d
  else
    let d1 := d.count (A.ETH.STRIDE_RX_CNT n)
    if !d.strideOn n then d1
    else match agree (d.strideMin n) (d.strideMax n) mn mx with
      | some v => d1.onEth n (fun p => { p with partner := some v, offer := none })
      | none => d1.onEth n (fun p => { p with partner := none, offer := none, result := 5 })

/-- The rate code a target names. -/
def targetRate (t : Nat) : Nat := if t = 0 then 5 else 6

/-- The FEC that R317 allows at a target rate. -/
def strideFecOk (target fec : Nat) : Bool := if target = 0 then decide (fec ≤ 1) else decide (fec ≤ 2)

/-- The FEC a change ends with: fixed by version 1, carried by version 2 (R331). -/
def strideFec (ver target fec : Nat) : Nat := if ver = 1 then (if target = 0 then 0 else 2) else fec

/-- STRIDE_START (R332, R334). -/
def cmdStrideStart (n : Nat) (ws : List Word) (d : Dev) : Dev × Ans :=
  let p := d.ethPort n
  let w := word ws 0
  let target := bitsOf w 0 0
  let fec := bitsOf w 5 4
  let ver := p.partner.getD 0
  cmdIf d
    [(decide (ws.length ≠ 1), RC.BAD_LENGTH), (!d.present (.eth n), RC.ABSENT),
     (decide (n < 2) && (p.partner.isNone || !p.link || p.stride.isSome || decide (d.ethMac n = 0)), RC.NOT_IN_STATE),
     (decide (2 ≤ n) || extra w 0x31 || decide (targetRate target = p.rate) || !strideFecOk target fec, RC.BAD_VALUE)]
    ((d.strideSend n 2 p.nextXid (strideArgs ver (d.strideMin n) (d.strideMax n) target (if ver = 1 then 0 else fec) 0 0)).onEth n
      (fun p => { p with nextXid := p.nextXid % 0xFFFFFFFF + 1,
                         stride := some { initiator := true, target := target, fec := strideFec ver target fec, xid := p.nextXid,
                                          phase := .asked (d.tb + msT 1) } }), [])

/-- STRIDE_REQUEST_RX: answered with ACK or NAK; where REQUESTs cross, the lower address gives way (R332). -/
def effStrideRequestRx (n ver target fec xid src : Nat) (d : Dev) : Dev :=
  let p := d.ethPort n
  if !p.link || decide (2 ≤ n) then d
  else
    let d1 := d.count (A.ETH.STRIDE_RX_CNT n)
    let nak (r : Nat) : Dev := d1.strideSend n 4 xid (strideArgs (p.partner.getD 0) (d.strideMin n) (d.strideMax n) target fec 0 r)
    let lead := d.fld (A.ETH.STRIDE_CFG n) 31 16
    let ack : Dev :=
      (d1.onEth n (fun p => { p with stride := some { initiator := false, target := target, fec := strideFec ver target fec,
                                                       xid := xid, phase := .acking lead } })).strideSend n 3 xid
        (strideArgs ver (d.strideMin n) (d.strideMax n) target fec lead 0)
    if !d.strideOn n then d1
    else if p.partner ≠ some ver then nak 3
    else match p.stride with
      | some s =>
        let asked : Bool := match s.phase with
          | .asked _ => s.initiator
          | _ => false
        if asked then (if d.ethMac n < src then ack else d1) else nak 1
      | none => if targetRate target = p.rate ∨ 1 < target ∨ !strideFecOk target (strideFec ver target fec) then nak 2 else ack

/-- The port waits for the answer of a transaction. -/
def EthPort.asks (p : EthPort) (xid : Nat) : Option Stride :=
  match p.stride with
  | some s => match s.phase with
    | .asked _ => if s.xid = xid then some s else none
    | _ => none
  | none => none

/-- STRIDE_ACK_RX: S is fixed. -/
def effStrideAckRx (n xid lead : Nat) (d : Dev) : Dev :=
  if !(d.ethPort n).link || decide (2 ≤ n) then d
  else
    let d1 := d.count (A.ETH.STRIDE_RX_CNT n)
    match (d.ethPort n).asks xid with
    | some s => d1.onEth n (fun p => { p with stride := some { s with phase := .agreed (d.tb + usT lead) } })
    | none => d1

/-- STRIDE_NAK_RX. -/
def effStrideNakRx (n xid : Nat) (d : Dev) : Dev :=
  if !(d.ethPort n).link || decide (2 ≤ n) then d
  else
    let d1 := d.count (A.ETH.STRIDE_RX_CNT n)
    if ((d.ethPort n).asks xid).isSome then d1.strideEnd n 3 else d1

/-- STRIDE_ANSWER_TIMEOUT: no answer within 1 ms. -/
def effStrideAnswerTimeout (n : Nat) (d : Dev) : Dev :=
  match (d.ethPort n).stride with
  | some s => match s.phase with
    | .asked t => (d.at_ t).strideEnd n 2
    | _ => d
  | none => d

/-- STRIDE_QUIET_START: from S − G nothing starts; a port in LPI has left it. -/
def effStrideQuietStart (n : Nat) (d : Dev) : Dev :=
  match (d.ethPort n).stride with
  | some s => match s.phase with
    | .agreed t =>
      let g := wireTicks (d.ethPort n).rate (d.fld (A.ETH.MAX_FRAME n) 13 0 + 20) + usT 1
      ((d.at_ (t - g)).lpiLeave n).onEth n (fun p => { p with stride := some { s with phase := .quiet t } })
    | _ => d
  | none => d

/-- STRIDE_SWITCH: at S both SerDes change rate. -/
def effStrideSwitch (n : Nat) (d : Dev) : Dev :=
  match (d.ethPort n).stride with
  | some s => match s.phase with
    | .quiet t => (d.at_ t).onEth n (fun p => { p with stride := some { s with phase := .relock (t + usT 200) } })
    | _ => d
  | none => d

/-- MODE shows the rate and FEC a change leads to. -/
def Dev.strideMode (d : Dev) (n : Nat) (s : Stride) : Dev :=
  d.wr (A.ETH.MODE n) (putBits (putBits (d.rd (A.ETH.MODE n)) 2 0 (if s.target = 0 then 2 else 1)) 5 4 s.fec)

/-- STRIDE_BLOCK_LOCK: the port resumes at the new rate; pause, verification and a suspended frame are kept. -/
def effStrideBlockLock (n : Nat) (d : Dev) : Dev :=
  match (d.ethPort n).stride with
  | some s => match s.phase with
    | .relock _ =>
      let d1 := (d.strideMode n s).onEth n (fun p => { p with rate := targetRate s.target, fecLock := decide (s.fec ≠ 0) })
      ((d1.count (A.ETH.STRIDE_CNT n)).strideEnd n 1).ctlFlush n
    | _ => d
  | none => d

/-- STRIDE_RELOCK_TIMEOUT: no lock within 200 µs of S; the link goes down and restarts at the target rate. -/
def effStrideRelockTimeout (n : Nat) (d : Dev) : Dev :=
  match (d.ethPort n).stride with
  | some s => match s.phase with
    | .relock t =>
      let d1 := ((d.at_ t).strideEnd n 4).raise (.eth n) Cause.ETH.STRIDE_FAIL
      (d1.strideMode n s).linkLost n
    | _ => d
  | none => d

/-! The ETH pages -/

/-- The register stands on P0 and P1 only (STRIDE_CFG, STRIDE_STAT). -/
def ethAbsentReg (n o : Nat) : Bool := decide (2 ≤ n) && decide (o = 0x07C ∨ o = 0x080)

/-- What a write of an ETH register meets besides its fields' ranges (R317, R334; ETH registers). -/
def ethPre (n o : Nat) (v : Word) (d : Dev) : List (Bool × Nat) :=
  if o = 0x040 then [(!ethModeOk n (bitsOf v 2 0) (bitsOf v 5 4) || decide (bitsOf v 10 9 = 3), RC.BAD_VALUE)]
  else if o = 0x048 then [(decide (bitsOf v 1 0 ≠ 0) && decide (d.ethMac n = 0), RC.NOT_IN_STATE)]
  else if 0x050 ≤ o ∧ o ≤ 0x06C then [(decide (bitsOf v 15 0 ≤ bitsOf v 31 16), RC.BAD_VALUE)]
  else if o = 0x07C then
    [(bitOf v 0 && decide (d.ethMac n = 0), RC.NOT_IN_STATE), (decide (bitsOf v 15 12 < bitsOf v 11 8), RC.BAD_VALUE)]
  else if o = 0x090 then [(bitOf v 8, RC.BAD_VALUE)]
  else []

/-- What follows a write of an ETH register: a changed MODE takes the link down; a changed flow-control mode drops the XOFF
state of the old one; verification and OFFERs start. -/
def ethPost (n o : Nat) (old new : Word) (d : Dev) : Dev :=
  if o = 0x040 then (if old = new then d else d.linkLost n)
  else if o = 0x048 then
    if bitsOf old 1 0 = bitsOf new 1 0 then d
    else
      let d1 := d.onEth n (fun p => { p with xoff := [] })
      (List.range 8).foldl (fun d c => d.fcJudge n c) d1
  else if o = 0x070 then
    if (d.ethPort n).link && decide ((old ^^^ new) &&& 3 ≠ 0) then d.verifyStart n else d
  else if o = 0x07C then
    if bitOf new 0 && !bitOf old 0 && (d.ethPort n).link then d.onEth n (fun p => { p with offer := some (d.tb + sT 10) }) else d
  else d

/-- The bits of the keys of a table. -/
def keyBits {α : Type} (t : Tab α) : Nat := t.foldl (fun n e => n + 2 ^ e.1) 0

/-- The live registers of an ETH page. -/
def ethLive (n o : Nat) (d : Dev) : Option Word :=
  let p := d.ethPort n
  if o = 0x04C then some (wd (b2n p.heldReset * 2 ^ 16 + keyBits p.xoff * 2 ^ 8 + ((List.range 8).filter (fun c => d.ethPaused n c)).foldl (fun b c => b + 2 ^ c) 0))
  else if o = 0x074 then some (wd p.verify)
  else if o = 0x080 then
    some (wd (p.partner.getD 0 * 2 ^ 8 + b2n p.partner.isSome * 2 ^ 7 + b2n p.stride.isSome * 2 ^ 6 + p.result % 8))
  else if o = 0x088 then
    some (wd (b2n p.localFault * 2 ^ 8 + b2n p.remoteFault * 2 ^ 7 + b2n p.fecLock * 2 ^ 6 + b2n p.lpiRx * 2 ^ 5
      + b2n p.lpiTx * 2 ^ 4 + p.rate * 2 + b2n p.link))
  else none

end Sys2Proof.Machine
end

