-- ==== Sys2Proof/Machine/MacRx.lean ====
section
/-! DEFINITION. Reception in the MAC: receive checks, NAVs, responses at SIFS, the response to the radio's own PPDU, BlockAcks, the
way of an MSDU to the reorder buffer, the PKE or the host (spec/06 R135, R139 to R149, R153, R166; spec/07 R175, R182; spec/05
R127, R128; spec/04 R117, R118). -/

namespace Sys2Proof.Machine

/-! Addresses -/

/-- The BSS of the radio with a BSSID. -/
def Dev.bssOfAddr (d : Dev) (r : Radio) (a : Nat) : Option Nat :=
  ((d.mac.get r).bss.find? (fun e => e.2.enable && decide (e.2.bssid = a))).map (fun e => e.1)

/-- The radio's own receiver addresses (R140, R146, R167). -/
def Dev.ownRa (d : Dev) (r : Radio) (a : Nat) : Bool := (d.bssOfAddr r a).isSome || (decide (a ≠ 0) && decide (a = d.macAddr r))

/-- The associated station behind a transmitter address on a radio. -/
def Dev.staOfAddr (d : Dev) (r : Radio) (a : Nat) : Option Nat :=
  (d.mld.stations.find? (fun e => e.2.links.testBit r.num && decide (e.2.addrs.get r = a ∨ (!e.2.mld ∧ e.2.addr = a)))).map (fun e => e.1)

/-- The longest MPDU a transmitter may send (R147). -/
def Dev.rxMax (d : Dev) (r : Radio) (a : Nat) : Nat :=
  match (d.staOfAddr r a).bind d.station with
  | some x => x.maxLen
  | none => 3895

/-- Steps 1 to 3 of R146 hold for an MPDU. -/
def Dev.rxGood (d : Dev) (r : Radio) (m : RxMpdu) : Bool := decide (13 < m.len) && decide (m.len ≤ d.rxMax r m.ta) && m.fcs
def Dev.rxMine (d : Dev) (r : Radio) (m : RxMpdu) : Bool := d.rxGood r m && d.ownRa r m.ra

/-! NAVs (R135) -/

/-- A frame that is not addressed to the radio sets the NAV of its kind, intra-BSS or basic, where that is longer, and notes who set it;
a CF-End ends it. -/
def Dev.navUpdate (d : Dev) (r : Radio) (m : RxMpdu) : Dev :=
  let intra := (d.bssOfAddr r m.bssid).isSome || (d.bssOfAddr r m.ta).isSome
  if m.kind = 12 then d.onMac r (fun x => if intra then { x with navIntra := 0 } else { x with navBasic := 0 })
  else if d.ownRa r m.ra ∨ m.durUs = 0 then d
  else
    let t := d.tb + usT m.durUs
    d.onMac r (fun x =>
      if intra then (if x.navIntra < t then { x with navIntra := t, navIntraBy := m.ta } else x)
      else if x.navBasic < t then { x with navBasic := t, navBy := m.ta } else x)

/-- A CTS may answer an RTS: both NAVs are zero, not counting one its sender set (R140). -/
def Dev.ctsOk (d : Dev) (r : Radio) (ta : Nat) : Bool :=
  let m := d.mac.get r
  decide (m.navBasic ≤ d.tb ∨ m.navBy = ta) && decide (m.navIntra ≤ d.tb ∨ m.navIntraBy = ta)

/-! Station state (spec/08 R192; spec/04 R118) -/

/-- A station's power-save state, and its PS bit (R158, R192). -/
def Dev.setPs (d : Dev) (s : Nat) (ps : Bool) : Dev :=
  match d.station s with
  | some x =>
    if x.powerSave = ps then d
    else (d.onMld (fun m => { m with stations := tabPut m.stations s { x with powerSave := ps } })).sramPut (0x80 * s) 1
      (d.sramGet (0x80 * s) 1 &&& 0xEF ||| 16 * b2n ps)
  | none => d

/-- Queue sizes and power headroom a station reports (R192). -/
def Dev.ulReport (d : Dev) (r : Radio) (s : Nat) (m : RxMpdu) : Dev :=
  let d1 := m.bsr.foldl (fun d x => d.sramPut (0x80 * s + 0x30 + 4 * (x.1 % 8)) 4 x.2) d
  let d2 := if m.bsr = [] then d1 else d1.sramPut (0x80 * s + 0x54) 4 d.tb
  match m.headroom with
  | some h => d2.sramPut (0x20000 + 0x100 * (3 * s + r.num) + 0x19) 1 h
  | none => d2

/-- SNR and RSSI of a report enter the station's link record, and each measured subchannel's age restarts; subchannels marked 0xFF keep
theirs (R118; notes/assumptions/130.md). -/
def Dev.snrUpdate (d : Dev) (r : Radio) (s : Nat) (rep : RxRep) : Dev :=
  let base := 0x20000 + 0x100 * (3 * s + r.num)
  let ks := (List.range 16).filter (fun k => decide (rep.snr.getD k 0xFF ≠ 0xFF))
  let d1 := ks.foldl (fun d k => (d.sramPut (base + 0x20 + k) 1 (rep.snr.getD k 0xFF)).onPhy r (fun p =>
    { p with snrAt := tabPut p.snrAt (16 * s + k) d.tb })) d
  (if ks = [] then d1 else d1.sramPut (base + 0x10) 8 d.tb).sramPut (base + 0x18) 1 (unsigned 8 rep.rssi)

/-! Duplicates (R148) -/

/-- The entry of a transmitter for an MPDU outside an agreement: whether it is a duplicate, and the entry after it. Of the transmitters
that are not associated the most recent comes first. -/
def Dev.dupCheck (d : Dev) (s : Option Nat) (m : RxMpdu) : Bool × Dev :=
  match s with
  | some k =>
    let t := if m.kind = 0 ∧ m.tid < 8 then m.tid else 8
    let x := d.staTid k t
    if m.retry && decide (x.dup = some (m.sn, m.frag)) then (true, d)
    else (false, d.setStaTid k t { x with dup := some (m.sn, m.frag) })
  | none =>
    let old := d.mld.others.find? (fun e => decide (e.1 = m.ta))
    let rest := d.mld.others.filter (fun e => decide (e.1 ≠ m.ta))
    (m.retry && decide (old = some (m.ta, m.sn, m.frag)), d.onMld (fun x => { x with others := ((m.ta, m.sn, m.frag) :: rest).take 64 }))

/-! Keys (R153) -/

/-- The slot a protected MPDU's key ID selects: its transmitter's pairwise slot, or the BSS's group slot. -/
def Dev.rxSlot (d : Dev) (r : Radio) (s : Option Nat) (m : RxMpdu) : Option Nat :=
  if isGroup m.ra then
    match (d.bssOfAddr r m.bssid).bind (fun b => tabFind (d.mac.get r).bss b) with
    | some b => ((if m.keyId ≤ 2 then b.gtk.getD (m.keyId - 1) 0xFF else b.gtk.getD (m.keyId - 2) 0xFF) |> fun k =>
        if k = 0xFF then none else some (0x800 + k))
    | none => none
  else s.map (fun k => 2 * k + m.keyId % 2)

/-- What decryption makes of an MPDU. -/
inductive Decrypt where
  | clear
  | ok (slot : Nat)
  | noKey
  | micFail
deriving DecidableEq, Repr

/-- Decryption and MIC (R153). -/
def Dev.decrypt (d : Dev) (r : Radio) (s : Option Nat) (m : RxMpdu) : Decrypt :=
  if !m.prot then .clear
  else match d.rxSlot r s m with
    | none => .noKey
    | some k => match d.keySlot k with
      | some x => if !x.rxEn then .noKey else if Config.opens x.cipher x.key m.pn m.mic then .ok k else .micFail
      | none => .noKey

/-! The way of an MPDU (R146) -/

/-- The MSDU of an MPDU as a frame for the PKE, in the RX share (spec/12 R292). -/
def Dev.msdu (d : Dev) (r : Radio) (s : Nat) (m : RxMpdu) : InFrame :=
  { id := d.tmg.nextFid, source := 11 + r.num, hdr := m.hdr, time := d.tb, sta := some s, tid := m.tid,
    bss := (d.bssOfAddr r m.ra).getD 0, direct := none, cells := cellsOf m.hdr.len, share := 4, icls := 0, ring := none }

/-- An MSDU outside an agreement goes to the PKE, if the RX share has room (R183). -/
def Dev.deliver_ (d : Dev) (f : InFrame) : Dev :=
  if d.inkRoom 4 f.cells then ((d.cellsTake 4 f.cells none).rxBuffered true).toPke f else d.rxBuffered false

/-- The recipient window of an MPDU's station and TID, if it belongs to an agreement. -/
def Dev.agreement (d : Dev) (s : Option Nat) (m : RxMpdu) : Option (Nat × Nat) :=
  match s with
  | some k => if m.kind = 0 ∧ m.tid < 8 then ((d.staTid k m.tid).rxWin).map (fun w => (k, w)) else none
  | none => none

/-- A BlockAck marks acknowledged every SN whose bit is set, whichever link carried it (R175). -/
def Dev.blockAck (d : Dev) (s : Nat) (m : RxMpdu) : Dev :=
  let fids := ((d.staTid s m.tid).board.filter (fun b =>
    decide (b.st ≠ .acked ∧ b.st ≠ .givenUp ∧ b.st ≠ .queued) && m.bitmap.testBit (snDist m.ssn b.sn))).map (fun b => b.entry.fid)
  fids.foldl (fun d f => d.acked f) d

/-- The duplicate entries cover an MPDU: any from an associated station, management frames of others (R148). -/
def RxMpdu.checked (m : RxMpdu) (sta : Bool) : Bool := decide (m.kind = 1 ∨ m.kind = 2 ∨ m.kind = 9) || (sta && decide (m.kind = 0))

/-- Steps 5 to 7 of R146 and the delivery of an MPDU that passed steps 1 to 4. -/
def Dev.rxAccept (d : Dev) (r : Radio) (m : RxMpdu) (rep : RxRep) : Dev :=
  let s := d.staOfAddr r m.ta
  let idx := s.getD 0x7FF
  let bss := ((d.bssOfAddr r m.ra).orElse (fun _ => d.bssOfAddr r m.bssid)).getD 0
  let ag := d.agreement s m
  let (dup, d1) := match ag with
    | some (k, w) =>
      let p := (d.staTid k m.tid).place w m.sn
      if p = RxPlace.old ∨ p = RxPlace.again then (true, d) else (false, d.rxMark k m.tid w m.sn)
    | none => if m.checked s.isSome then d.dupCheck s m else (false, d)
  if dup then d1.count (A.MAC.DUP_CNT r)
  else match d1.decrypt r s m with
    | .noKey => d1.count (A.MAC.RX_NOKEY_CNT r)
    | .micFail => ((d1.count (A.MAC.MIC_FAIL_CNT r)).raise (.mac r) Cause.MAC.MIC_FAIL).hostRx r m idx false bss 3 rep
    | dec =>
      let slot : Option Nat := match dec with
        | .ok k => some k
        | _ => none
      let data := decide (m.kind = 0) && s.isSome && !m.closed
      match (if data then ag else none) with
      | some (k, _) => d1.rxHold k m.tid m.sn m.pn slot r.num (d1.msdu r k m)
      | none =>
        match d1.replay slot (if m.kind = 0 ∧ m.tid < 8 then m.tid else 8) m.pn r.num with
        | (false, d2) => d2
        | (true, d2) =>
          let sec := slot.isSome
          if data then d2.deliver_ (d2.msdu r idx m)
          else if m.kind = 0 ∧ m.closed ∧ s.isSome then d2.hostRx r m idx sec bss 4 rep
          else if m.kind = 0 ∨ m.kind = 10 then d2.hostRx r m idx sec bss 2 rep
          else if m.kind = 1 ∨ m.kind = 9 then d2.hostRx r m idx sec bss 0 rep
          else if m.kind = 2 then d2.hostRx r m idx sec bss 1 rep
          else d2

/-- The device sleeps until a tick: the wake timer is set for it, the mesh radio goes to Sleep, and once it is there the state is entered
(spec/16 R397; spec/18 R445). -/
def Dev.wakeAt (d : Dev) (t : Nat) : Dev :=
  ((d.wr A.PMU.WAKE_AT_LO (wd t)).wr A.PMU.WAKE_AT_HI (wd (t / 2 ^ 32))).wr A.PMU.WAKE_EN (d.rd A.PMU.WAKE_EN ||| 2)

/-- The path of a radio from Sleep to Receive, in ticks: 90, 45 or 180, and 3 µs (R68). -/
def Dev.riseTicks (d : Dev) (r : Radio) : Nat :=
  usT (93 + if (d.rfe.get r).bands.contains (d.rd (A.RFE.CHAN r)) then 45 else 180)

/-- A sleeping child sleeps until its next window: in DEEP when the gap exceeds 10 ms, in SLEEP otherwise, waking early enough for its
radio (spec/16 R397). -/
def Dev.partnerNap (d : Dev) : Dev :=
  match (if d.msh.listen = 0 then none else d.msh.window) with
  | some t =>
    let opens := t - usT d.msh.guardUs
    let d1 := d.wakeAt (opens - d.riseTicks d.meshRadio)
    (d1.onMsh (fun m => { m with nap := some (if msT 10 < opens - d.tb then .deep else .sleep) })).stateCmd d.meshRadio 0
  | none => d

/-- A frame from a peer of the mesh: a child was heard; a woken child sleeps again when its parent's frame has More Data clear
(spec/16 R396, R399). -/
def Dev.peerHeard (d : Dev) (s : Nat) (m : RxMpdu) : Dev :=
  let d1 := d.onMsh (fun x => { x with children := x.children.map (fun c => if c.sta = s then { c with heard := d.tb } else c) })
  if d1.msh.parent.isSome ∧ s = d1.fld A.MSH.MESH_CFG 9 0 ∧ m.kind = 1 ∧ d1.msh.listen ≠ 0 ∧ (d1.msh.windowGot || d1.msh.pull) then
    (if m.more then d1.onMsh (fun x => { x with pull := true })
     else
      let next := d1.nextTbtt (d1.msh.parent.getD 0) (d1.msh.listen - 1)
      (d1.onMsh (fun x => { x with pull := false, windowGot := false, windowOpen := false,
                                   window := if x.windowOpen then some next else x.window })).partnerNap)
  else d1

/-- What a control frame or a report does besides its response: a BlockAckReq expires holes, a BlockAck settles MPDUs, feedback is
stored (R175, R182; spec/05 R128). -/
def Dev.rxControl (d : Dev) (r : Radio) (m : RxMpdu) : Dev :=
  match d.staOfAddr r m.ta with
  | none => d
  | some s =>
    let d1 := d.ulReport r s m
    if m.kind = 3 ∧ m.tid < 8 then
      (if (d1.staTid s m.tid).rxWin.isSome && decide (snDist (d1.staTid s m.tid).rxStart m.ssn < 2048) then d1.rxForce s m.tid m.ssn else d1)
    else if m.kind = 7 then d1.blockAck s m
    else if m.kind = 11 then
      match m.fb with
      | some (nc, snr) => (d1.storeFb r s nc m.fbV snr).onPhy r (fun p =>
          { p with sounding := p.sounding.map (fun x => { x with heard := s :: x.heard }) })
      | none => d1
    else if m.kind ≤ 2 then (d1.setPs s m.pm).peerHeard s m
    else d1

/-- One received MPDU goes through the steps of R146. -/
def Dev.rxMpdu (d : Dev) (r : Radio) (rep : RxRep) (m : RxMpdu) : Dev :=
  if m.len ≤ 13 then d.count (A.MAC.RX_RUNT_CNT r)
  else if d.rxMax r m.ta < m.len then d.count (A.MAC.RX_OVERSIZE_CNT r)
  else if !m.fcs then d.count (A.MAC.RX_FCS_ERR_CNT r)
  else
    let d1 := (d.onMac r (fun x => { x with eifs := false })).navUpdate r m
    if m.kind = 12 ∨ !(d.ownRa r m.ra || isGroup m.ra || decide (m.kind = 9)) then d1
    else
      let d2 := d1.count (A.MAC.RX_MPDU_CNT r)
      let d3 := if d.ownRa r m.ra then d2.rxControl r m else d2
      if m.kind = 8 ∨ m.kind = 11 ∨ (3 ≤ m.kind ∧ m.kind ≤ 7) then d3 else d3.rxAccept r m rep

/-! The response decision (R140 to R142) -/

/-- The place of a PPDU's non-HT reference rate in the basic rate set: DSSS 0 to 3, OFDM 4 to 11. -/
def refPlace (rep : RxRep) : Nat :=
  if rep.fmt = 0 then rep.mcs % 4 else if rep.fmt = 1 then 4 + rep.mcs % 8 else 4 + Config.refRate rep.fmt rep.mcs % 8

/-- The bitmap of a BlockAck from an SSN on: what this PPDU brought, what the window holds, and what it has released (R140). -/
def Dev.ackBitmap (d : Dev) (s t ssn win : Nat) (sns : List Nat) : Nat :=
  ((sns ++ (d.staTid s t).seen ++ (d.staTid s t).done).map (fun sn => snDist ssn sn)).foldl (fun b k => if k < win ∧ !b.testBit k then b + 2 ^ k else b) 0

/-- The window start a BlockAck names after some SNs of an agreement have come: the one before, moved up by those above it. -/
def StaTid.ackStart (x : StaTid) (w : Nat) (sns : List Nat) : Nat :=
  (sns.filter (fun sn => decide (x.place w sn = .above))).foldl (fun a sn =>
    if snDist x.rxStart a < snDist x.rxStart ((sn + 4097 - w) % 4096) then (sn + 4097 - w) % 4096 else a) x.rxStart

/-- SSN and bitmap of a BlockAck for a station's TID: of its agreement, or of what this PPDU brought alone. `bar`: the SSN a
BlockAckReq asks for. -/
def Dev.ackOf (d0 d : Dev) (s : Option Nat) (t : Nat) (bar : Option Nat) (sns : List Nat) : Nat × Nat :=
  match s.bind (fun k => ((d0.staTid k t).rxWin).map (fun w => (k, w))) with
  | some (k, w) =>
    let ssn := bar.getD ((d0.staTid k t).ackStart w sns)
    (ssn, d.ackBitmap k t ssn w sns)
  | none =>
    let ssn := bar.getD (sns.headD 0)
    (ssn, (sns.map (fun sn => snDist ssn sn)).foldl (fun b k => if k < 1024 ∧ !b.testBit k then b + 2 ^ k else b) 0)

/-- The widest bandwidth within a dynamic-bandwidth RTS whose subchannels besides the primary were idle for PIFS; the span of the RTS
itself does not count (R137, R142; notes/assumptions/131.md). -/
def Dev.dynWidth (d : Dev) (r : Radio) (bw : Nat) : Nat :=
  let w := (d.rfe.get r).tuned
  let off := d.notIdle r &&& (2 ^ 2 ^ chanWidth w - 1 - 2 ^ primIdx r w)
  ((List.range (bw + 1)).filter (fun b => decide (off &&& blockMask r w b = 0))).foldl max 0

/-- The response a PPDU elicits, from the MPDUs of its users that passed steps 1 to 3; `d0`: the device before it, `d`: after.
`solicited`: a trigger-based PPDU, with the bandwidth of the trigger that solicited it. -/
def Dev.response (d0 d : Dev) (r : Radio) (rep : RxRep) (solicited : Option Nat) (ms : List RxMpdu) : Option RespDue :=
  let mine := ms.filter (fun m => d0.rxMine r m)
  let bss := match mine with
    | m :: _ => (d0.bssOfAddr r m.ra).getD 0
    | [] => 0
  let mk (k : RespKind) (s : Option Nat) (t bw nav : Nat) (ack : Nat × Nat) (per : List (Nat × Nat × Nat × Nat)) : RespDue :=
    { kind := k, due := d.tb + sifs r, sta := s, tid := t, ssn := ack.1, bitmap := ack.2, ok := decide (rep.endCode = 0), bw := bw,
      ref := refPlace rep, bss := bss, nav := nav, per := per }
  let dupBw := if rep.fmt = 1 ∧ rep.dup then rep.bw else 0
  let snsOf (ta t : Nat) : List Nat := (mine.filter (fun x => decide (x.kind = 0 ∧ x.tid = t ∧ x.ta = ta))).map (fun x => x.sn)
  match solicited with
  | some bw =>
    let good := mine.filter (fun m => decide (m.kind ≤ 2))
    let per := ((good.map (fun m => (m.ta, if m.kind = 0 then m.tid else 8))).eraseDups).map (fun x =>
      let s := d0.staOfAddr r x.1
      (s.getD 0x7FF, x.2, d0.ackOf d s x.2 none (if x.2 = 8 then [] else snsOf x.1 x.2)))
    if good = [] then none else some (mk .multiSta none 0 bw 0 (0, 0) per)
  | none =>
    match mine.find? (fun m => m.aggregated && decide (m.kind ≤ 2) && decide (m.ackPolicy = 0)) with
    | some m =>
      let s := d0.staOfAddr r m.ta
      some (mk .blockAck s m.tid dupBw m.durUs (d0.ackOf d s m.tid none (snsOf m.ta m.tid)) [])
    | none => match mine.find? (fun m => decide (m.kind = 3)) with
      | some m =>
        let s := d0.staOfAddr r m.ta
        some (mk .blockAck s m.tid dupBw m.durUs (d0.ackOf d s m.tid (some m.ssn) []) [])
      | none => match mine.find? (fun m => decide (m.kind = 4)) with
        | some m =>
          if d0.ctsOk r m.ta then
            some (mk .cts (d0.staOfAddr r m.ta) 0 (if d0.bit (A.MAC.ACC_CFG r) 18 && m.dynBw then d.dynWidth r rep.bw else dupBw) m.durUs
              (0, 0) [])
          else none
        | none =>
          match mine.find? (fun m => decide (m.kind = 5)
            || (!m.aggregated && decide (m.kind ≤ 2 ∨ m.kind = 10) && decide (m.ackPolicy = 0))) with
          | some m => some (mk .ack (d0.staOfAddr r m.ta) m.tid dupBw m.durUs (0, 0) [])
          | none => none

/-! The response the radio waits for (R144, R145, R175) -/

/-- A clear bit, or no answer for its station and TID, is a failed attempt of an MPDU carried in the soliciting PPDU (R175). -/
def Dev.unacked (d : Dev) (r : Radio) (fids : List Nat) : Dev :=
  fids.foldl (fun d f => match d.boardFind f with
    | some (s, _, b) => if b.st = .inFlight r.num then (d.ackStat r s 1 0).failedAttempt r f else d.ackStat r s 1 1
    | none => d) d

/-- A BFRP trigger has been answered: stations without a valid report are counted, and the next group follows (spec/05 R127). -/
def Dev.soundingDone (d : Dev) (r : Radio) : Dev :=
  match (d.phy.get r).sounding with
  | some x =>
    let miss := (x.left.headD []).filter (fun s => !x.heard.contains s)
    let rest := x.left.drop 1
    (d.onPhy r (fun p => { p with sounding := if rest = [] then none else some { x with left := rest, heard := [] } })).countN
      (A.PHY.FB_MISS_CNT r) miss.length
  | none => d

/-- The PPDU that ended is the awaited response, or the attempt has failed (R110, R144). -/
def Dev.respHeard (d : Dev) (r : Radio) (w : RespWait) (rep : RxRep) (ms : List RxMpdu) : Dev :=
  let d0 := d.onMac r (fun m => { m with wait := none, airEnd := d.tb })
  let tb := decide (rep.fmt = 6 ∨ rep.fmt = 8)
  let mine := ms.filter (fun m => d.rxMine r m)
  let ok := decide (rep.endCode = 0) && (if w.trig then tb else mine.any (fun m => decide (m.kind = 6) || (match d.staOfAddr r m.ta with
    | some s => w.from_.contains s
    | none => false)))
  if !ok then (d0.count (A.MAC.RESP_TIMEOUT_CNT r)).attemptFailed r w.vec w.fids
  else
    let d1 := if w.vec.kind = .rts then d0.onMac r (fun m => { m with txop := m.txop.map (fun t => { t with prot := true }) }) else d0
    let d2 := if mine.any (fun m => decide (m.kind = 6)) && !w.trig then
        w.fids.foldl (fun d f => match d.boardFind f with
          | some (s, _, _) => (d.ackStat r s 1 1).acked f
          | none => d) d1
      else d1.unacked r w.fids
    let d3 := if w.vec.kind = .sounding then d2.soundingDone r else d2
    if w.vec.kind = .rts then d3 else (((d3.charged r w.vec).cwGood r w.vec.ac).groupDone r).txopNext r

/-! Events -/

/-- The MAC takes the reports of an ended reception, one per user, with their MPDUs. `answer`: a response may follow. -/
def Dev.macRx (d : Dev) (r : Radio) (us : List (RxRep × List RxMpdu)) (answer : Bool) : Dev :=
  let ms := (us.map (fun u => u.2)).flatten
  let rep := (us.headD (⟨0, 0, 0, 0, 0, 0, false, false, false, 0, 0, 0, [], 0, 0, false, 0, 0, 0, 0xFFF, []⟩, [])).1
  let w := (d.mac.get r).wait
  let bad := decide (rep.endCode = 2 ∨ rep.endCode = 3) || (!ms.isEmpty && ms.all (fun m => !m.fcs))
  let d1 := if bad then d.onMac r (fun m => { m with eifs := true }) else d
  let d2 := us.foldl (fun d u => u.2.foldl (fun d m => d.rxMpdu r u.1 m) d) d1
  let d3 := us.foldl (fun d u =>
    let s : Option Nat := if u.1.user < 0xFFF then (d.station u.1.user).map (fun _ => u.1.user)
      else (u.2.find? (fun m => d.rxGood r m)).bind (fun m => d.staOfAddr r m.ta)
    match s with
    | some k => if u.1.endCode = 0 then d.snrUpdate r k u.1 else d
    | none => d) d2
  let solicited : Option Nat := match w with
    | some x => if x.trig && decide (x.vec.kind = .trigger ∨ x.vec.kind = .heat) && decide (rep.fmt = 6 ∨ rep.fmt = 8) then some x.vec.bw
      else none
    | none => none
  let d4 := match w with
    | some x => d3.respHeard r x rep ms
    | none => d3
  let d5 := match d.response d4 r rep solicited ms with
    | some x => if answer && x.ok then d4.onMac r (fun m => { m with due := some x }) else d4.count (A.MAC.RESP_SKIP_CNT r)
    | none => d4
  d5.bcnSeen r

/-- The reports of a reception that was cut off, with the MPDUs it had completed (R109, R111, R117). -/
def Dev.cutReports (d : Dev) (r : Radio) (c : Cut) (us : List (RxRep × List RxMpdu)) : List (RxRep × List RxMpdu) :=
  us.map (fun u => (d.rxReport r c.rcp u.1 c.code c.at_, u.2.filter (fun m => m.fcs)))

/-- RX_PPDU_END: a reception in BODY ends; what was measured and decoded of each user (R117). One that was cut off passes its reports
first, and no response follows (R111, R143; notes/assumptions/99.md). -/
def effRxPpduEnd (r : Radio) (us : List (RxRep × List RxMpdu)) (d : Dev) : Dev :=
  match d.cutPass r false with
  | some (c, d1) => d1.macRx r (d1.cutReports r c us) false
  | none =>
    let p := d.phy.get r
    match p.rcp with
    | some x =>
      if p.rx ≠ .body then d
      else
        let d1 := (d.at_ (x.ends r)).rxFinish r 0
        d1.macRx r (us.map (fun u => (d.rxReport r x u.1 0 d1.tb, u.2))) true
    | none => d

/-- HOLD_END: a HOLD reaches its end and reports SIG_FAIL or UNSUPPORTED, or, cut off, the code of what ended it (R111, R116). -/
def effHoldEnd (r : Radio) (m : RxRep) (d : Dev) : Dev :=
  match d.cutPass r true with
  | some (c, d1) => d1.macRx r (d1.cutReports r c [(m, [])]) false
  | none =>
    let p := d.phy.get r
    match p.rcp with
    | some x =>
      if p.rx ≠ .hold then d
      else
        let d1 := (d.at_ (x.ends r)).rxFinish r x.holdEnd
        d1.macRx r [(d.rxReport r x m x.holdEnd d1.tb, [])] true
    | none => d

/-- OVERTAKE: the weaker reception ends, each user (`u`, and the others of an MU PPDU) with the MPDUs it had completed, and no response is sent for it (R109, R110). -/
def effOvertake (r : Radio) (start : Nat) (power : Int) (lna vga : Nat) (u : RxRep × List RxMpdu)
    (us : List (RxRep × List RxMpdu)) (d : Dev) : Dev :=
  match d.overtake r start power lna vga with
  | (d1, some (x, code)) =>
    d1.macRx r ((u :: us).map (fun y => (d.rxReport r x y.1 code d1.tb, if code = 1 then y.2.filter (fun m => m.fcs) else []))) false
  | (d1, none) => d1

/-- The rate a response is sent at: the highest basic rate not above the reference, else the lowest; in 0.5 Mb/s (R142). -/
def rateOf (place : Nat) : Nat := [2, 4, 11, 22, 12, 18, 24, 36, 48, 72, 96, 108].getD place 12
def respRate (basic ref : Nat) : Nat :=
  let set := (List.range 12).filter (fun i => basic.testBit i)
  let le := set.filter (fun i => decide (rateOf i ≤ rateOf ref))
  let best (l : List Nat) (f : Nat → Nat → Bool) : Nat := match l with
    | [] => 4
    | i :: is => is.foldl (fun a j => if f (rateOf j) (rateOf a) then j else a) i
  if le = [] then best set (fun a b => decide (a < b)) else best le (fun a b => decide (b < a))

/-- The vector of a response: the Duration left of the eliciting frame's, the stations it answers (R135, R142). -/
def Dev.respVec (d : Dev) (r : Radio) (x : RespDue) (durUs : Nat) : TxVec :=
  let basic : Nat := match tabFind (d.mac.get r).bss x.bss with
    | some b => b.basic
    | none => 0
  let k := respRate basic x.ref
  let u : TxUser := { sta := x.sta.getD 0x7FF, tones := 0, subch := 1, ru := 0, mcs := if k < 4 then k else k - 4, nss := 1,
                      steered := false, off := 0 }
  let ra : Nat := match x.sta.bind d.station with
    | some y => y.addrs.get r
    | none => 2 ^ 48 - 1
  { d.ctrlVec r .response ra durUs with fmt := if k < 4 then 0 else 1, bw := x.bw, users := [u], navUs := x.nav - sifs r / 250 - durUs,
                                        targets := ((x.sta.toList ++ x.per.map (fun y => y.1)).eraseDups).map (fun s => (s, 0)) }

/-- SIFS_RESPONSE: the transmit command of a response, issued as long before it falls due as the radio takes into Transmit; it is
sent, or skipped and counted (R68, R140 to R143). `durUs`: its air time. -/
def effSifsResponse (r : Radio) (durUs : Nat) (d : Dev) : Dev :=
  match (d.mac.get r).due with
  | none => d
  | some x => d.withLinks (fun d =>
      let d0 := (d.at_ (x.due - d.intoTx r true)).onMac r (fun m => { m with due := none })
      let skip (d : Dev) : Dev := d.count (A.MAC.RESP_SKIP_CNT r)
      let v := d0.respVec r x durUs
      let f := d0.rfe.get r
      let start := max x.due (d0.tb + d0.intoTx r true)
      let heat : Bool := match d0.nextHeat r with
        | some t => decide (t < start + usT durUs)
        | none => false
      if !x.ok || !f.locked || decide (f.cur ≠ .receive) || heat || (d0.phy.get r).tx.isSome then skip d0
      else
        let d1 := d0.rxAbort r
        let chains := d1.enabled r
        if !d1.txvOk r v then skip ((d1.txRefuse r 1 false 0 []).count (A.PHY.TXV_REJECT_CNT r))
        else match d1.rglStart r v.bw v.punct chains v.request (d1.onTicks r durUs) with
        | .refuse chan => skip ((d1.rglRefused r chan).txRefuse r 2 false 0 [])
        | .hold cut => skip (d1.rglHeld r cut true)
        | .go cut => ((d1.airStart r v [] chains v.request cut false 0 start).count (A.MAC.RESP_TX_CNT r)).emit (.resp r x))

/-- ED_BUSY_CHANGE at the MAC: slots may count as idle again (R134). -/
def Dev.edChange (d : Dev) (r : Radio) (sub : Nat) (power : Int) : Dev := (effEdBusyChange r sub power d).bcnSeen r

end Sys2Proof.Machine
end

