-- ==== Sys2Proof/Machine/MeshSend.lean ====
section
/-! DEFINITION. What a mesh node sends: message headers, its inbox, Up messages, the reports of a coordination group
(spec/16_mesh.md R388 to R390, R393, R402). -/

namespace Sys2Proof.Machine

/-- The version a message type is known since (R389). -/
def meshSince (typ : Nat) : Nat :=
  if typ = 0x10 ∨ typ = 0x11 then 2 else if 0x20 ≤ typ ∧ typ ≤ 0x22 then 3 else 1

/-- The lowest version agreed with a current neighbour; the node's own maximum where it has none (R390). -/
def Dev.lowVer (d : Dev) : Nat :=
  let vs := (if d.msh.parent.isSome then [d.msh.parentVer] else []) ++ d.msh.children.map (fun c => c.version)
  vs.foldl min d.maxVer

/-- A message this node originates; SEQ advances (R388, R390). `link`: the agreed version of the link it goes over. -/
def Dev.meshNew (d : Dev) (typ ttl dest : Nat) (link : Option Nat) (body : List Byte) : Dev × MeshMsg :=
  let m : MeshMsg := { version := max (meshSince typ) (link.getD d.lowVer), typ := typ, ttl := ttl,
                       origin := d.msh.addr, seq := d.msh.seq, dest := dest, payload := body }
  ({ d with msh := { d.msh with seq := (d.msh.seq + 1) % 65536 } }, m)

/-- An entry for the inbox, which holds 64 (MSH registers); the MP gets its event, MSG_PENDING continues (R407). -/
def Dev.inboxAdd (d : Dev) (m : MeshMsg) : Dev :=
  if 64 ≤ d.msh.inbox.length then d.count A.MSH.MSG_DROP_CNT
  else ((({ d with msh := { d.msh with inbox := d.msh.inbox ++ [m] } } : Dev).event 8).follow .msh
    Cause.MSH.MSG_PENDING true)

/-- A request arrives at the root: it waits for the next GRANT, and its address counts as claimed (R379, R386). -/
def Dev.rootRequest (d : Dev) (q : AddrReq) : Dev :=
  let claimed := if d.tb < d.msh.electedAt + sT d.leaseS ∧ q.held ≠ 0x3FF then q.held :: d.msh.claimed
    else d.msh.claimed
  { d with msh := { d.msh with requests := d.msh.requests ++ [q], claimed := claimed } }

/-- The payload of an ADDR_REQ or LEASE_RENEW: MAC, address, depth (notes/assumptions/31.md). -/
def reqBody (q : AddrReq) : List Byte := natBytes 6 q.mac ++ natBytes 2 q.held ++ natBytes 1 q.depth
def reqParse (bs : List Byte) : AddrReq :=
  { mac := leNat (bs.take 6), held := leNat ((bs.drop 6).take 2), depth := byteAt bs 8 }

/-- The root consumes an Up message (R389). -/
def Dev.upConsume (d : Dev) (m : MeshMsg) : Dev :=
  if m.typ = 0x04 ∨ m.typ = 0x06 then d.rootRequest (reqParse m.payload)
  else if m.typ = 0x22 then d.inboxAdd m
  else d

/-- A frame of the mesh enters its queue: a flood for all neighbours, unacknowledged, on the Relay queue; any other on the control queue
for its neighbour, a peer or not yet one (R388; spec/11 R274). -/
def Dev.meshPut (d : Dev) (x : MeshFrame) : Dev :=
  let r := d.meshRadio
  let (kind, mac, len) : Nat × Nat × Nat := match x with
    | .flood m => (0, 2 ^ 48 - 1, 26 + m.payload.length)
    | .link mac m => (1, mac, 26 + m.payload.length)
    | .null mac => (1, mac, 14)
  let sta : Nat := if d.msh.parent.isSome ∧ mac = d.msh.parentMac then d.fld A.MSH.MESH_CFG 9 0
    else ((d.msh.children.find? (fun c => decide (c.mac = mac))).map (fun c => c.sta)).getD 0x7FF
  let e : Entry := { fid := d.tmg.nextFid, len := len, color := 0, stamp := 0, inInk := false, writing := false, dram := 0,
                     cells := cellsOf len, share := 5, ingress := none,
                     hdr := { Hdr.none with len := len, dst := mac, src := d.nodeMac, etype := 0x88B7 }, host := none, pin := none,
                     setDscp := none, wl := { Wl.plain with sta := sta, tid := 8, bss := d.meshBss, noAck := decide (kind = 0) },
                     toHost := none, mesh := some x }
  (d.nextFid.arrive (8243 + 2 * r.num + kind) e none).2

/-- Pass an Up message on: consumed at the root, sent to the parent by a joined node, held by any other, up to 64. -/
def Dev.sendUp (d : Dev) (m : MeshMsg) : Dev :=
  if d.msh.state = .root then d.upConsume m
  else if d.msh.state = .joined then d.meshPut (.link d.msh.parentMac m)
  else { d with msh := { d.msh with upHeld := (d.msh.upHeld ++ [m]).drop (d.msh.upHeld.length + 1 - 64) } }

/-- Originate an Up message. -/
def Dev.originateUp (d : Dev) (typ : Nat) (body : List Byte) : Dev :=
  let (d1, m) := d.meshNew typ (max 1 d.maxDepth) 0x000 none body
  d1.sendUp m

/-- The report of a member: address, group, servo STATE, HOPS, Heat format range, channel of the radio (R402). -/
def Dev.groupReport (d : Dev) (r : Radio) : Dev :=
  let k := r.num
  d.originateUp 0x22 (natBytes 2 d.msh.addr ++ natBytes 2 (d.fld (A.ASC.HEAT_CFG k) 15 0)
    ++ natBytes 1 d.tmu.servo.code ++ natBytes 1 d.hops
    ++ natBytes 1 (d.fld (A.ASC.HEAT_CFG k) 19 16 + 16 * d.fld (A.ASC.HEAT_CFG k) 23 20)
    ++ natBytes 4 (d.rd (A.RFE.CHAN r)).toNat)

/-- At each change of servo state, and on the timer, every group this node is a member of is reported (R402). -/
def Dev.groupReports (d : Dev) : Dev :=
  if !d.bit A.MSH.MESH_CFG 30 || !d.meshOn then d
  else [Radio.a, .b, .c].foldl (fun d r => if d.bit A.ASC.HEAT_CTRL r.num then d.groupReport r else d) d

/-- GROUP_REPORT_TIMER: every LEASE_S / 2 (R402). -/
def effGroupReportTimer (d : Dev) : Dev :=
  let d := d.at_ (d.msh.reportAt + sT d.leaseS / 2)
  (d.onMsh (fun m => { m with reportAt := d.tb })).groupReports

end Sys2Proof.Machine
end

