-- ==== Sys2Proof/Machine/Tmu.lean ====
section
/-! DEFINITION. The time unit: the servo and its sources, steps, PTP on Ethernet, FTM, PPS, timed sends and launches, time through
sleep, the TMU page (spec/15_time.md). Offsets θ are in 2⁻¹⁶ ns, as the PTP fraction. -/

namespace Sys2Proof.Machine

/-! Time values (R354) -/

/-- The five words of a TB value and a PTP time (R364). -/
def timeWords (tb ptp : Nat) : List Word :=
  let ns := ptp / 2 ^ 32
  let s := ns / 1000000000
  [wd tb, wd (tb / 2 ^ 32), wd s, wd (s / 2 ^ 32 % 65536 + ptp / 65536 % 65536 * 65536), wd (ns % 1000000000)]

/-- The largest PTP time plus one, in 2⁻³² ns. -/
def ptpEnd : Nat := 2 ^ 48 * 1000000000 * 2 ^ 32

/-- The tuple of now goes to the history (R356). -/
def Tmu.note (t : Tmu) : Tmu := { t with history := ({ tb := t.tb, ptp := t.ptp, freq := t.freq } :: t.history).take 32 }

/-- A TB value in PTP time: from the latest tuple at or before it (R356). -/
def Tmu.convert (t : Tmu) (tb : Nat) : Option Nat :=
  (t.history.find? (fun h => decide (h.tb ≤ tb))).map (fun h => (Int.ofNat h.ptp + Int.ofNat (tb - h.tb) * (2 ^ 34 + h.freq)).toNat)

/-! Sources and states (R357, R358, R361) -/

/-- The source codes in order. -/
def Dev.srcOrder (d : Dev) : List Nat :=
  ((List.range 4).map (fun i => d.fld A.TMU.SERVO_CFG (4 * i + 3) (4 * i))).takeWhile (fun c => decide (c ≠ 0))

/-- A source's last sample is younger than 4 nominal intervals. -/
def Dev.srcValid (d : Dev) (c : Nat) : Bool :=
  match tabFind d.tmu.sources c with
  | some s => decide (d.tb < s.last + 4 * s.interval)
  | none => false

/-- The source in use, 0 for none; a time source itself uses none. -/
def Dev.srcInUse (d : Dev) : Nat :=
  if d.bit A.TMU.SERVO_CFG 31 then 0 else (d.srcOrder.find? d.srcValid).getD 0

/-- A quotient rounded to the nearest integer. -/
def roundDiv (a : Int) (b : Nat) : Int := (2 * a + Int.ofNat b).fdiv (2 * Int.ofNat b)

/-- In HOLDOVER, FREQ holds −I / Δ of the last accepted sample, and the change is noted (R356, R359). -/
def Tmu.hold (t : Tmu) : Tmu := if t.delta = 0 then t else { t with freq := roundDiv (-t.integ) t.delta }.note

/-- The servo changes its state: SERVO_CHANGE, the continuing HOLDOVER, the TIME_SYNC record of the first LOCKED of a boot; FREE
resets the integral; LOCKED ends the FTM start period; a member of a coordination group reports it (R359, R361; spec/16 R394, R402; spec/17 R414, R415). -/
def Dev.servoTo (d : Dev) (s : Servo) : Dev :=
  if d.tmu.servo = s then d
  else
    let d1 := d.onTmu (fun t => { t with
      servo := s, lockRun := 0, rejectRun := 0, integ := if s = .free then 0 else t.integ,
      holdSince := if s = .holdover then t.tb else t.holdSince })
    let d1 := if s = .holdover then d1.onTmu Tmu.hold else if s = .locked then d1.onMsh (fun m => { m with ftmFast := false }) else d1
    let d2 := Dev.groupReports ((d1.raise .tmu Cause.TMU.SERVO_CHANGE).follow .tmu Cause.TMU.HOLDOVER (decide (s = .holdover)))
    if s = .locked ∧ !d.mgt.timeSynced then
      let ns := d.tmu.ptp / 2 ^ 32
      ({ d2 with mgt := { d2.mgt with timeSynced := true } } : Dev).blotter 0x050 0 0x0009
        [wd (ns / 1000000000), wd (ns / 1000000000 / 2 ^ 32), wd (ns % 1000000000)]
    else d2

/-- Every TSF offset loses the step's µs part, so that no TSF jumps (R372). -/
def Tmu.tsfStep (t : Tmu) (old new : Nat) : Tmu :=
  let us (p : Nat) : Nat := p / 2 ^ 32 / 1000
  if us old = us new then t
  else { t with tsfOfs := (List.range 48).foldl (fun o k => tabSet 0 o k ((tabGet 0 o k + us old + (2 ^ 64 - us new % 2 ^ 64)) % 2 ^ 64)) t.tsfOfs }

/-- A step of the PTP clock (R360, R370). -/
def Dev.clockStep (d : Dev) (new : Nat) : Dev :=
  (((d.onTmu (fun t => ({ t with ptp := new }.tsfStep t.ptp new).note)).count A.TMU.STEP_CNT).raise .tmu Cause.TMU.TIME_STEP)

/-! The servo (R359, R360) -/

/-- FREQ after a sample: −(KP × θ + I) / Δ, limited. -/
def Dev.servoFreq (d : Dev) (theta integ : Int) (delta : Nat) : Int :=
  let kp := Int.ofNat (d.fld A.TMU.SERVO_GAIN 31 16)
  let lim := roundDiv (Int.ofNat (d.fld A.TMU.SERVO_LIM2 7 0) * 2 ^ 34) 1000000
  max (-lim) (min lim (roundDiv (-(kp * theta + integ)) (max 1 delta)))

/-- An accepted sample of a source. -/
def Dev.servoAccept (d : Dev) (c : Nat) (theta : Int) (interval hops : Nat) : Dev :=
  let prev := (tabFind d.tmu.sources c).bind (fun s => s.accepted)
  let delta := match prev with
    | some t => min (d.tb - t) (4 * interval)
    | none => 4 * interval
  let i1 := d.tmu.integ + Int.ofNat (d.fld A.TMU.SERVO_GAIN 15 0) * theta
  let lock := decide (theta.natAbs ≤ d.fld A.TMU.SERVO_LIM 31 16 * 65536)
  let big := decide (d.fld A.TMU.SERVO_LIM 15 0 * 1000 * 65536 < theta.natAbs)
  let d1 := (d.onTmu (fun t => { t with
      sources := tabPut t.sources c { last := t.tb, interval := interval, accepted := some t.tb }, hops := hops,
      delta := delta, rejectRun := 0, ofsLast := theta })).count A.TMU.SAMPLE_CNT
  if big then (d1.clockStep (Int.ofNat d1.tmu.ptp - theta * 65536).toNat).servoTo .acquire
  else
    let st := d.tmu.servo
    let d2 := d1.onTmu (fun t => { t with integ := i1, freq := d.servoFreq theta i1 delta }.note)
    let run := if !lock then 0 else if st = .acquire then d.tmu.lockRun + 1 else 1
    let d3 := match st with
      | .locked => if decide (8 * (d.fld A.TMU.SERVO_LIM 31 16 * 65536) < theta.natAbs) then d2.servoTo .acquire else d2
      | _ => d2.servoTo .acquire
    if st = .locked then d3
    else if d.fld A.TMU.SERVO_LIM2 15 8 ≤ run then d3.servoTo .locked
    else d3.onTmu (fun t => { t with lockRun := run })

/-- A sample of a source: it makes the source valid; that of the source in use is accepted, but for the first two in a row far off
in LOCKED, and one that would step in the tick of a TIME_SET (R355, R358, R361). -/
def Dev.servoSample (d : Dev) (c : Nat) (theta : Int) (interval hops : Nat) : Dev :=
  let old := (tabFind d.tmu.sources c).bind (fun s => s.accepted)
  let d1 := d.onTmu (fun t => { t with sources := tabPut t.sources c { last := t.tb, interval := interval, accepted := old } })
  let far := decide (8 * (d.fld A.TMU.SERVO_LIM 31 16 * 65536) < theta.natAbs)
  if d.bit A.TMU.SERVO_CFG 31 || decide (d1.srcInUse ≠ c) then d1
  else if d.tmu.setTick = some d.tb ∧ d.fld A.TMU.SERVO_LIM 15 0 * 1000 * 65536 < theta.natAbs then d1.count A.TMU.SAMPLE_REJECT_CNT
  else if d.tmu.servo = .locked ∧ far ∧ d.tmu.rejectRun < 2 then
    (d1.onTmu (fun t => { t with rejectRun := t.rejectRun + 1 })).count A.TMU.SAMPLE_REJECT_CNT
  else (if d.tmu.servo = .locked ∧ !far then d1.onTmu (fun t => { t with rejectRun := 0 }) else d1).servoAccept c theta interval hops

/-- No source is valid any more (R361). -/
def Dev.noSource (d : Dev) : Dev :=
  if d.bit A.TMU.SERVO_CFG 31 || decide (d.srcInUse ≠ 0) then d
  else match d.tmu.servo with
    | .locked => d.servoTo .holdover
    | .acquire => d.servoTo .free
    | _ => d

/-- SOURCE_TIMEOUT: a source's last sample becomes 4 nominal intervals old (R358). -/
def effSourceTimeout (c : Nat) (d : Dev) : Dev :=
  match tabFind d.tmu.sources c with
  | none => d
  | some s => (d.at_ (s.last + 4 * s.interval)).noSource

/-- HOLDOVER_EXPIRY (R361). -/
def effHoldoverExpiry (d : Dev) : Dev :=
  if d.tmu.servo = .holdover then (d.at_ (d.tmu.holdSince + sT (d.fld A.TMU.SERVO_LIM2 31 16))).servoTo .free else d

/-! Commands (R355, R356, R372) -/

/-- TIME_GET. -/
def cmdTimeGet (ws : List Word) (d : Dev) : Dev × Ans :=
  cmdIf d [(decide (ws ≠ []), RC.BAD_LENGTH)] (d, timeWords d.tmu.tb d.tmu.ptp)

/-- TIME_SET: seconds and nanoseconds, or a signed change in ns; a step, to ACQUIRE with a valid source, else FREE. -/
def cmdTimeSet (ws : List Word) (d : Dev) : Dev × Ans :=
  let rel := bitOf (word ws 0) 0
  let ns := (word ws 3).toNat
  let new : Int := if rel then Int.ofNat d.tmu.ptp + signed 64 (pair ws 1) * 2 ^ 32
    else Int.ofNat (((pair ws 1) * 1000000000 + ns) * 2 ^ 32)
  let d1 := (d.clockStep new.toNat).onTmu (fun t => { t with setTick := some t.tb })
  let d2 := if d.bit A.TMU.SERVO_CFG 31 then d1 else d1.servoTo (if d.srcInUse ≠ 0 then .acquire else .free)
  cmdIf d
    [(decide (ws.length ≠ if rel then 3 else 4), RC.BAD_LENGTH),
     (extra (word ws 0) 1 || decide (new < 0 ∨ Int.ofNat ptpEnd ≤ new) || (!rel && (extra (word ws 2) 0xFFFF || decide (1000000000 ≤ ns))),
      RC.BAD_VALUE)]
    (d2, [])

/-- TSF_SET: TSF_OFS of a BSS, so that its TSF reads a value now, or by a signed change. -/
def cmdTsfSet (ws : List Word) (d : Dev) : Dev × Ans :=
  let w := word ws 0
  let k := 16 * bitsOf w 1 0 + bitsOf w 7 4
  let us := d.ptpNs / 1000 % 2 ^ 64
  let v := (if bitOf w 8 then tabGet 0 d.tmu.tsfOfs k + pair ws 1 else pair ws 1 + 2 ^ 64 - us) % 2 ^ 64
  cmdIf d [(decide (ws.length ≠ 3), RC.BAD_LENGTH), (extra w 0x1F3 || decide (bitsOf w 1 0 = 3), RC.BAD_VALUE)]
    (d.onTmu (fun t => { t with tsfOfs := tabSet 0 t.tsfOfs k v }), [])

/-- OFS_PUT: a sample of the host's. -/
def cmdOfsPut (ws : List Word) (d : Dev) : Dev × Ans :=
  let ms := (word ws 1).toNat
  cmdIf d [(decide (ws.length ≠ 2), RC.BAD_LENGTH), (outside ms 1 1000, RC.BAD_VALUE)]
    (d.servoSample 4 (signed 32 (word ws 0).toNat * 65536) (msT ms) 0xFF, [])

/-- TB2PTP. -/
def cmdTb2Ptp (ws : List Word) (d : Dev) : Dev × Ans :=
  let t := pair ws 0
  cmdIf d [(decide (ws.length ≠ 2), RC.BAD_LENGTH), ((d.tmu.convert t).isNone, RC.NOT_IN_STATE)]
    (d, timeWords t ((d.tmu.convert t).getD 0))

/-! TS_SEND (R364) -/

/-- TS_SEND: the frame waits for its launch; the reply follows the frame, and no other request executes before (R28). -/
def cmdTsSend (rq : Rq) (ws : List Word) (d : Dev) : Dev × Ans :=
  let w0 := word ws 0
  let w1 := word ws 1
  let len := bitsOf w0 31 16
  let n := bitsOf w0 3 0
  let launch := pair ws 2
  let x : TsLaunch := { port := n, oneStep := bitOf w0 8, len := len, hOfs := bitsOf w1 23 16,
                        launch := if bitOf w0 9 then some launch else none,
                        tolUs := if bitsOf w1 7 0 = 0 then 50 else bitsOf w1 7 0, bytes := ws.drop 4 }
  let c := refuse [(decide (ws.length < 4 ∨ ws.length ≠ 4 + ceilDiv len 4), RC.BAD_LENGTH), (decide (d.ports ≤ n), RC.ABSENT),
    (!(d.ethPort n).link, RC.NOT_IN_STATE), (decide (rq.src ≠ .mp) && d.bit A.TMU.PTP_CFG0 0, RC.NOT_PERMITTED),
    (extra w0 0xFFFF030F || extra w1 0x00FF00FF || outside len 60 128 || (bitOf w0 9 && decide (d.ptpNs + 1000000000 < launch))
      || (bitOf w0 8 && decide (len < bitsOf w1 23 16 + 44)), RC.BAD_VALUE)]
  if c = RC.OK then (d.onTmu (fun t => { t with launches := t.launches ++ [x] }), { Ans.ok [] with later := true })
  else (d, Ans.err c)

/-- Big-endian bytes of a number. -/
def beBytes (n v : Nat) : List Byte := (natBytes n v).reverse

/-- Replace bytes of a byte string. -/
def putBytes (bs : List Byte) (off : Nat) (v : List Byte) : List Byte := bs.take off ++ v ++ bs.drop (off + v.length)

/-- The frame with the egress time in originTimestamp and the fraction added to correctionField. -/
def oneStepBytes (bs : List Byte) (h ptp : Nat) : List Byte :=
  let ns := ptp / 2 ^ 32
  let corr := (bs.drop (h + 8)).take 8 |>.foldl (fun n b => 256 * n + b.toNat) 0
  putBytes (putBytes bs (h + 34) (beBytes 6 (ns / 1000000000) ++ beBytes 4 (ns % 1000000000))) (h + 8)
    (beBytes 8 ((corr + ptp / 65536 % 65536) % 2 ^ 64))

/-- The egress timestamp of a frame that leaves a port now, in TB and in PTP time, with the port's TS_ADJ.TX in quarters of a ns
(R333). -/
def Dev.egressTime (d : Dev) (n : Nat) : Nat × Nat :=
  let adj := signed 16 (d.fld (A.ETH.TS_ADJ n) 15 0)
  (((Int.ofNat d.tb * 16 + adj).fdiv 16).toNat, (Int.ofNat d.tmu.ptp + adj * 2 ^ 30).toNat)

/-- A frame of TS_SEND goes as express traffic: a frame in progress ends, or is cut where preemption allows it (R325, R328,
R364). -/
def Dev.expressTurn (d : Dev) (n : Nat) : Dev :=
  match (d.ethPort n).tx with
  | none => d
  | some y =>
    if y.express || !d.preempts n then effEthTxFrameEnd n d
    else match d.cutAt n y with
      | some b => d.ethCut n y b
      | none => effEthTxFrameEnd n d

/-- A port in LPI has left it when a timed launch comes; without a launch the frame waits for the wake (R329). -/
def Dev.lpiForLaunch (d : Dev) (n : Nat) (timed : Bool) : Dev :=
  let d1 := d.lpiLeave n
  match (d1.ethPort n).waking with
  | some t => if timed then d1.onEth n (fun p => { p with waking := none }) else effLpiWakeDone n (d1.at_ t)
  | none => d1

/-- TS_SEND_LAUNCH: the oldest waiting frame of a port leaves at its launch, behind a frame in progress, or is refused late; a
Stride change that bars every start bars it too. -/
def effTsSendLaunch (n : Nat) (d : Dev) : Dev :=
  match d.tmu.launches.find? (fun x => decide (x.port = n)) with
  | none => d
  | some x =>
    let d0 := match x.launch with
      | some t => d.at_ (d.tickAt t)
      | none => d
    let d1 := d0.onTmu (fun t => { t with launches := t.launches.erase x })
    if !(d1.ethPort n).link then d1.execDone RC.NOT_IN_STATE 0 []
    else
      let d2 := (d1.lpiForLaunch n x.launch.isSome).expressTurn n
      let late := match x.launch with
        | some t => decide (t + 1000 * x.tolUs < d2.ptpNs)
        | none => false
      if (d2.ethPort n).noStart then d
      else if late then (d2.count A.TMU.LAUNCH_LATE_CNT).execDone RC.BUSY 2 []
      else
        let bs := (wordsBytes x.bytes).take x.len
        let (tb, ptp) := d2.egressTime n
        let out := if x.oneStep then oneStepBytes bs x.hOfs ptp else bs
        let d3 := (((d2.emit (.eth n (.timed (bytesWords out) (if x.oneStep then some ptp else none)))).count
          A.TMU.PTP_TX_CNT).count (A.ETH.TX_OK_CNT n)).countN (A.ETH.TX_OCTET_CNT n) (wireLen (x.len + 4))
        d3.execDone RC.OK 0 (timeWords tb ptp)

/-! PTP on Ethernet (R362, R363) -/

/-- What the PTP instance makes of a received message: its role (0 listening, 1 master, 2 slave), the stepsRemoved of its master,
and the offset it computes. -/
structure PtpIn where
  role : Nat
  steps : Nat
  theta : Option Int
deriving DecidableEq, Repr

/-- 2^LOG_SYNC s in ticks. -/
def Dev.syncTicks (d : Dev) : Nat :=
  match signed 4 (d.fld A.TMU.PTP_CFG0 15 12) with
  | .ofNat k => sT (2 ^ k)
  | .negSucc k => sT 1 / 2 ^ (k + 1)

/-- PTP_FRAME_RX: received as any frame; on a port of the instance it reaches the instance and not the PKE. -/
def effPtpFrameRx (n : Nat) (h : Hdr) (fcs : Bool) (x : PtpIn) (d : Dev) : Dev :=
  let d1 := effEthRxFrame n (.frame h fcs false false 0) d
  if !d.ptpFrame n h || !d.ethGood n h fcs then d1
  else
    let d2 := d1.onTmu (fun t => { t with ptpRole := x.role, ptpSteps := x.steps, hops := if x.role = 1 then 0 else t.hops })
    match x.role, x.theta with
    | 2, some th => d2.servoSample 1 th d.syncTicks (min 255 (x.steps + 1))
    | _, _ => d2

/-- The clockIdentity: P0's MAC address as an EUI-64 (R362). -/
def Dev.clockId (d : Dev) : Nat := d.ethMac 0 / 2 ^ 24 * 2 ^ 40 + 0xFFFE * 2 ^ 24 + d.ethMac 0 % 2 ^ 24

/-- Send a message of the PTP instance on a port. -/
def Dev.ptpSend (d : Dev) (n typ value : Nat) : Dev :=
  (d.emit (.eth n (.ptp d.clockId (d.fld A.TMU.PTP_CFG0 23 16) typ d.tmu.syncSeq value))).count A.TMU.PTP_TX_CNT

/-- PTP_SYNC_TIMER: as master the instance sends Sync on its ports, with Follow_Up in two-step mode. -/
def effPtpSyncTimer (d : Dev) : Dev :=
  if !d.bit A.TMU.PTP_CFG0 0 ∨ d.tmu.ptpRole = 2 then d
  else
    let d1 := (d.at_ (d.tmu.syncAt + d.syncTicks)).onTmu (fun t =>
      { t with ptpRole := 1, hops := 0, syncAt := max d.tb (d.tmu.syncAt + d.syncTicks), syncSeq := (t.syncSeq + 1) % 65536 })
    let two := d.bit A.TMU.PTP_CFG0 2
    (List.range d.ports).foldl (fun d n =>
      if d.bit A.TMU.PTP_CFG1 n && (d.ethPort n).link then
        let out := (d.egressTime n).2
        let d2 := d.ptpSend n 0 (if two then 0 else out)
        if two then d2.ptpSend n 8 out else d2
      else d) d1

/-! FTM (R366; spec/16 R394) -/

/-- The period of FTM bursts: fast until the servo of a node that has just gained its place is LOCKED. -/
def Dev.ftmMs (d : Dev) : Nat :=
  if d.msh.ftmFast then d.fld A.MSH.START_CFG 9 0 else d.fld A.TMU.FTM_CFG 9 0

/-- FTM_BURST_START: a node with a mesh parent starts a burst. -/
def effFtmBurstStart (d : Dev) : Dev :=
  if d.msh.parent.isNone ∨ d.tmu.ftm.isSome then d
  else
    let d1 := d.at_ (d.tmu.ftmAt + msT d.ftmMs)
    d1.onTmu (fun t => { t with ftm := some [], ftmAt := t.tb })

/-- Insert into a rising list. -/
def insertUp (x : Int) : List Int → List Int
  | [] => [x]
  | y :: ys => if x ≤ y then x :: y :: ys else y :: insertUp x ys

/-- The median; of an even number, the mean of the two in the middle. -/
def median (l : List Int) : Int :=
  let s := l.foldl (fun a x => insertUp x a) []
  if s.length % 2 = 1 then s.getD (s.length / 2) 0 else (s.getD (s.length / 2 - 1) 0 + s.getD (s.length / 2) 0).fdiv 2

/-- One exchange of a burst: the parent's t1 and t4 in 2⁻¹⁶ ns of PTP time, and the child's t2 and t3, in quarters of a ns of TB at
the chip port (R366, R368). -/
structure FtmEx where
  t1 : Int
  t2 : Nat
  t3 : Nat
  t4 : Int
deriving DecidableEq, Repr

/-- A burst: the mesh link's radio, and the exchanges that were complete (R366). -/
structure FtmBurst where
  radio : Radio
  exs : List FtmEx
deriving DecidableEq, Repr

/-- A time at the chip port of a radio as PTP time at its antenna, in 2⁻¹⁶ ns: with `adj` quarters of a ns, converted by R356
(R368). -/
def Dev.airTime (d : Dev) (t : Nat) (adj : Int) : Option Int :=
  (d.tmu.convert (t / 16)).map (fun p => (Int.ofNat p + (Int.ofNat (t % 16) + adj) * 2 ^ 30).fdiv 65536)

/-- The offset of an exchange on a radio; none where its times are older than the history. -/
def Dev.ftmTheta (d : Dev) (r : Radio) (x : FtmEx) : Option Int :=
  let w := A.TMU.AIR_ADJ r.num
  match d.airTime x.t2 (signed 16 (d.fld w 31 16)), d.airTime x.t3 (signed 16 (d.fld w 15 0)) with
  | some t2, some t3 => some (((t2 - x.t1) - (x.t4 - t3)).fdiv 2)
  | _, _ => none

/-- FTM_BURST_END: the burst, and the parent's HOPS. -/
def effFtmBurstEnd (b : FtmBurst) (hops : Nat) (d : Dev) : Dev :=
  if d.tmu.ftm.isNone then d
  else
    let ths := (b.exs.take (d.fld A.TMU.FTM_CFG 19 16)).filterMap (d.ftmTheta b.radio)
    let d1 := d.onTmu (fun t => { t with ftm := none })
    if ths = [] then d1.count A.TMU.FTM_FAIL_CNT else d1.servoSample 2 (median ths) (msT d.ftmMs) (min 255 (hops + 1))

/-! PPS (R367) -/

/-- PPS_IN_EDGE: a rising edge, `sub` ns into the present tick. An edge more than 1.1 s after the last is ignored, and the next is
judged from it. -/
def effPpsInEdge (sub : Nat) (d : Dev) : Dev :=
  if !d.bit A.TMU.PPS_CFG 0 then d
  else
    let n := (d.ptpNs + sub) % 1000000000
    let s : Int := if n < 500000000 then Int.ofNat n else Int.ofNat n - 1000000000
    let theta := (s - signed 16 (d.fld A.TMU.PPS_CFG 31 16)) * 65536
    match d.tmu.ppsEdge with
    | some t =>
      if d.tb - t < sT 9 / 10 then d.count A.TMU.PPS_MISS_CNT
      else if sT 11 / 10 < d.tb - t then (d.onTmu (fun x => { x with ppsEdge := some x.tb })).count A.TMU.PPS_MISS_CNT
      else (d.onTmu (fun x => { x with ppsEdge := some x.tb })).servoSample 3 theta (sT 1) 0xFF
    | none => (d.onTmu (fun x => { x with ppsEdge := some x.tb })).servoSample 3 theta (sT 1) 0xFF

/-- PPS_OUT_EDGE: PPS_OUT rises at the next second boundary of the PTP clock, or falls after WIDTH_MS. -/
def effPpsOutEdge (d : Dev) : Dev :=
  if d.tmu.ppsHigh then ((d.at_ d.tmu.ppsFall).onTmu (fun t => { t with ppsHigh := false })).emit (.pps false)
  else if !d.bit A.TMU.PPS_CFG 1 then d
  else
    let d1 := d.at_ (d.tickAt ((d.ptpNs / 1000000000 + 1) * 1000000000))
    (d1.onTmu (fun t => { t with ppsHigh := true, ppsFall := t.tb + msT (d.fld A.TMU.PPS_CFG 15 8) })).emit (.pps true)

/-! Timed launch (R369, R370) -/

/-- Change the head of a queue. -/
def Dev.onHead (d : Dev) (q : Nat) (f : Entry → Entry) : Dev :=
  d.setQueue q { d.queue q with entries := match (d.queue q).entries with
    | e :: es => f e :: es
    | [] => [] }

/-- What the start of a timed frame meets besides its vector: the room in bytes, whether the precoders are computed, and what Inkwell's
code finds as the frame is read. -/
structure TimedSeen where
  rooms : List Nat
  ready : Bool
  ce : Nat
  ue : List Nat
deriving DecidableEq, Repr

/-- The start of a queue's timed frame with a vector. -/
def TimedSeen.start (x : TimedSeen) (q : Nat) (v : TxVec) : TxStart :=
  { pick := .single [q], vec := v, rooms := x.rooms, ready := x.ready, sync := false, ce := x.ce, ue := x.ue }

/-- TIMED_LAUNCH: the launch of the timed frame at the head of a queue comes: late, sent at the launch when its AC's backoff has
reached 0 and the medium is idle, or contending from now on. -/
def effTimedLaunch (r : Radio) (q : Nat) (v : TxVec) (x : TimedSeen) (d : Dev) : Dev :=
  match d.headReady q with
  | none => d
  | some e => match e.wl.launch with
    | none => d
    | some t =>
      let tol := if e.wl.tol = 0 then 50 else e.wl.tol
      let ac := acOf e.wl.tid
      if d.ptpNs ≤ t + 1000 * tol then
        if !d.avail r || !linkAllowed r e then d
        else
          let d1 := d.at_ (d.tickAt t - d.wayToTx r)
          let d2 := d1.onHead q (fun e => { e with wl := { e.wl with launch := none, lateAt := some (d.tickAt (t + 1000 * tol)) } })
          if d2.expiry r ac ≤ d2.tb then effBackoffExpiry r [ac] (x.start q v) d2 else d2
      else
        let d1 := d.count A.TMU.LAUNCH_LATE_CNT
        if e.wl.lateFinal then ((d1.depart q).lose e RC.TX_LATE)
        else d1.onHead q (fun e => { e with wl := { e.wl with launch := none, late := e.wl.late + 1 } })

/-! Through sleep (R373 to R375) -/

/-- F0_WINDOW: the 32 kHz frequency of a window and the temperature of it. -/
def effF0Window (f0 te : Int) (d : Dev) : Dev :=
  if d.pmu.state = .run then d.onTmu (fun t => { t with f0 := f0, te := te }) else d

/-- AON_TEMP_SAMPLE. -/
def effAonTempSample (temp : Int) (d : Dev) : Dev :=
  if d.pmu.state = .deep then d.onTmu (fun t => { t with aonTemp := temp }) else d

/-- SLEEP or DEEP is entered: the time of entry is recorded. -/
def Dev.tmuSleep (d : Dev) (_deep : Bool) : Dev := d.onTmu (fun t => { t with asleep := some (t.tb, t.ptp), ftm := none })

/-- The bound of the error of a DEEP period, in ticks: 5 ppm of it and 1 µs, or 40 ppm without K or a measured F0 (R374). -/
def Dev.deepError (d : Dev) (ticks : Nat) : Nat :=
  let ppm := if d.fld A.TMU.SLEEP_CFG 23 16 = 0 ∧ d.tmu.f0 = 0 then 40 else 5
  ppm * ticks / 1000000 + 250

/-- Wake: the clocks resume from the carried values; after DEEP their error is a free value within its bound. A LOCKED servo
wakes in HOLDOVER (R373, R375). -/
def Dev.tmuWake (d : Dev) (deep : Bool) : Dev :=
  match d.tmu.asleep with
  | none => d
  | some (tb0, _) =>
    let b := d.deepError (d.tb - tb0)
    let e : Int := if deep then Int.ofNat (d.freeVal (2 * b + 1)) - Int.ofNat b else 0
    let d1 := (if deep then d.took else d).onTmu (fun t => { t with
      asleep := none, tb := (max (Int.ofNat tb0) (Int.ofNat t.tb + e)).toNat, ptp := (Int.ofNat t.ptp + e * (2 ^ 34 + t.freq)).toNat }.note)
    if d1.tmu.servo = .locked ∧ !d.bit A.TMU.SERVO_CFG 31 then d1.servoTo .holdover else d1

/-! The TMU page -/

/-- What a write of a TMU register meets besides its fields' ranges (R362, R334). -/
def tmuPre (o : Nat) (v : Word) (d : Dev) : List (Bool × Nat) :=
  if o = 0x040 then [((List.range 4).any (fun i => decide (4 < bitsOf v (4 * i + 3) (4 * i))), RC.BAD_VALUE)]
  else if o = 0x060 then [(bitOf v 0 && decide (d.ethMac 0 = 0), RC.NOT_IN_STATE)]
  else []

/-- What a write of a TMU register starts: MASTER makes the node a time source; the instance starts or ends with EN. -/
def tmuPost (o : Nat) (old new : Word) (d : Dev) : Dev :=
  if o = 0x040 then
    if bitOf new 31 && !bitOf old 31 then d.servoTo .locked
    else if bitOf old 31 && !bitOf new 31 then d.servoTo (if d.srcInUse ≠ 0 then .acquire else .free)
    else d.noSource
  else if o = 0x060 ∧ bitOf old 0 ≠ bitOf new 0 then d.onTmu (fun t => { t with ptpRole := 0, ptpSteps := 0, syncAt := t.tb })
  else d

/-- The live registers of the TMU page. -/
def tmuLive (o : Nat) (d : Dev) : Option Word :=
  let t := d.tmu
  let master := d.bit A.TMU.SERVO_CFG 31
  if o = 0x050 then some (wd (d.hops % 256 * 2 ^ 16 + d.srcInUse * 2 ^ 8 + if master then 2 else t.servo.code))
  else if o = 0x054 then some (wd (unsigned 32 (max (-(2 ^ 31)) (min (2 ^ 31 - 1) (t.ofsLast.tdiv 65536)))))
  else if o = 0x058 then some (wd (unsigned 32 t.freq))
  else if o = 0x074 then some (wd (unsigned 16 t.f0 * 2 ^ 16 + unsigned 8 t.te * 2 ^ 8))
  else none

end Sys2Proof.Machine
end

