-- ==== Sys2Proof/Machine/Reset.lean ====
section
/-! DEFINITION. What resets leave: the data-plane reset (spec/01 R20, with R173, R215, R241, R289, R316, R327, R350, R471, R472),
a SOFT_RESET of one block (spec/02 R59), and the loss of frames and sessions when power is removed. -/

namespace Sys2Proof.Machine

/-- The blocks a data-plane reset reinitializes (R20). -/
def dpBlks : List Blk := [.tmg, .pke, .qar, .asc, .mld, .mac .a, .mac .b, .mac .c, .mem]

/-- A page belongs to one of a list of blocks. -/
def pageOf (bs : List Blk) (p : Nat) : Bool := match blkOfPage p with
  | some b => bs.contains b
  | none => false

/-! The frames -/

/-- Every entry the device holds between acceptance and departure: in a queue, bound to an SN, on a wire. -/
def Dev.allEntries (d : Dev) : List Entry :=
  (d.tmg.queues.map (fun e => e.2.entries)).flatten
    ++ (d.mld.tids.map (fun e => e.2.board.map (fun b => b.entry))).flatten
    ++ (d.eth.map (fun e => (e.2.tx.toList ++ e.2.suspended.toList).map (fun x => x.entry))).flatten

/-- After the loss of its MPDUs a station-TID closes its downlink window with a BlockAckReq at the next SN, and its uplink
window start passes the highest SN acknowledged (R173, R472). -/
def StaTid.dropped (x : StaTid) : StaTid :=
  let far := (x.seen ++ x.held.map (fun h => h.sn)).foldl (fun n sn => max n ((sn + 4096 - x.rxStart) % 4096 + 1)) 0
  { x with board := [], txStart := x.nextSn, held := [], seen := [], rxStart := (x.rxStart + far) % 4096,
           bar := if x.txWin.isSome ∧ x.txStart ≠ x.nextSn then some x.nextSn else x.bar }

/-- Every frame is gone: queues, scoreboards, reorder buffers, the packet engine, the ports, and with them every cell. -/
def Dev.dropFrames (d : Dev) : Dev :=
  let d1 := d.onTmg (fun t => { t with queues := t.queues.map (fun (e : Nat × Queue) => (e.1, { e.2 with entries := [], deficit := 0 })) })
  let d2 := d1.onMld (fun m => { m with tids := m.tids.map (fun e => (e.1, e.2.dropped)), noBuf := false })
  let d3 := d2.onPke (fun p => { p with waiting := [], released := [], jobs := [], holds := [], pins := [] })
  let d4 := { d3 with eth := d3.eth.map (fun (e : Nat × EthPort) => (e.1, { e.2 with tx := none, suspended := none, occ := [] })) }
  let d5 := (d4.onMem (fun m => { m with inkUse := [], ink := [] })).spillSet 0
  let d6 := (d5.follow .mld Cause.MLD.REORDER_NOBUF false).follow .pke Cause.PKE.HOLD_FULL false
  [Radio.a, .b, .c].foldl (fun d r =>
    (d.onMac r (fun m => { m with txop := none, wait := none, due := none, bcnQueue := [], bcnBusy := [], groupOpen := [] })).onRfe r
      (fun f => { f with wait := none })) d6

/-- Every host frame that is not complete completes with a code, in submission order (R471). -/
def Dev.flushHosts (d : Dev) (code : Nat) : Dev := d.allEntries.foldl (fun d e => d.txComplete e code) d

/-! The data-plane reset (R20) -/

/-- The blocks of R20 stop answering; PG_LOCK of their pages clears (R60). -/
def Dev.dpPages (d : Dev) (on : Bool) : Dev :=
  let d1 := { d with pages := d.pages.map (fun (e : Nat × Page) => if pageOf dpBlks e.1 then (e.1, { e.2 with lock := false }) else e) }
  dpBlks.foldl (fun d b => d.setBlk b { d.blk b with resetting := on }) d1

/-- Meters restart full, and every Pacer takes the configuration given to it last, with a credit of BURST (R289). -/
def Tmg.restart (t : Tmg) : Tmg :=
  { t with
    meters := t.meters.map (fun (e : Nat × Meter) => (e.1, { e.2 with tc := 65536 * e.2.cbs, te := 65536 * e.2.ebs })),
    pacers := t.pacers.map (fun (e : Nat × Pacer) => (e.1, { e.2 with cfg := e.2.last, next := none, credit := 16 * e.2.last.burst })) }

/-- A MAC after a data-plane reset: its configuration and its posted receive buffers stand, everything in progress is gone. -/
def Mac.restart (m : Mac) : Mac :=
  { Mac.reset with bss := m.bss, tmpl := m.tmpl, rxBufs := m.rxBufs, dtimCount := m.dtimCount,
                   twt := m.twt.map (fun (e : Nat × Twt) => (e.1, { e.2 with sp := none, cut := false })) }

/-- The radio returns to Standby; a radio in Sleep stays there (R20). -/
def Dev.radioStandby (d : Dev) (r : Radio) : Dev :=
  let d1 := d.onRfe r (fun f => { f with wait := none, moving := none, calPhase := .none, quiet := none })
  let d2 := d1.onPhy r (fun p => { p with tx := none, sounding := none })
  if (d.rfe.get r).cur = .sleep then d2 else d2.enter r .standby

/-- The captured line is written with the poison marker: for cause 3 only when the command was a write (R350). -/
def Dev.poisonCaptured (d : Dev) : Dev :=
  let f := d.mem.frz
  if f.cause = 1 ∨ f.cause = 2 ∨ (f.cause = 3 ∧ f.cmd ≠ 0) then d.setPoison f.addr true else d

/-- A data-plane reset begins; one that is in progress is joined (R20, R469). -/
def Dev.dpBegin (d : Dev) : Dev :=
  if d.mem.dpReset then d
  else
    let d1 := (d.onMem (fun m => { m with dpReset := true, thawing := false })).dpPages true
    let d2 := d1.withLinks (fun d => d.onMld (fun m => { m with dpReset := true }))
    let d3 := ((d2.flushHosts RC.FLUSHED).dropFrames).onTmg Tmg.restart
    let d4 := d3.onPke (fun p => { p with l2 := p.l2.filter (fun e => e.2.static), flowCache := [] })
    let d5 := (d4.follow .pke Cause.PKE.L2_FULL d4.l2AnyFull).qarReset
    let d6 := [Radio.a, .b, .c].foldl (fun d r => (d.onMac r Mac.restart).radioStandby r) d5
    let d7 := d6.ascReset
    let d8 := if d7.mem.ddr = .frozen then d7.poisonCaptured else d7
    d8.fcHold true

/-- The time the controller was frozen is added to every flow's last hit, so that no flow ages by it (R304). -/
def Dev.flowShift (d : Dev) : Dev :=
  let n := d.tb - d.mem.frozenAt
  d.onPke (fun p => { p with flows := p.flows.map (fun (f : Flow) => { f with used := f.used + n }) })

/-- The controller leaves the freeze (R350). -/
def Dev.unfreeze (d : Dev) : Dev :=
  if d.mem.ddr = .frozen then
    d.flowShift.onMem (fun m => { m with ddr := .serving, thawing := false, frzParity := false, trainFails := 0 })
  else d

/-- The blocks of a data-plane reset report READY: the radios move toward their targets, Quill resumes, the ports let the
classes go, every enabled Pacer refills one period later (R20, R241, R289, R327). -/
def Dev.dpEnd (d : Dev) : Dev :=
  if !d.mem.dpReset then d
  else
    let d1 := ((d.onMem (fun m => { m with dpReset := false })).unfreeze).dpPages false
    let d2 := d1.onTmg (fun t => { t with pacers := t.pacers.map (fun (e : Nat × Pacer) =>
      (e.1, { e.2 with refillAt := d1.tb + usT e.2.cfg.periodUs })) })
    let d3 := d2.withLinks (fun d => [Radio.a, .b, .c].foldl Dev.moveOn (d.onMld (fun m => { m with dpReset := false })))
    (d3.qarResume).fcHold false

/-! SOFT_RESET of one block (R59) -/

/-- A register of a block's page that a SOFT_RESET leaves alone, or that is restored from its shadow copy at once (R59, R241, R338;
notes/assumptions/138.md). -/
def softKeeps (b : Blk) (o : Nat) : Bool :=
  (match ctrAt b (if (ctrAt b o).isSome then o else o - 4) with
    | some c => decide (c.clr ≠ .soft) && ((ctrAt b o).isSome || c.wide)
    | none => false)
  || (decide (b = .mem) && decide (o = 0x040 ∨ o = 0x044 ∨ o = 0x048))
  || (decide (b = .qar) && decide (o = 0x040 ∨ o = 0x050 ∨ o = 0x058))

/-- Registers, causes and page headers of a block return to their reset values, and ATTN_SEQ advances for the causes that
leave (R59, R60). -/
def Dev.pagesReset (d : Dev) (b : Blk) : Dev :=
  let d1 := { d with regs := d.regs.filter (fun e => decide (e.1 / 4096 ≠ blkPage b) || softKeeps b (e.1 % 4096)) }
  let ps := (tabKeys d1.pages).filter (fun p => decide (blkOfPage p = some b))
  let d2 := ps.foldl (fun d p => d.attnSet p 0 0xFFFFFFFF) d1
  ps.foldl (fun d p =>
    let g := d.page p
    d.setPage p { Page.init p with inited := g.inited, selftest := g.selftest, failed := g.failed, power := g.power }) d2

/-- The frames of a radio's MAC return to their queues, and the MAC is as reset leaves it. -/
def Dev.macSoft (d : Dev) (r : Radio) : Dev :=
  ((d.toHead r (d.boundTo r)).onMac r (fun m => { Mac.reset with rxBufs := m.rxBufs })).onRfe r (fun f => { f with wait := none })

/-- The flow control, pauses and preemption of a port, as reset leaves them; the port is down (R318, R335). -/
def Dev.ethSoft (d : Dev) (n : Nat) : Dev :=
  (d.linkLost n).onEth n (fun p => { EthPort.reset with occ := p.occ, nextXid := p.nextXid })

/-- What a SOFT_RESET does to the state behind the registers of a block. TMG, PKE, QAR and ASC discard what they hold, as in
a data-plane reset; the MLD's tables, the time of day and TB stand. -/
def Dev.softState (d : Dev) : Blk → Dev
  | .tmg =>
    let d1 := d.flushAll
    (d1.onTmg (fun t => { Tmg.reset with nextFid := t.nextFid })).spillSet 0
  | .pke =>
    let free (d : Dev) (f : InFrame) : Dev := d.dropFrame f
    let fs := (d.pke.waiting.map (fun e => e.2)).flatten ++ d.pke.released ++ d.pke.jobs.map (fun j => j.frame)
      ++ (d.pke.holds.map (fun e => e.2.frame :: e.2.listed)).flatten
    (fs.foldl free d).onPke (fun p => { Pke.reset with hBufs := p.hBufs, nextToken := p.nextToken, nextId := p.nextId })
  | .qar => d.qarReset
  | .asc => d.ascReset
  | .mac r => d.withLinks (fun d => d.macSoft r)
  | .rfe r => d.withLinks (fun d => (d.onRfe r (fun f => { f with
      irr := 0, imgTime := none, tempImg := 0, tempSyn := 0, dueSince := none })).moveOn r)
  | .phy r => (d.onPhy r (fun p => { Phy.reset with tx := p.tx })).rxRearm r
  | .mld => d.withLinks (fun d => d.onMld (fun m => { m with accDly := Mld.reset.accDly }))
  | .eth n => d.ethSoft n
  | .rgl => d.rglLoad
  | .tmu => d.onTmu (fun t =>
      { Tmu.reset with tb := t.tb, ptp := t.ptp, history := [⟨t.tb, t.ptp, 0⟩], tsfOfs := t.tsfOfs, aonTemp := t.aonTemp,
                       asleep := t.asleep })
  | .mem => if d.mem.stopping ∨ d.mem.ddr ≠ .off then d.ddrOff else d
  | .msh => d.onMsh (fun m => { Msh.reset with key := m.key, seq := m.seq, seeded := m.seeded })
  | _ => d

/-- A SOFT_RESET starts: the block answers BUSY until it is READY (R59). -/
def Dev.softReset (d : Dev) (b : Blk) : Dev :=
  let d1 := (d.softState b).pagesReset b
  let d2 := if b = .rgl then d1.rglCheck else d1
  d2.setBlk b { d2.blk b with resetting := true }

/-- SOFT_RESET_DONE: the block is READY again; the QAR array, every running core of it in TAKE, writes its RESET record (R59,
R241). -/
def effSoftResetDone (b : Blk) (d : Dev) : Dev :=
  if !(d.blk b).resetting ∨ (dpBlks.contains b ∧ d.mem.dpReset) ∨ (b = .qar ∧ !d.qarAtTake) then d
  else
    let d1 := d.setBlk b { d.blk b with resetting := false }
    if b = .qar then d1.qarResume else d1

/-! Power removed -/

/-- Every Ethernet link is lost (R443). -/
def Dev.linksDown (d : Dev) : Dev := (List.range d.ports).foldl (fun d n => d.linkLost n) d

/-- Every session ends without a reply: an open WATCH with it, and replies not yet sent (R38, R438, R468). -/
def Dev.hciEndAll (d : Dev) : Dev :=
  d.onHci (fun h => { h with
    rings := h.rings.map (fun (e : Nat × Ring) => (e.1, { e.2 with session := none, watch := none, waiting := [], held := [], subs := [] })),
    spi := { h.spi with session := none, watch := none, replies := [], todo := none }, acp := [],
    inExec := h.inExec.map (fun x => { x with live := false }), mpTodo := [] })

end Sys2Proof.Machine
end

