-- ==== Sys2Proof/Machine/SelfTest.lean ====
section
/-! DEFINITION. Self-test: units, starting, ending and results (spec/19_self_test.md). -/

namespace Sys2Proof.Machine

/-- The test units (R451). -/
inductive TUnit where
  | radio (r : Radio)
  | quill (k : Nat)
  | eth (n : Nat)
  | pke | tmg | inkwell | sched | dram
deriving DecidableEq, Repr

/-- The unit of a code (R451). -/
def unitOf (c : Nat) : Option TUnit :=
  if 1 ≤ c ∧ c ≤ 3 then some (.radio (Radio.ofNum (c - 1)))
  else if 0x10 ≤ c ∧ c ≤ 0x1F then some (.quill (c - 0x10))
  else if 0x20 ≤ c ∧ c ≤ 0x29 then some (.eth (c - 0x20))
  else if c = 0x30 then some .pke
  else if c = 0x31 then some .tmg
  else if c = 0x32 then some .inkwell
  else if c = 0x33 then some .sched
  else if c = 0x34 then some .dram
  else none

/-- The blocks whose pages a unit isolates (R451, R455). -/
def TUnit.blks : TUnit → List Blk
  | .radio r => [.rfe r, .phy r, .mac r]
  | .eth n => [.eth n]
  | .pke => [.pke]
  | .tmg => [.tmg]
  | _ => []

/-- Units of the data plane, tested only under a data-plane reset (R458). -/
def TUnit.dataPlane : TUnit → Bool
  | .pke | .tmg | .inkwell | .sched | .dram => true
  | _ => false

/-- Planned logic patterns (R451). -/
def TUnit.patterns : TUnit → Nat
  | .radio _ | .tmg => 32768
  | .quill _ => 16384
  | .eth _ => 8192
  | .pke => 65536
  | _ => 0

/-- Coverage at the full count, 0.01 % (R451, R463). -/
def TUnit.coverage : TUnit → Nat
  | .radio _ => 9650
  | .quill _ => 9700
  | .eth _ => 9550
  | .pke | .tmg => 9600
  | _ => 10000

/-- Duration in µs (R451). DRAM: 0.21 s per GiB at 6,400 MT/s. -/
def Dev.unitUs (d : Dev) (u : TUnit) : Nat :=
  match u with
  | .radio .a => 12000
  | .radio .b => 28000
  | .radio .c => 45000
  | .quill _ => 2000
  | .eth _ => 3000
  | .pke => 20000
  | .tmg => 15000
  | .inkwell => 12000
  | .sched => 4000
  | .dram => d.bst.mib * 210000 * 6400 / (1024 * max 1 d.dramRateMt)

/-- Re-initialization time in µs: that of a radio (R456). -/
def TUnit.reinitUs : TUnit → Nat
  | .radio _ => 293
  | _ => 0

/-- A unit is allowed in the life-cycle state (R452). -/
def Dev.unitAllowed (d : Dev) (u : TUnit) : Bool :=
  match d.mgt.otp.lc with
  | .raw | .test | .ret => true
  | .end_ => false
  | .provision | .field => match u with
    | .radio _ | .quill _ => true
    | .eth n => decide (d.fld (A.ETH.MODE n) 2 0 = 0)
    | _ => false

/-- Set or clear ISOLATE and SELFTEST on every page of a unit (R455). -/
def Dev.isolate (d : Dev) (u : TUnit) (on : Bool) : Dev :=
  u.blks.foldl (fun d b => d.setBlk b { d.blk b with isolate := on, selftest := on }) d

/-- A radio under test is in Sleep, its FEM lines at the Off pattern; any other unit has no state of its own to leave (R455, R456). -/
def Dev.unitOff (d : Dev) : TUnit → Dev
  | .radio r => (d.enter r .sleep).onRfe r (fun f => { f with calPhase := .none, wait := none, quiet := none })
  | _ => d

/-- The running phase begins: the unit is isolated. -/
def Dev.bstRun (d : Dev) : Dev :=
  match unitOf d.bst.unit with
  | none => d
  | some u => ((d.unitOff u).isolate u true).onBst (fun x => { x with phase := .running, runStart := d.tb })

/-- A Quill core under a quiescing test has stopped at its TAKE (R457). -/
def Dev.bstCoreStopped (d : Dev) (k : Nat) : Dev :=
  if d.bst.phase = .quiescing ∧ d.bst.unit = 0x10 + k then d.bstRun else d

/-- A quiescing radio test may start once the radio is quiesced (R456). -/
def Dev.bstQuiesced (d : Dev) (r : Radio) : Dev :=
  if d.bst.phase = .quiescing ∧ d.bst.unit = 1 + r.num then d.bstRun else d

/-- Microseconds until the unit under test is expected to report READY (R455). -/
def Dev.testLeftUs (d : Dev) : Nat :=
  match unitOf d.bst.unit with
  | none => 1
  | some u =>
    let el := (d.tb - d.bst.start) / 250
    let run := (d.tb - d.bst.runStart) / 250
    let left := match d.bst.phase with
      | .quiescing => (d.bst.quiesceUs - el) + d.unitUs u + u.reinitUs
      | .running => (d.unitUs u - run) + u.reinitUs
      | _ => u.reinitUs
    max 1 left

/-- Coverage between two points of a curve, by linear interpolation, rounded down (R463; notes/assumptions/139.md). -/
def between (n : Nat) (p q : Nat × Nat) : Nat := p.2 + (q.2 - p.2) * (n - p.1) / max 1 (q.1 - p.1)

/-- A curve's coverage at a pattern count: between the points on either side of it, from the origin on; past the last, that one's. -/
def curveAt (n : Nat) (p : Nat × Nat) : List (Nat × Nat) → Nat
  | [] => p.2
  | q :: qs => if n < q.1 then between n p q else curveAt n q qs

/-- Achieved coverage in 0.01 % of a run that ended early: by the curve at the pattern count, or for a unit of memories only the
fraction of its elements (R463). -/
def TUnit.achieved (u : TUnit) (c done : Nat) : Nat :=
  if u.patterns = 0 then min done 10000 else curveAt done (0, 0) ((List.range 16).map (Config.bistPoint c))

/-- Patterns that a run reports as executed, of what it did: none for a unit of memories only (R451, R464). -/
def TUnit.executed (u : TUnit) (done : Nat) : Nat := min done u.patterns

/-- The result of a run (R461). -/
def resultOf (complete eq : Bool) (mism : Nat) : Nat × Bool :=
  if complete then (if eq && decide (mism = 0) then 1 else 2, false) else (3, eq)

/-- Word 0 of a TEST_RESULT reply (R464). -/
def TestRes.word0 (t : TestRes) (unit : Nat) : Word :=
  wd (unit + 2 ^ 8 * t.result + 2 ^ 11 * b2n t.alias_ + 2 ^ 12 * t.reason + 2 ^ 16 * t.coverage)

/-- The test ends with what was executed: the result is decided, recorded and reported, and the unit is re-initialized
(R459 to R463). `reason` 0: the patterns ran to their end. `done`: the patterns run, or of a unit of memories only the fraction of its
elements in 0.01 %. -/
def Dev.bstEnd (d : Dev) (reason done sig mism firstFail : Nat) : Dev :=
  match unitOf d.bst.unit with
  | none => d
  | some u =>
    let c := d.bst.unit
    let expected := Config.bistSignature d.mgt.otp.variant.toNat c
    let complete := decide (reason = 0)
    let (res, al) := resultOf complete (decide (sig = expected)) mism
    let executed := u.executed done
    let cov := if complete then u.coverage else u.achieved c done
    let start := if d.bst.phase = .running then d.bst.runStart else d.tb
    let t : TestRes := { result := res, alias_ := al, reason := reason, coverage := cov, executed := executed,
                         planned := u.patterns, sig := sig, expected := expected, durUs := (d.tb - start) / 250,
                         mismatches := mism, firstFail := firstFail, seq := 0 }
    let d1 := if al then
        ((d.blotter 0x080 4 0x0030 [wd c, wd executed, wd sig, wd (sig / 2 ^ 32)]).raise .bst
          Cause.BST.SIGNATURE_ALIAS).count A.BST.ALIAS_CNT
      else d
    let t := { t with seq := d1.mgt.nextSeq }
    let d2 := d1.blotter 0x080 0 0x0031 [t.word0 c, wd executed, wd mism, wd t.durUs]
    let failed := if res = 2 then c :: d2.bst.failed.filter (fun x => decide (x ≠ c))
      else if res = 1 then d2.bst.failed.filter (fun x => decide (x ≠ c)) else d2.bst.failed
    let d3 := { d2 with bst := { d2.bst with phase := .reinit, results := tabPut d2.bst.results c t, failed := failed } }
    let d4 := if res = 3 then d3
      else u.blks.foldl (fun d b => d.setBlk b { d.blk b with failed := decide (res = 2) }) d3
    let d5 := if res = 2 then (d4.raise .bst Cause.BST.SELFTEST_FAIL).count A.BST.FAIL_CNT
      else if res = 3 then d4.count A.BST.INCOMPLETE_CNT else d4
    d5.raise .bst Cause.BST.SELFTEST_DONE

/-- What a test has done when it ends early: the elapsed fraction of the planned patterns, or of the elements in 0.01 %; nothing while
quiescing (R459). -/
def Dev.bstSoFar (d : Dev) : Nat :=
  match unitOf d.bst.unit with
  | none => 0
  | some u => if d.bst.phase = .running then
      let all := if u.patterns = 0 then 10000 else u.patterns
      min all (all * ((d.tb - d.bst.runStart) / 250) / max 1 (d.unitUs u))
    else 0

/-- The normal end comes before any other event of its tick; what the signature register and the memory BIST then hold are free values
(R459). -/
def Dev.bstTie (d : Dev) : Dev :=
  match unitOf d.bst.unit with
  | none => d
  | some u =>
    if d.bst.phase = .running ∧ d.tb = d.bst.runStart + usT (d.unitUs u) then
      d.took.took.bstEnd 0 u.patterns (d.freeVal (2 ^ 64)) (d.took.freeVal (2 ^ 32)) (d.freeVal (2 ^ 32))
    else d

/-- An early end: the signature is what the register then holds, a free value (R459, R460). -/
def Dev.bstEarly (d0 : Dev) (reason : Nat) : Dev :=
  let d := d0.bstTie
  if d.bst.phase = .running ∨ d.bst.phase = .quiescing then
    d.took.bstEnd reason d.bstSoFar (d.freeVal (2 ^ 64)) 0 0
  else d

/-- The run of a unit begins: a radio quiesces and a core stops at its TAKE; an unused port and, under the data-plane reset that the
test starts, a unit of the data plane run their patterns at once (R455 to R458). -/
def Dev.testBegin (d : Dev) (u : TUnit) : Dev :=
  match u with
  | .radio r => (d.quiesce r).onBst (fun x => { x with quiesceUs := d.quiesceBoundUs r })
  | .quill k =>
    let d1 := d.wr A.QAR.CORE_CTRL (d.rd A.QAR.CORE_CTRL &&& ~~~ oneBit k)
    match tabFind d.qar.cores k with
    | some q => match q.wait with
      | .take _ _ => (d1.setQuill k { q with wait := .stopped }).bstRun
      | .stopped => d1.bstRun
      | _ => d1.onBst (fun x => { x with quiesceUs := ceilDiv (d1.limitLeft k) 250 })
    | none => d1.bstRun
  | .eth _ => d.bstRun
  | .dram => ((d.dpBegin.onPmu (fun p => { p with resumeValid := false, resumeBody := false })).dramUndefined d.bst.region
      (d.bst.mib * 2 ^ 20)).bstRun
  | _ => d.dpBegin.bstRun

/-- TEST_START (R454 to R458); a unit being re-initialized still answers BUSY (DEDUCED, notes/assumptions/139.md). -/
def cmdTestStart (ws : List Word) (d : Dev) : Dev × Ans :=
  let c := bitsOf (word ws 0) 7 0
  let addr := pair ws 1
  let mib := (word ws 3).toNat
  let need := if c = 0x34 then 4 else 1
  let cs : List (Bool × Nat) := (decide (ws.length ≠ need), RC.BAD_LENGTH) :: match unitOf c with
    | none => [(true, RC.BAD_VALUE)]
    | some u =>
      [(extra (word ws 0) 0xFF || (decide (u = .dram) && (decide (addr % 2 ^ 20 ≠ 0) || decide (mib = 0)
         || decide (d.dramMib * 2 ^ 20 < addr + mib * 2 ^ 20))), RC.BAD_VALUE),
       (match u with
         | .eth n => !d.present (.eth n)
         | _ => false, RC.ABSENT),
       (!d.unitAllowed u, RC.NOT_IN_STATE),
       (decide (u = .dram) && decide (d.mem.ddr = .frozen), RC.FROZEN),
       (decide (d.bst.phase ≠ .idle), RC.BUSY)]
  let code := refuse cs
  match unitOf c, code with
  | some u, 0 =>
    let d0 := { d with bst := { d.bst with phase := .quiescing, unit := c, start := d.tb, quiesceUs := 0, region := addr,
                                           mib := mib } }
    ((d0.count A.BST.RUN_CNT).testBegin u, Ans.ok [])
  | _, _ => (d.count A.BST.REFUSE_CNT, Ans.err (if code = 0 then RC.BAD_VALUE else code))

/-- TEST_ABORT (R459). -/
def cmdTestAbort (ws : List Word) (d0 : Dev) : Dev × Ans :=
  let d := d0.bstTie
  cmdIf d [(decide (ws.length ≠ 0), RC.BAD_LENGTH),
           (decide (d.bst.phase ≠ .running) && decide (d.bst.phase ≠ .quiescing), RC.NOT_IN_STATE)]
    (d.bstEarly 1, [])

/-- The SPW71 coverage-and-duration report (R465). -/
def TestRes.spw71 (t : TestRes) (c : Nat) : List Word :=
  [wd (c + 2 ^ 8 * (b2n (decide (t.result = 1)) + 2 * b2n (decide (t.result = 2)) + 64 * b2n t.alias_
    + 128 * b2n (decide (t.result = 3))) + 2 ^ 16 * (t.coverage / 10)), wd (ceilDiv t.durUs 1000)]

/-- TEST_RESULT (R464, R465). A unit under test reports RUNNING. -/
def cmdTestResult (ws : List Word) (d : Dev) : Dev × Ans :=
  let c := bitsOf (word ws 0) 7 0
  let running := decide (d.bst.unit = c) && decide (d.bst.phase = .running ∨ d.bst.phase = .quiescing)
  let live : TestRes := { result := 4, alias_ := false, reason := 0, coverage := 0, executed := match unitOf c with
                            | some u => u.executed d.bstSoFar
                            | none => 0,
                          planned := match unitOf c with
                            | some u => u.patterns
                            | none => 0,
                          sig := 0, expected := Config.bistSignature d.mgt.otp.variant.toNat c,
                          durUs := (d.tb - d.bst.start) / 250, mismatches := 0, firstFail := 0, seq := 0 }
  let res := if running then some live else tabFind d.bst.results c
  cmdIf d [(decide (ws.length ≠ 1), RC.BAD_LENGTH),
           (extra (word ws 0) 0x1FF || (unitOf c).isNone, RC.BAD_VALUE),
           (res.isNone, RC.NOT_IN_STATE)]
    (d, match res with
      | none => []
      | some t =>
        if bitOf (word ws 0) 8 then t.spw71 c
        else [t.word0 c, wd t.executed, wd t.planned, wd t.sig, wd (t.sig / 2 ^ 32), wd t.expected,
              wd (t.expected / 2 ^ 32), wd t.durUs, wd t.mismatches, wd t.firstFail, wd t.seq])

/-- TEST_PATTERNS_DONE: the patterns have run for their duration; what the register and the memory BIST then hold decides
(R461). -/
def effTestPatternsDone (sig mism firstFail : Nat) (d : Dev) : Dev :=
  match unitOf d.bst.unit with
  | none => d
  | some u =>
    if d.bst.phase ≠ .running then d
    else
      let d := d.at_ (d.bst.runStart + usT (d.unitUs u))
      d.bstEnd 0 u.patterns sig mism firstFail

/-- TEST_OVERRUN: twice the duration has passed (R459). -/
def effTestOverrun (executed : Nat) (d : Dev) : Dev :=
  match unitOf d.bst.unit with
  | none => d
  | some u =>
    if d.bst.phase ≠ .running then d
    else
      let d := d.at_ (d.bst.runStart + usT (2 * d.unitUs u))
      d.took.bstEnd 2 executed (d.freeVal (2 ^ 64)) 0 0

/-- The unit under test is back in service unless it failed, a core with the active image loaded again; the region of a DRAM test is
left undefined (R456 to R458, R462). -/
def Dev.unitBack (d : Dev) (u : TUnit) : Dev :=
  let c := d.bst.unit
  let d1 := (d.isolate u false).onBst (fun x => { x with phase := .idle, unit := 0 })
  match u with
  | .radio r => if d.bst.failed.contains c then d1 else d1.unquiesce r
  | .quill k => if d.bst.failed.contains c then d1 else
      let d2 := d1.setQuill k { Core.reset false with imem := d1.quillCode, wait := .none }
      d2.wr A.QAR.CORE_CTRL (d2.rd A.QAR.CORE_CTRL ||| oneBit k)
  | .dram => (d1.dramUndefined d.bst.region (d.bst.mib * 2 ^ 20)).dpEnd
  | u => if u.dataPlane then d1.dpEnd else d1

/-- TEST_REINIT_DONE: re-initialization is over; that of the data plane, once every running core waits in TAKE (R456 to R458; spec/09
R241). -/
def effTestReinitDone (d : Dev) : Dev :=
  match unitOf d.bst.unit with
  | none => d
  | some u =>
    if d.bst.phase ≠ .reinit ∨ (u.dataPlane ∧ !d.qarAtTake) then d
    else (d.at_ (d.tb + usT u.reinitUs)).unitBack u

/-- A SOFT_RESET of the BST page: STAT returns to its reset value, a test in progress is over without a result, and the results are
gone; a failed unit stays failed (spec/02 R59; notes/assumptions/139.md). -/
def Dev.bstSoft (d : Dev) : Dev :=
  let d1 : Dev := match unitOf d.bst.unit with
    | some u => if d.bst.phase = .idle then d else d.unitBack u
    | none => d
  d1.onBst (fun x => { x with results := [] })

/-- The live register of the BST page (BST.STAT). -/
def bstLive (o : Nat) (d : Dev) : Option Word :=
  if o = 0x044 then
    let ph := match d.bst.phase with
      | .idle => 0
      | .quiescing => 1
      | .running => 2
      | .reinit => 3
    some (wd (if d.bst.phase = .idle then 0
      else min 65535 ((d.tb - d.bst.start) / 250000) * 2 ^ 16 + d.bst.unit * 2 ^ 8 + ph))
  else none

end Sys2Proof.Machine
end

