-- ==== Sys2Proof/Machine/Ddr.lean ====
section
/-! DEFINITION. Errors of the DRAM, the freeze and its ends (spec/14 R347 to R351; spec/20 R469, R473). -/

namespace Sys2Proof.Machine

/-- A data-plane reset that no test starts: it joins one in progress, and ends a test in progress (R350, R459, R469). -/
def Dev.dpRequest (d : Dev) : Dev := if d.mem.dpReset then d else (d.bstEarly 4).dpBegin

/-- Every outstanding read of a client completes with FROZEN: flow buckets, fetches (R302, R349). -/
def Dev.clientsFrozen (d : Dev) : Dev :=
  (List.range 16).foldl (fun d k => (List.range 4).foldl (fun d _ => effFetchComplete k d) d) d.pkeFrozen

/-- A request of some client is outstanding: a flow bucket, a fetch, a spill write (R349, R499). -/
def Dev.dramBusy (d : Dev) : Bool :=
  d.pke.jobs.any (fun j => j.waits.isSome) || (List.range 16).any (fun k => !(d.quill k).fetches.isEmpty)
    || d.tmg.queues.any (fun q => q.2.entries.any Entry.writing)

/-- DDR_STOP_DONE: every outstanding request has been completed, and the controller is off (R499). -/
def effDdrStopDone (d : Dev) : Dev := if d.mem.stopping && !d.dramBusy then d.ddrOff else d

/-- The controller freezes, in the tick after detection: what it captured, the count, the cause, the MP's event, and the end
of every outstanding read (R349). -/
def Dev.freeze (d : Dev) (cause cmd port addr : Nat) (synd : List Word) : Dev :=
  let d1 := d.at_ (d.tb + 1)
  let d2 := d1.onMem (fun m => { m with
    ddr := .frozen, thawing := false, frzParity := false, frozenAt := d1.tb,
    frz := { cause := cause, cmd := cmd, port := port, addr := 64 * (addr / 64), time := d1.tb,
             synd := if cause = 1 then padTo 4 synd else [0, 0, 0, 0] } })
  (((d2.count A.MEM.FREEZE_CNT).raise .mem Cause.MEM.DRAM_FROZEN).event 7).clientsFrozen.dlAll

/-- A self-test of DRAM reads a line of the region it tests (R473). -/
def Dev.underTest (d : Dev) (addr : Nat) : Bool :=
  decide (d.bst.unit = 0x34) && decide (d.bst.phase = .running) && decide (d.bst.region ≤ addr)
    && decide (addr < d.bst.region + d.bst.mib * 2 ^ 20)

/-- A line above the frontier of the initialization is not checked (R344). -/
def Dev.unchecked (d : Dev) (addr : Nat) : Bool := decide (d.mem.frontier * 2 ^ 20 ≤ addr)

/-- Erroneous bytes of a burst: up to 8 are corrected and counted, more freeze the controller (R348, R349). -/
def Dev.eccSeen (d : Dev) (port addr errs : Nat) (synd : List Word) : Dev :=
  if errs = 0 || d.unchecked addr then d
  else if errs ≤ 8 then d.count A.MEM.ECC_CE_CNT
  else if decide (port = 10) && d.underTest addr then d
  else (d.count A.MEM.ECC_UE_CNT).freeze 1 0 port addr synd

/-- DDR_READ_RETURN: a burst of a port returns with a number of erroneous bytes after a latency in ns. A poisoned line is
counted by the row of its reader (REFILL_DONE, FLOW_BUCKET_READ_DONE, FETCH_COMPLETE, a load of the MP), and here for the
ports that have none. -/
def effDdrReadReturn (port addr errs : Nat) (synd : List Word) (ns : Nat) (d : Dev) : Dev :=
  if !d.answers || decide (11 < port) then d
  else
    let d1 := d.latency port ns
    let d2 := if decide (8 ≤ port) && d1.poisoned addr then d1.count A.MEM.POISON_READ_CNT else d1
    d2.eccSeen port addr errs synd

/-- A TMG spill whose write failed keeps its entry in Inkwell (R349). -/
def Dev.spillFailed (d : Dev) (addr : Nat) : Dev :=
  let hit (e : Entry) : Bool := e.writing && decide (e.dram ≤ addr) && decide (addr < e.dram + 256 * cellsOf e.len)
  match d.tmg.queues.find? (fun q => q.2.entries.any hit) with
  | none => d
  | some (q, x) =>
    let n := ((x.entries.filter hit).map Entry.spillCells).foldl (· + ·) 0
    (d.setQueue q { x with entries := x.entries.map (fun e => if hit e then { e with writing := false } else e) }).spillSet
      (d.tmg.spillUsed - n)

/-- WRITE_CRC_ALERT: a write that has been retried `retries` times fails again; after the fourth retry the controller freezes
(R349). A failed store of the MP raises its exception beside this (execWriteCrcAlert). -/
def effWriteCrcAlert (port : Nat) (part : Bool) (addr retries : Nat) (d : Dev) : Dev :=
  if !d.answers || decide (11 < port) then d
  else if retries < 4 then d.count A.MEM.WCRC_RETRY_CNT
  else
    let d1 := d.freeze 2 (if part then 2 else 1) port addr []
    if port = 5 then d1.spillFailed addr else if port = 0 then d1.bucketWriteFailed addr else d1

/-- PATROL_SCRUB: the next line is read and corrected (R348); PERIOD_H 0 turns the scrub off, and a freeze pauses it. -/
def effPatrolScrub (errs : Nat) (synd : List Word) (d : Dev) : Dev :=
  if !d.serving || decide (d.fld A.MEM.SCRUB_CFG 15 0 = 0) then d
  else
    let a := 64 * d.mem.scrubLine
    let n := d.dramMib * 2 ^ 14
    let d1 := d.onMem (fun m => { m with scrubLine := if n ≤ m.scrubLine + 1 then 0 else m.scrubLine + 1 })
    d1.eccSeen 0xF a errs synd

/-- COMMAND_PATH_PARITY_ERROR: it freezes a controller that carries commands; while frozen it only makes a THAW retrain, and
in the fast training of a THAW it freezes the controller again (R349, R473). -/
def effCommandPathParityError (cmd port addr : Nat) (d : Dev) : Dev :=
  if d.answers ∨ (d.mem.ddr = .frozen ∧ d.mem.thawing) then d.freeze 3 cmd port addr []
  else if d.mem.ddr = .frozen then d.onMem (fun m => { m with frzParity := true })
  else d

/-- The watchdog of a freeze is due. -/
def Dev.frzWdogAt (d : Dev) : Nat := d.mem.frozenAt + msT (d.fld A.MEM.FRZ_CFG 15 0)

/-- The reset in progress was begun by a self-test, which holds the data plane in it (R458). -/
def Dev.testReset (d : Dev) : Bool :=
  d.mem.dpReset && decide (d.bst.phase ≠ .idle) && (match unitOf d.bst.unit with
    | some u => u.dataPlane
    | none => false)

/-- The freeze watchdog: cause, record, and the data-plane reset it starts or joins (R351, R469). -/
def Dev.frzWdog (d : Dev) : Dev :=
  let f := d.mem.frz
  let info := (memLive 0x0A0 d).getD 0
  ((d.raise .mem Cause.MEM.FREEZE_WDOG).blotter 0x800 4 0x0012 [info, wd f.addr, wd (f.addr / 2 ^ 32), 0]).dpRequest

/-- FREEZE_WATCHDOG: the freeze has gone WDOG_MS without a THAW or DP_RESET. -/
def effFreezeWatchdog (d : Dev) : Dev :=
  if d.mem.ddr = .frozen ∧ !d.mem.thawing ∧ (!d.mem.dpReset ∨ d.testReset) then (d.at_ d.frzWdogAt).frzWdog else d

/-- An expiry in the same tick is processed first (R351). -/
def Dev.frzDue (d : Dev) : Dev := if d.tb = d.frzWdogAt then effFreezeWatchdog d else d

/-- THAW: the captured line is poisoned at once; the rest follows (R350). -/
def cmdThaw (ws : List Word) (d0 : Dev) : Dev × Ans :=
  let d := d0.frzDue
  let f := d.mem.frz
  cmdIf d [(decide (ws.length ≠ 1), RC.BAD_LENGTH), (decide (d.mem.ddr ≠ .frozen), RC.NOT_IN_STATE),
           (decide (word ws 0 ≠ 0), RC.BAD_VALUE), (d.mem.thawing || d.mem.dpReset, RC.BUSY)]
    (d.poisonCaptured.onMem (fun m => { m with
      thawing := true, trainFails := 0, trained := !(decide (f.cause = 2 ∨ f.cause = 3) || m.frzParity) }), [])

/-- The held writes are performed in order (R350). -/
def Dev.heldWrites (d : Dev) : Dev :=
  (tabKeys d.tmg.queues).foldl (fun d q => (d.queue q).entries.foldl (fun d _ => d.spillDone q) d) d

/-- THAW_DONE: the training, if one is due, has passed; held writes are performed and FROZEN clears (R350). -/
def effThawDone (d : Dev) : Dev :=
  if d.mem.ddr = .frozen ∧ d.mem.thawing ∧ d.mem.trained then
    let d1 := d.heldWrites.unfreeze
    (tabKeys d1.tmg.queues).foldl (fun d q => (d.dlBytes q).settle q) d1
  else d

/-- DP_RESET: starts a data-plane reset, or joins the one in progress (R350). -/
def cmdDpReset (ws : List Word) (d0 : Dev) : Dev × Ans :=
  let d := d0.frzDue
  cmdIf d [(decide (ws.length ≠ 1), RC.BAD_LENGTH), (decide (word ws 0 ≠ 0), RC.BAD_VALUE)] (d.dpRequest, [])

/-- DATA_PLANE_RESET_DONE: the blocks are restored and report READY; a test of the data plane holds the reset (R20, R458). -/
def effDataPlaneResetDone (d : Dev) : Dev := if d.testReset || !d.qarAtTake then d else d.dpEnd

end Sys2Proof.Machine
end

