-- ==== Sys2Proof/Machine/Power.lean ====
section
/-! DEFINITION. Power states, wake, block power levels, supply events (spec/18_power.md). -/

namespace Sys2Proof.Machine

/-- The value of MODE that names a state (PMU.MODE). -/
def PwrState.mode : PwrState → Nat
  | .idle => 1
  | .sleep => 2
  | .deep => 3
  | .off => 4
  | _ => 0

/-- The state a MODE value names. -/
def stateOfMode (m : Nat) : PwrState :=
  if m = 1 then .idle else if m = 2 then .sleep else if m = 3 then .deep else if m = 4 then .off else .run

/-- A flash operation or an OTP program is in progress (R444). -/
def Dev.flashActive (d : Dev) : Bool := d.mgt.flashBusy || decide (d.mgt.upd = .erasing)

/-! The clock sources and the PCIe link (R441, R442) -/

/-- The levels of the PCIe link: not trained, L0, L1, L2. -/
inductive PcieLevel where
  | untrained | l0 | l1 | l2
deriving DecidableEq, Repr

/-- The level of the PCIe link: while it is trained, the PCI block is on in L0, clock-gated in L1 and retained in L2 (R442). -/
def Dev.pcieLevel (d : Dev) : PcieLevel :=
  if !d.hci.linkUp then .untrained
  else if (d.blk .pci).power = 1 then .l2
  else if (d.blk .pci).power = 2 then .l1
  else .l0

/-- A state in which the regulators and the MP's domain run. -/
def PwrState.up (p : PwrState) : Bool := decide (p = .run ∨ p = .idle ∨ p = .booting)

/-- The 40 MHz crystal runs in RUN, IDLE and SLEEP (R441); a device that boots has started it (R446). -/
def Dev.crystalRuns (d : Dev) : Bool := d.pmu.state.up || decide (d.pmu.state = .sleep)

/-- A block holds a clock request: it is on or waking (R21, R442). -/
def Dev.clockAsked (d : Dev) (b : Blk) : Bool := d.present b && decide (b ≠ .pmu) && decide ((d.blk b).power = 3 ∨ (d.blk b).power = 4)

/-- The system PLL runs while any block other than the AON domain holds a clock request (R441). -/
def Dev.systemPllRuns (d : Dev) : Bool :=
  d.pmu.state.up && (d.pages.any (fun e => match blkOfPage e.1 with
    | some b => decide (blkPage b = e.1) && d.clockAsked b
    | none => false) || decide (d.pmu.state ≠ .idle))

/-- The SerDes PLL runs while any present port has MODE other than 0 (R441). -/
def Dev.serdesPllRuns (d : Dev) : Bool :=
  d.pmu.state.up && (List.range d.ports).any (fun n => decide (d.fld (A.ETH.MODE n) 2 0 ≠ 0))

/-- The PCIe PLL runs while the link is above L2 (R441). -/
def Dev.pciePllRuns (d : Dev) : Bool := d.pmu.state.up && decide (d.pcieLevel = .l0 ∨ d.pcieLevel = .l1)

/-- The first condition of R444 that refuses a state: its reason and the page that blocks. -/
def Dev.entryBlock (d : Dev) (p : PwrState) : Option (Nat × Nat) :=
  let low := decide (p = .sleep ∨ p = .deep)
  let awake := [Radio.a, .b, .c].find? (fun r => decide ((d.rfe.get r).cur ≠ .sleep ∨ (d.rfe.get r).moving.isSome))
  if low && awake.isSome then some (1, blkPage (.rfe (awake.getD .a)))
  else if low && decide (d.pcieLevel = .l0 ∨ d.pcieLevel = .l1) then some (2, 0x070)
  else if decide (p ≠ .idle) && d.hci.inExec.isSome then some (3, 0x010)
  else if decide (p ≠ .idle) && d.flashActive then some (3, 0x030)
  else if decide (p = .deep) && d.mgt.temps.any (fun t => decide (760 ≤ t)) then some (4, 0x030)
  else if decide (p = .deep) && !d.pmu.resumeValid then some (5, 0x020)
  else none

/-- Begin to leave a state, or note the wake source while the state is still being entered (R445, R448). -/
def Dev.wake (d : Dev) (code : Nat) : Dev :=
  if d.pmu.entering.isSome then { d with pmu := { d.pmu with wakePending := some (d.pmu.wakePending.getD code) } }
  else if (d.pmu.state = .idle ∨ d.pmu.state = .sleep ∨ d.pmu.state = .deep) ∧ d.pmu.exiting = none then
    { d with pmu := { d.pmu with exiting := some code } }
  else d

/-- The MP asks for a state: refused with the reason and the page, or its entry begins (R444). A test in progress ends
first (R459); at DEEP entry the MP completes the resume image (R447); a wake time already past ends the state at once
(R445). -/
def Dev.tryEnter (d0 : Dev) (p : PwrState) : Dev :=
  let d := if p = .deep ∧ d0.pmu.resumeBody ∧ d0.serving then d0.onPmu (fun p => { p with resumeValid := true }) else d0
  if d.pmu.state ≠ .run ∨ d.pmu.entering.isSome ∨ p = .run ∨ p = .held ∨ p = .booting then d
  else match d.entryBlock p with
    | some (reason, page) =>
      let d1 := { d with pmu := { d.pmu with entryPage := page, entryReason := reason } }
      (d1.count A.PMU.ENTRY_REFUSE_CNT).raise .pmu Cause.PMU.ENTRY_REFUSED
    | none =>
      let d1 := if p = .idle then d else d.bstEarly 3
      let due := decide (p ≠ .off) && (decide (p = .idle) || d1.bit A.PMU.WAKE_EN 1)
        && decide ((d1.rd A.PMU.WAKE_AT_LO).toNat + 2 ^ 32 * (d1.rd A.PMU.WAKE_AT_HI).toNat ≤ d1.tb)
      { d1 with pmu := { d1.pmu with entering := some p, wakePending := if due then some 3 else none } }

/-- The data plane loses power in DEEP: every frame is lost, and at its wake it is restored from shadow copies, as after a
data-plane reset (spec/01 R21; R447). -/
def Dev.dataPlaneLost (d : Dev) : Dev :=
  let d1 := (d.dropFrames.onTmg Tmg.restart).onPke (fun p => { p with l2 := p.l2.filter (fun e => e.2.static), flowCache := [] })
  ([Radio.a, .b, .c].foldl (fun d r => d.onMac r Mac.restart) d1.qarReset).ascReset

/-- The MP's domain loses power in DEEP: MP SRAM but the retained part, MGT SRAM and with it the Blotter ring, and the results of the
self-test. Records that were not committed are lost, and the next record is preceded by one that reports them (spec/01 R21, R22;
R418; notes/assumptions/159.md). -/
def Dev.mpDomainLost (d : Dev) : Dev :=
  let lost := d.mgt.uncommitted
  let d1 := d.onMgt (fun m => { m with
    sram := [], ring := [], wantCommit := false,
    dropped := match m.dropped, lost with
      | some x, _ => some (x.1, x.2 + lost.length)
      | none, r :: _ => some (r.seq, lost.length)
      | none, [] => none })
  (d1.onMp (fun c => { c with dmem := c.dmem.filter (fun e => decide (0x60000 ≤ e.1)) })).onBst (fun b => { b with results := [] })

/-- Ethernet and PCIe keep no contents below IDLE: what a port and the PCI block hold beyond their configured registers, which the MP
restores, is as reset leaves it (spec/01 R21; notes/assumptions/159.md). -/
def Dev.linksLost (d : Dev) : Dev :=
  let eth (d : Dev) (n : Nat) : Dev :=
    let d1 := (d.linkLost n).onEth n (fun p => { EthPort.reset with occ := p.occ, nextXid := p.nextXid })
    { d1 with regs := d1.regs.filter (fun e => decide (e.1 / 4096 ≠ blkPage (.eth n)) || !((ctrAt (.eth n) (e.1 % 4096)).isSome || (ctrAt (.eth n) (e.1 % 4096 - 4)).isSome)) }
  let d1 := (List.range d.ports).foldl eth d
  d1.onHci (fun h => { h with rings := [], msixTab := [], msixMask := 0xFFFFFFFF, msixPending := 0 })

/-- The pins of the AON domain where every other domain has lost its power: each chain's control lines at the Off pattern, the bias
outputs at 0 V, PPS_OUT low (R439; spec/21 R486). -/
def Dev.aonPins (d : Dev) : Dev :=
  [Radio.a, .b, .c].foldl Dev.femOff (if d.tmu.ppsHigh then (d.onTmu (fun t => { t with ppsHigh := false })).emit (.pps false) else d)

/-- STATE_ENTRY_DONE: the entry completes, or turns round where a wake source came meanwhile (R443, R444, R448). -/
def effStateEntryDone (d : Dev) : Dev :=
  match d.pmu.entering with
  | none => d
  | some p =>
    let d0 := { d with pmu := { d.pmu with entering := none, wakePending := none, state := p,
                                           exiting := d.pmu.wakePending } }
    match p with
    | .idle => d0.count A.PMU.IDLE_CNT
    | .sleep => (((d0.count A.PMU.SLEEP_CNT).linksLost).ddrSleep).tmuSleep false
    | .deep => (((((((d0.count A.PMU.DEEP_CNT).linksLost).hciEndAll).mpDomainLost).dataPlaneLost).ddrSleep).tmuSleep true).aonPins
    | .off => ((d0.hciEndAll).dropFrames).aonPins
    | _ => d0

/-- WAKE_N_LOW: wakes from IDLE, from SLEEP and DEEP when selected, and cold-boots from OFF with reset cause 1 (R445). -/
def effWakeNLow (d : Dev) : Dev :=
  if d.pmu.state = .off then
    { d with pmu := { d.pmu with state := .booting, nextCause := 1, nextDetail := 0, second := none, exiting := none } }
  else if d.pmu.state = .idle ∨ d.pmu.entering = some .idle ∨ d.bit A.PMU.WAKE_EN 0 then d.wake 2
  else d

/-- How long before WAKE_AT the exit begins, in TB ticks (R445, R446). -/
def PwrState.exitTicks : PwrState → Nat
  | .sleep => usT 120
  | .deep => usT 2600
  | .idle => 125
  | _ => 0

/-- WAKE_TIMER: TB reaches WAKE_AT less the exit time (R445). -/
def effWakeTimer (d : Dev) : Dev :=
  let p := d.pmu.entering.getD d.pmu.state
  if p = .idle ∨ ((p = .sleep ∨ p = .deep) ∧ d.bit A.PMU.WAKE_EN 1) then
    let t := (d.rd A.PMU.WAKE_AT_LO).toNat + 2 ^ 32 * (d.rd A.PMU.WAKE_AT_HI).toNat
    (d.at_ (t - p.exitTicks)).wake 3
  else d

/-- SPI_CS_WAKE: the falling CS_N of a transaction, which itself is discarded (R445). -/
def effSpiCsWake (d : Dev) : Dev :=
  let p := d.pmu.entering.getD d.pmu.state
  if p = .idle ∨ ((p = .sleep ∨ p = .deep) ∧ d.bit A.PMU.WAKE_EN 2) then d.wake 4 else d

/-- STATE_EXIT_DONE: the device is in RUN again; MODE reads RUN, the MP resumes after its WFE. `ok`: the DRAM training of a SLEEP
or DEEP exit passes, and the hash checks of a DEEP exit; a DEEP exit that fails cold-boots with reset cause 8, and a training
that fails twice at a SLEEP exit leaves the controller failed (R343, R446, R447). -/
def effStateExitDone (ok : Bool) (d : Dev) : Dev :=
  match d.pmu.exiting with
  | none => d
  | some code =>
    let p := d.pmu.state
    if p = .deep ∧ !ok then
      { d with pmu := { d.pmu with state := .booting, exiting := none, nextCause := 8, nextDetail := 0, second := none } }
    else
      let d0 := { d with pmu := { d.pmu with state := .run, exiting := none, lastState := p.mode, wakeCause := code } }
      let d1 := match p with
        | .sleep => (if ok || decide (d0.mem.ddr ≠ DdrState.selfRefresh) then d0.ddrWake else d0.trainFailed).tmuWake false
        | .deep => (d0.onMp (fun c => { c with dmem := d0.fwInto c.dmem })).ddrWake.tmuWake true
        | _ => d0
      let d2 := (d1.wr A.PMU.MODE 0).event 5
      { d2 with mp := { d2.mp with wait := .none, evt := false } }

/-- A block has no work in hand, so its idle time can pass (R21, R442). -/
def Dev.idle (d : Dev) : Blk → Bool
  | .pke => d.pke.waiting.all (fun e => e.2.isEmpty) && d.pke.released.isEmpty && d.pke.jobs.isEmpty && d.pke.holds.isEmpty
  | .tmg => d.tmg.queues.all (fun e => e.2.entries.isEmpty)
  | .mld => d.mld.tids.all (fun e => e.2.board.isEmpty && e.2.held.isEmpty)
  | .asc => d.qar.insts.isEmpty && [Radio.a, .b, .c].all (fun r => (d.asc.radios.get r).inFlight.isNone)
  | .mem => !d.mem.stopping && !d.mem.thawing && !d.mem.dpReset && decide (d.mem.ddr ≠ .training)
      && d.tmg.queues.all (fun e => e.2.entries.all (fun x => !x.inDram))
  | .bst => decide (d.bst.phase = .idle)
  | _ => true

/-- The level a block falls to when its idle time has passed (R442). The PCI block follows the link through L1 to L2. -/
def Dev.idleLevel (d : Dev) (b : Blk) : Option Nat :=
  let lvl := (d.blk b).power
  let radio (r : Radio) : Option Nat :=
    match (d.rfe.get r).cur with
    | .sleep => some 1
    | .receive | .transmit => none
    | _ => some 2
  if !d.idle b then none
  else match b with
    | .pke => if lvl = 3 then some 2 else if lvl = 2 then some 1 else none
    | .tmg | .mld | .asc => if lvl = 3 then some 2 else none
    | .mac r | .phy r => radio r
    | .eth n => if d.fld (A.ETH.MODE n) 2 0 = 0 then some 1 else if (d.ethPort n).link then none else some 2
    | .pci => if d.hci.linkUp && decide (lvl = 3) then some 2 else some 1
    | .mem => if d.mem.ddr = .selfRefresh then some 1 else some 2
    | .bst => some 1
    | _ => none

/-- BLOCK_IDLE_GATE: an idle block is clock-gated or retained; one with CLK_FORCE stays on (R442). -/
def effBlockIdleGate (b : Blk) (d : Dev) : Dev :=
  let g := d.blk b
  if g.clkForce ∨ g.power ≤ 1 ∨ g.power = 4 then d
  else match d.idleLevel b with
    | some l => if l < g.power then d.setBlk b { g with power := l } else d
    | none => d

/-- BLOCK_WAKE_DONE: a waking block is on and accepts requests (R442). -/
def effBlockWakeDone (b : Blk) (d : Dev) : Dev :=
  let g := d.blk b
  if g.power = 4 then d.setBlk b { g with power := 3 } else d

/-! Supply events -/

/-- POWER_ON: VIN crosses 4.5 V; AON starts, and after the fuse load the boot ROM runs, with TB starting at 0 (R476). -/
def effPowerOn (d : Dev) : Dev :=
  if d.pmu.state = .held ∧ !d.pmu.tripped then
    { d with pmu := { d.pmu with state := .booting, nextCause := 0, nextDetail := 0, second := none } }
  else d

/-- BROWN_OUT: power is removed from every domain but AON and the device is held in reset. `rail` 0 is VIN, 1 to 5 the VM
monitor of the rail; `lost`: VIN fell below 3.0 V, so AON is lost too and the next start is a power-on (R436, R438). -/
def effBrownOut (rail : Nat) (lost : Bool) (d : Dev) : Dev :=
  if d.pmu.state = .held then d
  else
    let d1 := (d.count A.PMU.BROWNOUT_CNT).hciEndAll.dropFrames.aonPins
    if lost then
      { d1 with pmu := { Pmu.reset with state := .held },
                regs := d1.regs.filter (fun e => decide (e.1 / 4096 ≠ 0x020)) }
    else { d1 with pmu := { d1.pmu with state := .held, entering := none, exiting := none, wakePending := none,
                                        nextCause := 2, nextDetail := rail, second := none, tripped := true,
                                        resumeValid := false, resumeBody := false } }

/-- BROWN_OUT_RELEASE: VIN stayed above 4.5 V for 10 ms; the device cold-boots (R436). -/
def effBrownOutRelease (d : Dev) : Dev :=
  if d.pmu.state = .held ∧ d.pmu.tripped then { d with pmu := { d.pmu with state := .booting, tripped := false } }
  else d

/-- AON_OVERCURRENT: the current is recorded and the device cold-boots; the boot's records are BOOT with cause 2 and
detail 0xFF, and AON_BROWNOUT (R440). -/
def effAonOvercurrent (ua : Nat) (d : Dev) : Dev :=
  if d.pmu.state = .held ∨ d.pmu.state = .off then d
  else { d with pmu := { d.pmu with state := .booting, entering := none, exiting := none, wakePending := none,
                                    aonUa := ua, nextCause := 2, nextDetail := 0xFF,
                                    second := some (0x0004, [wd ua]), resumeValid := false, resumeBody := false } }

/-- THERMAL_TRIP: a sensor at 125 °C or more in RUN, IDLE or SLEEP removes power from every domain but AON; the device
cold-boots after 1 s with cause 4 and THERMAL_TRIP as its second record (R412, R448). -/
def effThermalTrip (k : Nat) (t : Int) (d : Dev) : Dev :=
  if t < 1000 ∨ ¬ (d.pmu.state = .run ∨ d.pmu.state = .idle ∨ d.pmu.state = .sleep) then d
  else
    let d1 := d.hciEndAll.dropFrames.aonPins
    { d1 with pmu := { d1.pmu with state := .booting, entering := none, exiting := none, wakePending := none,
                                   nextCause := 4, nextDetail := k,
                                   second := some (0x0005, [wd k, wd (unsigned 32 t)]), resumeValid := false, resumeBody := false } }

/-! The PMU page -/

/-- What a write of a PMU register meets besides its fields' ranges: WARN_MV is in steps of 50 mV (R437). -/
def pmuPre (o : Nat) (v : Word) : List (Bool × Nat) :=
  if o = 0x058 then [(decide (bitsOf v 15 0 % 50 ≠ 0), RC.BAD_VALUE)] else []

/-- The live registers of the PMU page. -/
def pmuLive (o : Nat) (d : Dev) : Option Word :=
  let p := d.pmu
  if o = 0x044 then some (wd (b2n p.resumeValid * 2 ^ 12 + p.wakeCause % 16 * 2 ^ 8 + p.lastState % 8))
  else if o = 0x048 then some (wd (p.entryPage % 4096 * 2 ^ 20 + p.entryReason % 16))
  else if o = 0x064 then some (wd (p.aonUa % 65536))
  else none

end Sys2Proof.Machine
end

