-- ==== Sys2Proof/Machine/Mgmt.lean ====
section
/-! DEFINITION. Management: MP restart, sensors, Blotter commits and reads, images and updates, the committed configuration,
life cycle and fuses (spec/17_management.md). -/

namespace Sys2Proof.Machine

/-! MP restart and sensors -/

/-- The MP stops and is restarted: requests reply BUSY until READY, which MP_RESTART_DONE sets (R409). -/
def Dev.mpRestart (d : Dev) : Dev := { d with mgt := { d.mgt with restarting := true } }

/-- A device reset is due at a time, with a reset cause. -/
def Dev.resetAt (d : Dev) (t cause : Nat) : Dev := { d with mgt := { d.mgt with resetDue := some (t, cause) } }

/-- MP_WDOG_EXPIRY: WDOG was not written in time; the MP restarts, or the device resets when the expiry before it was less
than 10 s ago (R409). -/
def effMpWdogExpiry (d : Dev) : Dev :=
  let d := d.at_ (d.mgt.wdogAt + msT (d.fld A.MGT.WDOG 15 0))
  let again := match d.mgt.lastWdog with
    | some t => decide (d.tb < t + sT 10)
    | none => false
  let d1 := { d with mgt := { d.mgt with lastWdog := some d.tb, wdogAt := d.tb } }
  if again then d1.resetAt d1.tb 3
  else (d1.blotter 0x030 0 0x0008 [d1.rd A.MGT.EVT_PEND]).mpRestart

/-- The MP firmware of the running slot is loaded into MP SRAM (R409, R421). -/
def Dev.mpLoadFw (d : Dev) (sram : Tab Byte) : Core :=
  { Core.reset true with dmem := d.fwInto sram }

/-- The MP keeps the reservation of a key slot's mark at least 1,024 above it: how far above is free (spec/02 R54;
notes/assumptions/60.md). -/
def Dev.hwmReserve (d : Dev) (slot : Nat) : Dev :=
  let mark := tabGet 0 d.hci.hwm slot
  if mark + 1024 ≤ tabGet 0 d.hci.hwmReserve slot then d
  else d.took.onHci (fun h => { h with hwmReserve := tabSet 0 h.hwmReserve slot (mark + 1024 + d.freeVal 0) })

/-- After any restart the ACP marks resume at their reservations, and the MP reserves anew above them (spec/02 R54). -/
def Dev.hwmResume (d : Dev) : Dev :=
  (List.range 4).foldl Dev.hwmReserve (d.onHci (fun h => { h with hwm := h.hwmReserve }))

/-- MP_RESTART_DONE: the MP firmware is reloaded; cause MP_RESTART, count, and the latest start was warm (R409). The other
blocks and their registers keep their contents. -/
def effMpRestartDone (d : Dev) : Dev :=
  if !d.mgt.restarting then d
  else
    let mp := d.mpLoadFw d.mp.dmem
    let d1 := { d with mgt := { d.mgt with restarting := false, warm := true, stage := 2, wdogAt := d.tb }, mp := mp }
    (d1.hwmResume.count A.MGT.MP_RESTART_CNT).raise .mgt Cause.MGT.MP_RESTART

/-- TEMP_WARN follows the sensors: set at WARN_C, kept until every one is below WARN_C − HYST_C; each crossing is an event of the MP.
`old`: the readings before (R407, R411). -/
def Dev.tempWatch (d : Dev) (old : List Int) : Dev :=
  let w : Int := 8 * signed 8 (d.fld A.MGT.TEMP_CFG 7 0)
  let h : Int := 8 * (d.fld A.MGT.TEMP_CFG 15 8 : Int)
  let on := bitOf (d.blk .mgt).cause Cause.MGT.TEMP_WARN
  let hot := d.mgt.temps.any (fun t => decide (w ≤ t))
  let cool := d.mgt.temps.all (fun t => decide (t < w - h))
  let d1 := if (old.zip d.mgt.temps).any (fun x => decide (x.1 < w ∧ w ≤ x.2)) || (hot && !on) then d.event 4 else d
  if hot && !on then d1.raise .mgt Cause.MGT.TEMP_WARN
  else if on && cool then d1.lower .mgt Cause.MGT.TEMP_WARN
  else d1

/-- TEMP_WARN: sensor `k` reads a temperature, in 0.125 °C (R410, R411). -/
def effTempWarn (k : Nat) (t : Int) (d : Dev) : Dev := (d.onMgt (fun m => { m with temps := m.temps.set k t })).tempWatch d.mgt.temps

/-- TMU_MS_TICK: the sensors' new readings, and the MP's 1 ms event (R407, R410). -/
def effTmuMsTick (temps : List Int) (volts : List Nat) (iin : Nat) (d : Dev) : Dev :=
  let m := { d.mgt with temps := (temps ++ d.mgt.temps.drop temps.length).take 12,
                        volts := (volts ++ d.mgt.volts.drop volts.length).take 6, iin := iin }
  (({ d with mgt := m } : Dev).event 2).tempWatch d.mgt.temps

/-- WDOG was written: the watchdog starts again (R409). -/
def Dev.wdogKick (d : Dev) : Dev := { d with mgt := { d.mgt with wdogAt := d.tb } }

/-! The Blotter (R416, R419) -/

/-- Slots of the flash area that a list of groups takes: one for each record and one for each commit record. -/
def bltSlots (gs : List (List BltRec)) : Nat := gs.foldl (fun n g => n + g.length + 1) 0

/-- Take the oldest `k` slots out of the groups. -/
def bltTrim : Nat → List (List BltRec) → List (List BltRec)
  | _, [] => []
  | k, g :: gs => if g.length + 1 ≤ k then bltTrim (k - (g.length + 1)) gs else g.drop k :: gs

/-- Flash keeps 65,536 slots less the 2,048 of the sector kept erased (R419). -/
def bltKeep (gs : List (List BltRec)) : List (List BltRec) := bltTrim (bltSlots gs - 63488) gs

/-- BLT_COMMIT_TIMER: COMMIT_MS has passed since the oldest uncommitted record (R416). -/
def effBltCommitTimer (d : Dev) : Dev :=
  if d.mgt.uncommitted = [] then d else (d.at_ (d.mgt.openSince + msT (d.fld A.MGT.BLT_CFG 31 16))).bltKick true

/-- FLASH_OP_DONE: the operation in progress has ended. A commit that succeeds makes its group's records committed, with a
reservation 17 above its last SEQ, and answers the BLT_COMMIT it covers; one that fails is tried once more, and a second failure
sets FLASH_FAIL and answers the BLT_COMMIT in execution with INTERNAL. An erase for an update that fails twice sets FLASH_FAIL too, and
the update has failed (R30, R407, R416, R424; notes/assumptions/61.md). -/
def effFlashOpDone (ok : Bool) (d : Dev) : Dev :=
  let m := d.mgt
  if !m.flashBusy then
    (if ok || decide (m.upd ≠ .erasing) then d
     else if m.flashTries = 0 then d.onMgt (fun x => { x with flashTries := 1 })
     else (((d.onMgt (fun x => { x with flashTries := 0, flashFail := true, upd := .failed })).event 3).raise .mgt
       Cause.MGT.FLASH_FAIL).count A.MGT.UPD_FAIL_CNT)
  else if ok then
    let last := m.committing
    let group := m.uncommitted.filter (fun r => decide (r.seq ≤ last))
    let fl := { m.flash with blotter := bltKeep (m.flash.blotter ++ [group]), reservation := last + 17 }
    let done := match m.bltWait with
      | some n => decide (n ≤ last)
      | none => false
    let rest := m.uncommitted.filter (fun r => decide (last < r.seq))
    let d1 := { d with mgt := { m with flash := fl, commitSeq := last, committing := 0, flashBusy := false, flashTries := 0,
                                       bltWait := if done then none else m.bltWait,
                                       openSince := match rest with
                                         | r :: _ => (r.time - m.epoch) * 256
                                         | [] => m.openSince } }
    let d2 := d1.event 3
    (if done then d2.execDone RC.OK 0 [] else d2).bltKick false
  else if m.flashTries = 0 then { d with mgt := { m with flashTries := 1 } }
  else
    let d1 := { d with mgt := { m with flashTries := 0, flashBusy := false, committing := 0, flashFail := true, bltWait := none } }
    let d2 := (d1.event 3).raise .mgt Cause.MGT.FLASH_FAIL
    if m.bltWait.isSome then d2.execFailed 0 else d2

/-- A request fails in the device: INTERNAL, and its record (R30). -/
def Dev.fails (d : Dev) (rq : Rq) (page det : Nat) : Dev × Ans :=
  (d.internalError 7 (wd (4096 * page)) rq.tag, { Ans.err RC.INTERNAL with detail := det })

/-- BLT_COMMIT: OK at once with nothing uncommitted, else once the commit record of the group it closes is written. The MP makes no
flash write for it below VIN_WARN, and it fails while flash is out of use (R30, R416, R429; notes/assumptions/61.md). -/
def cmdBltCommit (rq : Rq) (ws : List Word) (d : Dev) : Dev × Ans :=
  if ws.length ≠ 0 then (d, Ans.err RC.BAD_LENGTH)
  else if d.mgt.uncommitted = [] then (d, Ans.ok [])
  else if d.mgt.vinWarn && !d.mgt.failCommit && !d.mgt.flashBusy then (d, Ans.errD RC.NOT_IN_STATE 6)
  else if d.mgt.flashFail then d.fails rq 0x030 0
  else
    let d1 := { d with mgt := { d.mgt with bltWait := some (d.mgt.nextSeq - 1) } }
    (d1.bltKick true, { code := RC.OK, detail := 0, words := [], later := true })

/-- A record as its eight words, the CRC-16 over the first 30 bytes in the last half-word (R413). -/
def BltRec.toWords (r : BltRec) : List Word :=
  let b := natBytes 6 r.time ++ natBytes 4 r.seq ++ natBytes 2 (r.page % 4096 + 2 ^ 12 * (r.cls % 8)) ++ natBytes 2 r.code
    ++ (wordsBytes (padTo 4 r.args)).take 16
  bytesWords (b ++ natBytes 2 (crc16 b).toNat)

/-- Every record held, in flash or in the ring, oldest first. -/
def Mgt.records (m : Mgt) : List BltRec :=
  let old := m.flash.blotter.flatten
  match m.ring with
  | [] => old
  | r :: _ => old.filter (fun x => decide (x.seq < r.seq)) ++ m.ring

/-- BLT_READ: records from a SEQ onward, at most `room` words of them (R44, R419). -/
def cmdBltRead (room : Nat) (ws : List Word) (d : Dev) : Dev × Ans :=
  let seq := (word ws 0).toNat
  let recs := d.mgt.records.filter (fun r => decide (seq ≤ r.seq))
  let skipped := match d.mgt.records with
    | r :: _ => r.seq - seq
    | [] => 0
  if ws.length ≠ 1 then (d, Ans.err RC.BAD_LENGTH)
  else (d, { code := RC.OK, detail := min 65535 skipped, later := false,
             words := ((recs.take (min 32 (room / 8))).map BltRec.toWords).flatten })

/-! Updating (R424) -/

/-- Every step writes an UPD_RESULT record: step (its command code), reply code, DETAIL, slot (R415, R424). -/
def Dev.updRecord (d : Dev) (step code detail : Nat) (slot : Bool) : Dev :=
  d.blotter 0x030 0 0x0020 [wd step, wd code, wd detail, wd (b2n slot)]

/-- UPD and CFG commands, OTP programming and the life cycle are refused below VIN_WARN with DETAIL 6, where R31 lets
NOT_IN_STATE be the code. -/
def vinIf (d : Dev) (cs : List (Bool × Nat)) (eff : Dev × List Word) : Dev × Ans :=
  let c := refuse ((d.mgt.vinWarn, RC.NOT_IN_STATE) :: cs)
  if c = RC.OK then (eff.1, Ans.ok eff.2)
  else (d, Ans.errD c (if c = RC.NOT_IN_STATE ∧ d.mgt.vinWarn then 6 else 0))

/-- UPD_BEGIN. -/
def cmdUpdBegin (ws : List Word) (d : Dev) : Dev × Ans :=
  let len := (word ws 0).toNat
  let m := { d.mgt.setOther Slot.empty with upd := .erasing, updLen := len, updGot := 0, updBytes := [] }
  vinIf d
    [(decide (ws.length ≠ 1), RC.BAD_LENGTH), (outside len 1 (8 * 2 ^ 20), RC.BAD_VALUE),
     (decide (d.mgt.upd ≠ .idle ∧ d.mgt.upd ≠ .failed), RC.NOT_IN_STATE)]
    (({ d with mgt := m } : Dev).updRecord 0x0A10 0 0 (!d.mgt.slot), [])

/-- UPD_ERASE_DONE. -/
def effUpdEraseDone (d : Dev) : Dev :=
  if d.mgt.upd = .erasing then ({ d with mgt := { d.mgt with upd := .receiving } } : Dev).event 3 else d

/-- UPD_WRITE: the bytes at the offset received so far; the last of them completes the step (R424). -/
def cmdUpdWrite (ws : List Word) (d : Dev) : Dev × Ans :=
  let off := (word ws 0).toNat
  let bytes := wordsBytes (ws.drop 1)
  let left := d.mgt.updLen - d.mgt.updGot
  let c := refuse
    [(decide (ws.length < 2 ∨ 255 < ws.length) || (decide (d.mgt.upd = .receiving) && decide (left + 3 < bytes.length)),
      RC.BAD_LENGTH), (d.mgt.vinWarn, RC.NOT_IN_STATE),
     (decide (d.mgt.upd ≠ .erasing ∧ d.mgt.upd ≠ .receiving), RC.NOT_IN_STATE),
     (decide (d.mgt.upd = .receiving) && decide (off ≠ d.mgt.updGot), RC.BAD_VALUE),
     (decide (d.mgt.upd = .erasing), RC.BUSY)]
  if c = RC.OK then
    let got := bytes.take left
    let d1 := { d with mgt := { d.mgt with updGot := d.mgt.updGot + got.length,
                                           updBytes := d.mgt.updBytes ++ got } }
    let d2 := if d1.mgt.updGot = d1.mgt.updLen then d1.updRecord 0x0A11 0 0 (!d.mgt.slot) else d1
    (d2.event 3, Ans.ok [])
  else if c = RC.NOT_IN_STATE ∧ d.mgt.vinWarn then (d, Ans.errD c 6)
  else if c = RC.BAD_VALUE then (d, Ans.errD c (d.mgt.updGot % 65536))
  else (d, Ans.err c)

/-- UPD_FINISH. -/
def cmdUpdFinish (rq : Rq) (ws : List Word) (d : Dev) : Dev × Ans :=
  let c := refuse [(decide (ws.length ≠ 0), RC.BAD_LENGTH), (d.mgt.vinWarn, RC.NOT_IN_STATE),
    (decide (d.mgt.upd ≠ .receiving) || decide (d.mgt.updGot ≠ d.mgt.updLen), RC.NOT_IN_STATE)]
  if c ≠ RC.OK then (d, Ans.errD c (if c = RC.NOT_IN_STATE ∧ d.mgt.vinWarn then 6 else 0))
  else match d.verify d.mgt.updBytes with
    | some (code, det) =>
      let d1 := { d with mgt := { d.mgt with upd := .failed, updBytes := [] } }
      let d2 := (d1.count A.MGT.UPD_FAIL_CNT).updRecord 0x0A12 code det (!d.mgt.slot)
      (if code = RC.INTERNAL then d2.internalError 7 (wd 0x030000) rq.tag else d2, Ans.errD code det)
    | none =>
      let x : Slot := { state := .valid, gen := d.mgt.running.gen + 1, len := d.mgt.updLen, image := d.mgt.updBytes }
      let d1 := { d with mgt := { d.mgt.setOther x with upd := .ready, updBytes := [] } }
      ((d1.updRecord 0x0A12 0 0 (!d.mgt.slot)).event 3, Ans.ok [])

/-- UPD_ACTIVATE: OK, and a cold boot 10 ms later. -/
def cmdUpdActivate (ws : List Word) (d : Dev) : Dev × Ans :=
  vinIf d [(decide (ws.length ≠ 0), RC.BAD_LENGTH), (decide (d.mgt.upd ≠ .ready), RC.NOT_IN_STATE)]
    ((d.updRecord 0x0A13 0 0 (!d.mgt.slot)).resetAt (d.tb + msT 10) 5, [])

/-- UPD_CONFIRM: the trial slot is GOOD, and with ADVANCE the anti-rollback counter rises to its SEC_VER (R425). -/
def cmdUpdConfirm (ws : List Word) (d : Dev) : Dev × Ans :=
  let r := d.mgt.running
  let sec := leNat ((r.image.drop 12).take 4)
  let arb := if d.bit A.MGT.UPD_CFG 31 then max d.mgt.otp.arb sec else d.mgt.otp.arb
  let m := d.mgt.setRunning { r with state := .good }
  let d1 : Dev := { d with mgt := { m with upd := .idle, trialDue := none, otp := { m.otp with arb := arb } } }
  vinIf d [(decide (ws.length ≠ 0), RC.BAD_LENGTH), (decide (d.mgt.upd ≠ .trial), RC.NOT_IN_STATE)]
    ((d1.updRecord 0x0A14 0 0 d.mgt.slot).event 3, [])

/-- UPD_ABORT: IDLE, and the slot stays EMPTY. With no update it is refused (notes/assumptions/33.md). -/
def cmdUpdAbort (ws : List Word) (d : Dev) : Dev × Ans :=
  let m := d.mgt.setOther Slot.empty
  vinIf d [(decide (ws.length ≠ 0), RC.BAD_LENGTH), (decide (d.mgt.upd = .idle ∨ d.mgt.upd = .trial), RC.NOT_IN_STATE)]
    (({ d with mgt := { m with upd := .idle, updGot := 0, updLen := 0, updBytes := [] } } : Dev).updRecord 0x0A15 0 0 (!d.mgt.slot), [])

/-- UPD_TRIAL_TIMEOUT: no confirmation in TRIAL_S; the MP resets the device, cause 7 (R424). -/
def effUpdTrialTimeout (d : Dev) : Dev :=
  match d.mgt.trialDue with
  | some t => if d.mgt.upd = .trial then
      let d1 := d.at_ t
      ({ d1 with mgt := { d1.mgt with trialDue := none } } : Dev).resetAt d1.tb 7
    else d
  | none => d

/-! The committed configuration (R427, R428) -/

/-- The writes of a payload: address and value by turns. -/
def writesOf : List Word → List (Nat × Word)
  | a :: v :: rest => (a.toNat, v) :: writesOf rest
  | _ => []

/-- CFG_STAGE. The buffer holds 512 writes (4 KiB). -/
def cmdCfgStage (ws : List Word) (d : Dev) : Dev × Ans :=
  let cs := writesOf ws
  vinIf d
    [(decide (ws.length = 0 ∨ 254 < ws.length ∨ ws.length % 2 = 1), RC.BAD_LENGTH),
     (cs.any (fun e => decide (2 ^ 24 ≤ e.1) || (blkOfPage (e.1 / 4096)).isNone), RC.BAD_ADDRESS),
     (decide (512 < d.mgt.staged.length + cs.length), RC.BUSY)]
    ({ d with mgt := { d.mgt with staged := d.mgt.staged ++ cs } }, [])

/-- CFG_COMMIT: one entry and its commit marker; it fails while flash is out of use (R30; notes/assumptions/61.md). -/
def cmdCfgCommit (rq : Rq) (ws : List Word) (d : Dev) : Dev × Ans :=
  if d.mgt.flashFail && decide (ws.length = 0) && !d.mgt.vinWarn then d.fails rq 0x030 0
  else vinIf d [(decide (ws.length ≠ 0), RC.BAD_LENGTH)]
    (let fl := { d.mgt.flash with journal := d.mgt.flash.journal ++ [d.mgt.staged] }
     (({ d with mgt := { d.mgt with flash := fl, staged := [] } } : Dev).event 3, []))

/-- CFG_DISCARD. -/
def cmdCfgDiscard (ws : List Word) (d : Dev) : Dev × Ans :=
  vinIf d [(decide (ws.length ≠ 0), RC.BAD_LENGTH)] ({ d with mgt := { d.mgt with staged := [] } }, [])

/-! Fuses and the life cycle (R425, R426, R430 to R432) -/

/-- OTP_KEY: programs a key hash in PROVISION. -/
def cmdOtpKey (src : Src) (ws : List Word) (d : Dev) : Dev × Ans :=
  let k := bitsOf (word ws 0) 1 0
  vinIf d
    [(decide (ws.length ≠ 13), RC.BAD_LENGTH), (decide (d.mgt.otp.lc ≠ .provision), RC.NOT_IN_STATE),
     (src.isAcp, RC.NOT_PERMITTED), ((tabFind d.mgt.otp.keys k).isSome, RC.LOCKED),
     (extra (word ws 0) 3, RC.BAD_VALUE)]
    ({ d with mgt := { d.mgt with otp := { d.mgt.otp with
        keys := tabPut d.mgt.otp.keys k (beNat (wordsBytes (ws.drop 1))) } } }, [])

/-- KEY_REVOKE (R426). -/
def cmdKeyRevoke (src : Src) (ws : List Word) (d : Dev) : Dev × Ans :=
  let k := (word ws 0).toNat
  let o := d.mgt.otp
  let others := (tabKeys o.keys).filter (fun i => decide (i ≠ k) && !d.keyRevoked i)
  let d1 : Dev := { d with mgt := { d.mgt with otp := { o with revoked := tabSet false o.revoked k true } } }
  vinIf d
    [(decide (ws.length ≠ 1), RC.BAD_LENGTH), (src.isAcp, RC.NOT_PERMITTED), (decide (3 < k), RC.BAD_VALUE),
     (!d.mgt.unsigned && decide (d.mgt.stage = 2) && decide (byteAt d.mgt.running.image 5 = k), RC.NOT_PERMITTED),
     (others.isEmpty, RC.NOT_PERMITTED)]
    (d1.blotter 0x030 0 0x0023 [wd k], [])

/-- OTP_REG: programs and locks the regulatory page, checked with LOCK taken as 0 (R432). -/
def cmdOtpReg (src : Src) (ws : List Word) (d : Dev) : Dev × Ans :=
  let page := (List.range 64).foldl (fun t i => tabSet 0 t i (if i = 0 then word ws 0 ||| 0x80000000 else word ws i)) ([] : Tab Word)
  vinIf d
    [(decide (ws.length ≠ 64), RC.BAD_LENGTH), (decide (d.mgt.otp.lc ≠ .provision), RC.NOT_IN_STATE),
     (src.isAcp, RC.NOT_PERMITTED), (bitOf (tabGet 0 d.mgt.otp.reg 0) 31, RC.LOCKED),
     (!rglPageOk ws, RC.BAD_VALUE)]
    ({ d with mgt := { d.mgt with otp := { d.mgt.otp with reg := page } } }, [])

/-- The number of a life-cycle state (R430). -/
def LifeCycle.num : LifeCycle → Nat
  | .raw => 0
  | .test => 1
  | .provision => 2
  | .field => 3
  | .ret => 4
  | .end_ => 5

/-- The state of a target number. -/
def lifeOf (n : Nat) : Option LifeCycle :=
  [LifeCycle.raw, .test, .provision, .field, .ret, .end_].find? (fun l => decide (l.num = n))

/-- The return token is good: the key's hash, not revoked, the present nonce, and the signature over UID, nonce and 0x04
(R431). -/
def Dev.tokenOk (d : Dev) (ws : List Word) : Bool :=
  let b := wordsBytes ws
  let k := (word ws 1).toNat
  let pub := (b.drop 8).take 97
  match d.mgt.nonce with
  | none => false
  | some n =>
    d.keyOk k pub && !d.keyRevoked k
      && Config.ecdsaOk pub ((b.drop 108).take 96) (Config.sha384 (wordsBytes (d.mgt.otp.uid ++ n) ++ [4])).toNat

/-- Only the transitions of R430 exist. -/
def Dev.lifeOk (d : Dev) (dest : LifeCycle) (ws : List Word) : Bool :=
  let o := d.mgt.otp
  match o.lc, dest with
  | .raw, .test => true
  | .test, .provision => true
  | .provision, .field =>
    rglPageOk ((List.range 64).map (fun i => tabGet 0 o.reg i)) && bitOf (tabGet 0 o.reg 0) 31 && !o.keys.isEmpty
  | .field, .ret => d.tokenOk ws
  | .end_, .end_ => false
  | _, .end_ => true
  | _, _ => false

/-- Entering RETURN or END erases the ACP key slots, the mesh key, the wireless key table and the encrypted journal items
(R430). -/
def Dev.eraseSecrets (d : Dev) : Dev :=
  let plain := fun (e : Nat × Word) => !decide (0x010080 ≤ e.1 ∧ e.1 < 0x010100)
  { d with hci := { d.hci with keys := [] }, msh := { d.msh with key := [] }, mld := { d.mld with keys := [] },
           mgt := { d.mgt with flash := { d.mgt.flash with
                                          journal := d.mgt.flash.journal.map (fun es => es.filter plain) } } }

/-- LC_ADVANCE (R430, R431): the fuses change, a record is written, and the device cold-boots after 10 ms. -/
def cmdLcAdvance (src : Src) (ws : List Word) (d : Dev) : Dev × Ans :=
  let w := word ws 0
  let dest := lifeOf (bitsOf w 2 0)
  let need := if bitsOf w 2 0 = 4 then 51 else 1
  let l := dest.getD .end_
  let d1 := d.blotter 0x030 0 0x0022 [wd d.mgt.otp.lc.num, wd l.num]
  let d2 : Dev := { d1 with mgt := { d1.mgt with otp := { d1.mgt.otp with lc := l }, nonce := none } }
  let d3 := if l = .ret ∨ l = .end_ then d2.eraseSecrets else d2
  vinIf d
    [(decide (ws.length ≠ need), RC.BAD_LENGTH), (src.isAcp, RC.NOT_PERMITTED),
     (extra w 7 || (decide (need = 51) && decide (((wordsBytes ws).drop 105).take 3 ≠ [0, 0, 0])), RC.BAD_VALUE),
     (dest.isNone || !d.lifeOk l ws, RC.NOT_PERMITTED)]
    (d3.resetAt (d3.tb + msT 10) 6, [])

/-- LC_NONCE: 16 bytes of the on-chip random source (R431). -/
def cmdLcNonce (ws : List Word) (d : Dev) : Dev × Ans :=
  let n := (List.range 4).map (fun i => wd (Config.freeNat (d.free + i)))
  cmdIf d [(decide (ws.length ≠ 0), RC.BAD_LENGTH)]
    ({ d with free := d.free + 4, mgt := { d.mgt with nonce := some n } }, n)

/-! Power-fail warning (R429, R437) -/

/-- R429, the MP's part: an update in progress is abandoned and its slot stays EMPTY (spec/20 R473), a POWER_FAIL record is written and its group
committed; an entry into SLEEP or DEEP turns round (R448). -/
def Dev.powerFail (d : Dev) (mv halted : Nat) : Dev :=
  let d1 := d.onMgt (fun m => { m with upd := if m.upd = .erasing ∨ m.upd = .receiving then .idle else m.upd,
                                       failCommit := true })
  let d2 := (d1.blotter 0x030 0 0x0003 [wd mv, wd halted]).bltKick true
  if d2.pmu.entering = some .sleep ∨ d2.pmu.entering = some .deep then d2.wake 1 else d2

/-- VIN_WARN: VM0 fell below WARN_MV. Flash writes and OTP programs stop and R429 runs. In SLEEP and DEEP only the cause is
set (R437). -/
def effVinWarn (mv : Nat) (d : Dev) : Dev :=
  let off := d.mgt.vinWarn || decide (d.fld A.PMU.VIN_CFG 15 0 ≤ mv) || decide (d.pmu.state = .held)
    || decide (d.pmu.state = .off)
  if off then d
  else
    let d1 := d.onMgt (fun m => { m with volts := m.volts.set 0 mv, vinWarn := true })
    let d2 := ((d1.count A.PMU.VIN_WARN_CNT).event 5).raise .pmu Cause.PMU.VIN_WARN
    if d.pmu.state = .sleep ∨ d.pmu.state = .deep then d2 else d2.powerFail mv (b2n d.flashActive)

/-- VIN_WARN_CLEAR: VM0 stayed above WARN_MV + 200 mV for 10 ms (R437). -/
def effVinWarnClear (mv : Nat) (d : Dev) : Dev :=
  if !d.mgt.vinWarn || decide (mv ≤ d.fld A.PMU.VIN_CFG 15 0 + 200) then d
  else
    let d1 := { d with mgt := { d.mgt with volts := d.mgt.volts.set 0 mv, vinWarn := false, failCommit := false } }
    (d1.lower .pmu Cause.PMU.VIN_WARN).bltKick false

/-! The MGT page -/

/-- What a write of an MGT register meets besides its fields' ranges: a DRAM window wholly beyond the fitted DRAM (R408);
WARN_C from 60 °C to 120 °C, HYST_C and LOG_CLASS stand in the table. -/
def mgtPre (o : Nat) (v : Word) (d : Dev) : List (Bool × Nat) :=
  if o = 0x048 then [(decide (d.dramMib ≤ 2048 * bitsOf v 3 0), RC.BAD_VALUE)] else []

/-- What follows a write of an MGT register. -/
def mgtPost (o : Nat) (d : Dev) : Dev :=
  if o = 0x04C then d.wdogKick else if o = 0x0B0 then d.tempWatch d.mgt.temps else d

/-- The code of a slot state (MGT registers). -/
def SlotState.code : SlotState → Nat
  | .empty => 0
  | .valid => 1
  | .trial => 2
  | .good => 3
  | .bad => 4

/-- The code of the update state (MGT registers). -/
def UpdState.code : UpdState → Nat
  | .idle => 0
  | .erasing => 1
  | .receiving => 2
  | .ready => 3
  | .failed => 4
  | .trial => 5

/-- The live registers of the MGT page. -/
def mgtLive (o : Nat) (d : Dev) : Option Word :=
  let m := d.mgt
  let slot (x : Slot) : Word := wd (x.state.code * 2 ^ 24 + x.gen % 2 ^ 24)
  if o = 0x060 then
    some (wd (m.bootCause * 2 ^ 16 + b2n m.unsigned * 2 ^ 8 + b2n m.warm * 2 ^ 7 + b2n m.slot * 16 + m.stage))
  else if o = 0x064 then some (wd m.otp.lc.num)
  else if 0x068 ≤ o ∧ o ≤ 0x074 then some (word m.otp.uid ((o - 0x068) / 4))
  else if o = 0x080 then some (wd (2 ^ 28 + 2 ^ 24 + m.upd.code))
  else if o = 0x088 then some (slot m.flash.slotA)
  else if o = 0x08C then some (slot m.flash.slotB)
  else if o = 0x090 then
    some (wd ((List.range 4).foldl (fun n k => n + b2n (tabFind m.otp.keys k).isSome * 2 ^ k
      + b2n (d.keyRevoked k) * 2 ^ (4 + k)) 0))
  else if o = 0x094 then some (wd m.otp.arb)
  else if o = 0x0A4 then some (wd m.nextSeq)
  else if o = 0x0A8 then some (wd m.commitSeq)
  else if 0x0C0 ≤ o ∧ o ≤ 0x0EC then some (wd (unsigned 16 (m.temps.getD ((o - 0x0C0) / 4) 0)))
  else if 0x100 ≤ o ∧ o ≤ 0x114 then some (wd (m.volts.getD ((o - 0x100) / 4) 0 % 65536))
  else if o = 0x118 then some (wd (m.iin % 65536))
  else if o = 0x11C then some (wd (min 65535 (m.volts.getD 0 0 * m.iin / 1000)))
  else none

/-- TEST_PORT_INSTRUCTION: EXTEST, internal scan and debug access only in RAW, TEST and RETURN; the rest in every state but
END; elsewhere the port selects BYPASS. IDCODE shifts out 0x1093_0A5F (spec/21 R489). -/
def effTestPortInstruction (i : PortInstr) (d : Dev) : Dev :=
  let lc := d.mgt.otp.lc
  let ok : Bool := match i with
    | .extest | .scan | .debug => decide (lc = .raw ∨ lc = .test ∨ lc = .ret)
    | _ => decide (lc ≠ .end_)
  let sel := if ok then i else .bypass
  let d1 := { d with port := sel }
  if sel = .idcode then d1.emit (.tdo 0x10930A5F) else d1

end Sys2Proof.Machine
end

