-- ==== Sys2Proof/Machine/Mesh.lean ====
section
/-! DEFINITION. The mesh: election, joining, leases, Relay, sleeping partners, dark periods, coordination groups
(spec/16_mesh.md). -/

namespace Sys2Proof.Machine

/-- The node counts as attached: JOINED or ROOT. -/
def Msh.attached (m : Msh) : Bool := decide (m.state = .joined ∨ m.state = .root)

/-- A root candidate: PRIO not 0 and a port of UPLINK with its link up (R381). -/
def Dev.isCandidate (d : Dev) : Bool := decide (d.fld A.MSH.ROOT_CFG 31 24 ≠ 0) && d.hasUplink

/-! Messages -/

/-- Send a link message to a neighbour; DEST is its address (R388; notes/assumptions/31.md). -/
def Dev.meshLink (d : Dev) (mac dest typ ver : Nat) (body : List Byte) : Dev :=
  let (d1, m) := d.meshNew typ 1 dest (some ver) body
  d1.meshPut (.link mac m)

/-- A VERSION this node may act on (R390). -/
def Dev.verOk (d : Dev) (v : Nat) : Bool := decide (d.minVer ≤ v ∧ v ≤ d.maxVer)

/-! The seen cache (R391, R392) -/

/-- Enter a key, replacing the oldest entry when the cache is full. -/
def Dev.seenAdd (d : Dev) (origin seq : Nat) : Dev :=
  let e : Seen := { origin := origin, seq := seq, copies := 1, at_ := d.tb }
  if 4096 ≤ d.msh.seen.length then
    ({ d with msh := { d.msh with seen := d.msh.seen.drop 1 ++ [e] } } : Dev).count A.MSH.SEEN_EVICT_CNT
  else { d with msh := { d.msh with seen := d.msh.seen ++ [e] } }

/-- The entry of a key that has not expired. -/
def Dev.seenFind (d : Dev) (origin seq : Nat) : Option Seen :=
  d.msh.seen.find? (fun e => decide (e.origin = origin ∧ e.seq = seq ∧ d.tb < e.at_ + sT 8))

/-! Scanning and joining -/

/-- Tune the mesh radio to an entry of the channel list (R383). -/
def Dev.tuneTo (d : Dev) (k : Nat) : Dev :=
  (d.tune d.meshRadio (d.rd (A.MSH.CHAN k))).onMsh (fun m => { m with scanIdx := k })

/-- Listen on an entry of the channel list for the dwell, after the channel change of 75 µs (R68, R383). -/
def Dev.dwell (d : Dev) (k : Nat) : Dev :=
  let d1 := d.tuneTo k
  d1.onMsh (fun m => { m with listenUntil := some (d1.tb + msT (d1.fld A.MSH.SCAN_CFG 31 16) + usT 75) })

/-- Start a pass of the channel list from its first entry (R383). -/
def Dev.startScan (d : Dev) : Dev :=
  d.withLinks (fun d =>
    ((d.onMsh (fun m => { m with state := .scan, parent := none, heard := [], target := none, reqDue := false, searchUntil := none,
                                 window := none, windowOpen := false, pull := false, nap := none, depth := 0xF })).count
      A.MSH.FULL_SCAN_CNT).dwell 0)

/-- The mesh BSS gets TSF offset 0 and TBTT offset (17 × address) mod the interval (R377). -/
def Dev.meshBssSet (d : Dev) : Dev :=
  let r := d.meshRadio
  let mc := d.mac.get r
  let d1 := { d with tmu := { d.tmu with tsfOfs := tabSet 0 d.tmu.tsfOfs (16 * r.num + d.meshBss) 0 } }
  match tabFind mc.bss d.meshBss with
  | none => d1
  | some b =>
    let b' := { b with offsetTu := 17 * d.msh.addr % d.meshTu }
    { d1 with mac := d1.mac.set r { mc with bss := tabPut mc.bss d.meshBss b' } }

/-- SEQ starts at a value of the random source after each reset, and goes on from there (R388). -/
def Dev.seedSeq (d : Dev) : Dev :=
  if d.msh.seeded then d else d.took.onMsh (fun m => { m with seq := d.freeVal 65536, seeded := true })

/-- The state of a node that is off: what the host has set, and what is kept across (R379, R388, R402). -/
def Msh.stopped (m : Msh) : Msh :=
  { Msh.reset with leases := m.leases, key := m.key, inbox := m.inbox, groups := m.groups, seq := m.seq, seeded := m.seeded }

/-- Start as MESH_CFG.EN is set: candidacy on the home channel, or a scan (R381, R383). -/
def Dev.meshStart (d : Dev) : Dev :=
  let d1 := (d.seedSeq.onMsh (fun m => { m.stopped with guardUs := d.guardCfg })).meshBssSet
  if d1.isCandidate then
    let d2 := d1.tuneTo (d1.fld A.MSH.ROOT_CFG 14 10)
    d2.onMsh (fun m => { m with state := .candidate, listenUntil := some (d2.tb + 3 * d2.meshTicks) })
  else d1.startScan

/-- Stop as EN is cleared: the node is off and unaddressed; its children's peers stay until the host deletes them. -/
def Dev.meshStop (d : Dev) : Dev := d.withLinks (fun d => d.onMsh Msh.stopped)

/-- A beacon of a node that may become the parent (R384). -/
def Dev.eligible (d : Dev) (b : MeshBeacon) : Bool :=
  decide (b.state = 4 ∨ b.state = 5) && b.admitting
    && (agree b.minVer b.maxVer d.minVer d.maxVer).isSome
    && decide (signed 8 (d.fld A.MSH.JOIN_CFG 31 24) ≤ b.rssi)

/-- One candidate parent is preferred to another: lowest depth, then highest RSSI, then lowest address (R384). -/
def betterParent (a b : MeshBeacon) : Bool :=
  decide (a.depth < b.depth ∨ (a.depth = b.depth ∧ (b.rssi < a.rssi ∨ (a.rssi = b.rssi ∧ a.addr < b.addr))))

/-- The preferred of the eligible nodes heard. -/
def Dev.bestParent (d : Dev) : Option MeshBeacon :=
  (d.msh.heard.filter d.eligible).foldl (fun o b => match o with
    | none => some b
    | some c => if betterParent b c then some b else some c) none

/-- Choose a parent among those heard: JOIN_REQ goes out after its next beacon; with none eligible the node listens on
(R384, R385). -/
def Dev.choose (d : Dev) : Dev :=
  match d.bestParent with
  | some b => { d with msh := { d.msh with state := if d.msh.state = .search then .search else .joining,
                                           target := some b, reqDue := true, listenUntil := none } }
  | none => { d with msh := { d.msh with target := none, reqDue := false, heard := [],
                                         listenUntil := if d.msh.state = .search then none
                                           else some (d.tb + d.meshTicks) } }

/-- The payload of JOIN_REQ: MAC, nonce, version range, held address (R385; notes/assumptions/31.md). -/
def joinBody (q : JoinReq) : List Byte :=
  natBytes 6 q.mac ++ natBytes 16 q.nonce ++ natBytes 1 (q.minVer + 16 * q.maxVer) ++ natBytes 2 q.held

/-- Send JOIN_REQ to the chosen parent with a fresh nonce (R385). -/
def Dev.joinSend (d : Dev) (b : MeshBeacon) : Dev :=
  let v := (agree b.minVer b.maxVer d.minVer d.maxVer).getD 1
  let q : JoinReq := { mac := d.nodeMac, nonce := d.freeVal (2 ^ 128), minVer := d.minVer, maxVer := d.maxVer,
                       held := d.msh.addr }
  let d1 := d.took.meshLink b.mac b.addr 0x01 v (joinBody q)
  let d2 := { d1 with msh := { d1.msh with nonce := q.nonce, reqAt := d1.tb, reqDue := false, target := some b } }
  d2.count A.MSH.JOIN_REQ_CNT

/-- Loss of the parent: cause, count and SEARCH for up to four intervals, listening; the address and the children stay (R399). -/
def Dev.parentLost (d : Dev) : Dev :=
  let d1 := d.onMsh (fun m => { m with state := .search, parent := none, heard := [], target := none, reqDue := false, reattach := true,
                                       bcnLoss := 0, window := none, windowOpen := false, pull := false, nap := none,
                                       searchUntil := some (d.tb + 4 * d.meshTicks) })
  ((d1.count A.MSH.PARENT_LOST_CNT).raise .msh Cause.MSH.PARENT_LOST).stateCmd d.meshRadio 3

/-! Floods -/

/-- The lowest address from `lo` up that no lease holds and, where asked, nobody claimed (R379). -/
def freeAddr (leases : Tab Lease) (claimed : List Nat) (lo : Nat) : Nat → Option Nat
  | 0 => none
  | n + 1 =>
    if lo = 0x3FF then none
    else if (tabFind leases lo).isNone && !claimed.contains lo then some lo
    else freeAddr leases claimed (lo + 1) n

/-- The address a MAC has a lease on. -/
def leaseOf (leases : Tab Lease) (mac : Nat) : Option Nat :=
  (leases.find? (fun e => decide (e.2.mac = mac))).map (fun e => e.1)

/-- The root answers one request: the held address when it is free or this MAC's, else the address it has, else the lowest
free one (R379). -/
def Dev.grantOne (d : Dev) (q : AddrReq) : Dev × Option GrantEnt :=
  let ls := d.msh.leases
  let claimed := if d.tb < d.msh.electedAt + sT d.leaseS then d.msh.claimed else []
  let heldOk := decide (1 ≤ q.held ∧ q.held ≤ 0x3FE) && (match tabFind ls q.held with
    | none => true
    | some l => decide (l.mac = q.mac))
  let addr := if heldOk then some q.held
    else match leaseOf ls q.mac with
      | some a => some a
      | none => freeAddr ls claimed 1 1022
  match addr with
  | none => (d, none)
  | some a =>
    ({ d with msh := { d.msh with leases := tabPut ls a { mac := q.mac, until_ := d.tb + sT d.leaseS } } },
     some { mac := q.mac, addr := a, leaseS := d.leaseS, changed := decide (a ≠ q.held) })

/-- Insert by ascending depth, behind those of the same depth (R386). -/
def byDepth (q : AddrReq) : List AddrReq → List AddrReq
  | [] => [q]
  | x :: xs => if q.depth < x.depth then q :: x :: xs else x :: byDepth q xs

/-- The payload of GRANT: 11 bytes an entry (R386; notes/assumptions/31.md). -/
def grantBody (gs : List GrantEnt) : List Byte :=
  (gs.map (fun g => natBytes 6 g.mac ++ natBytes 2 g.addr ++ natBytes 2 g.leaseS ++ natBytes 1 (b2n g.changed))).flatten

/-- The entries of a GRANT payload. -/
def grantParse : Nat → List Byte → List GrantEnt
  | 0, _ => []
  | n + 1, bs =>
    if bs.length < 11 then []
    else { mac := leNat (bs.take 6), addr := leNat ((bs.drop 6).take 2), leaseS := leNat ((bs.drop 8).take 2),
           changed := decide (byteAt bs 10 % 2 = 1) } :: grantParse n (bs.drop 11)

/-- The pairwise key of a mesh link: HMAC-SHA-256 of both MACs and both nonces under the mesh key (R377). -/
def linkKey (key : List Word) (mac1 mac2 n1 n2 : Nat) : List Word :=
  bytesWords (natBytes 32 (Config.hmac key (natBytes 6 mac1 ++ natBytes 6 mac2 ++ natBytes 16 n1 ++ natBytes 16 n2)).toNat)

/-- Enter a mesh peer as a single-link station with its pairwise key, GCMP-256 (R377). -/
def Dev.peerEnter (d : Dev) (i mac : Nat) (key : List Word) : Dev :=
  let r := d.meshRadio
  let bit := 2 ^ r.num
  let st : Station := { apMld := 0, links := bit, mld := false, maxLen := 0, addr := mac,
                        addrs := (⟨0, 0, 0⟩ : Tri Nat).set r mac,
                        map := (List.range 8).foldl (fun m t => m + bit * 8 ^ t) 0, powerSave := false }
  let d1 := d.staEnter i st
  let slot : KeySlot := { cipher := 4, txEn := true, rxEn := true, key := key, txPn := 0, rxPn := List.replicate 9 0 }
  { d1 with mld := { d1.mld with keys := tabPut d1.mld.keys (2 * i) slot } }

/-- The lowest free peer index for a child; the first index is the parent's (R377). -/
def Dev.childIndex (d : Dev) : Nat :=
  let first := d.fld A.MSH.MESH_CFG 9 0
  (((List.range 32).map (fun i => first + 1 + i)).find? (fun i =>
    !(d.msh.children.any (fun c => decide (c.sta = i))))).getD (first + 1)

/-- A GRANT entry for a request this node admitted within JOIN_TIMEOUT intervals: JOIN_ACCEPT, and the node is a child; one who would be
a child beyond MAX_CHILD is not accepted (R385, R387; notes/assumptions/31.md). -/
def Dev.acceptChild (d : Dev) (g : GrantEnt) : Dev :=
  match d.msh.admitted.find? (fun a => decide (a.req.mac = g.mac)) with
  | none => d
  | some a =>
    let d0 := { d with msh := { d.msh with admitted := d.msh.admitted.filter (fun x => decide (x.req.mac ≠ g.mac)) } }
    let known := d.msh.children.any (fun c => decide (c.mac = g.mac))
    if a.at_ + d.fld A.MSH.JOIN_CFG 11 8 * d.meshTicks < d.tb ∨ (!known && decide (d.fld A.MSH.JOIN_CFG 5 0 ≤ d.msh.children.length)) then d0
    else
      let nonce := d0.freeVal (2 ^ 128)
      let d1 := d0.took.meshLink g.mac g.addr 0x02 a.version (natBytes 2 g.addr ++ natBytes 16 nonce)
      let others := d1.msh.children.filter (fun c => decide (c.mac ≠ g.mac))
      let i := match d1.msh.children.find? (fun c => decide (c.mac = g.mac)) with
        | some c => c.sta
        | none => d1.childIndex
      let c : Child := { mac := g.mac, addr := g.addr, version := a.version, sta := i, listen := 0, heard := d1.tb }
      ({ d1 with msh := { d1.msh with children := others ++ [c] } } : Dev).peerEnter i g.mac
        (linkKey d1.msh.key d1.nodeMac g.mac nonce a.req.nonce)

/-- A GRANT entry for this node: the lease is renewed, and a changed address is taken (R379). -/
def Dev.ownGrant (d : Dev) (g : GrantEnt) : Dev :=
  if d.msh.state = .joined ∧ g.mac = d.nodeMac then
    let d1 := { d with msh := { d.msh with ownLease := some (d.tb + sT g.leaseS) } }
    if g.addr = d.msh.addr then d1
    else (({ d1 with msh := { d1.msh with addr := g.addr } } : Dev).meshBssSet).raise .msh Cause.MSH.ADDR_CHANGED
  else d

/-- MSH consumes a GRANT (R385, R386). -/
def Dev.grantRx (d : Dev) (bs : List Byte) : Dev :=
  (grantParse 64 bs).foldl (fun d g => (d.acceptChild g).ownGrant g) d

/-- A DARK flood is recorded when it comes at least 1 s before its start, with a duration from 1 s to 86,400 s (R400). -/
def Dev.darkRx (d : Dev) (bs : List Byte) : Dev :=
  let start := (leNat (bs.take 6) * 1000000000 + leNat ((bs.drop 6).take 4)) * 2 ^ 32
  let dur := leNat ((bs.drop 10).take 4)
  if outside dur 1 86400 || decide (start < d.tmu.ptp + 1000000000 * 2 ^ 32) || d.msh.dark.isSome then d
  else { d with msh := { d.msh with dark := some { start := start, stop := start + dur * 1000000000 * 2 ^ 32,
                                                   started := false, targets := [], retryAt := none } } }

/-- GROUP_SET on a node with COORD_EN (R402). -/
def Dev.groupRx (d : Dev) (bs : List Byte) : Dev :=
  let w := leNat (bs.take 4)
  let g := w % 65536
  let r := w / 65536 % 4
  let n := w / 2 ^ 24 % 256
  let seq := leNat ((bs.drop 4).take 2)
  let members := (List.range n).map (fun i => leNat ((bs.drop (6 + 2 * i)).take 2))
  let fresh := match tabFind d.msh.groups g with
    | none => true
    | some old => newer16 seq old
  if !d.bit A.MSH.MESH_CFG 30 || !fresh || decide (2 < r) || outside n 1 16 then d
  else
    let d1 := { d with msh := { d.msh with groups := tabPut d.msh.groups g seq } }
    if members.contains d.msh.addr then
      (d1.wr (A.ASC.HEAT_CFG r) (putBits (d1.rd (A.ASC.HEAT_CFG r)) 15 0 g)).wr A.ASC.HEAT_CTRL
        (d1.rd A.ASC.HEAT_CTRL ||| oneBit r)
    else if d1.fld (A.ASC.HEAT_CFG r) 15 0 = g then d1.wr A.ASC.HEAT_CTRL (d1.rd A.ASC.HEAT_CTRL &&& ~~~ oneBit r)
    else d1

/-- Deliver a flood to its consumer (R389, R391). ROOT_RESIGN: the node keeps its address and parent (R382). -/
def Dev.consume (d : Dev) (m : MeshMsg) : Dev :=
  if m.typ = 0x05 then d.grantRx m.payload
  else if m.typ = 0x08 then d.inboxAdd m
  else if m.typ = 0x11 then d.darkRx m.payload
  else if m.typ = 0x20 then d.heatPlanRx m.payload
  else if m.typ = 0x21 then d.groupRx m.payload
  else d

/-- Originate a flood: its key is seen first, then it is delivered to the node itself, then sent (R391). -/
def Dev.flood (d : Dev) (typ ttl : Nat) (body : List Byte) : Dev :=
  let (d1, m) := d.meshNew typ ttl 0x3FF none body
  ((d1.seenAdd m.origin m.seq).consume m).meshPut (.flood m)

/-- Insert a forward in order of its due time. -/
def insForward (t : Nat) (m : MeshMsg) : List (Nat × MeshMsg) → List (Nat × MeshMsg)
  | [] => [(t, m)]
  | x :: xs => if t < x.1 then (t, m) :: x :: xs else x :: insForward t m xs

/-- Relay receives a flood (R391). -/
def Dev.floodRx (d : Dev) (m : MeshMsg) : Dev :=
  if !d.msh.attached then d
  else if !d.verOk m.version then d.count A.MSH.VER_REJECT_CNT
  else match d.seenFind m.origin m.seq with
    | some _ =>
      let seen := d.msh.seen.map (fun e =>
        if e.origin = m.origin ∧ e.seq = m.seq then { e with copies := e.copies + 1 } else e)
      ({ d with msh := { d.msh with seen := seen } } : Dev).count A.MSH.RELAY_DUP_CNT
    | none =>
      let d1 := ((d.seenAdd m.origin m.seq).count A.MSH.RELAY_RX_CNT).consume m
      if m.ttl ≤ 1 then d1
      else
        let t := d1.tb + usT (d1.freeVal (d1.fld A.MSH.RELAY_CFG 31 16 + 1))
        let d2 := d1.took
        { d2 with msh := { d2.msh with forwards := insForward t m d2.msh.forwards } }

/-! The events -/

/-- The root gives up: ROOT_RESIGN floods, cause ROOT_CHANGE, and it joins as a node (R382). -/
def Dev.resign (d : Dev) : Dev :=
  let d1 := (d.flood 0x07 d.maxDepth []).raise .msh Cause.MSH.ROOT_CHANGE
  ({ d1 with msh := { d1.msh with addr := 0x3FF, uplinkLost := none, requests := [] } } : Dev).startScan

/-- A beacon is better than this candidate: CANDIDATE of higher PRIO, or equal PRIO and lower MAC; or ROOT of at least its
PRIO (R381). -/
def Dev.endsCandidacy (d : Dev) (b : MeshBeacon) : Bool :=
  let p := d.fld A.MSH.ROOT_CFG 31 24
  (decide (b.state = 1) && decide (p < b.prio ∨ (b.prio = p ∧ b.mac < d.nodeMac)))
    || (decide (b.state = 5) && decide (p ≤ b.prio))

/-- A beacon makes the root resign: ROOT or CANDIDATE of strictly higher PRIO, or ROOT of equal PRIO and lower MAC (R382). -/
def Dev.endsRoot (d : Dev) (b : MeshBeacon) : Bool :=
  let p := d.fld A.MSH.ROOT_CFG 31 24
  (decide (b.state = 1 ∨ b.state = 5) && decide (p < b.prio))
    || (decide (b.state = 5) && decide (b.prio = p ∧ b.mac < d.nodeMac))

/-- Note a beacon among those heard, in place of an earlier one of the same node. -/
def Dev.hear (d : Dev) (b : MeshBeacon) : Dev :=
  { d with msh := { d.msh with heard := b :: d.msh.heard.filter (fun x => decide (x.mac ≠ b.mac)) } }

/-- The parent's beacon on a joined node: RSSI and time state noted, the loss count starts again; in an open window it
counts as received, and a QoS Null tells the parent that the child is awake (R395, R396, R398). -/
def Dev.parentBeacon (d : Dev) (b : MeshBeacon) : Dev :=
  if d.maxDepth ≤ b.depth then d.parentLost
  else
    let m := d.msh
    let g := max d.guardCfg (m.guardUs / 2)
    let m1 := { m with parentRssi := b.rssi, depth := b.depth + 1, bcnLoss := 0, parentLocked := b.locked,
                       parentHops := b.hops, rootMac := b.rootMac, parentInterval := b.intervalTu }
    if m.windowOpen then (d.onMsh (fun _ => { m1 with windowGot := true, guardUs := g, misses := 0 })).meshPut (.null b.mac)
    else d.onMsh (fun _ => m1)

/-- A child was heard. -/
def Dev.childHeard (d : Dev) (mac : Nat) : Dev :=
  { d with msh := { d.msh with children := d.msh.children.map (fun c =>
    if c.mac = mac then { c with heard := d.tb } else c) } }

/-- MESH_BEACON_RX (R381 to R385, R395, R399). A beacon of another mesh is nothing. -/
def effMeshBeaconRx (b : MeshBeacon) (d : Dev) : Dev :=
  if !d.meshOn || decide (b.meshId ≠ (d.rd A.MSH.MESH_ID).toNat) then d
  else
    let d := d.childHeard b.mac
    match d.msh.state with
    | .off => d
    | .candidate => if d.endsCandidacy b then d.startScan else d
    | .root => if d.endsRoot b then d.resign else d
    | .scan =>
      let d1 := d.hear b
      d1.withLinks (fun d => d.onMsh (fun m => { m with state := .joining, listenUntil := some (d.tb + d.meshTicks) }))
    | .joining | .search =>
      let d1 := d.hear b
      match d1.msh.target with
      | some t => if d1.msh.reqDue && decide (t.mac = b.mac) then d1.joinSend b else d1
      | none => if d1.msh.state = .search ∧ d1.eligible b then d1.choose else d1
    | .joined => if d.msh.parent.isSome ∧ b.mac = d.msh.parentMac then d.parentBeacon b else d

/-- CANDIDATE_LISTEN_END: three intervals passed without a better node; the candidate is the root, where the Up messages
it holds arrive (R381, R393). -/
def effCandidateListenEnd (d : Dev) : Dev :=
  match d.msh.state, d.msh.listenUntil with
  | .candidate, some t =>
    let d := d.at_ t
    let m := { d.msh with state := .root, addr := 0, depth := 0, parent := none, listenUntil := none, leases := [],
                          claimed := [], requests := [], electedAt := d.tb, rootMac := d.nodeMac,
                          uplinkLost := none, ownLease := none, ftmFast := true, grantSlot := none, upHeld := [] }
    let d1 := ({ d with msh := m } : Dev).meshBssSet.raise .msh Cause.MSH.ROOT_CHANGE
    d.msh.upHeld.foldl (fun d m => d.sendUp m) d1
  | _, _ => d

/-- UPLINK_HOLD_EXPIRY: a root that has had no uplink for UPLINK_HOLD_S resigns (R382). -/
def effUplinkHoldExpiry (d : Dev) : Dev :=
  match d.msh.uplinkLost with
  | some t => if d.msh.state = .root ∧ !d.hasUplink then (d.at_ (t + sT (d.fld A.MSH.ROOT_CFG 23 16))).resign else d
  | none => d

/-- SCAN_DWELL_EXPIRY: on to the next entry of the list; a new pass of the list is counted (R383). -/
def effScanDwellExpiry (d : Dev) : Dev :=
  match d.msh.state, d.msh.listenUntil with
  | .scan, some t =>
    let d := d.at_ t
    if d.msh.scanIdx + 1 < d.fld A.MSH.SCAN_CFG 4 0 then
      d.dwell (d.msh.scanIdx + 1)
    else d.startScan
  | _, _ => d

/-- PARENT_LISTEN_END: the interval on the channel has passed; the node chooses (R384). -/
def effParentListenEnd (d : Dev) : Dev :=
  match d.msh.state, d.msh.listenUntil with
  | .joining, some t => (d.at_ t).choose
  | _, _ => d

/-- JOIN_REQ_RX at a node (R385, R390). `ver`: the VERSION of the message. -/
def effJoinReqRx (ver : Nat) (q : JoinReq) (d : Dev) : Dev :=
  if !d.meshOn then d
  else if !d.verOk ver then d.count A.MSH.VER_REJECT_CNT
  else match agree q.minVer q.maxVer d.minVer d.maxVer with
    | none => d.count A.MSH.VER_REJECT_CNT
    | some v =>
      if !d.msh.attached || !d.admitting then d
      else
        let now := if d.msh.admitSlot = d.ownInterval then d.msh.admittedNow else 0
        if 8 ≤ now then d.meshLink q.mac q.held 0x03 v []
        else
          let a : Admitted := { req := q, version := v, at_ := d.tb }
          let m := { d.msh with admitted := d.msh.admitted.filter (fun x => decide (x.req.mac ≠ q.mac)) ++ [a],
                                admitSlot := d.ownInterval, admittedNow := now + 1 }
          ({ d with msh := m } : Dev).originateUp 0x04
            (reqBody { mac := q.mac, held := q.held, depth := d.msh.depth + 1 })

/-- The parent's SLEEP_SCHED: L and the PTP time of the first wake TBTT (R396). Answers the tick of that TBTT. -/
def Dev.sleepSched (d : Dev) (l : Nat) : Nat × Dev :=
  let t := d.nextTbtt (d.msh.parent.getD 0) l
  (t, d.meshLink d.msh.parentMac (d.msh.parent.getD 0x3FF) 0x10 d.msh.parentVer (natBytes 2 l ++ natBytes 8 (d.ptpAt t / 1000)))

/-- Partner sleep resumes with its L at the new parent (R399). -/
def Dev.sleepAgain (d : Dev) : Dev :=
  if d.msh.listen = 0 ∨ d.msh.parentVer < 2 then d
  else
    let (t, d1) := d.sleepSched d.msh.listen
    (d1.onMsh (fun m => { m with misses := 0, guardUs := d.guardCfg, windowOpen := false, window := some t })).partnerNap

/-- JOIN_ACCEPT_RX: taken only from the parent of the latest JOIN_REQ (R385, R387). -/
def effJoinAcceptRx (ver mac addr nonce : Nat) (d : Dev) : Dev :=
  if !d.meshOn then d
  else if !d.verOk ver then d.count A.MSH.VER_REJECT_CNT
  else match d.msh.target with
    | none => d
    | some b =>
      if b.mac ≠ mac ∨ d.msh.reqDue then d
      else
        let changed := decide (addr ≠ d.msh.addr)
        let again := d.msh.reattach
        let m := { d.msh with state := .joined, addr := addr, depth := b.depth + 1, parent := some b.addr,
                              parentMac := b.mac, parentVer := (agree b.minVer b.maxVer d.minVer d.maxVer).getD 1,
                              parentRssi := b.rssi, parentInterval := b.intervalTu, parentLocked := b.locked,
                              parentHops := b.hops, rootMac := b.rootMac, target := none, reqDue := false,
                              reattach := false, bcnLoss := 0, searchUntil := none, listenUntil := none,
                              ownLease := some (d.tb + sT d.leaseS), renewAt := d.tb, ftmFast := true, upHeld := [] }
        let d1 := { d with msh := m }
        let d2 := d1.peerEnter (d1.fld A.MSH.MESH_CFG 9 0) b.mac (linkKey d1.msh.key b.mac d1.nodeMac nonce d1.msh.nonce)
        let d3 := (d.msh.upHeld.foldl (fun d m => d.sendUp m) d2.meshBssSet).sleepAgain
        let d4 := if again then d3.count A.MSH.REATTACH_CNT else d3
        if changed then d4.raise .msh Cause.MSH.ADDR_CHANGED else d4

/-- JOIN_WAIT_RX: the node asks again after its parent's next beacon (R385). -/
def effJoinWaitRx (ver mac : Nat) (d : Dev) : Dev :=
  if !d.meshOn then d
  else if !d.verOk ver then d.count A.MSH.VER_REJECT_CNT
  else match d.msh.target with
    | some b => if b.mac = mac then { d with msh := { d.msh with reqDue := true } } else d
    | none => d

/-- JOIN_TIMEOUT: no JOIN_ACCEPT within JOIN_TIMEOUT intervals; the node chooses again (R387). -/
def effJoinTimeout (d : Dev) : Dev :=
  match d.msh.target with
  | some _ =>
    if d.msh.reqDue ∨ ¬ (d.msh.state = .joining ∨ d.msh.state = .search) then d
    else
      let d := d.at_ (d.msh.reqAt + d.fld A.MSH.JOIN_CFG 11 8 * d.meshTicks)
      (d.count A.MSH.JOIN_RETRY_CNT).choose
  | none => d

/-- ADDR_REQ_RX and UP_MESSAGE_RX: an Up message arrives (R386, R390, R393). -/
def effUpMessageRx (m : MeshMsg) (d : Dev) : Dev :=
  if !d.meshOn then d
  else if !d.verOk m.version then d.count A.MSH.VER_REJECT_CNT
  else if d.msh.state = .root then d.upConsume m
  else if m.ttl ≤ 1 then d
  else d.sendUp { m with ttl := m.ttl - 1 }

/-- GRANT_SEND: just after the root's beacon, at most once in a beacon interval, up to 64 pending requests are answered in one GRANT
(R386). -/
def effGrantSend (d : Dev) : Dev :=
  if d.msh.state ≠ .root ∨ d.msh.requests = [] ∨ d.msh.grantSlot = some d.ownInterval then d
  else
    let sorted := d.msh.requests.foldl (fun l q => byDepth q l) []
    let d1 := d.onMsh (fun m => { m with requests := sorted.drop 64, grantSlot := some d.ownInterval })
    let res := (sorted.take 64).foldl (fun (acc : Dev × List GrantEnt) q =>
      let (d', g) := acc.1.grantOne q
      (d', acc.2 ++ g.toList)) (d1, [])
    (res.1.flood 0x05 d.maxDepth (grantBody res.2)).count A.MSH.GRANT_TX_CNT

/-- LEASE_RENEW_TIMER: every LEASE_S / 2 a node asks the root to renew its lease (R379). -/
def effLeaseRenewTimer (d : Dev) : Dev :=
  if d.msh.state = .joined ∨ d.msh.state = .search then
    let d := d.at_ (d.msh.renewAt + sT d.leaseS / 2)
    (d.onMsh (fun m => { m with renewAt := d.tb })).originateUp 0x06 (reqBody { mac := d.nodeMac, held := d.msh.addr, depth := d.msh.depth })
  else d

/-- LEASE_EXPIRY at an address of the root's table: the lease is freed and counted. `none`: this node's own lease, which
it gives up while it cannot reach the root, to join afresh (R379). -/
def effLeaseExpiry (addr : Option Nat) (d : Dev) : Dev :=
  match addr with
  | some a => match tabFind d.msh.leases a with
    | some l =>
      if d.msh.state ≠ .root then d
      else
        let d := d.at_ l.until_
        ({ d with msh := { d.msh with leases := tabDel d.msh.leases a } } : Dev).count A.MSH.LEASE_EXPIRE_CNT
    | none => d
  | none => match d.msh.ownLease with
    | some t =>
      if d.msh.state = .root ∨ d.msh.state = .off then d
      else
        let d := d.at_ t
        (({ d with msh := { d.msh with addr := 0x3FF, ownLease := none, reattach := false } } : Dev).raise .msh
          Cause.MSH.ADDR_CHANGED).startScan
    | none => d

/-- RELAY_FORWARD: the forward due first is sent with TTL − 1, or suppressed (R391). -/
def effRelayForward (d : Dev) : Dev :=
  match d.msh.forwards with
  | [] => d
  | (t, m) :: rest =>
    let d := d.at_ t
    let d1 : Dev := { d with msh := { d.msh with forwards := rest } }
    let copies : Nat := ((d1.seenFind m.origin m.seq).map (fun e => e.copies)).getD 0
    let supp := d1.fld A.MSH.RELAY_CFG 3 0
    if d1.msh.children = [] ∧ 0 < supp ∧ supp ≤ copies then d1.count A.MSH.RELAY_SUPPR_CNT
    else (d1.meshPut (.flood { m with ttl := m.ttl - 1 })).count A.MSH.RELAY_FWD_CNT

/-- SEEN_EXPIRY: the oldest entry leaves the cache 8 s after its insertion (R392). -/
def effSeenExpiry (d : Dev) : Dev :=
  match d.msh.seen with
  | [] => d
  | e :: rest => let d := d.at_ (e.at_ + sT 8); { d with msh := { d.msh with seen := rest } }

/-- PARENT_BEACON_LOSS: one more TBTT of the parent passed without its beacon; the third in a row is the loss of the
parent (R395). -/
def effParentBeaconLoss (d : Dev) : Dev :=
  if d.msh.state ≠ .joined then d
  else if 2 ≤ d.msh.bcnLoss then d.parentLost
  else { d with msh := { d.msh with bcnLoss := d.msh.bcnLoss + 1 } }

/-- SLEEP_SCHED_RX: the parent treats its child as a station in power save, or awake again with L 0 (R396). -/
def effSleepSchedRx (ver mac l : Nat) (d : Dev) : Dev :=
  if !d.verOk ver then d.count A.MSH.VER_REJECT_CNT
  else match d.msh.children.find? (fun c => decide (c.mac = mac)) with
    | none => d
    | some c =>
      ((d.onMsh (fun m => { m with children := m.children.map (fun x => if x.mac = mac then { x with listen := l } else x) })).childHeard
        mac).setPs c.sta (decide (l ≠ 0))

/-- SLEEP_SET: the listen interval L; an awake child sleeps from here on, and L 0 ends partner sleep (R396). -/
def cmdSleepSet (ws : List Word) (d : Dev) : Dev × Ans :=
  let l := bitsOf (word ws 0) 15 0
  let m := d.msh
  let (t, d1) := if m.parent.isSome then d.sleepSched l else (0, d)
  let d2 := d1.onMsh (fun x => { x with listen := l, misses := 0, guardUs := d.guardCfg, windowOpen := false, pull := false, nap := none,
                                        window := if l = 0 then none else some t })
  cmdIf d
    [(decide (ws.length ≠ 1), RC.BAD_LENGTH), (extra (word ws 0) 0xFFFF, RC.BAD_VALUE),
     (decide (m.children ≠ []) || decide (m.state = .root), RC.NOT_IN_STATE),
     (decide ((if m.parent.isSome then m.parentVer else 0) < 2), RC.VERSION),
     (decide (d.guardCfg * 1000000 < l * d.meshTu * 1024 * 5 + 1000000), RC.BAD_VALUE)]
    (if l = 0 then d2.stateCmd d.meshRadio 3 else d2.partnerNap, [])

/-- The device enters the state a nap asked for once the radios that must be are in Sleep: the mesh radio for partner sleep, every
present one in a dark period (R397, R401). -/
def Dev.napTry (d : Dev) : Dev :=
  match d.msh.nap with
  | none => d
  | some p =>
    let asleep (r : Radio) : Bool := decide ((d.rfe.get r).cur = .sleep) || decide (d.chains r = 0)
    let dark := d.msh.dark.any (fun k => k.started)
    if (if dark then asleep .a && asleep .b && asleep .c else asleep d.meshRadio) && decide (d.pmu.state = .run) then
      (d.onMsh (fun m => { m with nap := none })).tryEnter p
    else d

/-- WAKE_WINDOW_OPEN: the window opens g before the parent's TBTT. A radio in Sleep is set on its way so early that it is in Receive by
then (R397). -/
def effWakeWindowOpen (d : Dev) : Dev :=
  match d.msh.window with
  | some t =>
    if d.msh.state ≠ .joined ∨ d.msh.windowOpen ∨ d.pmu.state ≠ .run then d
    else
      let lead := if (d.rfe.get d.meshRadio).cur = .sleep then d.riseTicks d.meshRadio else 0
      let d := d.at_ (t - usT d.msh.guardUs - lead)
      (d.onMsh (fun m => { m with windowOpen := true, windowGot := false, nap := none })).stateCmd d.meshRadio 3
  | none => d

/-- WAKE_WINDOW_CLOSE: with the beacon received the child sleeps for L intervals, once its parent has no more frames for it; without it
that is a miss, g doubles up to 8 × GUARD_US and the next TBTT is tried; three misses lose the parent (R396 to R399). -/
def effWakeWindowClose (d : Dev) : Dev :=
  match d.msh.window with
  | some t =>
    if !d.msh.windowOpen then d
    else
      let d := d.at_ (t + usT (d.msh.guardUs + d.fld A.MSH.SLEEP_CFG 15 0))
      let par := d.msh.parent.getD 0
      if d.msh.windowGot then
        let next := d.nextTbtt par (d.msh.listen - 1)
        let d1 := d.onMsh (fun m => { m with windowOpen := false, windowGot := false, window := if m.listen = 0 then none else some next })
        if d1.msh.pull then d1 else d1.partnerNap
      else
        let d1 := d.count A.MSH.WIN_MISS_CNT
        let d2 := d1.onMsh (fun m => { m with windowOpen := false, misses := m.misses + 1, guardUs := min (8 * d1.guardCfg) (2 * m.guardUs),
                                              window := some (d1.nextTbtt par 0) })
        if 3 ≤ d2.msh.misses then d2.parentLost else d2.partnerNap
  | none => d

/-- SEARCH_TIMEOUT: no eligible parent in four intervals; the node leaves the channel and scans (R399). -/
def effSearchTimeout (d : Dev) : Dev :=
  match d.msh.state, d.msh.searchUntil with
  | .search, some t => if d.msh.target.isSome then d else (d.at_ t).startScan
  | _, _ => d

/-- CHILD_TIMEOUT: a child not heard for 3 × L + 3 intervals is removed with STA_DEL (R399). -/
def effChildTimeout (mac : Nat) (d : Dev) : Dev :=
  match d.msh.children.find? (fun c => decide (c.mac = mac)) with
  | none => d
  | some c =>
    let d := d.at_ (c.heard + (3 * c.listen + 3) * d.meshTicks)
    (({ d with msh := { d.msh with children := d.msh.children.filter (fun x => decide (x.mac ≠ mac)) } } : Dev).staDelete
      c.sta).count A.MSH.CHILD_LOST_CNT

/-- A radio of a dark period goes to Sleep, and with all of them there the device enters DEEP until the end of the period; until that
succeeds it is tried again every 1 s (R400, R401). -/
def Dev.darkSleep (d : Dev) (k : Dark) : Dev :=
  let d1 := ([Radio.a, .b, .c].foldl (fun d r => d.stateCmd r 0) d).wakeAt (d.tickAt (k.stop / 2 ^ 32))
  (d1.onMsh (fun m => { m with nap := some .deep, dark := some { k with retryAt := some (d.tb + sT 1) } })).napTry

/-- DARK_START: the queues are drained, every radio's target is Sleep, and the device enters DEEP. A node that is not JOINED or ROOT then,
or sees the start only after the end, lets the period pass (R400, R401). -/
def effDarkStart (d : Dev) : Dev :=
  match d.msh.dark with
  | some k =>
    if k.started || decide (d.pmu.state ≠ .run) then d
    else
      let d := d.at_ (d.tickAt (k.start / 2 ^ 32))
      if !d.msh.attached || decide (k.stop ≤ d.tmu.ptp) then d.onMsh (fun m => { m with dark := none })
      else d.flushAll.darkSleep { k with started := true, targets := [Radio.a, .b, .c].map (fun r => d.rd (A.RFE.STATE_CMD r)) }
  | none => d

/-- DARK_RETRY: the DEEP entry was refused or is still waiting for a radio, and is tried again (R401). -/
def effDarkRetry (d : Dev) : Dev :=
  match d.msh.dark with
  | some k => match k.retryAt with
    | some t =>
      if !k.started || decide (d.pmu.state ≠ .run) || d.pmu.entering.isSome then d
      else (d.at_ t).darkSleep k
    | none => d
  | none => d

/-- DARK_END: the radios' targets come back, the FTM start period runs, and a child's first window opens with
g = max(GUARD_US, 10 ppm × d + 2 µs), or it searches at once when that exceeds 8 × GUARD_US (R400, R401). -/
def effDarkEnd (d : Dev) : Dev :=
  match d.msh.dark with
  | some k =>
    if !k.started || decide (d.pmu.state ≠ .run) then d
    else
      let d := d.at_ (d.tickAt (k.stop / 2 ^ 32))
      let durS := (k.stop - k.start) / (1000000000 * 2 ^ 32)
      let g := max d.guardCfg (10 * durS + 2)
      let d1 := ([Radio.a, .b, .c].zip k.targets).foldl (fun d e => d.stateCmd e.1 (bitsOf e.2 2 0)) d
      let d2 := d1.onMsh (fun m => { m with dark := none, nap := none, ftmFast := true })
      if d2.msh.state ≠ .joined then d2
      else if 8 * d2.guardCfg < g then d2.parentLost
      else d2.onMsh (fun m => { m with guardUs := g, window := some (d2.nextTbtt (m.parent.getD 0) 0), windowOpen := false })
  | none => d

/-- FLOOD_SEND: one chunk of up to 1,016 bytes; with the last one the flood goes out (MSH page commands). -/
def cmdFloodSend (ws : List Word) (d : Dev) : Dev × Ans :=
  let w0 := word ws 0
  let typ := bitsOf w0 7 0
  let ttl := bitsOf w0 11 8
  let chunk := bitsOf w0 23 16
  let total := bitsOf (word ws 1) 15 0
  let bytes := wordsBytes (ws.drop 2)
  let want := min 1016 (total - 1016 * chunk)
  let last := decide (total ≤ 1016 * (chunk + 1))
  let old := match d.msh.floodHdr with
    | some h => if h = (typ, ttl, total) ∧ chunk ≠ 0 then d.msh.floodChunks else []
    | none => []
  let chunks := tabPut old chunk (bytes.take want)
  let whole := (List.range (chunk + 1)).all (fun i => (tabFind chunks i).isSome)
  let body := (chunks.map (fun e => e.2)).flatten
  cmdIf d
    [(decide (ws.length < 2 ∨ 256 < ws.length) || decide (bytes.length < want ∨ want + 3 < bytes.length), RC.BAD_LENGTH),
     (!d.msh.attached, RC.NOT_IN_STATE),
     (extra w0 0x00FF0FFF || extra (word ws 1) 0xFFFF || !([0x08, 0x11, 0x20, 0x21].contains typ)
       || decide (ttl = 0) || decide (1400 < total) || decide (total ≠ 0 ∧ total ≤ 1016 * chunk) || !whole,
      RC.BAD_VALUE)]
    (if last then ({ d with msh := { d.msh with floodHdr := none, floodChunks := [] } } : Dev).flood typ ttl body
     else { d with msh := { d.msh with floodHdr := some (typ, ttl, total), floodChunks := chunks } },
     if last then [wd d.msh.seq] else [])

/-- LEASE_GET: MAC in two words and the seconds left (R379). -/
def cmdLeaseGet (ws : List Word) (d : Dev) : Dev × Ans :=
  let a := bitsOf (word ws 0) 9 0
  cmdIf d
    [(decide (ws.length ≠ 1), RC.BAD_LENGTH), (decide (d.msh.state ≠ .root), RC.NOT_IN_STATE),
     (extra (word ws 0) 0x3FF, RC.BAD_VALUE)]
    (d, match tabFind d.msh.leases a with
      | some l => [wd l.mac, wd (l.mac / 2 ^ 32), wd ((l.until_ - d.tb) / sT 1)]
      | none => [0, 0, 0])

/-- MESH_KEY_SET: the 32-byte mesh key; refused over ACP (R377). -/
def cmdMeshKeySet (src : Src) (ws : List Word) (d : Dev) : Dev × Ans :=
  cmdIf d [(decide (ws.length ≠ 8), RC.BAD_LENGTH), (src.isAcp, RC.NOT_PERMITTED)]
    ({ d with msh := { d.msh with key := ws } }, [])

/-- MSG_GET: the oldest inbox entry (notes/assumptions/31.md for the layout of its reply). -/
def cmdMsgGet (ws : List Word) (d : Dev) : Dev × Ans :=
  match d.msh.inbox with
  | [] => (d, Ans.err (refuse [(decide (ws.length ≠ 0), RC.BAD_LENGTH), (true, RC.NOT_IN_STATE)]))
  | m :: rest =>
    cmdIf d [(decide (ws.length ≠ 0), RC.BAD_LENGTH)]
      (({ d with msh := { d.msh with inbox := rest } } : Dev).follow .msh Cause.MSH.MSG_PENDING (!rest.isEmpty),
       [wd (m.typ + 2 ^ 16 * m.origin), wd (m.seq + 2 ^ 16 * m.payload.length)] ++ (bytesWords m.payload).take 254)

/-! The MSH page -/

/-- What a write of an MSH register meets besides its fields' ranges; a channel wider than C_BW is absent (R5; MSH registers). -/
def mshPre (o : Nat) (v : Word) (d : Dev) : List (Bool × Nat) :=
  let old := d.rd (0x880000 + o)
  if o = 0x040 then
    [(d.meshOn && decide (bitsOf old 25 20 ≠ bitsOf v 25 20 ∨ bitsOf old 9 0 ≠ bitsOf v 9 0), RC.NOT_IN_STATE)]
  else if o = 0x044 then
    [(d.meshOn && decide (bitsOf old 14 10 ≠ bitsOf v 14 10), RC.NOT_IN_STATE),
     (decide (d.fld A.MSH.SCAN_CFG 4 0 ≤ bitsOf v 14 10), RC.BAD_VALUE)]
  else if o = 0x04C then [(d.meshOn && decide (bitsOf old 4 0 ≠ bitsOf v 4 0), RC.NOT_IN_STATE)]
  else if o = 0x054 then [(decide (bitsOf v 3 0 = 1) || decide (20000 < bitsOf v 31 16), RC.BAD_VALUE)]
  else if o = 0x058 then [(decide (bitsOf v 11 8 < bitsOf v 7 4), RC.BAD_VALUE)]
  else if 0x0C0 ≤ o ∧ o < 0x138 then [(d.widthAbsent d.meshRadio v, RC.ABSENT), (d.meshOn && decide (old ≠ v), RC.NOT_IN_STATE)]
  else []

/-- What follows a write of an MSH register: EN starts or stops the mesh (R381). -/
def mshPost (o : Nat) (old new : Word) (d : Dev) : Dev :=
  if o = 0x040 then
    if bitOf new 31 && !bitOf old 31 then d.meshStart
    else if bitOf old 31 && !bitOf new 31 then d.meshStop
    else d
  else if o = 0x044 then d.uplinkWatch
  else d

/-- The live registers of the MSH page. -/
def mshLive (o : Nat) (d : Dev) : Option Word :=
  let m := d.msh
  if o = 0x070 then
    some (wd (m.state.code * 2 ^ 28 + m.depth % 16 * 2 ^ 24 + m.children.length % 64 * 2 ^ 16 + m.addr % 1024))
  else if o = 0x074 then
    some (match m.parent with
      | some a => wd (m.parentVer % 16 * 2 ^ 28 + a % 1024 * 2 ^ 16 + unsigned 8 m.parentRssi)
      | none => wd (0x3FF * 2 ^ 16))
  else if o = 0x078 then
    some (wd (m.guardUs % 65536 * 2 ^ 16 + m.misses % 4 * 16
      + match m.dark with
        | some k => if k.started then 2 else if m.listen = 0 then 0 else 1
        | none => if m.listen = 0 then 0 else 1))
  else if o = 0x07C then
    some (match m.ownLease with
      | some t => wd (min 65535 ((t - d.tb) / sT 1))
      | none => 0)
  else if o = 0x080 then some (wd m.seen.length)
  else none

end Sys2Proof.Machine
end

