-- ==== Sys2Proof/Machine/RegSpace.lean ====
section
/-! DEFINITION. The register space as requests meet it: page headers, reads and writes of one register, what a block's state
refuses (spec/00 R4; spec/02 R26 to R36, R53 to R64). -/

namespace Sys2Proof.Machine

/-! The page header (R58) -/

/-- The number of a block type and of the instance (R62). -/
def Blk.id : Blk → Nat × Nat
  | .glb => (0x001, 0)
  | .hci => (0x002, 0)
  | .pmu => (0x003, 0)
  | .mgt => (0x004, 0)
  | .tmu => (0x005, 0)
  | .rgl => (0x006, 0)
  | .pci => (0x007, 0)
  | .bst => (0x008, 0)
  | .rfe r => (0x010, r.num)
  | .phy r => (0x011, r.num)
  | .mac r => (0x012, r.num)
  | .mld => (0x013, 0)
  | .asc => (0x020, 0)
  | .qar => (0x021, 0)
  | .tmg => (0x030, 0)
  | .pke => (0x031, 0)
  | .eth n => (0x040, n)
  | .mem => (0x050, 0)
  | .msh => (0x060, 0)

/-- A block resets, or cannot accept requests while the MP restarts: PG_STAT.BUSY (R58, R59; spec/17 R409). -/
def Dev.busy (d : Dev) (b : Blk) : Bool := (d.blk b).resetting || (d.mgt.restarting && decide (b ≠ .mgt))

/-- PG_STAT of a page (R58). -/
def Dev.pgStat (d : Dev) (b : Blk) : Word :=
  let g := d.blk b
  let ready := d.ready b && !(decide (b = .mgt) && d.mgt.restarting)
  wd (b2n (!d.present b) * 2 ^ 8 + g.power % 16 * 2 ^ 4 + b2n (decide (b = .mem) && decide (d.mem.ddr = .frozen)) * 8
    + b2n g.selftest * 4 + b2n (d.busy b) * 2 + b2n ready)

/-- A word of a page header. -/
def Dev.headerRead (d : Dev) (b : Blk) (p o : Nat) : Word :=
  let g := d.page p
  if o = 0x000 then wd (b.id.1 * 2 ^ 20 + b.id.2 * 2 ^ 12 + p)
  else if o = 0x004 then wd (2 ^ 24 + Config.build.toNat)
  else if o = 0x008 then wd (b2n g.isolate * 8 + b2n g.clkForce * 4 + b2n g.enable)
  else if o = 0x00C then d.pgStat b
  else if o = 0x010 then g.cause
  else if o = 0x014 then g.mask
  else if o = 0x018 then g.cls
  else if o = 0x020 then wd (b2n g.lock)
  else 0

/-! Conditions that continue (R35) -/

/-- The continuing condition behind a cause of a block holds now. -/
def Dev.causeHolds (d : Dev) (b : Blk) (i : Nat) : Bool :=
  match b with
  | .mem =>
    (decide (i = Cause.MEM.DRAM_FROZEN) && decide (d.mem.ddr = .frozen))
      || (decide (i = Cause.MEM.TRAIN_FAIL) && decide (d.mem.ddr = .failed))
      || (decide (i = Cause.MEM.DRAM_HOT) && d.mem.hot.any (fun e => e.2))
  | .pmu => decide (i = Cause.PMU.VIN_WARN) && d.mgt.vinWarn
  | .mgt =>
    decide (i = Cause.MGT.TEMP_WARN)
      && d.mgt.temps.any (fun t => decide (8 * signed 8 (d.fld A.MGT.TEMP_CFG 7 0) - 8 * (d.fld A.MGT.TEMP_CFG 15 8 : Int) ≤ t))
  | .rgl => decide (i = Cause.RGL.OTP_INVALID) && !d.rglSource
  | .rfe r => decide (i = Cause.RFE.CAL_OVERDUE) && (d.rfe.get r).overdue
  | .phy .b => decide (i = Cause.PHY.RADAR_PULSE) && !(d.phy.get .b).radar.isEmpty
  | .mld => decide (i = Cause.MLD.REORDER_NOBUF) && d.mld.noBuf
  | .asc => decide (i = Cause.ASC.HEAT_SUSPENDED) && [Radio.a, .b, .c].any (fun r => (d.asc.radios.get r).suspended)
  | .qar => decide (i = Cause.QAR.DUCTUS_TRIGGERED) && d.qar.ductus.triggered
  | .tmg => decide (i = Cause.TMG.SPILL_FULL)
      && decide (d.fld A.TMG.SPILL_SIZE 15 0 ≠ 0 ∧ 4096 * d.fld A.TMG.SPILL_SIZE 15 0 < d.tmg.spillUsed + 45)
  | .pke => (decide (i = Cause.PKE.L2_FULL) && d.l2AnyFull) || (decide (i = Cause.PKE.HOLD_FULL) && d.holdFull)
  | .tmu => decide (i = Cause.TMU.HOLDOVER) && decide (d.tmu.servo = .holdover)
  | .msh => decide (i = Cause.MSH.MSG_PENDING) && !d.msh.inbox.isEmpty
  | _ => false

/-! What the state of a block refuses (R4, R21, R31, R59, R409, R442, R455) -/

/-- A request to a page of a block that is not a read of its header meets these. `dpr`: the request is DP_RESET, which joins a
data-plane reset (R350). -/
def Dev.gate (d : Dev) (b : Blk) (dpr : Bool) : List (Bool × Nat) :=
  let g := d.blk b
  [(g.selftest, RC.BUSY_SELFTEST),
   (!g.clkForce && decide (g.power = 1 ∨ g.power = 4), RC.POWER),
   (((d.blk b).resetting && !dpr) || (d.mgt.restarting && decide (b ≠ .mgt)), RC.BUSY)]

/-- A request to a sleeping block wakes it (R21, R442). -/
def Dev.wakeBlk (d : Dev) (b : Blk) : Dev :=
  let g := d.blk b
  if g.power = 1 then d.setBlk b { g with power := 4 } else if g.power = 2 then d.setBlk b { g with power := 3 } else d

/-- The payload of a refusal: the remaining time, for the two codes that carry it (R30, R455). -/
def Dev.refusal (d : Dev) (b : Blk) (c det : Nat) : Ans :=
  { code := c, detail := det, later := false,
    words := if c = RC.BUSY_SELFTEST then [wd d.testLeftUs]
      else if c = RC.BUSY_CALIBRATION then (match b with
        | .rfe r | .phy r | .mac r => [wd (max 1 (d.remainUs r))]
        | _ => [1])
      else [] }

/-! Writes of a page header -/

/-- The group of a cause bit keeps a fixed class on this page. -/
def fixedGroup (b : Blk) (p g : Nat) : Option Nat :=
  if p ≠ blkPage b then none
  else ((blkCauses b).find? (fun c => decide (c.group = g) && c.fixed)).map (fun c => c.cls)

/-- ATTN_FORCE and ISOLATE need the life-cycle state TEST or RETURN (R40, R58). -/
def Dev.testable (d : Dev) : Bool := decide (d.mgt.otp.lc = .test ∨ d.mgt.otp.lc = .ret)

/-- GLB, HCI, PMU and MGT are never disabled and never reset (R58, R59). -/
def Blk.fixedOn (b : Blk) : Bool := [Blk.glb, .hci, .pmu, .mgt].contains b

/-- Blocks that come into service only after the Inkwell partition is fixed (R338). -/
def Blk.needsInk : Blk → Bool
  | .tmg | .pke | .eth _ | .mac _ => true
  | _ => false

/-- What a write of PG_CTRL meets (R58, R59, R167, R338, R342, R462). -/
def Dev.ctrlPre (d : Dev) (src : Src) (b : Blk) (p : Nat) (v : Word) : List (Bool × Nat) :=
  let g := d.page p
  [(decide (src ≠ .mp) && decide (bitOf v 3 ≠ g.isolate) && !d.testable, RC.NOT_IN_STATE),
   (bitOf v 1 && decide (b = .mem) && d.bit A.MEM.DDR_CFG 8, RC.NOT_IN_STATE),
   (bitOf v 0 && b.needsInk && !d.inkCommitted, RC.NOT_IN_STATE),
   (bitOf v 0 && (d.blk b).failed, RC.NOT_IN_STATE),
   (bitOf v 0 && (match b with
     | .mac r => decide (d.macAddr r = 0)
     | _ => false), RC.NOT_IN_STATE),
   (b.fixedOn && (bitOf v 1 || !bitOf v 0), RC.NOT_PERMITTED),
   (extra v 0xF, RC.BAD_VALUE)]

/-- A write of PG_CTRL takes effect: a reset starts, or the bits are stored and the links follow. On the later pages of a block of
several pages the stored ENABLE has no effect on the block, whose service follows its first page; SOFT_RESET there resets the block
(DESIGN CHOICE, notes/assumptions/67.md). -/
def Dev.ctrlWrite (d : Dev) (b : Blk) (p : Nat) (v : Word) : Dev :=
  let d1 := d.withLinks (fun d => d.setPage p { d.page p with enable := bitOf v 0, clkForce := bitOf v 2, isolate := bitOf v 3 })
  if bitOf v 1 then (if b = .bst then d1.bstSoft else d1).softReset b else d1

/-- What a write of ATTN_CLASS meets (R33, R34). -/
def clsPre (b : Blk) (p : Nat) (v : Word) : List (Bool × Nat) :=
  let f (g : Nat) : Nat := bitsOf v (4 * g + 2) (4 * g)
  [((List.range 8).any (fun g => match fixedGroup b p g with
     | some c => decide (f g ≠ c)
     | none => false), RC.NOT_PERMITTED),
   ((List.range 8).any (fun g => decide (f g = 0 ∨ f g = 7) || bitOf v (4 * g + 3)), RC.BAD_VALUE)]

/-- A write of a header word: what it meets. -/
def Dev.headerPre (d : Dev) (src : Src) (b : Blk) (p o : Nat) (v : Word) : List (Bool × Nat) :=
  if o = 0x008 then d.ctrlPre src b p v
  else if o = 0x010 ∨ o = 0x014 then []
  else if o = 0x018 then clsPre b p v
  else if o = 0x01C then [(!d.testable, RC.NOT_IN_STATE)]
  else if o = 0x020 then [(extra v 1, RC.BAD_VALUE)]
  else if o < 0x010 then [(true, RC.NOT_PERMITTED)]
  else [(true, RC.BAD_ADDRESS)]

/-- A write of a header word takes effect. -/
def Dev.headerWrite (d : Dev) (b : Blk) (p o : Nat) (v : Word) : Dev :=
  let g := d.page p
  if o = 0x008 then d.ctrlWrite b p v
  else if o = 0x010 then
    let keep := (List.range 32).foldl (fun w i => if p = blkPage b ∧ d.causeHolds b i then w ||| oneBit i else w) (0 : Word)
    d.attnSet p (g.cause &&& (~~~ v ||| keep)) g.mask
  else if o = 0x014 then d.attnSet p g.cause v
  else if o = 0x018 then d.setPage p { g with cls := v }
  else if o = 0x01C then d.attnSet p (g.cause ||| v) g.mask
  else if o = 0x020 then d.setPage p { g with lock := g.lock || bitOf v 0 }
  else d

/-! Block registers -/

/-- The value of a register that shows a live condition. -/
def Dev.live (d : Dev) (b : Blk) (o : Nat) : Option Word :=
  match b with
  | .glb => if o = 0x040 then some d.mgt.otp.variant else none
  | .hci =>
    if o = 0x040 then some d.hci.attnSeq
    else if 0x060 ≤ o ∧ o ≤ 0x07C then some (wd (tabGet 0 d.hci.hwm ((o - 0x060) / 8) / 2 ^ (32 * ((o - 0x060) / 4 % 2))))
    else none
  | .pmu => pmuLive o d
  | .mgt => mgtLive o d
  | .tmu => tmuLive o d
  | .rgl => rglLive o d
  | .bst => bstLive o d
  | .rfe r => rfeLive r o d
  | .phy r => phyLive r o d
  | .mac r => macLive r o d
  | .mld => mldLive o d
  | .asc => ascLive o d
  | .qar => qarLive o d
  | .tmg => tmgLive o d
  | .pke => pkeLive o d
  | .eth n => ethLive n o d
  | .mem => memLive o d
  | .msh => mshLive o d
  | .pci => none

/-- What a write of a block's register meets besides its fields' ranges. -/
def Dev.blockPre (d : Dev) (src : Src) (b : Blk) (o : Nat) (v : Word) : List (Bool × Nat) :=
  match b with
  | .hci =>
    if o = 0x048 then [(decide (bitsOf v 11 8 < bitsOf v 7 4), RC.BAD_VALUE)]
    else [(decide (0x080 ≤ o ∧ o ≤ 0x0FC) && src.isAcp, RC.NOT_PERMITTED)]
  | .pmu => pmuPre o v
  | .mgt => mgtPre o v d
  | .tmu => tmuPre o v d
  | .rgl => rglPre o v d
  | .rfe r => rfePre r o v d
  | .mac r => macPre r o v d
  | .asc => ascPre o v d
  | .qar => qarPre o v d
  | .tmg => tmgPre o d
  | .pke => pkePre o v d
  | .eth n => ethPre n o v d
  | .mem => memPre o v d
  | .msh => mshPre o v d
  | _ => []

/-- A word of an ACP key slot is written: every session that uses the slot is closed (R56, R57). -/
def Dev.acpKeyWrite (d : Dev) (i : Nat) (v : Word) : Dev :=
  d.onHci (fun h => { h with keys := tabSet 0 h.keys i v,
                             acp := h.acp.filter (fun (e : Nat × Acp) => decide (e.2.slot ≠ i / 8)) })

/-- What follows a write of a block's register. -/
def Dev.blockPost (d : Dev) (b : Blk) (o : Nat) (old new v : Word) : Dev :=
  match b with
  | .hci => if 0x080 ≤ o ∧ o ≤ 0x0FC then d.acpKeyWrite ((o - 0x080) / 4) v else d
  | .mgt => mgtPost o d
  | .tmu => tmuPost o old new d
  | .rgl => rglPost o d
  | .rfe r => rfePost r o d
  | .qar => qarPost o old new d
  | .tmg => tmgPost o d
  | .asc => ascPost o old new d
  | .eth n => ethPost n o old new d
  | .mem => if 0x050 ≤ o ∧ o ≤ 0x064 then d.inkPeakWrite ((o - 0x050) / 4) v else (memPost o old new d).dlAll
  | .msh => mshPost o old new d
  | _ => d

/-- A field can be written. -/
def Fld.writable (f : Fld) : Bool := !decide (f.acc = .ro ∨ f.acc = .rop)

/-- A value lies within a field's range. -/
def Fld.inRange (f : Fld) (v : Word) : Bool :=
  let x := bitsOf v f.hi f.lo
  match f.rng with
  | .any => true
  | .u lo hi => decide (lo ≤ x ∧ x ≤ hi)
  | .s lo hi => let y := signed (f.hi + 1 - f.lo) x
    decide (lo ≤ y ∧ y ≤ hi)

/-- The bits of a register that some field covers. -/
def fldsMask (fs : List Fld) : Word := fs.foldl (fun w f => w ||| fieldMask f.hi f.lo) 0

/-- What a write of a register meets by its fields (R30, R60). -/
def RegDef.pre (r : RegDef) (lock : Bool) (v : Word) : List (Bool × Nat) :=
  [(!r.flds.any Fld.writable, RC.NOT_PERMITTED),
   (lock && r.flds.any (fun f => decide (f.acc = .rwl)), RC.LOCKED),
   (extra v (fldsMask r.flds), RC.BAD_VALUE),
   (r.flds.any (fun f => f.writable && !f.inRange v), RC.BAD_VALUE)]

/-- The stored value after a write: by each field's access. -/
def RegDef.next (r : RegDef) (old v : Word) : Word :=
  r.flds.foldl (fun w f =>
    let m := fieldMask f.hi f.lo
    match f.acc with
    | .rw | .rwl => (w &&& ~~~ m) ||| (v &&& m)
    | .rw1c => w &&& ~~~ (v &&& m)
    | .rw1s => w ||| (v &&& m)
    | _ => w) old

/-- A write of a counter: 0 clears it, both words of a wide one by its low word; any other value changes nothing (R64). -/
def Dev.counterWrite (d : Dev) (a : Nat) (v : Word) : Dev :=
  match (blkOfPage (a / 4096)).bind (fun b => ctrAt b (a % 4096)) with
  | none => d
  | some c => if v ≠ 0 then d else if c.wide then (d.wr a 0).wr (a + 4) 0 else d.wr a 0

/-- An offset is the high word of a 64-bit counter. -/
def ctrHigh (b : Blk) (o : Nat) : Bool :=
  (ctrAt b o).isNone && decide (4 ≤ o) && (match ctrAt b (o - 4) with
    | some c => c.wide
    | none => false)

/-- A register exists at an offset above the header. -/
def regExists (b : Blk) (o : Nat) : Bool := (regAt b o).isSome || (ctrAt b o).isSome || ctrHigh b o

/-! One register -/

/-- Codes that a read of one register meets (R26, R31, R32). -/
def Dev.readCodes (d : Dev) (p o : Nat) : List (Bool × Nat) :=
  match blkOfPage p with
  | none => [(true, RC.BAD_ADDRESS)]
  | some b =>
    if o < 0x040 then []
    else (decide (p ≠ blkPage b) || !regExists b o || (match b with
        | .eth n => ethAbsentReg n o
        | _ => false), RC.BAD_ADDRESS) :: (if d.present b then d.gate b false else [])

/-- The value of one register; a WO field reads 0, an absent block's registers read 0 (R4). -/
def Dev.readValue (d : Dev) (p o : Nat) : Word :=
  match blkOfPage p with
  | none => 0
  | some b =>
    if o < 0x040 then d.headerRead b p o
    else if !d.present b then 0
    else (d.live b o).getD (d.rd (4096 * p + o))

/-- What reading one register does: the radar FIFO moves on (spec/04 R114). -/
def Dev.readEffect (d : Dev) (p o : Nat) : Dev := if 4096 * p + o = A.PHY.RADAR_FIFO1 .b then d.radarPop else d

/-- Codes that a write of one register meets. -/
def Dev.writeCodes (d : Dev) (src : Src) (p o : Nat) (v : Word) : List (Bool × Nat) :=
  match blkOfPage p with
  | none => [(true, RC.BAD_ADDRESS)]
  | some b =>
    let here := if o < 0x040 then d.headerPre src b p o v
      else
        (decide (p ≠ blkPage b) || !regExists b o || (match b with
          | .eth n => ethAbsentReg n o
          | _ => false), RC.BAD_ADDRESS) ::
        (match regAt b o with
          | some r => r.pre (d.page p).lock v ++ d.blockPre src b o v
          | none => [])
    (!d.present b, RC.ABSENT) :: (here ++ d.gate b false)

/-- A write of one register takes effect. -/
def Dev.writeEffect (d : Dev) (p o : Nat) (v : Word) : Dev :=
  match blkOfPage p with
  | none => d
  | some b =>
    if o < 0x040 then d.headerWrite b p o v
    else
      let a := 4096 * p + o
      match regAt b o with
      | some r =>
        let old := d.rd a
        let new := r.next old v
        (d.withLinks (fun d => d.wr a new)).blockPost b o old new v
      | none => if (ctrAt b o).isSome then d.counterWrite a v else d

/-- A write of one register by a sender: its code, and the device after it. A refusal for want of power wakes the block. -/
def Dev.regWrite (d : Dev) (src : Src) (a : Nat) (v : Word) : Dev × Ans :=
  let p := a / 4096
  let o := a % 4096
  let c := refuse (d.writeCodes src p o v)
  match blkOfPage p with
  | none => (d, Ans.err RC.BAD_ADDRESS)
  | some b =>
    if c = RC.OK then (((d.wakeBlk b)).writeEffect p o v, Ans.ok [])
    else if c = RC.POWER then (d.wakeBlk b, Ans.err c)
    else (d, d.refusal b c 0)

/-- A read of one register by a sender. -/
def Dev.regRead (d : Dev) (a : Nat) : Dev × Ans :=
  let p := a / 4096
  let o := a % 4096
  let c := refuse (d.readCodes p o)
  match blkOfPage p with
  | none => (d, Ans.err RC.BAD_ADDRESS)
  | some b =>
    if c = RC.OK then ((if o < 0x040 then d else d.wakeBlk b).readEffect p o, Ans.ok [d.readValue p o])
    else if c = RC.POWER then (d.wakeBlk b, Ans.err c)
    else (d, d.refusal b c 0)

/-- A MODIFY may not address a register that holds an RW1C, RW1S or WO field (R26). -/
def modifiable (b : Blk) (o : Nat) : Bool :=
  if o < 0x040 then !decide (o = 0x008 ∨ o = 0x010 ∨ o = 0x01C ∨ o = 0x020)
  else match regAt b o with
    | some r => !r.flds.any (fun f => decide (f.acc = .rw1c ∨ f.acc = .rw1s ∨ f.acc = .wo))
    | none => true

end Sys2Proof.Machine
end

