-- ==== Sys2Proof/Machine/Etold.lean ====
section
/-! DEFINITION. The Etold instructions: conditions, delay slots, windows, exceptions, memory access, and each instruction's effect
(spec/10 R242 to R269). A row stands for the instruction at the core's pc; what memory holds there is not compared with it
(notes/assumptions/140.md). -/

namespace Sys2Proof.Machine

/-! Cores -/

/-- A core's state. -/
def Dev.core (d : Dev) : Cpu → Core
  | .mp => d.mp
  | .quill k => d.quill k.val
def Dev.setCore (d : Dev) (u : Cpu) (c : Core) : Dev :=
  match u with
  | .mp => { d with mp := c }
  | .quill k => d.setQuill k.val c
def Cpu.isMp : Cpu → Bool
  | .mp => true
  | .quill _ => false

/-- The core executes instructions now: it waits for nothing, and its clock runs. The MP stops in IDLE and while it restarts
(R258, R409, R443). A Quill core runs to its TAKE while its block resets (spec/09 R241), and stops while it is tested. -/
def Dev.coreRuns (d : Dev) (u : Cpu) : Bool :=
  decide ((d.core u).wait = .none) &&
    (match u with
      | .mp => decide (d.pmu.state = .run) && !d.mgt.restarting
      | .quill k => decide (d.pmu.state = .run ∨ d.pmu.state = .idle) && decide (d.bst.phase ≠ .running ∨ d.bst.unit ≠ 0x10 + k.val))

/-- Instruction addresses that can be fetched (R266, R268). -/
def executable (u : Cpu) (pc : Nat) : Bool :=
  match u with
  | .mp => decide (pc < 0x20000 ∨ (0x10000000 ≤ pc ∧ pc < 0x10080000))
  | .quill _ => decide (pc < 0x10000)

/-- The end of the memory at 0x1000_0000 that holds the spill area: data memory, or MP SRAM (R245). -/
def Cpu.dataEnd : Cpu → Nat
  | .mp => 0x10080000
  | .quill _ => 0x10008000

/-! Windows, double faults (R244, R245, R264) -/

/-- A double fault: the MP restarts with a Blotter record, a Quill core halts (R264). -/
def Dev.doubleFault (d : Dev) (u : Cpu) : Dev :=
  match u with
  | .mp => (d.blotter 0x030 0 0x0006 [d.mp.ecause, d.mp.epc]).mpRestart
  | .quill k => d.setQuill k.val { d.quill k.val with wait := .halted }

/-- The address of a frame of the spill area. -/
def Core.frameAt (c : Core) (i : Nat) : Nat := (c.spillp.toNat + 72 * i) % 2 ^ 32

/-- A frame lies in the memory that may hold it. -/
def frameOk (u : Cpu) (a : Nat) : Bool := decide (0x10000000 ≤ a ∧ a + 72 ≤ u.dataEnd)

/-- The frame of the oldest window, written at an offset of data memory; and the 18 words of a frame read there. -/
def Core.frameOut (c : Core) (off : Nat) : Core :=
  ((c.frame (c.cwp + 2)).zipIdx).foldl (fun c e => c.dmemPut (off + 4 * e.2) 4 e.1.toNat) c
def Core.frameIn (c : Core) (off : Nat) : List Word := (List.range 18).map (fun i => wd (c.dmemGet (off + 4 * i) 4))

/-- The window advances, spilling the oldest one when eleven are resident; none on a bus error of the spill. -/
def Core.advance (u : Cpu) (c : Core) : Option Core :=
  if c.res = 11 then
    let a := c.frameAt c.spilled
    if frameOk u a then
      some { c.frameOut (a - 0x10000000) with spilled := (c.spilled + 1) % 4096, res := 11, cwp := (c.cwp + 1) % 12 }
    else none
  else some { c with cwp := (c.cwp + 1) % 12, res := c.res + 1 }

/-- The window retreats, filling when only one is resident; none on a bus error of the fill. -/
def Core.retreat (u : Cpu) (c : Core) : Option Core :=
  if c.res = 1 then
    let k := (c.spilled + 4095) % 4096
    let a := c.frameAt k
    if frameOk u a then
      some { c.setFrame (c.cwp + 11) (c.frameIn (a - 0x10000000)) with spilled := k, res := 1, cwp := (c.cwp + 11) % 12 }
    else none
  else some { c with cwp := (c.cwp + 11) % 12, res := c.res - 1 }

/-! Exceptions (R261, R262) -/

abbrev Exc.ILLEGAL : Nat := 1
abbrev Exc.ALIGN : Nat := 2
abbrev Exc.BUS : Nat := 3
abbrev Exc.OVERFLOW : Nat := 4
abbrev Exc.UNDERFLOW : Nat := 5
abbrev Exc.TRAP : Nat := 6
abbrev Exc.OPSTATE : Nat := 7

/-- What the boot ROM does at 0x0000_0040: it jumps to the handler installed at 0x1000_0000, or records the exception and restarts
the MP (R262). -/
def Dev.romException (d : Dev) : Dev :=
  let w := d.mp.dmemGet 0 4
  if w ≠ 0 ∧ w % 4 = 0 then { d with mp := { d.mp with pc := w } }
  else (d.blotter 0x030 0 0x0007 [d.mp.ecause, d.mp.epc]).mpRestart

/-- The address that EPC takes at an exception: that of the transfer in whose slot it comes, that after a TRAP, else that of the
instruction (R262). -/
def Core.epcFor (c : Core) (cause : Nat) : Nat :=
  match c.slot with
  | some (a, _) => a
  | none => if cause = Exc.TRAP then c.pc + 4 else c.pc

/-- TAKING AN EXCEPTION: EPC and ECAUSE, a new window whose LK receives EPC, EXC, the entry address (R254, R262). Raised while
EXC is set, or needing a spill past the kept frame, it is a double fault (R246, R264). -/
def Dev.except (d : Dev) (u : Cpu) (cause detail code : Nat) : Dev :=
  let c := d.core u
  if c.exc then d.doubleFault u
  else
    let epc := c.epcFor cause
    let c1 := { c with epc := wd epc, ecause := wd (b2n c.slot.isSome * 2 ^ 31 + detail * 2 ^ 16 + code * 2 ^ 8 + cause), slot := none }
    let d1 := d.setCore u c1
    if c1.res = 11 ∧ c1.spillMax < c1.spilled then d1.doubleFault u
    else match c1.advance u with
      | none => d1.doubleFault u
      | some c2 =>
        let d2 := d1.setCore u { c2.setLinkOf c2.cwp (wd epc) with exc := true, pc := 0x40 }
        if u.isMp then d2.romException else d2

/-! What an instruction's effect is, and what follows it (R249, R253) -/

/-- The effect of an instruction: it is done, a control transfer waits for its slot, or an exception. -/
inductive Eff where
  | go (d : Dev)
  | slot (t : Transfer)
  | exc (cause detail code : Nat) (d : Dev)

/-- A transfer takes effect, its slot being executed. -/
def Dev.arriveAt (d : Dev) (u : Cpu) (a : Nat) (t : Transfer) : Dev :=
  let c := d.core u
  match t with
  | .notTaken => d.setCore u { c with pc := (a + 8) % 2 ^ 32 }
  | .jump p => d.setCore u { c with pc := p }
  | .call p r => (match c.advance u with
    | none => d.doubleFault u
    | some c1 => d.setCore u { c1.setLinkOf c1.cwp (wd r) with pc := p })
  | .ret => (match { c with pc := c.lk.toNat }.retreat u with
    | none => d.doubleFault u
    | some c1 => d.setCore u c1)
  | .rete => (match { c with pc := c.epc.toNat, exc := false }.retreat u with
    | none => d.doubleFault u
    | some c1 => d.setCore u c1)

/-- The instruction at pc is done: the next one, or the transfer whose slot it was. -/
def Dev.goOn (d : Dev) (u : Cpu) : Dev :=
  let c := d.core u
  match c.slot with
  | none => d.setCore u { c with pc := (c.pc + 4) % 2 ^ 32 }
  | some (a, t) => (d.setCore u { c with slot := none }).arriveAt u a t

/-- One instruction: nothing while the core does not run; the fetch; the condition before anything else; then its effect. -/
def Dev.instr (d : Dev) (u : Cpu) (cond : BitVec 4) (f : Core → Eff) : Dev :=
  let c := d.core u
  if !d.coreRuns u then d
  else if !executable u c.pc then d.except u Exc.BUS RC.BAD_ADDRESS 0
  else if !c.holds cond then d.goOn u
  else match f c with
    | .go d1 => d1.goOn u
    | .slot t => d.setCore u { c with slot := some (c.pc, t), pc := (c.pc + 4) % 2 ^ 32 }
    | .exc k det code d1 => d1.except u k det code

/-- A control transfer: not taken when its condition fails, with its slot executed all the same; in a slot itself, ILLEGAL (R249,
R253, R254). -/
def Dev.transfer (d : Dev) (u : Cpu) (cond : BitVec 4) (f : Core → Eff) : Dev :=
  let c := d.core u
  if d.coreRuns u && executable u c.pc && !c.holds cond && c.slot.isNone then
    d.setCore u { c with slot := some (c.pc, .notTaken), pc := (c.pc + 4) % 2 ^ 32 }
  else d.instr u cond (fun c => if c.slot.isSome then .exc Exc.ILLEGAL 0 0 d else f c)

/-- An exception without DETAIL or CODE, the state otherwise unchanged. -/
def Eff.raise (d : Dev) (cause : Nat) : Eff := .exc cause 0 0 d

/-- The fields of an instruction without operands are 0. -/
def FmtR.bare (f : FmtR) : Bool := decide (f.rd = 0 ∧ f.ra = 0 ∧ f.rb = 0 ∧ f.func = 0) && !f.s

/-! Arithmetic (R250 to R252) -/

/-- Write a result, and the flags with S set. -/
def Core.result (c : Core) (rd : BitVec 5) (s : Bool) (o : AluOut) : Core :=
  let c1 := c.setReg rd o.res
  if s then c1.setFlags o else c1

/-- ALU: the register operations; CLZ takes no rb. -/
def cmdAlu (u : Cpu) (f : FmtR) (d : Dev) : Dev :=
  d.instr u f.cond (fun c =>
    match aluFunc c f.func.toNat (c.reg f.ra) (c.reg f.rb) with
    | none => .raise d Exc.ILLEGAL
    | some o => if f.func = 0x0F ∧ f.rb ≠ 0 then .raise d Exc.ILLEGAL else .go (d.setCore u (c.result f.rd f.s o)))

/-- An immediate operation of opcodes 0x01 to 0x0A. -/
def Dev.aluImm (d : Dev) (u : Cpu) (f : FmtI) (op : Word → Word → AluOut) : Dev :=
  d.instr u f.cond (fun c => .go (d.setCore u (c.result f.rd f.s (op (c.reg f.ra) f.ext))))

/-- A shift by an immediate from 0 to 31. -/
def Dev.shiftImm (d : Dev) (u : Cpu) (f : FmtI) (op : Word → Nat → AluOut) : Dev :=
  d.instr u f.cond (fun c =>
    if 32 ≤ f.imm.toNat then .raise d Exc.ILLEGAL else .go (d.setCore u (c.result f.rd f.s (op (c.reg f.ra) f.imm.toNat))))

def cmdAddi (u : Cpu) (f : FmtI) (d : Dev) : Dev := d.aluImm u f (fun a b => aluAdd a b false)
def cmdSubi (u : Cpu) (f : FmtI) (d : Dev) : Dev := d.aluImm u f (fun a b => aluSub a b false)
def cmdAndi (u : Cpu) (f : FmtI) (d : Dev) : Dev := d.aluImm u f (fun a b => .plain (a &&& b))
def cmdOri (u : Cpu) (f : FmtI) (d : Dev) : Dev := d.aluImm u f (fun a b => .plain (a ||| b))
def cmdXori (u : Cpu) (f : FmtI) (d : Dev) : Dev := d.aluImm u f (fun a b => .plain (a ^^^ b))
def cmdMuli (u : Cpu) (f : FmtI) (d : Dev) : Dev := d.aluImm u f aluMul
def cmdShli (u : Cpu) (f : FmtI) (d : Dev) : Dev := d.shiftImm u f aluShl
def cmdShri (u : Cpu) (f : FmtI) (d : Dev) : Dev := d.shiftImm u f aluShr
def cmdSari (u : Cpu) (f : FmtI) (d : Dev) : Dev := d.shiftImm u f aluSar
def cmdRori (u : Cpu) (f : FmtI) (d : Dev) : Dev := d.shiftImm u f aluRor

/-- MOVL. -/
def cmdMovl (u : Cpu) (f : FmtU) (d : Dev) : Dev :=
  d.instr u f.cond (fun c => .go (d.setCore u (c.setReg f.rd (f.imm.zeroExtend 32))))

/-- MOVH keeps the low half. -/
def cmdMovh (u : Cpu) (f : FmtU) (d : Dev) : Dev :=
  d.instr u f.cond (fun c => .go (d.setCore u (c.setReg f.rd (f.imm ++ (c.reg f.rd).extractLsb' 0 16))))

/-! Memory access (R255, R256, R266 to R269) -/

/-- An access is refused, with its code. -/
def Dev.refusedAt (d : Dev) (code : Nat) : Dev × Ans := (d, Ans.err code)

/-- `n` bytes of a byte table, as the answer of a load. -/
def loadTab (t : Tab Byte) (off n : Nat) : Ans := Ans.ok [wd (leNat ((List.range n).map (fun i => tabGet 0 t (off + i))))]

/-- `n` low bytes of a word, stored. -/
def storeTab (t : Tab Byte) (off n : Nat) (v : Word) : Tab Byte :=
  (List.range n).foldl (fun t i => tabSet 0 t (off + i) (BitVec.ofNat 8 (v.toNat / 256 ^ i))) t

/-- A sleeping block is woken and the MP's access waits (R267). -/
def Dev.mpWake (d : Dev) (a : Nat) : Dev :=
  match blkOfPage (a / 4096) with
  | none => d
  | some b => d.setBlk b { d.blk b with power := 3 }

/-- An MP load and store of the register space (R267). -/
def Dev.mpRegLoad (d : Dev) (a n : Nat) : Dev × Ans :=
  if n ≠ 4 then d.refusedAt RC.BAD_LENGTH
  else
    let r := d.regRead a
    if r.2.code = RC.POWER then (d.mpWake a).regRead a else r
def Dev.mpRegStore (d : Dev) (a n : Nat) (v : Word) : Dev × Ans :=
  if n ≠ 4 then d.refusedAt RC.BAD_LENGTH
  else
    let r := d.regWrite .mp a v
    if r.2.code = RC.POWER then (d.mpWake a).regWrite .mp a v else r

/-- The DRAM byte behind an address of the MP's window (R266). -/
def Dev.winAddr (d : Dev) (a : Nat) : Nat := d.fld A.MGT.DRAM_WIN 3 0 * 2 ^ 31 + (a - 0x80000000)

/-- What the DRAM window refuses (R266, R348, R499). -/
def Dev.winCode (d : Dev) (a n : Nat) : Nat :=
  if d.dramMib * 2 ^ 20 < d.winAddr a + n then RC.BAD_ADDRESS
  else if !d.serving then RC.FROZEN
  else RC.OK

/-- A load of the MP. -/
def Dev.mpLoad (d : Dev) (a n : Nat) : Dev × Ans :=
  if a < 0x20000 then (d, Ans.ok [wd (leNat ((List.range n).map (fun i => Config.bootRom (a + i))))])
  else if 0x10000000 ≤ a ∧ a < 0x10080000 then (d, loadTab d.mp.dmem (a - 0x10000000) n)
  else if 0x11000000 ≤ a ∧ a < 0x11200000 then (d, loadTab d.mgt.sram (a - 0x11000000) n)
  else if 0x20000000 ≤ a ∧ a < 0x21000000 then d.mpRegLoad (a - 0x20000000) n
  else if 0x30000000 ≤ a ∧ a < 0x30100000 then (d, loadTab d.asc.sram (a - 0x30000000) n)
  else if 0x40000000 ≤ a ∧ a < 0x40800000 then (d, loadTab d.mem.ink (a - 0x40000000) n)
  else if 0x80000000 ≤ a then
    (if d.winCode a n ≠ RC.OK then d.refusedAt (d.winCode a n)
     else if d.rangePoisoned (d.winAddr a) n then (d.count A.MEM.POISON_READ_CNT).refusedAt RC.FROZEN
     else (d, Ans.ok [wd (leNat (d.dramBytes (d.winAddr a) n))]))
  else d.refusedAt RC.BAD_ADDRESS

/-- A store of the MP. -/
def Dev.mpStore (d : Dev) (a n : Nat) (v : Word) : Dev × Ans :=
  if a < 0x20000 then d.refusedAt RC.NOT_PERMITTED
  else if 0x10000000 ≤ a ∧ a < 0x10080000 then (d.onMp (fun c => { c with dmem := storeTab c.dmem (a - 0x10000000) n v }), Ans.ok [])
  else if 0x11000000 ≤ a ∧ a < 0x11200000 then (d.onMgt (fun m => { m with sram := storeTab m.sram (a - 0x11000000) n v }), Ans.ok [])
  else if 0x20000000 ≤ a ∧ a < 0x21000000 then d.mpRegStore (a - 0x20000000) n v
  else if 0x30000000 ≤ a ∧ a < 0x30100000 then (d.onAsc (fun x => { x with sram := storeTab x.sram (a - 0x30000000) n v }), Ans.ok [])
  else if 0x40000000 ≤ a ∧ a < 0x40800000 then (d.onMem (fun m => { m with ink := storeTab m.ink (a - 0x40000000) n v }), Ans.ok [])
  else if 0x80000000 ≤ a then
    (if d.winCode a n ≠ RC.OK then d.refusedAt (d.winCode a n)
     else (d.dramPartial (d.winAddr a) ((wordsBytes [v]).take n), Ans.ok []))
  else d.refusedAt RC.BAD_ADDRESS

/-- A store of the MP's window that the DRAM refused after its retries: BUS with DETAIL FROZEN, as a load of the line would raise
once it is poisoned (spec/14 R348, R349). -/
def Dev.storeFailed (d : Dev) (port : Nat) (before : Dev) : Dev :=
  if port = 7 ∧ before.mem.ddr ≠ .frozen ∧ d.mem.ddr = .frozen then d.except .mp Exc.BUS RC.FROZEN 0 else d

/-- A load of a Quill core. -/
def Dev.quillLoad (d : Dev) (k a n : Nat) : Dev × Ans :=
  let c := d.quill k
  if 0x10000000 ≤ a ∧ a < 0x10008000 then (d, loadTab c.dmem (a - 0x10000000) n)
  else if 0x30000000 ≤ a ∧ a < 0x30100000 then (d, loadTab d.asc.sram (a - 0x30000000) n)
  else if 0x50000000 ≤ a ∧ a < 0x50002000 then (d, loadTab d.qar.desc (a - 0x50000000) n)
  else if n = 4 ∧ a = 0x60000000 then (d, Ans.ok [c.fsrcLo])
  else if n = 4 ∧ a = 0x60000004 then (d, Ans.ok [c.fsrcHi])
  else if n = 4 ∧ a = 0x60000008 then (d, Ans.ok [c.fdst])
  else if n = 4 ∧ a = 0x6000000C then (d, Ans.ok [c.fcpl])
  else if n = 4 ∧ a = 0x6000001C then (d, Ans.ok [wd k])
  else d.refusedAt RC.BAD_ADDRESS

/-- A store of a Quill core: the trace port and the fetch engine take words. -/
def Dev.quillStore (d : Dev) (k a n : Nat) (v : Word) : Dev × Ans :=
  let c := d.quill k
  if 0x10000000 ≤ a ∧ a < 0x10008000 then (d.setQuill k { c with dmem := storeTab c.dmem (a - 0x10000000) n v }, Ans.ok [])
  else if 0x30000000 ≤ a ∧ a < 0x30100000 then (d.onAsc (fun x => { x with sram := storeTab x.sram (a - 0x30000000) n v }), Ans.ok [])
  else if 0x50000000 ≤ a ∧ a < 0x50002000 then d.refusedAt RC.NOT_PERMITTED
  else if n = 4 ∧ a = 0x20440070 then (d.tracePut0 k v, Ans.ok [])
  else if n = 4 ∧ a = 0x20440074 then (d.tracePut1 k v, Ans.ok [])
  else if n = 4 ∧ a = 0x60000000 then (d.setQuill k { c with fsrcLo := v }, Ans.ok [])
  else if n = 4 ∧ a = 0x60000004 then (d.setQuill k { c with fsrcHi := v &&& 7 }, Ans.ok [])
  else if n = 4 ∧ a = 0x60000008 then (d.setQuill k { c with fdst := v }, Ans.ok [])
  else if n = 4 ∧ a = 0x6000000C then (d.setQuill k { c with fcpl := v }, Ans.ok [])
  else if n = 4 ∧ a = 0x60000010 then (d.fetchGo k v, Ans.ok [])
  else if n = 4 ∧ a = 0x6000001C then d.refusedAt RC.NOT_PERMITTED
  else d.refusedAt RC.BAD_ADDRESS

/-- A load and a store of a core. -/
def Dev.load (d : Dev) (u : Cpu) (a n : Nat) : Dev × Ans :=
  match u with
  | .mp => d.mpLoad a n
  | .quill k => d.quillLoad k.val a n
def Dev.store (d : Dev) (u : Cpu) (a n : Nat) (v : Word) : Dev × Ans :=
  match u with
  | .mp => d.mpStore a n v
  | .quill k => d.quillStore k.val a n v

/-- A load instruction: `ext` extends the value read (R251, R255). -/
def Dev.ldInstr (d : Dev) (u : Cpu) (f : FmtM) (n : Nat) (ext : Word → Word) : Dev :=
  d.instr u f.cond (fun c =>
    let a := (c.reg f.ra + f.ext).toNat
    if a % n ≠ 0 then .raise d Exc.ALIGN
    else
      let r := d.load u a n
      if r.2.code ≠ RC.OK then .exc Exc.BUS r.2.code 0 r.1
      else .go (r.1.setCore u ((r.1.core u).setReg f.rd (ext (word r.2.words 0)))))

/-- A store instruction. -/
def Dev.stInstr (d : Dev) (u : Cpu) (f : FmtM) (n : Nat) : Dev :=
  d.instr u f.cond (fun c =>
    let a := (c.reg f.ra + f.ext).toNat
    if a % n ≠ 0 then .raise d Exc.ALIGN
    else
      let r := d.store u a n (c.reg f.rd)
      if r.2.code ≠ RC.OK then .exc Exc.BUS r.2.code 0 r.1 else .go r.1)

def cmdLdw (u : Cpu) (f : FmtM) (d : Dev) : Dev := d.ldInstr u f 4 id
def cmdLdh (u : Cpu) (f : FmtM) (d : Dev) : Dev := d.ldInstr u f 2 (fun w => (w.truncate 16).signExtend 32)
def cmdLdhu (u : Cpu) (f : FmtM) (d : Dev) : Dev := d.ldInstr u f 2 id
def cmdLdb (u : Cpu) (f : FmtM) (d : Dev) : Dev := d.ldInstr u f 1 (fun w => (w.truncate 8).signExtend 32)
def cmdLdbu (u : Cpu) (f : FmtM) (d : Dev) : Dev := d.ldInstr u f 1 id
def cmdStw (u : Cpu) (f : FmtM) (d : Dev) : Dev := d.stInstr u f 4
def cmdSth (u : Cpu) (f : FmtM) (d : Dev) : Dev := d.stInstr u f 2
def cmdStb (u : Cpu) (f : FmtM) (d : Dev) : Dev := d.stInstr u f 1

/-- Memories that take ATOM (R255, R266, R268). -/
def atomic (u : Cpu) (a : Nat) : Bool :=
  decide (0x10000000 ≤ a ∧ a < u.dataEnd) || decide (0x30000000 ≤ a ∧ a < 0x30100000)
    || (u.isMp && decide (0x11000000 ≤ a ∧ a < 0x11200000))

/-- ATOM: exchange, add, AND, OR. -/
def cmdAtom (u : Cpu) (f : FmtR) (d : Dev) : Dev :=
  d.instr u f.cond (fun c =>
    let a := (c.reg f.ra).toNat
    let b := c.reg f.rb
    if 3 < f.func.toNat ∨ f.s then .raise d Exc.ILLEGAL
    else if a % 4 ≠ 0 then .raise d Exc.ALIGN
    else if !atomic u a then .exc Exc.BUS RC.NOT_PERMITTED 0 d
    else
      let old := word (d.load u a 4).2.words 0
      let new := if f.func = 0 then b else if f.func = 1 then old + b else if f.func = 2 then old &&& b else old ||| b
      let d1 := (d.store u a 4 new).1
      .go (d1.setCore u ((d1.core u).setReg f.rd old)))

/-- FENCE: every access has taken effect when the next instruction begins; the model's stores do so at once (R256). -/
def cmdFence (u : Cpu) (f : FmtR) (d : Dev) : Dev :=
  d.instr u f.cond (fun _ => if f.bare then .go d else .raise d Exc.ILLEGAL)

/-! Control transfer (R244, R246, R253, R263) -/

/-- BR. -/
def cmdBr (u : Cpu) (f : FmtB) (d : Dev) : Dev :=
  d.transfer u f.cond (fun c => .slot (.jump (wd c.pc + f.dist).toNat))

/-- A call to an address, or SPILL_OVERFLOW before its slot (R246). -/
def Core.callTo (d : Dev) (c : Core) (target : Nat) : Eff :=
  if c.res = 11 ∧ c.spillMax ≤ c.spilled then .raise d Exc.OVERFLOW
  else if target % 4 ≠ 0 then .raise d Exc.ALIGN
  else .slot (.call target (c.pc + 8))

/-- CALL. -/
def cmdCall (u : Cpu) (f : FmtB) (d : Dev) : Dev := d.transfer u f.cond (fun c => c.callTo d (wd c.pc + f.dist).toNat)

/-- JMP. -/
def cmdJmp (u : Cpu) (f : FmtR) (d : Dev) : Dev :=
  d.transfer u f.cond (fun c =>
    if f.rd ≠ 0 ∨ f.rb ≠ 0 ∨ f.s ∨ f.func ≠ 0 then .raise d Exc.ILLEGAL
    else if (c.reg f.ra).toNat % 4 ≠ 0 then .raise d Exc.ALIGN
    else .slot (.jump (c.reg f.ra).toNat))

/-- CALLR. -/
def cmdCallr (u : Cpu) (f : FmtR) (d : Dev) : Dev :=
  d.transfer u f.cond (fun c =>
    if f.rd ≠ 0 ∨ f.rb ≠ 0 ∨ f.s ∨ f.func ≠ 0 then .raise d Exc.ILLEGAL else c.callTo d (c.reg f.ra).toNat)

/-- RET: SPILL_UNDERFLOW before its slot when it needs a fill and nothing is spilled. -/
def cmdRet (u : Cpu) (f : FmtR) (d : Dev) : Dev :=
  d.transfer u f.cond (fun c =>
    if !f.bare then .raise d Exc.ILLEGAL
    else if c.res = 1 ∧ c.spilled = 0 then .raise d Exc.UNDERFLOW
    else if c.lk.toNat % 4 ≠ 0 then .raise d Exc.ALIGN
    else .slot .ret)

/-- RETE. -/
def cmdRete (u : Cpu) (f : FmtR) (d : Dev) : Dev :=
  d.transfer u f.cond (fun c =>
    if !f.bare then .raise d Exc.ILLEGAL
    else if c.epc.toNat % 4 ≠ 0 then .raise d Exc.ALIGN
    else .slot .rete)

/-- TRAP. -/
def cmdTrap (u : Cpu) (f : FmtI) (d : Dev) : Dev :=
  d.instr u f.cond (fun c =>
    if c.slot.isSome ∨ f.rd ≠ 0 ∨ f.ra ≠ 0 ∨ f.s ∨ 256 ≤ f.imm.toNat then .raise d Exc.ILLEGAL
    else .exc Exc.TRAP 0 f.imm.toNat d)

/-! Special registers (R257) -/

/-- MFS; a read of TB_LO latches TB_HI. -/
def cmdMfs (u : Cpu) (f : FmtR) (d : Dev) : Dev :=
  d.instr u f.cond (fun c =>
    if f.ra ≠ 0 ∨ f.rb ≠ 0 ∨ f.s then .raise d Exc.ILLEGAL
    else match c.special u.isMp d.tb f.func.toNat with
      | none => .raise d Exc.ILLEGAL
      | some v =>
        let c1 := if f.func = 6 then { c with tbHi := wd (d.tb / 2 ^ 32) } else c
        .go (d.setCore u (c1.setReg f.rd v)))

/-- MTS. -/
def cmdMts (u : Cpu) (f : FmtR) (d : Dev) : Dev :=
  d.instr u f.cond (fun c =>
    if f.rd ≠ 0 ∨ f.rb ≠ 0 ∨ f.s then .raise d Exc.ILLEGAL
    else match c.setSpecial f.func.toNat (c.reg f.ra) with
      | none => .raise d Exc.ILLEGAL
      | some c1 => .go (d.setCore u c1))

/-! Events, time, operations (R258 to R260; spec/09 R226, R229; spec/18 R444) -/

/-- WFE: takes a set event flag and goes on; otherwise it waits, and on the MP starts the transition that PMU.MODE asks for. A
refused transition completes it at once. -/
def cmdWfe (u : Cpu) (f : FmtR) (d : Dev) : Dev :=
  d.instr u f.cond (fun c =>
    if !f.bare ∨ c.slot.isSome then .raise d Exc.ILLEGAL
    else if c.evt then .go (d.setCore u { c with evt := false })
    else
      let mode := d.fld A.PMU.MODE 2 0
      if u.isMp ∧ mode ≠ 0 then
        let d1 := d.tryEnter (stateOfMode mode)
        .go (if d1.pmu.entering.isSome then d1.onMp (fun c => { c with wait := .wfe }) else d1)
      else .go (d.setCore u { c with wait := .wfe }))

/-- WFE_WAKE: the flag is set; a core waiting in WFE takes it and continues. -/
def effWfeWake (u : Cpu) (d : Dev) : Dev :=
  let c := d.core u
  let asleep := u.isMp && decide (d.pmu.state ≠ .run ∨ d.pmu.entering.isSome)
  if c.wait = .wfe ∧ c.evt ∧ !asleep then d.setCore u { c with wait := .none, evt := false } else d

/-- SEV: the event flag of every core of the cluster. -/
def cmdSev (u : Cpu) (f : FmtR) (d : Dev) : Dev :=
  d.instr u f.cond (fun _ =>
    if !f.bare then .raise d Exc.ILLEGAL
    else match u with
      | .mp => .go (d.onMp (fun c => { c with evt := true }))
      | .quill _ => .go ((List.range 16).foldl (fun d k => d.setQuill k { d.quill k with evt := true }) d))

/-- How far a deadline lies ahead, in ticks; 0 when it is past (R259). -/
def Dev.ahead (d : Dev) (due : Word) : Nat := if (wd d.tb - due).toInt < 0 then (due - wd d.tb).toNat else 0

/-- WAITU. -/
def cmdWaitu (u : Cpu) (f : FmtR) (d : Dev) : Dev :=
  d.instr u f.cond (fun c =>
    if f.rd ≠ 0 ∨ f.rb ≠ 0 ∨ f.s ∨ f.func ≠ 0 then .raise d Exc.ILLEGAL
    else if d.ahead (c.reg f.ra) = 0 then .go d
    else .go (d.setCore u { c with wait := .waitu (c.reg f.ra) }))

/-- WAITU_RESUME: TB reaches the deadline. -/
def effWaituResume (u : Cpu) (d : Dev) : Dev :=
  match (d.core u).wait with
  | .waitu due =>
    let d1 := d.at_ (d.tb + d.ahead due)
    d1.setCore u { d1.core u with wait := .none }
  | _ => d

/-- A core that stopped at its TAKE lets its test start (spec/19 R457). -/
def Dev.takeStopped (d : Dev) (k : Nat) : Dev := if (d.quill k).wait = .stopped then d.bstCoreStopped k else d

/-- TAKE: a Quill core waits for an operation; holding one, OP_STATE. -/
def cmdTake (u : Cpu) (f : FmtR) (d : Dev) : Dev :=
  d.instr u f.cond (fun c =>
    if f.ra ≠ 0 ∨ f.rb ≠ 0 ∨ f.s ∨ f.func ≠ 0 then .raise d Exc.ILLEGAL
    else match u with
      | .mp => .raise d Exc.ILLEGAL
      | .quill k => if c.held.isSome then .raise d Exc.OPSTATE else .go ((d.take k.val (c.place f.rd)).takeStopped k.val))

/-- DONE: the held operation is complete with a status; holding none, OP_STATE. -/
def cmdDone (u : Cpu) (f : FmtR) (d : Dev) : Dev :=
  d.instr u f.cond (fun c =>
    if f.s then .raise d Exc.ILLEGAL
    else match u with
      | .mp => .raise d Exc.ILLEGAL
      | .quill k => if c.held.isNone then .raise d Exc.OPSTATE else .go (d.doneOp k.val ((c.reg f.ra).toNat % 256)))

end Sys2Proof.Machine
end

