-- ==== Sys2Proof/Machine/Boot.lean ====
section
/-! DEFINITION. The cold boot: the slot the ROM selects, the records, the configuration replay, the boot set, READY (spec/17
R414 to R427; spec/19 R453, R462; spec/20 R468). -/

namespace Sys2Proof.Machine

/-! The slot (R423) -/

/-- One of the two slots: false A, true B. -/
def Flash.slot (f : Flash) (b : Bool) : Slot := if b then f.slotB else f.slotA
def Flash.setSlot (f : Flash) (b : Bool) (x : Slot) : Flash := if b then { f with slotB := x } else { f with slotA := x }

/-- Change a slot of the device's flash. -/
def Dev.setSlot (d : Dev) (b : Bool) (x : Slot) : Dev := d.onMgt (fun m => { m with flash := m.flash.setSlot b x })

/-- How the ROM ranks a slot: VALID first, then GOOD by generation; the others do not run. -/
def Slot.rank (x : Slot) : Nat :=
  match x.state with
  | .valid => 2 ^ 40 + x.gen
  | .good => 1 + x.gen
  | _ => 0

/-- Try one slot: a VALID one becomes TRIAL; one that fails verification becomes BAD. -/
def Dev.bootTry (d : Dev) (b : Bool) : Dev × Bool :=
  let x := d.mgt.flash.slot b
  if x.rank = 0 then (d, false)
  else match d.verify x.image with
    | none => (d.setSlot b (if x.state = .valid then { x with state := .trial } else x), true)
    | some _ => (d.setSlot b { x with state := .bad }, false)

/-- The slot that runs, if any. -/
def Dev.bootSelect (d : Dev) : Dev × Option Bool :=
  let first := decide ((d.mgt.flash.slot false).rank < (d.mgt.flash.slot true).rank)
  let (d1, ok1) := d.bootTry first
  if ok1 then (d1, some first)
  else
    let (d2, ok2) := d1.bootTry (!first)
    (d2, if ok2 then some (!first) else none)

/-! A device reset (spec/20 R468; spec/17 R414, R417) -/

/-- The last committed record. -/
def Flash.lastRec (f : Flash) : Option BltRec := f.blotter.flatten.getLast?

/-- The device right after a device reset: everything but OTP, flash and the AON domain at its reset value, the Blotter's
numbering resumed. `aon`: the AON domain kept its supply. -/
def Dev.afterReset (d : Dev) (aon : Bool) : Dev :=
  let f := d.mgt.flash
  let keep : Tab Word := if aon then d.regs.filter (fun e => decide (e.1 = A.PMU.BROWNOUT_CNT)) else []
  let sram : Tab Byte := if aon then d.mp.dmem.filter (fun e => decide (0x60000 ≤ e.1)) else []
  let e : Dev := { Dev.reset with
    regs := keep, mp := { Core.reset true with dmem := sram },
    hci := { Hci.reset with hwmReserve := d.hci.hwmReserve },
    mgt := { Mgt.reset with otp := d.mgt.otp, flash := f, temps := d.mgt.temps, volts := d.mgt.volts, iin := d.mgt.iin,
                            nextSeq := max 1 f.reservation, commitSeq := match f.lastRec with
                              | some r => r.seq
                              | none => 0,
                            epoch := match f.lastRec with
                              | some r => r.time + 1
                              | none => 0 },
    pmu := { Pmu.reset with state := .run, aonUa := d.pmu.aonUa },
    port := if aon then d.port else .bypass, out := d.out, free := d.free }
  e.hwmResume

/-! The boot (R415, R423, R427, R453) -/

/-- Every block (spec/02 R62). -/
def allBlks : List Blk :=
  [.glb, .hci, .pmu, .mgt, .tmu, .rgl, .pci, .bst] ++
    ([Radio.a, .b, .c].map (fun r => [Blk.rfe r, .phy r, .mac r])).flatten ++
    [.mld, .asc, .qar, .tmg, .pke] ++ (List.range 10).map Blk.eth ++ [.mem, .msh]

/-- Present blocks are powered. -/
def Dev.powerUp (d : Dev) : Dev :=
  allBlks.foldl (fun d b => if d.present b then d.setBlk b { d.blk b with power := 3 } else d) d

/-- Present blocks are initialized; MEM is READY once its controller serves (spec/14 R344). -/
def Dev.bringUp (d : Dev) : Dev :=
  allBlks.foldl (fun d b => if d.present b && decide (b ≠ .mem) then d.setBlk b { d.blk b with inited := true } else d) d

/-- The BOOT record's arguments (R415). -/
def bootArgs (cause detail : Nat) (run : Option Bool) (x : Slot) (lastSeq : Nat) : List Word :=
  [wd (cause + detail % 256 * 2 ^ 8 + b2n (run.getD false) * 2 ^ 16), wd (if run.isSome then x.gen else 0),
   wd (if run.isSome then leNat ((x.image.drop 16).take 4) else 0), wd lastSeq]

/-- A slot that was still in TRIAL did not confirm: BAD, its record, the cause (R423). With no slot booted, the record's third
argument is a free value. -/
def Dev.rollback (d : Dev) (b : Bool) (gen : Nat) (run : Option Bool) : Dev :=
  let (d1, w) := match run with
    | some r => (d, b2n r)
    | none => (d.took, d.freeVal (2 ^ 32))
  (d1.blotter 0x030 4 0x0021 [wd (b2n b), wd gen, wd w]).raise .mgt Cause.MGT.UPD_ROLLBACK

/-- One write of the replay: a refused one is skipped and recorded (R427). -/
def Dev.replayOne (d : Dev) (e : Nat × Word) : Dev :=
  let r := d.regWrite .mp e.1 e.2
  if r.2.code = RC.OK then r.1 else r.1.blotter 0x030 0 0x0024 [wd e.1, e.2, wd r.2.code]

/-- The image's configuration component as register writes. -/
def configOf : List Word → List (Nat × Word)
  | a :: v :: ws => (a.toNat, v) :: configOf ws
  | _ => []

/-- CONFIG_REPLAY: the configuration component, then the journal in order. -/
def Dev.cfgReplay (d : Dev) : Dev :=
  (configOf (bytesWords (d.runningPart 7)) ++ d.mgt.flash.journal.flatten).foldl Dev.replayOne d

/-- The units of the boot set, in the order of R451. -/
def Dev.bootSet (d : Dev) : List Nat :=
  let s := d.rd A.BST.BOOT_SEL
  (if bitOf s 0 then [1, 2, 3] else []) ++ (if bitOf s 1 then (List.range 16).map (fun k => 0x10 + k) else []) ++
    (if bitOf s 2 then (List.range d.ports).map (fun n => 0x20 + n) else []) ++ (if bitOf s 3 then [0x30] else []) ++
    (if bitOf s 4 then [0x31] else []) ++ (if bitOf s 5 then [0x32] else []) ++ (if bitOf s 6 then [0x33] else []) ++
    (if bitOf s 7 then [0x34] else [])

/-- BOOT_SELFTEST of one unit. `bad` lists the units whose signature or memories differ: code, signature, mismatches, first failing
address. A failed data-plane unit leaves the data plane without READY; a failed core keeps RUN clear (spec/19 R453, R462). -/
def Dev.bootTest (bad : List (Nat × Nat × Nat × Nat)) (d : Dev) (c : Nat) : Dev :=
  match unitOf c with
  | none => d
  | some u =>
    let m := match bad.find? (fun e => decide (e.1 = c)) with
      | some e => e.2
      | none => (Config.bistSignature d.mgt.otp.variant.toNat c, 0, 0)
    let d1 := ((d.onBst (fun x => { x with phase := .running, unit := c, start := d.tb, runStart := d.tb, mib := d.dramMib })).count
      A.BST.RUN_CNT)
    let d2 := (d1.at_ (d1.tb + usT (d1.unitUs u))).bstEnd 0 u.patterns m.1 m.2.1 m.2.2
    let d3 := d2.onBst (fun x => { x with phase := .idle, unit := 0 })
    if !d3.bst.failed.contains c then d3
    else match u with
      | .radio r => d3.quiesce r
      | .quill k => (d3.wr A.QAR.CORE_CTRL (d3.rd A.QAR.CORE_CTRL &&& ~~~ oneBit k)).setQuill k ((d3.quill k).restart .stopped)
      | .eth _ => d3
      | _ => dpBlks.foldl (fun d b => d.setBlk b { d.blk b with failed := true }) d3

/-- The boot after the slot is chosen: records, firmware, replay, boot set, READY. -/
def Dev.bootRun (d : Dev) (bad : List (Nat × Nat × Nat × Nat)) (cause : Nat) (b : Bool) : Dev :=
  let d1 := d.onMgt (fun m => { m with stage := 2, slot := b, unsigned := d.unsignedOk })
  let d2 := ({ d1 with mp := d1.mpLoadFw d1.mp.dmem } : Dev).qarLoad
  let d3 := d2.cfgReplay
  let d4 := (d3.bootSet.foldl (Dev.bootTest bad) d3).bringUp
  let d5 := d4.onMgt (fun m => { m with wdogAt := d4.tb })
  let trial := decide ((d5.mgt.flash.slot b).state = .trial)
  let d6 := if trial then
      d5.onMgt (fun m => { m with upd := .trial, trialDue := some (d5.tb + sT (d5.fld A.MGT.UPD_CFG 15 0)) })
    else d5
  if cause = 8 then d6.raise .pmu Cause.PMU.RESUME_FAIL else d6

/-- The fastest mode that a flash's SFDP table offers: bit 0 of `sfdp` is x4 SDR, bit 1 x8 DTR; x1 is always there (spec/21 R487). -/
def flashModeOf (sfdp : Nat) : FlashMode := if sfdp / 2 % 2 = 1 then .x8dtr else if sfdp % 2 = 1 then .x4sdr else .x1

/-- A cold boot with its cause and the detail of its BOOT record: the ROM selects, verifies and runs a slot, or enters recovery; a
slot still in TRIAL is BAD. The ROM first reads the flash in x1 mode, then in the fastest its SFDP table offers (spec/21 R487).
In END the ROM stops before it loads firmware (R430). `second`: another record of the boot; `bad` lists the units of the boot set that
fail (R415, R423). -/
def Dev.coldBoot (d : Dev) (sfdp : Nat) (bad : List (Nat × Nat × Nat × Nat)) (cause detail : Nat) (second : Option (Nat × List Word)) : Dev :=
  let aon := decide (1 < cause)
  let d1 := ((d.afterReset aon).rglLoad).powerUp
  let old := d1.mgt.flash
  let fail (b : Bool) (d : Dev) : Dev := if (old.slot b).state = .trial then d.setSlot b { old.slot b with state := .bad } else d
  let fast := d1.onMgt (fun m => { m with flashMode := flashModeOf sfdp })
  let ended := decide (d.mgt.otp.lc = .end_)
  let (d2, run) := if ended then (fast, none) else (fail true (fail false fast)).bootSelect
  let x := d2.mgt.flash.slot (run.getD false)
  let d3 := (d2.onMgt (fun m => { m with bootCause := cause, bootDetail := detail })).blotter 0x030 0 0x0001
    (bootArgs cause detail run x d2.mgt.commitSeq)
  let d4 := match second with
    | some (code, ws) => d3.blotter 0x030 0 code ws
    | none => d3
  let back (b : Bool) (d : Dev) : Dev := if (old.slot b).state = .trial then d.rollback b (old.slot b).gen run else d
  let d5 := if ended then d4 else back true (back false d4)
  match run with
  | some b => d5.bootRun bad cause b
  | none => [Blk.glb, .hci, .pmu, .mgt, .pci].foldl (fun d b => d.setBlk b { d.blk b with inited := true })
      (d5.onMgt (fun m => { m with stage := if ended then 0 else 3 }))

/-- What a boot finds: the modes the flash's SFDP table offers (bit 0 x4 SDR, bit 1 x8 DTR; spec/21 R487), and the units of the boot
set that fail, with signature, mismatches and first failing address (spec/19 R453). -/
structure BootSeen where
  sfdp : Nat
  bad : List (Nat × Nat × Nat × Nat)
deriving DecidableEq, Repr

/-- COLD_BOOT: the boot that a power-on, a supply event, WAKE_N in OFF, a failed resume, or a device reset that is due asks for
(R423; spec/20 R468). -/
def effColdBoot (x : BootSeen) (d : Dev) : Dev :=
  let p := d.pmu
  match (if p.state = .held ∨ p.state = .off then none else d.mgt.resetDue) with
  | some (_, c) => d.coldBoot x.sfdp x.bad c 0 none
  | none => if p.state = .booting then d.coldBoot x.sfdp x.bad p.nextCause p.nextDetail p.second else d

end Sys2Proof.Machine
end

