-- ==== Sys2Proof/Syntax.lean ====
section
/-! DEFINITION. The commands and events of the SPW93: one constructor per row of the opcode table, with the row's operands. What only
the world outside decides (what a radio measures, what stands in host memory, which bytes arrive) is an operand. -/

namespace Sys2Proof

open Sys2Proof.Machine

/-- A command or event. `rq` names a request's session, FLAGS and TAG. -/
inductive Instr where
  /-- HELLO (R42): Opens a session on a transport and agrees the interface version under the common negotiation rule. `m`: the
  request, its OP that of the row. -/
  | hello (src : Src) (m : Msg)
  /-- READ (R27): Reads consecutive registers of one page after checking the whole range first. `m`: the request, its OP that
  of the row. -/
  | read (src : Src) (m : Msg)
  /-- WRITE (R27): Writes consecutive registers in ascending order and stops at the first refused word. `m`: the request, its
  OP that of the row. -/
  | write (src : Src) (m : Msg)
  /-- MODIFY (R25): Read-modify-writes one register under a mask and returns the new value. `m`: the request, its OP that of
  the row. -/
  | modify (src : Src) (m : Msg)
  /-- WATCH (R37): Registers a wait for a change of HCI.ATTN_SEQ, replacing any open WATCH of the session. `m`: the request,
  its OP that of the row. -/
  | watch (src : Src) (m : Msg)
  /-- WATCH_TIMEOUT (R37): An open WATCH whose timeout expires is answered with DETAIL 1. `src`: the session whose WATCH ends.
  -/
  | watchTimeout (src : Src)
  /-- ATTN_SCAN (R40): Reports pages with pending causes in ascending order from a given page. `m`: the request, its OP that
  of the row. -/
  | attnScan (src : Src) (m : Msg)
  /-- CLOSE (R42): Ends the session and its open WATCH once the reply has been sent. `m`: the request, its OP that of the row.
  -/
  | close (src : Src) (m : Msg)
  /-- NOP (R25): Does nothing and replies with the current status word. `m`: the request, its OP that of the row. -/
  | nop (src : Src) (m : Msg)
  /-- REQUEST_PRODUCER_WRITE (R497): Host writes a request ring producer index; the device takes the new entries up to it.
  Ring pair `n`, the index word written, and the new entries that stand in host memory up to it. -/
  | requestProducerWrite (n : Nat) (v : Word) (es : List RingEnt)
  /-- REPLY_CONSUMER_WRITE (R497): Host frees reply ring entries, letting the device write further replies. Ring pair `n`, the
  index word written. -/
  | replyConsumerWrite (n : Nat) (v : Word)
  /-- RING_CONFIG_WRITE (R45): Host writes a ring pair's base, size, type or ENABLE, starting, stopping or refusing the pair.
  BAR0 offset and the word written. -/
  | ringConfigWrite (off : Nat) (v : Word)
  /-- PCIE_LINK_DOWN (R47): The PCIe link goes down, clearing ENABLE on every ring pair and ending control sessions. -/
  | pcieLinkDown
  /-- SPI_REQUEST (R49): An SPI REQUEST transaction delivers a request, or is discarded when not accepting or on CRC failure.
  The bytes of the transaction. -/
  | spiRequest (bs : List Byte)
  /-- SPI_REPLY (R50): An SPI REPLY transaction shifts out the oldest waiting reply and consumes it at CS_N rise. How many
  bytes were clocked before CS_N rose. -/
  | spiReply (clocks : Nat)
  /-- SPI_STATUS (R48): An SPI STATUS transaction returns the status word and HCI.ATTN_SEQ. -/
  | spiStatus
  /-- ACP_DATAGRAM (R53): An ACP datagram arrives and is authenticated, replay-checked and executed or discarded. Port,
  sender, carrier and bytes of the datagram. -/
  | acpDatagram (port : Nat) (peer : Nat) (udp : Bool) (bs : List Byte)
  /-- ACP_SESSION_IDLE (R56): An ACP session without an accepted datagram for IDLE_S seconds is closed. The session's ID. -/
  | acpSessionIdle (id : Nat)
  /-- ACP_KEY_WRITE (R57): A write to an ACP key slot installs the key and closes every session using it. Key slot and the
  words of the key. -/
  | acpKeyWrite (rq : Rq) (slot : Nat) (ws : List Word)
  /-- SOFT_RESET (R59): A write of PG_CTRL.SOFT_RESET starts a block reset to register reset values. Page; `v`: PG_CTRL
  written, with SOFT_RESET set. -/
  | softReset (rq : Rq) (page : Nat) (v : Word)
  /-- SOFT_RESET_DONE (R59): A block reset completes and the block sets READY again. The block. -/
  | softResetDone (b : Blk)
  /-- PG_ENABLE_WRITE (R58): A write of PG_CTRL.ENABLE puts a block in or out of service, subject to its preconditions. Page;
  `v`: PG_CTRL written. -/
  | pgEnableWrite (rq : Rq) (page : Nat) (v : Word)
  /-- PG_ISOLATE_WRITE (R58): A host write that changes PG_CTRL.ISOLATE, refused outside TEST and RETURN. Page; `v`: PG_CTRL
  written. -/
  | pgIsolateWrite (rq : Rq) (page : Nat) (v : Word)
  /-- PG_LOCK_SET (R60): Setting PG_LOCK.LOCK makes the page's RWL fields read-only until the next reset. Page. -/
  | pgLockSet (rq : Rq) (page : Nat)
  /-- ATTN_CAUSE_CLEAR (R35): Writing 1 to ATTN_CAUSE bits clears them unless their condition persists. Page; `v`: the causes
  to clear. -/
  | attnCauseClear (rq : Rq) (page : Nat) (v : Word)
  /-- ATTN_MASK_WRITE (R36): A write of ATTN_MASK masks or unmasks causes, changing the pending set. Page; `v`: the mask. -/
  | attnMaskWrite (rq : Rq) (page : Nat) (v : Word)
  /-- ATTN_CLASS_WRITE (R34): A write of ATTN_CLASS sets group classes, refused for class 0, 7 or a fixed group. Page; `v`:
  the classes. -/
  | attnClassWrite (rq : Rq) (page : Nat) (v : Word)
  /-- ATTN_FORCE_WRITE (R40): A write of ATTN_FORCE sets cause bits for testing in TEST and RETURN only. Page; `v`: the causes
  to force. -/
  | attnForceWrite (rq : Rq) (page : Nat) (v : Word)
  /-- COUNTER_WRITE (R64): A write of 0 clears a counter; any other value leaves it unchanged. Address of the counter; `v`:
  the word written. -/
  | counterWrite (rq : Rq) (a : Nat) (v : Word)
  /-- REGISTER_WRITE (R30): A write to a register that has no behaviour of its own takes effect or is refused. Address of the
  register; `v`: the word written. -/
  | registerWrite (rq : Rq) (a : Nat) (v : Word)
  /-- STATE_CMD_WRITE (R69): A write of RFE_x.STATE_CMD.TARGET sets the radio's resting state and starts moving toward it.
  `v`: the word written. -/
  | stateCmdWrite (rq : Rq) (r : Radio) (v : Word)
  /-- CHAN_WRITE (R92): A write of RFE_x.CHAN stores a new channel or starts a channel change. `v`: the word written. -/
  | chanWrite (rq : Rq) (r : Radio) (v : Word)
  /-- CHAIN_EN_WRITE (R5): A write of chain enables, refused with ABSENT for fused-off chains. `v`: the word written. -/
  | chainEnWrite (rq : Rq) (r : Radio) (v : Word)
  /-- RADIO_TRANSITION_DONE (R68): An elementary radio state transition completes and the radio moves on toward its target.
  The radio. -/
  | radioTransitionDone (r : Radio)
  /-- SYN_CAL_PHASE_DONE (R71): A synthesizer calibration phase (band select, fine tune, settle or image refresh) ends. `m`: what
  the phase measures: the image calibration's two attempts and the transmit corrections. -/
  | synCalPhaseDone (r : Radio) (m : CalMeas)
  /-- TEMP_DRIFT_RECAL_DUE (R71): Transceiver temperature drift reaches RECAL_DT and a synthesizer recalibration falls due.
  `t`: the radio's temperature now, in 0.125 °C. -/
  | tempDriftRecalDue (r : Radio) (t : Int)
  /-- PERIODIC_CAL_DUE (R77): The periodic image and IQ calibration falls due by time or temperature change. `t`: the radio's
  temperature now, in 0.125 °C. -/
  | periodicCalDue (r : Radio) (t : Int)
  /-- QUIET_WINDOW_START (R78): MAC_x places a quiet window with a CTS-to-self and runs the due calibrations. `durUs`: length
  of the window, µs. -/
  | quietWindowStart (r : Radio) (durUs : Nat)
  /-- QUIET_WINDOW_END (R78): The quiet window's reservation ends and AVAIL_x is set again. The radio. -/
  | quietWindowEnd (r : Radio)
  /-- CAL_DEFER_EXPIRY (R79): A due calibration stays unplaced for MAX_DEFER_MS and cause CAL_OVERDUE is set. The radio. -/
  | calDeferExpiry (r : Radio)
  /-- TRANSMIT_COMMAND (R73): MAC_x issues a transmit command; the radio predicts the start and transmits or refuses TX_LATE.
  The TX vector, the frames it carries, and whether the precoders are ready. -/
  | transmitCommand (r : Radio) (x : TxVec) (fids : List Nat) (ready : Bool)
  /-- SYN_UNLOCK (R75): The lock detector reports loss of lock; transmission ends and relock starts. The radio. -/
  | synUnlock (r : Radio)
  /-- SYN_RELOCK_DONE (R75): The synthesizer regains lock after fine tune and settle or a full calibration. Whether the
  synthesizer locked. -/
  | synRelockDone (r : Radio) (ok : Bool)
  /-- DUTY_HOLD_RELEASE (R90): A held transmission starts once the duty window allows it. The radio. -/
  | dutyHoldRelease (r : Radio)
  /-- RGL_ENABLE_WRITE (R91): Writing RGL PG_CTRL.ENABLE 0 stops every transmission on every radio. `v`: PG_CTRL of RGL
  written. -/
  | rglEnableWrite (rq : Rq) (v : Word)
  /-- RGL_FIELD_WRITE (R87): A write of an RGL field limit tightens the effective limits from the next start check. Index of
  the word from FIELD_CHAN on; `v`: the word written. -/
  | rglFieldWrite (rq : Rq) (k : Nat) (v : Word)
  /-- RGL_TEST_WRITE (R86): A write of RGL.TEST_Wn supplies limits in RAW and TEST, refused otherwise. Index of the TEST word;
  `v`: the word written. -/
  | rglTestWrite (rq : Rq) (k : Nat) (v : Word)
  /-- ENERGY_RISE (R96): In-band power rises above DET_LVL and the receiver enters SETTLE. Power measured, dBm. -/
  | energyRise (r : Radio) (power : Int)
  /-- DETECTION (R98): Detection is declared at an 0.8 µs boundary; AGC freezes and the guard window opens. What the detectors
  measured. -/
  | detection (r : Radio) (x : Detect)
  /-- SETTLE_TIMEOUT (R98): No detection within 6.4 µs of the energy rise; the PHY returns to LISTEN. The radio. -/
  | settleTimeout (r : Radio)
  /-- FALSESTART_ABORT (R106): A recorded L-STF is confirmed above the rise threshold and the reception aborts. The guard's
  recordings and the gains found again. -/
  | falsestartAbort (r : Radio) (recs : List GuardRec) (lna : Nat) (vga : Nat)
  /-- AFC_FREEZE (R104): AFC freezes at the end of the L-LTF, or the reception ends for an out-of-range estimate. Carrier
  offset measured, Hz. -/
  | afcFreeze (r : Radio) (cfo : Int)
  /-- L_SIG_RESULT (R106): L-SIG validates and the reception enters BODY, or fails and aborts. Whether L-SIG passed, what the
  headers say, the guard's recordings and gains. -/
  | lSigResult (r : Radio) (ok : Bool) (sig : SigInfo) (recs : List GuardRec) (lna : Nat) (vga : Nat)
  /-- DSSS_HEADER_RESULT (R100): The DSSS/CCK PLCP header CRC result closes the guard window or aborts. Whether the header
  passed, its preamble, rate and length, the offset measured. -/
  | dsssHeaderResult (r : Radio) (ok : Bool) (short : Bool) (rate : Nat) (durUs : Nat) (cfo : Int)
  /-- SIG_FAIL (R108): A later signal field fails and the PHY enters HOLD. The radio. -/
  | sigFail (r : Radio)
  /-- OVERTAKE (R109): A stronger PPDU correlates and the weaker reception is abandoned for it. The later preamble's start,
  power and gains, and what was received of the first PPDU's user and of its other users. -/
  | overtake (r : Radio) (start : Nat) (power : Int) (lna : Nat) (vga : Nat) (u : RxRep × List RxMpdu)
    (us : List (RxRep × List RxMpdu))
  /-- OBSS_PD (R113): An OBSS PPDU below the OBSS-PD level ends its reception at the end of HE-SIG-A or U-SIG. RSSI measured,
  dBm. -/
  | obssPd (r : Radio) (rssi : Int)
  /-- RX_PPDU_END (R117): A reception in BODY ends and the PHY passes its MPDUs and report to MAC_x. Per user, the report
  measured and the MPDUs decoded. -/
  | rxPpduEnd (r : Radio) (us : List (RxRep × List RxMpdu))
  /-- HOLD_END (R116): A HOLD reaches the end given by L-SIG and reports SIG_FAIL or UNSUPPORTED. What the report of the held
  PPDU measures. -/
  | holdEnd (r : Radio) (m : RxRep)
  /-- RADAR_PULSE (R114): PHY_B detects a radar pulse and enters it in the radar FIFO. Subchannel, power and width of the
  pulse. -/
  | radarPulse (sub : Nat) (power : Int) (width : Nat)
  /-- RADAR_FIFO1_READ (R114): A read of RADAR_FIFO1 removes the oldest radar entry. -/
  | radarFifo1Read (rq : Rq)
  /-- PRECODER_READY (R124): Precoder computation completes and a waiting steered PPDU may start. The radio. -/
  | precoderReady (r : Radio)
  /-- TX_PPDU_END (R130): A transmitted PPDU ends and the PHY passes its transmit report to MAC_x. Power detected per chain.
  -/
  | txPpduEnd (r : Radio) (detect : List Int)
  /-- BACKOFF_EXPIRY (R134): A queue's backoff counter reaches zero and the MAC starts a TXOP. The access categories whose
  counters reach 0, and the start chosen for the PPDU. -/
  | backoffExpiry (r : Radio) (acs : List Nat) (x : TxStart)
  /-- TXOP_NEXT_PPDU (R133): SIFS after a PPDU or response, the next PPDU of the TXOP starts. The start chosen for the PPDU.
  -/
  | txopNextPpdu (r : Radio) (x : TxStart)
  /-- SIFS_RESPONSE (R141): A hardware response falls due at SIFS after an eliciting PPDU and is sent or skipped. Air time of
  the response, µs. -/
  | sifsResponse (r : Radio) (durUs : Nat)
  /-- RESPONSE_TIMEOUT (R144): The response wait expires without the expected response; the attempt fails. The radio. -/
  | responseTimeout (r : Radio)
  /-- TBTT (R156): A BSS's TBTT arrives; the beacon is queued and an unsent earlier beacon is dropped. BSS index. -/
  | tbtt (r : Radio) (b : Nat)
  /-- TWT_SP_START (R160): A TWT service period begins on the radio. TWT agreement. -/
  | twtSpStart (r : Radio) (id : Nat)
  /-- TWT_SP_END (R160): A TWT service period ends. TWT agreement. -/
  | twtSpEnd (r : Radio) (id : Nat)
  /-- KEY_SET (R152): Installs a pairwise or group key with its PNs. `ws`: the payload. -/
  | keySet (rq : Rq) (r : Radio) (ws : List Word)
  /-- KEY_CLEAR (R152): Empties a key slot. `ws`: the payload. -/
  | keyClear (rq : Rq) (r : Radio) (ws : List Word)
  /-- KEY_PN (R152): Returns the transmit and receive PNs of a key slot. `ws`: the payload. -/
  | keyPn (rq : Rq) (r : Radio) (ws : List Word)
  /-- BSS_SET (R154): Writes a BSS of a radio. `ws`: the payload. -/
  | bssSet (rq : Rq) (r : Radio) (ws : List Word)
  /-- BEACON_SET (R155): Writes a chunk of a beacon template, applied from the next TBTT after the last chunk. `ws`: the
  payload. -/
  | beaconSet (rq : Rq) (r : Radio) (ws : List Word)
  /-- TWT_SET (R159): Writes or removes a TWT schedule. `ws`: the payload. -/
  | twtSet (rq : Rq) (r : Radio) (ws : List Word)
  /-- TWT_JOIN (R159): Adds a station to or removes it from a broadcast or restricted schedule. `ws`: the payload. -/
  | twtJoin (rq : Rq) (r : Radio) (ws : List Word)
  /-- TX_REQUEST (R163): A transmit request entry of TYPE 0x10 is checked and queued or completed with an error. Data ring
  `n`, the entry's words, and the frame that stands in host memory. -/
  | txRequest (n : Nat) (ws : List Word) (h : Hdr)
  /-- RX_BUFFER_POST (R166): The host posts a receive buffer entry of TYPE 0x20. Data ring `n` and the entry's words. -/
  | rxBufferPost (n : Nat) (ws : List Word)
  /-- MAC_ADDR_WRITE (R167): A write of MAC_x.ADDR_LO or ADDR_HI sets the radio's MAC address. Which of the two words; `v`:
  the word written. -/
  | macAddrWrite (rq : Rq) (r : Radio) (hi : Bool) (v : Word)
  /-- AP_MLD_SET (R169): Defines or removes an AP MLD. `ws`: the payload. -/
  | apMldSet (rq : Rq) (ws : List Word)
  /-- STA_SET (R170): Enters or updates a station, station MLD or mesh peer. `ws`: the payload. -/
  | staSet (rq : Rq) (ws : List Word)
  /-- STA_DEL (R171): Removes a station, its agreements and state, completing its queued frames STA_GONE. `ws`: the payload.
  -/
  | staDel (rq : Rq) (ws : List Word)
  /-- BA_SET (R172): Adds or removes a BlockAck agreement. `ws`: the payload. -/
  | baSet (rq : Rq) (ws : List Word)
  /-- LINK_CTRL_WRITE (R180): A write of MLD.LINK_CTRL disables or re-enables links for Baton. `v`: the word written. -/
  | linkCtrlWrite (rq : Rq) (v : Word)
  /-- QUIESCE_DONE (R181): A radio under quiesce holds no TXOP, response wait or bound MPDU; QUIESCED is set. The radio. -/
  | quiesceDone (r : Radio)
  /-- REORDER_HOLE_TIMEOUT (R182): A reorder hole timer expires and the hole is released in order. Station and TID. -/
  | reorderHoleTimeout (sta : Nat) (tid : Nat)
  /-- ROUND_START (R186): A grid boundary starts a round for a radio, submitting its graph or skipping it. The radio. -/
  | roundStart (r : Radio)
  /-- STA_POLICY (R203): Sets a station's policy and per-link capabilities. `ws`: the payload. -/
  | staPolicy (rq : Rq) (ws : List Word)
  /-- HEAT_PLAN (R205): Writes a chunk of a Heat plan; the last chunk returns the admission result. `ws`: the payload. -/
  | heatPlan (rq : Rq) (ws : List Word)
  /-- HEAT_CLEAR (R205): Removes both Heat plan slots of a radio. `ws`: the payload. -/
  | heatClear (rq : Rq) (ws : List Word)
  /-- ALLOC_GET (R188): Returns a chunk of the newest good allocation of a radio. `ws`: the payload. -/
  | allocGet (rq : Rq) (ws : List Word)
  /-- HEAT_PLAN_ACTIVATE (R209): A pending plan takes force at the first period start at or after its activation. The radio.
  -/
  | heatPlanActivate (r : Radio)
  /-- HEAT_ROUND_SUBMIT (R210): A Heat round is submitted at launch minus LEAD_US minus PERIOD_US. The radio. -/
  | heatRoundSubmit (r : Radio)
  /-- HEAT_LAUNCH (R211): At the Heat start the node launches its exchange or stays silent. The start chosen for the Heat's
  PPDU. -/
  | heatLaunch (r : Radio) (x : TxStart)
  /-- HEAT_END (R211): A Heat ends and contention resumes after AIFS. The radio. -/
  | heatEnd (r : Radio)
  /-- SUBMIT (R222): Submits a graph instance to the dispatcher or writes a REFUSE record. `ws`: the payload. -/
  | submit (rq : Rq) (ws : List Word)
  /-- TPL_LOAD (R220): Writes a chunk of a graph template; the last chunk validates it. `ws`: the payload. -/
  | tplLoad (rq : Rq) (ws : List Word)
  /-- DUCTUS_GET (R238): Returns up to 64 Ductus records from a record number. `ws`: the payload. -/
  | ductusGet (rq : Rq) (ws : List Word)
  /-- DUCTUS_TRIGGER (R239): DUCTUS_CTRL with bit 0 set writes a TRIGGER record and starts the post-trigger count. DUCTUS_CTRL
  with bit 0. -/
  | ductusTrigger (rq : Rq)
  /-- DUCTUS_RESUME (R239): DUCTUS_CTRL with bit 1 set clears STOPPED and TRIGGERED and resumes recording. DUCTUS_CTRL with
  bit 1. -/
  | ductusResume (rq : Rq)
  /-- DUCTUS_POST_DONE (R239): POST records after a trigger have been written; Ductus stops. -/
  | ductusPostDone
  /-- CORE_RUN_WRITE (R217): A write of QAR.CORE_CTRL.RUN starts cores or stops them at their next TAKE. `v`: the word
  written. -/
  | coreRunWrite (rq : Rq) (v : Word)
  /-- TRACE_PUT0_WRITE (R237): A core writes the first word of a decision record. Core and word. -/
  | tracePut0Write (k : Fin 16) (v : Word)
  /-- TRACE_PUT1_WRITE (R237): A core's write of TRACE_PUT1 commits a decision record to Ductus. Core and word. -/
  | tracePut1Write (k : Fin 16) (v : Word)
  /-- LIMIT_EXPIRY (R231): An operation held beyond LIMIT resets its core and cancels its instance. Core. -/
  | limitExpiry (k : Fin 16)
  /-- INSTANCE_DEADLINE (R232): TB reaches an incomplete instance's deadline and the instance is cancelled. Instance. -/
  | instanceDeadline (k : Nat)
  /-- TAKE_ASSIGN (R226): The dispatcher assigns a ready operation to the longest-waiting core in TAKE. -/
  | takeAssign
  /-- FETCH_START (R269): A write of FGO starts a DRAM fetch into Quill data memory. Core and the length written to FGO. -/
  | fetchStart (k : Fin 16) (v : Word)
  /-- FETCH_COMPLETE (R269): A fetch completes, writes its completion word and sets the core's event flag. Core. -/
  | fetchComplete (k : Fin 16)
  /-- ALU (R252): Executes a register ALU operation selected by func. The core that executes it, and its fields. -/
  | alu (u : Cpu) (f : FmtR)
  /-- ADDI (R251): Adds a sign-extended immediate. The core that executes it, and its fields. -/
  | addi (u : Cpu) (f : FmtI)
  /-- SUBI (R251): Subtracts a sign-extended immediate. The core that executes it, and its fields. -/
  | subi (u : Cpu) (f : FmtI)
  /-- ANDI (R251): ANDs with an immediate. The core that executes it, and its fields. -/
  | andi (u : Cpu) (f : FmtI)
  /-- ORI (R251): ORs with an immediate. The core that executes it, and its fields. -/
  | ori (u : Cpu) (f : FmtI)
  /-- XORI (R251): XORs with an immediate. The core that executes it, and its fields. -/
  | xori (u : Cpu) (f : FmtI)
  /-- SHLI (R251): Shifts left by an immediate. The core that executes it, and its fields. -/
  | shli (u : Cpu) (f : FmtI)
  /-- SHRI (R251): Shifts right logically by an immediate. The core that executes it, and its fields. -/
  | shri (u : Cpu) (f : FmtI)
  /-- SARI (R251): Shifts right arithmetically by an immediate. The core that executes it, and its fields. -/
  | sari (u : Cpu) (f : FmtI)
  /-- RORI (R251): Rotates right by an immediate. The core that executes it, and its fields. -/
  | rori (u : Cpu) (f : FmtI)
  /-- MULI (R251): Multiplies by an immediate, keeping the low 32 bits. The core that executes it, and its fields. -/
  | muli (u : Cpu) (f : FmtI)
  /-- LDW (R255): Loads a word. The core that executes it, and its fields. -/
  | ldw (u : Cpu) (f : FmtM)
  /-- LDH (R255): Loads a sign-extended half-word. The core that executes it, and its fields. -/
  | ldh (u : Cpu) (f : FmtM)
  /-- LDHU (R255): Loads a zero-extended half-word. The core that executes it, and its fields. -/
  | ldhu (u : Cpu) (f : FmtM)
  /-- LDB (R255): Loads a sign-extended byte. The core that executes it, and its fields. -/
  | ldb (u : Cpu) (f : FmtM)
  /-- LDBU (R255): Loads a zero-extended byte. The core that executes it, and its fields. -/
  | ldbu (u : Cpu) (f : FmtM)
  /-- STW (R255): Stores a word. The core that executes it, and its fields. -/
  | stw (u : Cpu) (f : FmtM)
  /-- STH (R255): Stores a half-word. The core that executes it, and its fields. -/
  | sth (u : Cpu) (f : FmtM)
  /-- STB (R255): Stores a byte. The core that executes it, and its fields. -/
  | stb (u : Cpu) (f : FmtM)
  /-- ATOM (R255): Performs an atomic exchange, add, AND or OR on a word. The core that executes it, and its fields. -/
  | atom (u : Cpu) (f : FmtR)
  /-- MOVL (R251): Loads a 16-bit immediate into a register. The core that executes it, and its fields. -/
  | movl (u : Cpu) (f : FmtU)
  /-- MOVH (R251): Loads a 16-bit immediate into a register's high half. The core that executes it, and its fields. -/
  | movh (u : Cpu) (f : FmtU)
  /-- BR (R253): Branches relative after its delay slot. The core that executes it, and its fields. -/
  | br (u : Cpu) (f : FmtB)
  /-- CALL (R244): Calls relative, advancing the window after its delay slot. The core that executes it, and its fields. -/
  | call (u : Cpu) (f : FmtB)
  /-- JMP (R253): Jumps to a register address after its delay slot. The core that executes it, and its fields. -/
  | jmp (u : Cpu) (f : FmtR)
  /-- CALLR (R244): Calls a register address, advancing the window. The core that executes it, and its fields. -/
  | callr (u : Cpu) (f : FmtR)
  /-- RET (R244): Returns to LK and retreats the window after its slot. The core that executes it, and its fields. -/
  | ret (u : Cpu) (f : FmtR)
  /-- RETE (R263): Returns from an exception, clearing PSR.EXC. The core that executes it, and its fields. -/
  | rete (u : Cpu) (f : FmtR)
  /-- TRAP (R261): Raises the TRAP exception with a code. The core that executes it, and its fields. -/
  | trap (u : Cpu) (f : FmtI)
  /-- WFE (R258): Waits for the event flag, or on the MP starts a power-state transition. The core that executes it, and its
  fields. -/
  | wfe (u : Cpu) (f : FmtR)
  /-- WFE_WAKE (R258): The event flag is set and a core waiting in WFE continues. The core. -/
  | wfeWake (u : Cpu)
  /-- SEV (R258): Sets the event flag in every core of the cluster. The core that executes it, and its fields. -/
  | sev (u : Cpu) (f : FmtR)
  /-- WAITU (R259): Stalls until TB reaches a deadline. The core that executes it, and its fields. -/
  | waitu (u : Cpu) (f : FmtR)
  /-- WAITU_RESUME (R259): TB reaches the WAITU deadline and the core continues. The core. -/
  | waituResume (u : Cpu)
  /-- TAKE (R260): Requests an operation from the dispatcher, blocking until one is assigned. The core that executes it, and
  its fields. -/
  | take (u : Cpu) (f : FmtR)
  /-- DONE (R229): Completes the held operation with a status. The core that executes it, and its fields. -/
  | done (u : Cpu) (f : FmtR)
  /-- MFS (R257): Reads a special register. The core that executes it, and its fields. -/
  | mfs (u : Cpu) (f : FmtR)
  /-- MTS (R257): Writes a special register. The core that executes it, and its fields. -/
  | mts (u : Cpu) (f : FmtR)
  /-- FENCE (R256): Waits until earlier accesses are complete and visible. The core that executes it, and its fields. -/
  | fence (u : Cpu) (f : FmtR)
  /-- QUEUE_SET (R278): Assigns a queue its profile and Pacer. `ws`: the payload. -/
  | queueSet (rq : Rq) (ws : List Word)
  /-- PROFILE_SET (R277): Writes a queue profile's limits. `ws`: the payload. -/
  | profileSet (rq : Rq) (ws : List Word)
  /-- PACER_SET (R284): Configures a Pacer, enabling it at once or applying at its next refill. `ws`: the payload. -/
  | pacerSet (rq : Rq) (ws : List Word)
  /-- METER_SET (R285): Configures a srTCM or trTCM meter. `ws`: the payload. -/
  | meterSet (rq : Rq) (ws : List Word)
  /-- METER_STAT (R287): Returns a meter's colour counts. `ws`: the payload. -/
  | meterStat (rq : Rq) (ws : List Word)
  /-- QUEUE_STAT (R289): Returns a queue's depth, entries and drop and age counts. `ws`: the payload. -/
  | queueStat (rq : Rq) (ws : List Word)
  /-- QUEUE_FLUSH (R289): Empties a queue from the head. `ws`: the payload. -/
  | queueFlush (rq : Rq) (ws : List Word)
  /-- PACER_REFILL (R284): A Pacer's refill instant adds credit and applies pending configuration. Pacer. -/
  | pacerRefill (k : Nat)
  /-- AGE_CHECK (R288): The 1 ms age check removes aged entries from a queue's head. Queue. -/
  | ageCheck (q : Nat)
  /-- SPILL_WRITE_DONE (R282): A spill write to DRAM completes and the entry's Inkwell cells are released. Queue. -/
  | spillWriteDone (q : Nat)
  /-- REFILL_DONE (R282): A head entry returns from DRAM to Inkwell. Queue. -/
  | refillDone (q : Nat)
  /-- HOST_RING_ADMIT_RESUME (R280): A stalled host frame can now be admitted and the ring is served again. Data ring. -/
  | hostRingAdmitResume (n : Nat)
  /-- SPILL_CFG_WRITE (R281): A write of SPILL_BASE or SPILL_SIZE, refused while the TMG is enabled. Which of SPILL_BASE_LO,
  SPILL_BASE_HI, SPILL_SIZE; `v`: the word written. -/
  | spillCfgWrite (rq : Rq) (k : Nat) (v : Word)
  /-- ETH_TX_START (R290): The port scheduler starts an eligible frame on an Ethernet port. Port; whether an Inkwell read of
  the frame is corrected, or cannot be. -/
  | ethTxStart (n : Nat) (ce : Bool) (ue : Bool)
  /-- ETH_TX_FRAME_END (R325): A frame finishes transmission on a port and releases its cells. Port. -/
  | ethTxFrameEnd (n : Nat)
  /-- PKE_ADMIT (R292): The input arbiter admits a frame into a PKE pipeline. -/
  | pkeAdmit
  /-- FLOW_BUCKET_READ_DONE (R302): A flow bucket read from DRAM returns and the waiting lookup continues. The frame that
  waits for it. -/
  | flowBucketReadDone (id : Nat)
  /-- SEQUENCE_RELEASE (R295): The sequencer hands a frame to the TMG once earlier frames of its domain are passed. The frame.
  -/
  | sequenceRelease (id : Nat)
  /-- HOST_FRAME_SEND (R314): A TYPE 0x30 host frame enters the PKE or is queued directly. Data ring, the entry's words, and
  the frame in host memory. -/
  | hostFrameSend (n : Nat) (ws : List Word) (h : Hdr)
  /-- HOLD_RELEASE (R312): A TYPE 0x30 entry with RELEASE continues or discards a held domain. Data ring and the entry's
  words, RELEASE among them. -/
  | holdRelease (n : Nat) (ws : List Word)
  /-- HOLD_TIMEOUT (R312): A hold reaches HOLD_MS and ends as a discard. The hold's token. -/
  | holdTimeout (token : Nat)
  /-- H_BUFFER_POST (R313): The host posts a TYPE 0x40 receive buffer for frames, exceptions and notices. Data ring and the
  entry's words. -/
  | hBufferPost (n : Nat) (ws : List Word)
  /-- FLOW_SCAN (R304): The scanner removes a flow idle for IDLE_S and sends FLOW_EXPIRED. The flow the scan reaches. -/
  | flowScan (k : FlowKey)
  /-- L2_AGE_OUT (R298): A learned L2 entry unused as a source for AGE_S ages out. The entry. -/
  | l2AgeOut (vlan : Nat) (mac : Nat)
  /-- L2_SET (R315): Writes or deletes an L2 table entry. `ws`: the payload. -/
  | l2Set (rq : Rq) (ws : List Word)
  /-- VLAN_SET (R315): Writes a VLAN's members and flags. `ws`: the payload. -/
  | vlanSet (rq : Rq) (ws : List Word)
  /-- PORT_VLAN (R297): Sets a source's PVID, ACCEPT mode and default class. `ws`: the payload. -/
  | portVlan (rq : Rq) (ws : List Word)
  /-- BSS_VLAN (R297): Sets a BSS's VLAN. `ws`: the payload. -/
  | bssVlan (rq : Rq) (ws : List Word)
  /-- STA_VLAN (R297): Sets a station's VLAN. `ws`: the payload. -/
  | staVlan (rq : Rq) (ws : List Word)
  /-- IF_SET (R300): Writes an L3 interface. `ws`: the payload. -/
  | ifSet (rq : Rq) (ws : List Word)
  /-- NH_SET (R300): Writes a next hop. `ws`: the payload. -/
  | nhSet (rq : Rq) (ws : List Word)
  /-- ROUTE_ADD (R315): Adds or replaces a route. `ws`: the payload. -/
  | routeAdd (rq : Rq) (ws : List Word)
  /-- ROUTE_DEL (R315): Deletes a route. `ws`: the payload. -/
  | routeDel (rq : Rq) (ws : List Word)
  /-- FLOW_ADD (R303): Installs or replaces a flow entry. `ws`: the payload. -/
  | flowAdd (rq : Rq) (ws : List Word)
  /-- FLOW_DEL (R303): Deletes a flow entry. `ws`: the payload. -/
  | flowDel (rq : Rq) (ws : List Word)
  /-- FLOW_GET (R303): Returns a flow entry and its counts. `ws`: the payload. -/
  | flowGet (rq : Rq) (ws : List Word)
  /-- ACL_SET (R306): Writes an ACL rule. `ws`: the payload. -/
  | aclSet (rq : Rq) (ws : List Word)
  /-- LOCAL_SET (R315): Writes a local-address table entry. `ws`: the payload. -/
  | localSet (rq : Rq) (ws : List Word)
  /-- MAP_SET (R308): Writes a DSCP or PCP map entry. `ws`: the payload. -/
  | mapSet (rq : Rq) (ws : List Word)
  /-- L2_FLUSH (R315): Removes learned L2 entries of one or all VLANs. `ws`: the payload. -/
  | l2Flush (rq : Rq) (ws : List Word)
  /-- ETH_MODE_WRITE (R318): A write of ETH_n.MODE takes the link down and restarts it in the new mode. Port; `v`: the word
  written. -/
  | ethModeWrite (rq : Rq) (n : Nat) (v : Word)
  /-- LINK_UP (R318): A port's link comes up and verification and Stride offers restart. Port; what auto-negotiation agreed.
  -/
  | linkUp (n : Nat) (an : Nat)
  /-- LINK_DOWN (R318): A port's link is lost; the frame on the wire aborts and pause state clears. Port; whether the local,
  or the remote, side lost it. -/
  | linkDown (n : Nat) (loc : Bool) (rem : Bool)
  /-- ETH_RX_FRAME (R319): A received frame is checked for size, FCS and cells and handed on whole. Port; what arrived. -/
  | ethRxFrame (n : Nat) (x : EthIn)
  /-- XOFF_REFRESH (R326): Half the sent pause time passes while above XON and XOFF is resent. Port. -/
  | xoffRefresh (n : Nat)
  /-- PAUSE_RX (R324): A received PAUSE frame pauses, reloads or ends the pause of every class. Port; destination and pause
  time of the frame. -/
  | pauseRx (n : Nat) (dst : Nat) (quanta : Nat)
  /-- PFC_RX (R324): A received PFC frame pauses, reloads or ends the pause of its classes. Port; destination, class enables
  and times of the frame. -/
  | pfcRx (n : Nat) (dst : Nat) (enables : Nat) (times : List Nat)
  /-- PAUSE_TIMER_EXPIRY (R324): A class's received pause timer runs out and the class resumes. Port and class. -/
  | pauseTimerExpiry (n : Nat) (c : Nat)
  /-- VERIFY_TIMER (R328): VERIFY_MS passes and a Verify mPacket is resent or verification fails. Port. -/
  | verifyTimer (n : Nat)
  /-- LPI_ENTRY (R329): IDLE_US passes with nothing eligible and the port enters LPI. Port. -/
  | lpiEntry (n : Nat)
  /-- LPI_WAKE_DONE (R329): WAKE_US after leaving LPI the port sends its frame. Port. -/
  | lpiWakeDone (n : Nat)
  /-- STRIDE_OFFER_TIMER (R331): An OFFER is sent at link-up and every 10 s until the partner's OFFER arrives. Port. -/
  | strideOfferTimer (n : Nat)
  /-- STRIDE_OFFER_RX (R331): A received OFFER agrees a Stride version with the partner. Port; the versions offered. -/
  | strideOfferRx (n : Nat) (mn : Nat) (mx : Nat)
  /-- STRIDE_REQUEST_RX (R332): A received REQUEST is answered with ACK or NAK. Port; the request's fields and its sender. -/
  | strideRequestRx (n : Nat) (ver : Nat) (target : Nat) (fec : Nat) (xid : Nat) (sender : Nat)
  /-- STRIDE_ACK_RX (R332): A received ACK fixes the switch instant S. Port; the answer's fields. -/
  | strideAckRx (n : Nat) (xid : Nat) (lead : Nat)
  /-- STRIDE_NAK_RX (R332): A received NAK ends the change with RESULT NAK. Port; the answer's field. -/
  | strideNakRx (n : Nat) (xid : Nat)
  /-- STRIDE_START (R332): Starts a Stride change by queuing a REQUEST. `ws`: the payload. -/
  | strideStart (rq : Rq) (n : Nat) (ws : List Word)
  /-- STRIDE_ANSWER_TIMEOUT (R332): No ACK or NAK within 1 ms ends the change with RESULT TIMEOUT. Port. -/
  | strideAnswerTimeout (n : Nat)
  /-- STRIDE_QUIET_START (R332): At S − G both ends stop starting frames. Port. -/
  | strideQuietStart (n : Nat)
  /-- STRIDE_SWITCH (R332): At S both SerDes change rate. Port. -/
  | strideSwitch (n : Nat)
  /-- STRIDE_BLOCK_LOCK (R332): Block lock at the new rate is reached and the port resumes. Port. -/
  | strideBlockLock (n : Nat)
  /-- STRIDE_RELOCK_TIMEOUT (R332): No lock within 200 µs of S; the link restarts with RESULT RELOCK. Port. -/
  | strideRelockTimeout (n : Nat)
  /-- ETH_MAC_WRITE (R334): A write of ETH_n.MAC_LO or MAC_HI sets the port's own address. Port; which of the two words; `v`:
  the word written. -/
  | ethMacWrite (rq : Rq) (n : Nat) (hi : Bool) (v : Word)
  /-- PTP_FRAME_RX (R363): A PTP frame on a PTP port is handed to the PTP instance with its timestamps. Port; the frame's
  header, whether its FCS is good, the PTP message. -/
  | ptpFrameRx (n : Nat) (h : Hdr) (fcs : Bool) (x : PtpIn)
  /-- INK_PART_WRITE (R338): A write of INK_PART0 or INK_PART1, accepted only before COMMIT. Which of the two words; `v`: the
  word written. -/
  | inkPartWrite (rq : Rq) (k : Nat) (v : Word)
  /-- INK_COMMIT (R338): Setting INK_CTRL.COMMIT fixes the Inkwell partition until device reset. -/
  | inkCommit (rq : Rq)
  /-- INK_PEAK_CLEAR (R336): Writing 0 to INK_USE_x.PEAK restarts its peak tracking. The share. -/
  | inkPeakClear (rq : Rq) (k : Nat)
  /-- DDR_CFG_WRITE (R342): A write of DDR_CFG configuration fields, refused while EN is 1. `v`: the word written. -/
  | ddrCfgWrite (rq : Rq) (v : Word)
  /-- DDR_ENABLE (R342): Setting DDR_CFG.EN starts boot training. `v`: DDR_CFG written, with EN set. -/
  | ddrEnable (rq : Rq) (v : Word)
  /-- DDR_DISABLE (R499): Clearing DDR_CFG.EN stops the controller after outstanding requests complete. `v`: DDR_CFG written,
  with EN clear. -/
  | ddrDisable (rq : Rq) (v : Word)
  /-- DDR_STOP_DONE (R499): The controller finishes its outstanding requests and reads off. -/
  | ddrStopDone
  /-- DDR_TRAINING_DONE (R343): A boot or fast training completes or fails twice. Whether the training passed. -/
  | ddrTrainingDone (ok : Bool)
  /-- DDR_INIT_EARLY_DONE (R344): The first EARLY_MIB are initialized and the controller starts serving. -/
  | ddrInitEarlyDone
  /-- DDR_INIT_DONE (R344): Background initialization reaches the end of DRAM. -/
  | ddrInitDone
  /-- DDR_REFRESH (R345): tREFI passes and a rank receives an all-bank refresh. Rank; whether a request at urgency 3 waits. -/
  | ddrRefresh (rank : Nat) (urgent : Bool)
  /-- MR4_POLL (R345): Every 16 ms the controller reads MR4 of every rank. Per rank, whether MR4 reports above 85 °C. -/
  | mr4Poll (hot0 : Bool) (hot1 : Bool)
  /-- DQS_OSC_READ (R343): Every OSC_MS the DQS oscillator is read, re-centering on drift. Drift measured, ps. -/
  | dqsOscRead (drift : Nat)
  /-- ZQ_CAL (R343): Every ZQ_MS a ZQ calibration runs. -/
  | zqCal
  /-- DDR_READ_RETURN (R348): A DRAM read burst returns and is corrected, flagged POISON or freezes the controller. Client
  port, address, erroneous bytes found, syndrome, latency. -/
  | ddrReadReturn (port : Nat) (addr : Nat) (errs : Nat) (synd : List Word) (ns : Nat)
  /-- WRITE_CRC_ALERT (R349): The DRAM reports a write CRC error on ALERT_n and the write is retried. Client port, whether the
  write was partial, address, failed retries. -/
  | writeCrcAlert (port : Nat) (part : Bool) (addr : Nat) (retries : Nat)
  /-- PATROL_SCRUB (R348): The patrol scrub reads and corrects the next line. Erroneous bytes found, syndrome. -/
  | patrolScrub (errs : Nat) (synd : List Word)
  /-- THAW (R350): Ends a freeze by poisoning the captured line and resuming requests. `ws`: the payload. -/
  | thaw (rq : Rq) (ws : List Word)
  /-- THAW_DONE (R350): A THAW's training and held writes complete and FROZEN clears. -/
  | thawDone
  /-- DP_RESET (R350): Starts a data-plane reset, or joins one in progress. `ws`: the payload. -/
  | dpReset (rq : Rq) (ws : List Word)
  /-- DATA_PLANE_RESET_DONE (R20): The reset blocks are restored from shadow copies and report READY. -/
  | dataPlaneResetDone
  /-- FREEZE_WATCHDOG (R351): A freeze unanswered for WDOG_MS starts a data-plane reset. -/
  | freezeWatchdog
  /-- TIME_GET (R355): Returns TB and PTP time of one tick. `ws`: the payload. -/
  | timeGet (rq : Rq) (ws : List Word)
  /-- TIME_SET (R360): Steps the PTP clock to a value or by an offset. `ws`: the payload. -/
  | timeSet (rq : Rq) (ws : List Word)
  /-- TSF_SET (R372): Writes a BSS's TSF offset. `ws`: the payload. -/
  | tsfSet (rq : Rq) (ws : List Word)
  /-- TS_SEND (R364): Queues a frame for sending at a PTP launch time with an egress timestamp. `ws`: the payload. -/
  | tsSend (rq : Rq) (ws : List Word)
  /-- TS_SEND_LAUNCH (R364): The TS_SEND frame leaves at its launch, or is refused late. Port. -/
  | tsSendLaunch (n : Nat)
  /-- OFS_PUT (R357): The host supplies an offset sample to the servo. `ws`: the payload. -/
  | ofsPut (rq : Rq) (ws : List Word)
  /-- TB2PTP (R356): Converts a TB value to PTP time from the history. `ws`: the payload. -/
  | tb2ptp (rq : Rq) (ws : List Word)
  /-- SOURCE_TIMEOUT (R358): A source's last sample becomes older than 4 intervals and it is no longer valid. The source's
  code. -/
  | sourceTimeout (c : Nat)
  /-- HOLDOVER_EXPIRY (R361): HOLDOVER_S passes without a sample and the servo becomes FREE. -/
  | holdoverExpiry
  /-- PTP_SYNC_TIMER (R362): As master, the PTP instance sends Sync every 2^LOG_SYNC s. -/
  | ptpSyncTimer
  /-- FTM_BURST_START (R366): An FTM burst to the time parent starts every period. -/
  | ftmBurstStart
  /-- FTM_BURST_END (R366): An FTM burst ends and its median offset is a servo sample. The radio and the four time stamps of
  each exchange; the parent's hop count. -/
  | ftmBurstEnd (b : FtmBurst) (hops : Nat)
  /-- PPS_IN_EDGE (R367): A rising edge on PPS_IN is captured as a phase sample or ignored. The edge's position within the
  tick. -/
  | ppsInEdge (sub : Nat)
  /-- PPS_OUT_EDGE (R367): A PTP second boundary raises PPS_OUT for WIDTH_MS. -/
  | ppsOutEdge
  /-- TIMED_LAUNCH (R369): A timed frame's launch time arrives and it is sent, contends or is late. Radio, queue, the
  vector, what the start meets. -/
  | timedLaunch (r : Radio) (q : Nat) (v : TxVec) (x : TimedSeen)
  /-- F0_WINDOW (R374): An 8 s window measures the 32 kHz frequency against the PTP clock. Frequency and temperature measured.
  -/
  | f0Window (f0 : Int) (te : Int)
  /-- MESH_ENABLE_WRITE (R381): Setting MESH_CFG.EN starts candidacy or scanning. `v`: the word written. -/
  | meshEnableWrite (rq : Rq) (v : Word)
  /-- CANDIDATE_LISTEN_END (R381): Three intervals pass without a better candidate and the node becomes root. -/
  | candidateListenEnd
  /-- UPLINK_HOLD_EXPIRY (R382): A root without uplink for UPLINK_HOLD_S resigns. -/
  | uplinkHoldExpiry
  /-- MESH_BEACON_RX (R384): A mesh beacon is heard, for scanning, parent choice or resignation. The beacon. -/
  | meshBeaconRx (b : MeshBeacon)
  /-- SCAN_DWELL_EXPIRY (R383): DWELL_MS passes on a channel and the node tunes to the next entry. -/
  | scanDwellExpiry
  /-- PARENT_LISTEN_END (R384): One beacon interval passes and the node chooses a parent. -/
  | parentListenEnd
  /-- JOIN_REQ_RX (R385): A parent receives JOIN_REQ and admits it or answers JOIN_WAIT. Version and the request. -/
  | joinReqRx (ver : Nat) (q : JoinReq)
  /-- JOIN_ACCEPT_RX (R385): A node receives JOIN_ACCEPT and installs its key and address. The message's fields. -/
  | joinAcceptRx (ver : Nat) (mac : Nat) (addr : Nat) (nonce : Nat)
  /-- JOIN_WAIT_RX (R385): A node told to wait sends again after the parent's next beacon. The message's fields. -/
  | joinWaitRx (ver : Nat) (mac : Nat)
  /-- JOIN_TIMEOUT (R387): No JOIN_ACCEPT within JOIN_TIMEOUT intervals; the node chooses again. -/
  | joinTimeout
  /-- ADDR_REQ_RX (R386): The root receives ADDR_REQ and queues it for the next GRANT. The message, its type ADDR_REQ. -/
  | addrReqRx (m : MeshMsg)
  /-- GRANT_SEND (R386): Just after its beacon the root floods a GRANT of pending entries. -/
  | grantSend
  /-- LEASE_RENEW_TIMER (R379): Every LEASE_S / 2 a node sends LEASE_RENEW toward the root. -/
  | leaseRenewTimer
  /-- LEASE_RENEW_RX (R379): The root receives LEASE_RENEW and renews the lease in its next GRANT. The message, its type
  LEASE_RENEW. -/
  | leaseRenewRx (m : MeshMsg)
  /-- LEASE_EXPIRY (R379): A lease without renewal expires and its address is freed or given up. The root's lease, or none for
  the node's own. -/
  | leaseExpiry (addr : Option Nat)
  /-- FLOOD_RX (R391): Relay receives a flood, delivers it and schedules its forward. The message. -/
  | floodRx (m : MeshMsg)
  /-- RELAY_FORWARD (R391): After the jitter delay a flood is forwarded or suppressed. -/
  | relayForward
  /-- SEEN_EXPIRY (R392): A seen-cache entry expires 8 s after insertion. -/
  | seenExpiry
  /-- UP_MESSAGE_RX (R393): An Up message is forwarded to the parent or held while searching. The message. -/
  | upMessageRx (m : MeshMsg)
  /-- PARENT_BEACON_LOSS (R395): Three parent TBTTs pass without a beacon and the parent is lost. -/
  | parentBeaconLoss
  /-- SLEEP_SET (R396): Sets a leaf node's listen interval and sends SLEEP_SCHED. `ws`: the payload. -/
  | sleepSet (rq : Rq) (ws : List Word)
  /-- SLEEP_SCHED_RX (R396): A parent starts treating its child as a station in power save. The message's fields. -/
  | sleepSchedRx (ver : Nat) (mac : Nat) (l : Nat)
  /-- WAKE_WINDOW_OPEN (R397): A sleeping child's wake window opens around the parent's TBTT. -/
  | wakeWindowOpen
  /-- WAKE_WINDOW_CLOSE (R398): A wake window closes without the parent's beacon and counts a miss. -/
  | wakeWindowClose
  /-- SEARCH_TIMEOUT (R399): Four intervals pass in SEARCH without an eligible parent; the node scans. -/
  | searchTimeout
  /-- CHILD_TIMEOUT (R399): A child unheard for its limit is removed with STA_DEL. The child. -/
  | childTimeout (mac : Nat)
  /-- DARK_START (R400): A dark period starts; the node drains its queues and enters DEEP. -/
  | darkStart
  /-- DARK_END (R400): A dark period ends; the node wakes and beacons again. -/
  | darkEnd
  /-- DARK_RETRY (R401): A refused DEEP entry in a dark period is retried every 1 s. -/
  | darkRetry
  /-- GROUP_REPORT_TIMER (R402): Every LEASE_S / 2 a member sends GROUP_REPORT. -/
  | groupReportTimer
  /-- FLOOD_SEND (R391): The host originates a flood through Relay. `ws`: the payload. -/
  | floodSend (rq : Rq) (ws : List Word)
  /-- LEASE_GET (R379): Returns the lease holder and remaining time of an address at the root. `ws`: the payload. -/
  | leaseGet (rq : Rq) (ws : List Word)
  /-- MESH_KEY_SET (R377): Installs the mesh key. `ws`: the payload. -/
  | meshKeySet (rq : Rq) (ws : List Word)
  /-- MSG_GET (R389): Returns the oldest mesh inbox entry. `ws`: the payload. -/
  | msgGet (rq : Rq) (ws : List Word)
  /-- MP_WDOG_EXPIRY (R409): MGT.WDOG is not written in time; the MP restarts or the device resets. -/
  | mpWdogExpiry
  /-- WDOG_WRITE (R409): A write of MGT.WDOG restarts the MP watchdog. `v`: the word written. -/
  | wdogWrite (rq : Rq) (v : Word)
  /-- MP_RESTART_DONE (R409): The MP firmware is reloaded and MGT sets READY again. -/
  | mpRestartDone
  /-- DRAM_WIN_WRITE (R408): A write of MGT.DRAM_WIN.BASE selects the MP's DRAM window. `v`: the word written. -/
  | dramWinWrite (rq : Rq) (v : Word)
  /-- TEMP_WARN (R411): A temperature sensor reaches WARN_C and cause TEMP_WARN is set. Sensor and what it reads, in 0.125 °C.
  -/
  | tempWarn (k : Nat) (t : Int)
  /-- THERMAL_TRIP (R412): A sensor reaches 125 °C and the PMU removes power and cold-boots after 1 s. Sensor and what it
  reads, in 0.125 °C. -/
  | thermalTrip (k : Nat) (t : Int)
  /-- BLT_COMMIT_TIMER (R416): COMMIT_MS passes since the oldest uncommitted record and the group is committed. -/
  | bltCommitTimer
  /-- BLT_COMMIT (R416): Commits the open Blotter group to flash. `ws`: the payload. -/
  | bltCommit (rq : Rq) (ws : List Word)
  /-- BLT_READ (R419): Returns up to 32 Blotter records from a SEQ. `ws`: the payload. -/
  | bltRead (rq : Rq) (ws : List Word)
  /-- FLASH_OP_DONE (R416): A flash program, erase or commit operation completes. Whether the operation succeeded. -/
  | flashOpDone (ok : Bool)
  /-- COLD_BOOT (R423): The boot ROM selects, verifies and runs a slot or enters recovery. The modes the flash's SFDP table offers
  (bit 0 x4 SDR, bit 1 x8 DTR); the units of the boot set that fail: code, signature, mismatches, first failing address. -/
  | coldBoot (x : BootSeen)
  /-- UPD_BEGIN (R424): Starts an update by erasing the inactive slot. `ws`: the payload. -/
  | updBegin (rq : Rq) (ws : List Word)
  /-- UPD_ERASE_DONE (R424): The inactive slot's erase completes and the update is RECEIVING. -/
  | updEraseDone
  /-- UPD_WRITE (R424): Writes image bytes at the expected offset. `ws`: the payload. -/
  | updWrite (rq : Rq) (ws : List Word)
  /-- UPD_FINISH (R424): Verifies the received image and marks the slot VALID or FAILED. `ws`: the payload. -/
  | updFinish (rq : Rq) (ws : List Word)
  /-- UPD_ACTIVATE (R424): Cold-boots the device 10 ms later into the new slot as a trial. `ws`: the payload. -/
  | updActivate (rq : Rq) (ws : List Word)
  /-- UPD_CONFIRM (R424): Marks the trial slot GOOD and advances the anti-rollback counter. `ws`: the payload. -/
  | updConfirm (rq : Rq) (ws : List Word)
  /-- UPD_ABORT (R424): Abandons an update and leaves the slot EMPTY. `ws`: the payload. -/
  | updAbort (rq : Rq) (ws : List Word)
  /-- UPD_TRIAL_TIMEOUT (R424): TRIAL_S passes without confirmation and the MP resets the device. -/
  | updTrialTimeout
  /-- CFG_STAGE (R428): Appends register writes to the staging buffer. `ws`: the payload. -/
  | cfgStage (rq : Rq) (ws : List Word)
  /-- CFG_COMMIT (R428): Writes the staged writes to the journal as one entry. `ws`: the payload. -/
  | cfgCommit (rq : Rq) (ws : List Word)
  /-- CFG_DISCARD (R428): Empties the staging buffer. `ws`: the payload. -/
  | cfgDiscard (rq : Rq) (ws : List Word)
  /-- OTP_KEY (R432): Programs a key hash in PROVISION. `ws`: the payload. -/
  | otpKey (rq : Rq) (ws : List Word)
  /-- KEY_REVOKE (R426): Programs a key's revocation fuse. `ws`: the payload. -/
  | keyRevoke (rq : Rq) (ws : List Word)
  /-- OTP_REG (R432): Programs and locks the OTP regulatory page. `ws`: the payload. -/
  | otpReg (rq : Rq) (ws : List Word)
  /-- LC_ADVANCE (R430): Advances the life-cycle state and cold-boots. `ws`: the payload. -/
  | lcAdvance (rq : Rq) (ws : List Word)
  /-- LC_NONCE (R431): Returns a nonce for a return token. `ws`: the payload. -/
  | lcNonce (rq : Rq) (ws : List Word)
  /-- VIN_WARN (R429): VIN falls below WARN_MV; flash writes stop and the Blotter group is committed. VM0, mV. -/
  | vinWarn (mv : Nat)
  /-- VIN_WARN_CLEAR (R437): VIN stays above WARN_MV + 200 mV for 10 ms and the cause clears. VM0, mV. -/
  | vinWarnClear (mv : Nat)
  /-- POWER_ON (R476): VIN crosses 4.5 V and the cold boot timeline starts. -/
  | powerOn
  /-- BROWN_OUT (R436): VIN or a rail falls too low and the device is held in reset. 0 VIN, 1 to 5 the failing rail's monitor;
  whether VIN fell below 3.0 V. -/
  | brownOut (rail : Nat) (lost : Bool)
  /-- AON_OVERCURRENT (R440): The AON regulator exceeds 3 mA for 100 µs and the device cold-boots. The current, µA. -/
  | aonOvercurrent (ua : Nat)
  /-- STATE_ENTRY_DONE (R444): The PMU completes entry to IDLE, SLEEP, DEEP or OFF. -/
  | stateEntryDone
  /-- WAKE_N_LOW (R445): WAKE_N low wakes the device or cold-boots it from OFF. -/
  | wakeNLow
  /-- WAKE_TIMER (R445): TB reaches PMU.WAKE_AT minus the exit time and the exit begins. -/
  | wakeTimer
  /-- SPI_CS_WAKE (R445): SPI CS_N falling wakes the device. -/
  | spiCsWake
  /-- STATE_EXIT_DONE (R446): The fixed exit sequence completes and the device is in RUN. Whether the checks of a DEEP exit
  pass. -/
  | stateExitDone (ok : Bool)
  /-- BLOCK_IDLE_GATE (R442): A block's idle time passes and it is clock-gated or retained. The block. -/
  | blockIdleGate (b : Blk)
  /-- BLOCK_WAKE_DONE (R442): A woken block completes its wake and accepts requests. The block. -/
  | blockWakeDone (b : Blk)
  /-- TEST_START (R454): Starts a self-test of a unit, quiescing it first. `ws`: the payload. -/
  | testStart (rq : Rq) (ws : List Word)
  /-- TEST_ABORT (R459): Ends the running self-test early. `ws`: the payload. -/
  | testAbort (rq : Rq) (ws : List Word)
  /-- TEST_RESULT (R464): Returns the latest test result of a unit in native or SPW71 format. `ws`: the payload. -/
  | testResult (rq : Rq) (ws : List Word)
  /-- TEST_PATTERNS_DONE (R461): A test's patterns finish and the signature decides the result. Signature, memory mismatches,
  first failing address. -/
  | testPatternsDone (sig : Nat) (mism : Nat) (first : Nat)
  /-- TEST_OVERRUN (R459): A test runs beyond twice its duration and ends INCOMPLETE. Patterns executed. -/
  | testOverrun (executed : Nat)
  /-- TEST_REINIT_DONE (R456): The tested unit is re-initialized and reports READY. -/
  | testReinitDone
  /-- COMMAND_PATH_PARITY_ERROR (R349): A parity error on the controller's command path, or a CA parity error reported by the
  DRAM, freezes the controller with cause 3. The DRAM command, client port and address. -/
  | commandPathParityError (c : Nat) (port : Nat) (addr : Nat)
  /-- BROWN_OUT_RELEASE (R436): After a brown-out, once VIN has stayed above 4.5 V for 10 ms, the PMU releases reset and
  cold-boots the device. -/
  | brownOutRelease
  /-- PCIE_LINK_UP (R47): The PCIe link trains, so the host can rewrite and enable ring pairs and the PCI block and PLL leave
  their down state. -/
  | pcieLinkUp
  /-- TMU_MS_TICK (R407): The TMU 1 ms tick sets MGT.EVT_PEND bit 2 and, when selected, the MP's event flag. What the sensors
  read: TS0 on in 0.125 °C, VM0 on in mV, IIN in mA. -/
  | tmuMsTick (temps : List Int) (volts : List Nat) (iin : Nat)
  /-- AON_TEMP_SAMPLE (R374): In DEEP, the AON samples die temperature every TSAMPLE_S and applies the compensated 32 kHz
  frequency. The temperature sampled. -/
  | aonTempSample (temp : Int)
  /-- ED_BUSY_CHANGE (R112): A subchannel's 4 µs averaged power crosses ED_LVL, changing its ED-busy bit and the slot idleness
  used by EDCA. Subchannel and power measured, dBm. -/
  | edBusyChange (r : Radio) (sub : Nat) (power : Int)
  /-- SECONDARY_PD_DETECT (R99): A preamble detected on secondary subchannels only, at or above PD_LVL, sets PD-busy on them
  for its L-SIG duration. Subchannel, power and length of what was detected. -/
  | secondaryPdDetect (r : Radio) (sub : Nat) (power : Int) (durUs : Nat)
  /-- NAV_EXPIRY (R135): The basic, intra-BSS or own NAV counts down to zero, so slots may count as idle again and writes that
  the own NAV refused are accepted. The radio. -/
  | navExpiry (r : Radio)
  /-- TEST_PORT_INSTRUCTION (R489): An instruction shifted into the IEEE 1149.1 port takes effect, or selects BYPASS outside
  RAW, TEST and RETURN. The instruction shifted in. -/
  | testPortInstruction (inst : PortInstr)
deriving DecidableEq, Repr

end Sys2Proof
end

