-- ==== Sys2Proof/Machine/State.lean ====
section
/-! DEFINITION. The state of the model: the device, and the commands that wait, first in, first out. -/

namespace Sys2Proof.Machine

/-- The state: everything the spec gives the device, and the queue of commands and events not yet executed. -/
structure State where
  dev : Dev
  /-- the commands that wait, the next one first -/
  pending : List Instr
deriving DecidableEq, Repr

/-- No command stops with a fault: an access to an address that the spec says does not exist answers BAD_ADDRESS or raises an
exception, as the spec says. -/
inductive Fault where
deriving DecidableEq, Repr

/-- Why a command has no meaning. -/
inductive Refusal where
  /-- a row of the opcode table without a meaning: raised by an arm of exec for a row not modelled; safe, the machine stops -/
  | notModelled (mnemonic : String)
deriving DecidableEq, Repr

/-- The machine right after reset: the device held in reset at power-on, no command waiting (spec/20 R468, R476). -/
def State.reset : State := { dev := Dev.reset, pending := [] }

end Sys2Proof.Machine
end

