-- ==== Sys2Proof/Machine/Hci.lean ====
section
/-! DEFINITION. Requests: their checks, the operations of R25, and the COMMANDs of every block (spec/02 R24 to R42). -/

namespace Sys2Proof.Machine

/-! Operations (R25) -/
def OP.HELLO : Nat := 0x01
def OP.READ : Nat := 0x02
def OP.WRITE : Nat := 0x03
def OP.MODIFY : Nat := 0x04
def OP.WATCH : Nat := 0x05
def OP.ATTN_SCAN : Nat := 0x06
def OP.COMMAND : Nat := 0x07
def OP.CLOSE : Nat := 0x08
def OP.NOP : Nat := 0x0F

/-- The agreed version of a session; the MP's own requests need none. -/
def Dev.version (d : Dev) : Src → Option Nat
  | .pcie n => (d.ring n).session
  | .spi => d.hci.spi.session
  | .acp id => (tabFind d.hci.acp id).map (fun a => a.version)
  | .mp => some 3

/-- Words of reply payload that a request allows (R44). -/
def replyRoom (src : Src) (ind : Bool) : Nat :=
  match src with
  | .pcie _ => if ind then 256 else 12
  | _ => 256

/-- A request came over PCIe. -/
def Src.isPcie : Src → Bool
  | .pcie _ => true
  | _ => false

/-- What every request meets by its header and its session (R24, R25, R42, R44). -/
def Dev.msgCodes (d : Dev) (src : Src) (m : Msg) : List (Bool × Nat) :=
  let ind := decide (m.flags % 2 = 1)
  let v := d.version src
  [(decide (4 ≤ m.flags) || decide (bitsOf m.addr 31 24 ≠ 0) || (ind && !src.isPcie)
      || (decide (m.flags / 2 % 2 = 1) && !src.isAcp), RC.BAD_VALUE),
   (! [OP.HELLO, OP.READ, OP.WRITE, OP.MODIFY, OP.WATCH, OP.ATTN_SCAN, OP.COMMAND, OP.CLOSE, OP.NOP].contains m.op, RC.BAD_VALUE),
   (decide (v = some 1) && [OP.MODIFY, OP.WATCH, OP.ATTN_SCAN, OP.COMMAND].contains m.op, RC.VERSION),
   (v.isNone && decide (m.op ≠ OP.HELLO ∧ m.op ≠ OP.NOP), RC.NOT_IN_STATE),
   (decide (m.len % 4 ≠ 0 ∨ 1024 < m.len ∨ 4 * m.payload.length ≠ m.len), RC.BAD_LENGTH),
   (src.isPcie && !ind && decide (12 < m.payload.length), RC.BAD_LENGTH)]

/-! HELLO (R41, R42, R54, R56) -/

/-- The versions the device offers on a transport. -/
def Dev.offers (d : Dev) (src : Src) : Nat × Nat :=
  if src.isAcp then (d.fld A.HCI.ACP_CFG 7 4, d.fld A.HCI.ACP_CFG 11 8) else (2, 3)

/-- The version a HELLO agrees. -/
def Dev.helloVersion (d : Dev) (src : Src) (m : Msg) : Option Nat :=
  agree (d.offers src).1 (d.offers src).2 (bitsOf m.arg 7 0) (bitsOf m.arg 15 8)

/-- The session opens with a version. -/
def Dev.openSession (d : Dev) (src : Src) (v : Nat) : Dev :=
  match src with
  | .pcie n => d.setRing n { d.ring n with session := some v }
  | .spi => d.onHci (fun h => { h with spi := { h.spi with session := some v } })
  | _ => d

/-- The session's number in a HELLO reply (R42). -/
def Src.id : Src → Nat
  | .pcie n => n
  | .acp id => id
  | _ => 0

/-- HELLO on PCIe or SPI, and a second HELLO on any session. -/
def Dev.hello (d : Dev) (src : Src) (m : Msg) (cs : List (Bool × Nat)) : Dev × Ans :=
  let v := d.helloVersion src m
  let c := refuse (cs ++ [(decide (m.len ≠ 0), RC.BAD_LENGTH), ((d.version src).isSome, RC.NOT_IN_STATE),
    (v.isNone && (d.version src).isNone, RC.VERSION)])
  if c = RC.OK then (d.openSession src (v.getD 2), Ans.ok [wd (v.getD 2 + 2 ^ 16 * src.id)]) else (d, Ans.err c)

/-! READ, WRITE, MODIFY (R26, R27) -/

/-- The range of a READ or WRITE: its count, its place. -/
def Dev.rangeCodes (d : Dev) (src : Src) (m : Msg) : List (Bool × Nat) :=
  let n := m.arg.toNat
  let o := bitsOf m.addr 11 0
  [(outside n 1 (if d.version src = some 1 then 64 else 256), RC.BAD_LENGTH),
   (decide (o % 4 ≠ 0), RC.BAD_ADDRESS), (decide (0x1000 < o + 4 * n), RC.BAD_LENGTH),
   ((blkOfPage (bitsOf m.addr 23 12)).isNone, RC.BAD_ADDRESS)]

/-- The first refused word of a READ: its index and code. -/
def Dev.readBad (d : Dev) (p : Nat) : Nat → Nat → Nat → Option (Nat × Nat)
  | 0, _, _ => none
  | n + 1, o, i =>
    let c := refuse (d.readCodes p o)
    if c = RC.OK then d.readBad p n (o + 4) (i + 1) else some (i, c)

/-- Read words in ascending order, with their effects. -/
def Dev.readWords (d : Dev) (p : Nat) : Nat → Nat → Dev × List Word
  | 0, _ => (d, [])
  | n + 1, o =>
    let (d1, ws) := (d.readEffect p o).readWords p n (o + 4)
    (d1, d.readValue p o :: ws)

/-- A refusal of a block's page: POWER wakes the block (R21). -/
def Dev.refused (d : Dev) (p c det : Nat) : Dev × Ans :=
  match blkOfPage p with
  | some b => if c = RC.POWER then (d.wakeBlk b, Ans.errD c det) else (d, d.refusal b c det)
  | none => (d, Ans.errD c det)

/-- READ: checked in full before any register is read. What the request meets by its form and what its first refused word meets
are ranked together (R31). -/
def Dev.readOp (d : Dev) (src : Src) (m : Msg) (cs : List (Bool × Nat)) : Dev × Ans :=
  let p := bitsOf m.addr 23 12
  let o := bitsOf m.addr 11 0
  let n := m.arg.toNat
  let form := cs ++ d.rangeCodes src m ++ [(decide (m.len ≠ 0), RC.BAD_LENGTH),
    (decide (replyRoom src (decide (m.flags % 2 = 1)) < n), RC.BAD_LENGTH)]
  let bad := if n ≤ 256 then d.readBad p n o 0 else none
  if refuse form = RC.OK then
    match bad with
    | some (i, c) => d.refused p c i
    | none =>
      let d0 := match blkOfPage p with
        | some b => if o + 4 * n ≤ 0x040 then d else d.wakeBlk b
        | none => d
      let (d1, ws) := d0.readWords p n o
      (d1, Ans.ok ws)
  else (d, Ans.err (refuse (form ++ bad.toList.map (fun e => (true, e.2)))))

/-- Write words in ascending order until one is refused (R27). -/
def Dev.writeWords (d : Dev) (src : Src) (p : Nat) : List Word → Nat → Nat → Dev × Ans
  | [], _, _ => (d, Ans.ok [])
  | w :: ws, o, i =>
    let (d1, a) := d.regWrite src (4096 * p + o) w
    if a.code = RC.OK then d1.writeWords src p ws (o + 4) (i + 1) else (d1, { a with detail := i })

/-- WRITE. A request that its form refuses is ranked with what its words would meet (R31). -/
def Dev.writeOp (d : Dev) (src : Src) (m : Msg) (cs : List (Bool × Nat)) : Dev × Ans :=
  let p := bitsOf m.addr 23 12
  let o := bitsOf m.addr 11 0
  let form := cs ++ d.rangeCodes src m ++ [(decide (m.len ≠ 4 * m.arg.toNat), RC.BAD_LENGTH)]
  if refuse form = RC.OK then d.writeWords src p m.payload o 0
  else
    let words := if o % 4 = 0 then [(true, (d.writeWords src p m.payload o 0).2.code)] else []
    (d, Ans.err (refuse (form ++ words)))

/-- MODIFY: (old AND NOT mask) OR (word AND mask) (R25, R26). -/
def Dev.modifyOp (d : Dev) (src : Src) (m : Msg) (cs : List (Bool × Nat)) : Dev × Ans :=
  let p := bitsOf m.addr 23 12
  let o := bitsOf m.addr 11 0
  let new := (d.readValue p o &&& ~~~ m.arg) ||| (word m.payload 0 &&& m.arg)
  let form := cs ++ [(decide (m.len ≠ 4), RC.BAD_LENGTH), (decide (o % 4 ≠ 0), RC.BAD_ADDRESS),
    (match blkOfPage p with
      | some b => !modifiable b o
      | none => false, RC.NOT_PERMITTED)]
  let all := form ++ (if o % 4 = 0 then d.readCodes p o ++ d.writeCodes src p o new else [])
  if refuse all = RC.OK then
    let (d1, a) := d.regWrite src (4096 * p + o) new
    (d1, if a.code = RC.OK then Ans.ok [d1.readValue p o] else a)
  else d.refused p (refuse all) 0

/-! WATCH, ATTN_SCAN (R37, R38, R40) -/

/-- WATCH: the open one is answered with DETAIL 0xFFFF; the new one is answered at once when ATTN_SEQ differs or its timeout is
0. -/
def Dev.watchOp (d : Dev) (rq : Rq) (m : Msg) (cs : List (Bool × Nat)) : Dev × Ans :=
  let c := refuse (cs ++ [(decide (m.len ≠ 4), RC.BAD_LENGTH), (decide (60000 < m.arg.toNat), RC.BAD_VALUE)])
  if c ≠ RC.OK then (d, Ans.err c)
  else
    let d1 := d.answerWatch rq.src 0xFFFF
    let w : Watch := { tag := rq.tag, seen := word m.payload 0, due := d.tb + msT m.arg.toNat }
    let d2 := d1.setWatch rq.src (some w)
    let d3 := if w.seen ≠ d2.hci.attnSeq then d2.answerWatch rq.src 0
      else if m.arg = 0 then d2.answerWatch rq.src 1 else d2
    (d3, { code := RC.OK, detail := 0, words := [], later := true })

/-- WATCH_TIMEOUT of a session's open WATCH; a change in the same cycle is reported as a change (R37). -/
def effWatchTimeout (src : Src) (d : Dev) : Dev :=
  match d.watchOf src with
  | some w => let d1 := d.at_ w.due
    d1.answerWatch src (if w.seen ≠ d1.hci.attnSeq then 0 else 1)
  | none => d

/-- ATTN_SCAN: the pages with pending causes from a page on, two words each. -/
def Dev.scanOp (d : Dev) (src : Src) (m : Msg) (cs : List (Bool × Nat)) : Dev × Ans :=
  let c := refuse (cs ++ [(decide (m.len ≠ 0), RC.BAD_LENGTH)])
  let room := min 128 (replyRoom src (decide (m.flags % 2 = 1)) / 2)
  let ps := d.pages.filter (fun (e : Nat × Page) => decide (bitsOf m.arg 11 0 ≤ e.1) && decide (e.2.pend ≠ 0))
  if c ≠ RC.OK then (d, Ans.err c)
  else (d, { code := RC.OK, detail := b2n (decide (room < ps.length)), later := false,
             words := ((ps.take room).map (fun (e : Nat × Page) => [wd (e.2.top * 2 ^ 12 + e.1), e.2.pend])).flatten })

/-! COMMANDs (R25) -/

/-- The COMMAND of a block and a code, if there is one. -/
def Dev.blockCommand (rq : Rq) (room : Nat) (b : Blk) (code : Nat) : Option (List Word → Dev → Dev × Ans) :=
  match b, code with
  | .mac _, 0x0101 => some cmdKeySet
  | .mac _, 0x0102 => some cmdKeyClear
  | .mac _, 0x0103 => some cmdKeyPn
  | .mac r, 0x0110 => some (cmdBssSet r)
  | .mac r, 0x0111 => some (cmdBeaconSet r)
  | .mac r, 0x0120 => some (cmdTwtSet r)
  | .mac r, 0x0121 => some (cmdTwtJoin r)
  | .mld, 0x0130 => some cmdApMldSet
  | .mld, 0x0131 => some cmdStaSet
  | .mld, 0x0132 => some cmdStaDel
  | .mld, 0x0133 => some cmdBaSet
  | .asc, 0x0201 => some cmdStaPolicy
  | .asc, 0x0210 => some cmdHeatPlan
  | .asc, 0x0211 => some cmdHeatClear
  | .asc, 0x0220 => some cmdAllocGet
  | .qar, 0x0301 => some (fun ws d => let (d1, a) := cmdDuctusGet ws d
      (d1, { a with words := a.words.take (room / 4 * 4) }))
  | .qar, 0x0302 => some cmdDuctusCtrl
  | .qar, 0x0310 => some cmdTplLoad
  | .qar, 0x0320 => some (cmdSubmit rq)
  | .tmg, 0x0401 => some cmdQueueSet
  | .tmg, 0x0402 => some cmdProfileSet
  | .tmg, 0x0403 => some cmdPacerSet
  | .tmg, 0x0404 => some cmdMeterSet
  | .tmg, 0x0405 => some cmdMeterStat
  | .tmg, 0x0406 => some cmdQueueStat
  | .tmg, 0x0407 => some cmdQueueFlush
  | .pke, 0x0501 => some cmdL2Set
  | .pke, 0x0502 => some cmdVlanSet
  | .pke, 0x0503 => some cmdPortVlan
  | .pke, 0x0504 => some cmdBssVlan
  | .pke, 0x0505 => some cmdStaVlan
  | .pke, 0x0506 => some cmdIfSet
  | .pke, 0x0507 => some cmdNhSet
  | .pke, 0x0508 => some cmdRouteAdd
  | .pke, 0x0509 => some cmdRouteDel
  | .pke, 0x050A => some cmdFlowAdd
  | .pke, 0x050B => some cmdFlowDel
  | .pke, 0x050C => some cmdFlowGet
  | .pke, 0x050D => some cmdAclSet
  | .pke, 0x050E => some cmdLocalSet
  | .pke, 0x050F => some cmdMapSet
  | .pke, 0x0510 => some cmdL2Flush
  | .eth n, 0x0601 => some (cmdStrideStart n)
  | .mem, 0x0701 => some cmdThaw
  | .mem, 0x0702 => some cmdDpReset
  | .tmu, 0x0801 => some cmdTimeGet
  | .tmu, 0x0802 => some cmdTimeSet
  | .tmu, 0x0803 => some cmdTsfSet
  | .tmu, 0x0804 => some (cmdTsSend rq)
  | .tmu, 0x0805 => some cmdOfsPut
  | .tmu, 0x0806 => some cmdTb2Ptp
  | .msh, 0x0901 => some cmdFloodSend
  | .msh, 0x0902 => some cmdSleepSet
  | .msh, 0x0903 => some cmdLeaseGet
  | .msh, 0x0904 => some (cmdMeshKeySet rq.src)
  | .msh, 0x0905 => some cmdMsgGet
  | .mgt, 0x0A01 => some (cmdBltRead room)
  | .mgt, 0x0A02 => some (cmdBltCommit rq)
  | .mgt, 0x0A10 => some cmdUpdBegin
  | .mgt, 0x0A11 => some cmdUpdWrite
  | .mgt, 0x0A12 => some (cmdUpdFinish rq)
  | .mgt, 0x0A13 => some cmdUpdActivate
  | .mgt, 0x0A14 => some cmdUpdConfirm
  | .mgt, 0x0A15 => some cmdUpdAbort
  | .mgt, 0x0A20 => some cmdCfgStage
  | .mgt, 0x0A21 => some (cmdCfgCommit rq)
  | .mgt, 0x0A22 => some cmdCfgDiscard
  | .mgt, 0x0A30 => some (cmdOtpKey rq.src)
  | .mgt, 0x0A31 => some (cmdKeyRevoke rq.src)
  | .mgt, 0x0A32 => some (cmdOtpReg rq.src)
  | .mgt, 0x0A33 => some (cmdLcAdvance rq.src)
  | .mgt, 0x0A34 => some cmdLcNonce
  | .bst, 0x0B01 => some cmdTestStart
  | .bst, 0x0B02 => some cmdTestAbort
  | .bst, 0x0B03 => some cmdTestResult
  | _, _ => none

/-- Words of the reply of a COMMAND whose reply can pass 48 bytes, the list replies apart; its size is known before the command
takes effect, whatever else refuses it (R31, R44). -/
def Dev.replyWords (d : Dev) (b : Blk) (code : Nat) (ws : List Word) : Nat :=
  match b, code with
  | .mac _, 0x0103 => 20
  | .asc, 0x0220 => 256
  | .pke, 0x050C => 18
  | .msh, 0x0905 => (cmdMsgGet ws d).2.words.length
  | _, _ => 0

/-- A COMMAND of a block: the checks by its form come first, whatever the block's state; a reply too long for its entry refuses
it (R31, R44). -/
def Dev.commandRun (d : Dev) (rq : Rq) (b : Blk) (code : Nat) (ws : List Word) : Dev × Ans :=
  let room := replyRoom rq.src (decide (rq.flags % 2 = 1))
  let gates := d.gate b (decide (code = 0x0702))
  match Dev.blockCommand rq room b code with
  | none => d.refused (blkPage b) (refuse ((!d.present b, RC.ABSENT) :: (true, RC.BAD_VALUE) :: gates)) 0
  | some f =>
    let (d1, a) := f ws d
    let long := decide (room < d.replyWords b code ws)
    let c := refuse ((!d.present b, RC.ABSENT) :: (long, RC.BAD_LENGTH) :: (true, a.code) :: gates)
    if c = RC.OK then ((f ws (d.wakeBlk b)).1, a)
    else if c = a.code then (d1, a)
    else d.refused (blkPage b) c 0

/-- COMMAND. The spec names no code for ADDR[11:0] other than 0: it is taken as a bad address (DESIGN CHOICE,
notes/assumptions/62.md). -/
def Dev.commandOp (d : Dev) (rq : Rq) (m : Msg) (cs : List (Bool × Nat)) : Dev × Ans :=
  let b := blkOfPage (bitsOf m.addr 23 12)
  let code := bitsOf m.arg 15 0
  let form := cs ++ [(decide (bitsOf m.addr 11 0 ≠ 0), RC.BAD_ADDRESS), (b.isNone, RC.BAD_ADDRESS)]
  match b with
  | some b =>
    if refuse form = RC.OK then d.commandRun rq b code m.payload
    else (d, Ans.err (refuse (form ++ [(true, (d.commandRun rq b code m.payload).2.code)])))
  | none => (d, Ans.err (refuse form))

/-! One request (R28) -/

/-- The MP sees a request that reaches a block's registers or commands, but a page-header read (spec/17 R407). -/
def mpSees (m : Msg) : Bool :=
  decide (m.op = OP.WRITE ∨ m.op = OP.MODIFY ∨ m.op = OP.COMMAND) || (decide (m.op = OP.READ) && decide (0x040 < bitsOf m.addr 11 0 + 4 * m.arg.toNat))

/-- The ROM serves HCI itself: in recovery, and in END, where it stops before it loads firmware (spec/17 R423, R430). -/
def Dev.romServes (d : Dev) : Bool := decide (d.mgt.stage = 3) || decide (d.mgt.otp.lc = .end_ ∧ d.mgt.stage = 0)

/-- What the ROM accepts: reads of page headers, MGT registers, and the HELLO that opens a session for them; in recovery the UPD
commands too (spec/17 R423, R430). -/
def romTakes (upd : Bool) (m : Msg) : Bool :=
  let mgt := decide (bitsOf m.addr 23 12 = blkPage .mgt)
  if m.op = OP.HELLO then true
  else if m.op = OP.READ then mgt || decide (bitsOf m.addr 11 0 + 4 * m.arg.toNat ≤ 0x040)
  else if m.op = OP.WRITE ∨ m.op = OP.MODIFY then mgt
  else upd && mgt && decide (m.op = OP.COMMAND) && decide (0x0A10 ≤ bitsOf m.arg 15 0 ∧ bitsOf m.arg 15 0 ≤ 0x0A15)

/-- What a request meets before its operation: what the ROM turns away is ranked with its other faults (R31; spec/17 R423). -/
def Dev.formCodes (d : Dev) (src : Src) (m : Msg) : List (Bool × Nat) :=
  (d.romServes && !romTakes (decide (d.mgt.stage = 3)) m, RC.NOT_IN_STATE) :: d.msgCodes src m

/-- Execute a request: the device after it, and its answer. -/
def Dev.runMsg (d : Dev) (rq : Rq) (m : Msg) : Dev × Ans :=
  let cs := d.formCodes rq.src m
  let plain : Dev × Ans :=
    let c := refuse (cs ++ [(decide (m.len ≠ 0), RC.BAD_LENGTH)])
    (d, if c = RC.OK then Ans.ok [] else Ans.err c)
  if m.op = OP.HELLO then d.hello rq.src m cs
  else if m.op = OP.READ then d.readOp rq.src m cs
  else if m.op = OP.WRITE then d.writeOp rq.src m cs
  else if m.op = OP.MODIFY then d.modifyOp rq.src m cs
  else if m.op = OP.WATCH then d.watchOp rq m cs
  else if m.op = OP.ATTN_SCAN then d.scanOp rq.src m cs
  else if m.op = OP.COMMAND then d.commandOp rq m cs
  else if m.op = OP.CLOSE ∨ m.op = OP.NOP then plain
  else (d, Ans.err (refuse cs))

/-- The request in execution has lost its session: its reply is not sent (R42, R45). -/
def Hci.forget (h : Hci) (src : Src) : Hci :=
  { h with inExec := h.inExec.map (fun x => if x.rq.src = src then { x with live := false } else x) }

/-- A session ends, and its open WATCH with it (R38, R42). -/
def Dev.endSession (d : Dev) (src : Src) : Dev :=
  let d := d.onHci (fun h => h.forget src)
  match src with
  | .pcie n => d.setRing n { d.ring n with session := none, watch := none }
  | .spi => d.onHci (fun h => { h with spi := { h.spi with session := none, watch := none } })
  | .acp id => d.onHci (fun h => { h with acp := tabDel h.acp id })
  | .mp => d

/-- The sender's part of a request. -/
def Msg.rq (m : Msg) (src : Src) : Rq := { src := src, flags := m.flags, tag := m.tag, reqAt := m.reqAt, rspAt := m.rspAt }

/-- A request executes: the device after it, and its answer. -/
def Dev.execute (d : Dev) (src : Src) (m : Msg) : Dev × Ans :=
  (if mpSees m then d.event 0 else d).runMsg (m.rq src) m

/-- What a session's datagrams hold after a CLOSE is not executed: the session is gone. -/
def Dev.acpCut (d : Dev) : Src → Dev
  | .acp id => match tabFind d.hci.acp id with
    | some a => d.onHci (fun h => { h with acp := tabPut h.acp id { a with todo := [[]] } })
    | none => d
  | _ => d

/-- A request holds the executor until it takes effect (R28). -/
def Dev.hold (d : Dev) (rq : Rq) (op : Nat) (addr : Word) : Dev :=
  d.onHci (fun h => { h with inExec := some { rq := rq, op := op, addr := addr, live := true } })

/-- A WATCH is open: the replies of the datagram it came in do not wait for its own (R38, R55). -/
def Dev.passOver (d : Dev) : Src → Dev
  | .acp id => d.acpFlush id
  | _ => d

/-- A request is executed and answered; CLOSE ends the session after its reply. A WATCH is answered later, and holds nothing back;
another COMMAND that takes effect later holds the executor until then (R28, R38). -/
def Dev.request (d : Dev) (src : Src) (m : Msg) : Dev :=
  let (d1, a) := d.execute src m
  if a.later then if m.op = OP.WATCH then d1.passOver src else d1.hold (m.rq src) m.op m.addr
  else
    let r := d1.reply m.op m.tag a.code a.detail a.words
    if m.op = OP.CLOSE ∧ a.code = RC.OK then ((d1.acpCut src).respond (m.rq src) r).endSession src
    else d1.respond (m.rq src) r

/-- The control interface runs: in RUN and IDLE (spec/18 R443). -/
def Dev.hciUp (d : Dev) : Bool := decide (d.pmu.state = .run ∨ d.pmu.state = .idle)

end Sys2Proof.Machine
end

