-- ==== Sys2Proof/Machine/Transport.lean ====
section
/-! DEFINITION. The three transports: PCIe ring pairs, the SPI target, the Axelo Control Protocol (spec/02 R43 to R57, R497). -/

namespace Sys2Proof.Machine

/-! PCIe rings -/

/-- An entry of a data ring: a transmit request, a receive buffer, a host frame, a buffer of port H, by its TYPE; one of no
TYPE completes with BAD_VALUE. `none`: it cannot be taken yet. -/
def Dev.dataEntry (d : Dev) (n : Nat) (e : RingEnt) : Option Dev :=
  let t := bitsOf (word e.words 0) 7 0
  if t = 0x10 then d.txRequest n e.words e.frame
  else if t = 0x20 then some (d.rxPost n e.words)
  else if t = 0x30 then d.hostSend n e.words e.frame
  else if t = 0x40 then some (d.hostPost n e.words)
  else
    let id := d.tmg.nextFid
    some ((d.nextFid.submitted n id).complete n id [wd t, word e.words 1, wd (d.status RC.BAD_VALUE)])

/-- The device may take entries: the pair is on, and its reply ring has room (R46). -/
def Ring.mayTake (r : Ring) : Bool := r.enable && r.waiting.isEmpty && !r.full

/-- A frame of a data ring waits in the sequencer for a queue that can admit it: the ring is held (R280). -/
def Dev.ringStuck (d : Dev) (n : Nat) : Bool := d.pke.jobs.any (fun j => j.stuck && decide (j.frame.ring = some n))

/-- The device takes the entries of a data ring that wait, in order, while it can (R46, R497). -/
def Dev.ringRun (d : Dev) (n : Nat) : Nat → Dev
  | 0 => d
  | fuel + 1 =>
    let r := d.ring n
    match r.held with
    | [] => d
    | e :: es =>
      if !r.mayTake || decide (r.typ = 1) || d.ringStuck n then d
      else
        match (d.setRing n { r with held := es, reqPos := (r.reqPos + 1) % r.size }).dataEntry n e with
        | some d1 => d1.ringRun n fuel
        | none => d

/-! The executor (R28): one request at a time, the sessions served round-robin, one request per turn -/

/-- A session's place in the executor's round: the ring pairs, the SPI target, the ACP sessions, the MP. -/
def Src.place : Src → Nat
  | .pcie n => n
  | .spi => 32
  | .acp id => 33 + id
  | .mp => 33 + 65536

/-- A control pair whose next request the device may take. -/
def Ring.asks (r : Ring) : Bool := decide (r.typ = 1) && r.mayTake && !r.held.isEmpty

/-- The sessions with a request that waits, in their places. -/
def Dev.asking (d : Dev) : List Src :=
  (d.hci.rings.filter (fun e => e.2.asks)).map (fun e => .pcie e.1) ++ (if d.hci.spi.todo.isSome then [.spi] else []) ++
    (d.hci.acp.filter (fun e => !e.2.todo.isEmpty)).map (fun e => .acp e.1) ++ (if d.hci.mpTodo.isEmpty then [] else [.mp])

/-- Requests of a session that wait. -/
def Dev.askOf (d : Dev) : Src → Nat
  | .pcie n => (d.ring n).held.length
  | .spi => d.hci.spi.todo.toList.length
  | .acp id => ((tabFind d.hci.acp id).map (fun a => (a.todo.map List.length).sum)).getD 0
  | .mp => d.hci.mpTodo.length

/-- Requests that wait, over all sessions. -/
def Dev.askCount (d : Dev) : Nat := (d.asking.map d.askOf).sum

/-- The session whose turn it is. -/
def Dev.nextAsking (d : Dev) : Option Src :=
  match d.asking.find? (fun x => decide (d.hci.turn ≤ x.place)) with
  | some x => some x
  | none => d.asking.head?

/-- A request of a session is in execution. -/
def Hci.executing (h : Hci) (src : Src) : Bool := h.inExec.any (fun x => x.live && decide (x.rq.src = src))

/-- One message of a session's datagram: a retry of a kept reply is not executed again (R55). -/
def Dev.acpOne (d : Dev) (id : Nat) (m : Msg) : Dev :=
  let old := if m.flags / 2 % 2 = 1 then (tabFind d.hci.acp id).bind (fun a => a.last.find? (fun r => decide (r.tag = m.tag))) else none
  match old with
  | some r => match tabFind d.hci.acp id with
    | some a => (d.onHci (fun h => { h with acp := tabPut h.acp id { a with done := a.done ++ [r] } })).acpFlush id
    | none => d
  | none => d.request (.acp id) m

/-- Take the next request of a session from where it waits. -/
def Dev.takeNext (d : Dev) : Src → Dev × Option Msg
  | .pcie n =>
    let r := d.ring n
    match r.held with
    | e :: es => (d.setRing n { r with held := es, reqPos := (r.reqPos + 1) % r.size }, some e.msg)
    | [] => (d, none)
  | .spi => (d.onHci (fun h => { h with spi := { h.spi with todo := none } }), d.hci.spi.todo)
  | .acp id => match tabFind d.hci.acp id with
    | some a => match a.todo with
      | (m :: ms) :: rest => (d.onHci (fun h => { h with acp := tabPut h.acp id { a with todo := ms :: rest } }), some m)
      | _ => (d, none)
    | none => (d, none)
  | .mp => (d.onHci (fun h => { h with mpTodo := h.mpTodo.drop 1 }), d.hci.mpTodo.head?)

/-- The session's turn: one request is taken and executed. -/
def Dev.serveOne (d : Dev) (src : Src) : Dev :=
  let (d1, m) := (d.onHci (fun h => { h with turn := src.place + 1 })).takeNext src
  match m, src with
  | some m, .acp id => d1.acpOne id m
  | some m, src => d1.request src m
  | none, _ => d1

/-- The executor serves the requests that wait, until none may be taken or one holds it. -/
def Dev.serve (d : Dev) : Nat → Dev
  | 0 => d
  | fuel + 1 =>
    if d.hci.inExec.isSome then d
    else match d.nextAsking with
      | none => d
      | some src => (d.serveOne src).serve fuel

/-- Serve all that waits. -/
def Dev.serveAll (d : Dev) : Dev := d.serve d.askCount

/-- Entries are posted in a request ring: the producer index moves, and the device takes what it can. -/
def Dev.ringPost (d : Dev) (n : Nat) (es : List RingEnt) (prod : Nat) : Dev :=
  let r := d.ring n
  let d1 := d.setRing n { r with prod := prod, held := r.held ++ es }
  if r.typ = 1 then d1.serveAll else d1.ringRun n (r.held.length + es.length)

/-- RING_ERROR (R45, R497). -/
def Dev.ringError (d : Dev) : Dev := d.raise .hci Cause.HCI.RING_ERROR

/-- The host reaches BAR0 over the link, which leaves L1 or L2 for it (spec/18 R442). -/
def Dev.pcieWake (d : Dev) : Dev := d.hwWake .pci

/-- REQUEST_PRODUCER_WRITE of ring n: the new entries up to the index are those given. -/
def effRequestProducerWrite (n : Nat) (w : Word) (es : List RingEnt) (d : Dev) : Dev :=
  let r := d.ring n
  let i := bitsOf w 11 0
  if !d.hciUp || !d.hci.linkUp || decide (31 < n) || !r.enable then d
  else if r.size ≤ i then d.pcieWake.ringError
  else d.pcieWake.ringPost n (es.take ((i + r.size - r.prod) % r.size)) i

/-- REPLY_CONSUMER_WRITE of ring n: entries are freed, replies that waited are written, and requests are taken again. -/
def effReplyConsumerWrite (n : Nat) (w : Word) (d : Dev) : Dev :=
  let r := d.ring n
  let i := bitsOf w 11 0
  if !d.hciUp || !d.hci.linkUp || decide (31 < n) || !r.enable then d
  else if r.size ≤ i then d.pcieWake.ringError
  else
    let d1 := (d.pcieWake.setRing n { r with cons := i }).ringDrain n r.waiting.length
    if r.typ = 1 then d1.serveAll else d1.ringRun n (d1.ring n).held.length

/-- A pair stops at once: its session ends; nothing further is written to it, also not for buffers posted on it (R45). -/
def Dev.ringStop (d : Dev) (n : Nat) : Dev :=
  let r := d.ring n
  let d := d.onHci (fun h => h.forget (.pcie n))
  let d1 := d.setRing n { r with enable := false, session := none, watch := none, waiting := [], held := [], subs := [] }
  let d2 := d1.onPke (fun p => { p with hBufs := p.hBufs.filter (fun b => decide (b.ring ≠ n)) })
  [Radio.a, .b, .c].foldl (fun d x => d.onMac x (fun m => { m with rxBufs := m.rxBufs.filter (fun b => decide (b.ring ≠ n)) })) d2

/-- A configuration that a pair can start with: 4 to 12, control or data, bases on 4 KiB, at most four control pairs. -/
def Dev.ringValid (d : Dev) (n : Nat) (r : Ring) : Bool :=
  let others := (d.hci.rings.filter (fun (e : Nat × Ring) => decide (e.1 ≠ n) && e.2.enable && decide (e.2.typ = 1))).length
  decide (4 ≤ r.log2 ∧ r.log2 ≤ 12) && decide (r.typ = 1 ∨ r.typ = 2) && decide (r.reqBase % 4096 = 0 ∧ r.rspBase % 4096 = 0)
    && (decide (r.typ ≠ 1) || decide (others < 4))

/-- A pair starts: positions 0, PHASE 1 on the first pass (R497). -/
def Ring.start (r : Ring) : Ring :=
  { r with enable := true, prod := 0, cons := 0, reqPos := 0, rspPos := 0, phase := true, session := none, watch := none,
           waiting := [], held := [], subs := [] }

/-- A write of the word that holds size, type, vector and ENABLE (R45). One write that clears ENABLE and changes size or type of an
enabled pair stops it and stores the new fields: the pair is off once the write has taken effect (DESIGN CHOICE,
notes/assumptions/63.md). -/
def Dev.ringCtrl (d : Dev) (n : Nat) (w : Word) : Dev :=
  let r := d.ring n
  let new := { r with log2 := bitsOf w 3 0, typ := bitsOf w 5 4, vec := bitsOf w 12 8 }
  if r.enable then
    if bitOf w 31 then
      let d1 := d.setRing n { r with vec := new.vec }
      if new.log2 ≠ r.log2 ∨ new.typ ≠ r.typ then d1.ringError else d1
    else (d.ringStop n).setRing n { (d.ringStop n).ring n with log2 := new.log2, typ := new.typ, vec := new.vec }
  else if bitOf w 31 then
    if d.ringValid n new then d.setRing n new.start else (d.setRing n new).ringError
  else d.setRing n new

/-- A write of one word of a base (R45): refused while the pair is enabled, when it changes the base. -/
def Dev.ringBase (d : Dev) (n k : Nat) (w : Word) : Dev :=
  let r := d.ring n
  let half (old : Nat) (high : Bool) : Nat := if high then old % 2 ^ 32 + 2 ^ 32 * w.toNat else old / 2 ^ 32 * 2 ^ 32 + w.toNat
  let new := if k < 2 then { r with reqBase := half r.reqBase (decide (k = 1)) } else { r with rspBase := half r.rspBase (decide (k = 3)) }
  if r.enable ∧ new ≠ r then d.ringError else d.setRing n new

/-- A write of the MSI-X table: a vector unmasked while its bit is pending sends its message (R43, R47). -/
def Dev.msixWrite (d : Dev) (i : Nat) (w : Word) : Dev :=
  let d1 := d.onHci (fun h => { h with msixTab := tabSet 0 h.msixTab i w })
  let v := i / 4
  if i % 4 ≠ 3 then d1
  else if bitOf w 0 then d1.onHci (fun h => { h with msixMask := h.msixMask ||| oneBit v })
  else
    let due := d1.hci.msixPending.getLsbD v
    let d2 := d1.onHci (fun h => { h with msixMask := h.msixMask &&& ~~~ oneBit v, msixPending := h.msixPending &&& ~~~ oneBit v })
    if due then d2.emit (.msix v) else d2

/-- A write of a ring pair's configuration or of the MSI-X table in BAR0; writes of other places are ignored (R43, R45). -/
def Dev.bar0Write (d : Dev) (off : Nat) (w : Word) : Dev :=
  if 0x400 ≤ off ∧ off < 0x800 then
    let n := (off - 0x400) / 32
    let k := (off - 0x400) % 32 / 4
    if k < 4 then d.ringBase n k w else if k = 4 then d.ringCtrl n w else d
  else if 0x1000 ≤ off ∧ off < 0x1200 then d.msixWrite ((off - 0x1000) / 4) w
  else d

/-- RING_CONFIG_WRITE of BAR0 (R43, R45). -/
def effRingConfigWrite (off : Nat) (w : Word) (d : Dev) : Dev :=
  if !d.hciUp || !d.hci.linkUp || decide (off % 4 ≠ 0) then d
  else d.pcieWake.bar0Write off w

/-- A read of BAR0: the status word with CODE 0, ATTN_SEQ, the indices, the ring configuration, the MSI-X table and its pending bits;
reserved places read 0 (R43, R497). The table has no row for a read: it changes nothing. -/
def Dev.bar0Read (d : Dev) (off : Nat) : Word :=
  if off % 4 ≠ 0 then 0
  else if off = 0 then wd (d.status 0)
  else if off = 4 then d.hci.attnSeq
  else if 0x100 ≤ off ∧ off < 0x200 then
    let r := d.ring ((off - 0x100) / 8)
    wd (if (off - 0x100) / 4 % 2 = 0 then r.prod else r.cons)
  else if 0x400 ≤ off ∧ off < 0x800 then
    let r := d.ring ((off - 0x400) / 32)
    match (off - 0x400) % 32 / 4 with
    | 0 => wd r.reqBase
    | 1 => wd (r.reqBase / 2 ^ 32)
    | 2 => wd r.rspBase
    | 3 => wd (r.rspBase / 2 ^ 32)
    | 4 => wd (r.log2 + 2 ^ 4 * r.typ + 2 ^ 8 * r.vec + 2 ^ 31 * b2n r.enable)
    | _ => 0
  else if 0x1000 ≤ off ∧ off < 0x1200 then
    let i := (off - 0x1000) / 4
    if i % 4 = 3 then putBits (tabGet 0 d.hci.msixTab i) 0 0 (b2n (d.hci.msixMask.getLsbD (i / 4))) else tabGet 0 d.hci.msixTab i
  else if off = 0x1800 then d.hci.msixPending
  else 0
/-- PCIE_LINK_DOWN: ENABLE clears on every pair, as if the host had cleared it (R47). -/
def effPcieLinkDown (d : Dev) : Dev :=
  let d1 := (tabKeys d.hci.rings).foldl (fun d n => if (d.ring n).enable then d.ringStop n else d) d
  d1.onHci (fun h => { h with linkUp := false })

/-- PCIE_LINK_UP: the link has trained; the PCI block leaves its down state (R47, R442). -/
def effPcieLinkUp (d : Dev) : Dev :=
  if !d.hciUp then d else (d.onHci (fun h => { h with linkUp := true })).hwWake .pci

/-- HOST_RING_ADMIT_RESUME: a ring whose entry could not be taken is looked at again (spec/11 R280). -/
def effHostRingAdmitResume (n : Nat) (d : Dev) : Dev := d.ringRun n (d.ring n).held.length

/-! The SPI target (R48 to R50) -/

/-- The target cannot take a request: one waits or a reply other than that of a WATCH does, or two replies of WATCHes already do or
will, so that with one more the two replies of R50 would be passed (notes/assumptions/64.md). -/
def Spi.taken (s : Spi) : Bool :=
  s.todo.isSome || s.replies.any (fun r => decide (r.op ≠ OP.WATCH)) || decide (2 ≤ s.replies.length + s.watch.toList.length)

/-- ACCEPTING of the status byte: one request in execution at a time (R49). -/
def Dev.spiAccepting (d : Dev) : Bool := d.hciUp && !d.hci.spi.taken && !d.hci.executing .spi

/-- The status byte of a transaction. -/
def Dev.spiStatus (d : Dev) : Byte :=
  BitVec.ofNat 8 (b2n d.attn * 128 + d.topClass % 8 * 16 + b2n (!d.hci.spi.replies.isEmpty) * 8 + b2n d.spiAccepting * 4
    + b2n d.hci.spi.lastRejected * 2)

/-- Change the SPI target. -/
def Dev.onSpi (d : Dev) (f : Spi → Spi) : Dev := d.onHci (fun h => { h with spi := f h.spi })

/-- A request is taken from the SPI target, or rejected because one is in execution (R49). -/
def Dev.spiTake (d : Dev) (m : Msg) : Dev :=
  if d.spiAccepting then (d.onSpi (fun s => { s with lastRejected := false, todo := some m })).serveAll
  else (d.onSpi (fun s => { s with lastRejected := true })).count A.HCI.SPI_REJECT

/-- A request's header and payload from its bytes (R24). -/
def msgOf (bs : List Byte) : Msg :=
  let ws := bytesWords bs
  let w := word ws 0
  let len := bitsOf w 31 16
  { op := bitsOf w 7 0, flags := bitsOf w 15 8, len := len, tag := word ws 1, addr := word ws 2, arg := word ws 3,
    payload := bytesWords ((bs.drop 16).take len) }

/-- SPI_REQUEST: the bytes after the command byte, the CRC last. A byte count that does not agree with LEN leaves no CRC where one
should stand: it is taken as a CRC that fails (DESIGN CHOICE, notes/assumptions/65.md). -/
def effSpiRequest (bs : List Byte) (d : Dev) : Dev :=
  if !d.hciUp then d
  else
    let d1 := d.emit (.spi [d.spiStatus])
    let body := bs.take (bs.length - 2)
    let m := msgOf body
    if !d1.spiAccepting then (d1.onSpi (fun s => { s with lastRejected := true })).count A.HCI.SPI_REJECT
    else if bs.length < 18 ∨ body.length ≠ 16 + m.len ∨ leNat (bs.drop (bs.length - 2)) ≠ (crc16 body).toNat then
      (d1.onSpi (fun s => { s with lastRejected := true })).count A.HCI.SPI_CRC_ERR
    else d1.spiTake m

/-- The bytes of a reply on SPI: header, payload, CRC. -/
def Reply.spiBytes (r : Reply) : List Byte := r.bytes ++ natBytes 2 (crc16 r.bytes).toNat

/-- SPI_REPLY: the host clocks a number of bytes after the dummy byte; the reply is consumed with its last CRC byte (R50). -/
def effSpiReply (clocks : Nat) (d : Dev) : Dev :=
  if !d.hciUp then d
  else match d.hci.spi.replies with
    | [] => d.emit (.spi (d.spiStatus :: List.replicate (clocks + 1) 0))
    | r :: rest =>
      let bs := r.spiBytes
      let d1 := d.emit (.spi (d.spiStatus :: 0 :: (bs ++ List.replicate (clocks - bs.length) 0).take clocks))
      if bs.length ≤ clocks then d1.onSpi (fun s => { s with replies := rest }) else d1

/-- SPI_STATUS: status word and ATTN_SEQ (R48). -/
def effSpiStatus (d : Dev) : Dev :=
  if !d.hciUp then d else d.emit (.spi (d.spiStatus :: natBytes 2 (d.status 0) ++ wordBytes d.hci.attnSeq))

/-! The Axelo Control Protocol (R51 to R57) -/

/-- The messages of a datagram, one after another; none where they do not fill it exactly. -/
def acpMsgs : Nat → List Byte → Option (List Msg)
  | 0, bs => if bs = [] then some [] else none
  | n + 1, bs =>
    let m := msgOf bs
    if bs.length < 16 + m.len then none else (acpMsgs n (bs.drop (16 + m.len))).map (fun ms => m :: ms)

/-- An accepted datagram of a session: its messages wait for the executor; they are answered in request order (R54, R55). -/
def Dev.acpAccept (d : Dev) (id ctr port peer : Nat) (udp : Bool) (ms : List Msg) : Dev :=
  match tabFind d.hci.acp id with
  | none => d
  | some a =>
    let a' := { a with topCtr := ctr, active := d.tb, port := port, peer := peer, udp := udp, todo := a.todo ++ [ms] }
    (d.onHci (fun h => { h with acp := tabPut h.acp id a' })).serveAll

/-- A reply to a HELLO that opens no session: the datagram's COUNTER is open (notes/assumptions/60.md). -/
def Dev.acpRefuse (d : Dev) (slot port peer : Nat) (udp : Bool) (r : Reply) : Dev :=
  d.took.emit (.acp port peer udp (acpBytes 1 0 slot (d.freeVal (2 ^ 64)) (d.acpKey slot) [r]))

/-- The next session ID: in increasing order, wrapping past 65,535 to 1, skipping open ones (R56). -/
def Dev.acpFreeId (d : Dev) : Nat → Nat → Nat
  | 0, k => k
  | fuel + 1, k =>
    let k := if 65535 < k then 1 else k
    if (tabFind d.hci.acp k).isSome then d.acpFreeId fuel (k + 1) else k

/-- The mark of a key slot moves; the MP keeps a reservation at least 1,024 above it (R54). -/
def Dev.hwmSet (d : Dev) (slot ctr : Nat) : Dev := (d.onHci (fun h => { h with hwm := tabSet 0 h.hwm slot ctr })).hwmReserve slot

/-- A HELLO datagram with a good TAG (R54, R56). -/
def Dev.acpHello (d : Dev) (slot ctr port peer : Nat) (udp : Bool) (m : Msg) : Dev :=
  let mark := tabGet 0 d.hci.hwm slot
  let answer (d : Dev) (code : Nat) (ws : List Word) : Dev :=
    d.acpRefuse slot port peer udp (d.reply OP.HELLO m.tag code 0 ws)
  if ctr ≤ mark then answer d RC.NOT_IN_STATE [wd mark, wd (mark / 2 ^ 32)]
  else
    let d1 := d.hwmSet slot ctr
    let bad := decide (4 ≤ m.flags) || decide (m.flags % 2 = 1) || decide (bitsOf m.addr 31 24 ≠ 0)
    let c := refuse [(bad, RC.BAD_VALUE), (decide (m.len ≠ 0), RC.BAD_LENGTH), ((d.helloVersion (.acp 0) m).isNone, RC.VERSION),
                     (decide (16 ≤ d.hci.acp.length), RC.BUSY)]
    if c = RC.OK then
      let v := (d.helloVersion (.acp 0) m).getD 1
      let id := d.acpFreeId 17 d.hci.nextAcpId
      let a : Acp := { slot := slot, version := v, helloCtr := ctr, topCtr := ctr, txCtr := 1, last := [], watch := none, active := d.tb,
                       todo := [], done := [], port := port, peer := peer, udp := udp }
      let d2 := d1.onHci (fun h => { h with acp := tabPut h.acp id a, nextAcpId := id + 1 })
      d2.deliver (.acp id) none (d2.reply OP.HELLO m.tag RC.OK 0 [wd (v + 2 ^ 16 * id)])
    else
      let d2 := if c = RC.BUSY then d1.raise .hci Cause.HCI.SESSION_FULL else d1
      answer d2 c []

/-- An authentication failure: counted; 16 within a second set the cause (R53). -/
def Dev.acpAuthFail (d : Dev) : Dev :=
  let ts := (d.tb :: d.hci.authFails).take 16
  let d1 := (d.count A.HCI.ACP_AUTH_FAIL).onHci (fun h => { h with authFails := ts })
  if ts.length = 16 ∧ d.tb ≤ ts.getD 15 0 + sT 1 then d1.raise .hci Cause.HCI.ACP_AUTH_BURST else d1

/-- ACP_DATAGRAM: a datagram addressed to the device arrives on a port (R51 to R55). One whose TAG is good under a KEY slot that is not
the session's has a bad layout for that session (DESIGN CHOICE, notes/assumptions/66.md). -/
def effAcpDatagram (port peer : Nat) (udp : Bool) (bs : List Byte) (d : Dev) : Dev :=
  let cfg := d.rd A.HCI.ACP_CFG
  if !d.hciUp || d.romServes || decide (9 < port) || !d.present (.eth port) || !bitOf cfg (12 + port) || !bitOf cfg (if udp then 1 else 0) then d
  else
    let n := bs.length
    let body := bs.take (n - 16)
    let slot := byteAt bs 4
    let ver := byteAt bs 0
    let id := leNat ((bs.drop 2).take 2)
    let cnt := byteAt bs 5
    let ctr := leNat ((bs.drop 8).take 8)
    let malformed := d.count A.HCI.ACP_MALFORMED
    if n < 32 ∨ 1400 < n ∨ 3 < slot then malformed
    else if bs.drop (n - 16) ≠ hmacTag (d.acpKey slot) body then d.acpAuthFail
    else if byteAt bs 1 ≠ 0 ∨ byteAt bs 6 ≠ 0 ∨ byteAt bs 7 ≠ 0 then malformed
    else match acpMsgs cnt (body.drop 16) with
      | none => malformed
      | some ms =>
        if id = 0 then match ms with
          | [m] => if ver = 1 ∧ m.op = OP.HELLO ∧ bitsOf m.arg 17 16 = slot then d.acpHello slot ctr port peer udp m else malformed
          | _ => malformed
        else match tabFind d.hci.acp id with
          | none => malformed
          | some a =>
            if ver ≠ a.version ∨ slot ≠ a.slot ∨ cnt = 0 ∨ (if a.version = 3 then 8 else 1) < cnt then malformed
            else if ctr ≤ a.helloCtr ∨ ctr ≤ a.topCtr then d.count A.HCI.ACP_REPLAY_DROP
            else d.acpAccept id ctr port peer udp ms

/-- ACP_SESSION_IDLE: a session without an accepted datagram for IDLE_S seconds is closed; an open WATCH keeps it (R56). -/
def effAcpSessionIdle (id : Nat) (d : Dev) : Dev :=
  match tabFind d.hci.acp id with
  | some a => if a.watch.isSome then d else (d.at_ (a.active + sT (d.fld A.HCI.ACP_CFG 31 22))).endSession (.acp id)
  | none => d

/-! A request posted by its sender -/

/-- A request reaches the device: as the next entry of a control ring, as an SPI transaction with a good CRC, as the only message
of a session's next ACP datagram, or from the MP. -/
def Dev.post (d : Dev) (src : Src) (m : Msg) : Dev :=
  if !d.hciUp then d
  else match src with
    | .pcie n =>
      let r := d.ring n
      if d.hci.linkUp && r.enable && decide (r.typ = 1) then d.pcieWake.ringPost n [{ msg := m, words := [], frame := Hdr.none }] ((r.prod + 1) % r.size)
      else d
    | .spi => d.spiTake m
    | .acp id => match tabFind d.hci.acp id with
      | some a => d.acpAccept id (max a.topCtr a.helloCtr + 1) a.port a.peer a.udp [m]
      | none => d
    | .mp => (d.onHci (fun h => { h with mpTodo := h.mpTodo ++ [m] })).serveAll

/-- An entry is posted in a data ring. -/
def Dev.postData (d : Dev) (n : Nat) (ws : List Word) (h : Hdr) : Dev :=
  let r := d.ring n
  let m : Msg := { op := 0, flags := 0, len := 0, tag := 0, addr := 0, arg := 0, payload := [] }
  if d.hciUp && d.hci.linkUp && r.enable && decide (r.typ = 2) then d.pcieWake.ringPost n [{ msg := m, words := ws, frame := h }] ((r.prod + 1) % r.size)
  else d

/-- The TYPE byte of a data entry. -/
def typed (t : Nat) (ws : List Word) : List Word := putBits (word ws 0) 7 0 t :: ws.drop 1

/-- A COMMAND of a page, with its payload. -/
def Dev.command (d : Dev) (rq : Rq) (page code : Nat) (ws : List Word) : Dev :=
  d.post rq.src { op := OP.COMMAND, flags := rq.flags, len := 4 * ws.length, tag := rq.tag, addr := wd (4096 * page), arg := wd code,
                  payload := ws, reqAt := rq.reqAt, rspAt := rq.rspAt }

/-- A WRITE of one word at a register address. -/
def Dev.write (d : Dev) (rq : Rq) (a : Nat) (v : Word) : Dev :=
  d.post rq.src { op := OP.WRITE, flags := rq.flags, len := 4, tag := rq.tag, addr := wd a, arg := 1, payload := [v],
                  reqAt := rq.reqAt, rspAt := rq.rspAt }

/-- A WRITE of consecutive words from a register address on. -/
def Dev.writes (d : Dev) (rq : Rq) (a : Nat) (ws : List Word) : Dev :=
  d.post rq.src { op := OP.WRITE, flags := rq.flags, len := 4 * ws.length, tag := rq.tag, addr := wd a, arg := wd ws.length,
                  payload := ws, reqAt := rq.reqAt, rspAt := rq.rspAt }

/-- A READ of one word at a register address. -/
def Dev.readOne (d : Dev) (rq : Rq) (a : Nat) : Dev :=
  d.post rq.src { op := OP.READ, flags := rq.flags, len := 0, tag := rq.tag, addr := wd a, arg := 1, payload := [],
                  reqAt := rq.reqAt, rspAt := rq.rspAt }

/-- A request of a given operation. -/
def Dev.ask (d : Dev) (src : Src) (op : Nat) (m : Msg) : Dev := d.post src { m with op := op }

end Sys2Proof.Machine
end

