-- ==== Sys2Proof/Machine/Effect.lean ====
section
/-! DEFINITION. How a command's effect on the device becomes the next state, and what an empty queue does. -/

namespace Sys2Proof.Machine

/-- The next state: the device after the command, with every open WATCH answered whose ATTN_SEQ value no longer is the present one
(spec/02 R37), and the queue as it is. -/
def State.run (s : State) (f : Dev → Dev) : Host.Outcome State Fault Refusal := .next { s with dev := (f s.dev).answerWatches }

/-- One TB tick, while the device's clock runs (spec/15 R353; notes/assumptions/2.md). -/
def Dev.tick (d : Dev) : Dev :=
  if d.pmu.state = .held ∨ d.pmu.state = .booting ∨ d.pmu.state = .off then d else d.at_ (d.tb + 1)

end Sys2Proof.Machine
end

