-- ==== Sys2Proof/Machine/ExecArray.lean ====
section
/-! DEFINITION. The Quill array, the dispatcher and the Ductus trace: the meaning of each row (rows SUBMIT to FETCH_COMPLETE of the opcode table). -/

namespace Sys2Proof.Machine

/-- SUBMIT (R222). -/
def execSubmit (rq : Rq) (ws : List Word) (s : State) : Host.Outcome State Fault Refusal :=
  s.run (fun d => d.command rq (blkPage .qar) 0x0320 ws)

/-- TPL_LOAD (R220). -/
def execTplLoad (rq : Rq) (ws : List Word) (s : State) : Host.Outcome State Fault Refusal :=
  s.run (fun d => d.command rq (blkPage .qar) 0x0310 ws)

/-- DUCTUS_GET (R238). -/
def execDuctusGet (rq : Rq) (ws : List Word) (s : State) : Host.Outcome State Fault Refusal :=
  s.run (fun d => d.command rq (blkPage .qar) 0x0301 ws)

/-- DUCTUS_TRIGGER (R239). -/
def execDuctusTrigger (rq : Rq) (s : State) : Host.Outcome State Fault Refusal :=
  s.run (fun d => d.command rq (blkPage .qar) 0x0302 [1])

/-- DUCTUS_RESUME (R239). -/
def execDuctusResume (rq : Rq) (s : State) : Host.Outcome State Fault Refusal :=
  s.run (fun d => d.command rq (blkPage .qar) 0x0302 [2])

/-- DUCTUS_POST_DONE (R239). -/
def execDuctusPostDone (s : State) : Host.Outcome State Fault Refusal :=
  s.run (fun d => effDuctusPostDone d)

/-- CORE_RUN_WRITE (R217). -/
def execCoreRunWrite (rq : Rq) (v : Word) (s : State) : Host.Outcome State Fault Refusal :=
  s.run (fun d => d.write rq (A.QAR.CORE_CTRL) v)

/-- TRACE_PUT0_WRITE (R237). -/
def execTracePut0Write (k : Fin 16) (v : Word) (s : State) : Host.Outcome State Fault Refusal :=
  s.run (fun d => d.tracePut0 k.val v)

/-- TRACE_PUT1_WRITE (R237). -/
def execTracePut1Write (k : Fin 16) (v : Word) (s : State) : Host.Outcome State Fault Refusal :=
  s.run (fun d => d.tracePut1 k.val v)

/-- LIMIT_EXPIRY (R231). -/
def execLimitExpiry (k : Fin 16) (s : State) : Host.Outcome State Fault Refusal :=
  s.run (fun d => (effLimitExpiry k.val d).takeStopped k.val)

/-- INSTANCE_DEADLINE (R232). -/
def execInstanceDeadline (k : Nat) (s : State) : Host.Outcome State Fault Refusal :=
  s.run (fun d => effInstanceDeadline k d)

/-- TAKE_ASSIGN (R226). -/
def execTakeAssign (s : State) : Host.Outcome State Fault Refusal :=
  s.run (fun d => effTakeAssign d)

/-- FETCH_START (R269). -/
def execFetchStart (k : Fin 16) (v : Word) (s : State) : Host.Outcome State Fault Refusal :=
  s.run (fun d => d.fetchGo k.val v)

/-- FETCH_COMPLETE (R269). -/
def execFetchComplete (k : Fin 16) (s : State) : Host.Outcome State Fault Refusal :=
  s.run (fun d => effFetchComplete k.val d)

end Sys2Proof.Machine
end

