-- ==== Sys2Proof/Machine/ExecBist.lean ====
section
/-! DEFINITION. Self-test: the meaning of each row (rows TEST_START to TEST_REINIT_DONE of the opcode table). -/

namespace Sys2Proof.Machine

/-- TEST_START (R454). -/
def execTestStart (rq : Rq) (ws : List Word) (s : State) : Host.Outcome State Fault Refusal :=
  s.run (fun d => d.command rq (blkPage .bst) 0x0B01 ws)

/-- TEST_ABORT (R459). -/
def execTestAbort (rq : Rq) (ws : List Word) (s : State) : Host.Outcome State Fault Refusal :=
  s.run (fun d => d.command rq (blkPage .bst) 0x0B02 ws)

/-- TEST_RESULT (R464). -/
def execTestResult (rq : Rq) (ws : List Word) (s : State) : Host.Outcome State Fault Refusal :=
  s.run (fun d => d.command rq (blkPage .bst) 0x0B03 ws)

/-- TEST_PATTERNS_DONE (R461). -/
def execTestPatternsDone (sig : Nat) (mism : Nat) (first : Nat) (s : State) : Host.Outcome State Fault Refusal :=
  s.run (fun d => effTestPatternsDone sig mism first d)

/-- TEST_OVERRUN (R459). -/
def execTestOverrun (executed : Nat) (s : State) : Host.Outcome State Fault Refusal :=
  s.run (fun d => effTestOverrun executed d)

/-- TEST_REINIT_DONE (R456). -/
def execTestReinitDone (s : State) : Host.Outcome State Fault Refusal :=
  s.run (fun d => effTestReinitDone d)

end Sys2Proof.Machine
end

