-- ==== Sys2Proof/Machine/ExecDram.lean ====
section
/-! DEFINITION. Memory: the meaning of each row (rows INK_PART_WRITE to FREEZE_WATCHDOG of the opcode table). -/

namespace Sys2Proof.Machine

/-- INK_PART_WRITE (R338). -/
def execInkPartWrite (rq : Rq) (k : Nat) (v : Word) (s : State) : Host.Outcome State Fault Refusal :=
  s.run (fun d => d.write rq (A.MEM.INK_PART0 + 4 * (k % 2)) v)

/-- INK_COMMIT (R338). -/
def execInkCommit (rq : Rq) (s : State) : Host.Outcome State Fault Refusal :=
  s.run (fun d => d.write rq A.MEM.INK_CTRL 1)

/-- INK_PEAK_CLEAR (R336). -/
def execInkPeakClear (rq : Rq) (k : Nat) (s : State) : Host.Outcome State Fault Refusal :=
  s.run (fun d => d.write rq (A.MEM.INK_USE (k % 6)) 0)

/-- DDR_CFG_WRITE (R342). -/
def execDdrCfgWrite (rq : Rq) (v : Word) (s : State) : Host.Outcome State Fault Refusal :=
  s.run (fun d => d.write rq (A.MEM.DDR_CFG) v)

/-- DDR_ENABLE (R342). -/
def execDdrEnable (rq : Rq) (v : Word) (s : State) : Host.Outcome State Fault Refusal :=
  s.run (fun d => d.write rq A.MEM.DDR_CFG (v ||| 0x100))

/-- DDR_DISABLE (R499). -/
def execDdrDisable (rq : Rq) (v : Word) (s : State) : Host.Outcome State Fault Refusal :=
  s.run (fun d => d.write rq A.MEM.DDR_CFG (v &&& 0xFFFFFEFF))

/-- DDR_STOP_DONE (R499). -/
def execDdrStopDone (s : State) : Host.Outcome State Fault Refusal :=
  s.run (fun d => effDdrStopDone d)

/-- DDR_TRAINING_DONE (R343). -/
def execDdrTrainingDone (ok : Bool) (s : State) : Host.Outcome State Fault Refusal :=
  s.run (fun d => effDdrTrainingDone ok d)

/-- DDR_INIT_EARLY_DONE (R344). -/
def execDdrInitEarlyDone (s : State) : Host.Outcome State Fault Refusal :=
  s.run (fun d => (effDdrInitEarlyDone d).dlAll)

/-- DDR_INIT_DONE (R344). -/
def execDdrInitDone (s : State) : Host.Outcome State Fault Refusal :=
  s.run (fun d => effDdrInitDone d)

/-- DDR_REFRESH (R345). -/
def execDdrRefresh (rank : Nat) (urgent : Bool) (s : State) : Host.Outcome State Fault Refusal :=
  s.run (fun d => effDdrRefresh rank urgent d)

/-- MR4_POLL (R345). -/
def execMr4Poll (hot0 : Bool) (hot1 : Bool) (s : State) : Host.Outcome State Fault Refusal :=
  s.run (fun d => effMr4Poll hot0 hot1 d)

/-- DQS_OSC_READ (R343). -/
def execDqsOscRead (drift : Nat) (s : State) : Host.Outcome State Fault Refusal :=
  s.run (fun d => effDqsOscRead drift d)

/-- ZQ_CAL (R343). -/
def execZqCal (s : State) : Host.Outcome State Fault Refusal :=
  s.run (fun d => effZqCal d)

/-- DDR_READ_RETURN (R348). -/
def execDdrReadReturn (port : Nat) (addr : Nat) (errs : Nat) (synd : List Word) (ns : Nat) (s : State) : Host.Outcome State Fault Refusal :=
  s.run (fun d => effDdrReadReturn port addr errs synd ns d)

/-- WRITE_CRC_ALERT (R349). -/
def execWriteCrcAlert (port : Nat) (part : Bool) (addr : Nat) (retries : Nat) (s : State) : Host.Outcome State Fault Refusal :=
  s.run (fun d => (effWriteCrcAlert port part addr retries d).storeFailed port d)

/-- PATROL_SCRUB (R348). -/
def execPatrolScrub (errs : Nat) (synd : List Word) (s : State) : Host.Outcome State Fault Refusal :=
  s.run (fun d => effPatrolScrub errs synd d)

/-- THAW (R350). -/
def execThaw (rq : Rq) (ws : List Word) (s : State) : Host.Outcome State Fault Refusal :=
  s.run (fun d => d.command rq (blkPage .mem) 0x0701 ws)

/-- THAW_DONE (R350). -/
def execThawDone (s : State) : Host.Outcome State Fault Refusal :=
  s.run (fun d => effThawDone d)

/-- DP_RESET (R350). -/
def execDpReset (rq : Rq) (ws : List Word) (s : State) : Host.Outcome State Fault Refusal :=
  s.run (fun d => d.command rq (blkPage .mem) 0x0702 ws)

/-- DATA_PLANE_RESET_DONE (R20). -/
def execDataPlaneResetDone (s : State) : Host.Outcome State Fault Refusal :=
  s.run (fun d => effDataPlaneResetDone d)

/-- FREEZE_WATCHDOG (R351). -/
def execFreezeWatchdog (s : State) : Host.Outcome State Fault Refusal :=
  s.run (fun d => effFreezeWatchdog d)

end Sys2Proof.Machine
end

