-- ==== Sys2Proof/Machine/ExecHost.lean ====
section
/-! DEFINITION. The host's transports and requests: the meaning of each row (rows HELLO to ACP_KEY_WRITE of the opcode table). -/

namespace Sys2Proof.Machine

/-- HELLO (R42). -/
def execHello (src : Src) (m : Msg) (s : State) : Host.Outcome State Fault Refusal :=
  s.run (fun d => d.ask src OP.HELLO m)

/-- READ (R27). -/
def execRead (src : Src) (m : Msg) (s : State) : Host.Outcome State Fault Refusal :=
  s.run (fun d => d.ask src OP.READ m)

/-- WRITE (R27). -/
def execWrite (src : Src) (m : Msg) (s : State) : Host.Outcome State Fault Refusal :=
  s.run (fun d => d.ask src OP.WRITE m)

/-- MODIFY (R25). -/
def execModify (src : Src) (m : Msg) (s : State) : Host.Outcome State Fault Refusal :=
  s.run (fun d => d.ask src OP.MODIFY m)

/-- WATCH (R37). -/
def execWatch (src : Src) (m : Msg) (s : State) : Host.Outcome State Fault Refusal :=
  s.run (fun d => d.ask src OP.WATCH m)

/-- WATCH_TIMEOUT (R37). -/
def execWatchTimeout (src : Src) (s : State) : Host.Outcome State Fault Refusal :=
  s.run (fun d => effWatchTimeout src d)

/-- ATTN_SCAN (R40). -/
def execAttnScan (src : Src) (m : Msg) (s : State) : Host.Outcome State Fault Refusal :=
  s.run (fun d => d.ask src OP.ATTN_SCAN m)

/-- CLOSE (R42). -/
def execClose (src : Src) (m : Msg) (s : State) : Host.Outcome State Fault Refusal :=
  s.run (fun d => d.ask src OP.CLOSE m)

/-- NOP (R25). -/
def execNop (src : Src) (m : Msg) (s : State) : Host.Outcome State Fault Refusal :=
  s.run (fun d => d.ask src OP.NOP m)

/-- REQUEST_PRODUCER_WRITE (R497). -/
def execRequestProducerWrite (n : Nat) (v : Word) (es : List RingEnt) (s : State) : Host.Outcome State Fault Refusal :=
  s.run (fun d => effRequestProducerWrite n v es d)

/-- REPLY_CONSUMER_WRITE (R497). -/
def execReplyConsumerWrite (n : Nat) (v : Word) (s : State) : Host.Outcome State Fault Refusal :=
  s.run (fun d => effReplyConsumerWrite n v d)

/-- RING_CONFIG_WRITE (R45). -/
def execRingConfigWrite (off : Nat) (v : Word) (s : State) : Host.Outcome State Fault Refusal :=
  s.run (fun d => effRingConfigWrite off v d)

/-- PCIE_LINK_DOWN (R47). -/
def execPcieLinkDown (s : State) : Host.Outcome State Fault Refusal :=
  s.run (fun d => effPcieLinkDown d)

/-- SPI_REQUEST (R49). -/
def execSpiRequest (bs : List Byte) (s : State) : Host.Outcome State Fault Refusal :=
  s.run (fun d => effSpiRequest bs d)

/-- SPI_REPLY (R50). -/
def execSpiReply (clocks : Nat) (s : State) : Host.Outcome State Fault Refusal :=
  s.run (fun d => effSpiReply clocks d)

/-- SPI_STATUS (R48). -/
def execSpiStatus (s : State) : Host.Outcome State Fault Refusal :=
  s.run (fun d => effSpiStatus d)

/-- ACP_DATAGRAM (R53). -/
def execAcpDatagram (port : Nat) (peer : Nat) (udp : Bool) (bs : List Byte) (s : State) : Host.Outcome State Fault Refusal :=
  s.run (fun d => effAcpDatagram port peer udp bs d)

/-- ACP_SESSION_IDLE (R56). -/
def execAcpSessionIdle (id : Nat) (s : State) : Host.Outcome State Fault Refusal :=
  s.run (fun d => effAcpSessionIdle id d)

/-- ACP_KEY_WRITE (R57). -/
def execAcpKeyWrite (rq : Rq) (slot : Nat) (ws : List Word) (s : State) : Host.Outcome State Fault Refusal :=
  s.run (fun d => d.writes rq (A.HCI.ACP_KEY (8 * (slot % 4))) ws)

end Sys2Proof.Machine
end

