-- ==== Sys2Proof/Machine/ExecIsa.lean ====
section
/-! DEFINITION. The Etold instructions: the meaning of each row (rows ALU to FENCE of the opcode table). -/

namespace Sys2Proof.Machine

/-- ALU (R252). -/
def execAlu (u : Cpu) (f : FmtR) (s : State) : Host.Outcome State Fault Refusal :=
  s.run (fun d => cmdAlu u f d)

/-- ADDI (R251). -/
def execAddi (u : Cpu) (f : FmtI) (s : State) : Host.Outcome State Fault Refusal :=
  s.run (fun d => cmdAddi u f d)

/-- SUBI (R251). -/
def execSubi (u : Cpu) (f : FmtI) (s : State) : Host.Outcome State Fault Refusal :=
  s.run (fun d => cmdSubi u f d)

/-- ANDI (R251). -/
def execAndi (u : Cpu) (f : FmtI) (s : State) : Host.Outcome State Fault Refusal :=
  s.run (fun d => cmdAndi u f d)

/-- ORI (R251). -/
def execOri (u : Cpu) (f : FmtI) (s : State) : Host.Outcome State Fault Refusal :=
  s.run (fun d => cmdOri u f d)

/-- XORI (R251). -/
def execXori (u : Cpu) (f : FmtI) (s : State) : Host.Outcome State Fault Refusal :=
  s.run (fun d => cmdXori u f d)

/-- SHLI (R251). -/
def execShli (u : Cpu) (f : FmtI) (s : State) : Host.Outcome State Fault Refusal :=
  s.run (fun d => cmdShli u f d)

/-- SHRI (R251). -/
def execShri (u : Cpu) (f : FmtI) (s : State) : Host.Outcome State Fault Refusal :=
  s.run (fun d => cmdShri u f d)

/-- SARI (R251). -/
def execSari (u : Cpu) (f : FmtI) (s : State) : Host.Outcome State Fault Refusal :=
  s.run (fun d => cmdSari u f d)

/-- RORI (R251). -/
def execRori (u : Cpu) (f : FmtI) (s : State) : Host.Outcome State Fault Refusal :=
  s.run (fun d => cmdRori u f d)

/-- MULI (R251). -/
def execMuli (u : Cpu) (f : FmtI) (s : State) : Host.Outcome State Fault Refusal :=
  s.run (fun d => cmdMuli u f d)

/-- LDW (R255). -/
def execLdw (u : Cpu) (f : FmtM) (s : State) : Host.Outcome State Fault Refusal :=
  s.run (fun d => cmdLdw u f d)

/-- LDH (R255). -/
def execLdh (u : Cpu) (f : FmtM) (s : State) : Host.Outcome State Fault Refusal :=
  s.run (fun d => cmdLdh u f d)

/-- LDHU (R255). -/
def execLdhu (u : Cpu) (f : FmtM) (s : State) : Host.Outcome State Fault Refusal :=
  s.run (fun d => cmdLdhu u f d)

/-- LDB (R255). -/
def execLdb (u : Cpu) (f : FmtM) (s : State) : Host.Outcome State Fault Refusal :=
  s.run (fun d => cmdLdb u f d)

/-- LDBU (R255). -/
def execLdbu (u : Cpu) (f : FmtM) (s : State) : Host.Outcome State Fault Refusal :=
  s.run (fun d => cmdLdbu u f d)

/-- STW (R255). -/
def execStw (u : Cpu) (f : FmtM) (s : State) : Host.Outcome State Fault Refusal :=
  s.run (fun d => cmdStw u f d)

/-- STH (R255). -/
def execSth (u : Cpu) (f : FmtM) (s : State) : Host.Outcome State Fault Refusal :=
  s.run (fun d => cmdSth u f d)

/-- STB (R255). -/
def execStb (u : Cpu) (f : FmtM) (s : State) : Host.Outcome State Fault Refusal :=
  s.run (fun d => cmdStb u f d)

/-- ATOM (R255). -/
def execAtom (u : Cpu) (f : FmtR) (s : State) : Host.Outcome State Fault Refusal :=
  s.run (fun d => cmdAtom u f d)

/-- MOVL (R251). -/
def execMovl (u : Cpu) (f : FmtU) (s : State) : Host.Outcome State Fault Refusal :=
  s.run (fun d => cmdMovl u f d)

/-- MOVH (R251). -/
def execMovh (u : Cpu) (f : FmtU) (s : State) : Host.Outcome State Fault Refusal :=
  s.run (fun d => cmdMovh u f d)

/-- BR (R253). -/
def execBr (u : Cpu) (f : FmtB) (s : State) : Host.Outcome State Fault Refusal :=
  s.run (fun d => cmdBr u f d)

/-- CALL (R244). -/
def execCall (u : Cpu) (f : FmtB) (s : State) : Host.Outcome State Fault Refusal :=
  s.run (fun d => cmdCall u f d)

/-- JMP (R253). -/
def execJmp (u : Cpu) (f : FmtR) (s : State) : Host.Outcome State Fault Refusal :=
  s.run (fun d => cmdJmp u f d)

/-- CALLR (R244). -/
def execCallr (u : Cpu) (f : FmtR) (s : State) : Host.Outcome State Fault Refusal :=
  s.run (fun d => cmdCallr u f d)

/-- RET (R244). -/
def execRet (u : Cpu) (f : FmtR) (s : State) : Host.Outcome State Fault Refusal :=
  s.run (fun d => cmdRet u f d)

/-- RETE (R263). -/
def execRete (u : Cpu) (f : FmtR) (s : State) : Host.Outcome State Fault Refusal :=
  s.run (fun d => cmdRete u f d)

/-- TRAP (R261). -/
def execTrap (u : Cpu) (f : FmtI) (s : State) : Host.Outcome State Fault Refusal :=
  s.run (fun d => cmdTrap u f d)

/-- WFE (R258). -/
def execWfe (u : Cpu) (f : FmtR) (s : State) : Host.Outcome State Fault Refusal :=
  s.run (fun d => cmdWfe u f d)

/-- WFE_WAKE (R258). -/
def execWfeWake (u : Cpu) (s : State) : Host.Outcome State Fault Refusal :=
  s.run (fun d => effWfeWake u d)

/-- SEV (R258). -/
def execSev (u : Cpu) (f : FmtR) (s : State) : Host.Outcome State Fault Refusal :=
  s.run (fun d => cmdSev u f d)

/-- WAITU (R259). -/
def execWaitu (u : Cpu) (f : FmtR) (s : State) : Host.Outcome State Fault Refusal :=
  s.run (fun d => cmdWaitu u f d)

/-- WAITU_RESUME (R259). -/
def execWaituResume (u : Cpu) (s : State) : Host.Outcome State Fault Refusal :=
  s.run (fun d => effWaituResume u d)

/-- TAKE (R260). -/
def execTake (u : Cpu) (f : FmtR) (s : State) : Host.Outcome State Fault Refusal :=
  s.run (fun d => cmdTake u f d)

/-- DONE (R229). -/
def execDone (u : Cpu) (f : FmtR) (s : State) : Host.Outcome State Fault Refusal :=
  s.run (fun d => cmdDone u f d)

/-- MFS (R257). -/
def execMfs (u : Cpu) (f : FmtR) (s : State) : Host.Outcome State Fault Refusal :=
  s.run (fun d => cmdMfs u f d)

/-- MTS (R257). -/
def execMts (u : Cpu) (f : FmtR) (s : State) : Host.Outcome State Fault Refusal :=
  s.run (fun d => cmdMts u f d)

/-- FENCE (R256). -/
def execFence (u : Cpu) (f : FmtR) (s : State) : Host.Outcome State Fault Refusal :=
  s.run (fun d => cmdFence u f d)

end Sys2Proof.Machine
end

