-- ==== Sys2Proof/Machine/ExecLate.lean ====
section
/-! DEFINITION. The rows that close the table: the meaning of each row (rows COMMAND_PATH_PARITY_ERROR to TEST_PORT_INSTRUCTION of the opcode table). -/

namespace Sys2Proof.Machine

/-- COMMAND_PATH_PARITY_ERROR (R349). -/
def execCommandPathParityError (c : Nat) (port : Nat) (addr : Nat) (s : State) : Host.Outcome State Fault Refusal :=
  s.run (fun d => effCommandPathParityError c port addr d)

/-- BROWN_OUT_RELEASE (R436). -/
def execBrownOutRelease (s : State) : Host.Outcome State Fault Refusal :=
  s.run (fun d => effBrownOutRelease d)

/-- PCIE_LINK_UP (R47). -/
def execPcieLinkUp (s : State) : Host.Outcome State Fault Refusal :=
  s.run (fun d => effPcieLinkUp d)

/-- TMU_MS_TICK (R407). -/
def execTmuMsTick (temps : List Int) (volts : List Nat) (iin : Nat) (s : State) : Host.Outcome State Fault Refusal :=
  s.run (fun d => effTmuMsTick temps volts iin d)

/-- AON_TEMP_SAMPLE (R374). -/
def execAonTempSample (temp : Int) (s : State) : Host.Outcome State Fault Refusal :=
  s.run (fun d => effAonTempSample temp d)

/-- ED_BUSY_CHANGE (R112). -/
def execEdBusyChange (r : Radio) (sub : Nat) (power : Int) (s : State) : Host.Outcome State Fault Refusal :=
  s.run (fun d => effEdBusyChange r sub power d)

/-- SECONDARY_PD_DETECT (R99). -/
def execSecondaryPdDetect (r : Radio) (sub : Nat) (power : Int) (durUs : Nat) (s : State) : Host.Outcome State Fault Refusal :=
  s.run (fun d => effSecondaryPdDetect r sub power durUs d)

/-- NAV_EXPIRY (R135). -/
def execNavExpiry (r : Radio) (s : State) : Host.Outcome State Fault Refusal :=
  s.run (fun d => effNavExpiry r d)

/-- TEST_PORT_INSTRUCTION (R489). -/
def execTestPortInstruction (inst : PortInstr) (s : State) : Host.Outcome State Fault Refusal :=
  s.run (fun d => effTestPortInstruction inst d)

end Sys2Proof.Machine
end

