-- ==== Sys2Proof/Machine/ExecLink.lean ====
section
/-! DEFINITION. The multi-link device: the meaning of each row (rows AP_MLD_SET to REORDER_HOLE_TIMEOUT of the opcode table). -/

namespace Sys2Proof.Machine

/-- AP_MLD_SET (R169). -/
def execApMldSet (rq : Rq) (ws : List Word) (s : State) : Host.Outcome State Fault Refusal :=
  s.run (fun d => d.command rq (blkPage .mld) 0x0130 ws)

/-- STA_SET (R170). -/
def execStaSet (rq : Rq) (ws : List Word) (s : State) : Host.Outcome State Fault Refusal :=
  s.run (fun d => d.command rq (blkPage .mld) 0x0131 ws)

/-- STA_DEL (R171). -/
def execStaDel (rq : Rq) (ws : List Word) (s : State) : Host.Outcome State Fault Refusal :=
  s.run (fun d => d.command rq (blkPage .mld) 0x0132 ws)

/-- BA_SET (R172). -/
def execBaSet (rq : Rq) (ws : List Word) (s : State) : Host.Outcome State Fault Refusal :=
  s.run (fun d => d.command rq (blkPage .mld) 0x0133 ws)

/-- LINK_CTRL_WRITE (R180). -/
def execLinkCtrlWrite (rq : Rq) (v : Word) (s : State) : Host.Outcome State Fault Refusal :=
  s.run (fun d => d.write rq (A.MLD.LINK_CTRL) v)

/-- QUIESCE_DONE (R181). -/
def execQuiesceDone (r : Radio) (s : State) : Host.Outcome State Fault Refusal :=
  s.run (fun d => if (d.quiesceDone r).mld.quiesced.get r then (d.quiesceDone r).bstQuiesced r else d)

/-- REORDER_HOLE_TIMEOUT (R182). -/
def execReorderHoleTimeout (sta : Nat) (tid : Nat) (s : State) : Host.Outcome State Fault Refusal :=
  s.run (fun d => effReorderHoleTimeout sta tid d)

end Sys2Proof.Machine
end

