-- ==== Sys2Proof/Machine/ExecManage.lean ====
section
/-! DEFINITION. Management: the meaning of each row (rows MP_WDOG_EXPIRY to VIN_WARN_CLEAR of the opcode table). -/

namespace Sys2Proof.Machine

/-- MP_WDOG_EXPIRY (R409). -/
def execMpWdogExpiry (s : State) : Host.Outcome State Fault Refusal :=
  s.run (fun d => effMpWdogExpiry d)

/-- WDOG_WRITE (R409). -/
def execWdogWrite (rq : Rq) (v : Word) (s : State) : Host.Outcome State Fault Refusal :=
  s.run (fun d => d.write rq (A.MGT.WDOG) v)

/-- MP_RESTART_DONE (R409). -/
def execMpRestartDone (s : State) : Host.Outcome State Fault Refusal :=
  s.run (fun d => effMpRestartDone d)

/-- DRAM_WIN_WRITE (R408). -/
def execDramWinWrite (rq : Rq) (v : Word) (s : State) : Host.Outcome State Fault Refusal :=
  s.run (fun d => d.write rq (A.MGT.DRAM_WIN) v)

/-- TEMP_WARN (R411). -/
def execTempWarn (k : Nat) (t : Int) (s : State) : Host.Outcome State Fault Refusal :=
  s.run (fun d => effTempWarn k t d)

/-- THERMAL_TRIP (R412). -/
def execThermalTrip (k : Nat) (t : Int) (s : State) : Host.Outcome State Fault Refusal :=
  s.run (fun d => effThermalTrip k t d)

/-- BLT_COMMIT_TIMER (R416). -/
def execBltCommitTimer (s : State) : Host.Outcome State Fault Refusal :=
  s.run (fun d => effBltCommitTimer d)

/-- BLT_COMMIT (R416). -/
def execBltCommit (rq : Rq) (ws : List Word) (s : State) : Host.Outcome State Fault Refusal :=
  s.run (fun d => d.command rq (blkPage .mgt) 0x0A02 ws)

/-- BLT_READ (R419). -/
def execBltRead (rq : Rq) (ws : List Word) (s : State) : Host.Outcome State Fault Refusal :=
  s.run (fun d => d.command rq (blkPage .mgt) 0x0A01 ws)

/-- FLASH_OP_DONE (R416). -/
def execFlashOpDone (ok : Bool) (s : State) : Host.Outcome State Fault Refusal :=
  s.run (fun d => (effFlashOpDone ok d).serveAll)

/-- COLD_BOOT (R423). -/
def execColdBoot (x : BootSeen) (s : State) : Host.Outcome State Fault Refusal :=
  s.run (fun d => effColdBoot x d)

/-- UPD_BEGIN (R424). -/
def execUpdBegin (rq : Rq) (ws : List Word) (s : State) : Host.Outcome State Fault Refusal :=
  s.run (fun d => d.command rq (blkPage .mgt) 0x0A10 ws)

/-- UPD_ERASE_DONE (R424). -/
def execUpdEraseDone (s : State) : Host.Outcome State Fault Refusal :=
  s.run (fun d => effUpdEraseDone d)

/-- UPD_WRITE (R424). -/
def execUpdWrite (rq : Rq) (ws : List Word) (s : State) : Host.Outcome State Fault Refusal :=
  s.run (fun d => d.command rq (blkPage .mgt) 0x0A11 ws)

/-- UPD_FINISH (R424). -/
def execUpdFinish (rq : Rq) (ws : List Word) (s : State) : Host.Outcome State Fault Refusal :=
  s.run (fun d => d.command rq (blkPage .mgt) 0x0A12 ws)

/-- UPD_ACTIVATE (R424). -/
def execUpdActivate (rq : Rq) (ws : List Word) (s : State) : Host.Outcome State Fault Refusal :=
  s.run (fun d => d.command rq (blkPage .mgt) 0x0A13 ws)

/-- UPD_CONFIRM (R424). -/
def execUpdConfirm (rq : Rq) (ws : List Word) (s : State) : Host.Outcome State Fault Refusal :=
  s.run (fun d => d.command rq (blkPage .mgt) 0x0A14 ws)

/-- UPD_ABORT (R424). -/
def execUpdAbort (rq : Rq) (ws : List Word) (s : State) : Host.Outcome State Fault Refusal :=
  s.run (fun d => d.command rq (blkPage .mgt) 0x0A15 ws)

/-- UPD_TRIAL_TIMEOUT (R424). -/
def execUpdTrialTimeout (s : State) : Host.Outcome State Fault Refusal :=
  s.run (fun d => effUpdTrialTimeout d)

/-- CFG_STAGE (R428). -/
def execCfgStage (rq : Rq) (ws : List Word) (s : State) : Host.Outcome State Fault Refusal :=
  s.run (fun d => d.command rq (blkPage .mgt) 0x0A20 ws)

/-- CFG_COMMIT (R428). -/
def execCfgCommit (rq : Rq) (ws : List Word) (s : State) : Host.Outcome State Fault Refusal :=
  s.run (fun d => d.command rq (blkPage .mgt) 0x0A21 ws)

/-- CFG_DISCARD (R428). -/
def execCfgDiscard (rq : Rq) (ws : List Word) (s : State) : Host.Outcome State Fault Refusal :=
  s.run (fun d => d.command rq (blkPage .mgt) 0x0A22 ws)

/-- OTP_KEY (R432). -/
def execOtpKey (rq : Rq) (ws : List Word) (s : State) : Host.Outcome State Fault Refusal :=
  s.run (fun d => d.command rq (blkPage .mgt) 0x0A30 ws)

/-- KEY_REVOKE (R426). -/
def execKeyRevoke (rq : Rq) (ws : List Word) (s : State) : Host.Outcome State Fault Refusal :=
  s.run (fun d => d.command rq (blkPage .mgt) 0x0A31 ws)

/-- OTP_REG (R432). -/
def execOtpReg (rq : Rq) (ws : List Word) (s : State) : Host.Outcome State Fault Refusal :=
  s.run (fun d => d.command rq (blkPage .mgt) 0x0A32 ws)

/-- LC_ADVANCE (R430). -/
def execLcAdvance (rq : Rq) (ws : List Word) (s : State) : Host.Outcome State Fault Refusal :=
  s.run (fun d => d.command rq (blkPage .mgt) 0x0A33 ws)

/-- LC_NONCE (R431). -/
def execLcNonce (rq : Rq) (ws : List Word) (s : State) : Host.Outcome State Fault Refusal :=
  s.run (fun d => d.command rq (blkPage .mgt) 0x0A34 ws)

/-- VIN_WARN (R429). -/
def execVinWarn (mv : Nat) (s : State) : Host.Outcome State Fault Refusal :=
  s.run (fun d => effVinWarn mv d)

/-- VIN_WARN_CLEAR (R437). -/
def execVinWarnClear (mv : Nat) (s : State) : Host.Outcome State Fault Refusal :=
  s.run (fun d => effVinWarnClear mv d)

end Sys2Proof.Machine
end

