-- ==== Sys2Proof/Machine/ExecNode.lean ====
section
/-! DEFINITION. The mesh: the meaning of each row (rows MESH_ENABLE_WRITE to MSG_GET of the opcode table). -/

namespace Sys2Proof.Machine

/-- MESH_ENABLE_WRITE (R381). -/
def execMeshEnableWrite (rq : Rq) (v : Word) (s : State) : Host.Outcome State Fault Refusal :=
  s.run (fun d => d.write rq (A.MSH.MESH_CFG) v)

/-- CANDIDATE_LISTEN_END (R381). -/
def execCandidateListenEnd (s : State) : Host.Outcome State Fault Refusal :=
  s.run (fun d => effCandidateListenEnd d)

/-- UPLINK_HOLD_EXPIRY (R382). -/
def execUplinkHoldExpiry (s : State) : Host.Outcome State Fault Refusal :=
  s.run (fun d => effUplinkHoldExpiry d)

/-- MESH_BEACON_RX (R384). -/
def execMeshBeaconRx (b : MeshBeacon) (s : State) : Host.Outcome State Fault Refusal :=
  s.run (fun d => effMeshBeaconRx b d)

/-- SCAN_DWELL_EXPIRY (R383). -/
def execScanDwellExpiry (s : State) : Host.Outcome State Fault Refusal :=
  s.run (fun d => effScanDwellExpiry d)

/-- PARENT_LISTEN_END (R384). -/
def execParentListenEnd (s : State) : Host.Outcome State Fault Refusal :=
  s.run (fun d => effParentListenEnd d)

/-- JOIN_REQ_RX (R385). -/
def execJoinReqRx (ver : Nat) (q : JoinReq) (s : State) : Host.Outcome State Fault Refusal :=
  s.run (fun d => effJoinReqRx ver q d)

/-- JOIN_ACCEPT_RX (R385). -/
def execJoinAcceptRx (ver : Nat) (mac : Nat) (addr : Nat) (nonce : Nat) (s : State) : Host.Outcome State Fault Refusal :=
  s.run (fun d => effJoinAcceptRx ver mac addr nonce d)

/-- JOIN_WAIT_RX (R385). -/
def execJoinWaitRx (ver : Nat) (mac : Nat) (s : State) : Host.Outcome State Fault Refusal :=
  s.run (fun d => effJoinWaitRx ver mac d)

/-- JOIN_TIMEOUT (R387). -/
def execJoinTimeout (s : State) : Host.Outcome State Fault Refusal :=
  s.run (fun d => effJoinTimeout d)

/-- ADDR_REQ_RX (R386). -/
def execAddrReqRx (m : MeshMsg) (s : State) : Host.Outcome State Fault Refusal :=
  s.run (fun d => effUpMessageRx { m with typ := 0x04 } d)

/-- GRANT_SEND (R386). -/
def execGrantSend (s : State) : Host.Outcome State Fault Refusal :=
  s.run (fun d => effGrantSend d)

/-- LEASE_RENEW_TIMER (R379). -/
def execLeaseRenewTimer (s : State) : Host.Outcome State Fault Refusal :=
  s.run (fun d => effLeaseRenewTimer d)

/-- LEASE_RENEW_RX (R379). -/
def execLeaseRenewRx (m : MeshMsg) (s : State) : Host.Outcome State Fault Refusal :=
  s.run (fun d => effUpMessageRx { m with typ := 0x06 } d)

/-- LEASE_EXPIRY (R379). -/
def execLeaseExpiry (addr : Option Nat) (s : State) : Host.Outcome State Fault Refusal :=
  s.run (fun d => effLeaseExpiry addr d)

/-- FLOOD_RX (R391). -/
def execFloodRx (m : MeshMsg) (s : State) : Host.Outcome State Fault Refusal :=
  s.run (fun d => d.floodRx m)

/-- RELAY_FORWARD (R391). -/
def execRelayForward (s : State) : Host.Outcome State Fault Refusal :=
  s.run (fun d => effRelayForward d)

/-- SEEN_EXPIRY (R392). -/
def execSeenExpiry (s : State) : Host.Outcome State Fault Refusal :=
  s.run (fun d => effSeenExpiry d)

/-- UP_MESSAGE_RX (R393). -/
def execUpMessageRx (m : MeshMsg) (s : State) : Host.Outcome State Fault Refusal :=
  s.run (fun d => effUpMessageRx m d)

/-- PARENT_BEACON_LOSS (R395). -/
def execParentBeaconLoss (s : State) : Host.Outcome State Fault Refusal :=
  s.run (fun d => effParentBeaconLoss d)

/-- SLEEP_SET (R396). -/
def execSleepSet (rq : Rq) (ws : List Word) (s : State) : Host.Outcome State Fault Refusal :=
  s.run (fun d => d.command rq (blkPage .msh) 0x0902 ws)

/-- SLEEP_SCHED_RX (R396). -/
def execSleepSchedRx (ver : Nat) (mac : Nat) (l : Nat) (s : State) : Host.Outcome State Fault Refusal :=
  s.run (fun d => effSleepSchedRx ver mac l d)

/-- WAKE_WINDOW_OPEN (R397). -/
def execWakeWindowOpen (s : State) : Host.Outcome State Fault Refusal :=
  s.run (fun d => effWakeWindowOpen d)

/-- WAKE_WINDOW_CLOSE (R398). -/
def execWakeWindowClose (s : State) : Host.Outcome State Fault Refusal :=
  s.run (fun d => effWakeWindowClose d)

/-- SEARCH_TIMEOUT (R399). -/
def execSearchTimeout (s : State) : Host.Outcome State Fault Refusal :=
  s.run (fun d => effSearchTimeout d)

/-- CHILD_TIMEOUT (R399). -/
def execChildTimeout (mac : Nat) (s : State) : Host.Outcome State Fault Refusal :=
  s.run (fun d => effChildTimeout mac d)

/-- DARK_START (R400). -/
def execDarkStart (s : State) : Host.Outcome State Fault Refusal :=
  s.run (fun d => effDarkStart d)

/-- DARK_END (R400). -/
def execDarkEnd (s : State) : Host.Outcome State Fault Refusal :=
  s.run (fun d => effDarkEnd d)

/-- DARK_RETRY (R401). -/
def execDarkRetry (s : State) : Host.Outcome State Fault Refusal :=
  s.run (fun d => effDarkRetry d)

/-- GROUP_REPORT_TIMER (R402). -/
def execGroupReportTimer (s : State) : Host.Outcome State Fault Refusal :=
  s.run (fun d => effGroupReportTimer d)

/-- FLOOD_SEND (R391). -/
def execFloodSend (rq : Rq) (ws : List Word) (s : State) : Host.Outcome State Fault Refusal :=
  s.run (fun d => d.command rq (blkPage .msh) 0x0901 ws)

/-- LEASE_GET (R379). -/
def execLeaseGet (rq : Rq) (ws : List Word) (s : State) : Host.Outcome State Fault Refusal :=
  s.run (fun d => d.command rq (blkPage .msh) 0x0903 ws)

/-- MESH_KEY_SET (R377). -/
def execMeshKeySet (rq : Rq) (ws : List Word) (s : State) : Host.Outcome State Fault Refusal :=
  s.run (fun d => d.command rq (blkPage .msh) 0x0904 ws)

/-- MSG_GET (R389). -/
def execMsgGet (rq : Rq) (ws : List Word) (s : State) : Host.Outcome State Fault Refusal :=
  s.run (fun d => d.command rq (blkPage .msh) 0x0905 ws)

end Sys2Proof.Machine
end

