-- ==== Sys2Proof/Machine/ExecPacket.lean ====
section
/-! DEFINITION. The packet engine: the meaning of each row (rows PKE_ADMIT to L2_FLUSH of the opcode table). -/

namespace Sys2Proof.Machine

/-- PKE_ADMIT (R292). -/
def execPkeAdmit (s : State) : Host.Outcome State Fault Refusal :=
  s.run (fun d => effPkeAdmit d)

/-- FLOW_BUCKET_READ_DONE (R302). -/
def execFlowBucketReadDone (id : Nat) (s : State) : Host.Outcome State Fault Refusal :=
  s.run (fun d => effFlowBucketReadDone id d)

/-- SEQUENCE_RELEASE (R295). -/
def execSequenceRelease (id : Nat) (s : State) : Host.Outcome State Fault Refusal :=
  s.run (fun d => effSequenceRelease id d)

/-- HOST_FRAME_SEND (R314). -/
def execHostFrameSend (n : Nat) (ws : List Word) (h : Hdr) (s : State) : Host.Outcome State Fault Refusal :=
  s.run (fun d => d.postData n (typed 0x30 ws) h)

/-- HOLD_RELEASE (R312). -/
def execHoldRelease (n : Nat) (ws : List Word) (s : State) : Host.Outcome State Fault Refusal :=
  s.run (fun d => d.postData n (typed 0x30 ws) Hdr.none)

/-- HOLD_TIMEOUT (R312). -/
def execHoldTimeout (token : Nat) (s : State) : Host.Outcome State Fault Refusal :=
  s.run (fun d => effHoldTimeout token d)

/-- H_BUFFER_POST (R313). -/
def execHBufferPost (n : Nat) (ws : List Word) (s : State) : Host.Outcome State Fault Refusal :=
  s.run (fun d => d.postData n (typed 0x40 ws) Hdr.none)

/-- FLOW_SCAN (R304). -/
def execFlowScan (k : FlowKey) (s : State) : Host.Outcome State Fault Refusal :=
  s.run (fun d => effFlowScan k d)

/-- L2_AGE_OUT (R298). -/
def execL2AgeOut (vlan : Nat) (mac : Nat) (s : State) : Host.Outcome State Fault Refusal :=
  s.run (fun d => effL2AgeOut vlan mac d)

/-- L2_SET (R315). -/
def execL2Set (rq : Rq) (ws : List Word) (s : State) : Host.Outcome State Fault Refusal :=
  s.run (fun d => d.command rq (blkPage .pke) 0x0501 ws)

/-- VLAN_SET (R315). -/
def execVlanSet (rq : Rq) (ws : List Word) (s : State) : Host.Outcome State Fault Refusal :=
  s.run (fun d => d.command rq (blkPage .pke) 0x0502 ws)

/-- PORT_VLAN (R297). -/
def execPortVlan (rq : Rq) (ws : List Word) (s : State) : Host.Outcome State Fault Refusal :=
  s.run (fun d => d.command rq (blkPage .pke) 0x0503 ws)

/-- BSS_VLAN (R297). -/
def execBssVlan (rq : Rq) (ws : List Word) (s : State) : Host.Outcome State Fault Refusal :=
  s.run (fun d => d.command rq (blkPage .pke) 0x0504 ws)

/-- STA_VLAN (R297). -/
def execStaVlan (rq : Rq) (ws : List Word) (s : State) : Host.Outcome State Fault Refusal :=
  s.run (fun d => d.command rq (blkPage .pke) 0x0505 ws)

/-- IF_SET (R300). -/
def execIfSet (rq : Rq) (ws : List Word) (s : State) : Host.Outcome State Fault Refusal :=
  s.run (fun d => d.command rq (blkPage .pke) 0x0506 ws)

/-- NH_SET (R300). -/
def execNhSet (rq : Rq) (ws : List Word) (s : State) : Host.Outcome State Fault Refusal :=
  s.run (fun d => d.command rq (blkPage .pke) 0x0507 ws)

/-- ROUTE_ADD (R315). -/
def execRouteAdd (rq : Rq) (ws : List Word) (s : State) : Host.Outcome State Fault Refusal :=
  s.run (fun d => d.command rq (blkPage .pke) 0x0508 ws)

/-- ROUTE_DEL (R315). -/
def execRouteDel (rq : Rq) (ws : List Word) (s : State) : Host.Outcome State Fault Refusal :=
  s.run (fun d => d.command rq (blkPage .pke) 0x0509 ws)

/-- FLOW_ADD (R303). -/
def execFlowAdd (rq : Rq) (ws : List Word) (s : State) : Host.Outcome State Fault Refusal :=
  s.run (fun d => d.command rq (blkPage .pke) 0x050A ws)

/-- FLOW_DEL (R303). -/
def execFlowDel (rq : Rq) (ws : List Word) (s : State) : Host.Outcome State Fault Refusal :=
  s.run (fun d => d.command rq (blkPage .pke) 0x050B ws)

/-- FLOW_GET (R303). -/
def execFlowGet (rq : Rq) (ws : List Word) (s : State) : Host.Outcome State Fault Refusal :=
  s.run (fun d => d.command rq (blkPage .pke) 0x050C ws)

/-- ACL_SET (R306). -/
def execAclSet (rq : Rq) (ws : List Word) (s : State) : Host.Outcome State Fault Refusal :=
  s.run (fun d => d.command rq (blkPage .pke) 0x050D ws)

/-- LOCAL_SET (R315). -/
def execLocalSet (rq : Rq) (ws : List Word) (s : State) : Host.Outcome State Fault Refusal :=
  s.run (fun d => d.command rq (blkPage .pke) 0x050E ws)

/-- MAP_SET (R308). -/
def execMapSet (rq : Rq) (ws : List Word) (s : State) : Host.Outcome State Fault Refusal :=
  s.run (fun d => d.command rq (blkPage .pke) 0x050F ws)

/-- L2_FLUSH (R315). -/
def execL2Flush (rq : Rq) (ws : List Word) (s : State) : Host.Outcome State Fault Refusal :=
  s.run (fun d => d.command rq (blkPage .pke) 0x0510 ws)

end Sys2Proof.Machine
end

