-- ==== Sys2Proof/Machine/ExecPages.lean ====
section
/-! DEFINITION. Page headers, counters and registers: the meaning of each row (rows SOFT_RESET to REGISTER_WRITE of the opcode table). -/

namespace Sys2Proof.Machine

/-- SOFT_RESET (R59). -/
def execSoftReset (rq : Rq) (page : Nat) (v : Word) (s : State) : Host.Outcome State Fault Refusal :=
  s.run (fun d => d.write rq (4096 * (page % 4096) + 0x008) (v ||| 2))

/-- SOFT_RESET_DONE (R59). -/
def execSoftResetDone (b : Blk) (s : State) : Host.Outcome State Fault Refusal :=
  s.run (fun d => effSoftResetDone b d)

/-- PG_ENABLE_WRITE (R58). -/
def execPgEnableWrite (rq : Rq) (page : Nat) (v : Word) (s : State) : Host.Outcome State Fault Refusal :=
  s.run (fun d => d.write rq (4096 * (page % 4096) + 0x008) v)

/-- PG_ISOLATE_WRITE (R58). -/
def execPgIsolateWrite (rq : Rq) (page : Nat) (v : Word) (s : State) : Host.Outcome State Fault Refusal :=
  s.run (fun d => d.write rq (4096 * (page % 4096) + 0x008) v)

/-- PG_LOCK_SET (R60). -/
def execPgLockSet (rq : Rq) (page : Nat) (s : State) : Host.Outcome State Fault Refusal :=
  s.run (fun d => d.write rq (4096 * (page % 4096) + 0x020) 1)

/-- ATTN_CAUSE_CLEAR (R35). -/
def execAttnCauseClear (rq : Rq) (page : Nat) (v : Word) (s : State) : Host.Outcome State Fault Refusal :=
  s.run (fun d => d.write rq (4096 * (page % 4096) + 0x010) v)

/-- ATTN_MASK_WRITE (R36). -/
def execAttnMaskWrite (rq : Rq) (page : Nat) (v : Word) (s : State) : Host.Outcome State Fault Refusal :=
  s.run (fun d => d.write rq (4096 * (page % 4096) + 0x014) v)

/-- ATTN_CLASS_WRITE (R34). -/
def execAttnClassWrite (rq : Rq) (page : Nat) (v : Word) (s : State) : Host.Outcome State Fault Refusal :=
  s.run (fun d => d.write rq (4096 * (page % 4096) + 0x018) v)

/-- ATTN_FORCE_WRITE (R40). -/
def execAttnForceWrite (rq : Rq) (page : Nat) (v : Word) (s : State) : Host.Outcome State Fault Refusal :=
  s.run (fun d => d.write rq (4096 * (page % 4096) + 0x01C) v)

/-- COUNTER_WRITE (R64). -/
def execCounterWrite (rq : Rq) (a : Nat) (v : Word) (s : State) : Host.Outcome State Fault Refusal :=
  s.run (fun d => d.write rq (a) v)

/-- REGISTER_WRITE (R30). -/
def execRegisterWrite (rq : Rq) (a : Nat) (v : Word) (s : State) : Host.Outcome State Fault Refusal :=
  s.run (fun d => d.write rq (a) v)

end Sys2Proof.Machine
end

