-- ==== Sys2Proof/Machine/ExecPhy.lean ====
section
/-! DEFINITION. The PHY's receiver and precoders: the meaning of each row (rows ENERGY_RISE to PRECODER_READY of the opcode table). -/

namespace Sys2Proof.Machine

/-- ENERGY_RISE (R96). -/
def execEnergyRise (r : Radio) (power : Int) (s : State) : Host.Outcome State Fault Refusal :=
  s.run (fun d => d.onMedium r (effEnergyRise r power))

/-- DETECTION (R98). -/
def execDetection (r : Radio) (x : Detect) (s : State) : Host.Outcome State Fault Refusal :=
  s.run (fun d => d.onMedium r (effDetection r x))

/-- SETTLE_TIMEOUT (R98). -/
def execSettleTimeout (r : Radio) (s : State) : Host.Outcome State Fault Refusal :=
  s.run (fun d => d.onMedium r (effSettleTimeout r))

/-- FALSESTART_ABORT (R106). -/
def execFalsestartAbort (r : Radio) (recs : List GuardRec) (lna : Nat) (vga : Nat) (s : State) : Host.Outcome State Fault Refusal :=
  s.run (fun d => d.onMedium r (effFalsestartAbort r recs lna vga))

/-- AFC_FREEZE (R104). -/
def execAfcFreeze (r : Radio) (cfo : Int) (s : State) : Host.Outcome State Fault Refusal :=
  s.run (fun d => d.onMedium r (effAfcFreeze r cfo))

/-- L_SIG_RESULT (R106). -/
def execLSigResult (r : Radio) (ok : Bool) (sig : SigInfo) (recs : List GuardRec) (lna : Nat) (vga : Nat) (s : State) : Host.Outcome State Fault Refusal :=
  s.run (fun d => d.onMedium r (effLSigResult r ok sig recs lna vga))

/-- DSSS_HEADER_RESULT (R100). -/
def execDsssHeaderResult (r : Radio) (ok : Bool) (short : Bool) (rate : Nat) (durUs : Nat) (cfo : Int) (s : State) : Host.Outcome State Fault Refusal :=
  s.run (fun d => d.onMedium r (effDsssHeaderResult r ok short rate durUs cfo))

/-- SIG_FAIL (R108). -/
def execSigFail (r : Radio) (s : State) : Host.Outcome State Fault Refusal :=
  s.run (fun d => d.onMedium r (effSigFail r))

/-- OVERTAKE (R109). -/
def execOvertake (r : Radio) (start : Nat) (power : Int) (lna vga : Nat) (u : RxRep × List RxMpdu) (us : List (RxRep × List RxMpdu)) (s : State) : Host.Outcome State Fault Refusal :=
  s.run (fun d => d.onMedium r (effOvertake r start power lna vga u us))

/-- OBSS_PD (R113). -/
def execObssPd (r : Radio) (rssi : Int) (s : State) : Host.Outcome State Fault Refusal :=
  s.run (fun d => d.onMedium r (effObssPd r rssi))

/-- RX_PPDU_END (R117). -/
def execRxPpduEnd (r : Radio) (us : List (RxRep × List RxMpdu)) (s : State) : Host.Outcome State Fault Refusal :=
  s.run (fun d => d.onMedium r (effRxPpduEnd r us))

/-- HOLD_END (R116). -/
def execHoldEnd (r : Radio) (m : RxRep) (s : State) : Host.Outcome State Fault Refusal :=
  s.run (fun d => d.onMedium r (effHoldEnd r m))

/-- RADAR_PULSE (R114). -/
def execRadarPulse (sub : Nat) (power : Int) (width : Nat) (s : State) : Host.Outcome State Fault Refusal :=
  s.run (fun d => effRadarPulse sub power width d)

/-- RADAR_FIFO1_READ (R114). -/
def execRadarFifo1Read (rq : Rq) (s : State) : Host.Outcome State Fault Refusal :=
  s.run (fun d => d.readOne rq (A.PHY.RADAR_FIFO1 .b))

/-- PRECODER_READY (R124). -/
def execPrecoderReady (r : Radio) (s : State) : Host.Outcome State Fault Refusal :=
  s.run (fun d => d.onMedium r (effPrecoderReady r))

end Sys2Proof.Machine
end

