-- ==== Sys2Proof/Machine/ExecPort.lean ====
section
/-! DEFINITION. Ethernet: the meaning of each row (rows ETH_MODE_WRITE to PTP_FRAME_RX of the opcode table). -/

namespace Sys2Proof.Machine

/-- ETH_MODE_WRITE (R318). -/
def execEthModeWrite (rq : Rq) (n : Nat) (v : Word) (s : State) : Host.Outcome State Fault Refusal :=
  s.run (fun d => d.write rq (A.ETH.MODE n) v)

/-- LINK_UP (R318). -/
def execLinkUp (n : Nat) (an : Nat) (s : State) : Host.Outcome State Fault Refusal :=
  s.run (fun d => effLinkUp n an d)

/-- LINK_DOWN (R318). -/
def execLinkDown (n : Nat) (loc : Bool) (rem : Bool) (s : State) : Host.Outcome State Fault Refusal :=
  s.run (fun d => effLinkDown n loc rem d)

/-- ETH_RX_FRAME (R319). -/
def execEthRxFrame (n : Nat) (x : EthIn) (s : State) : Host.Outcome State Fault Refusal :=
  s.run (fun d => effEthRxFrame n x d)

/-- XOFF_REFRESH (R326). -/
def execXoffRefresh (n : Nat) (s : State) : Host.Outcome State Fault Refusal :=
  s.run (fun d => effXoffRefresh n d)

/-- PAUSE_RX (R324). -/
def execPauseRx (n : Nat) (dst : Nat) (quanta : Nat) (s : State) : Host.Outcome State Fault Refusal :=
  s.run (fun d => effPauseRx n dst quanta d)

/-- PFC_RX (R324). -/
def execPfcRx (n : Nat) (dst : Nat) (enables : Nat) (times : List Nat) (s : State) : Host.Outcome State Fault Refusal :=
  s.run (fun d => effPfcRx n dst enables times d)

/-- PAUSE_TIMER_EXPIRY (R324). -/
def execPauseTimerExpiry (n : Nat) (c : Nat) (s : State) : Host.Outcome State Fault Refusal :=
  s.run (fun d => effPauseTimerExpiry n c d)

/-- VERIFY_TIMER (R328). -/
def execVerifyTimer (n : Nat) (s : State) : Host.Outcome State Fault Refusal :=
  s.run (fun d => effVerifyTimer n d)

/-- LPI_ENTRY (R329). -/
def execLpiEntry (n : Nat) (s : State) : Host.Outcome State Fault Refusal :=
  s.run (fun d => effLpiEntry n d)

/-- LPI_WAKE_DONE (R329). -/
def execLpiWakeDone (n : Nat) (s : State) : Host.Outcome State Fault Refusal :=
  s.run (fun d => effLpiWakeDone n d)

/-- STRIDE_OFFER_TIMER (R331). -/
def execStrideOfferTimer (n : Nat) (s : State) : Host.Outcome State Fault Refusal :=
  s.run (fun d => effStrideOfferTimer n d)

/-- STRIDE_OFFER_RX (R331). -/
def execStrideOfferRx (n : Nat) (mn : Nat) (mx : Nat) (s : State) : Host.Outcome State Fault Refusal :=
  s.run (fun d => effStrideOfferRx n mn mx d)

/-- STRIDE_REQUEST_RX (R332). -/
def execStrideRequestRx (n : Nat) (ver : Nat) (target : Nat) (fec : Nat) (xid : Nat) (sender : Nat) (s : State) : Host.Outcome State Fault Refusal :=
  s.run (fun d => effStrideRequestRx n ver target fec xid sender d)

/-- STRIDE_ACK_RX (R332). -/
def execStrideAckRx (n : Nat) (xid : Nat) (lead : Nat) (s : State) : Host.Outcome State Fault Refusal :=
  s.run (fun d => effStrideAckRx n xid lead d)

/-- STRIDE_NAK_RX (R332). -/
def execStrideNakRx (n : Nat) (xid : Nat) (s : State) : Host.Outcome State Fault Refusal :=
  s.run (fun d => effStrideNakRx n xid d)

/-- STRIDE_START (R332). -/
def execStrideStart (rq : Rq) (n : Nat) (ws : List Word) (s : State) : Host.Outcome State Fault Refusal :=
  s.run (fun d => d.command rq (blkPage (.eth n)) 0x0601 ws)

/-- STRIDE_ANSWER_TIMEOUT (R332). -/
def execStrideAnswerTimeout (n : Nat) (s : State) : Host.Outcome State Fault Refusal :=
  s.run (fun d => effStrideAnswerTimeout n d)

/-- STRIDE_QUIET_START (R332). -/
def execStrideQuietStart (n : Nat) (s : State) : Host.Outcome State Fault Refusal :=
  s.run (fun d => effStrideQuietStart n d)

/-- STRIDE_SWITCH (R332). -/
def execStrideSwitch (n : Nat) (s : State) : Host.Outcome State Fault Refusal :=
  s.run (fun d => effStrideSwitch n d)

/-- STRIDE_BLOCK_LOCK (R332). -/
def execStrideBlockLock (n : Nat) (s : State) : Host.Outcome State Fault Refusal :=
  s.run (fun d => effStrideBlockLock n d)

/-- STRIDE_RELOCK_TIMEOUT (R332). -/
def execStrideRelockTimeout (n : Nat) (s : State) : Host.Outcome State Fault Refusal :=
  s.run (fun d => effStrideRelockTimeout n d)

/-- ETH_MAC_WRITE (R334). -/
def execEthMacWrite (rq : Rq) (n : Nat) (hi : Bool) (v : Word) (s : State) : Host.Outcome State Fault Refusal :=
  s.run (fun d => d.write rq (if hi then A.ETH.MAC_HI n else A.ETH.MAC_LO n) v)

/-- PTP_FRAME_RX (R363). -/
def execPtpFrameRx (n : Nat) (h : Hdr) (fcs : Bool) (x : PtpIn) (s : State) : Host.Outcome State Fault Refusal :=
  s.run (fun d => effPtpFrameRx n h fcs x d)

end Sys2Proof.Machine
end

