-- ==== Sys2Proof/Machine/ExecQueue.lean ====
section
/-! DEFINITION. The traffic manager: the meaning of each row (rows QUEUE_SET to ETH_TX_FRAME_END of the opcode table). -/

namespace Sys2Proof.Machine

/-- QUEUE_SET (R278). -/
def execQueueSet (rq : Rq) (ws : List Word) (s : State) : Host.Outcome State Fault Refusal :=
  s.run (fun d => d.command rq (blkPage .tmg) 0x0401 ws)

/-- PROFILE_SET (R277). -/
def execProfileSet (rq : Rq) (ws : List Word) (s : State) : Host.Outcome State Fault Refusal :=
  s.run (fun d => d.command rq (blkPage .tmg) 0x0402 ws)

/-- PACER_SET (R284). -/
def execPacerSet (rq : Rq) (ws : List Word) (s : State) : Host.Outcome State Fault Refusal :=
  s.run (fun d => d.command rq (blkPage .tmg) 0x0403 ws)

/-- METER_SET (R285). -/
def execMeterSet (rq : Rq) (ws : List Word) (s : State) : Host.Outcome State Fault Refusal :=
  s.run (fun d => d.command rq (blkPage .tmg) 0x0404 ws)

/-- METER_STAT (R287). -/
def execMeterStat (rq : Rq) (ws : List Word) (s : State) : Host.Outcome State Fault Refusal :=
  s.run (fun d => d.command rq (blkPage .tmg) 0x0405 ws)

/-- QUEUE_STAT (R289). -/
def execQueueStat (rq : Rq) (ws : List Word) (s : State) : Host.Outcome State Fault Refusal :=
  s.run (fun d => d.command rq (blkPage .tmg) 0x0406 ws)

/-- QUEUE_FLUSH (R289). -/
def execQueueFlush (rq : Rq) (ws : List Word) (s : State) : Host.Outcome State Fault Refusal :=
  s.run (fun d => d.command rq (blkPage .tmg) 0x0407 ws)

/-- PACER_REFILL (R284). -/
def execPacerRefill (k : Nat) (s : State) : Host.Outcome State Fault Refusal :=
  s.run (fun d => effPacerRefill k d)

/-- AGE_CHECK (R288). -/
def execAgeCheck (q : Nat) (s : State) : Host.Outcome State Fault Refusal :=
  s.run (fun d => effAgeCheck q d)

/-- SPILL_WRITE_DONE (R282). -/
def execSpillWriteDone (q : Nat) (s : State) : Host.Outcome State Fault Refusal :=
  s.run (fun d => effSpillWriteDone q d)

/-- REFILL_DONE (R282). -/
def execRefillDone (q : Nat) (s : State) : Host.Outcome State Fault Refusal :=
  s.run (fun d => effRefillDone q d)

/-- HOST_RING_ADMIT_RESUME (R280). -/
def execHostRingAdmitResume (n : Nat) (s : State) : Host.Outcome State Fault Refusal :=
  s.run (fun d => effHostRingAdmitResume n d)

/-- SPILL_CFG_WRITE (R281). -/
def execSpillCfgWrite (rq : Rq) (k : Nat) (v : Word) (s : State) : Host.Outcome State Fault Refusal :=
  s.run (fun d => d.write rq (A.TMG.SPILL_BASE_LO + 4 * (k % 3)) v)

/-- ETH_TX_START (R290). -/
def execEthTxStart (n : Nat) (ce : Bool) (ue : Bool) (s : State) : Host.Outcome State Fault Refusal :=
  s.run (fun d => effEthTxStart n ce ue d)

/-- ETH_TX_FRAME_END (R325). -/
def execEthTxFrameEnd (n : Nat) (s : State) : Host.Outcome State Fault Refusal :=
  s.run (fun d => effEthTxFrameEnd n d)

end Sys2Proof.Machine
end

