-- ==== Sys2Proof/Machine/ExecRadio.lean ====
section
/-! DEFINITION. The radio front end and the regulatory limits: the meaning of each row (rows STATE_CMD_WRITE to RGL_TEST_WRITE of the opcode table). -/

namespace Sys2Proof.Machine

/-- STATE_CMD_WRITE (R69). -/
def execStateCmdWrite (rq : Rq) (r : Radio) (v : Word) (s : State) : Host.Outcome State Fault Refusal :=
  s.run (fun d => d.write rq (A.RFE.STATE_CMD r) v)

/-- CHAN_WRITE (R92). -/
def execChanWrite (rq : Rq) (r : Radio) (v : Word) (s : State) : Host.Outcome State Fault Refusal :=
  s.run (fun d => d.write rq (A.RFE.CHAN r) v)

/-- CHAIN_EN_WRITE (R5). -/
def execChainEnWrite (rq : Rq) (r : Radio) (v : Word) (s : State) : Host.Outcome State Fault Refusal :=
  s.run (fun d => d.write rq (A.RFE.CHAIN_EN r) v)

/-- RADIO_TRANSITION_DONE (R68). -/
def execRadioTransitionDone (r : Radio) (s : State) : Host.Outcome State Fault Refusal :=
  s.run (fun d => (d.onMedium r (effRadioTransitionDone r)).napTry)

/-- SYN_CAL_PHASE_DONE (R71). -/
def execSynCalPhaseDone (r : Radio) (m : CalMeas) (s : State) : Host.Outcome State Fault Refusal :=
  s.run (fun d => d.onMedium r (effSynCalPhaseDone r m))

/-- TEMP_DRIFT_RECAL_DUE (R71). -/
def execTempDriftRecalDue (r : Radio) (t : Int) (s : State) : Host.Outcome State Fault Refusal :=
  s.run (fun d => d.onMedium r (effTempDriftRecalDue r t))

/-- PERIODIC_CAL_DUE (R77). -/
def execPeriodicCalDue (r : Radio) (t : Int) (s : State) : Host.Outcome State Fault Refusal :=
  s.run (fun d => d.onMedium r (effPeriodicCalDue r t))

/-- QUIET_WINDOW_START (R78). -/
def execQuietWindowStart (r : Radio) (durUs : Nat) (s : State) : Host.Outcome State Fault Refusal :=
  s.run (fun d => d.onMedium r (effQuietWindowStart r durUs))

/-- QUIET_WINDOW_END (R78). -/
def execQuietWindowEnd (r : Radio) (s : State) : Host.Outcome State Fault Refusal :=
  s.run (fun d => d.onMedium r (effQuietWindowEnd r))

/-- CAL_DEFER_EXPIRY (R79). -/
def execCalDeferExpiry (r : Radio) (s : State) : Host.Outcome State Fault Refusal :=
  s.run (fun d => d.onMedium r (effCalDeferExpiry r))

/-- TRANSMIT_COMMAND (R73). -/
def execTransmitCommand (r : Radio) (x : TxVec) (fids : List Nat) (ready : Bool) (s : State) : Host.Outcome State Fault Refusal :=
  s.run (fun d => d.onMedium r (effTransmitCommand r x fids ready))

/-- SYN_UNLOCK (R75). -/
def execSynUnlock (r : Radio) (s : State) : Host.Outcome State Fault Refusal :=
  s.run (fun d => d.onMedium r (effSynUnlock r))

/-- SYN_RELOCK_DONE (R75). -/
def execSynRelockDone (r : Radio) (ok : Bool) (s : State) : Host.Outcome State Fault Refusal :=
  s.run (fun d => d.onMedium r (effSynRelockDone r ok))

/-- DUTY_HOLD_RELEASE (R90). -/
def execDutyHoldRelease (r : Radio) (s : State) : Host.Outcome State Fault Refusal :=
  s.run (fun d => d.onMedium r (effDutyHoldRelease r))

/-- RGL_ENABLE_WRITE (R91). -/
def execRglEnableWrite (rq : Rq) (v : Word) (s : State) : Host.Outcome State Fault Refusal :=
  s.run (fun d => d.write rq (0x060008) v)

/-- RGL_FIELD_WRITE (R87). -/
def execRglFieldWrite (rq : Rq) (k : Nat) (v : Word) (s : State) : Host.Outcome State Fault Refusal :=
  s.run (fun d => d.write rq (A.RGL.FIELD_CHAN (k % 29)) v)

/-- RGL_TEST_WRITE (R86). -/
def execRglTestWrite (rq : Rq) (k : Nat) (v : Word) (s : State) : Host.Outcome State Fault Refusal :=
  s.run (fun d => d.write rq (A.RGL.TEST_W (k % 64)) v)

end Sys2Proof.Machine
end

