-- ==== Sys2Proof/Machine/ExecSched.lean ====
section
/-! DEFINITION. The access scheduler: the meaning of each row (rows ROUND_START to HEAT_END of the opcode table). -/

namespace Sys2Proof.Machine

/-- ROUND_START (R186). -/
def execRoundStart (r : Radio) (s : State) : Host.Outcome State Fault Refusal :=
  s.run (fun d => effRoundStart r d)

/-- STA_POLICY (R203). -/
def execStaPolicy (rq : Rq) (ws : List Word) (s : State) : Host.Outcome State Fault Refusal :=
  s.run (fun d => d.command rq (blkPage .asc) 0x0201 ws)

/-- HEAT_PLAN (R205). -/
def execHeatPlan (rq : Rq) (ws : List Word) (s : State) : Host.Outcome State Fault Refusal :=
  s.run (fun d => d.command rq (blkPage .asc) 0x0210 ws)

/-- HEAT_CLEAR (R205). -/
def execHeatClear (rq : Rq) (ws : List Word) (s : State) : Host.Outcome State Fault Refusal :=
  s.run (fun d => d.command rq (blkPage .asc) 0x0211 ws)

/-- ALLOC_GET (R188). -/
def execAllocGet (rq : Rq) (ws : List Word) (s : State) : Host.Outcome State Fault Refusal :=
  s.run (fun d => d.command rq (blkPage .asc) 0x0220 ws)

/-- HEAT_PLAN_ACTIVATE (R209). -/
def execHeatPlanActivate (r : Radio) (s : State) : Host.Outcome State Fault Refusal :=
  s.run (fun d => effHeatPlanActivate r d)

/-- HEAT_ROUND_SUBMIT (R210). -/
def execHeatRoundSubmit (r : Radio) (s : State) : Host.Outcome State Fault Refusal :=
  s.run (fun d => effHeatRoundSubmit r d)

/-- HEAT_LAUNCH (R211). -/
def execHeatLaunch (r : Radio) (x : TxStart) (s : State) : Host.Outcome State Fault Refusal :=
  s.run (fun d => d.onMedium r (effHeatLaunch r x))

/-- HEAT_END (R211). -/
def execHeatEnd (r : Radio) (s : State) : Host.Outcome State Fault Refusal :=
  s.run (fun d => d.onMedium r (effHeatEnd r))

end Sys2Proof.Machine
end

