-- ==== Sys2Proof/Machine/ExecSupply.lean ====
section
/-! DEFINITION. Power: the meaning of each row (rows POWER_ON to BLOCK_WAKE_DONE of the opcode table). -/

namespace Sys2Proof.Machine

/-- POWER_ON (R476). -/
def execPowerOn (s : State) : Host.Outcome State Fault Refusal :=
  s.run (fun d => effPowerOn d)

/-- BROWN_OUT (R436). -/
def execBrownOut (rail : Nat) (lost : Bool) (s : State) : Host.Outcome State Fault Refusal :=
  s.run (fun d => effBrownOut rail lost d)

/-- AON_OVERCURRENT (R440). -/
def execAonOvercurrent (ua : Nat) (s : State) : Host.Outcome State Fault Refusal :=
  s.run (fun d => effAonOvercurrent ua d)

/-- STATE_ENTRY_DONE (R444). -/
def execStateEntryDone (s : State) : Host.Outcome State Fault Refusal :=
  s.run (fun d => effStateEntryDone d)

/-- WAKE_N_LOW (R445). -/
def execWakeNLow (s : State) : Host.Outcome State Fault Refusal :=
  s.run (fun d => effWakeNLow d)

/-- WAKE_TIMER (R445). -/
def execWakeTimer (s : State) : Host.Outcome State Fault Refusal :=
  s.run (fun d => effWakeTimer d)

/-- SPI_CS_WAKE (R445). -/
def execSpiCsWake (s : State) : Host.Outcome State Fault Refusal :=
  s.run (fun d => effSpiCsWake d)

/-- STATE_EXIT_DONE (R446). -/
def execStateExitDone (ok : Bool) (s : State) : Host.Outcome State Fault Refusal :=
  s.run (fun d => effStateExitDone ok d)

/-- BLOCK_IDLE_GATE (R442). -/
def execBlockIdleGate (b : Blk) (s : State) : Host.Outcome State Fault Refusal :=
  s.run (fun d => effBlockIdleGate b d)

/-- BLOCK_WAKE_DONE (R442). -/
def execBlockWakeDone (b : Blk) (s : State) : Host.Outcome State Fault Refusal :=
  s.run (fun d => effBlockWakeDone b d)

end Sys2Proof.Machine
end

