-- ==== Sys2Proof/Machine/ExecTime.lean ====
section
/-! DEFINITION. Time: the meaning of each row (rows TIME_GET to F0_WINDOW of the opcode table). -/

namespace Sys2Proof.Machine

/-- TIME_GET (R355). -/
def execTimeGet (rq : Rq) (ws : List Word) (s : State) : Host.Outcome State Fault Refusal :=
  s.run (fun d => d.command rq (blkPage .tmu) 0x0801 ws)

/-- TIME_SET (R360). -/
def execTimeSet (rq : Rq) (ws : List Word) (s : State) : Host.Outcome State Fault Refusal :=
  s.run (fun d => d.command rq (blkPage .tmu) 0x0802 ws)

/-- TSF_SET (R372). -/
def execTsfSet (rq : Rq) (ws : List Word) (s : State) : Host.Outcome State Fault Refusal :=
  s.run (fun d => d.command rq (blkPage .tmu) 0x0803 ws)

/-- TS_SEND (R364). -/
def execTsSend (rq : Rq) (ws : List Word) (s : State) : Host.Outcome State Fault Refusal :=
  s.run (fun d => d.command rq (blkPage .tmu) 0x0804 ws)

/-- TS_SEND_LAUNCH (R364). -/
def execTsSendLaunch (n : Nat) (s : State) : Host.Outcome State Fault Refusal :=
  s.run (fun d => (effTsSendLaunch n d).serveAll)

/-- OFS_PUT (R357). -/
def execOfsPut (rq : Rq) (ws : List Word) (s : State) : Host.Outcome State Fault Refusal :=
  s.run (fun d => d.command rq (blkPage .tmu) 0x0805 ws)

/-- TB2PTP (R356). -/
def execTb2ptp (rq : Rq) (ws : List Word) (s : State) : Host.Outcome State Fault Refusal :=
  s.run (fun d => d.command rq (blkPage .tmu) 0x0806 ws)

/-- SOURCE_TIMEOUT (R358). -/
def execSourceTimeout (c : Nat) (s : State) : Host.Outcome State Fault Refusal :=
  s.run (fun d => effSourceTimeout c d)

/-- HOLDOVER_EXPIRY (R361). -/
def execHoldoverExpiry (s : State) : Host.Outcome State Fault Refusal :=
  s.run (fun d => effHoldoverExpiry d)

/-- PTP_SYNC_TIMER (R362). -/
def execPtpSyncTimer (s : State) : Host.Outcome State Fault Refusal :=
  s.run (fun d => effPtpSyncTimer d)

/-- FTM_BURST_START (R366). -/
def execFtmBurstStart (s : State) : Host.Outcome State Fault Refusal :=
  s.run (fun d => effFtmBurstStart d)

/-- FTM_BURST_END (R366). -/
def execFtmBurstEnd (b : FtmBurst) (hops : Nat) (s : State) : Host.Outcome State Fault Refusal :=
  s.run (fun d => effFtmBurstEnd b hops d)

/-- PPS_IN_EDGE (R367). -/
def execPpsInEdge (sub : Nat) (s : State) : Host.Outcome State Fault Refusal :=
  s.run (fun d => effPpsInEdge sub d)

/-- PPS_OUT_EDGE (R367). -/
def execPpsOutEdge (s : State) : Host.Outcome State Fault Refusal :=
  s.run (fun d => effPpsOutEdge d)

/-- TIMED_LAUNCH (R369). -/
def execTimedLaunch (r : Radio) (q : Nat) (v : TxVec) (x : TimedSeen) (s : State) : Host.Outcome State Fault Refusal :=
  s.run (fun d => d.onMedium r (effTimedLaunch r q v x))

/-- F0_WINDOW (R374). -/
def execF0Window (f0 : Int) (te : Int) (s : State) : Host.Outcome State Fault Refusal :=
  s.run (fun d => effF0Window f0 te d)

end Sys2Proof.Machine
end

