-- ==== Sys2Proof/Machine/ExecWireless.lean ====
section
/-! DEFINITION. The wireless MAC: the meaning of each row (rows TX_PPDU_END to MAC_ADDR_WRITE of the opcode table). -/

namespace Sys2Proof.Machine

/-- TX_PPDU_END (R130). -/
def execTxPpduEnd (r : Radio) (detect : List Int) (s : State) : Host.Outcome State Fault Refusal :=
  s.run (fun d => d.onMedium r (effTxPpduEnd r detect))

/-- BACKOFF_EXPIRY (R134). -/
def execBackoffExpiry (r : Radio) (acs : List Nat) (x : TxStart) (s : State) : Host.Outcome State Fault Refusal :=
  s.run (fun d => d.onMedium r (effBackoffExpiry r acs x))

/-- TXOP_NEXT_PPDU (R133). -/
def execTxopNextPpdu (r : Radio) (x : TxStart) (s : State) : Host.Outcome State Fault Refusal :=
  s.run (fun d => d.onMedium r (effTxopNextPpdu r x))

/-- SIFS_RESPONSE (R141). -/
def execSifsResponse (r : Radio) (durUs : Nat) (s : State) : Host.Outcome State Fault Refusal :=
  s.run (fun d => d.onMedium r (effSifsResponse r durUs))

/-- RESPONSE_TIMEOUT (R144). -/
def execResponseTimeout (r : Radio) (s : State) : Host.Outcome State Fault Refusal :=
  s.run (fun d => d.onMedium r (effResponseTimeout r))

/-- TBTT (R156). -/
def execTbtt (r : Radio) (b : Nat) (s : State) : Host.Outcome State Fault Refusal :=
  s.run (fun d => effTbtt r b d)

/-- TWT_SP_START (R160). -/
def execTwtSpStart (r : Radio) (id : Nat) (s : State) : Host.Outcome State Fault Refusal :=
  s.run (fun d => effTwtSpStart r id d)

/-- TWT_SP_END (R160). -/
def execTwtSpEnd (r : Radio) (id : Nat) (s : State) : Host.Outcome State Fault Refusal :=
  s.run (fun d => effTwtSpEnd r id d)

/-- KEY_SET (R152). -/
def execKeySet (rq : Rq) (r : Radio) (ws : List Word) (s : State) : Host.Outcome State Fault Refusal :=
  s.run (fun d => d.command rq (blkPage (.mac r)) 0x0101 ws)

/-- KEY_CLEAR (R152). -/
def execKeyClear (rq : Rq) (r : Radio) (ws : List Word) (s : State) : Host.Outcome State Fault Refusal :=
  s.run (fun d => d.command rq (blkPage (.mac r)) 0x0102 ws)

/-- KEY_PN (R152). -/
def execKeyPn (rq : Rq) (r : Radio) (ws : List Word) (s : State) : Host.Outcome State Fault Refusal :=
  s.run (fun d => d.command rq (blkPage (.mac r)) 0x0103 ws)

/-- BSS_SET (R154). -/
def execBssSet (rq : Rq) (r : Radio) (ws : List Word) (s : State) : Host.Outcome State Fault Refusal :=
  s.run (fun d => d.command rq (blkPage (.mac r)) 0x0110 ws)

/-- BEACON_SET (R155). -/
def execBeaconSet (rq : Rq) (r : Radio) (ws : List Word) (s : State) : Host.Outcome State Fault Refusal :=
  s.run (fun d => d.command rq (blkPage (.mac r)) 0x0111 ws)

/-- TWT_SET (R159). -/
def execTwtSet (rq : Rq) (r : Radio) (ws : List Word) (s : State) : Host.Outcome State Fault Refusal :=
  s.run (fun d => d.command rq (blkPage (.mac r)) 0x0120 ws)

/-- TWT_JOIN (R159). -/
def execTwtJoin (rq : Rq) (r : Radio) (ws : List Word) (s : State) : Host.Outcome State Fault Refusal :=
  s.run (fun d => d.command rq (blkPage (.mac r)) 0x0121 ws)

/-- TX_REQUEST (R163). -/
def execTxRequest (n : Nat) (ws : List Word) (h : Hdr) (s : State) : Host.Outcome State Fault Refusal :=
  s.run (fun d => d.postData n (typed 0x10 ws) h)

/-- RX_BUFFER_POST (R166). -/
def execRxBufferPost (n : Nat) (ws : List Word) (s : State) : Host.Outcome State Fault Refusal :=
  s.run (fun d => d.postData n (typed 0x20 ws) Hdr.none)

/-- MAC_ADDR_WRITE (R167). -/
def execMacAddrWrite (rq : Rq) (r : Radio) (hi : Bool) (v : Word) (s : State) : Host.Outcome State Fault Refusal :=
  s.run (fun d => d.write rq (if hi then A.MAC.ADDR_HI r else A.MAC.ADDR_LO r) v)

end Sys2Proof.Machine
end

