-- ==== Sys2Proof/Machine/Dispatch.lean ====
section
/-! DEFINITION. One arm per row of the opcode table: a direct call of its meaning. -/

namespace Sys2Proof.Machine

/-- The effect of a command on everything but the queue. -/
def exec (i : Instr) (s : State) : Host.Outcome State Fault Refusal :=
  match i with
  | .hello src m => Sys2Proof.Machine.execHello src m s
  | .read src m => Sys2Proof.Machine.execRead src m s
  | .write src m => Sys2Proof.Machine.execWrite src m s
  | .modify src m => Sys2Proof.Machine.execModify src m s
  | .watch src m => Sys2Proof.Machine.execWatch src m s
  | .watchTimeout src => Sys2Proof.Machine.execWatchTimeout src s
  | .attnScan src m => Sys2Proof.Machine.execAttnScan src m s
  | .close src m => Sys2Proof.Machine.execClose src m s
  | .nop src m => Sys2Proof.Machine.execNop src m s
  | .requestProducerWrite n v es => Sys2Proof.Machine.execRequestProducerWrite n v es s
  | .replyConsumerWrite n v => Sys2Proof.Machine.execReplyConsumerWrite n v s
  | .ringConfigWrite off v => Sys2Proof.Machine.execRingConfigWrite off v s
  | .pcieLinkDown => Sys2Proof.Machine.execPcieLinkDown s
  | .spiRequest bs => Sys2Proof.Machine.execSpiRequest bs s
  | .spiReply clocks => Sys2Proof.Machine.execSpiReply clocks s
  | .spiStatus => Sys2Proof.Machine.execSpiStatus s
  | .acpDatagram port peer udp bs => Sys2Proof.Machine.execAcpDatagram port peer udp bs s
  | .acpSessionIdle id => Sys2Proof.Machine.execAcpSessionIdle id s
  | .acpKeyWrite rq slot ws => Sys2Proof.Machine.execAcpKeyWrite rq slot ws s
  | .softReset rq page v => Sys2Proof.Machine.execSoftReset rq page v s
  | .softResetDone b => Sys2Proof.Machine.execSoftResetDone b s
  | .pgEnableWrite rq page v => Sys2Proof.Machine.execPgEnableWrite rq page v s
  | .pgIsolateWrite rq page v => Sys2Proof.Machine.execPgIsolateWrite rq page v s
  | .pgLockSet rq page => Sys2Proof.Machine.execPgLockSet rq page s
  | .attnCauseClear rq page v => Sys2Proof.Machine.execAttnCauseClear rq page v s
  | .attnMaskWrite rq page v => Sys2Proof.Machine.execAttnMaskWrite rq page v s
  | .attnClassWrite rq page v => Sys2Proof.Machine.execAttnClassWrite rq page v s
  | .attnForceWrite rq page v => Sys2Proof.Machine.execAttnForceWrite rq page v s
  | .counterWrite rq a v => Sys2Proof.Machine.execCounterWrite rq a v s
  | .registerWrite rq a v => Sys2Proof.Machine.execRegisterWrite rq a v s
  | .stateCmdWrite rq r v => Sys2Proof.Machine.execStateCmdWrite rq r v s
  | .chanWrite rq r v => Sys2Proof.Machine.execChanWrite rq r v s
  | .chainEnWrite rq r v => Sys2Proof.Machine.execChainEnWrite rq r v s
  | .radioTransitionDone r => Sys2Proof.Machine.execRadioTransitionDone r s
  | .synCalPhaseDone r m => Sys2Proof.Machine.execSynCalPhaseDone r m s
  | .tempDriftRecalDue r t => Sys2Proof.Machine.execTempDriftRecalDue r t s
  | .periodicCalDue r t => Sys2Proof.Machine.execPeriodicCalDue r t s
  | .quietWindowStart r durUs => Sys2Proof.Machine.execQuietWindowStart r durUs s
  | .quietWindowEnd r => Sys2Proof.Machine.execQuietWindowEnd r s
  | .calDeferExpiry r => Sys2Proof.Machine.execCalDeferExpiry r s
  | .transmitCommand r x fids ready => Sys2Proof.Machine.execTransmitCommand r x fids ready s
  | .synUnlock r => Sys2Proof.Machine.execSynUnlock r s
  | .synRelockDone r ok => Sys2Proof.Machine.execSynRelockDone r ok s
  | .dutyHoldRelease r => Sys2Proof.Machine.execDutyHoldRelease r s
  | .rglEnableWrite rq v => Sys2Proof.Machine.execRglEnableWrite rq v s
  | .rglFieldWrite rq k v => Sys2Proof.Machine.execRglFieldWrite rq k v s
  | .rglTestWrite rq k v => Sys2Proof.Machine.execRglTestWrite rq k v s
  | .energyRise r power => Sys2Proof.Machine.execEnergyRise r power s
  | .detection r x => Sys2Proof.Machine.execDetection r x s
  | .settleTimeout r => Sys2Proof.Machine.execSettleTimeout r s
  | .falsestartAbort r recs lna vga => Sys2Proof.Machine.execFalsestartAbort r recs lna vga s
  | .afcFreeze r cfo => Sys2Proof.Machine.execAfcFreeze r cfo s
  | .lSigResult r ok sig recs lna vga => Sys2Proof.Machine.execLSigResult r ok sig recs lna vga s
  | .dsssHeaderResult r ok short rate durUs cfo => Sys2Proof.Machine.execDsssHeaderResult r ok short rate durUs cfo s
  | .sigFail r => Sys2Proof.Machine.execSigFail r s
  | .overtake r start power lna vga u us => Sys2Proof.Machine.execOvertake r start power lna vga u us s
  | .obssPd r rssi => Sys2Proof.Machine.execObssPd r rssi s
  | .rxPpduEnd r us => Sys2Proof.Machine.execRxPpduEnd r us s
  | .holdEnd r m => Sys2Proof.Machine.execHoldEnd r m s
  | .radarPulse sub power width => Sys2Proof.Machine.execRadarPulse sub power width s
  | .radarFifo1Read rq => Sys2Proof.Machine.execRadarFifo1Read rq s
  | .precoderReady r => Sys2Proof.Machine.execPrecoderReady r s
  | .txPpduEnd r detect => Sys2Proof.Machine.execTxPpduEnd r detect s
  | .backoffExpiry r acs x => Sys2Proof.Machine.execBackoffExpiry r acs x s
  | .txopNextPpdu r x => Sys2Proof.Machine.execTxopNextPpdu r x s
  | .sifsResponse r durUs => Sys2Proof.Machine.execSifsResponse r durUs s
  | .responseTimeout r => Sys2Proof.Machine.execResponseTimeout r s
  | .tbtt r b => Sys2Proof.Machine.execTbtt r b s
  | .twtSpStart r id => Sys2Proof.Machine.execTwtSpStart r id s
  | .twtSpEnd r id => Sys2Proof.Machine.execTwtSpEnd r id s
  | .keySet rq r ws => Sys2Proof.Machine.execKeySet rq r ws s
  | .keyClear rq r ws => Sys2Proof.Machine.execKeyClear rq r ws s
  | .keyPn rq r ws => Sys2Proof.Machine.execKeyPn rq r ws s
  | .bssSet rq r ws => Sys2Proof.Machine.execBssSet rq r ws s
  | .beaconSet rq r ws => Sys2Proof.Machine.execBeaconSet rq r ws s
  | .twtSet rq r ws => Sys2Proof.Machine.execTwtSet rq r ws s
  | .twtJoin rq r ws => Sys2Proof.Machine.execTwtJoin rq r ws s
  | .txRequest n ws h => Sys2Proof.Machine.execTxRequest n ws h s
  | .rxBufferPost n ws => Sys2Proof.Machine.execRxBufferPost n ws s
  | .macAddrWrite rq r hi v => Sys2Proof.Machine.execMacAddrWrite rq r hi v s
  | .apMldSet rq ws => Sys2Proof.Machine.execApMldSet rq ws s
  | .staSet rq ws => Sys2Proof.Machine.execStaSet rq ws s
  | .staDel rq ws => Sys2Proof.Machine.execStaDel rq ws s
  | .baSet rq ws => Sys2Proof.Machine.execBaSet rq ws s
  | .linkCtrlWrite rq v => Sys2Proof.Machine.execLinkCtrlWrite rq v s
  | .quiesceDone r => Sys2Proof.Machine.execQuiesceDone r s
  | .reorderHoleTimeout sta tid => Sys2Proof.Machine.execReorderHoleTimeout sta tid s
  | .roundStart r => Sys2Proof.Machine.execRoundStart r s
  | .staPolicy rq ws => Sys2Proof.Machine.execStaPolicy rq ws s
  | .heatPlan rq ws => Sys2Proof.Machine.execHeatPlan rq ws s
  | .heatClear rq ws => Sys2Proof.Machine.execHeatClear rq ws s
  | .allocGet rq ws => Sys2Proof.Machine.execAllocGet rq ws s
  | .heatPlanActivate r => Sys2Proof.Machine.execHeatPlanActivate r s
  | .heatRoundSubmit r => Sys2Proof.Machine.execHeatRoundSubmit r s
  | .heatLaunch r x => Sys2Proof.Machine.execHeatLaunch r x s
  | .heatEnd r => Sys2Proof.Machine.execHeatEnd r s
  | .submit rq ws => Sys2Proof.Machine.execSubmit rq ws s
  | .tplLoad rq ws => Sys2Proof.Machine.execTplLoad rq ws s
  | .ductusGet rq ws => Sys2Proof.Machine.execDuctusGet rq ws s
  | .ductusTrigger rq => Sys2Proof.Machine.execDuctusTrigger rq s
  | .ductusResume rq => Sys2Proof.Machine.execDuctusResume rq s
  | .ductusPostDone => Sys2Proof.Machine.execDuctusPostDone s
  | .coreRunWrite rq v => Sys2Proof.Machine.execCoreRunWrite rq v s
  | .tracePut0Write k v => Sys2Proof.Machine.execTracePut0Write k v s
  | .tracePut1Write k v => Sys2Proof.Machine.execTracePut1Write k v s
  | .limitExpiry k => Sys2Proof.Machine.execLimitExpiry k s
  | .instanceDeadline k => Sys2Proof.Machine.execInstanceDeadline k s
  | .takeAssign => Sys2Proof.Machine.execTakeAssign s
  | .fetchStart k v => Sys2Proof.Machine.execFetchStart k v s
  | .fetchComplete k => Sys2Proof.Machine.execFetchComplete k s
  | .alu u f => Sys2Proof.Machine.execAlu u f s
  | .addi u f => Sys2Proof.Machine.execAddi u f s
  | .subi u f => Sys2Proof.Machine.execSubi u f s
  | .andi u f => Sys2Proof.Machine.execAndi u f s
  | .ori u f => Sys2Proof.Machine.execOri u f s
  | .xori u f => Sys2Proof.Machine.execXori u f s
  | .shli u f => Sys2Proof.Machine.execShli u f s
  | .shri u f => Sys2Proof.Machine.execShri u f s
  | .sari u f => Sys2Proof.Machine.execSari u f s
  | .rori u f => Sys2Proof.Machine.execRori u f s
  | .muli u f => Sys2Proof.Machine.execMuli u f s
  | .ldw u f => Sys2Proof.Machine.execLdw u f s
  | .ldh u f => Sys2Proof.Machine.execLdh u f s
  | .ldhu u f => Sys2Proof.Machine.execLdhu u f s
  | .ldb u f => Sys2Proof.Machine.execLdb u f s
  | .ldbu u f => Sys2Proof.Machine.execLdbu u f s
  | .stw u f => Sys2Proof.Machine.execStw u f s
  | .sth u f => Sys2Proof.Machine.execSth u f s
  | .stb u f => Sys2Proof.Machine.execStb u f s
  | .atom u f => Sys2Proof.Machine.execAtom u f s
  | .movl u f => Sys2Proof.Machine.execMovl u f s
  | .movh u f => Sys2Proof.Machine.execMovh u f s
  | .br u f => Sys2Proof.Machine.execBr u f s
  | .call u f => Sys2Proof.Machine.execCall u f s
  | .jmp u f => Sys2Proof.Machine.execJmp u f s
  | .callr u f => Sys2Proof.Machine.execCallr u f s
  | .ret u f => Sys2Proof.Machine.execRet u f s
  | .rete u f => Sys2Proof.Machine.execRete u f s
  | .trap u f => Sys2Proof.Machine.execTrap u f s
  | .wfe u f => Sys2Proof.Machine.execWfe u f s
  | .wfeWake u => Sys2Proof.Machine.execWfeWake u s
  | .sev u f => Sys2Proof.Machine.execSev u f s
  | .waitu u f => Sys2Proof.Machine.execWaitu u f s
  | .waituResume u => Sys2Proof.Machine.execWaituResume u s
  | .take u f => Sys2Proof.Machine.execTake u f s
  | .done u f => Sys2Proof.Machine.execDone u f s
  | .mfs u f => Sys2Proof.Machine.execMfs u f s
  | .mts u f => Sys2Proof.Machine.execMts u f s
  | .fence u f => Sys2Proof.Machine.execFence u f s
  | .queueSet rq ws => Sys2Proof.Machine.execQueueSet rq ws s
  | .profileSet rq ws => Sys2Proof.Machine.execProfileSet rq ws s
  | .pacerSet rq ws => Sys2Proof.Machine.execPacerSet rq ws s
  | .meterSet rq ws => Sys2Proof.Machine.execMeterSet rq ws s
  | .meterStat rq ws => Sys2Proof.Machine.execMeterStat rq ws s
  | .queueStat rq ws => Sys2Proof.Machine.execQueueStat rq ws s
  | .queueFlush rq ws => Sys2Proof.Machine.execQueueFlush rq ws s
  | .pacerRefill k => Sys2Proof.Machine.execPacerRefill k s
  | .ageCheck q => Sys2Proof.Machine.execAgeCheck q s
  | .spillWriteDone q => Sys2Proof.Machine.execSpillWriteDone q s
  | .refillDone q => Sys2Proof.Machine.execRefillDone q s
  | .hostRingAdmitResume n => Sys2Proof.Machine.execHostRingAdmitResume n s
  | .spillCfgWrite rq k v => Sys2Proof.Machine.execSpillCfgWrite rq k v s
  | .ethTxStart n ce ue => Sys2Proof.Machine.execEthTxStart n ce ue s
  | .ethTxFrameEnd n => Sys2Proof.Machine.execEthTxFrameEnd n s
  | .pkeAdmit => Sys2Proof.Machine.execPkeAdmit s
  | .flowBucketReadDone id => Sys2Proof.Machine.execFlowBucketReadDone id s
  | .sequenceRelease id => Sys2Proof.Machine.execSequenceRelease id s
  | .hostFrameSend n ws h => Sys2Proof.Machine.execHostFrameSend n ws h s
  | .holdRelease n ws => Sys2Proof.Machine.execHoldRelease n ws s
  | .holdTimeout token => Sys2Proof.Machine.execHoldTimeout token s
  | .hBufferPost n ws => Sys2Proof.Machine.execHBufferPost n ws s
  | .flowScan k => Sys2Proof.Machine.execFlowScan k s
  | .l2AgeOut vlan mac => Sys2Proof.Machine.execL2AgeOut vlan mac s
  | .l2Set rq ws => Sys2Proof.Machine.execL2Set rq ws s
  | .vlanSet rq ws => Sys2Proof.Machine.execVlanSet rq ws s
  | .portVlan rq ws => Sys2Proof.Machine.execPortVlan rq ws s
  | .bssVlan rq ws => Sys2Proof.Machine.execBssVlan rq ws s
  | .staVlan rq ws => Sys2Proof.Machine.execStaVlan rq ws s
  | .ifSet rq ws => Sys2Proof.Machine.execIfSet rq ws s
  | .nhSet rq ws => Sys2Proof.Machine.execNhSet rq ws s
  | .routeAdd rq ws => Sys2Proof.Machine.execRouteAdd rq ws s
  | .routeDel rq ws => Sys2Proof.Machine.execRouteDel rq ws s
  | .flowAdd rq ws => Sys2Proof.Machine.execFlowAdd rq ws s
  | .flowDel rq ws => Sys2Proof.Machine.execFlowDel rq ws s
  | .flowGet rq ws => Sys2Proof.Machine.execFlowGet rq ws s
  | .aclSet rq ws => Sys2Proof.Machine.execAclSet rq ws s
  | .localSet rq ws => Sys2Proof.Machine.execLocalSet rq ws s
  | .mapSet rq ws => Sys2Proof.Machine.execMapSet rq ws s
  | .l2Flush rq ws => Sys2Proof.Machine.execL2Flush rq ws s
  | .ethModeWrite rq n v => Sys2Proof.Machine.execEthModeWrite rq n v s
  | .linkUp n an => Sys2Proof.Machine.execLinkUp n an s
  | .linkDown n loc rem => Sys2Proof.Machine.execLinkDown n loc rem s
  | .ethRxFrame n x => Sys2Proof.Machine.execEthRxFrame n x s
  | .xoffRefresh n => Sys2Proof.Machine.execXoffRefresh n s
  | .pauseRx n dst quanta => Sys2Proof.Machine.execPauseRx n dst quanta s
  | .pfcRx n dst enables times => Sys2Proof.Machine.execPfcRx n dst enables times s
  | .pauseTimerExpiry n c => Sys2Proof.Machine.execPauseTimerExpiry n c s
  | .verifyTimer n => Sys2Proof.Machine.execVerifyTimer n s
  | .lpiEntry n => Sys2Proof.Machine.execLpiEntry n s
  | .lpiWakeDone n => Sys2Proof.Machine.execLpiWakeDone n s
  | .strideOfferTimer n => Sys2Proof.Machine.execStrideOfferTimer n s
  | .strideOfferRx n mn mx => Sys2Proof.Machine.execStrideOfferRx n mn mx s
  | .strideRequestRx n ver target fec xid sender => Sys2Proof.Machine.execStrideRequestRx n ver target fec xid sender s
  | .strideAckRx n xid lead => Sys2Proof.Machine.execStrideAckRx n xid lead s
  | .strideNakRx n xid => Sys2Proof.Machine.execStrideNakRx n xid s
  | .strideStart rq n ws => Sys2Proof.Machine.execStrideStart rq n ws s
  | .strideAnswerTimeout n => Sys2Proof.Machine.execStrideAnswerTimeout n s
  | .strideQuietStart n => Sys2Proof.Machine.execStrideQuietStart n s
  | .strideSwitch n => Sys2Proof.Machine.execStrideSwitch n s
  | .strideBlockLock n => Sys2Proof.Machine.execStrideBlockLock n s
  | .strideRelockTimeout n => Sys2Proof.Machine.execStrideRelockTimeout n s
  | .ethMacWrite rq n hi v => Sys2Proof.Machine.execEthMacWrite rq n hi v s
  | .ptpFrameRx n h fcs x => Sys2Proof.Machine.execPtpFrameRx n h fcs x s
  | .inkPartWrite rq k v => Sys2Proof.Machine.execInkPartWrite rq k v s
  | .inkCommit rq => Sys2Proof.Machine.execInkCommit rq s
  | .inkPeakClear rq k => Sys2Proof.Machine.execInkPeakClear rq k s
  | .ddrCfgWrite rq v => Sys2Proof.Machine.execDdrCfgWrite rq v s
  | .ddrEnable rq v => Sys2Proof.Machine.execDdrEnable rq v s
  | .ddrDisable rq v => Sys2Proof.Machine.execDdrDisable rq v s
  | .ddrStopDone => Sys2Proof.Machine.execDdrStopDone s
  | .ddrTrainingDone ok => Sys2Proof.Machine.execDdrTrainingDone ok s
  | .ddrInitEarlyDone => Sys2Proof.Machine.execDdrInitEarlyDone s
  | .ddrInitDone => Sys2Proof.Machine.execDdrInitDone s
  | .ddrRefresh rank urgent => Sys2Proof.Machine.execDdrRefresh rank urgent s
  | .mr4Poll hot0 hot1 => Sys2Proof.Machine.execMr4Poll hot0 hot1 s
  | .dqsOscRead drift => Sys2Proof.Machine.execDqsOscRead drift s
  | .zqCal => Sys2Proof.Machine.execZqCal s
  | .ddrReadReturn port addr errs synd ns => Sys2Proof.Machine.execDdrReadReturn port addr errs synd ns s
  | .writeCrcAlert port part addr retries => Sys2Proof.Machine.execWriteCrcAlert port part addr retries s
  | .patrolScrub errs synd => Sys2Proof.Machine.execPatrolScrub errs synd s
  | .thaw rq ws => Sys2Proof.Machine.execThaw rq ws s
  | .thawDone => Sys2Proof.Machine.execThawDone s
  | .dpReset rq ws => Sys2Proof.Machine.execDpReset rq ws s
  | .dataPlaneResetDone => Sys2Proof.Machine.execDataPlaneResetDone s
  | .freezeWatchdog => Sys2Proof.Machine.execFreezeWatchdog s
  | .timeGet rq ws => Sys2Proof.Machine.execTimeGet rq ws s
  | .timeSet rq ws => Sys2Proof.Machine.execTimeSet rq ws s
  | .tsfSet rq ws => Sys2Proof.Machine.execTsfSet rq ws s
  | .tsSend rq ws => Sys2Proof.Machine.execTsSend rq ws s
  | .tsSendLaunch n => Sys2Proof.Machine.execTsSendLaunch n s
  | .ofsPut rq ws => Sys2Proof.Machine.execOfsPut rq ws s
  | .tb2ptp rq ws => Sys2Proof.Machine.execTb2ptp rq ws s
  | .sourceTimeout c => Sys2Proof.Machine.execSourceTimeout c s
  | .holdoverExpiry => Sys2Proof.Machine.execHoldoverExpiry s
  | .ptpSyncTimer => Sys2Proof.Machine.execPtpSyncTimer s
  | .ftmBurstStart => Sys2Proof.Machine.execFtmBurstStart s
  | .ftmBurstEnd b hops => Sys2Proof.Machine.execFtmBurstEnd b hops s
  | .ppsInEdge sub => Sys2Proof.Machine.execPpsInEdge sub s
  | .ppsOutEdge => Sys2Proof.Machine.execPpsOutEdge s
  | .timedLaunch r q v x => Sys2Proof.Machine.execTimedLaunch r q v x s
  | .f0Window f0 te => Sys2Proof.Machine.execF0Window f0 te s
  | .meshEnableWrite rq v => Sys2Proof.Machine.execMeshEnableWrite rq v s
  | .candidateListenEnd => Sys2Proof.Machine.execCandidateListenEnd s
  | .uplinkHoldExpiry => Sys2Proof.Machine.execUplinkHoldExpiry s
  | .meshBeaconRx b => Sys2Proof.Machine.execMeshBeaconRx b s
  | .scanDwellExpiry => Sys2Proof.Machine.execScanDwellExpiry s
  | .parentListenEnd => Sys2Proof.Machine.execParentListenEnd s
  | .joinReqRx ver q => Sys2Proof.Machine.execJoinReqRx ver q s
  | .joinAcceptRx ver mac addr nonce => Sys2Proof.Machine.execJoinAcceptRx ver mac addr nonce s
  | .joinWaitRx ver mac => Sys2Proof.Machine.execJoinWaitRx ver mac s
  | .joinTimeout => Sys2Proof.Machine.execJoinTimeout s
  | .addrReqRx m => Sys2Proof.Machine.execAddrReqRx m s
  | .grantSend => Sys2Proof.Machine.execGrantSend s
  | .leaseRenewTimer => Sys2Proof.Machine.execLeaseRenewTimer s
  | .leaseRenewRx m => Sys2Proof.Machine.execLeaseRenewRx m s
  | .leaseExpiry addr => Sys2Proof.Machine.execLeaseExpiry addr s
  | .floodRx m => Sys2Proof.Machine.execFloodRx m s
  | .relayForward => Sys2Proof.Machine.execRelayForward s
  | .seenExpiry => Sys2Proof.Machine.execSeenExpiry s
  | .upMessageRx m => Sys2Proof.Machine.execUpMessageRx m s
  | .parentBeaconLoss => Sys2Proof.Machine.execParentBeaconLoss s
  | .sleepSet rq ws => Sys2Proof.Machine.execSleepSet rq ws s
  | .sleepSchedRx ver mac l => Sys2Proof.Machine.execSleepSchedRx ver mac l s
  | .wakeWindowOpen => Sys2Proof.Machine.execWakeWindowOpen s
  | .wakeWindowClose => Sys2Proof.Machine.execWakeWindowClose s
  | .searchTimeout => Sys2Proof.Machine.execSearchTimeout s
  | .childTimeout mac => Sys2Proof.Machine.execChildTimeout mac s
  | .darkStart => Sys2Proof.Machine.execDarkStart s
  | .darkEnd => Sys2Proof.Machine.execDarkEnd s
  | .darkRetry => Sys2Proof.Machine.execDarkRetry s
  | .groupReportTimer => Sys2Proof.Machine.execGroupReportTimer s
  | .floodSend rq ws => Sys2Proof.Machine.execFloodSend rq ws s
  | .leaseGet rq ws => Sys2Proof.Machine.execLeaseGet rq ws s
  | .meshKeySet rq ws => Sys2Proof.Machine.execMeshKeySet rq ws s
  | .msgGet rq ws => Sys2Proof.Machine.execMsgGet rq ws s
  | .mpWdogExpiry => Sys2Proof.Machine.execMpWdogExpiry s
  | .wdogWrite rq v => Sys2Proof.Machine.execWdogWrite rq v s
  | .mpRestartDone => Sys2Proof.Machine.execMpRestartDone s
  | .dramWinWrite rq v => Sys2Proof.Machine.execDramWinWrite rq v s
  | .tempWarn k t => Sys2Proof.Machine.execTempWarn k t s
  | .thermalTrip k t => Sys2Proof.Machine.execThermalTrip k t s
  | .bltCommitTimer => Sys2Proof.Machine.execBltCommitTimer s
  | .bltCommit rq ws => Sys2Proof.Machine.execBltCommit rq ws s
  | .bltRead rq ws => Sys2Proof.Machine.execBltRead rq ws s
  | .flashOpDone ok => Sys2Proof.Machine.execFlashOpDone ok s
  | .coldBoot x => Sys2Proof.Machine.execColdBoot x s
  | .updBegin rq ws => Sys2Proof.Machine.execUpdBegin rq ws s
  | .updEraseDone => Sys2Proof.Machine.execUpdEraseDone s
  | .updWrite rq ws => Sys2Proof.Machine.execUpdWrite rq ws s
  | .updFinish rq ws => Sys2Proof.Machine.execUpdFinish rq ws s
  | .updActivate rq ws => Sys2Proof.Machine.execUpdActivate rq ws s
  | .updConfirm rq ws => Sys2Proof.Machine.execUpdConfirm rq ws s
  | .updAbort rq ws => Sys2Proof.Machine.execUpdAbort rq ws s
  | .updTrialTimeout => Sys2Proof.Machine.execUpdTrialTimeout s
  | .cfgStage rq ws => Sys2Proof.Machine.execCfgStage rq ws s
  | .cfgCommit rq ws => Sys2Proof.Machine.execCfgCommit rq ws s
  | .cfgDiscard rq ws => Sys2Proof.Machine.execCfgDiscard rq ws s
  | .otpKey rq ws => Sys2Proof.Machine.execOtpKey rq ws s
  | .keyRevoke rq ws => Sys2Proof.Machine.execKeyRevoke rq ws s
  | .otpReg rq ws => Sys2Proof.Machine.execOtpReg rq ws s
  | .lcAdvance rq ws => Sys2Proof.Machine.execLcAdvance rq ws s
  | .lcNonce rq ws => Sys2Proof.Machine.execLcNonce rq ws s
  | .vinWarn mv => Sys2Proof.Machine.execVinWarn mv s
  | .vinWarnClear mv => Sys2Proof.Machine.execVinWarnClear mv s
  | .powerOn => Sys2Proof.Machine.execPowerOn s
  | .brownOut rail lost => Sys2Proof.Machine.execBrownOut rail lost s
  | .aonOvercurrent ua => Sys2Proof.Machine.execAonOvercurrent ua s
  | .stateEntryDone => Sys2Proof.Machine.execStateEntryDone s
  | .wakeNLow => Sys2Proof.Machine.execWakeNLow s
  | .wakeTimer => Sys2Proof.Machine.execWakeTimer s
  | .spiCsWake => Sys2Proof.Machine.execSpiCsWake s
  | .stateExitDone ok => Sys2Proof.Machine.execStateExitDone ok s
  | .blockIdleGate b => Sys2Proof.Machine.execBlockIdleGate b s
  | .blockWakeDone b => Sys2Proof.Machine.execBlockWakeDone b s
  | .testStart rq ws => Sys2Proof.Machine.execTestStart rq ws s
  | .testAbort rq ws => Sys2Proof.Machine.execTestAbort rq ws s
  | .testResult rq ws => Sys2Proof.Machine.execTestResult rq ws s
  | .testPatternsDone sig mism first => Sys2Proof.Machine.execTestPatternsDone sig mism first s
  | .testOverrun executed => Sys2Proof.Machine.execTestOverrun executed s
  | .testReinitDone => Sys2Proof.Machine.execTestReinitDone s
  | .commandPathParityError c port addr => Sys2Proof.Machine.execCommandPathParityError c port addr s
  | .brownOutRelease => Sys2Proof.Machine.execBrownOutRelease s
  | .pcieLinkUp => Sys2Proof.Machine.execPcieLinkUp s
  | .tmuMsTick temps volts iin => Sys2Proof.Machine.execTmuMsTick temps volts iin s
  | .aonTempSample temp => Sys2Proof.Machine.execAonTempSample temp s
  | .edBusyChange r sub power => Sys2Proof.Machine.execEdBusyChange r sub power s
  | .secondaryPdDetect r sub power durUs => Sys2Proof.Machine.execSecondaryPdDetect r sub power durUs s
  | .navExpiry r => Sys2Proof.Machine.execNavExpiry r s
  | .testPortInstruction inst => Sys2Proof.Machine.execTestPortInstruction inst s

end Sys2Proof.Machine
end

