-- ==== Sys2Proof/WellFormed.lean ====
section
/-! DEFINITION. Which commands and events can occur: every number an operand holds lies in the range the spec gives it. -/

namespace Sys2Proof

open Sys2Proof.Machine

/-- Ethernet ports 0 to 9 (spec/13 R317). -/
def portOk (n : Nat) : Bool := decide (n < 10)
/-- Ring pairs 0 to 31 (spec/02 R43). -/
def ringOk (n : Nat) : Bool := decide (n < 32)
/-- Pages 0x000 to 0xFFF (spec/02 R62). -/
def pageOk (n : Nat) : Bool := decide (n < 4096)
/-- 24-bit register addresses on a word boundary (spec/02 R26). -/
def addrOk (n : Nat) : Bool := decide (n < 2 ^ 24 ∧ n % 4 = 0)
/-- ACP key slots 0 to 3 (spec/02 R57). -/
def slotOk (n : Nat) : Bool := decide (n < 4)
/-- Stations 0 to 1,023 (spec/07 R170). -/
def staOk (n : Nat) : Bool := decide (n < 1024)
/-- TIDs 0 to 7. -/
def tidOk (n : Nat) : Bool := decide (n < 8)
/-- Numbers of queues (spec/11 R274). -/
def queueOk (n : Nat) : Bool := (qKind n).isSome
/-- Pacers 0 to 4,095 (spec/11 R284). -/
def pacerOk (n : Nat) : Bool := decide (n < 4096)
/-- Temperature sensors TS0 to TS11 (spec/17 R410). -/
def sensorOk (n : Nat) : Bool := decide (n < 12)
/-- VIN, and the five rails with a monitor (spec/17 R415). -/
def railOk (n : Nat) : Bool := decide (n < 6)
/-- Ranks 0 and 1 (spec/14 R341). -/
def rankOk (n : Nat) : Bool := decide (n < 2)
/-- Client ports 0 to 11 of the DDR5 controller (spec/14 R346). -/
def clientOk (n : Nat) : Bool := decide (n < 12)
/-- 20 MHz subchannels 0 to 15. -/
def subOk (n : Nat) : Bool := decide (n < 16)
/-- MAC addresses of 48 bits. -/
def macOk (n : Nat) : Bool := decide (n < 2 ^ 48)
/-- VLAN IDs of 12 bits. -/
def vlanOk (n : Nat) : Bool := decide (n < 4096)
/-- BSS indexes 0 to 15 (spec/06 R154). -/
def bssOk (n : Nat) : Bool := decide (n < 16)
/-- Instances 0 to 15 (spec/09 R222). -/
def instOk (n : Nat) : Bool := decide (n < 16)
/-- Traffic classes 0 to 7. -/
def classOk (n : Nat) : Bool := decide (n < 8)

/-- A command or event is well formed. -/
def Instr.wf (i : Instr) : Bool :=
  match i with
  | .hello _ _ => true
  | .read _ _ => true
  | .write _ _ => true
  | .modify _ _ => true
  | .watch _ _ => true
  | .watchTimeout _ => true
  | .attnScan _ _ => true
  | .close _ _ => true
  | .nop _ _ => true
  | .requestProducerWrite n _ _ => ringOk n
  | .replyConsumerWrite n _ => ringOk n
  | .ringConfigWrite _ _ => true
  | .pcieLinkDown => true
  | .spiRequest _ => true
  | .spiReply _ => true
  | .spiStatus => true
  | .acpDatagram port _ _ _ => portOk port
  | .acpSessionIdle _ => true
  | .acpKeyWrite _ slot _ => slotOk slot
  | .softReset _ page _ => pageOk page
  | .softResetDone _ => true
  | .pgEnableWrite _ page _ => pageOk page
  | .pgIsolateWrite _ page _ => pageOk page
  | .pgLockSet _ page => pageOk page
  | .attnCauseClear _ page _ => pageOk page
  | .attnMaskWrite _ page _ => pageOk page
  | .attnClassWrite _ page _ => pageOk page
  | .attnForceWrite _ page _ => pageOk page
  | .counterWrite _ a _ => addrOk a
  | .registerWrite _ a _ => addrOk a
  | .stateCmdWrite _ _ _ => true
  | .chanWrite _ _ _ => true
  | .chainEnWrite _ _ _ => true
  | .radioTransitionDone _ => true
  | .synCalPhaseDone _ _ => true
  | .tempDriftRecalDue _ _ => true
  | .periodicCalDue _ _ => true
  | .quietWindowStart _ _ => true
  | .quietWindowEnd _ => true
  | .calDeferExpiry _ => true
  | .transmitCommand _ _ _ _ => true
  | .synUnlock _ => true
  | .synRelockDone _ _ => true
  | .dutyHoldRelease _ => true
  | .rglEnableWrite _ _ => true
  | .rglFieldWrite _ _ _ => true
  | .rglTestWrite _ _ _ => true
  | .energyRise _ _ => true
  | .detection _ _ => true
  | .settleTimeout _ => true
  | .falsestartAbort _ _ _ _ => true
  | .afcFreeze _ _ => true
  | .lSigResult _ _ _ _ _ _ => true
  | .dsssHeaderResult _ _ _ _ _ _ => true
  | .sigFail _ => true
  | .overtake _ _ _ _ _ _ _ => true
  | .obssPd _ _ => true
  | .rxPpduEnd _ _ => true
  | .holdEnd _ _ => true
  | .radarPulse sub _ _ => subOk sub
  | .radarFifo1Read _ => true
  | .precoderReady _ => true
  | .txPpduEnd _ _ => true
  | .backoffExpiry _ _ _ => true
  | .txopNextPpdu _ _ => true
  | .sifsResponse _ _ => true
  | .responseTimeout _ => true
  | .tbtt _ b => bssOk b
  | .twtSpStart _ _ => true
  | .twtSpEnd _ _ => true
  | .keySet _ _ _ => true
  | .keyClear _ _ _ => true
  | .keyPn _ _ _ => true
  | .bssSet _ _ _ => true
  | .beaconSet _ _ _ => true
  | .twtSet _ _ _ => true
  | .twtJoin _ _ _ => true
  | .txRequest n _ _ => ringOk n
  | .rxBufferPost n _ => ringOk n
  | .macAddrWrite _ _ _ _ => true
  | .apMldSet _ _ => true
  | .staSet _ _ => true
  | .staDel _ _ => true
  | .baSet _ _ => true
  | .linkCtrlWrite _ _ => true
  | .quiesceDone _ => true
  | .reorderHoleTimeout sta tid => staOk sta && tidOk tid
  | .roundStart _ => true
  | .staPolicy _ _ => true
  | .heatPlan _ _ => true
  | .heatClear _ _ => true
  | .allocGet _ _ => true
  | .heatPlanActivate _ => true
  | .heatRoundSubmit _ => true
  | .heatLaunch _ _ => true
  | .heatEnd _ => true
  | .submit _ _ => true
  | .tplLoad _ _ => true
  | .ductusGet _ _ => true
  | .ductusTrigger _ => true
  | .ductusResume _ => true
  | .ductusPostDone => true
  | .coreRunWrite _ _ => true
  | .tracePut0Write _ _ => true
  | .tracePut1Write _ _ => true
  | .limitExpiry _ => true
  | .instanceDeadline k => instOk k
  | .takeAssign => true
  | .fetchStart _ _ => true
  | .fetchComplete _ => true
  | .alu _ _ => true
  | .addi _ _ => true
  | .subi _ _ => true
  | .andi _ _ => true
  | .ori _ _ => true
  | .xori _ _ => true
  | .shli _ _ => true
  | .shri _ _ => true
  | .sari _ _ => true
  | .rori _ _ => true
  | .muli _ _ => true
  | .ldw _ _ => true
  | .ldh _ _ => true
  | .ldhu _ _ => true
  | .ldb _ _ => true
  | .ldbu _ _ => true
  | .stw _ _ => true
  | .sth _ _ => true
  | .stb _ _ => true
  | .atom _ _ => true
  | .movl _ _ => true
  | .movh _ _ => true
  | .br _ _ => true
  | .call _ _ => true
  | .jmp _ _ => true
  | .callr _ _ => true
  | .ret _ _ => true
  | .rete _ _ => true
  | .trap _ _ => true
  | .wfe _ _ => true
  | .wfeWake _ => true
  | .sev _ _ => true
  | .waitu _ _ => true
  | .waituResume _ => true
  | .take _ _ => true
  | .done _ _ => true
  | .mfs _ _ => true
  | .mts _ _ => true
  | .fence _ _ => true
  | .queueSet _ _ => true
  | .profileSet _ _ => true
  | .pacerSet _ _ => true
  | .meterSet _ _ => true
  | .meterStat _ _ => true
  | .queueStat _ _ => true
  | .queueFlush _ _ => true
  | .pacerRefill k => pacerOk k
  | .ageCheck q => queueOk q
  | .spillWriteDone q => queueOk q
  | .refillDone q => queueOk q
  | .hostRingAdmitResume n => ringOk n
  | .spillCfgWrite _ _ _ => true
  | .ethTxStart n _ _ => portOk n
  | .ethTxFrameEnd n => portOk n
  | .pkeAdmit => true
  | .flowBucketReadDone _ => true
  | .sequenceRelease _ => true
  | .hostFrameSend n _ _ => ringOk n
  | .holdRelease n _ => ringOk n
  | .holdTimeout _ => true
  | .hBufferPost n _ => ringOk n
  | .flowScan _ => true
  | .l2AgeOut vlan mac => vlanOk vlan && macOk mac
  | .l2Set _ _ => true
  | .vlanSet _ _ => true
  | .portVlan _ _ => true
  | .bssVlan _ _ => true
  | .staVlan _ _ => true
  | .ifSet _ _ => true
  | .nhSet _ _ => true
  | .routeAdd _ _ => true
  | .routeDel _ _ => true
  | .flowAdd _ _ => true
  | .flowDel _ _ => true
  | .flowGet _ _ => true
  | .aclSet _ _ => true
  | .localSet _ _ => true
  | .mapSet _ _ => true
  | .l2Flush _ _ => true
  | .ethModeWrite _ n _ => portOk n
  | .linkUp n _ => portOk n
  | .linkDown n _ _ => portOk n
  | .ethRxFrame n _ => portOk n
  | .xoffRefresh n => portOk n
  | .pauseRx n _ _ => portOk n
  | .pfcRx n _ _ _ => portOk n
  | .pauseTimerExpiry n c => portOk n && classOk c
  | .verifyTimer n => portOk n
  | .lpiEntry n => portOk n
  | .lpiWakeDone n => portOk n
  | .strideOfferTimer n => portOk n
  | .strideOfferRx n _ _ => portOk n
  | .strideRequestRx n _ _ _ _ _ => portOk n
  | .strideAckRx n _ _ => portOk n
  | .strideNakRx n _ => portOk n
  | .strideStart _ n _ => portOk n
  | .strideAnswerTimeout n => portOk n
  | .strideQuietStart n => portOk n
  | .strideSwitch n => portOk n
  | .strideBlockLock n => portOk n
  | .strideRelockTimeout n => portOk n
  | .ethMacWrite _ n _ _ => portOk n
  | .ptpFrameRx n _ _ _ => portOk n
  | .inkPartWrite _ _ _ => true
  | .inkCommit _ => true
  | .inkPeakClear _ _ => true
  | .ddrCfgWrite _ _ => true
  | .ddrEnable _ _ => true
  | .ddrDisable _ _ => true
  | .ddrStopDone => true
  | .ddrTrainingDone _ => true
  | .ddrInitEarlyDone => true
  | .ddrInitDone => true
  | .ddrRefresh rank _ => rankOk rank
  | .mr4Poll _ _ => true
  | .dqsOscRead _ => true
  | .zqCal => true
  | .ddrReadReturn port _ _ _ _ => clientOk port
  | .writeCrcAlert port _ _ _ => clientOk port
  | .patrolScrub _ _ => true
  | .thaw _ _ => true
  | .thawDone => true
  | .dpReset _ _ => true
  | .dataPlaneResetDone => true
  | .freezeWatchdog => true
  | .timeGet _ _ => true
  | .timeSet _ _ => true
  | .tsfSet _ _ => true
  | .tsSend _ _ => true
  | .tsSendLaunch n => portOk n
  | .ofsPut _ _ => true
  | .tb2ptp _ _ => true
  | .sourceTimeout _ => true
  | .holdoverExpiry => true
  | .ptpSyncTimer => true
  | .ftmBurstStart => true
  | .ftmBurstEnd _ _ => true
  | .ppsInEdge _ => true
  | .ppsOutEdge => true
  | .timedLaunch _ q _ _ => queueOk q
  | .f0Window _ _ => true
  | .meshEnableWrite _ _ => true
  | .candidateListenEnd => true
  | .uplinkHoldExpiry => true
  | .meshBeaconRx _ => true
  | .scanDwellExpiry => true
  | .parentListenEnd => true
  | .joinReqRx _ _ => true
  | .joinAcceptRx _ mac _ _ => macOk mac
  | .joinWaitRx _ mac => macOk mac
  | .joinTimeout => true
  | .addrReqRx _ => true
  | .grantSend => true
  | .leaseRenewTimer => true
  | .leaseRenewRx _ => true
  | .leaseExpiry _ => true
  | .floodRx _ => true
  | .relayForward => true
  | .seenExpiry => true
  | .upMessageRx _ => true
  | .parentBeaconLoss => true
  | .sleepSet _ _ => true
  | .sleepSchedRx _ mac _ => macOk mac
  | .wakeWindowOpen => true
  | .wakeWindowClose => true
  | .searchTimeout => true
  | .childTimeout mac => macOk mac
  | .darkStart => true
  | .darkEnd => true
  | .darkRetry => true
  | .groupReportTimer => true
  | .floodSend _ _ => true
  | .leaseGet _ _ => true
  | .meshKeySet _ _ => true
  | .msgGet _ _ => true
  | .mpWdogExpiry => true
  | .wdogWrite _ _ => true
  | .mpRestartDone => true
  | .dramWinWrite _ _ => true
  | .tempWarn k _ => sensorOk k
  | .thermalTrip k _ => sensorOk k
  | .bltCommitTimer => true
  | .bltCommit _ _ => true
  | .bltRead _ _ => true
  | .flashOpDone _ => true
  | .coldBoot x => decide (x.sfdp < 4)
  | .updBegin _ _ => true
  | .updEraseDone => true
  | .updWrite _ _ => true
  | .updFinish _ _ => true
  | .updActivate _ _ => true
  | .updConfirm _ _ => true
  | .updAbort _ _ => true
  | .updTrialTimeout => true
  | .cfgStage _ _ => true
  | .cfgCommit _ _ => true
  | .cfgDiscard _ _ => true
  | .otpKey _ _ => true
  | .keyRevoke _ _ => true
  | .otpReg _ _ => true
  | .lcAdvance _ _ => true
  | .lcNonce _ _ => true
  | .vinWarn _ => true
  | .vinWarnClear _ => true
  | .powerOn => true
  | .brownOut rail _ => railOk rail
  | .aonOvercurrent _ => true
  | .stateEntryDone => true
  | .wakeNLow => true
  | .wakeTimer => true
  | .spiCsWake => true
  | .stateExitDone _ => true
  | .blockIdleGate _ => true
  | .blockWakeDone _ => true
  | .testStart _ _ => true
  | .testAbort _ _ => true
  | .testResult _ _ => true
  | .testPatternsDone _ _ _ => true
  | .testOverrun _ => true
  | .testReinitDone => true
  | .commandPathParityError _ port _ => clientOk port
  | .brownOutRelease => true
  | .pcieLinkUp => true
  | .tmuMsTick _ _ _ => true
  | .aonTempSample _ => true
  | .edBusyChange _ sub _ => subOk sub
  | .secondaryPdDetect _ sub _ _ => subOk sub
  | .navExpiry _ => true
  | .testPortInstruction _ => true

end Sys2Proof
end

