-- ==== Sys2Proof/Safety.lean ====
section
/-! DEFINITION. What statements about the machine are made of: when the device takes a request, what an answered request leads to, the
invariant that every step keeps, and the canonical form of the memories. -/

namespace Sys2Proof.Machine

/-! What a command leads to -/

/-- Executing `c` answers a next state, with the same commands waiting, whose device has the property. -/
def Leads (c : Instr) (s : State) (P : Dev → Prop) : Prop := ∃ t, exec c s = .next t ∧ t.pending = s.pending ∧ P t.dev

/-- A session of a version may use an operation (spec/02 R25, R42). -/
def speaks (v op : Nat) : Bool := decide (v ≠ 1) || [OP.HELLO, OP.READ, OP.WRITE, OP.CLOSE, OP.NOP].contains op

/-- A session carries a request at once: nothing of the session stands before it, and payloads of `nIn` words in and `nOut` words out fit
(spec/02 R44, R46, R49). -/
def Dev.carries (d : Dev) (rq : Rq) (nIn nOut : Nat) : Bool :=
  match rq.src with
  | .pcie n =>
    let r := d.ring n
    d.hci.linkUp && decide (d.pcieWake = d) && r.enable && decide (r.typ = 1) && r.held.isEmpty && r.waiting.isEmpty && !r.full
      && decide (rq.flags < 2) && (decide (rq.flags = 1) || decide (nIn ≤ 12 ∧ nOut ≤ 12))
  | .spi => d.spiAccepting && decide (rq.flags = 0)
  | .acp id => (tabFind d.hci.acp id).isSome && decide (rq.flags = 0)
  | .mp => decide (rq.flags = 0)

/-- A request reaches the device at once: its control interface runs, the ROM does not serve it, no request holds the executor or waits
for it, and its session carries it (spec/02 R24, R28; spec/17 R423). -/
def Dev.hears (d : Dev) (rq : Rq) (nIn nOut : Nat) : Bool :=
  d.hciUp && !d.romServes && d.hci.inExec.isNone && d.asking.isEmpty && decide (nIn ≤ 256 ∧ nOut ≤ 256) && d.carries rq nIn nOut

/-- The device with a request of a session taken, as its execution finds it: the ring's positions have moved on by one, the SPI target
has accepted, the ACP session has the datagram's COUNTER and one reply to compose; the executor's turn passes on (spec/02 R28, R46,
R49, R54). -/
def Dev.reached (d : Dev) (src : Src) : Dev :=
  let d := d.onHci (fun h => { h with turn := src.place + 1 })
  match src with
  | .pcie n =>
    let r := d.ring n
    d.setRing n { r with prod := (r.prod + 1) % r.size, held := [], reqPos := (r.reqPos + 1) % r.size }
  | .spi => d.onSpi (fun s => { s with lastRejected := false, todo := none })
  | .acp id => match tabFind d.hci.acp id with
    | some a => d.onHci (fun h => { h with acp := tabPut h.acp id { a with
        topCtr := max a.topCtr a.helloCtr + 1, active := d.tb, todo := [[]] } })
    | none => d
  | .mp => d.onHci (fun h => { h with mpTodo := [] })

/-- The device takes a request of a session: it reaches the device, and the session is open under a version that knows the operation. -/
def Dev.takes (d : Dev) (rq : Rq) (op nIn nOut : Nat) : Bool :=
  d.hears rq nIn nOut &&
  (match d.version rq.src with
    | some v => speaks v op
    | none => false)

/-- A request is formed as R24 says: its sender's part that of `rq`, LEN that of its payload, the upper 8 bits of ADDR 0. -/
def Msg.formed (m : Msg) (rq : Rq) : Bool :=
  decide (m.rq rq.src = rq ∧ m.len = 4 * m.payload.length ∧ bitsOf m.addr 31 24 = 0)

/-- The device accepts a WRITE of `v` at register address `a`, a register of block `b`: it takes the request, and nothing refuses the
word (spec/02 R26, R30, R31). -/
def Dev.accepts (d : Dev) (rq : Rq) (a : Nat) (v : Word) (b : Blk) : Bool :=
  d.takes rq OP.WRITE 1 0 && decide (a < 2 ^ 24 ∧ a % 4 = 0 ∧ blkOfPage (a / 4096) = some b)
    && decide (refuse ((d.event 0).writeCodes rq.src (a / 4096) (a % 4096) v) = RC.OK)

/-- Registers that a write only stores: nothing follows from it at once. -/
def plainReg (b : Blk) (o : Nat) : Bool :=
  match b with
  | .glb | .pmu | .pci | .bst | .phy _ | .mac _ | .mld | .pke => true
  | .asc => decide (o ≠ 0x040)
  | .tmg => decide (o ≠ 0x048)
  | _ => false

/-- Registers that a link's availability depends on: LINK_CTRL, and MESH_CFG of a node that scans (spec/07 R180; spec/16 R377). -/
def linkReg (a : Nat) : Bool := decide (a = A.MLD.LINK_CTRL ∨ a = A.MSH.MESH_CFG)

/-- A data ring takes an entry at once: its control interface and its link are up, the pair is on, nothing stands before the entry, its
reply ring has room, and no frame of the ring waits in the sequencer (spec/02 R46; spec/06 R162; spec/11 R280). -/
def Dev.takesData (d : Dev) (n : Nat) : Bool :=
  let r := d.ring n
  d.hciUp && d.hci.linkUp && decide (d.pcieWake = d) && r.enable && decide (r.typ = 2) && r.held.isEmpty && r.waiting.isEmpty && !r.full
    && !d.ringStuck n

/-- The device with an entry of a data ring taken: the ring's producer and request positions have moved on by one. -/
def Dev.tookData (d : Dev) (n : Nat) : Dev :=
  let r := d.ring n
  d.setRing n { r with prod := (r.prod + 1) % r.size, held := [], reqPos := (r.reqPos + 1) % r.size }

/-- A core executes an instruction of a condition that holds: it runs, and its pc can be fetched (spec/10 R249, R258, R266, R268). -/
def Dev.executes (d : Dev) (u : Cpu) (cond : BitVec 4) : Bool := d.coreRuns u && executable u (d.core u).pc && (d.core u).holds cond

/-- A block serves requests: present, not under self-test, not asleep unless its clock is forced, not being reset, and the management
processor not being restarted (spec/02 R58; spec/17 R409; spec/18 R442). -/
def Dev.serves (d : Dev) (b : Blk) : Bool :=
  d.present b && !(d.blk b).selftest && ((d.blk b).clkForce || decide ((d.blk b).power ≠ 1 ∧ (d.blk b).power ≠ 4)) && !(d.blk b).resetting
    && (!d.mgt.restarting || decide (b = .mgt))

/-- The device as a request finds it that reaches the registers or the commands of a block: the MP has its event, and the block's clock
runs (spec/17 R407; spec/18 R442). -/
def Dev.asked (d : Dev) (b : Blk) : Dev := (d.event 0).wakeBlk b

/-- The request is answered with OK and a payload: the next state is that of a device with the property, once the reply is on its way
to the sender. -/
def Replies (c : Instr) (s : State) (rq : Rq) (op : Nat) (words : List Word) (Q : Dev → Prop) : Prop :=
  ∃ e, Q e ∧ exec c s = .next { s with dev := (e.respond rq (e.reply op rq.tag RC.OK 0 words)).answerWatches }

/-- The request is answered with OK and a payload, and the device is `D`, but for the transport's part of the host control interface
and the output; `Q` says what else holds. -/
def Answers (c : Instr) (s : State) (rq : Rq) (op : Nat) (words : List Word) (D : Dev) (Q : Dev → Prop := fun _ => True) : Prop :=
  Replies c s rq op words (fun e => D.hciOnly e ∧ e.hci.attnSeq = D.hci.attnSeq ∧ Q e)

/-- The device as a request of a session finds it that reaches the registers or the commands of a block. -/
def Dev.finds (d : Dev) (rq : Rq) (b : Blk) : Dev := (d.reached rq.src).asked b

/-- The request is answered with OK and a payload, and what it changes is `f` of the device as the request finds it, once the reply is
on its way to the sender. -/
def Performs (c : Instr) (s : State) (rq : Rq) (op : Nat) (words : List Word) (b : Blk) (f : Dev → Dev) : Prop :=
  let e := f (s.dev.finds rq b)
  exec c s = .next { s with dev := (e.respond rq (e.reply op rq.tag RC.OK 0 words)).answerWatches }

/-- The COMMAND of a page is taken and its reply comes later (a Blotter commit, a timed send): what it changes is `f` of the device as
the request finds it, and it holds the executor (spec/02 R28). -/
def Defers (c : Instr) (s : State) (rq : Rq) (p : Nat) (b : Blk) (f : Dev → Dev) : Prop :=
  exec c s = .next { s with dev := ((f (s.dev.finds rq b)).hold rq OP.COMMAND (wd (4096 * p))).answerWatches }

/-- What taking a request leaves of the device: all but the transport's own positions. -/
structure Dev.Arrived (d e : Dev) : Prop where
  only : d.hciOnly e
  seq : e.hci.attnSeq = d.hci.attnSeq
  marks : e.hci.hwm = d.hci.hwm
  keys : e.hci.keys = d.hci.keys
  out : e.out = d.out
  version : ∀ src, e.version src = d.version src
  watch : ∀ src, e.watchOf src = d.watchOf src

/-- A register with what a written word makes of it by its fields' access (spec/02 R30; the register tables). -/
def Dev.stored (d : Dev) (b : Blk) (a : Nat) (v : Word) : Dev :=
  match regAt b (a % 4096) with
  | some r => d.wr a (r.next (d.rd a) v)
  | none => d

/-- Executing `c` answers the next state whose device is `D` with every overdue WATCH answered (spec/02 R37): nothing else changed. -/
def Becomes (c : Instr) (s : State) (D : Dev) : Prop := exec c s = .next { s with dev := D.answerWatches }

/-! Invariants -/

/-- No session has an open WATCH whose ATTN_SEQ value differs from the present one: each was answered (spec/02 R37). -/
def Dev.WatchesAnswered (d : Dev) : Prop := ∀ src w, d.watchOf src = some w → w.seen = d.hci.attnSeq

/-- The invariant of the machine: no WATCH is overdue, and every waiting command is well formed. -/
def State.Inv (s : State) : Prop := s.dev.WatchesAnswered ∧ ∀ c ∈ s.pending, c.wf = true

/-- The canonical form of a memory: addresses strictly rising, no entry equal to the 0 an unlisted address reads as. -/
def Memory.wf (t : Tab Byte) : Bool := tabWf 0 t

/-- A core in the state of R265: PSR, WIN and SPILLP at their reset values, every register, every LK, EPC, ECAUSE and EVT 0, execution
at address 0. -/
def CoreAtReset (mp : Bool) (c : Core) : Prop :=
  c.psr mp = (if mp then 0x001B0001 else 0x001B0000) ∧ c.win = 0x10 ∧ c.spillp = (if mp then 0x1005F800 else 0x10007800) ∧
    (∀ n, c.reg n = 0) ∧ (∀ g, c.linkOf g = 0) ∧ c.epc = 0 ∧ c.ecause = 0 ∧ c.evt = false ∧ c.pc = 0

/-- Every memory that software can address is in canonical form (spec/10 R266, R268). -/
def Dev.memWf (d : Dev) : Bool :=
  Memory.wf d.mem.dram && Memory.wf d.mem.ink && Memory.wf d.asc.sram && Memory.wf d.mgt.sram && Memory.wf d.mp.dmem &&
    Memory.wf d.qar.desc && d.qar.cores.all (fun e => Memory.wf e.2.dmem && Memory.wf e.2.imem)

/-- The byte that a core finds at an address of its memories (spec/10 R266, R268): data memory or MP SRAM, scheduler SRAM, and for the MP
also MGT SRAM, the Inkwell window and the DRAM window. -/
def Dev.memByte (d : Dev) (u : Cpu) (a : Nat) : Byte :=
  if 0x10000000 ≤ a ∧ a < u.dataEnd then tabGet 0 (d.core u).dmem (a - 0x10000000)
  else if 0x30000000 ≤ a ∧ a < 0x30100000 then tabGet 0 d.asc.sram (a - 0x30000000)
  else match u with
    | .quill _ => 0
    | .mp =>
      if 0x11000000 ≤ a ∧ a < 0x11200000 then tabGet 0 d.mgt.sram (a - 0x11000000)
      else if 0x40000000 ≤ a ∧ a < 0x40800000 then tabGet 0 d.mem.ink (a - 0x40000000)
      else if 0x80000000 ≤ a then d.dramByte (d.winAddr a)
      else 0

/-- A core may store to the word at an address: it lies in a memory, and DRAM serves, is fitted there and holds no poison
(spec/10 R255, R266, R268; spec/14 R348, R499). -/
def Dev.storable (d : Dev) (u : Cpu) (a : Nat) : Bool :=
  atomic u a || (u.isMp && decide (0x40000000 ≤ a ∧ a < 0x40800000)) ||
    (u.isMp && decide (0x80000000 ≤ a ∧ a < 2 ^ 32 ∧ d.winAddr a + 4 ≤ d.dramMib * 2 ^ 20) && d.serving && !d.poisoned (d.winAddr a))

/-- From one device to the other, a core that is in no slot has gone on to the next instruction: besides its pc at most one register
changed, and the flags where `s` says so; nothing else of the device. -/
def OnlyReg (u : Cpu) (rd : BitVec 5) (s : Bool) (d e : Dev) : Prop :=
  ∃ c : Core, e = d.setCore u c ∧ (∀ n, n ≠ rd → c.reg n = (d.core u).reg n) ∧
    c = { d.core u with pc := ((d.core u).pc + 4) % 2 ^ 32, globals := c.globals, windows := c.windows, n := c.n, z := c.z, c := c.c, v := c.v } ∧
    (s = false → c.n = (d.core u).n ∧ c.z = (d.core u).z ∧ c.c = (d.core u).c ∧ c.v = (d.core u).v)

end Sys2Proof.Machine
end

