-- ==== Sys2Proof/Certificates/Slice0/Obligations.lean ====
section
/-! DEFINITION. The statements about the model, by the rules of the spec; OBLIGATIONS.json says which rule each formalises. -/

open Sys2Proof Sys2Proof.Machine

/-- HELLO, READ of page headers, WRITE, MODIFY, WATCH, its timeout, ATTN_SCAN, CLOSE and NOP each answer a next state in which
the request is answered as R25 to R27, R37, R38 and R42 say, for a request that reaches the device well formed; a READ, WRITE or
MODIFY here is of one register the device accepts, with what storing it starts. -/
def Obligations.HostRequestsComplete : Prop :=
  (∀ (s : State) (rq : Rq) (m : Msg) (v : Nat), s.dev.hears rq 0 1 = true → s.dev.version rq.src = none → m.formed rq = true →
    m.payload = [] → agree 2 3 (bitsOf m.arg 7 0) (bitsOf m.arg 15 8) = some v →
    Answers (.hello rq.src m) s rq OP.HELLO [wd (v + 2 ^ 16 * rq.src.id)] s.dev (fun e => e.version rq.src = some v)) ∧
  (∀ (s : State) (rq : Rq) (m : Msg), s.dev.hears rq 0 0 = true → m.formed rq = true → m.payload = [] →
    Answers (.nop rq.src m) s rq OP.NOP [] s.dev) ∧
  (∀ (s : State) (rq : Rq) (m : Msg) (n p o : Nat) (b : Blk), s.dev.takes rq OP.READ 0 n = true → m.formed rq = true →
    m.payload = [] → m.arg.toNat = n → 1 ≤ n → p = bitsOf m.addr 23 12 → o = bitsOf m.addr 11 0 → o % 4 = 0 → o + 4 * n ≤ 0x040 →
    blkOfPage p = some b →
    Answers (.read rq.src m) s rq OP.READ ((List.range n).map (fun k => s.dev.headerRead b p (o + 4 * k))) s.dev) ∧
  (∀ (s : State) (rq : Rq) (m : Msg) (n p o : Nat) (b : Blk), s.dev.takes rq OP.READ 0 n = true → m.formed rq = true →
    m.payload = [] → m.arg.toNat = n → 1 ≤ n → (s.dev.version rq.src = some 1 → n ≤ 64) → p = bitsOf m.addr 23 12 →
    o = bitsOf m.addr 11 0 → o % 4 = 0 → 0x040 < o + 4 * n → o + 4 * n ≤ 0x1000 → blkOfPage p = some b →
    (∀ k < n, refuse ((s.dev.event 0).readCodes p (o + 4 * k)) = RC.OK) →
    (∀ k < n, 4096 * p + (o + 4 * k) ≠ A.PHY.RADAR_FIFO1 .b) →
    Answers (.read rq.src m) s rq OP.READ ((List.range n).map (fun k => (s.dev.asked b).readValue p (o + 4 * k))) (s.dev.asked b)) ∧
  (∀ (s : State) (rq : Rq) (m : Msg) (v : Word) (b : Blk) (r : RegDef), m.formed rq = true → m.payload = [v] → m.arg = 1 →
    s.dev.accepts rq (bitsOf m.addr 23 0) v b = true → 0x040 ≤ bitsOf m.addr 11 0 → regAt b (bitsOf m.addr 11 0) = some r →
    plainReg b (bitsOf m.addr 11 0) = true → bitsOf m.addr 23 0 ≠ A.MLD.LINK_CTRL →
    Answers (.write rq.src m) s rq OP.WRITE []
      ((s.dev.asked b).wr (bitsOf m.addr 23 0) (r.next ((s.dev.asked b).rd (bitsOf m.addr 23 0)) v))) ∧
  (∀ (s : State) (rq : Rq) (m : Msg) (v : Word) (b : Blk) (r : RegDef), m.formed rq = true → m.payload = [v] → m.arg = 1 →
    s.dev.accepts rq (bitsOf m.addr 23 0) v b = true → 0x040 ≤ bitsOf m.addr 11 0 → regAt b (bitsOf m.addr 11 0) = some r →
    linkReg (bitsOf m.addr 23 0) = false →
    Performs (.write rq.src m) s rq OP.WRITE [] b (fun d =>
      (d.wr (bitsOf m.addr 23 0) (r.next (d.rd (bitsOf m.addr 23 0)) v)).blockPost b (bitsOf m.addr 11 0) (d.rd (bitsOf m.addr 23 0))
        (r.next (d.rd (bitsOf m.addr 23 0)) v) v)) ∧
  (∀ (s : State) (rq : Rq) (m : Msg) (w new : Word) (p o : Nat) (b : Blk) (r : RegDef), s.dev.takes rq OP.MODIFY 1 1 = true →
    m.formed rq = true → m.payload = [w] → p = bitsOf m.addr 23 12 → o = bitsOf m.addr 11 0 → o % 4 = 0 → 0x040 ≤ o →
    blkOfPage p = some b → regAt b o = some r → modifiable b o = true → plainReg b o = true → 4096 * p + o ≠ A.MLD.LINK_CTRL →
    new = ((s.dev.event 0).readValue p o &&& ~~~ m.arg) ||| (w &&& m.arg) →
    refuse ((s.dev.event 0).readCodes p o) = RC.OK → refuse ((s.dev.event 0).writeCodes rq.src p o new) = RC.OK →
    Answers (.modify rq.src m) s rq OP.MODIFY
      [((s.dev.asked b).wr (4096 * p + o) (r.next ((s.dev.asked b).rd (4096 * p + o)) new)).readValue p o]
      ((s.dev.asked b).wr (4096 * p + o) (r.next ((s.dev.asked b).rd (4096 * p + o)) new))) ∧
  (∀ (s : State) (rq : Rq) (m : Msg) (w new : Word) (p o : Nat) (b : Blk) (r : RegDef) (F : Dev → Dev), s.dev.takes rq OP.MODIFY 1 1 = true →
    m.formed rq = true → m.payload = [w] → p = bitsOf m.addr 23 12 → o = bitsOf m.addr 11 0 → o % 4 = 0 → 0x040 ≤ o →
    blkOfPage p = some b → regAt b o = some r → modifiable b o = true → linkReg (4096 * p + o) = false →
    new = ((s.dev.event 0).readValue p o &&& ~~~ m.arg) ||| (w &&& m.arg) →
    refuse ((s.dev.event 0).readCodes p o) = RC.OK → refuse ((s.dev.event 0).writeCodes rq.src p o new) = RC.OK →
    F = (fun d => (d.wr (4096 * p + o) (r.next (d.rd (4096 * p + o)) new)).blockPost b o (d.rd (4096 * p + o)) (r.next (d.rd (4096 * p + o)) new) new) →
    Performs (.modify rq.src m) s rq OP.MODIFY [(F (s.dev.finds rq b)).readValue p o] b F) ∧
  (∀ (s : State) (rq : Rq) (m : Msg) (d : Dev), s.dev.WatchesAnswered → s.dev.takes rq OP.WATCH 1 0 = true → rq.src ≠ .mp →
    m.formed rq = true → m.payload = [s.dev.hci.attnSeq] → m.arg ≠ 0 → m.arg.toNat ≤ 60000 → s.dev.watchOf rq.src = none → d = s.dev.reached rq.src →
    Becomes (.watch rq.src m) s ((d.setWatch rq.src
      (some { tag := rq.tag, seen := s.dev.hci.attnSeq, due := s.dev.tb + msT m.arg.toNat })).passOver rq.src)) ∧
  (∀ (d : Dev) (src : Src) (w : Watch), src ≠ .mp → (d.version src).isSome = true → (d.setWatch src (some w)).watchOf src = some w ∧
    d.hciOnly (d.setWatch src (some w)) ∧ (d.setWatch src (some w)).out = d.out) ∧
  (∀ (s : State) (src : Src) (w : Watch), s.dev.watchOf src = some w → w.seen = s.dev.hci.attnSeq →
    Becomes (.watchTimeout src) s (((s.dev.at_ w.due).setWatch src none).deliver src none ((s.dev.at_ w.due).reply OP.WATCH w.tag RC.OK 1 []))) ∧
  (∀ (s : State) (rq : Rq) (m : Msg) (n : Nat) (ps : List (Nat × Page)), s.dev.takes rq OP.ATTN_SCAN 0 n = true → m.formed rq = true →
    m.payload = [] → ps = s.dev.pages.filter (fun e => decide (bitsOf m.arg 11 0 ≤ e.1) && decide (e.2.pend ≠ 0)) →
    2 * ps.length ≤ n →
    Answers (.attnScan rq.src m) s rq OP.ATTN_SCAN (ps.map (fun e => [wd (e.2.top * 2 ^ 12 + e.1), e.2.pend])).flatten s.dev) ∧
  (∀ (s : State) (rq : Rq) (m : Msg) (e : Dev), s.dev.takes rq OP.CLOSE 0 0 = true → m.formed rq = true → m.payload = [] →
    e = s.dev.reached rq.src →
    Becomes (.close rq.src m) s (((e.acpCut rq.src).respond rq (e.reply OP.CLOSE rq.tag RC.OK 0 [])).endSession rq.src)) ∧
  (∀ (d : Dev) (src : Src), src ≠ .mp → (d.endSession src).version src = none ∧ (d.endSession src).watchOf src = none ∧
    d.hciOnly (d.endSession src))

/-- REQUEST_PRODUCER_WRITE, REPLY_CONSUMER_WRITE, RING_CONFIG_WRITE and PCIE_LINK_DOWN answer the next state R43 to R47 give:
entries taken or held, reply entries freed and written, a base stored, a pair enabled or stopped, a vector unmasked, every pair
stopped. Each clause gives the conditions on the state and the operands, and the whole next device. -/
def Obligations.RingWritesComplete : Prop :=
  (∀ (s : State) (n : Nat) (w : Word) (e : RingEnt) (d : Dev) (r : Ring), d = s.dev.pcieWake → r = s.dev.ring n → s.dev.hciUp = true →
    s.dev.hci.linkUp = true → n < 32 → r.enable = true → r.typ = 1 → r.held = [] → r.waiting = [] → r.full = false → bitsOf w 11 0 < r.size →
    (bitsOf w 11 0 + r.size - r.prod) % r.size = 1 → d.hci.inExec = none → d.asking = [] →
    Becomes (.requestProducerWrite n w [e]) s (((d.onHci (fun h => { h with turn := n + 1 })).setRing n
      { r with prod := bitsOf w 11 0, held := [], reqPos := (r.reqPos + 1) % r.size }).request (.pcie n) e.msg)) ∧
  (∀ (s : State) (n : Nat) (w : Word) (e : RingEnt) (d d1 : Dev) (r : Ring), d = s.dev.pcieWake → r = s.dev.ring n → s.dev.hciUp = true →
    s.dev.hci.linkUp = true → n < 32 → r.enable = true → r.typ = 2 → r.held = [] → r.waiting = [] → r.full = false → bitsOf w 11 0 < r.size →
    (bitsOf w 11 0 + r.size - r.prod) % r.size = 1 → d.ringStuck n = false →
    (d.setRing n { r with prod := bitsOf w 11 0, held := [], reqPos := (r.reqPos + 1) % r.size }).dataEntry n e = some d1 →
    Becomes (.requestProducerWrite n w [e]) s d1) ∧
  (∀ (s : State) (n : Nat) (w : Word) (es : List RingEnt) (k : Nat) (d : Dev) (r : Ring), d = s.dev.pcieWake → r = s.dev.ring n → s.dev.hciUp = true →
    s.dev.hci.linkUp = true → n < 32 → r.enable = true → bitsOf w 11 0 < r.size → r.full = true ∨ r.waiting ≠ [] →
    k = (bitsOf w 11 0 + r.size - r.prod) % r.size → d.asking = [] →
    Becomes (.requestProducerWrite n w es) s (d.setRing n { r with prod := bitsOf w 11 0, held := r.held ++ es.take k })) ∧
  (∀ (s : State) (n : Nat) (w : Word) (d : Dev) (r : Ring), d = s.dev.pcieWake → r = s.dev.ring n → s.dev.hciUp = true → s.dev.hci.linkUp = true →
    n < 32 → r.enable = true → bitsOf w 11 0 < r.size → r.held = [] → r.waiting = [] → d.asking = [] →
    Becomes (.replyConsumerWrite n w) s (d.setRing n { r with cons := bitsOf w 11 0 })) ∧
  (∀ (s : State) (n : Nat) (w : Word) (d : Dev) (r : Ring) (ws : List Word) (host : Nat) (p : List Word), d = s.dev.pcieWake → r = s.dev.ring n →
    s.dev.hciUp = true → s.dev.hci.linkUp = true → n < 32 → r.enable = true → bitsOf w 11 0 < r.size → r.held = [] →
    r.waiting = [(ws, host, p)] → (r.rspPos + 1) % r.size ≠ bitsOf w 11 0 → d.asking = [] →
    Becomes (.replyConsumerWrite n w) s ((d.setRing n { r with cons := bitsOf w 11 0, waiting := [] }).ringWrite n ws host p)) ∧
  (∀ (s : State) (n : Nat) (w : Word) (d : Dev) (r : Ring), d = s.dev.pcieWake → r = s.dev.ring n → s.dev.hciUp = true → s.dev.hci.linkUp = true → n < 32 →
    r.enable = false →
    Becomes (.ringConfigWrite (0x400 + 32 * n) w) s (d.setRing n { r with reqBase := r.reqBase / 2 ^ 32 * 2 ^ 32 + w.toNat }) ∧
    Becomes (.ringConfigWrite (0x400 + 32 * n + 4) w) s (d.setRing n { r with reqBase := r.reqBase % 2 ^ 32 + 2 ^ 32 * w.toNat }) ∧
    Becomes (.ringConfigWrite (0x400 + 32 * n + 8) w) s (d.setRing n { r with rspBase := r.rspBase / 2 ^ 32 * 2 ^ 32 + w.toNat }) ∧
    Becomes (.ringConfigWrite (0x400 + 32 * n + 12) w) s (d.setRing n { r with rspBase := r.rspBase % 2 ^ 32 + 2 ^ 32 * w.toNat })) ∧
  (∀ (s : State) (n : Nat) (w : Word) (d : Dev) (r new : Ring), d = s.dev.pcieWake → r = s.dev.ring n → s.dev.hciUp = true → s.dev.hci.linkUp = true → n < 32 →
    r.enable = false → bitOf w 31 = true → new = { r with log2 := bitsOf w 3 0, typ := bitsOf w 5 4, vec := bitsOf w 12 8 } →
    d.ringValid n new = true →
    Becomes (.ringConfigWrite (0x400 + 32 * n + 16) w) s (d.setRing n { new with enable := true, prod := 0, cons := 0, reqPos := 0, rspPos := 0, phase := true, session := none, watch := none, waiting := [], held := [], subs := [] })) ∧
  (∀ (s : State) (n : Nat) (w : Word) (d : Dev), d = s.dev.pcieWake.ringStop n → s.dev.hciUp = true → s.dev.hci.linkUp = true → n < 32 →
    (s.dev.ring n).enable = true → bitOf w 31 = false →
    Becomes (.ringConfigWrite (0x400 + 32 * n + 16) w) s
      (d.setRing n { d.ring n with log2 := bitsOf w 3 0, typ := bitsOf w 5 4, vec := bitsOf w 12 8 })) ∧
  (∀ (s : State) (v : Nat) (w : Word) (d : Dev), d = s.dev.pcieWake.onHci (fun h =>
        { h with msixTab := tabSet 0 h.msixTab (4 * v + 3) w, msixMask := h.msixMask &&& ~~~ oneBit v, msixPending := h.msixPending &&& ~~~ oneBit v }) → s.dev.hciUp = true → s.dev.hci.linkUp = true → v < 32 →
    bitOf w 0 = false →
    Becomes (.ringConfigWrite (0x1000 + 16 * v + 12) w) s (if s.dev.pcieWake.hci.msixPending.getLsbD v then d.emit (.msix v) else d)) ∧
  (∀ (s : State), Becomes .pcieLinkDown s
    (((tabKeys s.dev.hci.rings).foldl (fun d n => if (d.ring n).enable then d.ringStop n else d) s.dev).onHci (fun h => { h with linkUp := false }))) ∧
  (∀ (s : State), Leads .pcieLinkDown s (fun t => t.hci.linkUp = false ∧ ∀ n, (t.ring n).enable = false))

/-- SPI_REQUEST, SPI_REPLY, SPI_STATUS, ACP_DATAGRAM, ACP_SESSION_IDLE and ACP_KEY_WRITE answer the next state R48 to R57 give:
the request executed, the reply clocked out and consumed, the status bytes, the datagram's messages executed, the session ended,
the key word stored and its sessions closed. Each clause gives the conditions on the state and the operands, and the whole next
device. -/
def Obligations.DatagramsAndSpiComplete : Prop :=
  (∀ (s : State) (bs body : List Byte) (d : Dev), d = s.dev.emit (.spi [s.dev.spiStatus]) → s.dev.hciUp = true → s.dev.spiAccepting = true →
    18 ≤ bs.length → body = bs.take (bs.length - 2) → body.length = 16 + (msgOf body).len → leNat (bs.drop (bs.length - 2)) = (crc16 body).toNat →
    d.hci.inExec = none → d.asking = [] →
    Becomes (.spiRequest bs) s ((d.reached .spi).request .spi (msgOf body))) ∧
  (∀ (s : State) (clocks : Nat) (r : Reply) (rest : List Reply), s.dev.hciUp = true → s.dev.hci.spi.replies = r :: rest →
    r.spiBytes.length ≤ clocks →
    Becomes (.spiReply clocks) s ((s.dev.emit (.spi (s.dev.spiStatus :: 0 :: (r.spiBytes ++ List.replicate (clocks - r.spiBytes.length) 0)))).onSpi
      (fun x => { x with replies := rest }))) ∧
  (∀ (s : State), s.dev.hciUp = true →
    Becomes .spiStatus s (s.dev.emit (.spi (s.dev.spiStatus :: natBytes 2 (s.dev.status 0) ++ wordBytes s.dev.hci.attnSeq)))) ∧
  (∀ (s : State) (port peer : Nat) (udp : Bool) (bs body : List Byte) (ms : List Msg) (a : Acp) (id ctr : Nat), s.dev.hciUp = true → s.dev.romServes = false →
    port < 10 → s.dev.present (.eth port) = true → bitOf (s.dev.rd A.HCI.ACP_CFG) (12 + port) = true →
    bitOf (s.dev.rd A.HCI.ACP_CFG) (if udp then 1 else 0) = true → 32 ≤ bs.length → bs.length ≤ 1400 → body = bs.take (bs.length - 16) →
    byteAt bs 4 ≤ 3 → bs.drop (bs.length - 16) = hmacTag (s.dev.acpKey (byteAt bs 4)) body → byteAt bs 1 = 0 → byteAt bs 6 = 0 → byteAt bs 7 = 0 →
    acpMsgs (byteAt bs 5) (body.drop 16) = some ms → id = leNat ((bs.drop 2).take 2) → id ≠ 0 → tabFind s.dev.hci.acp id = some a →
    byteAt bs 0 = a.version → byteAt bs 4 = a.slot → 1 ≤ byteAt bs 5 → byteAt bs 5 ≤ (if a.version = 3 then 8 else 1) →
    ctr = leNat ((bs.drop 8).take 8) → a.helloCtr < ctr → a.topCtr < ctr →
    Becomes (.acpDatagram port peer udp bs) s (s.dev.acpAccept id ctr port peer udp ms)) ∧
  (∀ (d : Dev) (id ctr port peer : Nat) (udp : Bool) (m : Msg) (a : Acp), tabFind d.hci.acp id = some a → m.flags / 2 % 2 = 0 →
    d.hci.inExec = none → d.asking = [] →
    d.acpAccept id ctr port peer udp [m] = (d.onHci (fun h => { h with turn := (Src.acp id).place + 1, acp := tabPut h.acp id { a with
      topCtr := ctr, active := d.tb, port := port, peer := peer, udp := udp, todo := [[]] } })).request (.acp id) m) ∧
  (∀ (s : State) (id : Nat) (a : Acp), tabFind s.dev.hci.acp id = some a → a.watch = none →
    Becomes (.acpSessionIdle id) s ((s.dev.at_ (a.active + sT (s.dev.fld A.HCI.ACP_CFG 31 22))).onHci
      (fun h => { h.forget (.acp id) with acp := tabDel h.acp id }))) ∧
  (∀ (s : State) (rq : Rq) (slot : Nat) (v : Word), slot < 4 → s.dev.accepts rq (A.HCI.ACP_KEY (8 * slot)) v .hci = true →
    Performs (.acpKeyWrite rq slot [v]) s rq OP.WRITE [] .hci (fun d => (d.wr (A.HCI.ACP_KEY (8 * slot)) (d.rd (A.HCI.ACP_KEY (8 * slot)))).onHci (fun h =>
      { h with keys := tabSet 0 h.keys (8 * slot) v, acp := h.acp.filter (fun e => decide (e.2.slot ≠ slot)) })))

/-- An index at or above a ring's size raises RING_ERROR and changes nothing else; an SPI request with a bad CRC and an ACP
datagram with a bad TAG are counted and discarded (R45, R49, R53). Each clause gives the conditions on the state and the
operands, and the whole next device. -/
def Obligations.TransportRefusals : Prop :=
  (∀ (s : State) (n : Nat) (w : Word) (es : List RingEnt), s.dev.hciUp = true → s.dev.hci.linkUp = true → n < 32 →
    (s.dev.ring n).enable = true → (s.dev.ring n).size ≤ bitsOf w 11 0 →
    Becomes (.requestProducerWrite n w es) s (s.dev.pcieWake.raise .hci Cause.HCI.RING_ERROR)) ∧
  (∀ (s : State) (n : Nat) (w : Word), s.dev.hciUp = true → s.dev.hci.linkUp = true → n < 32 →
    (s.dev.ring n).enable = true → (s.dev.ring n).size ≤ bitsOf w 11 0 →
    Becomes (.replyConsumerWrite n w) s (s.dev.pcieWake.raise .hci Cause.HCI.RING_ERROR)) ∧
  (∀ (s : State) (bs body : List Byte), s.dev.hciUp = true → s.dev.spiAccepting = true → 18 ≤ bs.length → body = bs.take (bs.length - 2) →
    leNat (bs.drop (bs.length - 2)) ≠ (crc16 body).toNat →
    Becomes (.spiRequest bs) s (((s.dev.emit (.spi [s.dev.spiStatus])).onSpi (fun x => { x with lastRejected := true })).count A.HCI.SPI_CRC_ERR)) ∧
  (∀ (s : State) (port peer : Nat) (udp : Bool) (bs body : List Byte), s.dev.hciUp = true → s.dev.romServes = false →
    port < 10 → s.dev.present (.eth port) = true → bitOf (s.dev.rd A.HCI.ACP_CFG) (12 + port) = true →
    bitOf (s.dev.rd A.HCI.ACP_CFG) (if udp then 1 else 0) = true → 32 ≤ bs.length → bs.length ≤ 1400 → body = bs.take (bs.length - 16) →
    byteAt bs 4 ≤ 3 → bs.drop (bs.length - 16) ≠ hmacTag (s.dev.acpKey (byteAt bs 4)) body → s.dev.hci.authFails.length < 15 →
    Becomes (.acpDatagram port peer udp bs) s ((s.dev.count A.HCI.ACP_AUTH_FAIL).onHci (fun h => { h with authFails := s.dev.tb :: h.authFails })))

/-- SOFT_RESET and its end, ENABLE, ISOLATE, PG_LOCK, ATTN_CAUSE, ATTN_MASK, ATTN_CLASS and ATTN_FORCE writes, a counter write
and a register write, with what it starts, have the effect R33 to R36, R58 to R60 and R64 give. Each clause gives the conditions
on the state and the operands, and the whole next state: the device it names with the reply on its way, every other part as
before. -/
def Obligations.PageHeaderCommandsComplete : Prop :=
  (∀ (s : State) (rq : Rq) (p : Nat) (v : Word) (b : Blk), p < 4096 → s.dev.accepts rq (4096 * p + 0x008) (v ||| 2) b = true →
    Performs (.softReset rq p v) s rq OP.WRITE [] b (fun d =>
      let d1 := d.setPage p { d.page p with enable := bitOf (v ||| 2) 0, clkForce := bitOf (v ||| 2) 2, isolate := bitOf (v ||| 2) 3 }
      (if b = .bst then d1.bstSoft else d1).softReset b)) ∧
  (∀ (s : State) (b : Blk), (s.dev.blk b).resetting = true → (dpBlks.contains b = false ∨ s.dev.mem.dpReset = false) → b ≠ .qar →
    Becomes (.softResetDone b) s (s.dev.setBlk b { s.dev.blk b with resetting := false })) ∧
  (∀ (s : State), (s.dev.blk .qar).resetting = true → s.dev.mem.dpReset = false → s.dev.qarAtTake = true →
    Becomes (.softResetDone .qar) s (s.dev.setBlk .qar { s.dev.blk .qar with resetting := false }).qarResume) ∧
  (∀ (s : State) (rq : Rq) (p : Nat) (v : Word) (b : Blk), p < 4096 → s.dev.accepts rq (4096 * p + 0x008) v b = true → bitOf v 1 = false →
    Performs (.pgEnableWrite rq p v) s rq OP.WRITE [] b (fun d => d.setPage p { d.page p with enable := bitOf v 0, clkForce := bitOf v 2, isolate := bitOf v 3 })) ∧
  (∀ (s : State) (rq : Rq) (p : Nat) (v : Word) (b : Blk), p < 4096 → s.dev.accepts rq (4096 * p + 0x008) v b = true → bitOf v 1 = false →
    Performs (.pgIsolateWrite rq p v) s rq OP.WRITE [] b (fun d => d.setPage p { d.page p with enable := bitOf v 0, clkForce := bitOf v 2, isolate := bitOf v 3 })) ∧
  (∀ (s : State) (rq : Rq) (p : Nat) (b : Blk), p < 4096 → s.dev.accepts rq (4096 * p + 0x020) 1 b = true →
    Performs (.pgLockSet rq p) s rq OP.WRITE [] b (fun d => d.setPage p { d.page p with lock := true })) ∧
  (∀ (s : State) (rq : Rq) (p : Nat) (v : Word) (b : Blk), p < 4096 → s.dev.accepts rq (4096 * p + 0x010) v b = true → (∀ i < 32, p = blkPage b → (s.dev.asked b).causeHolds b i = false) →
    Answers (.attnCauseClear rq p v) s rq OP.WRITE []
      ((s.dev.asked b).attnSet p (((s.dev.asked b).page p).cause &&& ~~~ v) ((s.dev.asked b).page p).mask)) ∧
  (∀ (s : State) (rq : Rq) (p : Nat) (v : Word) (b : Blk), p < 4096 → s.dev.accepts rq (4096 * p + 0x014) v b = true →
    Performs (.attnMaskWrite rq p v) s rq OP.WRITE [] b (fun d => d.attnSet p (d.page p).cause v)) ∧
  (∀ (s : State) (rq : Rq) (p : Nat) (v : Word) (b : Blk), p < 4096 → s.dev.accepts rq (4096 * p + 0x018) v b = true →
    Performs (.attnClassWrite rq p v) s rq OP.WRITE [] b (fun d => d.setPage p { d.page p with cls := v })) ∧
  (∀ (s : State) (rq : Rq) (p : Nat) (v : Word) (b : Blk), p < 4096 → s.dev.accepts rq (4096 * p + 0x01C) v b = true →
    Performs (.attnForceWrite rq p v) s rq OP.WRITE [] b (fun d => d.attnSet p ((d.page p).cause ||| v) (d.page p).mask)) ∧
  (∀ (s : State) (rq : Rq) (a : Nat) (v : Word) (b : Blk) (c : CtrDef), s.dev.accepts rq a v b = true → 0x040 ≤ a % 4096 →
    regAt b (a % 4096) = none → ctrAt b (a % 4096) = some c →
    Performs (.counterWrite rq a v) s rq OP.WRITE [] b (fun d => if v ≠ 0 then d else if c.wide then (d.wr a 0).wr (a + 4) 0 else d.wr a 0)) ∧
  (∀ (s : State) (rq : Rq) (a : Nat) (v : Word) (b : Blk) (r : RegDef), s.dev.accepts rq a v b = true → 0x040 ≤ a % 4096 →
    regAt b (a % 4096) = some r → a ≠ A.MLD.LINK_CTRL → plainReg b (a % 4096) = true →
    Performs (.registerWrite rq a v) s rq OP.WRITE [] b (fun d => d.wr a (r.next (d.rd a) v))) ∧
  (∀ (s : State) (rq : Rq) (a : Nat) (v : Word) (b : Blk) (r : RegDef), s.dev.accepts rq a v b = true → 0x040 ≤ a % 4096 →
    regAt b (a % 4096) = some r → linkReg a = false →
    Performs (.registerWrite rq a v) s rq OP.WRITE [] b (fun d =>
      (d.wr a (r.next (d.rd a) v)).blockPost b (a % 4096) (d.rd a) (r.next (d.rd a) v) v)) ∧
  (∀ (s : State) (rq : Rq) (v : Word), s.dev.accepts rq (A.ASC.ROUND_CFG) (v) .asc = true →
    Performs (.registerWrite rq A.ASC.ROUND_CFG v) s rq OP.WRITE [] .asc (fun d => let e := d.stored .asc A.ASC.ROUND_CFG v
      if bitsOf (d.rd A.ASC.ROUND_CFG) 7 0 ≠ bitsOf (e.rd A.ASC.ROUND_CFG) 7 0 then e.periodWrite (bitsOf (e.rd A.ASC.ROUND_CFG) 7 0) else e))

/-- State commands, channel and chain selection, calibration phases and their end, drift and periodic calibrations and their
deferral, quiet windows, TRANSMIT, loss and return of lock, duty-cycle release and the regulatory registers have the effect R65
to R95 give. Each clause gives the conditions on the state and the operands, and the whole next state: the device it names with
the reply on its way, every other part as before. -/
def Obligations.RadioCommandsComplete : Prop :=
  (∀ (s : State) (rq : Rq) (r : Radio) (v : Word), s.dev.accepts rq (A.RFE.STATE_CMD r) (v) (.rfe r) = true →
    Performs (.stateCmdWrite rq r v) s rq OP.WRITE [] (.rfe r) (fun d => (d.stored (.rfe r) (A.RFE.STATE_CMD r) v).withLinks (fun d => d.moveOn r))) ∧
  (∀ (s : State) (rq : Rq) (r : Radio) (v : Word), s.dev.accepts rq (A.RFE.CHAN r) (v) (.rfe r) = true →
    Performs (.chanWrite rq r v) s rq OP.WRITE [] (.rfe r) (fun d => let e := d.stored (.rfe r) (A.RFE.CHAN r) v
      (if (e.rfe.get r).cur ≠ .sleep ∧ (e.rfe.get r).cur ≠ .standby then e.onRfe r (fun f => { f with chanReq := true }) else e).withLinks (fun d => d.moveOn r))) ∧
  (∀ (s : State) (rq : Rq) (r : Radio) (v : Word), s.dev.accepts rq (A.RFE.CHAIN_EN r) (v) (.rfe r) = true →
    Performs (.chainEnWrite rq r v) s rq OP.WRITE [] (.rfe r) (fun d => d.stored (.rfe r) (A.RFE.CHAIN_EN r) v)) ∧
  (∀ (s : State) (r : Radio) (x : RState) (t : Nat), (s.dev.rfe.get r).moving = some (x, t) → (s.dev.rfe.get r).calPhase = .none → ¬ ((s.dev.rfe.get r).cur = .standby ∧ x = .synthOn) →
    Becomes (.radioTransitionDone r) s ((s.dev.onMedium r (fun _ => s.dev.withLinks (fun d => if x = .transmit then ((d.at_ t).enter r x).quietBegin r else (((d.at_ t).enter r x).quietCal r).radioNext r))).napTry)) ∧
  (∀ (s : State) (r : Radio) (m : CalMeas), (s.dev.rfe.get r).calPhase = .none → (s.dev.rfe.get r).calKind = .first → (s.dev.rfe.get r).cur = .standby → (s.dev.rfe.get r).moving.isSome = true → (s.dev.rfe.get r).phaseEnd ≠ 0 →
    Becomes (.synCalPhaseDone r m) s (s.dev.onMedium r (fun _ => s.dev.withLinks (fun _ => ((s.dev.at_ (s.dev.rfe.get r).phaseEnd).phase r .fine .first (usT 12)).radioNext r)))) ∧
  (∀ (s : State) (r : Radio) (m : CalMeas), (s.dev.rfe.get r).calPhase = .coarse →
    Becomes (.synCalPhaseDone r m) s (s.dev.onMedium r (fun _ => s.dev.withLinks (fun _ =>
      let d := s.dev.at_ (s.dev.rfe.get r).phaseEnd
      ((if (s.dev.rfe.get r).calKind = .chanChange then d else d.onRfe r (fun f => { f with side := d.bit (A.RFE.IF_CFG r) 0 })).phase r .fine (s.dev.rfe.get r).calKind (usT 12)).radioNext r)))) ∧
  (∀ (s : State) (r : Radio) (m : CalMeas), (s.dev.rfe.get r).calPhase = .fine →
    Becomes (.synCalPhaseDone r m) s (s.dev.onMedium r (fun _ => s.dev.withLinks (fun _ => ((s.dev.at_ (s.dev.rfe.get r).phaseEnd).phase r .settle (s.dev.rfe.get r).calKind (usT 20)).radioNext r)))) ∧
  (∀ (s : State) (r : Radio) (m : CalMeas), (s.dev.rfe.get r).calPhase = .image →
    Becomes (.synCalPhaseDone r m) s (s.dev.onMedium r (fun _ => s.dev.withLinks (fun _ => ((((s.dev.at_ (s.dev.rfe.get r).phaseEnd).inLock r).imageDone r m).moveOn r).radioNext r)))) ∧
  (∀ (s : State) (r : Radio) (t : Int) (d : Dev), d = s.dev.tempRead r t → s.dev.bit (A.RFE.SYN_CFG r) 8 = true → (d.rfe.get r).locked = true → s.dev.fld (A.RFE.SYN_CFG r) 7 0 ≤ ((d.rfe.get r).tempNow - (d.rfe.get r).tempSyn).natAbs → (d.rfe.get r).recalDue = false →
    Becomes (.tempDriftRecalDue r t) s (s.dev.onMedium r (fun _ => d.onRfe r (fun f => { f with recalDue := true, dueSince := some (f.dueSince.getD d.tb) })))) ∧
  (∀ (s : State) (r : Radio) (t : Int) (d : Dev), d = s.dev.tempRead r t → (d.rfe.get r).locked = true → (d.rfe.get r).periodicDue = false → s.dev.fld (A.RFE.CAL_CFG r) 11 8 ≤ ((d.rfe.get r).tempNow - (d.rfe.get r).tempImg).natAbs →
    Becomes (.periodicCalDue r t) s (s.dev.onMedium r (fun _ => d.onRfe r (fun f => { f with periodicDue := true, dueSince := some (f.dueSince.getD d.tb) })))) ∧
  (∀ (s : State) (r : Radio) (t : Nat), (s.dev.rfe.get r).dueSince = some t → (s.dev.rfe.get r).overdue = false →
    Becomes (.calDeferExpiry r) s (s.dev.onMedium r (fun _ => (((s.dev.at_ (t + msT (s.dev.fld (A.RFE.CAL_CFG r) 27 16))).onRfe r (fun f => { f with overdue := true })).count (A.RFE.CAL_DEFER_CNT r)).raise (.rfe r) Cause.RFE.CAL_OVERDUE))) ∧
  (∀ (s : State) (r : Radio) (durUs n : Nat), s.dev.macIdle r = true → (s.dev.rfe.get r).periodicDue = true ∨ (s.dev.rfe.get r).recalDue = true → (s.dev.rfe.get r).locked = true → (s.dev.rfe.get r).cur = .receive → (s.dev.rfe.get r).calPhase = .none → (s.dev.mac.get r).txop = none → (s.dev.mac.get r).ownNav ≤ s.dev.tb → s.dev.mediumIdle r = true → n = s.dev.tb + s.dev.wayToTx r + usT (44 + durUs) → durUs ≤ 1456 → 47 + ceilDiv (25 * s.dev.fld (A.RFE.RAMP_CFG r) 4 0 + 250) 250 + (if (s.dev.rfe.get r).periodicDue then 300 else 0) + (if (s.dev.rfe.get r).recalDue then 180 else 0) ≤ 44 + durUs → (∀ t, s.dev.nextHeat r = some t → n < t) → (∀ e ∈ s.dev.beaconing r, n < s.dev.tbttTick r e.1 e.2) → s.dev.nstrHolds r false = false →
    Becomes (.quietWindowStart r durUs) s (s.dev.onMedium r (fun _ => s.dev.withLinks (fun d => d.transmit r { d.ctrlVec r .ctsSelf (d.macAddr r) 44 with navUs := durUs } [] true)))) ∧
  (∀ (s : State) (r : Radio) (t : Nat) (x : TxPpdu) (d : Dev), (s.dev.rfe.get r).moving = some (.transmit, t) → (s.dev.rfe.get r).calPhase = .none → d = (s.dev.at_ t).enter r .transmit → (d.phy.get r).tx = some x → x.vec.kind = .ctsSelf →
    Becomes (.radioTransitionDone r) s ((s.dev.onMedium r (fun _ => s.dev.withLinks (fun _ => ((d.onRfe r (fun f => { f with quiet := some (x.stop + usT x.vec.navUs) })).twtCut r).count (A.RFE.CAL_RUN_CNT r)))).napTry)) ∧
  (∀ (s : State) (r : Radio) (t : Nat), (s.dev.rfe.get r).quiet = some t →
    Becomes (.quietWindowEnd r) s (s.dev.onMedium r (fun _ => s.dev.withLinks (fun d => (d.at_ t).onRfe r (fun f => { f with quiet := none }))))) ∧
  (∀ (s : State) (r : Radio) (x : TxVec) (fids : List Nat) (ready : Bool), s.dev.macIdle r = true → s.dev.nstrHolds r false = false → (∀ f ∈ fids, f ∈ s.dev.boundTo r) →
    Becomes (.transmitCommand r x fids ready) s (s.dev.onMedium r (fun _ => s.dev.withLinks (fun d => d.transmit r x fids ready)))) ∧
  (∀ (s : State) (r : Radio) (x : TxVec) (fids : List Nat) (ready : Bool), s.dev.macIdle r = true → s.dev.nstrHolds r false = true →
    Becomes (.transmitCommand r x fids ready) s (s.dev.onMedium r (fun _ => s.dev.count A.MLD.NSTR_DEFER_CNT))) ∧
  (∀ (s : State) (r : Radio), (s.dev.rfe.get r).locked = true → (s.dev.phy.get r).tx = none →
    Becomes (.synUnlock r) s (s.dev.onMedium r (fun _ => s.dev.withLinks (fun d => ((((((d.rxEnds r 5).rxRearm r).enter r .synthOn).onRfe r (fun f => { f with locked := false, moving := none })).phase r .fine .relock (usT 12)).count (A.RFE.UNLOCK_CNT r)).raise (.rfe r) Cause.RFE.SYN_UNLOCK)))) ∧
  (∀ (s : State) (r : Radio), (s.dev.rfe.get r).calKind = .relock → (s.dev.rfe.get r).calPhase = .settle →
    Becomes (.synRelockDone r true) s (s.dev.onMedium r (fun _ => s.dev.withLinks (fun _ => (((s.dev.at_ (s.dev.rfe.get r).phaseEnd).inLock r).moveOn r).radioNext r)))) ∧
  (∀ (s : State) (r : Radio), (s.dev.rfe.get r).calKind = .relock → (s.dev.rfe.get r).calPhase = .settle →
    Becomes (.synRelockDone r false) s (s.dev.onMedium r (fun _ => s.dev.withLinks (fun _ => ((s.dev.at_ (s.dev.rfe.get r).phaseEnd).phase r .coarse .relockFull (usT 148)).radioNext r)))) ∧
  (∀ (s : State) (r : Radio) (w : TxWait) (t : Nat), (s.dev.rfe.get r).wait = some w → w.forDuty = true → s.dev.dutyRelease r (s.dev.onTicks r w.vec.durUs) = some t →
    Becomes (.dutyHoldRelease r) s (s.dev.onMedium r (fun _ => (((s.dev.at_ t).rglFree r).onRfe r (fun f => { f with wait := some { w with forDuty := false } })).radioNext r))) ∧
  (∀ (s : State) (rq : Rq) (v : Word), s.dev.accepts rq 0x060008 v .rgl = true → bitOf v 1 = false →
    Performs (.rglEnableWrite rq v) s rq OP.WRITE [] .rgl (fun d => d.setPage 0x060
      { d.page 0x060 with enable := bitOf v 0, clkForce := bitOf v 2, isolate := bitOf v 3 })) ∧
  (∀ (s : State) (rq : Rq) (k : Nat) (v : Word), k < 29 → s.dev.accepts rq (A.RGL.FIELD_CHAN k) (v) .rgl = true →
    Performs (.rglFieldWrite rq k v) s rq OP.WRITE [] .rgl (fun d => d.stored .rgl (A.RGL.FIELD_CHAN k) v)) ∧
  (∀ (s : State) (rq : Rq) (k : Nat) (v : Word), k < 32 → s.dev.accepts rq (A.RGL.TEST_W k) (v) .rgl = true →
    Performs (.rglTestWrite rq k v) s rq OP.WRITE [] .rgl (fun d => (d.stored .rgl (A.RGL.TEST_W k) v).rglCheck))

/-- Energy rise, detection of each preamble, the AGC, AFC, SIG decoding and its failures, overtaking, overlapping transmissions,
energy detection, the end of a reception, radar pulses and their FIFO, and the precoder command have the effect their rules
give. Each clause gives the conditions on the state and the operands, and the whole next state: the device it names with the
reply on its way, every other part as before. -/
def Obligations.ReceiverCommandsComplete : Prop :=
  (∀ (s : State) (r : Radio) (power : Int), (s.dev.phy.get r).rx = .listen → sbyte (s.dev.phy.get r).cfg.det 16 < power →
    Becomes (.energyRise r power) s (s.dev.onMedium r (fun _ => (s.dev.onPhy r (fun p => { p with riseAt := s.dev.tb })).rxSet r .settle { Reception.new s.dev.tb power ((s.dev.phy.get r).cfg.bypassed power) 3 0 false false with guardOpen := false }))) ∧
  (∀ (s : State) (r : Radio) (x : Detect) (y : Reception), (s.dev.phy.get r).rx = .settle → (s.dev.phy.get r).rcp = some y → x.dsss = false → 1 ≤ x.boundary → x.boundary ≤ 8 → sbyte (s.dev.phy.get r).cfg.det 16 ≤ x.power → bitsOf (s.dev.phy.get r).cfg.det 11 8 ≤ x.corr →
    Becomes (.detection r x) s (s.dev.onMedium r (fun _ => ((s.dev.at_ ((s.dev.phy.get r).riseAt + 200 * x.boundary)).rxSet r .preamble (Reception.new x.start x.power ((s.dev.phy.get r).cfg.gain y.bypass x.lna x.vga).1 ((s.dev.phy.get r).cfg.gain y.bypass x.lna x.vga).2.1 ((s.dev.phy.get r).cfg.gain y.bypass x.lna x.vga).2.2 false false)).count (A.PHY.DET_CNT r)))) ∧
  (∀ (s : State) (x : Detect), s.dev.phy.a.rx = .listen → s.dev.phy.a.rcp = none → x.dsss = true →
    Becomes (.detection .a x) s (s.dev.onMedium .a (fun _ => (s.dev.rxSet .a .preamble (Reception.new x.start x.power (s.dev.phy.a.cfg.gain (s.dev.phy.a.cfg.bypassed x.power) x.lna x.vga).1 (s.dev.phy.a.cfg.gain (s.dev.phy.a.cfg.bypassed x.power) x.lna x.vga).2.1 (s.dev.phy.a.cfg.gain (s.dev.phy.a.cfg.bypassed x.power) x.lna x.vga).2.2 true false)).count (A.PHY.DET_CNT .a)))) ∧
  (∀ (s : State) (r : Radio), (s.dev.phy.get r).rx = .settle →
    Becomes (.settleTimeout r) s (s.dev.onMedium r (fun _ => (s.dev.at_ ((s.dev.phy.get r).riseAt + 1600)).rxListen r))) ∧
  (∀ (s : State) (r : Radio) (recs : List GuardRec) (lna vga : Nat) (x : Reception) (g : GuardRec), (s.dev.phy.get r).rcp = some x → (s.dev.phy.get r).rx = .preamble → x.guardOpen = true → x.dsss = false → riseOf (s.dev.phy.get r).cfg x.ref recs = some g →
    Becomes (.falsestartAbort r recs lna vga) s (s.dev.onMedium r (fun _ => (s.dev.at_ (g.start + 400)).guardAbort r recs lna vga))) ∧
  (∀ (s : State) (r : Radio) (cfo : Int) (x : Reception), (s.dev.phy.get r).rcp = some x → (s.dev.phy.get r).rx = .preamble → x.dsss = false → x.cfo = none →
    Becomes (.afcFreeze r cfo) s (s.dev.onMedium r (fun _ => if 6000 < cfo.natAbs then ((s.dev.at_ (x.start + usT 16)).rxListen r).count (A.PHY.CFO_REJECT_CNT r) else (s.dev.at_ (x.start + usT 16)).rxSet r .preamble { x with cfo := some cfo }))) ∧
  (∀ (s : State) (r : Radio) (g : SigInfo) (recs : List GuardRec) (lna vga : Nat) (x : Reception), (s.dev.phy.get r).rcp = some x → (s.dev.phy.get r).rx = .preamble → x.dsss = false →
    Becomes (.lSigResult r false g recs lna vga) s (s.dev.onMedium r (fun _ => (s.dev.at_ (x.start + usT 20)).guardAbort r recs lna vga))) ∧
  (∀ (s : State) (r : Radio) (g : SigInfo) (recs : List GuardRec) (lna vga : Nat) (x y : Reception), (s.dev.phy.get r).rcp = some x → (s.dev.phy.get r).rx = .preamble → x.dsss = false → y = x.sig g (x.start + usT (20 + g.durUs)) →
    Becomes (.lSigResult r true g recs lna vga) s (s.dev.onMedium r (fun _ => if s.dev.rxSupported r g then (s.dev.at_ (x.start + usT 20)).rxSet r .body y else (((s.dev.at_ (x.start + usT 20)).rxSet r .body y).rxSet r .hold { y with holdEnd := 3 }).count (A.PHY.UNSUPP_CNT r)))) ∧
  (∀ (s : State) (r : Radio) (ok short : Bool) (rate durUs : Nat) (cfo : Int) (x : Reception) (t : Nat), (s.dev.phy.get r).rcp = some x → (s.dev.phy.get r).rx = .preamble → x.dsss = true → t = x.start + usT (if short then 96 else 192) →
    Becomes (.dsssHeaderResult r ok short rate durUs cfo) s (s.dev.onMedium r (fun _ => if ok then (s.dev.at_ t).rxSet r .body { x.sig { durUs := durUs, fmt := 0, bw := 0, nss := 0, mcs := rate % 4, gi := 3, color := 0, users := 0 } (t + usT durUs) with cfo := some cfo } else ((s.dev.at_ t).count (A.PHY.FALSESTART_CNT r)).rxListen r))) ∧
  (∀ (s : State) (r : Radio) (x : Reception), (s.dev.phy.get r).rcp = some x → (s.dev.phy.get r).rx = .body → x.dsss = false →
    Becomes (.sigFail r) s (s.dev.onMedium r (fun _ => (s.dev.rxSet r .hold { x with holdEnd := 2, bw := 0, nss := 0, mcs := 0, gi := 0, color := 0 }).count (A.PHY.SIG_FAIL_CNT r)))) ∧
  (∀ (s : State) (r : Radio) (start : Nat) (power : Int) (lna vga : Nat) (u : RxRep × List RxMpdu) (us : List (RxRep × List RxMpdu)) (x : Reception) (k : Nat), (s.dev.phy.get r).rcp = some x → (s.dev.phy.get r).rx = .body ∧ k = 1 ∨ (s.dev.phy.get r).rx = .hold ∧ k = x.holdEnd → x.dsss = false → bitOf (s.dev.phy.get r).cfg.ovt 0 = true → x.ref + (bitsOf (s.dev.phy.get r).cfg.ovt 12 8 : Nat) ≤ power → (s.dev.mac.get r).wait = none →
    Becomes (.overtake r start power lna vga u us) s (s.dev.onMedium r (fun _ => let g := (s.dev.phy.get r).cfg.gain ((s.dev.phy.get r).cfg.bypassed power) lna vga
      let d := (((s.dev.at_ (start + 400)).onPhy r (fun p => { p with lastEnd := some k })).count (A.PHY.OVT_CNT r)).rxSet r .preamble (Reception.new start power g.1 g.2.1 g.2.2 false false)
      d.macRx r ((u :: us).map (fun y => (s.dev.rxReport r x y.1 k d.tb, if k = 1 then y.2.filter (fun j => j.fcs) else []))) false))) ∧
  (∀ (s : State) (r : Radio) (start : Nat) (power : Int) (lna vga : Nat) (u : RxRep × List RxMpdu) (us : List (RxRep × List RxMpdu)) (x : Reception), (s.dev.phy.get r).rcp = some x → (s.dev.phy.get r).rx = .body ∨ (s.dev.phy.get r).rx = .hold → x.dsss = false → bitOf (s.dev.phy.get r).cfg.ovt 0 = true → x.ref + (bitsOf (s.dev.phy.get r).cfg.ovt 12 8 : Nat) ≤ power → (s.dev.mac.get r).wait.isSome = true →
    Becomes (.overtake r start power lna vga u us) s (s.dev.onMedium r (fun _ => (s.dev.at_ (start + 400)).count (A.PHY.OVT_SUPPR_CNT r)))) ∧
  (∀ (s : State) (r : Radio) (rssi : Int) (x : Reception), (s.dev.phy.get r).rcp = some x → (s.dev.phy.get r).rx = .body → bitOf (s.dev.phy.get r).cfg.obss 0 = true → 4 ≤ x.fmt → x.color ≠ 0 → (∀ b ∈ (s.dev.mac.get r).bss, b.2.enable = true → b.2.color ≠ x.color) → rssi < sbyte (s.dev.phy.get r).cfg.obss 8 →
    Becomes (.obssPd r rssi) s (s.dev.onMedium r (fun _ => (((s.dev.at_ (x.start + usT 32)).onMac r (fun m => { m with obss := some (sbyte (s.dev.phy.get r).cfg.obss 8, x.bodyEnd) })).rxListen r).count (A.PHY.OBSS_PD_CNT r)))) ∧
  (∀ (s : State) (r : Radio) (sub : Nat) (power : Int), (s.dev.phy.get r).rx ≠ .off → sub < 2 ^ chanWidth (s.dev.rfe.get r).tuned →
    Becomes (.edBusyChange r sub power) s (s.dev.onPhy r (fun p => { p with ed := if p.ed.testBit sub = decide (sbyte (s.dev.phy.get r).cfg.cca 0 ≤ power) then p.ed else if sbyte (s.dev.phy.get r).cfg.cca 0 ≤ power then p.ed + 2 ^ sub else p.ed - 2 ^ sub }))) ∧
  (∀ (s : State) (r : Radio) (sub durUs : Nat) (power : Int), (s.dev.phy.get r).rx ≠ .off → sub < 2 ^ chanWidth (s.dev.rfe.get r).tuned → sub ≠ primIdx r (s.dev.rfe.get r).tuned → sbyte (s.dev.phy.get r).cfg.cca 8 ≤ power →
    Becomes (.secondaryPdDetect r sub power durUs) s (s.dev.onPhy r (fun p => { p with pdSec := p.pdSec.filter (fun e => decide (s.dev.tb < e.2)) ++ [(sub, s.dev.tb + usT durUs)] }))) ∧
  (∀ (s : State) (r : Radio) (us : List (RxRep × List RxMpdu)) (x : Reception) (d : Dev), (s.dev.phy.get r).cuts = [] → (s.dev.phy.get r).rcp = some x → (s.dev.phy.get r).rx = .body → d = (s.dev.at_ (x.ends r)).rxFinish r 0 →
    Becomes (.rxPpduEnd r us) s (s.dev.onMedium r (fun _ => d.macRx r (us.map (fun u => (s.dev.rxReport r x u.1 0 d.tb, u.2))) true))) ∧
  (∀ (s : State) (r : Radio) (us : List (RxRep × List RxMpdu)) (c : Cut) (cs : List Cut) (d : Dev), (s.dev.phy.get r).cuts = c :: cs → c.rcp.holdEnd = 0 → d = s.dev.onPhy r (fun p => { p with cuts := cs }) →
    Becomes (.rxPpduEnd r us) s (s.dev.onMedium r (fun _ => d.macRx r (us.map (fun u => (d.rxReport r c.rcp u.1 c.code c.at_, u.2.filter (fun m => m.fcs)))) false))) ∧
  (∀ (s : State) (r : Radio) (m : RxRep) (x : Reception) (d : Dev), (s.dev.phy.get r).cuts = [] → (s.dev.phy.get r).rcp = some x → (s.dev.phy.get r).rx = .hold → d = (s.dev.at_ (x.ends r)).rxFinish r x.holdEnd →
    Becomes (.holdEnd r m) s (s.dev.onMedium r (fun _ => d.macRx r [(s.dev.rxReport r x m x.holdEnd d.tb, [])] true))) ∧
  (∀ (s : State) (r : Radio) (m : RxRep) (c : Cut) (cs : List Cut) (d : Dev), (s.dev.phy.get r).cuts = c :: cs → c.rcp.holdEnd ≠ 0 → d = s.dev.onPhy r (fun p => { p with cuts := cs }) →
    Becomes (.holdEnd r m) s (s.dev.onMedium r (fun _ => d.macRx r [(d.rxReport r c.rcp m c.code c.at_, [])] false))) ∧
  (∀ (s : State) (sub width : Nat) (power : Int), bitOf s.dev.phy.b.cfg.radar 0 = true → s.dev.phy.b.rx ≠ .off → sbyte s.dev.phy.b.cfg.radar 8 ≤ power → s.dev.phy.b.radar.length < 64 →
    Becomes (.radarPulse sub power width) s ((s.dev.onPhy .b (fun p => { p with radar := p.radar ++ [{ tb := s.dev.tb % 2 ^ 32, subch := sub % 16, power := power, width := min 65535 width }] })).follow (.phy .b) Cause.PHY.RADAR_PULSE true)) ∧
  (∀ (s : State) (sub width : Nat) (power : Int), bitOf s.dev.phy.b.cfg.radar 0 = true → s.dev.phy.b.rx ≠ .off → sbyte s.dev.phy.b.cfg.radar 8 ≤ power → 64 ≤ s.dev.phy.b.radar.length →
    Becomes (.radarPulse sub power width) s (s.dev.count (A.PHY.RADAR_OVF_CNT .b))) ∧
  (∀ (s : State) (rq : Rq), s.dev.takes rq OP.READ 0 1 = true → refuse ((s.dev.event 0).readCodes 0x240 0x084) = RC.OK →
    Performs (.radarFifo1Read rq) s rq OP.READ [(s.dev.asked (.phy .b)).readValue 0x240 0x084] (.phy .b) (fun d => d.radarPop)) ∧
  (∀ (s : State) (r : Radio) (w : TxWait), (s.dev.rfe.get r).wait = some w → w.forPrecoder = true →
    Becomes (.precoderReady r) s (s.dev.onMedium r (fun _ => (s.dev.onRfe r (fun f => { f with wait := some { w with forPrecoder := false } })).radioNext r)))

/-- The end of a transmission, backoff, TXOP continuation, SIFS responses and their timeout, TBTT, TWT service periods, host
transmit and receive rings, MAC address and link commands, quiescing and the hole timeout have the effect their rules give. Each
clause gives the conditions on the state and the operands, and the whole next state: the device it names with the reply on its
way, every other part as before. -/
def Obligations.WirelessEventsComplete : Prop :=
  (∀ (s : State) (r : Radio) (detect : List Int) (x : TxPpdu) (e : Dev), (s.dev.phy.get r).tx = some x → e = ((s.dev.at_ x.stop).txEnd r 0 detect x).afterTx r x → x.vec.kind = .beacon →
    Becomes (.txPpduEnd r detect) s (s.dev.onMedium r (fun _ => s.dev.withLinks (fun _ => ((e.bcnSent r x.vec.bss).cwGood r 4).txopNext r)))) ∧
  (∀ (s : State) (r : Radio) (detect : List Int) (x : TxPpdu) (e : Dev), (s.dev.phy.get r).tx = some x → e = ((s.dev.at_ x.stop).txEnd r 0 detect x).afterTx r x → x.vec.kind = .response →
    Becomes (.txPpduEnd r detect) s (s.dev.onMedium r (fun _ => s.dev.withLinks (fun _ => x.vec.targets.foldl (fun d y => d.exchEnd y.1) e)))) ∧
  (∀ (s : State) (r : Radio) (detect : List Int) (x : TxPpdu) (e : Dev), (s.dev.phy.get r).tx = some x → e = ((s.dev.at_ x.stop).txEnd r 0 detect x).afterTx r x → x.vec.kind = .cfEnd →
    Becomes (.txPpduEnd r detect) s (s.dev.onMedium r (fun _ => s.dev.withLinks (fun _ => e.onMac r (fun m => { m with ownNav := e.tb }))))) ∧
  (∀ (s : State) (r : Radio) (detect : List Int) (x : TxPpdu) (e : Dev), (s.dev.phy.get r).tx = some x → e = ((s.dev.at_ x.stop).txEnd r 0 detect x).afterTx r x → x.vec.kind = .ctsSelf →
    Becomes (.txPpduEnd r detect) s (s.dev.onMedium r (fun _ => s.dev.withLinks (fun _ => e)))) ∧
  (∀ (s : State) (r : Radio) (detect : List Int) (x : TxPpdu) (e : Dev), (s.dev.phy.get r).tx = some x → e = ((s.dev.at_ x.stop).txEnd r 0 detect x).afterTx r x → ¬ (x.vec.kind = .beacon ∨ x.vec.kind = .response ∨ x.vec.kind = .ctsSelf ∨ x.vec.kind = .cfEnd) → x.vec.solicits = true →
    Becomes (.txPpduEnd r detect) s (s.dev.onMedium r (fun _ => s.dev.withLinks (fun _ => e.onMac r (fun m => { m with
        wait := some { until_ := x.stop + sigExt r x.vec.fmt + usT (e.fld (A.MAC.RESP_CFG r) 7 0), from_ := x.vec.targets.map (fun y => y.1),
                       trig := decide (x.vec.kind = .trigger ∨ x.vec.kind = .sounding ∨ (x.vec.kind = .heat ∧ x.fids = []))
                         || decide (1 < x.vec.targets.length ∧ x.vec.kind ≠ .rts),
                       ac := x.vec.ac, fids := match (e.mac.get r).txop with
                         | some t => if t.pend = [] then x.fids else t.pend
                         | none => x.fids, vec := x.vec },
        txop := m.txop.map (fun t => { t with pend := [], pendFrom := [] }) }))))) ∧
  (∀ (s : State) (r : Radio) (detect : List Int) (x : TxPpdu) (e : Dev), (s.dev.phy.get r).tx = some x → e = ((s.dev.at_ x.stop).txEnd r 0 detect x).afterTx r x → ¬ (x.vec.kind = .beacon ∨ x.vec.kind = .response ∨ x.vec.kind = .ctsSelf ∨ x.vec.kind = .cfEnd) → x.vec.solicits = false → x.vec.ofdma = true → x.fids ≠ [] →
    Becomes (.txPpduEnd r detect) s (s.dev.onMedium r (fun _ => s.dev.withLinks (fun _ => e.onMac r (fun m => { m with txop := m.txop.map (fun t => { t with pend := x.fids, pendFrom := x.vec.targets }) }))))) ∧
  (∀ (s : State) (r : Radio) (detect : List Int) (x : TxPpdu) (e : Dev), (s.dev.phy.get r).tx = some x → e = ((s.dev.at_ x.stop).txEnd r 0 detect x).afterTx r x → ¬ (x.vec.kind = .beacon ∨ x.vec.kind = .response ∨ x.vec.kind = .ctsSelf ∨ x.vec.kind = .cfEnd) → x.vec.solicits = false → x.vec.ofdma = false ∨ x.fids = [] →
    Becomes (.txPpduEnd r detect) s (s.dev.onMedium r (fun _ => s.dev.withLinks (fun _ => ((((e.allSent x.fids).charged r x.vec).cwGood r x.vec.ac).groupDone r).txopNext r)))) ∧
  (∀ (s : State) (r : Radio) (acs : List Nat) (x : TxStart) (t ac lim go exch by_ : Nat) (ts up : List Nat) (e d1 d2 d3 : Dev) (f : Filled), acs.map (fun a => s.dev.expiry r a) = t :: ts → e = (if x.sync then s.dev else s.dev.at_ (ts.foldl min t)) → up = (if x.sync then acs else acs.filter (fun a => decide (e.expiry r a ≤ e.tb))) → [4, 3, 2, 0, 1].find? (fun a => up.contains a) = some ac → e.macIdle r = true → e.mediumIdle r = true → (e.mac.get r).txop = none → (x.pick = .beacon ↔ ac = 4) → e.rtwtFirst r x.pick = true → (x.sync = true → e.syncOk r = true) → e.nstrHolds r x.sync = false → lim = (if ac = 4 then 0 else 32 * e.fld (acReg r ac) 31 16) → go = e.tb + e.wayToTx r → (e.fill r { x with vec := { x.vec with ac := ac } } true 0).2 = some f → exch = e.exchTicks r f.vec → by_ = e.endBy r e.tb (f.vec.targets.map (fun y => y.1)) (go + if lim = 0 then exch else usT lim) → go + exch ≤ by_ → e.needsRts r f false = false → (x.pick = .sounding ↔ lim ≠ 0 ∧ e.toSound r ≠ [] ∧ go + e.soundTicks r (e.toSound r) ≤ e.endBy r e.tb (e.toSound r) (go + usT lim)) → d1 = ((if x.sync then [] else up.filter (fun a => decide (a ≠ ac))).foldl (fun d a => d.cwFail r a) (f.dev.onMac r (fun m => { m with
      txop := some { ac := ac, until_ := by_, bw := f.vec.bw, start := e.tb, limit := e.obssLimit r, single := decide (lim = 0), done := decide (x.pick ≠ .sounding ∧ f.vec.kind ≠ .rts), prot := false, pend := [], pendFrom := [] },
      eifs := false, backoff := tabDel m.backoff ac }))).allocUse r x.pick true → d2 = (if (e.obssLimit r).isSome then d1.count (A.MAC.OBSS_PWR_CNT r) else d1) → d3 = d2.send r { f with dev := d2 } x.ready →
    Becomes (.backoffExpiry r acs x) s (s.dev.onMedium r (fun _ => if d3.noStart r then d3.txopFinish r else d3.accessDelay r (e.readyTimes f r)))) ∧
  (∀ (s : State) (r : Radio) (x : TxStart) (t : Txop), (s.dev.mac.get r).txop = some t → s.dev.macFree r = true → x.pick = .endTxop ∨ s.dev.macIdle r = false ∨ (s.dev.mac.get r).airEnd + sifs r - s.dev.intoTx r true < s.dev.tb →
    Becomes (.txopNextPpdu r x) s (s.dev.onMedium r (fun _ => s.dev.txopFinish r))) ∧
  (∀ (s : State) (r : Radio) (x : TxStart) (t : Txop) (due end_ by_ : Nat) (e d1 d2 : Dev) (f : Filled), (s.dev.mac.get r).txop = some t → s.dev.macFree r = true → s.dev.macIdle r = true → due = (s.dev.mac.get r).airEnd + sifs r - s.dev.intoTx r true → s.dev.tb ≤ due → x.pick ≠ .endTxop → x.pick ≠ .beacon → (t.single = true → t.done = true → x.pick = .muBar) → s.dev.rtwtFirst r x.pick = true → s.dev.nstrHolds r x.sync = false → e = s.dev.at_ due → (e.fill r { x with vec := { x.vec with ac := t.ac } } false t.bw).2 = some f → end_ = e.tb + e.wayToTx r + e.exchTicks r f.vec → by_ = e.endBy r t.start (f.vec.targets.map (fun y => y.1)) (if t.single then end_ else t.until_) → end_ ≤ by_ → e.needsRts r f t.prot = false → d1 = (f.dev.allocUse r x.pick false).onMac r (fun m => { m with txop := some { t with done := t.done || decide (x.pick ≠ .sounding ∧ f.vec.kind ≠ .rts), until_ := by_ } }) → d2 = d1.send r { f with dev := d1 } x.ready →
    Becomes (.txopNextPpdu r x) s (s.dev.onMedium r (fun _ => if d2.noStart r then d2.txopFinish r else d2))) ∧
  (∀ (s : State) (r : Radio) (durUs : Nat) (x : RespDue), (s.dev.mac.get r).due = some x → x.ok = false →
    Becomes (.sifsResponse r durUs) s (s.dev.onMedium r (fun _ => s.dev.withLinks (fun d => ((d.at_ (x.due - d.intoTx r true)).onMac r (fun m => { m with due := none })).count (A.MAC.RESP_SKIP_CNT r))))) ∧
  (∀ (s : State) (r : Radio) (durUs : Nat) (x : RespDue) (d0 d1 : Dev) (v : TxVec) (start : Nat) (cut : List (Nat × Nat)), (s.dev.mac.get r).due = some x → x.ok = true → d0 = (s.dev.at_ (x.due - s.dev.intoTx r true)).onMac r (fun m => { m with due := none }) → v = d0.respVec r x durUs → (d0.rfe.get r).locked = true → (d0.rfe.get r).cur = .receive → start = max x.due (d0.tb + d0.intoTx r true) → (∀ t, d0.nextHeat r = some t → start + usT durUs ≤ t) → (d0.phy.get r).tx = none → d1 = d0.rxAbort r → d1.txvOk r v = true → d1.rglStart r v.bw v.punct (d1.enabled r) v.request (d1.onTicks r durUs) = .go cut →
    Becomes (.sifsResponse r durUs) s (s.dev.onMedium r (fun _ => s.dev.withLinks (fun _ => ((d1.airStart r v [] (d1.enabled r) v.request cut false 0 start).count (A.MAC.RESP_TX_CNT r)).emit (.resp r x))))) ∧
  (∀ (s : State) (r : Radio) (w : RespWait), (s.dev.mac.get r).wait = some w → ¬ ((s.dev.phy.get r).rx = .preamble ∨ (s.dev.phy.get r).rx = .body ∨ (s.dev.phy.get r).rx = .hold) →
    Becomes (.responseTimeout r) s (s.dev.onMedium r (fun _ => (((s.dev.at_ w.until_).onMac r (fun m => { m with wait := none })).count (A.MAC.RESP_TIMEOUT_CNT r)).attemptFailed r w.vec w.fids))) ∧
  (∀ (s : State) (r : Radio) (i : Nat) (b : Bss) (d d1 d2 : Dev) (t : Template) (k : Nat), tabFind (s.dev.mac.get r).bss i = some b → b.enable = true →
    b.nonTx = false → d = s.dev.at_ (s.dev.tbttTick r i b) →
    d1 = (if (d.mac.get r).bcnQueue.any (fun e => decide (e.2 = i)) then d.bcnMiss r i else d) →
    t = ((tabFind (d1.mac.get r).tmpl i).getD Template.empty).apply → k = tabGet 0 (d1.mac.get r).dtimCount i →
    d2 = d1.onMac r (fun m => { m with tmpl := tabPut m.tmpl i t, dtimCount := tabSet 0 m.dtimCount i (if k = 0 then b.dtim - 1 else k - 1) }) →
    (if d2.isMeshBss r i then d2.msh.beacons = true else t.cur ≠ []) →
    Becomes (.tbtt r i) s ((d2.onMac r (fun m => { m with
      bcnQueue := bcnInsert (d2.tb, i) m.bcnQueue,
      bcnBusy := if d1.bcnBlocked r then i :: m.bcnBusy.filter (fun k => decide (k ≠ i)) else m.bcnBusy.filter (fun k => decide (k ≠ i)) })).twtCut r)) ∧
  (∀ (s : State) (r : Radio) (i : Nat) (b : Bss), tabFind (s.dev.mac.get r).bss i = some b → (b.enable = false ∨ b.nonTx = true) →
    Becomes (.tbtt r i) s s.dev) ∧
  (∀ (s : State) (r : Radio) (id : Nat) (x : Twt) (d e : Dev), tabFind (s.dev.mac.get r).twt id = some x → x.sp = none → d = s.dev.at_ (s.dev.usAhead (s.dev.twtWait r x)) → e = d.onMac r (fun m => { m with twt := tabPut m.twt id { x with sp := some (d.tb + usT x.durUs), cut := false } }) →
    Becomes (.twtSpStart r id) s (if (e.asc.radios.get r).heatRun.isSome || (e.rfe.get r).quiet.isSome then e.twtCut r else e)) ∧
  (∀ (s : State) (r : Radio) (id t : Nat) (x : Twt), tabFind (s.dev.mac.get r).twt id = some x → x.sp = some t →
    Becomes (.twtSpEnd r id) s ((s.dev.at_ t).onMac r (fun m => { m with twt := tabPut m.twt id { x with sp := none, cut := false } }))) ∧
  (∀ (s : State) (rq : Rq) (r : Radio) (ws : List Word) (id k : Nat) (x : Twt) (leave : Bool) (d : Dev), d = s.dev.asked (.mac r) →
    s.dev.takes rq OP.COMMAND ws.length 0 = true → s.dev.serves (.mac r) = true → ws.length = 2 → id = bitsOf (word ws 0) 7 0 →
    k = bitsOf (word ws 1) 10 0 → leave = bitOf (word ws 1) 31 → tabFind (d.mac.get r).twt id = some x → extra (word ws 0) 0xFF = false →
    extra (word ws 1) 0x800007FF = false → x.typ ≠ 0 → (leave = false → (d.station k).isSome = true) →
    (leave = false → k ∉ x.members → d.twtCount r k < 4) →
    Performs (.twtJoin rq r ws) s rq OP.COMMAND [] (.mac r) (fun d => (d.onMac r (fun m => { m with twt := tabPut m.twt id { x with
      members := if leave then x.members.filter (fun j => decide (j ≠ k)) else x.members.filter (fun j => decide (j ≠ k)) ++ [k] } })).twtRecord r k)) ∧
  (∀ (s : State) (n : Nat) (ws : List Word) (h : Hdr) (d : Dev) (e : Entry), s.dev.takesData n = true → d = s.dev.tookData n →
    e = d.txEntry n (typed 0x10 ws) h → d.txCheck (typed 0x10 ws) e = RC.OK → d.ready .tmg = true → d.hostAdmits (d.hostQueue e.wl) e = true →
    Becomes (.txRequest n ws h) s ((d.nextFid.submitted n e.fid).admitted (d.hostQueue e.wl) e)) ∧
  (∀ (s : State) (n : Nat) (ws : List Word) (h : Hdr) (d : Dev) (e : Entry), s.dev.takesData n = true → d = s.dev.tookData n →
    e = d.txEntry n (typed 0x10 ws) h → d.txCheck (typed 0x10 ws) e ≠ RC.OK →
    Becomes (.txRequest n ws h) s ((d.nextFid.submitted n e.fid).txComplete e (d.txCheck (typed 0x10 ws) e))) ∧
  (∀ (s : State) (n : Nat) (ws : List Word) (d : Dev), s.dev.takesData n = true → d = s.dev.tookData n →
    Becomes (.rxBufferPost n ws) s ((d.nextFid.submitted n d.tmg.nextFid).onMac (Radio.ofNum (Config.ringRadio n % 3)) (fun m => { m with rxBufs := m.rxBufs ++
      [{ ring := n, cookie := word (typed 0x20 ws) 1, size := bitsOf (word (typed 0x20 ws) 0) 31 16, buf := pair (typed 0x20 ws) 2, sid := d.tmg.nextFid }] }))) ∧
  (∀ (s : State) (rq : Rq) (r : Radio) (hi : Bool) (v : Word), s.dev.accepts rq (if hi then A.MAC.ADDR_HI r else A.MAC.ADDR_LO r) (v) (.mac r) = true →
    Performs (.macAddrWrite rq r hi v) s rq OP.WRITE [] (.mac r) (fun d => d.stored (.mac r) (if hi then A.MAC.ADDR_HI r else A.MAC.ADDR_LO r) v)) ∧
  (∀ (s : State) (rq : Rq) (v : Word), s.dev.accepts rq (A.MLD.LINK_CTRL) (v) .mld = true →
    Performs (.linkCtrlWrite rq v) s rq OP.WRITE [] .mld (fun d => d.withLinks (fun d => d.stored .mld A.MLD.LINK_CTRL v))) ∧
  (∀ (s : State) (r : Radio), s.dev.mld.quiesce.get r = true → s.dev.mld.quiesced.get r = false → s.dev.radioQuiet r = true →
    Becomes (.quiesceDone r) s (((s.dev.onMld (fun m => { m with quiesced := m.quiesced.set r true })).count A.MLD.QUIESCE_CNT).bstQuiesced r)) ∧
  (∀ (s : State) (sta tid due n : Nat) (d : Dev), s.dev.holeDue sta tid = some due → (s.dev.at_ due).rxPass sta tid false ((s.dev.at_ due).staTid sta tid).toHeld = (n, d) →
    Becomes (.reorderHoleTimeout sta tid) s ((d.countN A.MLD.HOLE_TIMEOUT_CNT n).rxRun sta tid 4096))

/-- KEY_SET, KEY_CLEAR, KEY_PN, BSS_SET, BEACON_SET, TWT_SET, AP_MLD_SET, STA_SET, STA_DEL and BA_SET complete for operands in
range, with the table entry each writes, removes or reads. Each clause gives the conditions on the state and the operands, and
the whole next state: the device it names with the reply on its way, every other part as before. -/
def Obligations.MacAndMldCommandsComplete : Prop :=
  (∀ (σ : State) (rq : Rq) (r : Radio) (ws : List Word), σ.dev.serves (.mac r) = true →
    let w := word ws 0
    let k := bitsOf w 11 0
    let c := bitsOf w 19 16
    let bad := extra w 0x030F0FFF || decide (0x83F < k) || outside c 1 8 || extra (word ws 2) 0xFFFF || extra (word ws 4) 0xFFFF
      || (ws.drop (5 + keyWords c)).any (fun v => decide (v ≠ 0))
    σ.dev.takes rq OP.COMMAND ws.length 0 = true →
    ¬ (ws.length ≠ 13) →
    bad = false →
    Performs (.keySet rq r ws) σ rq OP.COMMAND [] (.mac r) (fun d =>
      let w := word ws 0
      let k := bitsOf w 11 0
      let c := bitsOf w 19 16
      let x : KeySlot := { cipher := c, txEn := bitOf w 24, rxEn := bitOf w 25, key := ws.drop 5, txPn := macAt ws 1,
                           rxPn := List.replicate 9 (macAt ws 3) }
      d.keyPut k x)) ∧
  (∀ (σ : State) (rq : Rq) (r : Radio) (ws : List Word), σ.dev.serves (.mac r) = true →
    let w := word ws 0
    σ.dev.takes rq OP.COMMAND ws.length 0 = true →
    ¬ (ws.length ≠ 1) →
    ¬ (0x83F < w.toNat) →
    Performs (.keyClear rq r ws) σ rq OP.COMMAND [] (.mac r) (fun d =>
      let w := word ws 0
      d.onMld (fun m => { m with keys := tabDel m.keys w.toNat }))) ∧
  (∀ (σ : State) (rq : Rq) (r : Radio) (ws : List Word), σ.dev.serves (.mac r) = true →
    let d := σ.dev.asked (.mac r)
    let w := word ws 0
    let pns := match d.keySlot w.toNat with
      | some x => x.txPn :: (List.range 9).map (fun t => x.rxPn.getD t 0)
      | none => List.replicate 10 0
    σ.dev.takes rq OP.COMMAND ws.length 20 = true →
    ¬ (ws.length ≠ 1) →
    ¬ (0x83F < w.toNat) →
    Performs (.keyPn rq r ws) σ rq OP.COMMAND ((pns.map (fun p => [wd p, wd (p / 2 ^ 32)])).flatten) (.mac r) (fun d => d)) ∧
  (∀ (σ : State) (rq : Rq) (r : Radio) (ws : List Word), σ.dev.serves (.mac r) = true →
    let d := σ.dev.asked (.mac r)
    let b := bssOf ws
    let tx : Bool := match tabFind (d.mac.get r).bss b.txIndex with
      | some x => x.txBssid
      | none => false
    let rateOk := decide (b.bcnRate ≤ 7) || (decide (r = .a) && !outside b.bcnRate 0x10 0x13)
    let bad := extra (word ws 0) 0x00FF0FFF || decide (b.dtim = 0) || extra (word ws 2) 0xFFFF || outside b.intervalTu 16 1000
      || decide (b.intervalTu ≤ b.offsetTu) || extra (word ws 4) 0x01FF0FFF || (decide (r ≠ .a) && decide (b.basic % 16 ≠ 0))
      || !rateOk || extra (word ws 6) 0x003FFFFF || !((b.gtk.take 2).all (d.groupKeyOk false)) || !((b.gtk.drop 2).all (d.groupKeyOk true))
      || !(b.bigtk.all (d.groupKeyOk true)) || (b.nonTx && !tx)
    σ.dev.takes rq OP.COMMAND ws.length 0 = true →
    ¬ (ws.length ≠ 7) →
    bad = false →
    Performs (.bssSet rq r ws) σ rq OP.COMMAND [] (.mac r) (fun d =>
      let b := bssOf ws
      d.bssPut r (bitsOf (word ws 0) 3 0) b)) ∧
  (∀ (σ : State) (rq : Rq) (r : Radio) (ws : List Word), σ.dev.serves (.mac r) = true →
    let w := word ws 0
    let c := bitsOf w 15 8
    let total := bitsOf w 31 16
    let tim := bitsOf (word ws 1) 15 0
    let n := min 1016 (total - 1016 * c)
    let bad := extra w 0xFFFFFF0F || extra (word ws 1) 0xFFFF || outside total 1 2048 || decide (total ≤ 1016 * c)
      || decide (total ≤ tim)
    σ.dev.takes rq OP.COMMAND ws.length 0 = true →
    ¬ (ws.length < 2 ∨ (!bad ∧ ws.length ≠ 2 + ceilDiv n 4)) →
    bad = false →
    Performs (.beaconSet rq r ws) σ rq OP.COMMAND [] (.mac r) (fun d =>
      let w := word ws 0
      let i := bitsOf w 3 0
      let c := bitsOf w 15 8
      let total := bitsOf w 31 16
      let tim := bitsOf (word ws 1) 15 0
      let n := min 1016 (total - 1016 * c)
      let t := (tabFind (d.mac.get r).tmpl i).getD Template.empty
      let fresh := t.complete || decide (t.nextLen ≠ total)
      let next := tabPut (if fresh then [] else t.next) c ((wordsBytes (ws.drop 2)).take n)
      let whole := (List.range (ceilDiv total 1016)).all (fun k => (tabFind next k).isSome)
      let t1 : Template := { t with next := next, nextLen := total, nextTim := tim, complete := whole }
      d.onMac r (fun m => { m with tmpl := tabPut m.tmpl i t1 }))) ∧
  (∀ (σ : State) (rq : Rq) (r : Radio) (ws : List Word), σ.dev.serves (.mac r) = true →
    let d := σ.dev.asked (.mac r)
    let w := word ws 0
    let id := bitsOf w 7 0
    let typ := bitsOf w 9 8
    let s := bitsOf w 26 16
    let old := tabFind (d.mac.get r).twt id
    let was := match old with
      | some x => x.members
      | none => []
    let dur := bitsOf (word ws 4) 15 0
    let iv := (word ws 3).toNat
    let on := bitOf w 31
    let bad := decide (typ = 3) || extra w 0x87FFF7FF || (on && (decide (iv < 1024) || decide (dur < 256) || decide (iv < dur)
      || extra (word ws 4) 0xFFFFFF || (decide (typ = 0) && (d.station s).isNone)))
    let full := on && decide (typ = 0) && !was.contains s && decide (4 ≤ d.twtCount r s)
    σ.dev.takes rq OP.COMMAND ws.length 0 = true →
    ¬ (ws.length ≠ 5) →
    bad = false →
    full = false →
    Performs (.twtSet rq r ws) σ rq OP.COMMAND [] (.mac r) (fun d =>
      let w := word ws 0
      let id := bitsOf w 7 0
      let typ := bitsOf w 9 8
      let s := bitsOf w 26 16
      let old := tabFind (d.mac.get r).twt id
      let was := match old with
        | some x => x.members
        | none => []
      let dur := bitsOf (word ws 4) 15 0
      let iv := (word ws 3).toNat
      let on := bitOf w 31
      let x : Twt := { typ := typ, trigger := bitOf w 10, bss := bitsOf w 15 12, sta := s, target := pair ws 1, intervalUs := iv,
                       durUs := dur, tids := bitsOf (word ws 4) 23 16, members := if typ = 0 then [s] else was, sp := none, cut := false }
      let d1 := if on then d.onMac r (fun m => { m with twt := tabPut m.twt id x }) else d.onMac r (fun m => { m with twt := tabDel m.twt id })
      d1.twtRecords r (was ++ (if on ∧ typ = 0 then [s] else [])))) ∧
  (∀ (σ : State) (rq : Rq) (ws : List Word), σ.dev.serves .mld = true →
    let d := σ.dev.asked .mld
    let w := word ws 0
    let i := bitsOf w 3 0
    let links := bitsOf w 6 4
    let on := bitOf w 7
    let rs := [Radio.a, .b, .c].filter (fun r => links.testBit r.num)
    let bss (r : Radio) : Nat := bitsOf w (11 + 4 * r.num) (8 + 4 * r.num)
    let lid (r : Radio) : Nat := bitsOf w (23 + 4 * r.num) (20 + 4 * r.num)
    let enabled (r : Radio) : Bool := match tabFind (d.mac.get r).bss (bss r) with
      | some b => b.enable
      | none => false
    let taken (r : Radio) : Bool := d.mld.apMlds.any (fun e => decide (e.1 ≠ i) && e.2.links.testBit r.num
      && decide (e.2.bss.get r = bss r))
    let bad := extra (word ws 2) 0xFFFF || decide (word ws 3 ≠ 0)
      || (on && (rs.any (fun r => !enabled r || taken r || decide (14 < lid r))
        || decide ((rs.map lid).eraseDups.length ≠ rs.length)))
    let used := !on && d.mld.stations.any (fun e => decide (e.2.apMld = i))
    σ.dev.takes rq OP.COMMAND ws.length 0 = true →
    ¬ (ws.length ≠ 4) →
    (on && rs.any (fun r => decide (d.chains r = 0))) = false →
    used = false →
    bad = false →
    Performs (.apMldSet rq ws) σ rq OP.COMMAND [] .mld (fun d =>
      let w := word ws 0
      let i := bitsOf w 3 0
      let links := bitsOf w 6 4
      let on := bitOf w 7
      let bss (r : Radio) : Nat := bitsOf w (11 + 4 * r.num) (8 + 4 * r.num)
      let lid (r : Radio) : Nat := bitsOf w (23 + 4 * r.num) (20 + 4 * r.num)
      let x : ApMld := { links := links, bss := ⟨bss .a, bss .b, bss .c⟩, linkId := ⟨lid .a, lid .b, lid .c⟩, addr := macAt ws 1 }
      d.onMld (fun m => { m with apMlds := if on then tabPut m.apMlds i x else tabDel m.apMlds i }))) ∧
  (∀ (σ : State) (rq : Rq) (ws : List Word), σ.dev.serves .mld = true →
    let d := σ.dev.asked .mld
    let w := word ws 0
    let s := bitsOf w 10 0
    let on := bitOf w 31
    let old := d.station s
    let x := staOf ws (match old with
      | some y => y.powerSave
      | none => false)
    let ap : Nat := match tabFind d.mld.apMlds x.apMld with
      | some a => a.links
      | none => 0
    let map := (List.range 8).any (fun t => decide (x.map / 2 ^ (3 * t) % 8 &&& x.links = 0))
    let moved : Bool := match old with
      | some y => on && decide (y.apMld ≠ x.apMld)
      | none => false
    let bad := decide (1023 < s) || extra w 0x803FF7FF || decide (bitsOf w 21 20 = 3) || extra (word ws 2) 0xFFFF
      || [4, 6, 8].any (fun i => extra (word ws i) 0xFFFF) || extra (word ws 9) 0xFFFFFF
      || (on && (decide (x.links = 0) || decide (x.links &&& ap ≠ x.links) || map || (!x.mld && decide (popNat 3 x.links ≠ 1))))
    let absent := on && [Radio.a, .b, .c].any (fun r => x.links.testBit r.num && decide (d.chains r = 0))
    σ.dev.takes rq OP.COMMAND ws.length 0 = true →
    ¬ (ws.length ≠ 10) →
    absent = false →
    moved = false →
    bad = false →
    Performs (.staSet rq ws) σ rq OP.COMMAND [] .mld (fun d =>
      let w := word ws 0
      let s := bitsOf w 10 0
      let on := bitOf w 31
      let old := d.station s
      let x := staOf ws (match old with
        | some y => y.powerSave
        | none => false)
      if on then d.staEnter s x
      else (d.onMld (fun m => { m with stations := tabDel m.stations s })).sramPut (0x80 * s) 1
        (d.sramGet (0x80 * s) 1 &&& 0xFE))) ∧
  (∀ (σ : State) (rq : Rq) (ws : List Word), σ.dev.serves .mld = true →
    let w := word ws 0
    σ.dev.takes rq OP.COMMAND ws.length 0 = true →
    ¬ (ws.length ≠ 1) →
    (extra w 0x7FF || decide (1023 < w.toNat)) = false →
    Performs (.staDel rq ws) σ rq OP.COMMAND [] .mld (fun d =>
      let w := word ws 0
      d.staDelete (bitsOf w 10 0))) ∧
  (∀ (σ : State) (rq : Rq) (ws : List Word), σ.dev.serves .mld = true →
    let d := σ.dev.asked .mld
    let w := word ws 0
    let s := bitsOf w 10 0
    let on := bitOf w 17
    let win := bitsOf (word ws 1) 10 0
    let bad := extra w 0x377FF || extra (word ws 1) 0x0FFF07FF || (d.station s).isNone || (on && outside win 1 1024)
    σ.dev.takes rq OP.COMMAND ws.length 0 = true →
    ¬ (ws.length ≠ 2) →
    bad = false →
    Performs (.baSet rq ws) σ rq OP.COMMAND [] .mld (fun d =>
      let w := word ws 0
      let s := bitsOf w 10 0
      let t := bitsOf w 14 12
      let on := bitOf w 17
      let win := bitsOf (word ws 1) 10 0
      let sn := bitsOf (word ws 1) 27 16
      let x := d.staTid s t
      let eff : Dev :=
        if !bitOf w 16 then
          if !on then d.setStaTid s t { x with txWin := none, bar := none }
          else if x.board = [] then d.setStaTid s t { x with txWin := some win, txStart := sn, nextSn := sn, bar := none }
          else d.setStaTid s t { x with txWin := some win }
        else
          let d1 := d.rxEmpty s t
          let y := d1.staTid s t
          d1.setStaTid s t { y with rxWin := if on then some win else none, rxStart := if on then sn else y.rxStart, seen := [],
                                    done := [], dup := none }
      eff))

/-- An idle round, a round and its submission or refusal, STA_POLICY, the Heat plan and its activation, ALLOC_GET and the round,
launch and end of a Heat have the effect their rules give. Each clause gives the conditions on the state and the operands, and
the whole next state: the device it names with the reply on its way, every other part as before. -/
def Obligations.SchedulerCommandsComplete : Prop :=
  (∀ (s : State) (r : Radio) (t dl : Nat) (d : Dev), t = s.dev.gridAt (max s.dev.tb (s.dev.asc.radios.get r).from_) → dl = s.dev.gridAt (t + 1) → d = ((s.dev.at_ t).deadlines).onAscRadio r (fun x => { x with from_ := t + 1 }) → d.ready .asc = true → d.ready .qar = true → d.avail r = true → (d.asc.radios.get r).inFlight = none → d.bit A.ASC.ROUND_CFG 8 = true → d.roundWork r = false →
    Becomes (.roundStart r) s (d.count A.ASC.IDLE_ROUND_CNT)) ∧
  (∀ (s : State) (r : Radio) (t dl : Nat) (d : Dev) (e g : Dev) (i c : Nat), t = s.dev.gridAt (max s.dev.tb (s.dev.asc.radios.get r).from_) → dl = s.dev.gridAt (t + 1) → d = ((s.dev.at_ t).deadlines).onAscRadio r (fun x => { x with from_ := t + 1 }) → d.ready .asc = true → d.ready .qar = true → d.avail r = true → (d.asc.radios.get r).inFlight = none → d.bit A.ASC.ROUND_CFG 8 = false ∨ d.roundWork r = true → e = (d.onAscRadio r (fun x => { x with round := (x.round + 1) % 65536 })).count (A.ASC.ROUND_CNT r.num) → { e with free := e.free + 4 }.qarSubmit (d.fld A.QAR.ASC_TPL 4 0) (d.fld A.ASC.PRIO (2 * r.num + 1) (2 * r.num)) dl (d.enableMask r) e.freeCtx 0 r.num = (g, some i, c) →
    Becomes (.roundStart r) s (g.onAscRadio r (fun x => { x with inFlight := some (i, dl, match (d.asc.radios.get r).good with
      | some a => 1 - a.buf
      | none => 0) }))) ∧
  (∀ (s : State) (r : Radio) (t dl : Nat) (d : Dev) (e g : Dev) (c : Nat), t = s.dev.gridAt (max s.dev.tb (s.dev.asc.radios.get r).from_) → dl = s.dev.gridAt (t + 1) → d = ((s.dev.at_ t).deadlines).onAscRadio r (fun x => { x with from_ := t + 1 }) → d.ready .asc = true → d.ready .qar = true → d.avail r = true → (d.asc.radios.get r).inFlight = none → d.bit A.ASC.ROUND_CFG 8 = false ∨ d.roundWork r = true → e = (d.onAscRadio r (fun x => { x with round := (x.round + 1) % 65536 })).count (A.ASC.ROUND_CNT r.num) → { e with free := e.free + 4 }.qarSubmit (d.fld A.QAR.ASC_TPL 4 0) (d.fld A.ASC.PRIO (2 * r.num + 1) (2 * r.num)) dl (d.enableMask r) e.freeCtx 0 r.num = (g, none, c) →
    Becomes (.roundStart r) s (g.roundMissed r)) ∧
  (∀ (σ : State) (rq : Rq) (ws : List Word), σ.dev.serves .asc = true →
    let d := σ.dev.asked .asc
    let w := word ws 0
    let s := bitsOf w 10 0
    let links := match d.station s with
      | some x => x.links
      | none => 0
    σ.dev.takes rq OP.COMMAND ws.length 0 = true →
    ¬ (ws.length ≠ 4) →
    (extra w 0x03FF37FF || decide (1024 ≤ s) || (d.station s).isNone || decide (bitsOf w 23 16 = 0)
         || (List.range 3).any (fun l => capsBad (word ws (1 + l)) || (bitOf (word ws (1 + l)) 0 && !links.testBit l))) = false →
    Performs (.staPolicy rq ws) σ rq OP.COMMAND [] .asc (fun d =>
      let w := word ws 0
      let s := bitsOf w 10 0
      let f := d.flagsOf s
      let f1 := putBits (putBits (putBits f 9 8 (bitsOf w 13 12)) 23 16 (bitsOf w 23 16)) 25 24 (bitsOf w 25 24)
      [Radio.a, .b, .c].foldl (fun d r => d.sramPut (linkRec s r) 4 (word ws (1 + r.num)).toNat) (d.sramPut (0x80 * s) 4 f1.toNat))) ∧
  (∀ (s : State) (rq : Rq) (ws : List Word) (d : Dev) (w : Word) (k len : Nat) (data : List Byte), d = s.dev.asked .asc →
    s.dev.takes rq OP.COMMAND ws.length 0 = true → s.dev.serves .asc = true → w = word ws 0 → k = bitsOf w 7 0 → len = bitsOf w 31 16 →
    data = ((wordsBytes (ws.drop 1)).take 1016).take (len - 1016 * k) → 2 ≤ ws.length → ws.length ≤ 255 → extra w 0xFFFF00FF = false →
    1016 * k < len → len ≤ 68 + 80 * 16 →
    (tabPut (if d.asc.planLen = len then d.asc.planChunks else []) k data).length < ceilDiv len 1016 →
    Performs (.heatPlan rq ws) s rq OP.COMMAND [] .asc (fun d =>
      d.onAsc (fun a => { a with planLen := len, planChunks := tabPut (if d.asc.planLen = len then d.asc.planChunks else []) k data }))) ∧
  (∀ (s : State) (rq : Rq) (ws : List Word) (d : Dev) (w : Word) (k len : Nat) (data bs : List Byte) (chunks : Tab (List Byte)), d = s.dev.asked .asc →
    s.dev.takes rq OP.COMMAND ws.length 0 = true → s.dev.serves .asc = true → w = word ws 0 → k = bitsOf w 7 0 → len = bitsOf w 31 16 →
    data = ((wordsBytes (ws.drop 1)).take 1016).take (len - 1016 * k) → 2 ≤ ws.length → ws.length ≤ 255 → extra w 0xFFFF00FF = false →
    1016 * k < len → len ≤ 68 + 80 * 16 → chunks = tabPut (if d.asc.planLen = len then d.asc.planChunks else []) k data →
    ceilDiv len 1016 ≤ chunks.length → bs = (chunks.map (fun e => e.2)).flatten → d.heatAdmit bs = RC.OK →
    Performs (.heatPlan rq ws) s rq OP.COMMAND [] .asc (fun d => (d.onAsc (fun a => { a with planLen := 0, planChunks := [] })).heatPending bs)) ∧
  (∀ (σ : State) (rq : Rq) (ws : List Word), σ.dev.serves .asc = true →
    σ.dev.takes rq OP.COMMAND ws.length 0 = true →
    ¬ (ws.length ≠ 1) →
    (extra (word ws 0) 3 || decide (bitsOf (word ws 0) 1 0 = 3)) = false →
    Performs (.heatClear rq ws) σ rq OP.COMMAND [] .asc (fun d =>
      d.heatClear (Radio.ofNum (bitsOf (word ws 0) 1 0)))) ∧
  (∀ (σ : State) (rq : Rq) (ws : List Word), σ.dev.serves .asc = true →
    let d := σ.dev.asked .asc
    let w := word ws 0
    let r := Radio.ofNum (bitsOf w 1 0)
    let a := d.newestAlloc r (bitOf w 2)
    let at_ := allocAt r (match a with
      | some x => x.buf
      | none => 0) + 1024 * bitsOf w 15 8
    σ.dev.takes rq OP.COMMAND ws.length 256 = true →
    ¬ (ws.length ≠ 1) →
    a.isNone = false →
    (extra w 0xFF07 || decide (bitsOf w 1 0 = 3 ∨ 4 < bitsOf w 15 8)) = false →
    Performs (.allocGet rq ws) σ rq OP.COMMAND ((List.range 256).map (fun i => d.sram32 (at_ + 4 * i))) .asc (fun d => d)) ∧
  (∀ (s : State) (r : Radio) (p : HeatPlan) (d : Dev), (s.dev.asc.radios.get r).pending = some p → s.dev.planHere r p = true → d = s.dev.at_ (s.dev.tickAt (s.dev.planStart p)) →
    Becomes (.heatPlanActivate r) s ((((d.sramPut (planAt r 0) 0x800 (d.sramGet (planAt r 1) 0x800)).sramPut (planAt r 1) 0x800 0).onAscRadio r (fun s => { s with
      plan := some p, pending := none, suspended := false, heatNext := if s.heatFor = some p then s.heatNext else none,
      heatGood := if s.heatFor = some p then s.heatGood else [], heatFor := some p })).suspendCheck)) ∧
  (∀ (s : State) (r : Radio) (p : HeatPlan) (lead per k startNs launch dur buf i c : Nat) (d d1 d2 : Dev), lead = s.dev.fld (A.ASC.HEAT_CFG r.num) 31 24 → per = s.dev.periodAt s.dev.tb → s.dev.heatAfter r (max (s.dev.ptpAt (s.dev.tb + usT (lead + per)) - 1) (match (s.dev.asc.radios.get r).heatNext with
      | some x => s.dev.ptpAt x.launch
      | none => 0)) = some (p, k, startNs) → launch = s.dev.tickAt startNs → dur = (match p.heats[k]? with
      | some x => x.durUs
      | none => 0) → d = (s.dev.at_ (launch - usT (lead + per))).deadlines → d.tmu.servo = .locked → d1 = (d.onAscRadio r (fun s => { s with heatNext := some { idx := k, launch := launch, end_ := launch + usT dur, un := false, sub := d.tb }, heatGood := if s.heatFor = some p then s.heatGood else [], heatFor := some p })).suspendAll false → d1.ready .asc = true → d1.ready .qar = true → d1.avail r = true → (d1.asc.radios.get r).heatFlight = none → buf = (match d1.newestAlloc r true with
      | some a => 5 - a.buf
      | none => 2) → { d1 with free := d1.free + 4 }.qarSubmit (d.fld A.QAR.ASC_TPL 12 8) (d.fld A.ASC.PRIO 7 6) (launch - usT lead) (d.enableMask r) d1.freeCtx 1 r.num = (d2, some i, c) →
    Becomes (.heatRoundSubmit r) s (d2.onAscRadio r (fun s => { s with heatFlight := some (i, launch - usT lead, buf, k), heatGood := s.heatGood.filter (fun e => decide (e.2.buf ≠ buf)) }))) ∧
  (∀ (s : State) (r : Radio) (p : HeatPlan) (lead per k startNs launch dur : Nat) (d : Dev), lead = s.dev.fld (A.ASC.HEAT_CFG r.num) 31 24 → per = s.dev.periodAt s.dev.tb → s.dev.heatAfter r (max (s.dev.ptpAt (s.dev.tb + usT (lead + per)) - 1) (match (s.dev.asc.radios.get r).heatNext with
      | some x => s.dev.ptpAt x.launch
      | none => 0)) = some (p, k, startNs) → launch = s.dev.tickAt startNs → dur = (match p.heats[k]? with
      | some x => x.durUs
      | none => 0) → d = (s.dev.at_ (launch - usT (lead + per))).deadlines → d.tmu.servo ≠ .locked →
    Becomes (.heatRoundSubmit r) s ((d.onAscRadio r (fun s => { s with heatNext := some { idx := k, launch := launch, end_ := launch + usT dur, un := true, sub := d.tb }, heatGood := if s.heatFor = some p then s.heatGood else [], heatFor := some p })).suspendAll true)) ∧
  (∀ (s : State) (r : Radio) (x : TxStart) (y : HeatNext), (s.dev.asc.radios.get r).heatNext = some y → y.un = true →
    Becomes (.heatLaunch r x) s (s.dev.onMedium r (fun _ => s.dev.withLinks (fun d => (((d.at_ (y.launch - d.wayToTx r)).deadlines).twtCut r).onAscRadio r (fun z => { z with heatNext := none, heatRun := some (y.end_, true) }))))) ∧
  (∀ (s : State) (r : Radio) (x : TxStart) (q : Nat) (y : HeatNext) (a : Alloc) (d d1 d2 : Dev) (f : Filled), (s.dev.asc.radios.get r).heatNext = some y → y.un = false → d = (s.dev.at_ (y.launch - s.dev.wayToTx r)).deadlines → (d.asc.radios.get r).heatGood.find? (fun e => decide (e.1 = y.idx)) = some (q, a) → d1 = (d.twtCut r).onAscRadio r (fun z => { z with heatNext := none, heatRun := some (y.end_, true) }) → (a.pub < y.sub → y.launch - a.snap < usT (d.fld A.ASC.ROUND_CFG 31 16)) → d.avail r = true → d.heatYields r y.launch y.end_ = false → d.tb + d.wayToTx r ≤ y.launch → (if bitOf (d.sram32 (allocAt r a.buf)) 25 then d1.fillMu r (allocAt r a.buf) x.vec x.rooms false 4 else d1.fillTrigger r (allocAt r a.buf) x.vec).2 = some f → d2 = (f.dev.shortDone r).transmit r { f.vec with kind := .heat } f.fids x.ready → (d2.phy.get r).tx.isSome = true →
    Becomes (.heatLaunch r x) s (s.dev.onMedium r (fun _ => s.dev.withLinks (fun _ => (d2.onAscRadio r (fun z => { z with heatRun := some (y.end_, false) })).count A.ASC.HEAT_RUN_CNT)))) ∧
  (∀ (s : State) (r : Radio) (t : Nat) (b : Bool), (s.dev.asc.radios.get r).heatRun = some (t, b) →
    Becomes (.heatEnd r) s (s.dev.onMedium r (fun _ => ((s.dev.at_ t).onAscRadio r (fun s => { s with heatRun := none })).bcnSeen r)))

/-- SUBMIT, template loading, the Ductus trace, DONE_POST, core RUN, the trace port, LIMIT and DEADLINE expiry, TAKE_ASSIGN and
the fetch engine have the effect their rules give. Each clause gives the conditions on the state and the operands, and the whole
next state: the device it names with the reply on its way, every other part as before. -/
def Obligations.ArrayCommandsComplete : Prop :=
  (∀ (s : State) (rq : Rq) (ws : List Word) (d : Dev) (w : Word) (i mask : Nat) (t : Tpl) (x : Inst), d = s.dev.asked .qar →
    s.dev.takes rq OP.COMMAND ws.length 1 = true → s.dev.serves .qar = true → ws.length = 8 → (rq.src ≠ .mp → d.mgt.otp.lc = .test ∨ d.mgt.otp.lc = .ret) →
    w = word ws 0 → extra w 0xDF = false → tabFind d.qar.templates (bitsOf w 4 0) = some t → mask = pair ws 2 % 2 ^ t.nodes.length → t.nodes ≠ [] →
    mask.testBit (t.nodes.length - 1) = true → (List.range 16).find? (fun j => (tabFind d.qar.insts j).isNone) = some i →
    ((List.range t.nodes.length).filter (fun n => mask.testBit n)).length ≤ d.freeSlots.length →
    x = { tpl := bitsOf w 4 0, list := bitsOf w 7 6, deadline := d.tbOf (word ws 1), enable := mask, ctx := ws.drop 4, order := d.qar.nextOrder,
          at_ := d.tb, by_ := if rq.src = .mp then 2 else 3, radio := 0, cancelled := false, complete := false, done := 0, work := Work.reset } →
    Performs (.submit rq ws) s rq OP.COMMAND [wd i] .qar (fun d =>
      ((((d.onQar (fun q => { q with insts := tabPut q.insts i x, nextOrder := q.nextOrder + 1 })).ductus 0x01 0xFF i 0xFF (submitArg x.tpl x.list x.by_ 0) x.deadline).count
        A.QAR.INSTANCE_CNT).enterOps i x t ((List.range t.nodes.length).filter (fun n => mask.testBit n))).balance)) ∧
  (∀ (s : State) (rq : Rq) (ws : List Word) (d : Dev) (w : Word) (t k len : Nat) (data : List Byte), d = s.dev.asked .qar →
    s.dev.takes rq OP.COMMAND ws.length 0 = true → s.dev.serves .qar = true → w = word ws 0 → t = bitsOf w 4 0 → k = bitsOf w 15 8 → len = bitsOf w 31 16 →
    data = ((wordsBytes (ws.drop 1)).take 1016).take (len - 1016 * k) → 2 ≤ ws.length → ws.length ≤ 255 → extra w 0xFFFFFF1F = false → 1016 * k < len →
    (tabPut (if d.qar.loadT = t ∧ d.qar.loadLen = len then d.qar.loadChunks else []) k data).length < ceilDiv len 1016 →
    Performs (.tplLoad rq ws) s rq OP.COMMAND [] .qar (fun d => d.onQar (fun q => { q with
      loadT := t, loadLen := len, loadChunks := tabPut (if d.qar.loadT = t ∧ d.qar.loadLen = len then d.qar.loadChunks else []) k data }))) ∧
  (∀ (s : State) (rq : Rq) (ws : List Word) (d : Dev) (w : Word) (t k len : Nat) (data bs : List Byte) (chunks : Tab (List Byte)), d = s.dev.asked .qar →
    s.dev.takes rq OP.COMMAND ws.length 0 = true → s.dev.serves .qar = true → w = word ws 0 → t = bitsOf w 4 0 → k = bitsOf w 15 8 → len = bitsOf w 31 16 →
    data = ((wordsBytes (ws.drop 1)).take 1016).take (len - 1016 * k) → 2 ≤ ws.length → ws.length ≤ 255 → extra w 0xFFFFFF1F = false → 1016 * k < len →
    chunks = tabPut (if d.qar.loadT = t ∧ d.qar.loadLen = len then d.qar.loadChunks else []) k data → ceilDiv len 1016 ≤ chunks.length →
    bs = (chunks.map (fun e => e.2)).flatten → leNat ((bs.drop 4).take 2) = bitsOf d.qar.fwVer 31 24 → (∀ e ∈ d.qar.insts, e.2.tpl ≠ t) →
    d.fld A.QAR.ASC_TPL 4 0 ≠ t → d.fld A.QAR.ASC_TPL 12 8 ≠ t → tplOk bs = true →
    Performs (.tplLoad rq ws) s rq OP.COMMAND [] .qar (fun d => d.onQar (fun q => { q with
      loadT := 0, loadLen := 0, loadChunks := [], templates := tabPut q.templates t (tplOf bs) }))) ∧
  (∀ (s : State) (rq : Rq) (ws : List Word) (d : Dev) (n k : Nat), d = s.dev.asked .qar → k = min 64 (replyRoom rq.src (decide (rq.flags % 2 = 1)) / 4) →
    ws.length = 1 → n = (wd d.qar.ductus.seq - word ws 0).toNat → n ≤ d.qar.ductus.recs.length → n < 2 ^ 31 →
    s.dev.takes rq OP.COMMAND ws.length (4 * min k n) = true → s.dev.serves .qar = true →
    Performs (.ductusGet rq ws) s rq OP.COMMAND ((((d.qar.ductus.recs.take n).reverse).take k).map DuctusRec.words).flatten .qar (fun d => d)) ∧
  (∀ (s : State) (rq : Rq), s.dev.takes rq OP.COMMAND 1 0 = true → s.dev.serves .qar = true →
    Performs (.ductusTrigger rq) s rq OP.COMMAND [] .qar (fun d => d.trigger 3)) ∧
  (∀ (s : State) (rq : Rq), s.dev.takes rq OP.COMMAND 1 0 = true → s.dev.serves .qar = true →
    Performs (.ductusResume rq) s rq OP.COMMAND [] .qar (fun d =>
      (d.onQar (fun q => { q with ductus := { q.ductus with triggered := false, stopped := false, postLeft := 0 } })).follow .qar Cause.QAR.DUCTUS_TRIGGERED false)) ∧
  (∀ (s : State), s.dev.qar.ductus.triggered = true → s.dev.qar.ductus.postLeft = 0 →
    Becomes (.ductusPostDone) s (s.dev.onQar (fun q => { q with ductus := { q.ductus with stopped := true } }))) ∧
  (∀ (s : State) (rq : Rq) (v : Word), s.dev.accepts rq (A.QAR.CORE_CTRL) (v) .qar = true →
    Performs (.coreRunWrite rq v) s rq OP.WRITE [] .qar (fun d => let e := d.stored .qar A.QAR.CORE_CTRL v
      let new := e.rd A.QAR.CORE_CTRL
      let run := (List.range 16).foldl (fun w k => if d.bst.failed.contains (0x10 + k) then w &&& ~~~ oneBit k else w) new
      (if run = new then e else e.wr A.QAR.CORE_CTRL run).runWrite (d.rd A.QAR.CORE_CTRL) run)) ∧
  (∀ (s : State) (k : Fin 16) (v : Word), Becomes (.tracePut0Write k v) s (s.dev.setQuill k.val { s.dev.quill k.val with put0 := v })) ∧
  (∀ (s : State) (k : Fin 16) (v : Word) (o : Op) (slot : Nat), (s.dev.quill k.val).held = some slot → tabFind s.dev.qar.ops slot = some o → 0x10 ≤ bitsOf (s.dev.quill k.val).put0 31 24 → bitsOf (s.dev.quill k.val).put0 31 24 ≤ 0x1F →
    Becomes (.tracePut1Write k v) s (s.dev.ductus (bitsOf (s.dev.quill k.val).put0 31 24) k.val o.inst o.node (bitsOf (s.dev.quill k.val).put0 15 0) v.toNat)) ∧
  (∀ (s : State) (k : Fin 16) (slot : Nat) (o : Op) (x : Inst) (t : Tpl) (lim : Nat) (d : Dev) (fs : List Nat) (out : Bool), (s.dev.quill k.val).held = some slot → tabFind s.dev.qar.ops slot = some o → tabFind s.dev.qar.insts o.inst = some x → tabFind s.dev.qar.templates x.tpl = some t → lim = (t.nodes.getD o.node { entry := 0, param := 0, limit := 0, pred := 0 }).limit → d = (s.dev.at_ (o.since + lim)).deadlines → fs = d.tb :: (d.quill k.val).faults.filter (fun t => decide (d.tb < t + sT 1)) → out = decide (3 ≤ fs.length) →
    Becomes (.limitExpiry k) s ((((((((if out then d.wr A.QAR.CORE_CTRL (d.rd A.QAR.CORE_CTRL &&& ~~~ oneBit k.val) else d).setQuill k.val
        ({ d.quill k.val with faults := fs.take 3, faulted := (d.quill k.val).faulted || out }.restart (if out then .stopped else .none))).onQar
        (fun q => { q with ops := tabDel q.ops slot })).cancelInst o.inst).qarFault k.val o.inst o.node 1 lim).retire o.inst).balance).takeStopped k.val)) ∧
  (∀ (s : State) (k : Nat) (x : Inst), tabFind s.dev.qar.insts k = some x → x.cancelled = false → x.complete = false →
    Becomes (.instanceDeadline k) s ((s.dev.at_ x.deadline).cancelInst k)) ∧
  (∀ (s : State) (slot : Nat) (o : Op) (a b : Nat × Nat × Nat) (l : List (Nat × Nat × Nat)), s.dev.openOps.find? (fun e => e.2.isReady) = some (slot, o) → s.dev.takers = a :: l → b = l.foldl (fun b x => if x.1 < b.1 then x else b) a →
    Becomes (.takeAssign) s ((s.dev.giveOp b.2.1 b.2.2 slot o).balance)) ∧
  (∀ (s : State) (k : Fin 16) (v : Word) (f : Fetch) (c : Core), (s.dev.quill k.val).fetches.length < 4 → c = (s.dev.quill k.val).cplPut (s.dev.quill k.val).fcpl.toNat 0xFF → f = { src := c.fsrcLo.toNat + 2 ^ 32 * bitsOf c.fsrcHi 2 0, dst := c.fdst.toNat, cpl := c.fcpl.toNat, len := v.toNat, refused := false } → s.dev.serving = true →
    Becomes (.fetchStart k v) s (s.dev.setQuill k.val { c with fetches := c.fetches ++ [f] })) ∧
  (∀ (s : State) (k : Fin 16) (v : Word), 4 ≤ (s.dev.quill k.val).fetches.length →
    Becomes (.fetchStart k v) s (s.dev.setQuill k.val { s.dev.quill k.val with wait := .fetchRoom v })) ∧
  (∀ (s : State) (k : Fin 16) (f : Fetch) (l : List Fetch), (s.dev.quill k.val).fetches = f :: l → f.refused = false → s.dev.fetchCode f = RC.OK → s.dev.mem.ddr = .serving → s.dev.rangePoisoned f.src f.len = false → (∀ w, (s.dev.quill k.val).wait ≠ .fetchRoom w) →
    Becomes (.fetchComplete k) s (s.dev.setQuill k.val { (((s.dev.dramBytes f.src f.len).zipIdx.foldl (fun c e => c.dmemPut (f.dst - 0x10000000 + e.2) 1 e.1.toNat) (s.dev.quill k.val)).cplPut f.cpl RC.OK) with fetches := l, evt := true }))

/-- On a core that executes them with a condition that holds, ALU, the immediate operations, MOVL, MOVH, MFS and MTS lead to the
device in which the result is written, the flags with S, and execution goes on (R249 to R252, R257). -/
def Obligations.RegisterInstructionsComplete : Prop :=
  (∀ (s : State) (u : Cpu) (f : FmtR) (c : Core) (o : AluOut), s.dev.executes u f.cond = true → c = s.dev.core u → aluFunc c f.func.toNat (c.reg f.ra) (c.reg f.rb) = some o → (f.func = 0x0F → f.rb = 0) →
    Becomes (.alu u f) s ((s.dev.setCore u (c.result f.rd f.s o)).goOn u)) ∧
  (∀ (s : State) (u : Cpu) (f : FmtI) (c : Core), s.dev.executes u f.cond = true → c = s.dev.core u →
    Becomes (.addi u f) s ((s.dev.setCore u (c.result f.rd f.s (aluAdd (c.reg f.ra) f.ext false))).goOn u)) ∧
  (∀ (s : State) (u : Cpu) (f : FmtI) (c : Core), s.dev.executes u f.cond = true → c = s.dev.core u →
    Becomes (.subi u f) s ((s.dev.setCore u (c.result f.rd f.s (aluSub (c.reg f.ra) f.ext false))).goOn u)) ∧
  (∀ (s : State) (u : Cpu) (f : FmtI) (c : Core), s.dev.executes u f.cond = true → c = s.dev.core u →
    Becomes (.andi u f) s ((s.dev.setCore u (c.result f.rd f.s (.plain (c.reg f.ra &&& f.ext)))).goOn u)) ∧
  (∀ (s : State) (u : Cpu) (f : FmtI) (c : Core), s.dev.executes u f.cond = true → c = s.dev.core u →
    Becomes (.ori u f) s ((s.dev.setCore u (c.result f.rd f.s (.plain (c.reg f.ra ||| f.ext)))).goOn u)) ∧
  (∀ (s : State) (u : Cpu) (f : FmtI) (c : Core), s.dev.executes u f.cond = true → c = s.dev.core u →
    Becomes (.xori u f) s ((s.dev.setCore u (c.result f.rd f.s (.plain (c.reg f.ra ^^^ f.ext)))).goOn u)) ∧
  (∀ (s : State) (u : Cpu) (f : FmtI) (c : Core), s.dev.executes u f.cond = true → c = s.dev.core u →
    Becomes (.muli u f) s ((s.dev.setCore u (c.result f.rd f.s (aluMul (c.reg f.ra) f.ext))).goOn u)) ∧
  (∀ (s : State) (u : Cpu) (f : FmtI) (c : Core), s.dev.executes u f.cond = true → c = s.dev.core u → f.imm.toNat < 32 →
    Becomes (.shli u f) s ((s.dev.setCore u (c.result f.rd f.s (aluShl (c.reg f.ra) f.imm.toNat))).goOn u)) ∧
  (∀ (s : State) (u : Cpu) (f : FmtI) (c : Core), s.dev.executes u f.cond = true → c = s.dev.core u → f.imm.toNat < 32 →
    Becomes (.shri u f) s ((s.dev.setCore u (c.result f.rd f.s (aluShr (c.reg f.ra) f.imm.toNat))).goOn u)) ∧
  (∀ (s : State) (u : Cpu) (f : FmtI) (c : Core), s.dev.executes u f.cond = true → c = s.dev.core u → f.imm.toNat < 32 →
    Becomes (.sari u f) s ((s.dev.setCore u (c.result f.rd f.s (aluSar (c.reg f.ra) f.imm.toNat))).goOn u)) ∧
  (∀ (s : State) (u : Cpu) (f : FmtI) (c : Core), s.dev.executes u f.cond = true → c = s.dev.core u → f.imm.toNat < 32 →
    Becomes (.rori u f) s ((s.dev.setCore u (c.result f.rd f.s (aluRor (c.reg f.ra) f.imm.toNat))).goOn u)) ∧
  (∀ (s : State) (u : Cpu) (f : FmtU) (c : Core), s.dev.executes u f.cond = true → c = s.dev.core u →
    Becomes (.movl u f) s ((s.dev.setCore u (c.setReg f.rd (f.imm.zeroExtend 32))).goOn u)) ∧
  (∀ (s : State) (u : Cpu) (f : FmtU) (c : Core), s.dev.executes u f.cond = true → c = s.dev.core u →
    Becomes (.movh u f) s ((s.dev.setCore u (c.setReg f.rd (f.imm ++ (c.reg f.rd).extractLsb' 0 16))).goOn u)) ∧
  (∀ (s : State) (u : Cpu) (f : FmtR) (c : Core) (v : Word), s.dev.executes u f.cond = true → c = s.dev.core u → f.ra = 0 → f.rb = 0 → f.s = false → c.special u.isMp s.dev.tb f.func.toNat = some v →
    Becomes (.mfs u f) s ((s.dev.setCore u ((if f.func = 6 then { c with tbHi := wd (s.dev.tb / 2 ^ 32) } else c).setReg f.rd v)).goOn u)) ∧
  (∀ (s : State) (u : Cpu) (f : FmtR) (c : Core) (g : Core), s.dev.executes u f.cond = true → c = s.dev.core u → f.rd = 0 → f.rb = 0 → f.s = false → c.setSpecial f.func.toNat (c.reg f.ra) = some g →
    Becomes (.mts u f) s ((s.dev.setCore u g).goOn u))

/-- On a core that executes them with a condition that holds, an aligned load or store that the memory answers, an ATOM on a
memory that takes it, and FENCE have their effect and execution goes on (R255, R256). -/
def Obligations.MemoryInstructionsComplete : Prop :=
  (∀ (s : State) (u : Cpu) (f : FmtM) (c : Core) (a : Nat) (e : Dev) (v : Word), s.dev.executes u f.cond = true → c = s.dev.core u → a = (c.reg f.ra + f.ext).toNat → a % 4 = 0 → s.dev.load u a 4 = (e, Ans.ok [v]) →
    Becomes (.ldw u f) s ((e.setCore u ((e.core u).setReg f.rd (v))).goOn u)) ∧
  (∀ (s : State) (u : Cpu) (f : FmtM) (c : Core) (a : Nat) (e : Dev) (v : Word), s.dev.executes u f.cond = true → c = s.dev.core u → a = (c.reg f.ra + f.ext).toNat → a % 2 = 0 → s.dev.load u a 2 = (e, Ans.ok [v]) →
    Becomes (.ldh u f) s ((e.setCore u ((e.core u).setReg f.rd ((v.truncate 16).signExtend 32))).goOn u)) ∧
  (∀ (s : State) (u : Cpu) (f : FmtM) (c : Core) (a : Nat) (e : Dev) (v : Word), s.dev.executes u f.cond = true → c = s.dev.core u → a = (c.reg f.ra + f.ext).toNat → a % 2 = 0 → s.dev.load u a 2 = (e, Ans.ok [v]) →
    Becomes (.ldhu u f) s ((e.setCore u ((e.core u).setReg f.rd (v))).goOn u)) ∧
  (∀ (s : State) (u : Cpu) (f : FmtM) (c : Core) (a : Nat) (e : Dev) (v : Word), s.dev.executes u f.cond = true → c = s.dev.core u → a = (c.reg f.ra + f.ext).toNat → s.dev.load u a 1 = (e, Ans.ok [v]) →
    Becomes (.ldb u f) s ((e.setCore u ((e.core u).setReg f.rd ((v.truncate 8).signExtend 32))).goOn u)) ∧
  (∀ (s : State) (u : Cpu) (f : FmtM) (c : Core) (a : Nat) (e : Dev) (v : Word), s.dev.executes u f.cond = true → c = s.dev.core u → a = (c.reg f.ra + f.ext).toNat → s.dev.load u a 1 = (e, Ans.ok [v]) →
    Becomes (.ldbu u f) s ((e.setCore u ((e.core u).setReg f.rd (v))).goOn u)) ∧
  (∀ (s : State) (u : Cpu) (f : FmtM) (c : Core) (a : Nat) (e : Dev) (ws : List Word), s.dev.executes u f.cond = true → c = s.dev.core u → a = (c.reg f.ra + f.ext).toNat → a % 4 = 0 → s.dev.store u a 4 (c.reg f.rd) = (e, Ans.ok ws) →
    Becomes (.stw u f) s (e.goOn u)) ∧
  (∀ (s : State) (u : Cpu) (f : FmtM) (c : Core) (a : Nat) (e : Dev) (ws : List Word), s.dev.executes u f.cond = true → c = s.dev.core u → a = (c.reg f.ra + f.ext).toNat → a % 2 = 0 → s.dev.store u a 2 (c.reg f.rd) = (e, Ans.ok ws) →
    Becomes (.sth u f) s (e.goOn u)) ∧
  (∀ (s : State) (u : Cpu) (f : FmtM) (c : Core) (a : Nat) (e : Dev) (ws : List Word), s.dev.executes u f.cond = true → c = s.dev.core u → a = (c.reg f.ra + f.ext).toNat → s.dev.store u a 1 (c.reg f.rd) = (e, Ans.ok ws) →
    Becomes (.stb u f) s (e.goOn u)) ∧
  (∀ (s : State) (u : Cpu) (f : FmtR) (c : Core) (a : Nat) (old new : Word) (e : Dev), s.dev.executes u f.cond = true → c = s.dev.core u → f.func.toNat ≤ 3 → f.s = false → a = (c.reg f.ra).toNat → a % 4 = 0 → atomic u a = true → old = word (s.dev.load u a 4).2.words 0 → new = (if f.func = 0 then c.reg f.rb else if f.func = 1 then old + c.reg f.rb else if f.func = 2 then old &&& c.reg f.rb else old ||| c.reg f.rb) → e = (s.dev.store u a 4 new).1 →
    Becomes (.atom u f) s ((e.setCore u ((e.core u).setReg f.rd old)).goOn u)) ∧
  (∀ (s : State) (u : Cpu) (f : FmtR) (c : Core), s.dev.executes u f.cond = true → c = s.dev.core u → f.bare = true →
    Becomes (.fence u f) s (s.dev.goOn u))

/-- Outside a slot and with a condition that holds, BR, CALL, JMP, CALLR, RET and RETE wait for the instruction in their slot
with the target R253 gives; TRAP takes its exception (R261). -/
def Obligations.ControlInstructionsComplete : Prop :=
  (∀ (s : State) (u : Cpu) (f : FmtB) (c : Core), s.dev.executes u f.cond = true → c = s.dev.core u → c.slot = none →
    Becomes (.br u f) s (s.dev.setCore u { c with slot := some (c.pc, .jump (wd c.pc + f.dist).toNat), pc := (c.pc + 4) % 2 ^ 32 })) ∧
  (∀ (s : State) (u : Cpu) (f : FmtB) (c : Core), s.dev.executes u f.cond = true → c = s.dev.core u → c.slot = none → ¬ (c.res = 11 ∧ c.spillMax ≤ c.spilled) → (wd c.pc + f.dist).toNat % 4 = 0 →
    Becomes (.call u f) s (s.dev.setCore u { c with slot := some (c.pc, .call (wd c.pc + f.dist).toNat (c.pc + 8)), pc := (c.pc + 4) % 2 ^ 32 })) ∧
  (∀ (s : State) (u : Cpu) (f : FmtR) (c : Core), s.dev.executes u f.cond = true → c = s.dev.core u → c.slot = none → f.rd = 0 → f.rb = 0 → f.s = false → f.func = 0 → (c.reg f.ra).toNat % 4 = 0 →
    Becomes (.jmp u f) s (s.dev.setCore u { c with slot := some (c.pc, .jump (c.reg f.ra).toNat), pc := (c.pc + 4) % 2 ^ 32 })) ∧
  (∀ (s : State) (u : Cpu) (f : FmtR) (c : Core), s.dev.executes u f.cond = true → c = s.dev.core u → c.slot = none → f.rd = 0 → f.rb = 0 → f.s = false → f.func = 0 → ¬ (c.res = 11 ∧ c.spillMax ≤ c.spilled) → (c.reg f.ra).toNat % 4 = 0 →
    Becomes (.callr u f) s (s.dev.setCore u { c with slot := some (c.pc, .call (c.reg f.ra).toNat (c.pc + 8)), pc := (c.pc + 4) % 2 ^ 32 })) ∧
  (∀ (s : State) (u : Cpu) (f : FmtR) (c : Core), s.dev.executes u f.cond = true → c = s.dev.core u → c.slot = none → f.bare = true → ¬ (c.res = 1 ∧ c.spilled = 0) → c.lk.toNat % 4 = 0 →
    Becomes (.ret u f) s (s.dev.setCore u { c with slot := some (c.pc, .ret), pc := (c.pc + 4) % 2 ^ 32 })) ∧
  (∀ (s : State) (u : Cpu) (f : FmtR) (c : Core), s.dev.executes u f.cond = true → c = s.dev.core u → c.slot = none → f.bare = true → c.epc.toNat % 4 = 0 →
    Becomes (.rete u f) s (s.dev.setCore u { c with slot := some (c.pc, .rete), pc := (c.pc + 4) % 2 ^ 32 })) ∧
  (∀ (s : State) (u : Cpu) (f : FmtI) (c : Core), s.dev.executes u f.cond = true → c = s.dev.core u → c.slot = none → f.rd = 0 → f.ra = 0 → f.s = false → f.imm.toNat < 256 →
    Becomes (.trap u f) s (s.dev.except u Exc.TRAP 0 f.imm.toNat))

/-- With a condition that holds, WFE takes a set event flag or waits, on the MP with MODE set it starts the transition; SEV sets
the flags; WAITU waits for its time; TAKE and DONE follow the dispatcher; WFE_WAKE and WAITU_RESUME end the wait (R258 to R260,
R444). -/
def Obligations.EventInstructionsComplete : Prop :=
  (∀ (s : State) (u : Cpu) (f : FmtR) (c : Core), s.dev.executes u f.cond = true → c = s.dev.core u → f.bare = true → c.slot = none → c.evt = true →
    Becomes (.wfe u f) s ((s.dev.setCore u { c with evt := false }).goOn u)) ∧
  (∀ (s : State) (u : Cpu) (f : FmtR) (c : Core), s.dev.executes u f.cond = true → c = s.dev.core u → f.bare = true → c.slot = none → c.evt = false → u.isMp = false ∨ s.dev.fld A.PMU.MODE 2 0 = 0 →
    Becomes (.wfe u f) s ((s.dev.setCore u { c with wait := .wfe }).goOn u)) ∧
  (∀ (s : State) (f : FmtR) (c : Core) (e : Dev), s.dev.executes (.mp) f.cond = true → c = s.dev.core (.mp) → f.bare = true → c.slot = none → c.evt = false → s.dev.fld A.PMU.MODE 2 0 ≠ 0 → e = s.dev.tryEnter (stateOfMode (s.dev.fld A.PMU.MODE 2 0)) →
    Becomes (.wfe (.mp) f) s ((if e.pmu.entering.isSome then e.onMp (fun c => { c with wait := .wfe }) else e).goOn .mp)) ∧
  (∀ (s : State) (u : Cpu), (s.dev.core u).wait = .wfe → (s.dev.core u).evt = true → u.isMp = false ∨ s.dev.pmu.state = .run ∧ s.dev.pmu.entering = none →
    Becomes (.wfeWake u) s (s.dev.setCore u { s.dev.core u with wait := .none, evt := false })) ∧
  (∀ (s : State) (f : FmtR) (c : Core), s.dev.executes (.mp) f.cond = true → c = s.dev.core (.mp) → f.bare = true →
    Becomes (.sev (.mp) f) s ((s.dev.onMp (fun c => { c with evt := true })).goOn .mp)) ∧
  (∀ (s : State) (f : FmtR) (c : Core) (k : Fin 16), s.dev.executes (.quill k) f.cond = true → c = s.dev.core (.quill k) → f.bare = true →
    Becomes (.sev (.quill k) f) s (((List.range 16).foldl (fun d j => d.setQuill j { d.quill j with evt := true }) s.dev).goOn (.quill k))) ∧
  (∀ (s : State) (u : Cpu) (f : FmtR) (c : Core), s.dev.executes u f.cond = true → c = s.dev.core u → f.rd = 0 → f.rb = 0 → f.s = false → f.func = 0 → s.dev.ahead (c.reg f.ra) = 0 →
    Becomes (.waitu u f) s (s.dev.goOn u)) ∧
  (∀ (s : State) (u : Cpu) (f : FmtR) (c : Core), s.dev.executes u f.cond = true → c = s.dev.core u → f.rd = 0 → f.rb = 0 → f.s = false → f.func = 0 → s.dev.ahead (c.reg f.ra) ≠ 0 →
    Becomes (.waitu u f) s ((s.dev.setCore u { c with wait := .waitu (c.reg f.ra) }).goOn u)) ∧
  (∀ (s : State) (u : Cpu) (due : Word) (e : Dev), (s.dev.core u).wait = .waitu due → e = s.dev.at_ (s.dev.tb + s.dev.ahead due) →
    Becomes (.waituResume u) s (e.setCore u { e.core u with wait := .none })) ∧
  (∀ (s : State) (f : FmtR) (c : Core) (k : Fin 16), s.dev.executes (.quill k) f.cond = true → c = s.dev.core (.quill k) → f.ra = 0 → f.rb = 0 → f.s = false → f.func = 0 → c.held = none →
    Becomes (.take (.quill k) f) s (((s.dev.take k.val (c.place f.rd)).takeStopped k.val).goOn (.quill k))) ∧
  (∀ (s : State) (f : FmtR) (c : Core) (k : Fin 16), s.dev.executes (.quill k) f.cond = true → c = s.dev.core (.quill k) → f.s = false → c.held.isSome = true →
    Becomes (.done (.quill k) f) s ((s.dev.doneOp k.val ((c.reg f.ra).toNat % 256)).goOn (.quill k)))

/-- Queue, profile, Pacer and meter commands, QUEUE_STAT, QUEUE_FLUSH, Pacer refill, the age scan, spilling and refilling,
admission and the start, pause and end of a departure have the effect their rules give. Each clause gives the conditions on the
state and the operands, and the whole next state: the device it names with the reply on its way, every other part as before. -/
def Obligations.QueueCommandsComplete : Prop :=
  (∀ (σ : State) (rq : Rq) (ws : List Word), σ.dev.serves .tmg = true →
    let d := σ.dev.asked .tmg
    let w := word ws 0
    let q := bitsOf w 13 0
    σ.dev.takes rq OP.COMMAND ws.length 0 = true →
    ¬ (ws.length ≠ 2) →
    (d.qAbsent q) = false →
    ((qKind q).isNone || extra w 0x7F3FFF || extra (word ws 1) 0xFFF) = false →
    Performs (.queueSet rq ws) σ rq OP.COMMAND [] .tmg (fun d =>
      let w := word ws 0
      let q := bitsOf w 13 0
      let d1 := d.setQueue q { d.queue q with profile := bitsOf w 21 16, pacerEn := bitOf w 22, pacer := bitsOf (word ws 1) 11 0 }
      d1.dlBytes q)) ∧
  (∀ (σ : State) (rq : Rq) (ws : List Word), σ.dev.serves .tmg = true →
    let p : Profile := { quantum := bitsOf (word ws 0) 31 16, qlim := bitsOf (word ws 1) 15 0, ylim := bitsOf (word ws 1) 31 16,
                         rlim := bitsOf (word ws 2) 15 0, spill := bitsOf (word ws 2) 31 16, ageMs := bitsOf (word ws 3) 15 0 }
    σ.dev.takes rq OP.COMMAND ws.length 0 = true →
    ¬ (ws.length ≠ 4) →
    (extra (word ws 0) 0xFFFF003F || extra (word ws 3) 0xFFFF || outside p.quantum 64 65536
               || outside p.qlim 1 65534 || decide (p.qlim < p.ylim) || decide (p.ylim < p.rlim)) = false →
    Performs (.profileSet rq ws) σ rq OP.COMMAND [] .tmg (fun d =>
      let p : Profile := { quantum := bitsOf (word ws 0) 31 16, qlim := bitsOf (word ws 1) 15 0, ylim := bitsOf (word ws 1) 31 16,
                           rlim := bitsOf (word ws 2) 15 0, spill := bitsOf (word ws 2) 31 16, ageMs := bitsOf (word ws 3) 15 0 }
      d.onTmg (fun t => { t with profiles := tabPut t.profiles (bitsOf (word ws 0) 5 0) p }))) ∧
  (∀ (σ : State) (rq : Rq) (ws : List Word), σ.dev.serves .tmg = true →
    let d := σ.dev.asked .tmg
    let w := word ws 0
    let k := bitsOf w 11 0
    let c : PacerCfg := { enable := bitOf w 12, parentEn := bitOf w 13, parent := bitsOf w 27 16,
                          periodUs := bitsOf (word ws 1) 9 0, inc := bitsOf (word ws 2) 23 0, burst := bitsOf (word ws 3) 23 0 }
    let named := d.tmg.pacers.any (fun e => decide (e.1 ≠ k) && e.2.last.parentEn && decide (e.2.last.parent = k))
    σ.dev.takes rq OP.COMMAND ws.length 0 = true →
    ¬ (ws.length ≠ 4) →
    (extra w 0x0FFF3FFF || extra (word ws 1) 0x3FF || extra (word ws 2) 0xFFFFFF || extra (word ws 3) 0xFFFFFF
               || outside c.periodUs 1 1000 || outside c.inc 1 16777215 || outside c.burst 64 16777215
               || (c.parentEn && (decide (c.parent = k) || (d.pacer c.parent).last.parentEn || named))) = false →
    Performs (.pacerSet rq ws) σ rq OP.COMMAND [] .tmg (fun d =>
      let w := word ws 0
      let k := bitsOf w 11 0
      let c : PacerCfg := { enable := bitOf w 12, parentEn := bitOf w 13, parent := bitsOf w 27 16,
                            periodUs := bitsOf (word ws 1) 9 0, inc := bitsOf (word ws 2) 23 0, burst := bitsOf (word ws 3) 23 0 }
      let old := d.pacer k
      let new : Pacer :=
        if old.cfg.enable then { old with next := some c }
        else if c.enable then { cfg := c, next := none, credit := 16 * c.burst, refillAt := d.tb + usT c.periodUs }
        else { old with cfg := c }
      let d1 := d.setPacer k new
      (d1.pacedBy k).foldl Dev.dlBytes d1)) ∧
  (∀ (σ : State) (rq : Rq) (ws : List Word), σ.dev.serves .tmg = true →
    let w := word ws 0
    let mode := bitsOf w 13 12
    let cir := (word ws 1).toNat
    let pir := (word ws 2).toNat
    let cbs := (word ws 3).toNat
    let ebs := (word ws 4).toNat
    let bad := decide (mode ≠ 0) && (outside cir 8 100000000 || outside cbs 64 16777215
      || (if mode = 2 then outside pir cir 100000000 || outside ebs cbs 16777215
          else decide (pir ≠ 0) || decide (16777215 < ebs)))
    σ.dev.takes rq OP.COMMAND ws.length 0 = true →
    ¬ (ws.length ≠ 5) →
    (extra w 0x77FFF || decide (mode = 3) || bad) = false →
    Performs (.meterSet rq ws) σ rq OP.COMMAND [] .tmg (fun d =>
      let w := word ws 0
      let k := bitsOf w 11 0
      let mode := bitsOf w 13 12
      let cir := (word ws 1).toNat
      let pir := (word ws 2).toNat
      let cbs := (word ws 3).toNat
      let ebs := (word ws 4).toNat
      let old := (d.meter k).fill d.tb
      let base : Meter := { old with mode := mode, aware := bitOf w 14, greenDrop := bitOf w 16, yellowDrop := bitOf w 17,
                                     redDrop := bitOf w 18, cir := cir, pir := pir, cbs := cbs, ebs := ebs }
      let new : Meter :=
        if mode = old.mode then { base with tc := min old.tc (65536 * cbs), te := min old.te (65536 * ebs) }
        else { base with tc := 65536 * cbs, te := 65536 * ebs, gFrames := 0, yFrames := 0, rFrames := 0, gBytes := 0,
                         yBytes := 0, rBytes := 0 }
      d.onTmg (fun t => { t with meters := tabPut t.meters k new }))) ∧
  (∀ (σ : State) (rq : Rq) (ws : List Word), σ.dev.serves .tmg = true →
    let d := σ.dev.asked .tmg
    let m := d.meter (bitsOf (word ws 0) 11 0)
    let two (n : Nat) : List Word := [wd n, wd (n / 2 ^ 32)]
    σ.dev.takes rq OP.COMMAND ws.length 12 = true →
    ¬ (ws.length ≠ 1) →
    (extra (word ws 0) 0xFFF) = false →
    Performs (.meterStat rq ws) σ rq OP.COMMAND (two m.gFrames ++ two m.yFrames ++ two m.rFrames ++ two m.gBytes ++ two m.yBytes ++ two m.rBytes) .tmg (fun d => d)) ∧
  (∀ (σ : State) (rq : Rq) (ws : List Word), σ.dev.serves .tmg = true →
    let d := σ.dev.asked .tmg
    let q := (word ws 0).toNat
    let x := d.queue q
    σ.dev.takes rq OP.COMMAND ws.length 5 = true →
    ¬ (ws.length ≠ 1) →
    (d.qAbsent q) = false →
    ((qKind q).isNone) = false →
    Performs (.queueStat rq ws) σ rq OP.COMMAND ([wd (depthOf x.entries), wd x.entries.length, wd (x.entries.filter Entry.inDram).length, wd x.dropCnt, wd x.ageCnt]) .tmg (fun d => d)) ∧
  (∀ (σ : State) (rq : Rq) (ws : List Word), σ.dev.serves .tmg = true →
    let d := σ.dev.asked .tmg
    let q := (word ws 0).toNat
    σ.dev.takes rq OP.COMMAND ws.length 0 = true →
    ¬ (ws.length ≠ 1) →
    (d.qAbsent q) = false →
    ((qKind q).isNone) = false →
    Performs (.queueFlush rq ws) σ rq OP.COMMAND [] .tmg (fun d =>
      let q := (word ws 0).toNat
      let d1 := d.flushQueue q RC.FLUSHED
      d1.setQueue q { d1.queue q with dropCnt := 0, ageCnt := 0 })) ∧
  (∀ (s : State) (k : Nat) (p : Pacer) (c : PacerCfg) (e : Dev), tabFind s.dev.tmg.pacers k = some p → p.cfg.enable = true → s.dev.tb ≤ p.refillAt ∧ p.refillAt < 2 ^ 64 → c = p.last → e = (s.dev.at_ p.refillAt).setPacer k { cfg := c, next := none, credit := min (p.credit + c.inc) (16 * c.burst), refillAt := p.refillAt + usT c.periodUs } →
    Becomes (.pacerRefill k) s ((e.pacedBy k).foldl (fun d q => (d.dlBytes q).settle q) e)) ∧
  (∀ (s : State) (q : Nat), (qKind q).isSome = true → s.dev.qAbsent q = false →
    Becomes (.ageCheck q) s ((s.dev.ageCheck q).settle q)) ∧
  (∀ (s : State) (q : Nat) (e : Entry) (d1 : Dev), s.dev.mem.ddr = .serving → (s.dev.queue q).entries.find? Entry.writing = some e → d1 = s.dev.setQueue q { s.dev.queue q with entries := onFirst Entry.writing (fun e => { e with inInk := false, writing := false }) (s.dev.queue q).entries } →
    Becomes (.spillWriteDone q) s (((List.range (4 * cellsOf e.len)).foldl (fun d i => d.setPoison (e.dram + 64 * i) false) d1).cellsFree e.share e.cells e.ingress)) ∧
  (∀ (s : State) (q : Nat) (x : Queue) (e : Entry) (sh : Nat) (d0 d1 : Dev), x = s.dev.queue q → x.entries.find? Entry.inDram = some e → s.dev.mem.ddr = .serving → e.writing = false → depthOf (x.entries.takeWhile (fun e => !e.inDram)) < 1024 * (s.dev.profile x.profile).spill → s.dev.rangePoisoned e.dram (256 * cellsOf e.len) = false → sh = s.dev.destShare q e.share → s.dev.inkRoom sh e.cells = true → d0 = s.dev.setQueue q { x with entries := onFirst Entry.inDram (fun f => { f with inInk := true, share := sh, ingress := if sh = f.share then f.ingress else none }) x.entries } → d1 = d0.cellsTake sh e.cells (if sh = e.share then e.ingress else none) →
    Becomes (.refillDone q) s ((((d1.spillSet (d0.tmg.spillUsed - cellsOf e.len)).count A.TMG.REFILL_CNT).dlBytes q).settle q)) ∧
  (∀ (s : State) (q : Nat) (x : Queue) (e : Entry), x = s.dev.queue q → x.entries.find? Entry.inDram = some e → s.dev.mem.ddr = .serving → e.writing = false → depthOf (x.entries.takeWhile (fun e => !e.inDram)) < 1024 * (s.dev.profile x.profile).spill → s.dev.rangePoisoned e.dram (256 * cellsOf e.len) = true →
    Becomes (.refillDone q) s (((((s.dev.setQueue q { x with entries := x.entries.filter (fun f => decide (f.fid ≠ e.fid)), dropCnt := satAdd 32 x.dropCnt 1 }).count A.MEM.POISON_READ_CNT).lose e RC.FROZEN).dlBytes q).settle q)) ∧
  (∀ (s : State) (n : Nat), Becomes (.hostRingAdmitResume n) s (s.dev.ringRun n (s.dev.ring n).held.length)) ∧
  (∀ (s : State) (rq : Rq) (k : Nat) (v : Word), k < 3 → s.dev.accepts rq (A.TMG.SPILL_BASE_LO + 4 * k) (v) .tmg = true →
    Performs (.spillCfgWrite rq k v) s rq OP.WRITE [] .tmg (fun d => let e := d.stored .tmg (A.TMG.SPILL_BASE_LO + 4 * k) v
      if k = 2 then e.spillSet e.tmg.spillUsed else e)) ∧
  (∀ (s : State) (n : Nat) (ce ue : Bool) (p : EthPort) (d1 : Dev) (c : Nat) (e : Entry), p = s.dev.ethPort n → p.link = true → p.noStart = false → p.lpiTx = false → p.tx = none → s.dev.ethPick n p.suspended.isSome = (d1, some (c, e)) →
    Becomes (.ethTxStart n ce ue) s (d1.ethStart n c e ce ue)) ∧
  (∀ (s : State) (n : Nat) (ce ue : Bool) (p : EthPort) (d1 : Dev), p = s.dev.ethPort n → p.link = true → p.noStart = false → p.lpiTx = false → p.tx = none → s.dev.ethPick n p.suspended.isSome = (d1, none) →
    Becomes (.ethTxStart n ce ue) s (d1.ethResume n)) ∧
  (∀ (s : State) (n : Nat) (ce ue : Bool) (p : EthPort) (x : EthTx) (d1 : Dev) (c : Nat) (e : Entry) (b : Nat), p = s.dev.ethPort n → p.link = true → p.noStart = false → p.lpiTx = false → p.tx = some x → x.express = false → p.ctl = [] → s.dev.preempts n = true → s.dev.ethPick n true = (d1, some (c, e)) → s.dev.cutAt n x = some b →
    Becomes (.ethTxStart n ce ue) s ((d1.ethCut n x b).ethStart n c e ce ue)) ∧
  (∀ (s : State) (n : Nat) (ce ue : Bool) (p : EthPort) (x : EthTx) (b : Nat), p = s.dev.ethPort n → p.link = true → p.noStart = false → p.lpiTx = false → p.tx = some x → x.express = false → p.ctl.isEmpty = false → s.dev.preempts n = true → s.dev.cutAt n x = some b →
    Becomes (.ethTxStart n ce ue) s ((s.dev.ethCut n x b).ctlFlush n)) ∧
  (∀ (s : State) (n : Nat) (ce ue : Bool) (p : EthPort), p = s.dev.ethPort n → p.link = true → p.noStart = false → p.lpiTx = true → ((List.range 8).any (fun c => (s.dev.ethEligible n c).isSome)) = true →
    Becomes (.ethTxStart n ce ue) s (s.dev.lpiLeave n)) ∧
  (∀ (s : State) (n : Nat) (x : EthTx) (d1 d2 : Dev), (s.dev.ethPort n).tx = some x → d1 = (s.dev.at_ x.stop).onEth n (fun p => { p with tx := none, idleAt := max s.dev.tb x.stop }) → d2 = (d1.emit (.eth n (.frame x.entry x.express))).count (A.ETH.TX_OK_CNT n) →
    Becomes (.ethTxFrameEnd n) s (((d2.countN (A.ETH.TX_OCTET_CNT n) (wireLen x.entry.len)).ctlFlush n).release x.entry))

/-- Admission of a frame, flow buckets, RELEASE, SEND, CONTINUE and DISCARD of held frames, the hold timeout, notices and the
age scan have the effect their rules give. Each clause gives the conditions on the state and the operands, and the whole next
state: the device it names with the reply on its way, every other part as before. -/
def Obligations.FramePathComplete : Prop :=
  (∀ (s : State) (f g : InFrame) (d : Dev), s.dev.ready .pke = true → s.dev.pke.jobs.length < 1024 → s.dev.arbiter = some (f, d) → g = { f with hdr := d.parse f.hdr } → d.isAcp g = true →
    Becomes (.pkeAdmit) s (d.dropFrame f)) ∧
  (∀ (s : State) (f g : InFrame) (d : Dev) (t : Nat) (x : Hold), s.dev.ready .pke = true → s.dev.pke.jobs.length < 1024 → s.dev.arbiter = some (f, d) → g = { f with hdr := d.parse f.hdr } → d.isAcp g = false → d.holdOf (domainOf g.hdr (d.vlanOf g)) = some (t, x) →
    Becomes (.pkeAdmit) s (d.enlist t x f)) ∧
  (∀ (s : State) (f g : InFrame) (d d2 : Dev) (v dom : Nat) (j : PkeJob), s.dev.ready .pke = true → s.dev.pke.jobs.length < 1024 → s.dev.arbiter = some (f, d) → g = { f with hdr := d.parse f.hdr } → d.isAcp g = false → v = d.vlanOf g → dom = domainOf g.hdr v → d.holdOf dom = none → j = { frame := f, domain := dom, vlan := v, decided := false, waits := none, dests := [], token := none, stuck := false, passed := false, view := g.hdr, due := s.dev.tb + 100 } → d2 = d.onPke (fun p => { p with jobs := p.jobs ++ [j] }) →
    Becomes (.pkeAdmit) s (if d2.jobTurn j then d2.decideJob j false else d2)) ∧
  (∀ (s : State) (id : Nat) (j : PkeJob) (k : FlowKey) (d1 : Dev), s.dev.pke.jobs.find? (fun j => decide (j.frame.id = id)) = some j → j.waits = some k → s.dev.mem.ddr = .serving → d1 = s.dev.bucketRead k.bucket →
    Becomes (.flowBucketReadDone id) s ((d1.decideJob j true).decideBehind j.domain d1.pke.jobs.length)) ∧
  (∀ (s : State) (id : Nat) (j : PkeJob) (d1 : Dev) (first : Bool) (d2 : Dev), s.dev.pke.jobs.find? (fun j => decide (j.frame.id = id)) = some j → ((s.dev.pke.jobs.takeWhile (fun x => decide (x.frame.id ≠ id))).any (fun x => decide (x.domain = j.domain))) = false → j.decided = true → s.dev.ready .tmg = true → (s.dev.at_ j.due).handOff j (!j.passed) j.dests = (d1, [], first) → d2 = d1.onPke (fun p => { p with jobs := p.jobs.filter (fun x => decide (x.frame.id ≠ id)) }) →
    Becomes (.sequenceRelease id) s (if first && j.dests.isEmpty then d2.dropFrame j.frame else d2)) ∧
  (∀ (s : State) (id : Nat) (j : PkeJob) (d1 : Dev) (first : Bool) (x : Dest) (xs : List Dest), s.dev.pke.jobs.find? (fun j => decide (j.frame.id = id)) = some j → ((s.dev.pke.jobs.takeWhile (fun x => decide (x.frame.id ≠ id))).any (fun x => decide (x.domain = j.domain))) = false → j.decided = true → s.dev.ready .tmg = true → (s.dev.at_ j.due).handOff j (!j.passed) j.dests = (d1, x :: xs, first) →
    Becomes (.sequenceRelease id) s (d1.setJob id (fun y => { y with dests := x :: xs, stuck := true, passed := !first }))) ∧
  (∀ (s : State) (n : Nat) (ws : List Word) (h : Hdr) (d e : Dev) (w : List Word) (len : Nat) (f : InFrame), s.dev.takesData n = true → d = s.dev.tookData n → w = typed 0x30 ws → bitOf (word w 0) 9 = false → bitOf (word w 0) 8 = false → len = bitsOf (word w 0) 31 16 → outside len 60 10236 = false → d.inkRoom 5 (cellsOf (len + 4)) = true → f = { id := d.tmg.nextFid, source := 10, hdr := { h with len := len + 4 }, time := d.tb, sta := none, tid := 0, bss := 0, direct := none, cells := cellsOf (len + 4), share := 5, icls := 0, ring := some n } → e = ((d.nextFid.submitted n f.id).cellsTake 5 f.cells none).onPke (fun p => { p with waiting := tabPut p.waiting 10 (tabGet [] p.waiting 10 ++ [f]) }) →
    Becomes (.hostFrameSend n ws h) s (e.complete n f.id (e.sendWords (word w 1) RC.OK))) ∧
  (∀ (s : State) (n : Nat) (ws : List Word) (h : Hdr) (d e : Dev) (w : List Word) (len : Nat) (port : Nat) (f : InFrame), s.dev.takesData n = true → d = s.dev.tookData n → w = typed 0x30 ws → bitOf (word w 0) 9 = false → bitOf (word w 0) 8 = true → len = bitsOf (word w 0) 31 16 → port = bitsOf (word w 4) 19 16 → d.present (.eth port) = true → outside len 60 (d.fld (A.ETH.MAX_FRAME port) 13 0 - 4) = false → d.inkRoom 5 (cellsOf (len + 4)) = true → f = { id := d.tmg.nextFid, source := 10, hdr := { h with len := len + 4 }, time := d.tb, sta := none, tid := 0, bss := 0, direct := some (port, bitsOf (word w 4) 22 20), cells := cellsOf (len + 4), share := 5, icls := 0, ring := some n } → e = ((d.nextFid.submitted n f.id).cellsTake 5 f.cells none).onPke (fun p => { p with waiting := tabPut p.waiting 10 (tabGet [] p.waiting 10 ++ [f]) }) →
    Becomes (.hostFrameSend n ws h) s (e.complete n f.id (e.sendWords (word w 1) RC.OK))) ∧
  (∀ (s : State) (n : Nat) (ws : List Word) (d e : Dev) (w : List Word) (len : Nat) (x : Hold) (f : InFrame), s.dev.takesData n = true → d = s.dev.tookData n → w = typed 0x30 ws → bitOf (word w 0) 9 = true → bitOf (word w 0) 8 = false → len = bitsOf (word w 0) 31 16 → outside len 60 10236 = false → d.inkRoom 5 (cellsOf (len + 4)) = true → tabFind d.pke.holds (bitsOf (word w 4) 15 0) = some x → f = { id := d.tmg.nextFid, source := x.frame.source, hdr := { Hdr.none with len := len + 4 }, time := d.tb, sta := x.frame.sta, tid := x.frame.tid, bss := x.frame.bss, direct := none, cells := cellsOf (len + 4), share := 5, icls := 0, ring := none } → e = (((d.nextFid.submitted n f.id).cellsTake 5 f.cells none).endHold (bitsOf (word w 4) 15 0) (some f)) →
    Becomes (.holdRelease n ws) s (e.complete n f.id (e.sendWords (word w 1) RC.OK))) ∧
  (∀ (s : State) (n : Nat) (ws : List Word) (d e : Dev) (w : List Word) (len : Nat) (x : Hold), s.dev.takesData n = true → d = s.dev.tookData n → w = typed 0x30 ws → bitOf (word w 0) 9 = true → bitOf (word w 0) 8 = false → len = bitsOf (word w 0) 31 16 → len = 0 → tabFind d.pke.holds (bitsOf (word w 4) 15 0) = some x → e = (d.nextFid.submitted n d.tmg.nextFid).endHold (bitsOf (word w 4) 15 0) none →
    Becomes (.holdRelease n ws) s (e.complete n d.tmg.nextFid (e.sendWords (word w 1) RC.OK))) ∧
  (∀ (s : State) (t : Nat) (x : Hold), tabFind s.dev.pke.holds t = some x →
    Becomes (.holdTimeout t) s (((s.dev.at_ x.due).endHold t none).count A.PKE.HOLD_TIMEOUT_CNT)) ∧
  (∀ (s : State) (n : Nat) (ws w : List Word) (d : Dev), s.dev.takesData n = true → d = s.dev.tookData n → w = typed 0x40 ws →
    Becomes (.hBufferPost n ws) s ((d.nextFid.submitted n d.tmg.nextFid).onPke (fun p => { p with hBufs := p.hBufs ++ [{ ring := n, cookie := word w 1, size := bitsOf (word w 0) 31 16, buf := pair w 2, sid := d.tmg.nextFid }] })).hostServe) ∧
  (∀ (s : State) (k : FlowKey) (x : Flow), s.dev.flow k = some x → x.idleS ≠ 0 → s.dev.serving = true →
    Becomes (.flowScan k) s (((s.dev.at_ (x.used + sT x.idleS)).flowDrop k).notice 0x10 (k.toWords ++ two64 x.packets ++ two64 x.bytes))) ∧
  (∀ (s : State) (vlan mac age : Nat) (e : L2Ent), age = s.dev.fld A.PKE.L2_CFG 31 16 → tabFind s.dev.pke.l2 (l2Key vlan mac) = some e → e.static = false → age ≠ 0 →
    Becomes (.l2AgeOut vlan mac) s (((s.dev.at_ (e.used + sT age)).onPke (fun p => { p with l2 := tabDel p.l2 (l2Key vlan mac) })).l2Eased))

/-- The commands that set, delete, flush or read the L2, VLAN, interface, next-hop, route, ACL, local, map and flow tables
complete for operands in range, with the entry each writes or reads. Each clause gives the conditions on the state and the
operands, and the whole next state: the device it names with the reply on its way, every other part as before. -/
def Obligations.PacketTablesComplete : Prop :=
  (∀ (σ : State) (rq : Rq) (ws : List Word), σ.dev.serves .pke = true →
    let d := σ.dev.asked .pke
    let w := word ws 0
    let k := l2Key (bitsOf w 11 0) (macAt ws 1)
    let kind := bitsOf w 15 14
    let i := bitsOf w 26 16
    let old := tabFind d.pke.l2 k
    let bad := decide (kind = 3) || (decide (kind = 0) && decide (9 < i)) || (decide (kind = 1) && decide (1023 < i))
      || (decide (kind = 2) && decide (i ≠ 0))
    σ.dev.takes rq OP.COMMAND ws.length 0 = true →
    ¬ (ws.length ≠ 3) →
    (decide (kind = 0) && decide (i < 10) && !d.present (.eth i)) = false →
    (!bitOf w 12 && old.isNone) = false →
    (extra w 0x07FFFFFF || extra (word ws 2) 0xFFFF || (bitOf w 12 && bad)) = false →
    (bitOf w 12 && old.isNone && d.l2Full k) = false →
    Performs (.l2Set rq ws) σ rq OP.COMMAND [] .pke (fun d =>
      let w := word ws 0
      let k := l2Key (bitsOf w 11 0) (macAt ws 1)
      let kind := bitsOf w 15 14
      let i := bitsOf w 26 16
      let e : L2Ent := { kind := kind, index := i, static := bitOf w 13, used := d.tb }
      if bitOf w 12 then d.onPke (fun p => { p with l2 := tabPut p.l2 k e })
      else (d.onPke (fun p => { p with l2 := tabDel p.l2 k })).l2Eased)) ∧
  (∀ (σ : State) (rq : Rq) (ws : List Word), σ.dev.serves .pke = true →
    let d := σ.dev.asked .pke
    let w := word ws 0
    let v : Vlan := { learn := bitOf w 13, isolate := bitOf w 14, floodH := bitOf w 15, iface := bitsOf w 23 16,
                      members := bitsOf (word ws 1) 10 0, untagged := bitsOf (word ws 1) 25 16,
                      bss := (word ws 2).toNat + 2 ^ 32 * bitsOf (word ws 3) 15 0 }
    let absent := (List.range 10).any (fun n => (v.members.testBit n || v.untagged.testBit n) && !d.present (.eth n))
    σ.dev.takes rq OP.COMMAND ws.length 0 = true →
    ¬ (ws.length ≠ 4) →
    absent = false →
    (extra w 0x00FFFFFF || extra (word ws 1) 0x03FF07FF || extra (word ws 3) 0xFFFF) = false →
    Performs (.vlanSet rq ws) σ rq OP.COMMAND [] .pke (fun d =>
      let w := word ws 0
      let v : Vlan := { learn := bitOf w 13, isolate := bitOf w 14, floodH := bitOf w 15, iface := bitsOf w 23 16,
                        members := bitsOf (word ws 1) 10 0, untagged := bitsOf (word ws 1) 25 16,
                        bss := (word ws 2).toNat + 2 ^ 32 * bitsOf (word ws 3) 15 0 }
      d.onPke (fun p => { p with vlans := if bitOf w 12 then tabPut p.vlans (bitsOf w 11 0) v else tabDel p.vlans (bitsOf w 11 0) }))) ∧
  (∀ (σ : State) (rq : Rq) (ws : List Word), σ.dev.serves .pke = true →
    let d := σ.dev.asked .pke
    let w := word ws 0
    let s := bitsOf w 3 0
    σ.dev.takes rq OP.COMMAND ws.length 0 = true →
    ¬ (ws.length ≠ 1) →
    (decide (s < 10) && !d.present (.eth s)) = false →
    (extra w 0x0073FFFF || decide (10 < s) || decide (bitsOf w 17 16 = 3)) = false →
    Performs (.portVlan rq ws) σ rq OP.COMMAND [] .pke (fun d =>
      let w := word ws 0
      let s := bitsOf w 3 0
      d.onPke (fun p => { p with portVlan := tabPut p.portVlan s { pvid := bitsOf w 15 4, accept := bitsOf w 17 16, cls := bitsOf w 22 20 } }))) ∧
  (∀ (σ : State) (rq : Rq) (ws : List Word), σ.dev.serves .pke = true →
    let w := word ws 0
    σ.dev.takes rq OP.COMMAND ws.length 0 = true →
    ¬ (ws.length ≠ 1) →
    (extra w 0x0FFF00F3 || decide (bitsOf w 1 0 = 3)) = false →
    Performs (.bssVlan rq ws) σ rq OP.COMMAND [] .pke (fun d =>
      let w := word ws 0
      d.onPke (fun p => { p with bssVlan := tabSet 0 p.bssVlan (16 * bitsOf w 1 0 + bitsOf w 7 4) (bitsOf w 27 16) }))) ∧
  (∀ (σ : State) (rq : Rq) (ws : List Word), σ.dev.serves .pke = true →
    let w := word ws 0
    σ.dev.takes rq OP.COMMAND ws.length 0 = true →
    ¬ (ws.length ≠ 1) →
    (extra w 0x0FFF07FF || decide (1023 < bitsOf w 10 0)) = false →
    Performs (.staVlan rq ws) σ rq OP.COMMAND [] .pke (fun d =>
      let w := word ws 0
      d.onPke (fun p => { p with staVlan := tabSet 0 p.staVlan (bitsOf w 10 0) (bitsOf w 27 16) }))) ∧
  (∀ (σ : State) (rq : Rq) (ws : List Word), σ.dev.serves .pke = true →
    let w := word ws 0
    let x : Iface := { nat := bitOf w 9, vlan := bitsOf w 27 16, mac := macAt ws 1, mtu := bitsOf (word ws 3) 13 0 }
    σ.dev.takes rq OP.COMMAND ws.length 0 = true →
    ¬ (ws.length ≠ 4) →
    (extra w 0x0FFF03FF || extra (word ws 2) 0xFFFF || extra (word ws 3) 0x3FFF
               || (bitOf w 8 && outside x.mtu 576 9216)) = false →
    Performs (.ifSet rq ws) σ rq OP.COMMAND [] .pke (fun d =>
      let w := word ws 0
      let x : Iface := { nat := bitOf w 9, vlan := bitsOf w 27 16, mac := macAt ws 1, mtu := bitsOf (word ws 3) 13 0 }
      d.onPke (fun p => { p with ifaces := if bitOf w 8 then tabPut p.ifaces (bitsOf w 7 0) x else tabDel p.ifaces (bitsOf w 7 0) }))) ∧
  (∀ (σ : State) (rq : Rq) (ws : List Word), σ.dev.serves .pke = true →
    let w := word ws 0
    σ.dev.takes rq OP.COMMAND ws.length 0 = true →
    ¬ (ws.length ≠ 3) →
    (extra w 0x00FF3FFF || extra (word ws 2) 0xFFFF) = false →
    Performs (.nhSet rq ws) σ rq OP.COMMAND [] .pke (fun d =>
      let w := word ws 0
      let x : NextHop := { resolved := bitOf w 13, iface := bitsOf w 23 16, mac := macAt ws 1 }
      d.onPke (fun p => { p with nexthops := if bitOf w 12 then tabPut p.nexthops (bitsOf w 11 0) x else tabDel p.nexthops (bitsOf w 11 0) }))) ∧
  (∀ (σ : State) (rq : Rq) (ws : List Word), σ.dev.serves .pke = true →
    let d := σ.dev.asked .pke
    let v6 := (routeOf ws).1
    let len := (routeOf ws).2.1
    let p := (routeOf ws).2.2.1
    let bad := (routeOf ws).2.2.2
    let rs := if v6 then d.pke.routes6 else d.pke.routes4
    let same (x : Route) : Bool := decide (x.prefx = p ∧ x.len = len)
    σ.dev.takes rq OP.COMMAND ws.length 0 = true →
    ¬ (ws.length ≠ 5) →
    (extra (word ws 0) 0x0FFF01FF || bad) = false →
    (!rs.any same && decide ((if v6 then 8192 else 16384) ≤ rs.length)) = false →
    Performs (.routeAdd rq ws) σ rq OP.COMMAND [] .pke (fun d =>
      let v6 := (routeOf ws).1
      let len := (routeOf ws).2.1
      let p := (routeOf ws).2.2.1
      let rs := if v6 then d.pke.routes6 else d.pke.routes4
      let r : Route := { prefx := p, len := len, nh := bitsOf (word ws 0) 27 16 }
      let same (x : Route) : Bool := decide (x.prefx = p ∧ x.len = len)
      let rs' := if rs.any same then rs.map (fun x => if same x then r else x) else rs ++ [r]
      d.onPke (fun k => if v6 then { k with routes6 := rs' } else { k with routes4 := rs' }))) ∧
  (∀ (σ : State) (rq : Rq) (ws : List Word), σ.dev.serves .pke = true →
    let d := σ.dev.asked .pke
    let v6 := (routeOf ws).1
    let len := (routeOf ws).2.1
    let p := (routeOf ws).2.2.1
    let bad := (routeOf ws).2.2.2
    let rs := if v6 then d.pke.routes6 else d.pke.routes4
    let same (x : Route) : Bool := decide (x.prefx = p ∧ x.len = len)
    σ.dev.takes rq OP.COMMAND ws.length 0 = true →
    ¬ (ws.length ≠ 5) →
    (extra (word ws 0) 0x0FFF01FF || bad) = false →
    (!rs.any same) = false →
    Performs (.routeDel rq ws) σ rq OP.COMMAND [] .pke (fun d =>
      let v6 := (routeOf ws).1
      let len := (routeOf ws).2.1
      let p := (routeOf ws).2.2.1
      let rs := if v6 then d.pke.routes6 else d.pke.routes4
      let same (x : Route) : Bool := decide (x.prefx = p ∧ x.len = len)
      let rs' := rs.filter (fun x => !same x)
      d.onPke (fun k => if v6 then { k with routes6 := rs' } else { k with routes4 := rs' }))) ∧
  (∀ (σ : State) (rq : Rq) (ws : List Word), σ.dev.serves .pke = true →
    let w := word ws 0
    σ.dev.takes rq OP.COMMAND ws.length 0 = true →
    ¬ (ws.length ≠ 24) →
    (extra w 0x3FFFFFFF || decide (3 < bitsOf w 15 12) || extra (word ws 1) 0x00FF0FFF || extra (word ws 2) 0x0FFF0FFF
               || extra (word ws 4) 0x3F3FFFFF || extra (word ws 5) 0xFFFF) = false →
    Performs (.aclSet rq ws) σ rq OP.COMMAND [] .pke (fun d =>
      let w := word ws 0
      let i := bitsOf w 10 0
      d.onPke (fun p => { p with acl := if bitOf w 11 then tabPut p.acl i { words := ws } else tabDel p.acl i }))) ∧
  (∀ (σ : State) (rq : Rq) (ws : List Word), σ.dev.serves .pke = true →
    let w := word ws 0
    let kind := bitsOf w 7 6
    σ.dev.takes rq OP.COMMAND ws.length 0 = true →
    ¬ (ws.length ≠ 5) →
    (extra w 0xFF || decide (kind = 3) || (decide (kind = 0) && extra (word ws 2) 0xFFFF)
               || (decide (kind = 1) && decide (word ws 2 ≠ 0)) || (decide (kind ≠ 2) && decide (word ws 3 ≠ 0 ∨ word ws 4 ≠ 0))) = false →
    Performs (.localSet rq ws) σ rq OP.COMMAND [] .pke (fun d =>
      let w := word ws 0
      let kind := bitsOf w 7 6
      let a := if kind = 0 then macAt ws 1 else if kind = 1 then (word ws 1).toNat else ip6At ws 1
      d.onPke (fun p => { p with locals := if bitOf w 5 then tabPut p.locals (bitsOf w 4 0) { kind := kind, addr := a }
                                           else tabDel p.locals (bitsOf w 4 0) }))) ∧
  (∀ (σ : State) (rq : Rq) (ws : List Word), σ.dev.serves .pke = true →
    let w := word ws 0
    let pcp := bitOf w 6
    let i := bitsOf w 5 0
    let e : MapEnt := { cls := bitsOf w 10 8, color := bitsOf w 13 12 }
    σ.dev.takes rq OP.COMMAND ws.length 0 = true →
    ¬ (ws.length ≠ 1) →
    (extra w 0x377F || (pcp && decide (7 < i)) || decide (e.color = 3)) = false →
    Performs (.mapSet rq ws) σ rq OP.COMMAND [] .pke (fun d =>
      let w := word ws 0
      let pcp := bitOf w 6
      let i := bitsOf w 5 0
      let e : MapEnt := { cls := bitsOf w 10 8, color := bitsOf w 13 12 }
      d.onPke (fun p => if pcp then { p with pcpMap := tabPut p.pcpMap i e } else { p with dscpMap := tabPut p.dscpMap i e }))) ∧
  (∀ (σ : State) (rq : Rq) (ws : List Word), σ.dev.serves .pke = true →
    let w := word ws 0
    σ.dev.takes rq OP.COMMAND ws.length 0 = true →
    ¬ (ws.length ≠ 1) →
    (extra w 0x1FFF) = false →
    Performs (.l2Flush rq ws) σ rq OP.COMMAND [] .pke (fun d =>
      let w := word ws 0
      let d1 := d.onPke (fun p => { p with l2 := p.l2.filter (fun e =>
        e.2.static || (!bitOf w 12 && decide (e.1 / 2 ^ 48 ≠ bitsOf w 11 0))) })
      d1.l2Eased)) ∧
  (∀ (s : State) (rq : Rq) (ws : List Word) (d : Dev) (k : FlowKey) (w : Word), s.dev.serves .pke = true → d = s.dev.asked .pke → s.dev.takes rq OP.COMMAND ws.length 0 = true →
    ws.length = 14 → k = flowKeyOf ws → w = word ws 10 → flowKeyBad ws = false → extra w 0x0FFF001F = false → extra (word ws 11) 0x1FFFF = false → bitsOf w 1 0 ≠ 3 →
    (bitOf w 2 && bitOf w 3) = false → ((bitOf w 2 || bitOf w 3) && k.v6) = false → d.serving = true → d.rangePoisoned (d.bucketAddr k.bucket) 256 = false →
    ((d.pke.flows.filter (fun y => decide (y.key ≠ k))).filter (fun y => decide (y.key.bucket = k.bucket))).length < 4 →
    Performs (.flowAdd rq ws) s rq OP.COMMAND [] .pke (fun d => (List.range 4).foldl (fun e i => e.setPoison (e.bucketAddr k.bucket + 64 * i) false)
      ((d.flowDrop k).onPke (fun p => { p with flows := p.flows ++ [{ key := k, w10 := w, w11 := word ws 11, natAddr := (word ws 12).toNat, natPort := bitsOf (word ws 13) 15 0, idleS := bitsOf (word ws 13) 31 16, packets := 0, bytes := 0, used := d.tb }] })))) ∧
  (∀ (s : State) (rq : Rq) (ws : List Word) (d : Dev) (k : FlowKey) (x : Flow), s.dev.serves .pke = true → d = s.dev.asked .pke → s.dev.takes rq OP.COMMAND ws.length 0 = true →
    ws.length = 10 → k = flowKeyOf ws → flowKeyBad ws = false → d.serving = true → d.rangePoisoned (d.bucketAddr k.bucket) 256 = false → d.flow k = some x →
    Performs (.flowDel rq ws) s rq OP.COMMAND [] .pke (fun d => d.flowDrop k)) ∧
  (∀ (s : State) (rq : Rq) (ws : List Word) (d : Dev) (k : FlowKey) (x : Flow), s.dev.serves .pke = true → d = s.dev.asked .pke → s.dev.takes rq OP.COMMAND ws.length 18 = true →
    ws.length = 10 → k = flowKeyOf ws → flowKeyBad ws = false → d.serving = true → d.rangePoisoned (d.bucketAddr k.bucket) 256 = false → d.flow k = some x →
    Performs (.flowGet rq ws) s rq OP.COMMAND (k.toWords ++ [x.w10, x.w11, wd x.natAddr, wd (x.natPort + 2 ^ 16 * x.idleS)] ++ two64 x.packets ++ two64 x.bytes) .pke (fun d => d))

/-- Port mode, link up and down, each kind of received frame, pause and PFC refresh, reception and expiry, preemption
verification, LPI, the MAC address and PTP frames have the effect R317 to R329, R333 and R334 give. Each clause gives the
conditions on the state and the operands, and the whole next state: the device it names with the reply on its way, every other
part as before. -/
def Obligations.EthernetPortCommandsComplete : Prop :=
  (∀ (s : State) (rq : Rq) (n : Nat) (v : Word), n < 10 → s.dev.accepts rq (A.ETH.MODE n) (v) (.eth n) = true →
    Performs (.ethModeWrite rq n v) s rq OP.WRITE [] (.eth n) (fun d => if d.rd (A.ETH.MODE n) = (d.stored (.eth n) (A.ETH.MODE n) v).rd (A.ETH.MODE n) then d.stored (.eth n) (A.ETH.MODE n) v else (d.stored (.eth n) (A.ETH.MODE n) v).linkLost n)) ∧
  (∀ (s : State) (n an r : Nat) (d1 d2 : Dev), s.dev.present (.eth n) = true → (s.dev.blk (.eth n)).enable = true → (s.dev.ethPort n).link = false → (s.dev.blk (.eth n)).selftest = false → s.dev.ethRate n an = some r → d1 = (s.dev.hwWake (.eth n)).onEth n (fun p => { p with link := true, rate := r, localFault := false, remoteFault := false, fecLock := decide (s.dev.fld (A.ETH.MODE n) 5 4 ≠ 0), idleAt := s.dev.tb }) → d2 = (d1.verifyStart n).raise (.eth n) Cause.ETH.LINK_CHANGE →
    Becomes (.linkUp n an) s (((List.range 8).foldl (fun d c => d.fcJudge n c) (if d2.strideOn n then d2.strideOffer n else d2)).uplinkWatch)) ∧
  (∀ (s : State) (n : Nat) (loc rem : Bool), s.dev.present (.eth n) = true →
    Becomes (.linkDown n loc rem) s ((s.dev.linkLost n).onEth n (fun p => { p with localFault := loc, remoteFault := rem }))) ∧
  (∀ (s : State) (n : Nat) (p : EthPort) (h : Hdr) (fcs pre re : Bool) (age : Nat), p = s.dev.ethPort n → p.link = true → p.relocking = false → (re || (pre && !p.partnerOk)) = true →
    Becomes (.ethRxFrame n (.frame h fcs pre re age)) s (s.dev.count (A.ETH.RX_REASM_ERR_CNT n))) ∧
  (∀ (s : State) (n : Nat) (p : EthPort) (h : Hdr) (fcs pre re : Bool) (age : Nat), p = s.dev.ethPort n → p.link = true → p.relocking = false → re = false → (pre && !p.partnerOk) = false → h.len < 64 →
    Becomes (.ethRxFrame n (.frame h fcs pre re age)) s (s.dev.count (A.ETH.RX_RUNT_CNT n))) ∧
  (∀ (s : State) (n : Nat) (p : EthPort) (h : Hdr) (fcs pre re : Bool) (age : Nat), p = s.dev.ethPort n → p.link = true → p.relocking = false → re = false → (pre && !p.partnerOk) = false → ¬ h.len < 64 → s.dev.fld (A.ETH.MAX_FRAME n) 13 0 < h.len →
    Becomes (.ethRxFrame n (.frame h fcs pre re age)) s (s.dev.count (A.ETH.RX_OVERSIZE_CNT n))) ∧
  (∀ (s : State) (n : Nat) (p : EthPort) (h : Hdr) (fcs pre re : Bool) (age : Nat), p = s.dev.ethPort n → p.link = true → p.relocking = false → re = false → (pre && !p.partnerOk) = false → ¬ h.len < 64 → ¬ s.dev.fld (A.ETH.MAX_FRAME n) 13 0 < h.len → fcs = false →
    Becomes (.ethRxFrame n (.frame h fcs pre re age)) s (s.dev.count (A.ETH.RX_FCS_ERR_CNT n))) ∧
  (∀ (s : State) (n : Nat) (p : EthPort) (h : Hdr) (fcs pre re : Bool) (age : Nat), p = s.dev.ethPort n → p.link = true → p.relocking = false → re = false → (pre && !p.partnerOk) = false → ¬ h.len < 64 → ¬ s.dev.fld (A.ETH.MAX_FRAME n) 13 0 < h.len → fcs = true → s.dev.inkRoom 0 (cellsOf h.len) = false →
    Becomes (.ethRxFrame n (.frame h fcs pre re age)) s (s.dev.count (A.ETH.RX_OVERFLOW_CNT n))) ∧
  (∀ (s : State) (n : Nat) (p : EthPort) (h : Hdr) (fcs pre re : Bool) (age : Nat), p = s.dev.ethPort n → p.link = true → p.relocking = false → re = false → (pre && !p.partnerOk) = false → ¬ h.len < 64 → ¬ s.dev.fld (A.ETH.MAX_FRAME n) 13 0 < h.len → fcs = true → s.dev.inkRoom 0 (cellsOf h.len) = true → h.etype = 0x8808 →
    Becomes (.ethRxFrame n (.frame h fcs pre re age)) s (s.dev.count (A.ETH.RX_CTRL_OTHER_CNT n))) ∧
  (∀ (s : State) (n : Nat) (p : EthPort) (h : Hdr) (fcs pre re : Bool) (age : Nat), p = s.dev.ethPort n → p.link = true → p.relocking = false → re = false → (pre && !p.partnerOk) = false → ¬ h.len < 64 → ¬ s.dev.fld (A.ETH.MAX_FRAME n) 13 0 < h.len → fcs = true → s.dev.inkRoom 0 (cellsOf h.len) = true → h.etype ≠ 0x8808 → n < 2 ∧ h.etype = 0x88B6 ∧ h.dst = 0x0180C200000E →
    Becomes (.ethRxFrame n (.frame h fcs pre re age)) s (s.dev.count (A.ETH.STRIDE_RX_CNT n))) ∧
  (∀ (s : State) (n : Nat) (p : EthPort) (h : Hdr) (fcs pre re : Bool) (age : Nat), p = s.dev.ethPort n → p.link = true → p.relocking = false → re = false → (pre && !p.partnerOk) = false → ¬ h.len < 64 → ¬ s.dev.fld (A.ETH.MAX_FRAME n) 13 0 < h.len → fcs = true → s.dev.inkRoom 0 (cellsOf h.len) = true → h.etype ≠ 0x8808 → ¬ (n < 2 ∧ h.etype = 0x88B6 ∧ h.dst = 0x0180C200000E) →
    Becomes (.ethRxFrame n (.frame h fcs pre re age)) s (((s.dev.hwWake (.eth n)).hwWake .pke).ethAccept n h age)) ∧
  (∀ (s : State) (n : Nat) (p : EthPort), p = s.dev.ethPort n → p.link = true → p.relocking = false →
    Becomes (.ethRxFrame n .verify) s ((s.dev.onEth n (fun p => { p with partnerOk := true })).ctlSend n .respond)) ∧
  (∀ (s : State) (n : Nat) (p : EthPort), p = s.dev.ethPort n → p.link = true → p.relocking = false → p.verify = 1 →
    Becomes (.ethRxFrame n .respond) s (s.dev.onEth n (fun p => { p with verify := 2 }))) ∧
  (∀ (s : State) (n : Nat) (p : EthPort) (on : Bool), p = s.dev.ethPort n → p.link = true → p.relocking = false →
    Becomes (.ethRxFrame n (.lpi on)) s (s.dev.onEth n (fun p => { p with lpiRx := on }))) ∧
  (∀ (s : State) (n c t : Nat) (e : Nat × Nat) (rest : Tab Nat) (d1 : Dev), (s.dev.ethPort n).xoff = e :: rest → s.dev.fcMode n ≠ 0 → (s.dev.ethPort n).link = true → (c, t) = rest.foldl (fun m e => if e.2 < m.2 then e else m) e → d1 = s.dev.at_ t →
    Becomes (.xoffRefresh n) s (if d1.fcBelow n c then d1.fcXon n c else d1.fcXoff n c)) ∧
  (∀ (s : State) (n dst q : Nat), (s.dev.ethPort n).link = true → s.dev.fcMode n = 1 → s.dev.ctrlMine n dst = true →
    Becomes (.pauseRx n dst q) s ((s.dev.count (A.ETH.RX_PAUSE_CNT n)).pauseClasses n ((List.range 8).map (fun c => (c, q % 65536))))) ∧
  (∀ (s : State) (n dst q : Nat), (s.dev.ethPort n).link = true → ¬ (s.dev.fcMode n = 1 ∧ s.dev.ctrlMine n dst = true) →
    Becomes (.pauseRx n dst q) s (s.dev.count (A.ETH.RX_CTRL_OTHER_CNT n))) ∧
  (∀ (s : State) (n dst en : Nat) (ts : List Nat), (s.dev.ethPort n).link = true → s.dev.fcMode n = 2 → s.dev.ctrlMine n dst = true →
    Becomes (.pfcRx n dst en ts) s ((s.dev.count (A.ETH.RX_PFC_CNT n)).pauseClasses n (((List.range 8).filter (fun c => en.testBit c)).map (fun c => (c, ts.getD c 0 % 65536))))) ∧
  (∀ (s : State) (n dst en : Nat) (ts : List Nat), (s.dev.ethPort n).link = true → ¬ (s.dev.fcMode n = 2 ∧ s.dev.ctrlMine n dst = true) →
    Becomes (.pfcRx n dst en ts) s (s.dev.count (A.ETH.RX_CTRL_OTHER_CNT n))) ∧
  (∀ (s : State) (n c t : Nat), tabFind (s.dev.ethPort n).paused c = some t →
    Becomes (.pauseTimerExpiry n c) s (((s.dev.at_ t).onEth n (fun p => { p with paused := tabDel p.paused c })).settle (8256 + 8 * n + c))) ∧
  (∀ (s : State) (n : Nat) (d1 : Dev), (s.dev.ethPort n).verify = 1 → (s.dev.ethPort n).attempts < 3 → d1 = s.dev.at_ (s.dev.ethPort n).verifyDue →
    Becomes (.verifyTimer n) s ((d1.onEth n (fun p => { p with attempts := p.attempts + 1, verifyDue := d1.tb + msT (s.dev.fld (A.ETH.PREEMPT_CFG n) 23 16) })).ctlSend n .verify)) ∧
  (∀ (s : State) (n : Nat), (s.dev.ethPort n).verify = 1 → 3 ≤ (s.dev.ethPort n).attempts →
    Becomes (.verifyTimer n) s ((((s.dev.at_ (s.dev.ethPort n).verifyDue).onEth n (fun p => { p with verify := 3 })).count (A.ETH.VERIFY_FAIL_CNT n)).raise (.eth n) Cause.ETH.VERIFY_FAIL)) ∧
  (∀ (s : State) (n : Nat) (p : EthPort), p = s.dev.ethPort n → p.link = true → s.dev.bit (A.ETH.EEE_CFG n) 0 = true → s.dev.lpiMode n = true → p.tx = none → p.suspended = none → p.stride = none → p.waking = none → p.lpiTx = false → p.ctl = [] → ((List.range 8).any (fun c => (s.dev.ethEligible n c).isSome)) = false →
    Becomes (.lpiEntry n) s ((((s.dev.at_ (p.idleAt + usT (s.dev.fld (A.ETH.EEE_CFG n) 23 8))).onEth n (fun p => { p with lpiTx := true })).emit (.eth n (.lpi true))).count (A.ETH.LPI_TX_CNT n))) ∧
  (∀ (s : State) (n t : Nat), (s.dev.ethPort n).waking = some t →
    Becomes (.lpiWakeDone n) s (((s.dev.at_ t).onEth n (fun p => { p with waking := none, idleAt := max s.dev.tb t })).ctlFlush n)) ∧
  (∀ (s : State) (rq : Rq) (n : Nat) (hi : Bool) (v : Word), n < 10 → s.dev.accepts rq (if hi then A.ETH.MAC_HI n else A.ETH.MAC_LO n) (v) (.eth n) = true →
    Performs (.ethMacWrite rq n hi v) s rq OP.WRITE [] (.eth n) (fun d => d.stored (.eth n) (if hi then A.ETH.MAC_HI n else A.ETH.MAC_LO n) v)) ∧
  (∀ (s : State) (n : Nat) (h : Hdr) (fcs : Bool) (x : PtpIn), (s.dev.ptpFrame n h && s.dev.ethGood n h fcs) = false →
    Becomes (.ptpFrameRx n h fcs x) s (effEthRxFrame n (.frame h fcs false false 0) s.dev)) ∧
  (∀ (s : State) (n : Nat) (h : Hdr) (x : PtpIn) (d d2 : Dev), s.dev.ptpFrame n h = true → s.dev.ethGood n h true = true → d = effEthRxFrame n (.frame h true false false 0) s.dev → d2 = d.onTmu (fun t => { t with ptpRole := x.role, ptpSteps := x.steps, hops := if x.role = 1 then 0 else t.hops }) →
    Becomes (.ptpFrameRx n h true x) s (match x.role, x.theta with
      | 2, some th => d2.servoSample 1 th s.dev.syncTicks (min 255 (x.steps + 1))
      | _, _ => d2))

/-- A Stride request of another version, one that meets a handshake in progress, and one for a target or a code the port does
not take are answered with a NAK of reason 3, 1 or 2 and change nothing else (R330 to R332). Each clause gives the conditions on
the state and the operands, and the whole next device. -/
def Obligations.StrideRefusals : Prop :=
  (∀ (s : State) (n ver target fec xid src : Nat) (p : EthPort) (d1 ack : Dev), p = s.dev.ethPort n → p.link = true → n < 2 → d1 = s.dev.count (A.ETH.STRIDE_RX_CNT n) → ack = (d1.onEth n (fun p => { p with stride := some { initiator := false, target := target, fec := strideFec ver target fec, xid := xid, phase := .acking (s.dev.fld (A.ETH.STRIDE_CFG n) 31 16) } })).strideSend n 3 xid (strideArgs ver (s.dev.strideMin n) (s.dev.strideMax n) target fec (s.dev.fld (A.ETH.STRIDE_CFG n) 31 16) 0) → s.dev.strideOn n = true → p.partner = some ver → p.stride = none → targetRate target = p.rate ∨ 1 < target ∨ strideFecOk target (strideFec ver target fec) = false →
    Becomes (.strideRequestRx n ver target fec xid src) s (d1.strideSend n 4 xid (strideArgs (p.partner.getD 0) (s.dev.strideMin n) (s.dev.strideMax n) target fec 0 2))) ∧
  (∀ (s : State) (n ver target fec xid src : Nat) (p : EthPort) (d1 ack : Dev), p = s.dev.ethPort n → p.link = true → n < 2 → d1 = s.dev.count (A.ETH.STRIDE_RX_CNT n) → ack = (d1.onEth n (fun p => { p with stride := some { initiator := false, target := target, fec := strideFec ver target fec, xid := xid, phase := .acking (s.dev.fld (A.ETH.STRIDE_CFG n) 31 16) } })).strideSend n 3 xid (strideArgs ver (s.dev.strideMin n) (s.dev.strideMax n) target fec (s.dev.fld (A.ETH.STRIDE_CFG n) 31 16) 0) → s.dev.strideOn n = true → p.partner ≠ some ver →
    Becomes (.strideRequestRx n ver target fec xid src) s (d1.strideSend n 4 xid (strideArgs (p.partner.getD 0) (s.dev.strideMin n) (s.dev.strideMax n) target fec 0 3))) ∧
  (∀ (s : State) (n ver target fec xid src : Nat) (p : EthPort) (d1 ack : Dev) (x : Stride), p = s.dev.ethPort n → p.link = true → n < 2 → d1 = s.dev.count (A.ETH.STRIDE_RX_CNT n) → ack = (d1.onEth n (fun p => { p with stride := some { initiator := false, target := target, fec := strideFec ver target fec, xid := xid, phase := .acking (s.dev.fld (A.ETH.STRIDE_CFG n) 31 16) } })).strideSend n 3 xid (strideArgs ver (s.dev.strideMin n) (s.dev.strideMax n) target fec (s.dev.fld (A.ETH.STRIDE_CFG n) 31 16) 0) → s.dev.strideOn n = true → p.partner = some ver → p.stride = some x → (x.initiator = false ∨ ∀ t, x.phase ≠ .asked t) →
    Becomes (.strideRequestRx n ver target fec xid src) s (d1.strideSend n 4 xid (strideArgs (p.partner.getD 0) (s.dev.strideMin n) (s.dev.strideMax n) target fec 0 1)))

/-- STRIDE_OFFER_TIMER, STRIDE_OFFER_RX, STRIDE_REQUEST_RX, STRIDE_ACK_RX, STRIDE_NAK_RX, STRIDE_START, STRIDE_ANSWER_TIMEOUT,
STRIDE_QUIET_START, STRIDE_SWITCH, STRIDE_BLOCK_LOCK and STRIDE_RELOCK_TIMEOUT answer the next state R330 to R332 give: the
offer sent or agreed, the request acknowledged, the exchange agreed or ended, the quiet time and the switch begun, the new mode
in force or the link lost. Each clause gives the conditions on the state and the operands, and the whole next device. -/
def Obligations.StrideCommandsComplete : Prop :=
  (∀ (s : State) (n t : Nat), (s.dev.ethPort n).offer = some t → (s.dev.ethPort n).link = true → s.dev.strideOn n = true →
    Becomes (.strideOfferTimer n) s ((s.dev.at_ t).strideOffer n)) ∧
  (∀ (s : State) (n mn mx : Nat), (s.dev.ethPort n).link = true → n < 2 → s.dev.strideOn n = true →
    Becomes (.strideOfferRx n mn mx) s ((s.dev.count (A.ETH.STRIDE_RX_CNT n)).onEth n (fun p => match agree (s.dev.strideMin n) (s.dev.strideMax n) mn mx with
      | some v => { p with partner := some v, offer := none }
      | none => { p with partner := none, offer := none, result := 5 }))) ∧
  (∀ (s : State) (n ver target fec xid src : Nat) (p : EthPort) (d1 ack : Dev), p = s.dev.ethPort n → p.link = true → n < 2 → d1 = s.dev.count (A.ETH.STRIDE_RX_CNT n) → ack = (d1.onEth n (fun p => { p with stride := some { initiator := false, target := target, fec := strideFec ver target fec, xid := xid, phase := .acking (s.dev.fld (A.ETH.STRIDE_CFG n) 31 16) } })).strideSend n 3 xid (strideArgs ver (s.dev.strideMin n) (s.dev.strideMax n) target fec (s.dev.fld (A.ETH.STRIDE_CFG n) 31 16) 0) → s.dev.strideOn n = true → p.partner = some ver → p.stride = none → targetRate target ≠ p.rate → target ≤ 1 → strideFecOk target (strideFec ver target fec) = true →
    Becomes (.strideRequestRx n ver target fec xid src) s (ack)) ∧
  (∀ (s : State) (n ver target fec xid src : Nat) (p : EthPort) (d1 ack : Dev) (x : Stride) (t : Nat), p = s.dev.ethPort n → p.link = true → n < 2 → d1 = s.dev.count (A.ETH.STRIDE_RX_CNT n) → ack = (d1.onEth n (fun p => { p with stride := some { initiator := false, target := target, fec := strideFec ver target fec, xid := xid, phase := .acking (s.dev.fld (A.ETH.STRIDE_CFG n) 31 16) } })).strideSend n 3 xid (strideArgs ver (s.dev.strideMin n) (s.dev.strideMax n) target fec (s.dev.fld (A.ETH.STRIDE_CFG n) 31 16) 0) → s.dev.strideOn n = true → p.partner = some ver → p.stride = some x → x.phase = .asked t → x.initiator = true →
    Becomes (.strideRequestRx n ver target fec xid src) s (if s.dev.ethMac n < src then ack else d1)) ∧
  (∀ (s : State) (n xid lead : Nat) (x : Stride), (s.dev.ethPort n).link = true → n < 2 → (s.dev.ethPort n).asks xid = some x →
    Becomes (.strideAckRx n xid lead) s ((s.dev.count (A.ETH.STRIDE_RX_CNT n)).onEth n (fun p => { p with stride := some { x with phase := .agreed (s.dev.tb + usT lead) } }))) ∧
  (∀ (s : State) (n xid : Nat) (x : Stride), (s.dev.ethPort n).link = true → n < 2 → (s.dev.ethPort n).asks xid = some x →
    Becomes (.strideNakRx n xid) s ((s.dev.count (A.ETH.STRIDE_RX_CNT n)).strideEnd n 3)) ∧
  (∀ (σ : State) (rq : Rq) (n : Nat) (ws : List Word), σ.dev.serves (.eth n) = true → n < 10 →
    let d := σ.dev.asked (.eth n)
    let p := d.ethPort n
    let w := word ws 0
    let target := bitsOf w 0 0
    let fec := bitsOf w 5 4
    σ.dev.takes rq OP.COMMAND ws.length 0 = true →
    ¬ (ws.length ≠ 1) →
    (!d.present (.eth n)) = false →
    (decide (n < 2) && (p.partner.isNone || !p.link || p.stride.isSome || decide (d.ethMac n = 0))) = false →
    (decide (2 ≤ n) || extra w 0x31 || decide (targetRate target = p.rate) || !strideFecOk target fec) = false →
    Performs (.strideStart rq n ws) σ rq OP.COMMAND [] (.eth n) (fun d =>
      let p := d.ethPort n
      let w := word ws 0
      let target := bitsOf w 0 0
      let fec := bitsOf w 5 4
      let ver := p.partner.getD 0
      (d.strideSend n 2 p.nextXid (strideArgs ver (d.strideMin n) (d.strideMax n) target (if ver = 1 then 0 else fec) 0 0)).onEth n
       (fun p => { p with nextXid := p.nextXid % 0xFFFFFFFF + 1,
                          stride := some { initiator := true, target := target, fec := strideFec ver target fec, xid := p.nextXid,
                                           phase := .asked (d.tb + msT 1) } }))) ∧
  (∀ (s : State) (n : Nat) (x : Stride) (t : Nat), (s.dev.ethPort n).stride = some x → x.phase = .asked t →
    Becomes (.strideAnswerTimeout n) s ((s.dev.at_ t).strideEnd n 2)) ∧
  (∀ (s : State) (n : Nat) (x : Stride) (t : Nat), (s.dev.ethPort n).stride = some x → x.phase = .agreed t →
    Becomes (.strideQuietStart n) s (((s.dev.at_ (t - (wireTicks (s.dev.ethPort n).rate (s.dev.fld (A.ETH.MAX_FRAME n) 13 0 + 20) + usT 1))).lpiLeave n).onEth n (fun p => { p with stride := some { x with phase := .quiet t } }))) ∧
  (∀ (s : State) (n : Nat) (x : Stride) (t : Nat), (s.dev.ethPort n).stride = some x → x.phase = .quiet t →
    Becomes (.strideSwitch n) s ((s.dev.at_ t).onEth n (fun p => { p with stride := some { x with phase := .relock (t + usT 200) } }))) ∧
  (∀ (s : State) (n : Nat) (x : Stride) (t : Nat), (s.dev.ethPort n).stride = some x → x.phase = .relock t →
    Becomes (.strideBlockLock n) s (((((s.dev.strideMode n x).onEth n (fun p => { p with rate := targetRate x.target, fecLock := decide (x.fec ≠ 0) })).count (A.ETH.STRIDE_CNT n)).strideEnd n 1).ctlFlush n)) ∧
  (∀ (s : State) (n : Nat) (x : Stride) (t : Nat), (s.dev.ethPort n).stride = some x → x.phase = .relock t →
    Becomes (.strideRelockTimeout n) s (((((s.dev.at_ t).strideEnd n 4).raise (.eth n) Cause.ETH.STRIDE_FAIL).strideMode n x).linkLost n))

/-- The Inkwell partition and peak registers, DDR configuration and enabling, training and its failures, initialization,
refresh, temperature, oscillator and ZQ events, read returns, CRC retries, the freeze, scrubbing, THAW, the data-plane reset and
the DRAM watchdog have the effect R336 to R352 and R499 give. Each clause gives the conditions on the state and the operands,
and the whole next state: the device it names with the reply on its way, every other part as before. -/
def Obligations.MemoryCommandsComplete : Prop :=
  (∀ (s : State) (rq : Rq) (k : Nat) (v : Word), k < 2 → s.dev.accepts rq (A.MEM.INK_PART0 + 4 * k) (v) .mem = true →
    Performs (.inkPartWrite rq k v) s rq OP.WRITE [] .mem (fun d => (d.stored .mem (A.MEM.INK_PART0 + 4 * k) v).dlAll)) ∧
  (∀ (s : State) (rq : Rq), s.dev.accepts rq (A.MEM.INK_CTRL) (1) .mem = true →
    Performs (.inkCommit rq) s rq OP.WRITE [] .mem (fun d => (d.stored .mem A.MEM.INK_CTRL 1).dlAll)) ∧
  (∀ (s : State) (rq : Rq) (k : Nat), k < 6 → s.dev.accepts rq (A.MEM.INK_USE k) (0) .mem = true →
    Performs (.inkPeakClear rq k) s rq OP.WRITE [] .mem (fun d => (d.stored .mem (A.MEM.INK_USE k) 0).onMem (fun m => { m with inkPeak := tabSet 0 m.inkPeak k (tabGet 0 m.inkUse k) }))) ∧
  (∀ (s : State) (rq : Rq) (v : Word), s.dev.accepts rq (A.MEM.DDR_CFG) (v) .mem = true →
    Performs (.ddrCfgWrite rq v) s rq OP.WRITE [] .mem (fun d => ((fun g : Dev => if bitOf (g.rd A.MEM.DDR_CFG) 8 ∧ !bitOf (d.rd A.MEM.DDR_CFG) 8 then (if g.mem.stopping then g.ddrOff else g).ddrStart else if bitOf (d.rd A.MEM.DDR_CFG) 8 ∧ !bitOf (g.rd A.MEM.DDR_CFG) 8 then g.ddrStop else g) (d.stored .mem A.MEM.DDR_CFG (v))).dlAll)) ∧
  (∀ (s : State) (rq : Rq) (v : Word), s.dev.accepts rq (A.MEM.DDR_CFG) (v ||| 0x100) .mem = true →
    Performs (.ddrEnable rq v) s rq OP.WRITE [] .mem (fun d => ((fun g : Dev => if bitOf (g.rd A.MEM.DDR_CFG) 8 ∧ !bitOf (d.rd A.MEM.DDR_CFG) 8 then (if g.mem.stopping then g.ddrOff else g).ddrStart else if bitOf (d.rd A.MEM.DDR_CFG) 8 ∧ !bitOf (g.rd A.MEM.DDR_CFG) 8 then g.ddrStop else g) (d.stored .mem A.MEM.DDR_CFG (v ||| 0x100))).dlAll)) ∧
  (∀ (s : State) (rq : Rq) (v : Word), s.dev.accepts rq (A.MEM.DDR_CFG) (v &&& 0xFFFFFEFF) .mem = true →
    Performs (.ddrDisable rq v) s rq OP.WRITE [] .mem (fun d => ((fun g : Dev => if bitOf (g.rd A.MEM.DDR_CFG) 8 ∧ !bitOf (d.rd A.MEM.DDR_CFG) 8 then (if g.mem.stopping then g.ddrOff else g).ddrStart else if bitOf (d.rd A.MEM.DDR_CFG) 8 ∧ !bitOf (g.rd A.MEM.DDR_CFG) 8 then g.ddrStop else g) (d.stored .mem A.MEM.DDR_CFG (v &&& 0xFFFFFEFF))).dlAll)) ∧
  (∀ (s : State), s.dev.mem.stopping = true → s.dev.dramBusy = false →
    Becomes (.ddrStopDone) s (s.dev.ddrOff)) ∧
  (∀ (s : State), s.dev.mem.ddr = .training ∧ s.dev.mem.trained = false ∨ s.dev.mem.ddr = .frozen ∧ s.dev.mem.thawing = true →
    Becomes (.ddrTrainingDone true) s (s.dev.onMem (fun m => { m with trained := true, trainFails := 0 }))) ∧
  (∀ (s : State), s.dev.mem.ddr = .training ∧ s.dev.mem.trained = false ∨ s.dev.mem.ddr = .frozen ∧ s.dev.mem.thawing = true → s.dev.mem.trainFails = 0 →
    Becomes (.ddrTrainingDone false) s (s.dev.onMem (fun m => { m with trainFails := 1 }))) ∧
  (∀ (s : State), s.dev.mem.ddr = .training ∧ s.dev.mem.trained = false ∨ s.dev.mem.ddr = .frozen ∧ s.dev.mem.thawing = true → s.dev.mem.trainFails ≠ 0 →
    Becomes (.ddrTrainingDone false) s ((s.dev.onMem (fun m => { m with ddr := .failed, thawing := false })).raise .mem Cause.MEM.TRAIN_FAIL)) ∧
  (∀ (s : State) (d1 : Dev) (base : Nat), s.dev.mem.ddr = .training → s.dev.mem.trained = true → d1 = s.dev.onMem (fun m => { m with ddr := .serving, initEarly := true, served := true, frontier := min (s.dev.fld A.MEM.INIT_CFG 15 0) s.dev.dramMib }) → base = s.dev.fld A.PMU.RESUME_BASE_LO 31 20 * 2 ^ 20 + (s.dev.rd A.PMU.RESUME_BASE_HI).toNat * 2 ^ 32 →
    Becomes (.ddrInitEarlyDone) s ((((d1.setBlk .mem { d1.blk .mem with inited := true }).onPmu (fun p => { p with resumeBody := decide (base + 4 * 2 ^ 20 ≤ s.dev.dramMib * 2 ^ 20) }))).dlAll)) ∧
  (∀ (s : State), s.dev.serving = true → s.dev.mem.initEarly = true →
    Becomes (.ddrInitDone) s (s.dev.onMem (fun m => { m with frontier := s.dev.dramMib }))) ∧
  (∀ (s : State) (rank n : Nat) (urgent : Bool), s.dev.mem.ddr = .serving ∨ s.dev.mem.ddr = .selfRefresh ∨ s.dev.mem.ddr = .frozen → rank ≤ s.dev.fld A.MEM.DDR_CFG 7 7 → n = tabGet 0 s.dev.mem.postponed rank →
    Becomes (.ddrRefresh rank urgent) s (s.dev.onMem (fun m => { m with postponed := tabSet 0 m.postponed rank (if urgent ∧ n < 4 then n + 1 else 0) }))) ∧
  (∀ (s : State) (a b : Bool), s.dev.mem.ddr = .serving ∨ s.dev.mem.ddr = .frozen →
    Becomes (.mr4Poll a b) s ((s.dev.onMem (fun m => { m with hot := tabSet false (tabSet false m.hot 0 a) 1 (b && s.dev.bit A.MEM.DDR_CFG 7) })).follow .mem Cause.MEM.DRAM_HOT (a || (b && s.dev.bit A.MEM.DDR_CFG 7)))) ∧
  (∀ (s : State) (ps : Nat), s.dev.serving = true → s.dev.fld A.MEM.TRAIN_CFG 7 0 < ps →
    Becomes (.dqsOscRead ps) s ((s.dev.onMem (fun m => { m with drift := 0 })).count A.MEM.RETRAIN_CNT)) ∧
  (∀ (s : State) (ps : Nat), s.dev.serving = true → ¬ s.dev.fld A.MEM.TRAIN_CFG 7 0 < ps →
    Becomes (.dqsOscRead ps) s (s.dev.onMem (fun m => { m with drift := ps }))) ∧
  (∀ (s : State) (d1 : Dev), s.dev.serving = true → d1 = s.dev.at_ (s.dev.mem.zqAt + msT (s.dev.fld A.MEM.TRAIN_CFG 23 16)) →
    Becomes (.zqCal) s (d1.onMem (fun m => { m with zqAt := d1.tb }))) ∧
  (∀ (s : State) (port addr errs : Nat) (synd : List Word) (ns : Nat) (d1 : Dev), s.dev.mem.ddr = .serving → port < 12 → d1 = s.dev.latency port ns →
    Becomes (.ddrReadReturn port addr errs synd ns) s ((if 8 ≤ port ∧ d1.poisoned addr = true then d1.count A.MEM.POISON_READ_CNT else d1).eccSeen port addr errs synd)) ∧
  (∀ (s : State) (port : Nat) (part : Bool) (addr n : Nat), s.dev.mem.ddr = .serving → port < 12 → n < 4 →
    Becomes (.writeCrcAlert port part addr n) s ((s.dev.count A.MEM.WCRC_RETRY_CNT).storeFailed port s.dev)) ∧
  (∀ (s : State) (port : Nat) (part : Bool) (addr n : Nat) (d1 : Dev), s.dev.mem.ddr = .serving → port < 12 → 4 ≤ n → d1 = s.dev.freeze 2 (if part then 2 else 1) port addr [] →
    Becomes (.writeCrcAlert port part addr n) s ((if port = 5 then d1.spillFailed addr else if port = 0 then d1.bucketWriteFailed addr else d1).storeFailed port s.dev)) ∧
  (∀ (s : State) (errs : Nat) (synd : List Word), s.dev.serving = true → s.dev.fld A.MEM.SCRUB_CFG 15 0 ≠ 0 →
    Becomes (.patrolScrub errs synd) s ((s.dev.onMem (fun m => { m with scrubLine := if s.dev.dramMib * 2 ^ 14 ≤ m.scrubLine + 1 then 0 else m.scrubLine + 1 })).eccSeen 0xF (64 * s.dev.mem.scrubLine) errs synd)) ∧
  (∀ (s : State) (rq : Rq) (ws : List Word) (d : Dev), s.dev.serves .mem = true → d = s.dev.asked .mem → s.dev.takes rq OP.COMMAND ws.length 0 = true →
    ws = [0] → d.tb ≠ d.frzWdogAt → d.mem.ddr = .frozen → d.mem.thawing = false → d.mem.dpReset = false →
    Performs (.thaw rq ws) s rq OP.COMMAND [] .mem (fun d => d.poisonCaptured.onMem (fun m => { m with thawing := true, trainFails := 0, trained := !(decide (d.mem.frz.cause = 2 ∨ d.mem.frz.cause = 3) || m.frzParity) }))) ∧
  (∀ (s : State) (d1 : Dev), s.dev.mem.ddr = .frozen → s.dev.mem.thawing = true → s.dev.mem.trained = true → d1 = s.dev.heldWrites.unfreeze →
    Becomes (.thawDone) s ((tabKeys d1.tmg.queues).foldl (fun d q => (d.dlBytes q).settle q) d1)) ∧
  (∀ (s : State) (rq : Rq) (ws : List Word) (d : Dev), s.dev.serves .mem = true → d = s.dev.asked .mem → s.dev.takes rq OP.COMMAND ws.length 0 = true →
    ws = [0] → d.tb ≠ d.frzWdogAt → Performs (.dpReset rq ws) s rq OP.COMMAND [] .mem (fun d => if d.mem.dpReset then d else (d.bstEarly 4).dpBegin)) ∧
  (∀ (s : State), s.dev.testReset = false → s.dev.qarAtTake = true →
    Becomes (.dataPlaneResetDone) s (s.dev.dpEnd)) ∧
  (∀ (s : State), s.dev.mem.ddr = .frozen → s.dev.mem.thawing = false → s.dev.mem.dpReset = false ∨ s.dev.testReset = true →
    Becomes (.freezeWatchdog) s ((let d := s.dev.at_ s.dev.frzWdogAt; (((d.raise .mem Cause.MEM.FREEZE_WDOG).blotter 0x800 4 0x0012 [(memLive 0x0A0 d).getD 0, wd d.mem.frz.addr, wd (d.mem.frz.addr / 2 ^ 32), 0]).dpRequest))))

/-- TIME_GET, TIME_SET, TSF_SET, TS_SEND and its launch, offset samples, the TB to PTP conversion, source timeout and holdover,
PTP messages, FTM sessions, PPS edges, timed writes and the reference switch have the effect their rules give. Each clause gives
the conditions on the state and the operands, and the whole next state: the device it names with the reply on its way, every
other part as before. -/
def Obligations.TimeCommandsComplete : Prop :=
  (∀ (σ : State) (rq : Rq) (ws : List Word), σ.dev.serves .tmu = true →
    let d := σ.dev.asked .tmu
    σ.dev.takes rq OP.COMMAND ws.length 5 = true →
    ¬ (ws ≠ []) →
    Performs (.timeGet rq ws) σ rq OP.COMMAND (timeWords d.tmu.tb d.tmu.ptp) .tmu (fun d => d)) ∧
  (∀ (σ : State) (rq : Rq) (ws : List Word), σ.dev.serves .tmu = true →
    let d := σ.dev.asked .tmu
    let rel := bitOf (word ws 0) 0
    let ns := (word ws 3).toNat
    let new : Int := if rel then Int.ofNat d.tmu.ptp + signed 64 (pair ws 1) * 2 ^ 32
      else Int.ofNat (((pair ws 1) * 1000000000 + ns) * 2 ^ 32)
    σ.dev.takes rq OP.COMMAND ws.length 0 = true →
    ¬ (ws.length ≠ if rel then 3 else 4) →
    (extra (word ws 0) 1 || decide (new < 0 ∨ Int.ofNat ptpEnd ≤ new) || (!rel && (extra (word ws 2) 0xFFFF || decide (1000000000 ≤ ns)))) = false →
    Performs (.timeSet rq ws) σ rq OP.COMMAND [] .tmu (fun d =>
      let rel := bitOf (word ws 0) 0
      let ns := (word ws 3).toNat
      let new : Int := if rel then Int.ofNat d.tmu.ptp + signed 64 (pair ws 1) * 2 ^ 32
        else Int.ofNat (((pair ws 1) * 1000000000 + ns) * 2 ^ 32)
      let d1 := (d.clockStep new.toNat).onTmu (fun t => { t with setTick := some t.tb })
      let d2 := if d.bit A.TMU.SERVO_CFG 31 then d1 else d1.servoTo (if d.srcInUse ≠ 0 then .acquire else .free)
      d2)) ∧
  (∀ (σ : State) (rq : Rq) (ws : List Word), σ.dev.serves .tmu = true →
    let w := word ws 0
    σ.dev.takes rq OP.COMMAND ws.length 0 = true →
    ¬ (ws.length ≠ 3) →
    (extra w 0x1F3 || decide (bitsOf w 1 0 = 3)) = false →
    Performs (.tsfSet rq ws) σ rq OP.COMMAND [] .tmu (fun d =>
      let w := word ws 0
      let k := 16 * bitsOf w 1 0 + bitsOf w 7 4
      let us := d.ptpNs / 1000 % 2 ^ 64
      let v := (if bitOf w 8 then tabGet 0 d.tmu.tsfOfs k + pair ws 1 else pair ws 1 + 2 ^ 64 - us) % 2 ^ 64
      d.onTmu (fun t => { t with tsfOfs := tabSet 0 t.tsfOfs k v }))) ∧
  (∀ (s : State) (rq : Rq) (ws : List Word) (d : Dev) (x : TsLaunch), s.dev.serves .tmu = true → d = s.dev.asked .tmu → s.dev.takes rq OP.COMMAND ws.length 0 = true →
    x = { port := bitsOf (word ws 0) 3 0, oneStep := bitOf (word ws 0) 8, len := bitsOf (word ws 0) 31 16, hOfs := bitsOf (word ws 1) 23 16, launch := if bitOf (word ws 0) 9 then some (pair ws 2) else none, tolUs := if bitsOf (word ws 1) 7 0 = 0 then 50 else bitsOf (word ws 1) 7 0, bytes := ws.drop 4 } →
    ws.length = 4 + ceilDiv x.len 4 → x.port < d.ports → (d.ethPort x.port).link = true → (rq.src = .mp ∨ d.bit A.TMU.PTP_CFG0 0 = false) →
    extra (word ws 0) 0xFFFF030F = false → extra (word ws 1) 0x00FF00FF = false → outside x.len 60 128 = false →
    (∀ t, x.launch = some t → t ≤ d.ptpNs + 1000000000) → (x.oneStep = true → x.hOfs + 44 ≤ x.len) →
    Defers (.tsSend rq ws) s rq (blkPage .tmu) .tmu (fun d => d.onTmu (fun t => { t with launches := t.launches ++ [x] }))) ∧
  (∀ (s : State) (n : Nat) (x : TsLaunch) (d : Dev), s.dev.tmu.launches.find? (fun x => decide (x.port = n)) = some x → d = (match x.launch with
      | some t => s.dev.at_ (s.dev.tickAt t)
      | none => s.dev).onTmu (fun t => { t with launches := t.launches.erase x }) → (d.ethPort n).link = false →
    Becomes (.tsSendLaunch n) s ((d.execDone RC.NOT_IN_STATE 0 []).serveAll)) ∧
  (∀ (s : State) (n : Nat) (x : TsLaunch) (d : Dev) (t : Nat) (e : Dev), s.dev.tmu.launches.find? (fun x => decide (x.port = n)) = some x → d = (match x.launch with
      | some t => s.dev.at_ (s.dev.tickAt t)
      | none => s.dev).onTmu (fun t => { t with launches := t.launches.erase x }) → (d.ethPort n).link = true → e = (d.lpiForLaunch n x.launch.isSome).expressTurn n → (e.ethPort n).noStart = false → x.launch = some t → t + 1000 * x.tolUs < e.ptpNs →
    Becomes (.tsSendLaunch n) s (((e.count A.TMU.LAUNCH_LATE_CNT).execDone RC.BUSY 2 []).serveAll)) ∧
  (∀ (s : State) (n : Nat) (x : TsLaunch) (d : Dev) (out : List Byte) (e g : Dev), s.dev.tmu.launches.find? (fun x => decide (x.port = n)) = some x → d = (match x.launch with
      | some t => s.dev.at_ (s.dev.tickAt t)
      | none => s.dev).onTmu (fun t => { t with launches := t.launches.erase x }) → (d.ethPort n).link = true → e = (d.lpiForLaunch n x.launch.isSome).expressTurn n → (e.ethPort n).noStart = false → (∀ t, x.launch = some t → e.ptpNs ≤ t + 1000 * x.tolUs) → out = (if x.oneStep then oneStepBytes ((wordsBytes x.bytes).take x.len) x.hOfs (e.egressTime n).2 else (wordsBytes x.bytes).take x.len) → g = (((e.emit (.eth n (.timed (bytesWords out) (if x.oneStep then some (e.egressTime n).2 else none)))).count A.TMU.PTP_TX_CNT).count (A.ETH.TX_OK_CNT n)).countN (A.ETH.TX_OCTET_CNT n) (wireLen (x.len + 4)) →
    Becomes (.tsSendLaunch n) s ((g.execDone RC.OK 0 (timeWords (e.egressTime n).1 (e.egressTime n).2)).serveAll)) ∧
  (∀ (σ : State) (rq : Rq) (ws : List Word), σ.dev.serves .tmu = true →
    let ms := (word ws 1).toNat
    σ.dev.takes rq OP.COMMAND ws.length 0 = true →
    ¬ (ws.length ≠ 2) →
    (outside ms 1 1000) = false →
    Performs (.ofsPut rq ws) σ rq OP.COMMAND [] .tmu (fun d =>
      let ms := (word ws 1).toNat
      d.servoSample 4 (signed 32 (word ws 0).toNat * 65536) (msT ms) 0xFF)) ∧
  (∀ (σ : State) (rq : Rq) (ws : List Word), σ.dev.serves .tmu = true →
    let d := σ.dev.asked .tmu
    let t := pair ws 0
    σ.dev.takes rq OP.COMMAND ws.length 5 = true →
    ¬ (ws.length ≠ 2) →
    ((d.tmu.convert t).isNone) = false →
    Performs (.tb2ptp rq ws) σ rq OP.COMMAND (timeWords t ((d.tmu.convert t).getD 0)) .tmu (fun d => d)) ∧
  (∀ (s : State) (c : Nat) (x : Source), tabFind s.dev.tmu.sources c = some x →
    Becomes (.sourceTimeout c) s ((s.dev.at_ (x.last + 4 * x.interval)).noSource)) ∧
  (∀ (s : State), s.dev.tmu.servo = .holdover →
    Becomes (.holdoverExpiry) s ((s.dev.at_ (s.dev.tmu.holdSince + sT (s.dev.fld A.TMU.SERVO_LIM2 31 16))).servoTo .free)) ∧
  (∀ (s : State) (d : Dev), s.dev.bit A.TMU.PTP_CFG0 0 = true → s.dev.tmu.ptpRole ≠ 2 → d = (s.dev.at_ (s.dev.tmu.syncAt + s.dev.syncTicks)).onTmu (fun t => { t with ptpRole := 1, hops := 0, syncAt := max s.dev.tb (s.dev.tmu.syncAt + s.dev.syncTicks), syncSeq := (t.syncSeq + 1) % 65536 }) →
    Becomes (.ptpSyncTimer) s ((List.range s.dev.ports).foldl (fun d n =>
      if d.bit A.TMU.PTP_CFG1 n && (d.ethPort n).link then
        (if s.dev.bit A.TMU.PTP_CFG0 2 then (d.ptpSend n 0 0).ptpSend n 8 (d.egressTime n).2 else d.ptpSend n 0 (d.egressTime n).2)
      else d) d)) ∧
  (∀ (s : State) (d : Dev), s.dev.msh.parent.isSome = true → s.dev.tmu.ftm = none → d = s.dev.at_ (s.dev.tmu.ftmAt + msT s.dev.ftmMs) →
    Becomes (.ftmBurstStart) s (d.onTmu (fun t => { t with ftm := some [], ftmAt := t.tb }))) ∧
  (∀ (s : State) (b : FtmBurst) (hops : Nat), s.dev.tmu.ftm.isSome = true → (b.exs.take (s.dev.fld A.TMU.FTM_CFG 19 16)).filterMap (s.dev.ftmTheta b.radio) = [] →
    Becomes (.ftmBurstEnd b hops) s ((s.dev.onTmu (fun t => { t with ftm := none })).count A.TMU.FTM_FAIL_CNT)) ∧
  (∀ (s : State) (b : FtmBurst) (hops : Nat) (ths : List Int), s.dev.tmu.ftm.isSome = true → ths = (b.exs.take (s.dev.fld A.TMU.FTM_CFG 19 16)).filterMap (s.dev.ftmTheta b.radio) → ths ≠ [] →
    Becomes (.ftmBurstEnd b hops) s ((s.dev.onTmu (fun t => { t with ftm := none })).servoSample 2 (median ths) (msT s.dev.ftmMs) (min 255 (hops + 1)))) ∧
  (∀ (s : State) (sub n : Nat) (off : Int), s.dev.bit A.TMU.PPS_CFG 0 = true → n = (s.dev.ptpNs + sub) % 1000000000 → off = (if n < 500000000 then Int.ofNat n else Int.ofNat n - 1000000000) → (∀ t, s.dev.tmu.ppsEdge = some t → sT 9 / 10 ≤ s.dev.tb - t ∧ s.dev.tb - t ≤ sT 11 / 10) →
    Becomes (.ppsInEdge sub) s ((s.dev.onTmu (fun x => { x with ppsEdge := some x.tb })).servoSample 3 ((off - signed 16 (s.dev.fld A.TMU.PPS_CFG 31 16)) * 65536) (sT 1) 0xFF)) ∧
  (∀ (s : State) (sub t : Nat), s.dev.bit A.TMU.PPS_CFG 0 = true → s.dev.tmu.ppsEdge = some t → s.dev.tb - t < sT 9 / 10 →
    Becomes (.ppsInEdge sub) s (s.dev.count A.TMU.PPS_MISS_CNT)) ∧
  (∀ (s : State) (sub t : Nat), s.dev.bit A.TMU.PPS_CFG 0 = true → s.dev.tmu.ppsEdge = some t → sT 11 / 10 < s.dev.tb - t →
    Becomes (.ppsInEdge sub) s ((s.dev.onTmu (fun x => { x with ppsEdge := some x.tb })).count A.TMU.PPS_MISS_CNT)) ∧
  (∀ (s : State) (d : Dev), s.dev.tmu.ppsHigh = false → s.dev.bit A.TMU.PPS_CFG 1 = true → d = s.dev.at_ (s.dev.tickAt ((s.dev.ptpNs / 1000000000 + 1) * 1000000000)) →
    Becomes (.ppsOutEdge) s ((d.onTmu (fun t => { t with ppsHigh := true, ppsFall := t.tb + msT (s.dev.fld A.TMU.PPS_CFG 15 8) })).emit (.pps true))) ∧
  (∀ (s : State), s.dev.tmu.ppsHigh = true →
    Becomes (.ppsOutEdge) s (((s.dev.at_ s.dev.tmu.ppsFall).onTmu (fun t => { t with ppsHigh := false })).emit (.pps false))) ∧
  (∀ (s : State) (r : Radio) (q t : Nat) (v : TxVec) (x : TimedSeen) (e : Entry), s.dev.headReady q = some e → e.wl.launch = some t → t + 1000 * (if e.wl.tol = 0 then 50 else e.wl.tol) < s.dev.ptpNs →
    Becomes (.timedLaunch r q v x) s (s.dev.onMedium r (fun _ => if e.wl.lateFinal then ((s.dev.count A.TMU.LAUNCH_LATE_CNT).depart q).lose e RC.TX_LATE else (s.dev.count A.TMU.LAUNCH_LATE_CNT).onHead q (fun e => { e with wl := { e.wl with launch := none, late := e.wl.late + 1 } })))) ∧
  (∀ (s : State) (r : Radio) (q t : Nat) (v : TxVec) (x : TimedSeen) (e : Entry) (d : Dev), s.dev.headReady q = some e → e.wl.launch = some t → s.dev.ptpNs ≤ t + 1000 * (if e.wl.tol = 0 then 50 else e.wl.tol) → s.dev.avail r = true → linkAllowed r e = true → d = (s.dev.at_ (s.dev.tickAt t - s.dev.wayToTx r)).onHead q (fun h => { h with wl := { h.wl with launch := none, lateAt := some (s.dev.tickAt (t + 1000 * (if e.wl.tol = 0 then 50 else e.wl.tol))) } }) →
    Becomes (.timedLaunch r q v x) s (s.dev.onMedium r (fun _ => if d.expiry r (acOf e.wl.tid) ≤ d.tb then effBackoffExpiry r [acOf e.wl.tid] (x.start q v) d else d))) ∧
  (∀ (s : State) (a b : Int), s.dev.pmu.state = .run →
    Becomes (.f0Window a b) s (s.dev.onTmu (fun t => { t with f0 := a, te := b })))

/-- Enabling, the candidate and hold times, beacons in each state, scanning, joining, address requests, grants, renewal and the
ends of leases have the effect their rules give. Each clause gives the conditions on the state and the operands, and the whole
next state: the device it names with the reply on its way, every other part as before. -/
def Obligations.MeshMembershipComplete : Prop :=
  (∀ (s : State) (rq : Rq) (v : Word), s.dev.accepts rq (A.MSH.MESH_CFG) (v) .msh = true →
    Performs (.meshEnableWrite rq v) s rq OP.WRITE [] .msh (fun d => let e := d.stored .msh A.MSH.MESH_CFG v
      let g := d.withLinks (fun d => d.stored .msh A.MSH.MESH_CFG v)
      if bitOf (e.rd A.MSH.MESH_CFG) 31 && !bitOf (d.rd A.MSH.MESH_CFG) 31 then g.meshStart
      else if bitOf (d.rd A.MSH.MESH_CFG) 31 && !bitOf (e.rd A.MSH.MESH_CFG) 31 then g.meshStop else g)) ∧
  (∀ (s : State) (t : Nat) (d e : Dev), s.dev.msh.state = .candidate → s.dev.msh.listenUntil = some t → d = s.dev.at_ t → e = ({ d with msh := { d.msh with state := .root, addr := 0, depth := 0, parent := none, listenUntil := none, leases := [], claimed := [], requests := [], electedAt := d.tb, rootMac := d.nodeMac, uplinkLost := none, ownLease := none, ftmFast := true, grantSlot := none, upHeld := [] } } : Dev) →
    Becomes (.candidateListenEnd) s (d.msh.upHeld.foldl (fun d m => d.sendUp m) (e.meshBssSet.raise .msh Cause.MSH.ROOT_CHANGE))) ∧
  (∀ (s : State) (t : Nat), s.dev.msh.uplinkLost = some t → s.dev.msh.state = .root → s.dev.hasUplink = false →
    Becomes (.uplinkHoldExpiry) s ((s.dev.at_ (t + sT (s.dev.fld A.MSH.ROOT_CFG 23 16))).resign)) ∧
  (∀ (s : State) (b : MeshBeacon) (d : Dev), s.dev.meshOn = true → b.meshId = (s.dev.rd A.MSH.MESH_ID).toNat → d = s.dev.childHeard b.mac → d.msh.state = .candidate → d.endsCandidacy b = true →
    Becomes (.meshBeaconRx b) s (d.startScan)) ∧
  (∀ (s : State) (b : MeshBeacon) (d : Dev), s.dev.meshOn = true → b.meshId = (s.dev.rd A.MSH.MESH_ID).toNat → d = s.dev.childHeard b.mac → d.msh.state = .root → d.endsRoot b = true →
    Becomes (.meshBeaconRx b) s (d.resign)) ∧
  (∀ (s : State) (b : MeshBeacon) (d : Dev) (e : Dev), s.dev.meshOn = true → b.meshId = (s.dev.rd A.MSH.MESH_ID).toNat → d = s.dev.childHeard b.mac → d.msh.state = .scan → e = d.hear b →
    Becomes (.meshBeaconRx b) s (e.withLinks (fun d => ({ d with msh := { d.msh with state := .joining, listenUntil := some (d.tb + d.meshTicks) } } : Dev)))) ∧
  (∀ (s : State) (b : MeshBeacon) (d : Dev) (e : Dev) (t : MeshBeacon), s.dev.meshOn = true → b.meshId = (s.dev.rd A.MSH.MESH_ID).toNat → d = s.dev.childHeard b.mac → d.msh.state = .joining ∨ d.msh.state = .search → e = d.hear b → e.msh.target = some t →
    Becomes (.meshBeaconRx b) s (if e.msh.reqDue = true ∧ t.mac = b.mac then e.joinSend b else e)) ∧
  (∀ (s : State) (b : MeshBeacon) (d : Dev) (e : Dev), s.dev.meshOn = true → b.meshId = (s.dev.rd A.MSH.MESH_ID).toNat → d = s.dev.childHeard b.mac → d.msh.state = .search → e = d.hear b → e.msh.target = none →
    Becomes (.meshBeaconRx b) s (if e.eligible b = true then e.choose else e)) ∧
  (∀ (s : State) (b : MeshBeacon) (d : Dev), s.dev.meshOn = true → b.meshId = (s.dev.rd A.MSH.MESH_ID).toNat → d = s.dev.childHeard b.mac → d.msh.state = .joined → d.msh.parent.isSome = true → b.mac = d.msh.parentMac →
    Becomes (.meshBeaconRx b) s (d.parentBeacon b)) ∧
  (∀ (s : State) (t : Nat) (d e : Dev), s.dev.msh.state = .scan → s.dev.msh.listenUntil = some t → d = s.dev.at_ t → d.msh.scanIdx + 1 < d.fld A.MSH.SCAN_CFG 4 0 → e = d.tuneTo (d.msh.scanIdx + 1) →
    Becomes (.scanDwellExpiry) s (({ e with msh := { e.msh with listenUntil := some (e.tb + msT (e.fld A.MSH.SCAN_CFG 31 16) + usT 75) } } : Dev))) ∧
  (∀ (s : State) (t : Nat) (d : Dev), s.dev.msh.state = .scan → s.dev.msh.listenUntil = some t → d = s.dev.at_ t → ¬ d.msh.scanIdx + 1 < d.fld A.MSH.SCAN_CFG 4 0 →
    Becomes (.scanDwellExpiry) s (d.startScan)) ∧
  (∀ (s : State) (t : Nat), s.dev.msh.state = .joining → s.dev.msh.listenUntil = some t →
    Becomes (.parentListenEnd) s ((s.dev.at_ t).choose)) ∧
  (∀ (s : State) (ver v now : Nat) (q : JoinReq), s.dev.meshOn = true → s.dev.verOk ver = true → agree q.minVer q.maxVer s.dev.minVer s.dev.maxVer = some v → s.dev.msh.attached = true → s.dev.admitting = true → now = (if s.dev.msh.admitSlot = s.dev.ownInterval then s.dev.msh.admittedNow else 0) → now < 8 →
    Becomes (.joinReqRx ver q) s (({ s.dev with msh := { s.dev.msh with admitted := s.dev.msh.admitted.filter (fun x => decide (x.req.mac ≠ q.mac)) ++ [{ req := q, version := v, at_ := s.dev.tb }], admitSlot := s.dev.ownInterval, admittedNow := now + 1 } } : Dev).originateUp 0x04 (reqBody { mac := q.mac, held := q.held, depth := s.dev.msh.depth + 1 }))) ∧
  (∀ (s : State) (ver v : Nat) (q : JoinReq), s.dev.meshOn = true → s.dev.verOk ver = true → agree q.minVer q.maxVer s.dev.minVer s.dev.maxVer = some v → s.dev.msh.attached = true → s.dev.admitting = true → s.dev.msh.admitSlot = s.dev.ownInterval → 8 ≤ s.dev.msh.admittedNow →
    Becomes (.joinReqRx ver q) s (s.dev.meshLink q.mac q.held 0x03 v [])) ∧
  (∀ (s : State) (ver mac addr nonce : Nat) (b : MeshBeacon) (d1 d4 : Dev), s.dev.meshOn = true → s.dev.verOk ver = true → s.dev.msh.target = some b → b.mac = mac → s.dev.msh.reqDue = false → d1 = ({ s.dev with msh := { s.dev.msh with state := .joined, addr := addr, depth := b.depth + 1, parent := some b.addr, parentMac := b.mac, parentVer := (agree b.minVer b.maxVer s.dev.minVer s.dev.maxVer).getD 1, parentRssi := b.rssi, parentInterval := b.intervalTu, parentLocked := b.locked, parentHops := b.hops, rootMac := b.rootMac, target := none, reqDue := false, reattach := false, bcnLoss := 0, searchUntil := none, listenUntil := none, ownLease := some (s.dev.tb + sT s.dev.leaseS), renewAt := s.dev.tb, ftmFast := true, upHeld := [] } } : Dev) → d4 = (fun e : Dev => if s.dev.msh.reattach then e.count A.MSH.REATTACH_CNT else e) (s.dev.msh.upHeld.foldl (fun d m => d.sendUp m) (d1.peerEnter (d1.fld A.MSH.MESH_CFG 9 0) b.mac (linkKey d1.msh.key b.mac d1.nodeMac nonce d1.msh.nonce)).meshBssSet).sleepAgain →
    Becomes (.joinAcceptRx ver mac addr nonce) s (if addr ≠ s.dev.msh.addr then d4.raise .msh Cause.MSH.ADDR_CHANGED else d4)) ∧
  (∀ (s : State) (ver mac : Nat) (b : MeshBeacon), s.dev.meshOn = true → s.dev.verOk ver = true → s.dev.msh.target = some b → b.mac = mac →
    Becomes (.joinWaitRx ver mac) s (({ s.dev with msh := { s.dev.msh with reqDue := true } } : Dev))) ∧
  (∀ (s : State) (b : MeshBeacon), s.dev.msh.target = some b → s.dev.msh.reqDue = false → s.dev.msh.state = .joining ∨ s.dev.msh.state = .search →
    Becomes (.joinTimeout) s (((s.dev.at_ (s.dev.msh.reqAt + s.dev.fld A.MSH.JOIN_CFG 11 8 * s.dev.meshTicks)).count A.MSH.JOIN_RETRY_CNT).choose)) ∧
  (∀ (s : State) (m : MeshMsg), s.dev.meshOn = true → s.dev.verOk m.version = true → s.dev.msh.state = .root →
    Becomes (.addrReqRx m) s (s.dev.rootRequest (reqParse m.payload))) ∧
  (∀ (s : State) (m : MeshMsg), s.dev.meshOn = true → s.dev.verOk m.version = true → s.dev.msh.state ≠ .root → 1 < m.ttl →
    Becomes (.addrReqRx m) s (s.dev.sendUp { m with typ := 0x04, ttl := m.ttl - 1 })) ∧
  (∀ (s : State) (l : List AddrReq) (x : Dev × List GrantEnt), s.dev.msh.state = .root → s.dev.msh.requests ≠ [] → s.dev.msh.grantSlot ≠ some s.dev.ownInterval → l = s.dev.msh.requests.foldl (fun l q => byDepth q l) [] → x = (l.take 64).foldl (fun (a : Dev × List GrantEnt) q => ((a.1.grantOne q).1, a.2 ++ (a.1.grantOne q).2.toList)) (({ s.dev with msh := { s.dev.msh with requests := l.drop 64, grantSlot := some s.dev.ownInterval } } : Dev), []) →
    Becomes (.grantSend) s ((x.1.flood 0x05 s.dev.maxDepth (grantBody x.2)).count A.MSH.GRANT_TX_CNT)) ∧
  (∀ (s : State) (d : Dev), s.dev.msh.state = .joined ∨ s.dev.msh.state = .search → d = s.dev.at_ (s.dev.msh.renewAt + sT s.dev.leaseS / 2) →
    Becomes (.leaseRenewTimer) s (({ d with msh := { d.msh with renewAt := d.tb } } : Dev).originateUp 0x06 (reqBody { mac := d.nodeMac, held := d.msh.addr, depth := d.msh.depth }))) ∧
  (∀ (s : State) (m : MeshMsg), s.dev.meshOn = true → s.dev.verOk m.version = true → s.dev.msh.state = .root →
    Becomes (.leaseRenewRx m) s (s.dev.rootRequest (reqParse m.payload))) ∧
  (∀ (s : State) (a : Nat) (l : Lease), tabFind s.dev.msh.leases a = some l → s.dev.msh.state = .root →
    Becomes (.leaseExpiry (some a)) s ((fun d : Dev => ({ d with msh := { d.msh with leases := tabDel d.msh.leases a } } : Dev).count A.MSH.LEASE_EXPIRE_CNT) (s.dev.at_ l.until_))) ∧
  (∀ (s : State) (t : Nat) (d : Dev), s.dev.msh.ownLease = some t → s.dev.msh.state ≠ .root → s.dev.msh.state ≠ .off → d = s.dev.at_ t →
    Becomes (.leaseExpiry none) s ((({ d with msh := { d.msh with addr := 0x3FF, ownLease := none, reattach := false } } : Dev).raise .msh Cause.MSH.ADDR_CHANGED).startScan))

/-- Floods and their forwarding, messages towards the root, beacon loss, sleep and its windows, search, child timeout, dark
periods, group reports, FLOOD_SEND, LEASE_GET, MESH_KEY_SET and MSG_GET have the effect their rules give. Each clause gives the
conditions on the state and the operands, and the whole next state: the device it names with the reply on its way, every other
part as before. -/
def Obligations.MeshTrafficComplete : Prop :=
  (∀ (s : State) (m : MeshMsg) (d1 d2 : Dev), s.dev.msh.attached = true → s.dev.verOk m.version = true → s.dev.seenFind m.origin m.seq = none → d1 = ((s.dev.seenAdd m.origin m.seq).count A.MSH.RELAY_RX_CNT).consume m → d2 = d1.took →
    Becomes (.floodRx m) s (if m.ttl ≤ 1 then d1 else ({ d2 with msh := { d2.msh with forwards := insForward (d1.tb + usT (d1.freeVal (d1.fld A.MSH.RELAY_CFG 31 16 + 1))) m d2.msh.forwards } } : Dev))) ∧
  (∀ (s : State) (m : MeshMsg) (e : Seen), s.dev.msh.attached = true → s.dev.verOk m.version = true → s.dev.seenFind m.origin m.seq = some e →
    Becomes (.floodRx m) s (({ s.dev with msh := { s.dev.msh with seen := s.dev.msh.seen.map (fun e => if e.origin = m.origin ∧ e.seq = m.seq then { e with copies := e.copies + 1 } else e) } } : Dev).count A.MSH.RELAY_DUP_CNT)) ∧
  (∀ (s : State) (t n : Nat) (m : MeshMsg) (l : List (Nat × MeshMsg)) (d : Dev), s.dev.msh.forwards = (t, m) :: l → d = ({ (s.dev.at_ t) with msh := { (s.dev.at_ t).msh with forwards := l } } : Dev) → n = ((d.seenFind m.origin m.seq).map (fun e => e.copies)).getD 0 →
    Becomes (.relayForward) s (if d.msh.children = [] ∧ 0 < d.fld A.MSH.RELAY_CFG 3 0 ∧ d.fld A.MSH.RELAY_CFG 3 0 ≤ n then d.count A.MSH.RELAY_SUPPR_CNT else (d.meshPut (.flood { m with ttl := m.ttl - 1 })).count A.MSH.RELAY_FWD_CNT)) ∧
  (∀ (s : State) (e : Seen) (l : List Seen), s.dev.msh.seen = e :: l →
    Becomes (.seenExpiry) s (({ (s.dev.at_ (e.at_ + sT 8)) with msh := { (s.dev.at_ (e.at_ + sT 8)).msh with seen := l } } : Dev))) ∧
  (∀ (s : State) (m : MeshMsg), s.dev.meshOn = true → s.dev.verOk m.version = true → s.dev.msh.state = .root →
    Becomes (.upMessageRx m) s (s.dev.upConsume m)) ∧
  (∀ (s : State) (m : MeshMsg), s.dev.meshOn = true → s.dev.verOk m.version = true → s.dev.msh.state ≠ .root → 1 < m.ttl →
    Becomes (.upMessageRx m) s (s.dev.sendUp { m with ttl := m.ttl - 1 })) ∧
  (∀ (s : State), s.dev.msh.state = .joined → s.dev.msh.bcnLoss < 2 →
    Becomes (.parentBeaconLoss) s (({ s.dev with msh := { s.dev.msh with bcnLoss := s.dev.msh.bcnLoss + 1 } } : Dev))) ∧
  (∀ (s : State), s.dev.msh.state = .joined → 2 ≤ s.dev.msh.bcnLoss →
    Becomes (.parentBeaconLoss) s (s.dev.parentLost)) ∧
  (∀ (σ : State) (rq : Rq) (ws : List Word), σ.dev.serves .msh = true →
    let d := σ.dev.asked .msh
    let l := bitsOf (word ws 0) 15 0
    let m := d.msh
    σ.dev.takes rq OP.COMMAND ws.length 0 = true →
    ¬ (ws.length ≠ 1) →
    (extra (word ws 0) 0xFFFF) = false →
    (decide (m.children ≠ []) || decide (m.state = .root)) = false →
    ¬ ((if m.parent.isSome then m.parentVer else 0) < 2) →
    ¬ (d.guardCfg * 1000000 < l * d.meshTu * 1024 * 5 + 1000000) →
    Performs (.sleepSet rq ws) σ rq OP.COMMAND [] .msh (fun d =>
      let l := bitsOf (word ws 0) 15 0
      let m := d.msh
      let (t, d1) := if m.parent.isSome then d.sleepSched l else (0, d)
      let d2 := d1.onMsh (fun x => { x with listen := l, misses := 0, guardUs := d.guardCfg, windowOpen := false, pull := false, nap := none,
                                            window := if l = 0 then none else some t })
      if l = 0 then d2.stateCmd d.meshRadio 3 else d2.partnerNap)) ∧
  (∀ (s : State) (ver mac l : Nat) (c : Child), s.dev.verOk ver = true → s.dev.msh.children.find? (fun c => decide (c.mac = mac)) = some c →
    Becomes (.sleepSchedRx ver mac l) s ((({ s.dev with msh := { s.dev.msh with children := s.dev.msh.children.map (fun x => if x.mac = mac then { x with listen := l } else x) } } : Dev).childHeard mac).setPs c.sta (decide (l ≠ 0)))) ∧
  (∀ (s : State) (t : Nat) (d : Dev), s.dev.msh.window = some t → s.dev.msh.state = .joined → s.dev.msh.windowOpen = false → s.dev.pmu.state = .run → d = s.dev.at_ (t - usT s.dev.msh.guardUs - if (s.dev.rfe.get s.dev.meshRadio).cur = .sleep then s.dev.riseTicks s.dev.meshRadio else 0) →
    Becomes (.wakeWindowOpen) s (({ d with msh := { d.msh with windowOpen := true, windowGot := false, nap := none } } : Dev).stateCmd d.meshRadio 3)) ∧
  (∀ (s : State) (t : Nat) (d d1 : Dev), s.dev.msh.window = some t → s.dev.msh.windowOpen = true → s.dev.msh.windowGot = true → d = s.dev.at_ (t + usT (s.dev.msh.guardUs + s.dev.fld A.MSH.SLEEP_CFG 15 0)) → d1 = ({ d with msh := { d.msh with windowOpen := false, windowGot := false, window := if d.msh.listen = 0 then none else some (d.nextTbtt (d.msh.parent.getD 0) (d.msh.listen - 1)) } } : Dev) →
    Becomes (.wakeWindowClose) s (if d1.msh.pull then d1 else d1.partnerNap)) ∧
  (∀ (s : State) (t : Nat) (d d1 d2 : Dev), s.dev.msh.window = some t → s.dev.msh.windowOpen = true → s.dev.msh.windowGot = false → d = s.dev.at_ (t + usT (s.dev.msh.guardUs + s.dev.fld A.MSH.SLEEP_CFG 15 0)) → d1 = d.count A.MSH.WIN_MISS_CNT → d2 = ({ d1 with msh := { d1.msh with windowOpen := false, misses := d1.msh.misses + 1, guardUs := min (8 * d1.guardCfg) (2 * d1.msh.guardUs), window := some (d1.nextTbtt (d.msh.parent.getD 0) 0) } } : Dev) →
    Becomes (.wakeWindowClose) s (if 3 ≤ d2.msh.misses then d2.parentLost else d2.partnerNap)) ∧
  (∀ (s : State) (t : Nat), s.dev.msh.state = .search → s.dev.msh.searchUntil = some t → s.dev.msh.target = none →
    Becomes (.searchTimeout) s ((s.dev.at_ t).startScan)) ∧
  (∀ (s : State) (mac : Nat) (c : Child) (d : Dev), s.dev.msh.children.find? (fun c => decide (c.mac = mac)) = some c → d = s.dev.at_ (c.heard + (3 * c.listen + 3) * s.dev.meshTicks) →
    Becomes (.childTimeout mac) s ((({ d with msh := { d.msh with children := d.msh.children.filter (fun x => decide (x.mac ≠ mac)) } } : Dev).staDelete c.sta).count A.MSH.CHILD_LOST_CNT)) ∧
  (∀ (s : State) (k : Dark) (d : Dev), s.dev.msh.dark = some k → k.started = false → s.dev.pmu.state = .run → d = s.dev.at_ (s.dev.tickAt (k.start / 2 ^ 32)) → d.msh.attached = true → d.tmu.ptp < k.stop →
    Becomes (.darkStart) s (d.flushAll.darkSleep { k with started := true, targets := [Radio.a, .b, .c].map (fun r => d.rd (A.RFE.STATE_CMD r)) })) ∧
  (∀ (s : State) (k : Dark) (d : Dev), s.dev.msh.dark = some k → k.started = false → s.dev.pmu.state = .run → d = s.dev.at_ (s.dev.tickAt (k.start / 2 ^ 32)) → d.msh.attached = false ∨ k.stop ≤ d.tmu.ptp →
    Becomes (.darkStart) s (({ d with msh := { d.msh with dark := none } } : Dev))) ∧
  (∀ (s : State) (k : Dark) (t : Nat), s.dev.msh.dark = some k → k.retryAt = some t → k.started = true → s.dev.pmu.state = .run → s.dev.pmu.entering = none →
    Becomes (.darkRetry) s ((s.dev.at_ t).darkSleep k)) ∧
  (∀ (s : State) (k : Dark) (g : Nat) (d d1 d2 : Dev), s.dev.msh.dark = some k → k.started = true → s.dev.pmu.state = .run → d = s.dev.at_ (s.dev.tickAt (k.stop / 2 ^ 32)) → g = max d.guardCfg (10 * ((k.stop - k.start) / (1000000000 * 2 ^ 32)) + 2) → d1 = ([Radio.a, .b, .c].zip k.targets).foldl (fun d e => d.stateCmd e.1 (bitsOf e.2 2 0)) d → d2 = ({ d1 with msh := { d1.msh with dark := none, nap := none, ftmFast := true } } : Dev) →
    Becomes (.darkEnd) s (if d2.msh.state ≠ .joined then d2 else if 8 * d2.guardCfg < g then d2.parentLost else ({ d2 with msh := { d2.msh with guardUs := g, window := some (d2.nextTbtt (d2.msh.parent.getD 0) 0), windowOpen := false } } : Dev))) ∧
  (∀ (s : State) (d : Dev), d = s.dev.at_ (s.dev.msh.reportAt + sT s.dev.leaseS / 2) →
    Becomes (.groupReportTimer) s (({ d with msh := { d.msh with reportAt := d.tb } } : Dev).groupReports)) ∧
  (∀ (σ : State) (rq : Rq) (ws : List Word), σ.dev.serves .msh = true →
    let d := σ.dev.asked .msh
    let w0 := word ws 0
    let typ := bitsOf w0 7 0
    let ttl := bitsOf w0 11 8
    let chunk := bitsOf w0 23 16
    let total := bitsOf (word ws 1) 15 0
    let bytes := wordsBytes (ws.drop 2)
    let want := min 1016 (total - 1016 * chunk)
    let last := decide (total ≤ 1016 * (chunk + 1))
    let old := match d.msh.floodHdr with
      | some h => if h = (typ, ttl, total) ∧ chunk ≠ 0 then d.msh.floodChunks else []
      | none => []
    let chunks := tabPut old chunk (bytes.take want)
    let whole := (List.range (chunk + 1)).all (fun i => (tabFind chunks i).isSome)
    σ.dev.takes rq OP.COMMAND ws.length 1 = true →
    (decide (ws.length < 2 ∨ 256 < ws.length) || decide (bytes.length < want ∨ want + 3 < bytes.length)) = false →
    (!d.msh.attached) = false →
    (extra w0 0x00FF0FFF || extra (word ws 1) 0xFFFF || !([0x08, 0x11, 0x20, 0x21].contains typ)
         || decide (ttl = 0) || decide (1400 < total) || decide (total ≠ 0 ∧ total ≤ 1016 * chunk) || !whole) = false →
    Performs (.floodSend rq ws) σ rq OP.COMMAND (if last then [wd d.msh.seq] else []) .msh (fun d =>
      let w0 := word ws 0
      let typ := bitsOf w0 7 0
      let ttl := bitsOf w0 11 8
      let chunk := bitsOf w0 23 16
      let total := bitsOf (word ws 1) 15 0
      let bytes := wordsBytes (ws.drop 2)
      let want := min 1016 (total - 1016 * chunk)
      let last := decide (total ≤ 1016 * (chunk + 1))
      let old := match d.msh.floodHdr with
        | some h => if h = (typ, ttl, total) ∧ chunk ≠ 0 then d.msh.floodChunks else []
        | none => []
      let chunks := tabPut old chunk (bytes.take want)
      let body := (chunks.map (fun e => e.2)).flatten
      if last then ({ d with msh := { d.msh with floodHdr := none, floodChunks := [] } } : Dev).flood typ ttl body
      else { d with msh := { d.msh with floodHdr := some (typ, ttl, total), floodChunks := chunks } })) ∧
  (∀ (σ : State) (rq : Rq) (ws : List Word), σ.dev.serves .msh = true →
    let d := σ.dev.asked .msh
    let a := bitsOf (word ws 0) 9 0
    σ.dev.takes rq OP.COMMAND ws.length 3 = true →
    ¬ (ws.length ≠ 1) →
    ¬ (d.msh.state ≠ .root) →
    (extra (word ws 0) 0x3FF) = false →
    Performs (.leaseGet rq ws) σ rq OP.COMMAND (match tabFind d.msh.leases a with
        | some l => [wd l.mac, wd (l.mac / 2 ^ 32), wd ((l.until_ - d.tb) / sT 1)]
        | none => [0, 0, 0]) .msh (fun d => d)) ∧
  (∀ (σ : State) (rq : Rq) (ws : List Word), σ.dev.serves .msh = true →
    σ.dev.takes rq OP.COMMAND ws.length 0 = true →
    ¬ (ws.length ≠ 8) →
    rq.src.isAcp = false →
    Performs (.meshKeySet rq ws) σ rq OP.COMMAND [] .msh (fun d =>
      { d with msh := { d.msh with key := ws } })) ∧
  (∀ (s : State) (rq : Rq) (ws : List Word) (d : Dev) (m : MeshMsg) (l : List MeshMsg), s.dev.serves .msh = true → d = s.dev.asked .msh →
    s.dev.takes rq OP.COMMAND ws.length 256 = true → ws = [] → d.msh.inbox = m :: l →
    Performs (.msgGet rq ws) s rq OP.COMMAND ([wd (m.typ + 2 ^ 16 * m.origin), wd (m.seq + 2 ^ 16 * m.payload.length)] ++ (bytesWords m.payload).take 254) .msh (fun d =>
      ({ d with msh := { d.msh with inbox := l } } : Dev).follow .msh Cause.MSH.MSG_PENDING (!l.isEmpty)))

/-- The watchdog's two stages, the end of a restart, the DRAM window register, sensor samples and trips, the Blotter's commit
and BLT_READ, flash completions and failures, and VIN_WARN have the effect their rules give. Each clause gives the conditions on
the state and the operands, and the whole next state: the device it names with the reply on its way, every other part as before.
-/
def Obligations.SupervisionCommandsComplete : Prop :=
  (∀ (s : State) (d : Dev), d = s.dev.at_ (s.dev.mgt.wdogAt + msT (s.dev.fld A.MGT.WDOG 15 0)) → (∀ t, s.dev.mgt.lastWdog = some t → t + sT 10 ≤ d.tb) →
    Becomes (.mpWdogExpiry) s (((({ d with mgt := { d.mgt with lastWdog := some d.tb, wdogAt := d.tb } } : Dev)).blotter 0x030 0 0x0008 [({ d with mgt := { d.mgt with lastWdog := some d.tb, wdogAt := d.tb } } : Dev).rd A.MGT.EVT_PEND]).mpRestart)) ∧
  (∀ (s : State) (d : Dev) (t : Nat), d = s.dev.at_ (s.dev.mgt.wdogAt + msT (s.dev.fld A.MGT.WDOG 15 0)) → s.dev.mgt.lastWdog = some t → d.tb < t + sT 10 →
    Becomes (.mpWdogExpiry) s (({ d with mgt := { d.mgt with lastWdog := some d.tb, wdogAt := d.tb, resetDue := some (d.tb, 3) } } : Dev))) ∧
  (∀ (s : State) (rq : Rq) (v : Word), s.dev.accepts rq (A.MGT.WDOG) (v) .mgt = true →
    Performs (.wdogWrite rq v) s rq OP.WRITE [] .mgt (fun d => let g := d.stored .mgt A.MGT.WDOG v
    { g with mgt := { g.mgt with wdogAt := g.tb } })) ∧
  (∀ (s : State) (d1 : Dev), s.dev.mgt.restarting = true → d1 = ({ s.dev with mgt := { s.dev.mgt with restarting := false, warm := true, stage := 2, wdogAt := s.dev.tb }, mp := s.dev.mpLoadFw s.dev.mp.dmem } : Dev) →
    Becomes (.mpRestartDone) s ((d1.hwmResume.count A.MGT.MP_RESTART_CNT).raise .mgt Cause.MGT.MP_RESTART)) ∧
  (∀ (s : State) (rq : Rq) (v : Word), s.dev.accepts rq (A.MGT.DRAM_WIN) (v) .mgt = true →
    Performs (.dramWinWrite rq v) s rq OP.WRITE [] .mgt (fun d => d.stored .mgt A.MGT.DRAM_WIN v)) ∧
  (∀ (s : State) (k : Nat) (x : Int) (d : Dev) (y : Int), d = ({ s.dev with mgt := { s.dev.mgt with temps := s.dev.mgt.temps.set k x } } : Dev) → y ∈ d.mgt.temps → 8 * signed 8 (d.fld A.MGT.TEMP_CFG 7 0) ≤ y → bitOf (d.blk .mgt).cause Cause.MGT.TEMP_WARN = false →
    Becomes (.tempWarn k x) s ((d.event 4).raise .mgt Cause.MGT.TEMP_WARN)) ∧
  (∀ (s : State) (k : Nat) (x : Int) (d : Dev), d = ({ s.dev with mgt := { s.dev.mgt with temps := s.dev.mgt.temps.set k x } } : Dev) → (∃ z ∈ s.dev.mgt.temps.zip d.mgt.temps, z.1 < 8 * signed 8 (d.fld A.MGT.TEMP_CFG 7 0) ∧ 8 * signed 8 (d.fld A.MGT.TEMP_CFG 7 0) ≤ z.2) → bitOf (d.blk .mgt).cause Cause.MGT.TEMP_WARN = true →
    Becomes (.tempWarn k x) s (d.event 4)) ∧
  (∀ (s : State) (k : Nat) (x : Int) (d : Dev), d = ({ s.dev with mgt := { s.dev.mgt with temps := s.dev.mgt.temps.set k x } } : Dev) → (∀ y ∈ d.mgt.temps, y < 8 * signed 8 (d.fld A.MGT.TEMP_CFG 7 0) - 8 * (d.fld A.MGT.TEMP_CFG 15 8 : Int)) → bitOf (d.blk .mgt).cause Cause.MGT.TEMP_WARN = true →
    Becomes (.tempWarn k x) s (d.lower .mgt Cause.MGT.TEMP_WARN)) ∧
  (∀ (s : State) (k : Nat) (t : Int) (d : Dev), 1000 ≤ t → s.dev.pmu.state = .run ∨ s.dev.pmu.state = .idle ∨ s.dev.pmu.state = .sleep → d = s.dev.hciEndAll.dropFrames.aonPins →
    Becomes (.thermalTrip k t) s (({ d with pmu := { d.pmu with state := .booting, entering := none, exiting := none, wakePending := none, nextCause := 4, nextDetail := k, second := some (0x0005, [wd k, wd (unsigned 32 t)]), resumeValid := false, resumeBody := false } } : Dev))) ∧
  (∀ (s : State), s.dev.mgt.uncommitted ≠ [] →
    Becomes (.bltCommitTimer) s ((s.dev.at_ (s.dev.mgt.openSince + msT (s.dev.fld A.MGT.BLT_CFG 31 16))).bltKick true)) ∧
  (∀ (s : State) (rq : Rq) (ws : List Word), s.dev.serves .mgt = true → s.dev.takes rq OP.COMMAND ws.length 0 = true → ws = [] →
    (s.dev.asked .mgt).mgt.uncommitted = [] → Performs (.bltCommit rq ws) s rq OP.COMMAND [] .mgt (fun d => d)) ∧
  (∀ (s : State) (rq : Rq) (ws : List Word) (m : Mgt), s.dev.serves .mgt = true → s.dev.takes rq OP.COMMAND ws.length 0 = true → ws = [] →
    m = (s.dev.asked .mgt).mgt → m.uncommitted ≠ [] → (m.vinWarn && !m.failCommit && !m.flashBusy) = false → m.flashFail = false →
    Defers (.bltCommit rq ws) s rq (blkPage .mgt) .mgt (fun d =>
      ({ d with mgt := { d.mgt with bltWait := some (d.mgt.nextSeq - 1) } } : Dev).bltKick true)) ∧
  (∀ (s : State) (rq : Rq) (ws : List Word) (m : Mgt) (recs : List BltRec), s.dev.serves .mgt = true → m = (s.dev.asked .mgt).mgt →
    (∀ r, m.records.head? = some r → r.seq ≤ (word ws 0).toNat) →
    recs = (m.records.filter (fun r => decide ((word ws 0).toNat ≤ r.seq))).take (min 32 (replyRoom rq.src (decide (rq.flags % 2 = 1)) / 8)) →
    s.dev.takes rq OP.COMMAND ws.length ((recs.map BltRec.toWords).flatten).length = true → ws.length = 1 →
    Performs (.bltRead rq ws) s rq OP.COMMAND (recs.map BltRec.toWords).flatten .mgt (fun d => d)) ∧
  (∀ (s : State) (m : Mgt) (rest : List BltRec) (done : Bool) (d1 : Dev), s.dev.mgt.flashBusy = true → m = s.dev.mgt → rest = m.uncommitted.filter (fun r => decide (m.committing < r.seq)) → (done = true ↔ ∃ n, m.bltWait = some n ∧ n ≤ m.committing) → d1 = ({ s.dev with mgt := { m with flash := { m.flash with blotter := bltKeep (m.flash.blotter ++ [m.uncommitted.filter (fun r => decide (r.seq ≤ m.committing))]), reservation := m.committing + 17 }, commitSeq := m.committing, committing := 0, flashBusy := false, flashTries := 0, bltWait := (if done then none else m.bltWait), openSince := (match rest with | r :: _ => (r.time - m.epoch) * 256 | [] => m.openSince) } } : Dev).event 3 →
    Becomes (.flashOpDone true) s ((((if done then d1.execDone RC.OK 0 [] else d1).bltKick false)).serveAll)) ∧
  (∀ (s : State), s.dev.mgt.flashBusy = true → s.dev.mgt.flashTries = 0 →
    Becomes (.flashOpDone false) s ((({ s.dev with mgt := { s.dev.mgt with flashTries := 1 } } : Dev)).serveAll)) ∧
  (∀ (s : State) (d1 : Dev), s.dev.mgt.flashBusy = true → s.dev.mgt.flashTries ≠ 0 → d1 = (({ s.dev with mgt := { s.dev.mgt with flashTries := 0, flashBusy := false, committing := 0, flashFail := true, bltWait := none } } : Dev).event 3).raise .mgt Cause.MGT.FLASH_FAIL →
    Becomes (.flashOpDone false) s (((if s.dev.mgt.bltWait.isSome then d1.execFailed 0 else d1)).serveAll)) ∧
  (∀ (s : State), s.dev.mgt.flashBusy = false → s.dev.mgt.upd = .erasing → s.dev.mgt.flashTries = 0 →
    Becomes (.flashOpDone false) s ((({ s.dev with mgt := { s.dev.mgt with flashTries := 1 } } : Dev)).serveAll)) ∧
  (∀ (s : State), s.dev.mgt.flashBusy = false → s.dev.mgt.upd = .erasing → s.dev.mgt.flashTries ≠ 0 →
    Becomes (.flashOpDone false) s (((((({ s.dev with mgt := { s.dev.mgt with flashTries := 0, flashFail := true, upd := .failed } } : Dev).event 3).raise .mgt Cause.MGT.FLASH_FAIL).count A.MGT.UPD_FAIL_CNT)).serveAll)) ∧
  (∀ (s : State) (mv : Nat) (d : Dev), s.dev.mgt.vinWarn = false → mv < s.dev.fld A.PMU.VIN_CFG 15 0 → s.dev.pmu.state ≠ .held → s.dev.pmu.state ≠ .off → d = (((({ s.dev with mgt := { s.dev.mgt with volts := s.dev.mgt.volts.set 0 mv, vinWarn := true } } : Dev)).count A.PMU.VIN_WARN_CNT).event 5).raise .pmu Cause.PMU.VIN_WARN →
    Becomes (.vinWarn mv) s (if s.dev.pmu.state = .sleep ∨ s.dev.pmu.state = .deep then d else d.powerFail mv (b2n s.dev.flashActive))) ∧
  (∀ (s : State) (mv : Nat), s.dev.mgt.vinWarn = true → s.dev.fld A.PMU.VIN_CFG 15 0 + 200 < mv →
    Becomes (.vinWarnClear mv) s ((({ s.dev with mgt := { s.dev.mgt with volts := s.dev.mgt.volts.set 0 mv, vinWarn := false, failCommit := false } } : Dev).lower .pmu Cause.PMU.VIN_WARN).bltKick false))

/-- A due boot, UPD_BEGIN to UPD_ABORT, the end of a trial, CFG_STAGE, CFG_COMMIT and CFG_DISCARD, OTP_KEY, KEY_REVOKE, OTP_REG,
LC_ADVANCE and LC_NONCE have the effect their rules give. Each clause gives the conditions on the state and the operands, and
the whole next state: the device it names with the reply on its way, every other part as before. -/
def Obligations.FirmwareCommandsComplete : Prop :=
  (∀ (s : State) (x : BootSeen) (t c : Nat), s.dev.mgt.resetDue = some (t, c) → s.dev.pmu.state ≠ .held → s.dev.pmu.state ≠ .off →
    Becomes (.coldBoot x) s (s.dev.coldBoot x.sfdp x.bad c 0 none)) ∧
  (∀ (s : State) (x : BootSeen), s.dev.pmu.state = .booting → s.dev.mgt.resetDue = none →
    Becomes (.coldBoot x) s (s.dev.coldBoot x.sfdp x.bad s.dev.pmu.nextCause s.dev.pmu.nextDetail s.dev.pmu.second)) ∧
  (∀ (σ : State) (rq : Rq) (ws : List Word), σ.dev.serves .mgt = true →
    let d := σ.dev.asked .mgt
    let len := (word ws 0).toNat
    (σ.dev.asked .mgt).mgt.vinWarn = false →
    σ.dev.takes rq OP.COMMAND ws.length 0 = true →
    ¬ (ws.length ≠ 1) →
    (outside len 1 (8 * 2 ^ 20)) = false →
    ¬ (d.mgt.upd ≠ .idle ∧ d.mgt.upd ≠ .failed) →
    Performs (.updBegin rq ws) σ rq OP.COMMAND [] .mgt (fun d =>
      let len := (word ws 0).toNat
      let m := { d.mgt.setOther Slot.empty with upd := .erasing, updLen := len, updGot := 0, updBytes := [] }
      ({ d with mgt := m } : Dev).updRecord 0x0A10 0 0 (!d.mgt.slot))) ∧
  (∀ (s : State), s.dev.mgt.upd = .erasing →
    Becomes (.updEraseDone) s (({ s.dev with mgt := { s.dev.mgt with upd := .receiving } } : Dev).event 3)) ∧
  (∀ (s : State) (rq : Rq) (ws : List Word) (m : Mgt) (got : List Byte), s.dev.serves .mgt = true → m = (s.dev.asked .mgt).mgt →
    s.dev.takes rq OP.COMMAND ws.length 0 = true → m.vinWarn = false → m.upd = .receiving → (word ws 0).toNat = m.updGot → 2 ≤ ws.length → ws.length ≤ 255 →
    (wordsBytes (ws.drop 1)).length ≤ m.updLen - m.updGot + 3 → got = (wordsBytes (ws.drop 1)).take (m.updLen - m.updGot) →
    Performs (.updWrite rq ws) s rq OP.COMMAND [] .mgt (fun d =>
      let d1 : Dev := { d with mgt := { d.mgt with updGot := d.mgt.updGot + got.length, updBytes := d.mgt.updBytes ++ got } }
      (if d1.mgt.updGot = d1.mgt.updLen then d1.updRecord 0x0A11 0 0 (!d.mgt.slot) else d1).event 3)) ∧
  (∀ (s : State) (rq : Rq) (ws : List Word) (d0 : Dev), s.dev.serves .mgt = true → d0 = s.dev.asked .mgt →
    s.dev.takes rq OP.COMMAND ws.length 0 = true → ws = [] → d0.mgt.vinWarn = false → d0.mgt.upd = .receiving → d0.mgt.updGot = d0.mgt.updLen → d0.verify d0.mgt.updBytes = none →
    Performs (.updFinish rq ws) s rq OP.COMMAND [] .mgt (fun d =>
      let x : Slot := { state := .valid, gen := d.mgt.running.gen + 1, len := d.mgt.updLen, image := d.mgt.updBytes }
      (({ d with mgt := { d.mgt.setOther x with upd := .ready, updBytes := [] } } : Dev).updRecord 0x0A12 0 0 (!d.mgt.slot)).event 3)) ∧
  (∀ (σ : State) (rq : Rq) (ws : List Word), σ.dev.serves .mgt = true →
    let d := σ.dev.asked .mgt
    (σ.dev.asked .mgt).mgt.vinWarn = false →
    σ.dev.takes rq OP.COMMAND ws.length 0 = true →
    ¬ (ws.length ≠ 0) →
    ¬ (d.mgt.upd ≠ .ready) →
    Performs (.updActivate rq ws) σ rq OP.COMMAND [] .mgt (fun d =>
      (d.updRecord 0x0A13 0 0 (!d.mgt.slot)).resetAt (d.tb + msT 10) 5)) ∧
  (∀ (σ : State) (rq : Rq) (ws : List Word), σ.dev.serves .mgt = true →
    let d := σ.dev.asked .mgt
    (σ.dev.asked .mgt).mgt.vinWarn = false →
    σ.dev.takes rq OP.COMMAND ws.length 0 = true →
    ¬ (ws.length ≠ 0) →
    ¬ (d.mgt.upd ≠ .trial) →
    Performs (.updConfirm rq ws) σ rq OP.COMMAND [] .mgt (fun d =>
      let r := d.mgt.running
      let sec := leNat ((r.image.drop 12).take 4)
      let arb := if d.bit A.MGT.UPD_CFG 31 then max d.mgt.otp.arb sec else d.mgt.otp.arb
      let m := d.mgt.setRunning { r with state := .good }
      let d1 : Dev := { d with mgt := { m with upd := .idle, trialDue := none, otp := { m.otp with arb := arb } } }
      (d1.updRecord 0x0A14 0 0 d.mgt.slot).event 3)) ∧
  (∀ (σ : State) (rq : Rq) (ws : List Word), σ.dev.serves .mgt = true →
    let d := σ.dev.asked .mgt
    (σ.dev.asked .mgt).mgt.vinWarn = false →
    σ.dev.takes rq OP.COMMAND ws.length 0 = true →
    ¬ (ws.length ≠ 0) →
    ¬ (d.mgt.upd = .idle ∨ d.mgt.upd = .trial) →
    Performs (.updAbort rq ws) σ rq OP.COMMAND [] .mgt (fun d =>
      let m := d.mgt.setOther Slot.empty
      ({ d with mgt := { m with upd := .idle, updGot := 0, updLen := 0, updBytes := [] } } : Dev).updRecord 0x0A15 0 0 (!d.mgt.slot))) ∧
  (∀ (s : State) (t : Nat) (d1 : Dev), s.dev.mgt.trialDue = some t → s.dev.mgt.upd = .trial → d1 = s.dev.at_ t →
    Becomes (.updTrialTimeout) s (({ d1 with mgt := { d1.mgt with trialDue := none, resetDue := some (d1.tb, 7) } } : Dev))) ∧
  (∀ (σ : State) (rq : Rq) (ws : List Word), σ.dev.serves .mgt = true →
    let d := σ.dev.asked .mgt
    let cs := writesOf ws
    (σ.dev.asked .mgt).mgt.vinWarn = false →
    σ.dev.takes rq OP.COMMAND ws.length 0 = true →
    ¬ (ws.length = 0 ∨ 254 < ws.length ∨ ws.length % 2 = 1) →
    (cs.any (fun e => decide (2 ^ 24 ≤ e.1) || (blkOfPage (e.1 / 4096)).isNone)) = false →
    ¬ (512 < d.mgt.staged.length + cs.length) →
    Performs (.cfgStage rq ws) σ rq OP.COMMAND [] .mgt (fun d =>
      let cs := writesOf ws
      { d with mgt := { d.mgt with staged := d.mgt.staged ++ cs } })) ∧
  (∀ (s : State) (rq : Rq) (ws : List Word) (m : Mgt), s.dev.serves .mgt = true → s.dev.takes rq OP.COMMAND ws.length 0 = true → ws = [] →
    m = (s.dev.asked .mgt).mgt → m.vinWarn = false → m.flashFail = false → Performs (.cfgCommit rq ws) s rq OP.COMMAND [] .mgt (fun d =>
      ({ d with mgt := { d.mgt with flash := { d.mgt.flash with journal := d.mgt.flash.journal ++ [d.mgt.staged] }, staged := [] } } : Dev).event 3)) ∧
  (∀ (σ : State) (rq : Rq) (ws : List Word), σ.dev.serves .mgt = true →
    (σ.dev.asked .mgt).mgt.vinWarn = false →
    σ.dev.takes rq OP.COMMAND ws.length 0 = true →
    ¬ (ws.length ≠ 0) →
    Performs (.cfgDiscard rq ws) σ rq OP.COMMAND [] .mgt (fun d =>
      { d with mgt := { d.mgt with staged := [] } })) ∧
  (∀ (σ : State) (rq : Rq) (ws : List Word), σ.dev.serves .mgt = true →
    let d := σ.dev.asked .mgt
    let k := bitsOf (word ws 0) 1 0
    (σ.dev.asked .mgt).mgt.vinWarn = false →
    σ.dev.takes rq OP.COMMAND ws.length 0 = true →
    ¬ (ws.length ≠ 13) →
    ¬ (d.mgt.otp.lc ≠ .provision) →
    rq.src.isAcp = false →
    ((tabFind d.mgt.otp.keys k).isSome) = false →
    (extra (word ws 0) 3) = false →
    Performs (.otpKey rq ws) σ rq OP.COMMAND [] .mgt (fun d =>
      let k := bitsOf (word ws 0) 1 0
      { d with mgt := { d.mgt with otp := { d.mgt.otp with
         keys := tabPut d.mgt.otp.keys k (beNat (wordsBytes (ws.drop 1))) } } })) ∧
  (∀ (σ : State) (rq : Rq) (ws : List Word), σ.dev.serves .mgt = true →
    let d := σ.dev.asked .mgt
    let k := (word ws 0).toNat
    let o := d.mgt.otp
    let others := (tabKeys o.keys).filter (fun i => decide (i ≠ k) && !d.keyRevoked i)
    (σ.dev.asked .mgt).mgt.vinWarn = false →
    σ.dev.takes rq OP.COMMAND ws.length 0 = true →
    ¬ (ws.length ≠ 1) →
    rq.src.isAcp = false →
    ¬ (3 < k) →
    (!d.mgt.unsigned && decide (d.mgt.stage = 2) && decide (byteAt d.mgt.running.image 5 = k)) = false →
    others.isEmpty = false →
    Performs (.keyRevoke rq ws) σ rq OP.COMMAND [] .mgt (fun d =>
      let k := (word ws 0).toNat
      let o := d.mgt.otp
      let d1 : Dev := { d with mgt := { d.mgt with otp := { o with revoked := tabSet false o.revoked k true } } }
      d1.blotter 0x030 0 0x0023 [wd k])) ∧
  (∀ (σ : State) (rq : Rq) (ws : List Word), σ.dev.serves .mgt = true →
    let d := σ.dev.asked .mgt
    (σ.dev.asked .mgt).mgt.vinWarn = false →
    σ.dev.takes rq OP.COMMAND ws.length 0 = true →
    ¬ (ws.length ≠ 64) →
    ¬ (d.mgt.otp.lc ≠ .provision) →
    rq.src.isAcp = false →
    (bitOf (tabGet 0 d.mgt.otp.reg 0) 31) = false →
    (!rglPageOk ws) = false →
    Performs (.otpReg rq ws) σ rq OP.COMMAND [] .mgt (fun d =>
      let page := (List.range 64).foldl (fun t i => tabSet 0 t i (if i = 0 then word ws 0 ||| 0x80000000 else word ws i)) ([] : Tab Word)
      { d with mgt := { d.mgt with otp := { d.mgt.otp with reg := page } } })) ∧
  (∀ (σ : State) (rq : Rq) (ws : List Word), σ.dev.serves .mgt = true →
    let d := σ.dev.asked .mgt
    let w := word ws 0
    let dest := lifeOf (bitsOf w 2 0)
    let need := if bitsOf w 2 0 = 4 then 51 else 1
    let l := dest.getD .end_
    (σ.dev.asked .mgt).mgt.vinWarn = false →
    σ.dev.takes rq OP.COMMAND ws.length 0 = true →
    ¬ (ws.length ≠ need) →
    rq.src.isAcp = false →
    (extra w 7 || (decide (need = 51) && decide (((wordsBytes ws).drop 105).take 3 ≠ [0, 0, 0]))) = false →
    (dest.isNone || !d.lifeOk l ws) = false →
    Performs (.lcAdvance rq ws) σ rq OP.COMMAND [] .mgt (fun d =>
      let w := word ws 0
      let dest := lifeOf (bitsOf w 2 0)
      let l := dest.getD .end_
      let d1 := d.blotter 0x030 0 0x0022 [wd d.mgt.otp.lc.num, wd l.num]
      let d2 : Dev := { d1 with mgt := { d1.mgt with otp := { d1.mgt.otp with lc := l }, nonce := none } }
      let d3 := if l = .ret ∨ l = .end_ then d2.eraseSecrets else d2
      d3.resetAt (d3.tb + msT 10) 6)) ∧
  (∀ (σ : State) (rq : Rq) (ws : List Word), σ.dev.serves .mgt = true →
    let d := σ.dev.asked .mgt
    let n := (List.range 4).map (fun i => wd (Config.freeNat (d.free + i)))
    σ.dev.takes rq OP.COMMAND ws.length 4 = true →
    ¬ (ws.length ≠ 0) →
    Performs (.lcNonce rq ws) σ rq OP.COMMAND n .mgt (fun d =>
      let n := (List.range 4).map (fun i => wd (Config.freeNat (d.free + i)))
      { d with free := d.free + 4, mgt := { d.mgt with nonce := some n } }))

/-- Power-on, loss of the AON supply, brown-out, overcurrent, the end of the entry of each state, each wake source, the exit and
its failure, and clock gating and waking of a block have the effect R434 to R450 give. Each clause gives the conditions on the
state and the operands, and the whole next device. -/
def Obligations.PowerCommandsComplete : Prop :=
  (∀ (s : State), s.dev.pmu.state = .held → s.dev.pmu.tripped = false →
    Becomes (.powerOn) s (({ s.dev with pmu := { s.dev.pmu with state := .booting, nextCause := 0, nextDetail := 0, second := none } } : Dev))) ∧
  (∀ (s : State) (rail : Nat) (d1 : Dev), s.dev.pmu.state ≠ .held → d1 = (s.dev.count A.PMU.BROWNOUT_CNT).hciEndAll.dropFrames.aonPins →
    Becomes (.brownOut rail true) s (({ d1 with pmu := { Pmu.reset with state := .held }, regs := d1.regs.filter (fun e => decide (e.1 / 4096 ≠ 0x020)) } : Dev))) ∧
  (∀ (s : State) (rail : Nat) (d1 : Dev), s.dev.pmu.state ≠ .held → d1 = (s.dev.count A.PMU.BROWNOUT_CNT).hciEndAll.dropFrames.aonPins →
    Becomes (.brownOut rail false) s (({ d1 with pmu := { d1.pmu with state := .held, entering := none, exiting := none, wakePending := none, nextCause := 2, nextDetail := rail, second := none, tripped := true, resumeValid := false, resumeBody := false } } : Dev))) ∧
  (∀ (s : State) (ua : Nat), s.dev.pmu.state ≠ .held → s.dev.pmu.state ≠ .off →
    Becomes (.aonOvercurrent ua) s (({ s.dev with pmu := { s.dev.pmu with state := .booting, entering := none, exiting := none, wakePending := none, aonUa := ua, nextCause := 2, nextDetail := 0xFF, second := some (0x0004, [wd ua]), resumeValid := false, resumeBody := false } } : Dev))) ∧
  (∀ (s : State) (d : Dev), s.dev.pmu.entering = some .idle → d = ({ s.dev with pmu := { s.dev.pmu with entering := none, wakePending := none, state := .idle, exiting := s.dev.pmu.wakePending } } : Dev) →
    Becomes (.stateEntryDone) s (d.count A.PMU.IDLE_CNT)) ∧
  (∀ (s : State) (d : Dev), s.dev.pmu.entering = some .sleep → d = ({ s.dev with pmu := { s.dev.pmu with entering := none, wakePending := none, state := .sleep, exiting := s.dev.pmu.wakePending } } : Dev) →
    Becomes (.stateEntryDone) s ((((d.count A.PMU.SLEEP_CNT).linksLost).ddrSleep).tmuSleep false)) ∧
  (∀ (s : State) (d : Dev), s.dev.pmu.entering = some .deep → d = ({ s.dev with pmu := { s.dev.pmu with entering := none, wakePending := none, state := .deep, exiting := s.dev.pmu.wakePending } } : Dev) →
    Becomes (.stateEntryDone) s ((((((((d.count A.PMU.DEEP_CNT).linksLost).hciEndAll).mpDomainLost).dataPlaneLost).ddrSleep).tmuSleep true).aonPins)) ∧
  (∀ (s : State) (d : Dev), s.dev.pmu.entering = some .off → d = ({ s.dev with pmu := { s.dev.pmu with entering := none, wakePending := none, state := .off, exiting := s.dev.pmu.wakePending } } : Dev) →
    Becomes (.stateEntryDone) s (((d.hciEndAll).dropFrames).aonPins)) ∧
  (∀ (s : State), s.dev.pmu.state = .off →
    Becomes (.wakeNLow) s (({ s.dev with pmu := { s.dev.pmu with state := .booting, nextCause := 1, nextDetail := 0, second := none, exiting := none } } : Dev))) ∧
  (∀ (s : State), s.dev.pmu.state ≠ .off → s.dev.pmu.state = .idle ∨ s.dev.pmu.entering = some .idle ∨ s.dev.bit A.PMU.WAKE_EN 0 = true →
    Becomes (.wakeNLow) s ((s.dev).wake 2)) ∧
  (∀ (s : State) (p : PwrState), p = s.dev.pmu.entering.getD s.dev.pmu.state → p = .idle ∨ ((p = .sleep ∨ p = .deep) ∧ s.dev.bit A.PMU.WAKE_EN 1 = true) →
    Becomes (.wakeTimer) s ((s.dev.at_ ((s.dev.rd A.PMU.WAKE_AT_LO).toNat + 2 ^ 32 * (s.dev.rd A.PMU.WAKE_AT_HI).toNat - p.exitTicks)).wake 3)) ∧
  (∀ (s : State) (p : PwrState), p = s.dev.pmu.entering.getD s.dev.pmu.state → p = .idle ∨ ((p = .sleep ∨ p = .deep) ∧ s.dev.bit A.PMU.WAKE_EN 2 = true) →
    Becomes (.spiCsWake) s ((s.dev).wake 4)) ∧
  (∀ (s : State) (code : Nat), s.dev.pmu.exiting = some code → s.dev.pmu.state = .deep →
    Becomes (.stateExitDone false) s (({ s.dev with pmu := { s.dev.pmu with state := .booting, exiting := none, nextCause := 8, nextDetail := 0, second := none } } : Dev))) ∧
  (∀ (s : State) (ok : Bool) (code : Nat) (d0 d1 d2 : Dev), s.dev.pmu.exiting = some code → (s.dev.pmu.state = .deep → ok = true) → d0 = ({ s.dev with pmu := { s.dev.pmu with state := .run, exiting := none, lastState := s.dev.pmu.state.mode, wakeCause := code } } : Dev) → d1 = (if s.dev.pmu.state = .sleep then (if ok = true ∨ d0.mem.ddr ≠ .selfRefresh then d0.ddrWake else d0.trainFailed).tmuWake false else if s.dev.pmu.state = .deep then (d0.onMp (fun c => { c with dmem := d0.fwInto c.dmem })).ddrWake.tmuWake true else d0) → d2 = (d1.wr A.PMU.MODE 0).event 5 →
    Becomes (.stateExitDone ok) s (({ d2 with mp := { d2.mp with wait := .none, evt := false } } : Dev))) ∧
  (∀ (s : State) (b : Blk) (l : Nat), (s.dev.blk b).clkForce = false → 1 < (s.dev.blk b).power → (s.dev.blk b).power ≠ 4 → s.dev.idleLevel b = some l → l < (s.dev.blk b).power →
    Becomes (.blockIdleGate b) s (s.dev.setBlk b { s.dev.blk b with power := l })) ∧
  (∀ (s : State) (b : Blk), (s.dev.blk b).power = 4 →
    Becomes (.blockWakeDone b) s (s.dev.setBlk b { s.dev.blk b with power := 3 }))

/-- TEST_START on each kind of unit, TEST_ABORT, TEST_RESULT, the end of the patterns, an overrun and the re-initialization of
each kind of unit have the effect R451 to R466 give. Each clause gives the conditions on the state and the operands, and the
whole next state: the device it names with the reply on its way, every other part as before. -/
def Obligations.SelfTestCommandsComplete : Prop :=
  (∀ (s : State) (rq : Rq) (ws : List Word) (d : Dev) (c : Nat) (r : Radio), s.dev.serves .bst = true → d = s.dev.asked .bst → s.dev.takes rq OP.COMMAND ws.length 0 = true →
    c = bitsOf (word ws 0) 7 0 → unitOf c = some (.radio r) → d.unitAllowed (.radio r) = true → d.bst.phase = .idle → extra (word ws 0) 0xFF = false →
    ws.length = 1 →
    Performs (.testStart rq ws) s rq OP.COMMAND [] .bst (fun d =>
      let d1 := ({ d with bst := { d.bst with phase := .quiescing, unit := c, start := d.tb, quiesceUs := 0, region := pair ws 1, mib := (word ws 3).toNat } } : Dev).count A.BST.RUN_CNT
      let d2 := d1.quiesce r
      { d2 with bst := { d2.bst with quiesceUs := d1.quiesceBoundUs r } })) ∧
  (∀ (s : State) (rq : Rq) (ws : List Word) (d : Dev) (c : Nat) (k : Nat) (q : Core) (a b : Nat), s.dev.serves .bst = true → d = s.dev.asked .bst → s.dev.takes rq OP.COMMAND ws.length 0 = true →
    c = bitsOf (word ws 0) 7 0 → unitOf c = some (.quill k) → d.unitAllowed (.quill k) = true → d.bst.phase = .idle → extra (word ws 0) 0xFF = false →
    ws.length = 1 → tabFind d.qar.cores k = some q → q.wait = .take a b →
    Performs (.testStart rq ws) s rq OP.COMMAND [] .bst (fun d =>
      let d1 := ({ d with bst := { d.bst with phase := .quiescing, unit := c, start := d.tb, quiesceUs := 0, region := pair ws 1, mib := (word ws 3).toNat } } : Dev).count A.BST.RUN_CNT
      let d2 := d1.wr A.QAR.CORE_CTRL (d1.rd A.QAR.CORE_CTRL &&& ~~~ oneBit k)
      (d2.setQuill k { q with wait := .stopped }).bstRun)) ∧
  (∀ (s : State) (rq : Rq) (ws : List Word) (d : Dev) (c : Nat) (k : Nat) (q : Core), s.dev.serves .bst = true → d = s.dev.asked .bst → s.dev.takes rq OP.COMMAND ws.length 0 = true →
    c = bitsOf (word ws 0) 7 0 → unitOf c = some (.quill k) → d.unitAllowed (.quill k) = true → d.bst.phase = .idle → extra (word ws 0) 0xFF = false →
    ws.length = 1 → tabFind d.qar.cores k = some q → q.wait = .stopped →
    Performs (.testStart rq ws) s rq OP.COMMAND [] .bst (fun d =>
      let d1 := ({ d with bst := { d.bst with phase := .quiescing, unit := c, start := d.tb, quiesceUs := 0, region := pair ws 1, mib := (word ws 3).toNat } } : Dev).count A.BST.RUN_CNT
      let d2 := d1.wr A.QAR.CORE_CTRL (d1.rd A.QAR.CORE_CTRL &&& ~~~ oneBit k)
      d2.bstRun)) ∧
  (∀ (s : State) (rq : Rq) (ws : List Word) (d : Dev) (c : Nat) (k : Nat) (q : Core), s.dev.serves .bst = true → d = s.dev.asked .bst → s.dev.takes rq OP.COMMAND ws.length 0 = true →
    c = bitsOf (word ws 0) 7 0 → unitOf c = some (.quill k) → d.unitAllowed (.quill k) = true → d.bst.phase = .idle → extra (word ws 0) 0xFF = false →
    ws.length = 1 → tabFind d.qar.cores k = some q → q.wait ≠ .stopped → (∀ a b, q.wait ≠ .take a b) →
    Performs (.testStart rq ws) s rq OP.COMMAND [] .bst (fun d =>
      let d1 := ({ d with bst := { d.bst with phase := .quiescing, unit := c, start := d.tb, quiesceUs := 0, region := pair ws 1, mib := (word ws 3).toNat } } : Dev).count A.BST.RUN_CNT
      let d2 := d1.wr A.QAR.CORE_CTRL (d1.rd A.QAR.CORE_CTRL &&& ~~~ oneBit k)
      d2.onBst (fun x => { x with quiesceUs := ceilDiv (d2.limitLeft k) 250 }))) ∧
  (∀ (s : State) (rq : Rq) (ws : List Word) (d : Dev) (c : Nat) (n : Nat), s.dev.serves .bst = true → d = s.dev.asked .bst → s.dev.takes rq OP.COMMAND ws.length 0 = true →
    c = bitsOf (word ws 0) 7 0 → unitOf c = some (.eth n) → d.unitAllowed (.eth n) = true → d.bst.phase = .idle → extra (word ws 0) 0xFF = false →
    ws.length = 1 → d.present (.eth n) = true →
    Performs (.testStart rq ws) s rq OP.COMMAND [] .bst (fun d =>
      let d1 := ({ d with bst := { d.bst with phase := .quiescing, unit := c, start := d.tb, quiesceUs := 0, region := pair ws 1, mib := (word ws 3).toNat } } : Dev).count A.BST.RUN_CNT
      d1.bstRun)) ∧
  (∀ (s : State) (rq : Rq) (ws : List Word) (d : Dev) (c : Nat) (u : TUnit), s.dev.serves .bst = true → d = s.dev.asked .bst → s.dev.takes rq OP.COMMAND ws.length 0 = true →
    c = bitsOf (word ws 0) 7 0 → unitOf c = some (u) → d.unitAllowed (u) = true → d.bst.phase = .idle → extra (word ws 0) 0xFF = false →
    ws.length = 1 → u = .pke ∨ u = .tmg ∨ u = .inkwell ∨ u = .sched →
    Performs (.testStart rq ws) s rq OP.COMMAND [] .bst (fun d =>
      let d1 := ({ d with bst := { d.bst with phase := .quiescing, unit := c, start := d.tb, quiesceUs := 0, region := pair ws 1, mib := (word ws 3).toNat } } : Dev).count A.BST.RUN_CNT
      d1.dpBegin.bstRun)) ∧
  (∀ (s : State) (rq : Rq) (ws : List Word) (d : Dev) (c : Nat), s.dev.serves .bst = true → d = s.dev.asked .bst → s.dev.takes rq OP.COMMAND ws.length 0 = true →
    c = bitsOf (word ws 0) 7 0 → unitOf c = some (.dram) → d.unitAllowed (.dram) = true → d.bst.phase = .idle → extra (word ws 0) 0xFF = false →
    ws.length = 4 → c = 0x34 → d.mem.ddr ≠ .frozen → pair ws 1 % 2 ^ 20 = 0 → (word ws 3).toNat ≠ 0 → pair ws 1 + (word ws 3).toNat * 2 ^ 20 ≤ d.dramMib * 2 ^ 20 →
    Performs (.testStart rq ws) s rq OP.COMMAND [] .bst (fun d =>
      let d1 := ({ d with bst := { d.bst with phase := .quiescing, unit := c, start := d.tb, quiesceUs := 0, region := pair ws 1, mib := (word ws 3).toNat } } : Dev).count A.BST.RUN_CNT
      ((d1.dpBegin.onPmu (fun p => { p with resumeValid := false, resumeBody := false })).dramUndefined (pair ws 1) ((word ws 3).toNat * 2 ^ 20)).bstRun)) ∧
  (∀ (s : State) (rq : Rq) (ws : List Word) (d0 : Dev), s.dev.serves .bst = true → d0 = s.dev.asked .bst → s.dev.takes rq OP.COMMAND ws.length 0 = true →
    ws = [] → (d0.bst.phase = .quiescing ∨ (d0.bst.phase = .running ∧ ∀ u, unitOf d0.bst.unit = some u → d0.tb ≠ d0.bst.runStart + usT (d0.unitUs u))) →
    Performs (.testAbort rq ws) s rq OP.COMMAND [] .bst (fun d => d.bstEarly 1)) ∧
  (∀ (σ : State) (rq : Rq) (ws : List Word), σ.dev.serves .bst = true →
    let d := σ.dev.asked .bst
    let c := bitsOf (word ws 0) 7 0
    let running := decide (d.bst.unit = c) && decide (d.bst.phase = .running ∨ d.bst.phase = .quiescing)
    let live : TestRes := { result := 4, alias_ := false, reason := 0, coverage := 0, executed := match unitOf c with
                              | some u => u.executed d.bstSoFar
                              | none => 0,
                            planned := match unitOf c with
                              | some u => u.patterns
                              | none => 0,
                            sig := 0, expected := Config.bistSignature d.mgt.otp.variant.toNat c,
                            durUs := (d.tb - d.bst.start) / 250, mismatches := 0, firstFail := 0, seq := 0 }
    let res := if running then some live else tabFind d.bst.results c
    σ.dev.takes rq OP.COMMAND ws.length 11 = true →
    ¬ (ws.length ≠ 1) →
    (extra (word ws 0) 0x1FF || (unitOf c).isNone) = false →
    res.isNone = false →
    Performs (.testResult rq ws) σ rq OP.COMMAND (match res with
        | none => []
        | some t =>
          if bitOf (word ws 0) 8 then t.spw71 c
          else [t.word0 c, wd t.executed, wd t.planned, wd t.sig, wd (t.sig / 2 ^ 32), wd t.expected,
                wd (t.expected / 2 ^ 32), wd t.durUs, wd t.mismatches, wd t.firstFail, wd t.seq]) .bst (fun d => d)) ∧
  (∀ (s : State) (sig mism first : Nat) (u : TUnit), unitOf s.dev.bst.unit = some u → s.dev.bst.phase = .running →
    Becomes (.testPatternsDone sig mism first) s ((s.dev.at_ (s.dev.bst.runStart + usT (s.dev.unitUs u))).bstEnd 0 u.patterns sig mism first)) ∧
  (∀ (s : State) (n : Nat) (u : TUnit) (d : Dev), unitOf s.dev.bst.unit = some u → s.dev.bst.phase = .running → d = s.dev.at_ (s.dev.bst.runStart + usT (2 * s.dev.unitUs u)) →
    Becomes (.testOverrun n) s (d.took.bstEnd 2 n (d.freeVal (2 ^ 64)) 0 0)) ∧
  (∀ (s : State) (r : Radio) (d : Dev), unitOf s.dev.bst.unit = some (.radio r) → s.dev.bst.phase = .reinit → d = ((s.dev.at_ (s.dev.tb + usT 293)).isolate (.radio r) false).onBst (fun b => { b with phase := .idle, unit := 0 }) →
    Becomes (.testReinitDone) s (if s.dev.bst.failed.contains s.dev.bst.unit = true then d else d.unquiesce r)) ∧
  (∀ (s : State) (k : Nat) (d d2 : Dev), unitOf s.dev.bst.unit = some (.quill k) → s.dev.bst.phase = .reinit → s.dev.bst.failed.contains s.dev.bst.unit = false → d = ({ s.dev with bst := { s.dev.bst with phase := .idle, unit := 0 }, tmu := (s.dev.at_ (s.dev.tb + usT 0)).tmu } : Dev) → d2 = d.setQuill k { Core.reset false with imem := d.quillCode, wait := .none } →
    Becomes (.testReinitDone) s (d2.wr A.QAR.CORE_CTRL (d2.rd A.QAR.CORE_CTRL ||| oneBit k))) ∧
  (∀ (s : State) (k : Nat), unitOf s.dev.bst.unit = some (.quill k) → s.dev.bst.phase = .reinit → s.dev.bst.failed.contains s.dev.bst.unit = true →
    Becomes (.testReinitDone) s (({ s.dev with bst := { s.dev.bst with phase := .idle, unit := 0 }, tmu := (s.dev.at_ (s.dev.tb + usT 0)).tmu } : Dev))) ∧
  (∀ (s : State) (n : Nat), unitOf s.dev.bst.unit = some (.eth n) → s.dev.bst.phase = .reinit →
    Becomes (.testReinitDone) s (((s.dev.at_ (s.dev.tb + usT 0)).isolate (.eth n) false).onBst (fun b => { b with phase := .idle, unit := 0 }))) ∧
  (∀ (s : State) (u : TUnit), unitOf s.dev.bst.unit = some u → u = .pke ∨ u = .tmg ∨ u = .inkwell ∨ u = .sched → s.dev.bst.phase = .reinit → s.dev.qarAtTake = true →
    Becomes (.testReinitDone) s ((((s.dev.at_ (s.dev.tb + usT 0)).isolate u false).onBst (fun b => { b with phase := .idle, unit := 0 })).dpEnd)) ∧
  (∀ (s : State), unitOf s.dev.bst.unit = some .dram → s.dev.bst.phase = .reinit → s.dev.qarAtTake = true →
    Becomes (.testReinitDone) s (((({ s.dev with bst := { s.dev.bst with phase := .idle, unit := 0 }, tmu := (s.dev.at_ (s.dev.tb + usT 0)).tmu } : Dev)).dramUndefined s.dev.bst.region (s.dev.bst.mib * 2 ^ 20)).dpEnd))

/-- A parity error of the command path, the end of a brown-out, a trained PCIe link, a passing tick, the AON temperature, energy
and preamble detection, the NAV and the test port have the effect their rules give. Each clause gives the conditions on the
state and the operands, and the whole next device. -/
def Obligations.LateCommandsComplete : Prop :=
  (∀ (s : State) (cmd port addr : Nat), s.dev.mem.ddr = .serving ∨ (s.dev.mem.ddr = .frozen ∧ s.dev.mem.thawing = true) →
    Becomes (.commandPathParityError cmd port addr) s (s.dev.freeze 3 cmd port addr [])) ∧
  (∀ (s : State) (cmd port addr : Nat), s.dev.mem.ddr = .frozen → s.dev.mem.thawing = false →
    Becomes (.commandPathParityError cmd port addr) s (s.dev.onMem (fun m => { m with frzParity := true }))) ∧
  (∀ (s : State), s.dev.pmu.state = .held → s.dev.pmu.tripped = true →
    Becomes (.brownOutRelease) s (({ s.dev with pmu := { s.dev.pmu with state := .booting, tripped := false } } : Dev))) ∧
  (∀ (s : State), s.dev.hciUp = true →
    Becomes (.pcieLinkUp) s ((s.dev.onHci (fun h => { h with linkUp := true })).hwWake .pci)) ∧
  (∀ (s : State) (temps : List Int) (volts : List Nat) (iin : Nat) (m : Mgt), m = { s.dev.mgt with temps := (temps ++ s.dev.mgt.temps.drop temps.length).take 12, volts := (volts ++ s.dev.mgt.volts.drop volts.length).take 6, iin := iin } →
    Becomes (.tmuMsTick temps volts iin) s ((({ s.dev with mgt := m } : Dev).event 2).tempWatch s.dev.mgt.temps)) ∧
  (∀ (s : State) (t : Int), s.dev.pmu.state = .deep →
    Becomes (.aonTempSample t) s (s.dev.onTmu (fun x => { x with aonTemp := t }))) ∧
  (∀ (s : State) (r : Radio) (k : Nat) (power : Int) (busy : Bool), (s.dev.phy.get r).rx ≠ .off → k < 2 ^ chanWidth (s.dev.rfe.get r).tuned → busy = decide (sbyte (s.dev.phy.get r).cfg.cca 0 ≤ power) →
    Becomes (.edBusyChange r k power) s (s.dev.onPhy r (fun p => { p with ed := if p.ed.testBit k = busy then p.ed else if busy then p.ed + 2 ^ k else p.ed - 2 ^ k }))) ∧
  (∀ (s : State) (r : Radio) (k : Nat) (power : Int) (us : Nat), (s.dev.phy.get r).rx ≠ .off → k < 2 ^ chanWidth (s.dev.rfe.get r).tuned → k ≠ primIdx r (s.dev.rfe.get r).tuned → sbyte (s.dev.phy.get r).cfg.cca 8 ≤ power →
    Becomes (.secondaryPdDetect r k power us) s (s.dev.onPhy r (fun p => { p with pdSec := p.pdSec.filter (fun e => decide (s.dev.tb < e.2)) ++ [(k, s.dev.tb + usT us)] }))) ∧
  (∀ (s : State) (r : Radio) (t : Nat) (ts : List Nat), [(s.dev.mac.get r).navBasic, (s.dev.mac.get r).navIntra, (s.dev.mac.get r).ownNav].filter (fun x => decide (s.dev.tb < x)) = t :: ts →
    Becomes (.navExpiry r) s ((s.dev.at_ (ts.foldl min t)).bcnSeen r)) ∧
  (∀ (s : State), s.dev.mgt.otp.lc ≠ .end_ →
    Becomes (.testPortInstruction .idcode) s (({ s.dev with port := .idcode } : Dev).emit (.tdo 0x10930A5F))) ∧
  (∀ (s : State) (i : PortInstr), i ≠ .idcode → (i = .extest ∨ i = .scan ∨ i = .debug → s.dev.mgt.otp.lc = .raw ∨ s.dev.mgt.otp.lc = .test ∨ s.dev.mgt.otp.lc = .ret) → s.dev.mgt.otp.lc ≠ .end_ →
    Becomes (.testPortInstruction i) s (({ s.dev with port := i } : Dev))) ∧
  (∀ (s : State) (i : PortInstr), i = .extest ∨ i = .scan ∨ i = .debug → s.dev.mgt.otp.lc ≠ .raw → s.dev.mgt.otp.lc ≠ .test → s.dev.mgt.otp.lc ≠ .ret →
    Becomes (.testPortInstruction i) s (({ s.dev with port := .bypass } : Dev)))

/-- For every command c and state s, step of s with c at the front of its queue is exec of c on s with the queue's rest. The
queue is the model's own (notes/assumptions/1.md). -/
def Obligations.StepRunsFront : Prop :=
  ∀ (c : Instr) (cs : List Instr) (d : Dev), step { dev := d, pending := c :: cs } = exec c { dev := d, pending := cs }

/-- With no command waiting, step answers a next state in which one tick of TB has passed while the clock runs, and the state
itself otherwise. That a step without a command is one tick is the model's choice (notes/assumptions/2.md). -/
def Obligations.EmptyQueueTicks : Prop :=
  (∀ d : Dev, (d.pmu.state = .run ∨ d.pmu.state = .idle ∨ d.pmu.state = .sleep ∨ d.pmu.state = .deep) → d.WatchesAnswered → step { dev := d, pending := [] } = .next { dev := d.at_ (d.tb + 1), pending := [] }) ∧
  (∀ d : Dev, (d.pmu.state = .held ∨ d.pmu.state = .booting ∨ d.pmu.state = .off) → d.WatchesAnswered → step { dev := d, pending := [] } = .next { dev := d, pending := [] }) ∧
  (∀ (d : Dev), (d.at_ (d.tb + 1)).tb = (d.tb + 1) % 2 ^ 64)

/-- For every command and every state, exec answers a next state, and the commands still waiting are the same: no command faults
or is refused by the model. -/
def Obligations.EveryCommandAnswers : Prop :=
  ∀ (c : Instr) (s : State), ∃ d : Dev, exec c s = .next { s with dev := d }

/-- The machine right after reset has no overdue WATCH and no ill-formed waiting command, and each of its memories is in
canonical form. -/
def Obligations.InvariantAtReset : Prop :=
  (State.reset.Inv) ∧
  (State.reset.dev.memWf = true)

/-- For every state that meets the invariant, if step answers a next state, that state meets it: no open WATCH holds an ATTN_SEQ
value other than the present one (R37), and every waiting command is well formed. -/
def Obligations.StepKeepsInvariant : Prop :=
  ∀ s t : State, s.Inv → step s = .next t → t.Inv

/-- After a restart of the MP, a reset of the array and at power-on, PSR, WIN and SPILLP of every core hold their reset values,
SPILLP 0x1000_7800 on a Quill core and 0x1005_F800 on the MP; every register, every LK, EPC, ECAUSE and EVT are 0, and execution
starts at address 0. -/
def Obligations.CoresAtReset : Prop :=
  (CoreAtReset true State.reset.dev.mp) ∧
  (∀ k : Fin 16, CoreAtReset false (State.reset.dev.quill k.val)) ∧
  (∀ (c : Core) (w : CoreWait), CoreAtReset false (c.restart w)) ∧
  (∀ mp : Bool, 72 * ((Core.reset mp).spillMax + 1) = 2016 ∧ (Core.reset mp).spillp.toNat + 2016 ≤ (if mp then 0x10060000 else 0x10008000))

/-- The conditions are those of R249's table, over the flags. An instruction of any format whose condition fails only goes on to
the next instruction; a transfer whose condition fails executes its slot and falls through past it. R249's remark on inverse
pairs is read with its table (notes/assumptions/141.md). -/
def Obligations.FailedConditions : Prop :=
  (∀ c : Core, c.holds 0x0 = true ∧ c.holds 0x1 = c.z ∧ c.holds 0x2 = !c.z ∧ c.holds 0x3 = (c.n != c.v) ∧ c.holds 0x4 = (c.n == c.v) ∧
    c.holds 0x5 = (c.z || c.n != c.v) ∧ c.holds 0x6 = (!c.z && c.n == c.v) ∧ c.holds 0x7 = c.c ∧ c.holds 0x8 = !c.c ∧ c.holds 0x9 = (c.c || c.z) ∧
    c.holds 0xA = (!c.c && !c.z) ∧ c.holds 0xB = c.n ∧ c.holds 0xC = !c.n ∧ c.holds 0xD = c.v ∧ c.holds 0xE = !c.v ∧ c.holds 0xF = c.evt) ∧
  (∀ (s : State) (u : Cpu) (f : FmtI), s.dev.coreRuns u = true → executable u (s.dev.core u).pc = true → (s.dev.core u).holds f.cond = false →
    ∀ c ∈ [Instr.addi u f, .subi u f, .andi u f, .ori u f, .xori u f, .shli u f, .shri u f, .sari u f, .rori u f, .muli u f, .trap u f], Becomes c s (s.dev.goOn u)) ∧
  (∀ (s : State) (u : Cpu) (f : FmtR), s.dev.coreRuns u = true → executable u (s.dev.core u).pc = true → (s.dev.core u).holds f.cond = false →
    ∀ c ∈ [Instr.alu u f, .atom u f, .fence u f, .wfe u f, .sev u f, .waitu u f, .take u f, .done u f, .mfs u f, .mts u f], Becomes c s (s.dev.goOn u)) ∧
  (∀ (s : State) (u : Cpu) (f : FmtM), s.dev.coreRuns u = true → executable u (s.dev.core u).pc = true → (s.dev.core u).holds f.cond = false →
    ∀ c ∈ [Instr.ldw u f, .ldh u f, .ldhu u f, .ldb u f, .ldbu u f, .stw u f, .sth u f, .stb u f], Becomes c s (s.dev.goOn u)) ∧
  (∀ (s : State) (u : Cpu) (f : FmtU), s.dev.coreRuns u = true → executable u (s.dev.core u).pc = true → (s.dev.core u).holds f.cond = false →
    ∀ c ∈ [Instr.movl u f, .movh u f], Becomes c s (s.dev.goOn u)) ∧
  (∀ (s : State) (u : Cpu) (f : FmtB), s.dev.coreRuns u = true → executable u (s.dev.core u).pc = true → (s.dev.core u).holds f.cond = false → (s.dev.core u).slot = none →
    ∀ c ∈ [Instr.br u f, .call u f], Becomes c s (s.dev.setCore u { s.dev.core u with slot := some ((s.dev.core u).pc, .notTaken), pc := ((s.dev.core u).pc + 4) % 2 ^ 32 })) ∧
  (∀ (s : State) (u : Cpu) (f : FmtR), s.dev.coreRuns u = true → executable u (s.dev.core u).pc = true → (s.dev.core u).holds f.cond = false → (s.dev.core u).slot = none →
    ∀ c ∈ [Instr.jmp u f, .callr u f, .ret u f, .rete u f], Becomes c s (s.dev.setCore u { s.dev.core u with slot := some ((s.dev.core u).pc, .notTaken), pc := ((s.dev.core u).pc + 4) % 2 ^ 32 })) ∧
  (∀ (d : Dev) (u : Cpu) (a : Nat), (d.core u).slot = some (a, .notTaken) → (d.goOn u).core u = { d.core u with slot := none, pc := (a + 8) % 2 ^ 32 })

/-- After SUB with S set, the conditions EQ, NE, LT, GE, LE, GT, LTU, GEU, LEU and GTU hold exactly when the operands, read as
signed or unsigned numbers, compare so. -/
def Obligations.ComparisonsOrder : Prop :=
  (∀ (c : Core) (a b : Word), let f := c.setFlags (aluSub a b false)
    (f.holds 0x1 = decide (a = b)) ∧ (f.holds 0x7 = decide (a.toNat < b.toNat)) ∧ (f.holds 0x8 = decide (b.toNat ≤ a.toNat)) ∧
    (f.holds 0x9 = decide (a.toNat ≤ b.toNat)) ∧ (f.holds 0xA = decide (b.toNat < a.toNat))) ∧
  (∀ (c : Core) (a b : Word), let f := c.setFlags (aluSub a b false)
    (f.holds 0x3 = decide (a.toInt < b.toInt)) ∧ (f.holds 0x4 = decide (b.toInt ≤ a.toInt)) ∧
    (f.holds 0x5 = decide (a.toInt ≤ b.toInt)) ∧ (f.holds 0x6 = decide (b.toInt < a.toInt)))

/-- ADD with S then ADC gives the 64-bit sum, SUB with S then SBC the 64-bit difference, and MUL with MULHU or MULHS the 64-bit
product, unsigned or signed. -/
def Obligations.MultiwordArithmetic : Prop :=
  (∀ (c : Core) (a1 a0 b1 b0 : Word) (lo hi : AluOut), aluFunc c 0x00 a0 b0 = some lo → aluFunc { c with c := lo.c } 0x01 a1 b1 = some hi →
    hi.res ++ lo.res = (a1 ++ a0) + (b1 ++ b0) ∧ (hi.c = true ↔ 2 ^ 64 ≤ (a1 ++ a0).toNat + (b1 ++ b0).toNat)) ∧
  (∀ (c : Core) (a1 a0 b1 b0 : Word) (lo hi : AluOut), aluFunc c 0x02 a0 b0 = some lo → aluFunc { c with c := lo.c } 0x03 a1 b1 = some hi →
    hi.res ++ lo.res = (a1 ++ a0) - (b1 ++ b0) ∧ (hi.c = true ↔ (a1 ++ a0).toNat < (b1 ++ b0).toNat)) ∧
  (∀ (c : Core) (a b : Word) (lo hi : AluOut), aluFunc c 0x0C a b = some lo → aluFunc c 0x0D a b = some hi →
    (hi.res ++ lo.res).toNat = a.toNat * b.toNat) ∧
  (∀ (c : Core) (a b : Word) (lo hi : AluOut), aluFunc c 0x0C a b = some lo → aluFunc c 0x0E a b = some hi →
    (hi.res ++ lo.res).toInt = a.toInt * b.toInt)

/-- DIVU, REMU, DIVS and REMS give quotient and remainder for every pair of operands, with the values R252 gives for a zero
divisor and for the overflow. -/
def Obligations.DivisionNeverTraps : Prop :=
  (∀ (c : Core) (a b : Word) (q r : AluOut), aluFunc c 0x14 a b = some q → aluFunc c 0x16 a b = some r → b ≠ 0 →
    a.toNat = q.res.toNat * b.toNat + r.res.toNat ∧ r.res.toNat < b.toNat) ∧
  (∀ (c : Core) (a b : Word) (q r : AluOut), aluFunc c 0x15 a b = some q → aluFunc c 0x17 a b = some r → b ≠ 0 → ¬ (a = 0x80000000 ∧ b = 0xFFFFFFFF) →
    a.toInt = q.res.toInt * b.toInt + r.res.toInt ∧ r.res.toInt.natAbs < b.toInt.natAbs ∧ (r.res.toInt = 0 ∨ (r.res.toInt < 0 ↔ a.toInt < 0))) ∧
  (∀ (c : Core) (a : Word), aluFunc c 0x14 a 0 = some (.plain 0xFFFFFFFF) ∧ aluFunc c 0x15 a 0 = some (.plain 0xFFFFFFFF) ∧
    aluFunc c 0x16 a 0 = some (.plain a) ∧ aluFunc c 0x17 a 0 = some (.plain a)) ∧
  (∀ c : Core, aluFunc c 0x15 0x80000000 0xFFFFFFFF = some (.plain 0x80000000) ∧ aluFunc c 0x17 0x80000000 0xFFFFFFFF = some (.plain 0))

/-- Fields 0 to 7 name the globals, k0 reading 0; for a CWP below 12, p0 to p7 are the low half of group CWP, w0 to w7 its high
half, n0 to n7 the low half of group (CWP + 1) mod 12, and LK is that of group CWP; the p registers of the next window are this
window's n registers; a write changes the register it names and no other, and a write to k0 none. -/
def Obligations.RegisterWindows : Prop :=
  (∀ (c : Core) (n : BitVec 5), n.toNat < 8 → c.reg n = if n = 0 then 0 else tabGet 0 c.globals n.toNat) ∧
  (∀ (c : Core) (i : Nat), c.cwp < 12 → i < 8 → c.reg (BitVec.ofNat 5 (8 + i)) = tabGet 0 c.windows (16 * c.cwp + i)) ∧
  (∀ (c : Core) (i : Nat), c.cwp < 12 → i < 8 → c.reg (BitVec.ofNat 5 (16 + i)) = tabGet 0 c.windows (16 * c.cwp + 8 + i)) ∧
  (∀ (c : Core) (i : Nat), i < 8 → c.reg (BitVec.ofNat 5 (24 + i)) = tabGet 0 c.windows (16 * ((c.cwp + 1) % 12) + i)) ∧
  (∀ c : Core, c.cwp < 12 → c.lk = tabGet 0 c.links c.cwp) ∧
  (∀ (c e : Core) (i : Nat), i < 8 → e = ({ c with cwp := (c.cwp + 1) % 12 } : Core) → e.reg (BitVec.ofNat 5 (8 + i)) = c.reg (BitVec.ofNat 5 (24 + i))) ∧
  (∀ (c : Core) (n m : BitVec 5) (v : Word), (c.setReg n v).reg m = if m = n ∧ n ≠ 0 then v else c.reg m)

/-- Without a spill or fill: after its slot, CALL or CALLR advances CWP, writes the new window's LK and the target, and the
caller's n registers are the callee's p registers; RET and RETE retreat CWP to the address in LK or EPC, RETE clearing EXC; a
jump only sets the pc. Flags, EVT and globals stay. -/
def Obligations.CallAndReturn : Prop :=
  (∀ (d : Dev) (u : Cpu) (c : Core) (a p r : Nat) (e : Core), c = d.core u → c.slot = some (a, .call p r) → c.cwp < 12 → c.res < 11 → e = (d.goOn u).core u →
    e.cwp = (c.cwp + 1) % 12 ∧ e.res = c.res + 1 ∧ e.lk = wd r ∧ e.pc = p ∧ e.slot = none ∧ (∀ i < 8, e.reg (BitVec.ofNat 5 i) = c.reg (BitVec.ofNat 5 i)) ∧
    (∀ i < 8, e.reg (BitVec.ofNat 5 (8 + i)) = c.reg (BitVec.ofNat 5 (24 + i))) ∧ e.n = c.n ∧ e.z = c.z ∧ e.c = c.c ∧ e.v = c.v ∧ e.evt = c.evt) ∧
  (∀ (d : Dev) (u : Cpu) (c : Core) (a : Nat) (e : Core), c = d.core u → c.slot = some (a, .ret) → c.cwp < 12 → 1 < c.res → e = (d.goOn u).core u →
    e.pc = c.lk.toNat ∧ e.cwp = (c.cwp + 11) % 12 ∧ e.res = c.res - 1 ∧ e.slot = none ∧ e.exc = c.exc ∧ (∀ i < 8, e.reg (BitVec.ofNat 5 i) = c.reg (BitVec.ofNat 5 i)) ∧
    (∀ i < 8, e.reg (BitVec.ofNat 5 (24 + i)) = c.reg (BitVec.ofNat 5 (8 + i))) ∧ e.n = c.n ∧ e.z = c.z ∧ e.c = c.c ∧ e.v = c.v ∧ e.evt = c.evt) ∧
  (∀ (d : Dev) (u : Cpu) (c : Core) (a : Nat) (e : Core), c = d.core u → c.slot = some (a, .rete) → c.cwp < 12 → 1 < c.res → e = (d.goOn u).core u →
    e.pc = c.epc.toNat ∧ e.exc = false ∧ e.cwp = (c.cwp + 11) % 12 ∧ e.res = c.res - 1 ∧ e.slot = none ∧ (∀ i < 8, e.reg (BitVec.ofNat 5 i) = c.reg (BitVec.ofNat 5 i)) ∧
    (∀ i < 8, e.reg (BitVec.ofNat 5 (24 + i)) = c.reg (BitVec.ofNat 5 (8 + i))) ∧ e.n = c.n ∧ e.z = c.z ∧ e.c = c.c ∧ e.v = c.v ∧ e.evt = c.evt) ∧
  (∀ (d : Dev) (u : Cpu) (c : Core) (a p : Nat), c = d.core u → c.slot = some (a, .jump p) → d.goOn u = d.setCore u { c with slot := none, pc := p })

/-- A window advance with eleven resident windows stores the oldest one into the next frame of the spill area and changes no
byte outside it; if neither the frame nor SPILLED has changed since, the retreat that needs it brings the same 16 registers and
LK back. -/
def Obligations.SpilledWindowsReturn : Prop :=
  (∀ (u : Cpu) (c e : Core), c.res = 11 → c.advance u = some e →
    e.res = 11 ∧ e.cwp = (c.cwp + 1) % 12 ∧ e.spilled = (c.spilled + 1) % 4096 ∧ e.globals = c.globals ∧ e.windows = c.windows ∧ e.links = c.links ∧
    (∀ x, x < c.frameAt c.spilled - 0x10000000 ∨ c.frameAt c.spilled - 0x10000000 + 72 ≤ x → tabGet 0 e.dmem x = tabGet 0 c.dmem x)) ∧
  (∀ (u : Cpu) (c e f : Core), c.res = 11 → c.spilled < 4095 → c.advance u = some e →
    f.spilled = e.spilled → f.spillp = c.spillp → f.dmem = e.dmem → f.res = 1 → f.cwp % 12 = (c.cwp + 3) % 12 →
    ∃ g, f.retreat u = some g ∧ g.spilled = c.spilled ∧ g.res = 1 ∧ g.cwp = (c.cwp + 2) % 12 ∧ g.lk = c.linkOf (c.cwp + 2) ∧ g.globals = f.globals ∧
    (∀ i < 16, g.reg (BitVec.ofNat 5 (8 + i)) = tabGet 0 c.windows (16 * ((c.cwp + 2) % 12) + i)))

/-- An exception writes EPC and ECAUSE, advances the window, spilling the oldest when eleven are resident, gives the new
window's LK the EPC, sets EXC and continues at 0x40, where the MP's ROM jumps to an installed handler or records and restarts;
one raised with EXC set, or needing a spill past the kept frame, is a double fault, which halts a Quill core and restarts the MP
(R246, R261 to R264). -/
def Obligations.TakingAnException : Prop :=
  (∀ (c : Core) (cause a : Nat) (t : Transfer), c.slot = some (a, t) → c.epcFor cause = a) ∧
  (∀ c : Core, c.slot = none → c.epcFor Exc.TRAP = c.pc + 4) ∧
  (∀ (c : Core) (cause : Nat), c.slot = none → cause ≠ Exc.TRAP → c.epcFor cause = c.pc) ∧
  (∀ (d : Dev) (u : Cpu) (c e : Core) (cause det code epc : Nat), c = d.core u → c.exc = false → c.res < 11 →
    epc = c.epcFor cause →
    e = ({ c with epc := wd epc, ecause := wd (b2n c.slot.isSome * 2 ^ 31 + det * 2 ^ 16 + code * 2 ^ 8 + cause), slot := none, cwp := (c.cwp + 1) % 12, res := c.res + 1, links := tabSet 0 c.links ((c.cwp + 1) % 12) (wd epc), exc := true, pc := 0x40 } : Core) →
    d.except u cause det code = if u.isMp = true then (d.setCore u e).romException else d.setCore u e) ∧
  (∀ (d : Dev) (u : Cpu) (c c1 c2 : Core) (cause det code epc : Nat), c = d.core u → c.exc = false → c.res = 11 → c.spilled ≤ c.spillMax →
    epc = c.epcFor cause →
    c1 = ({ c with epc := wd epc, ecause := wd (b2n c.slot.isSome * 2 ^ 31 + det * 2 ^ 16 + code * 2 ^ 8 + cause), slot := none } : Core) → c1.advance u = some c2 →
    d.except u cause det code =
      (let e := d.setCore u { c2.setLinkOf c2.cwp (wd epc) with exc := true, pc := 0x40 }
       if u.isMp = true then e.romException else e)) ∧
  (∀ d : Dev, d.mp.dmemGet 0 4 ≠ 0 → d.mp.dmemGet 0 4 % 4 = 0 → d.romException = { d with mp := { d.mp with pc := d.mp.dmemGet 0 4 } }) ∧
  (∀ d : Dev, (d.mp.dmemGet 0 4 = 0 ∨ d.mp.dmemGet 0 4 % 4 ≠ 0) → d.romException = (d.blotter 0x030 0 0x0007 [d.mp.ecause, d.mp.epc]).mpRestart) ∧
  (∀ (d : Dev) (u : Cpu) (cause det code : Nat), (d.core u).exc = true → d.except u cause det code = d.doubleFault u) ∧
  (∀ (d : Dev) (u : Cpu) (c c1 : Core) (cause det code epc : Nat), c = d.core u → c.exc = false → c.res = 11 → c.spillMax < c.spilled →
    epc = c.epcFor cause →
    c1 = ({ c with epc := wd epc, ecause := wd (b2n c.slot.isSome * 2 ^ 31 + det * 2 ^ 16 + code * 2 ^ 8 + cause), slot := none } : Core) →
    d.except u cause det code = (d.setCore u c1).doubleFault u) ∧
  (∀ (d : Dev) (k : Fin 16), d.doubleFault (.quill k) = d.setCore (.quill k) { d.core (.quill k) with wait := .halted }) ∧
  (∀ d : Dev, d.doubleFault .mp = (d.blotter 0x030 0 0x0006 [d.mp.ecause, d.mp.epc]).mpRestart)

/-- Under the conditions R261's table names (a reserved field, a transfer or WFE in a slot, TAKE or DONE out of order, no room
to spill, nothing to fill, a misaligned address or target, a refused access or fetch), the instruction takes the exception of
that row. -/
def Obligations.WhereInstructionsTrap : Prop :=
  (∀ (s : State) (u : Cpu) (f : FmtM) (c : Core), s.dev.executes u f.cond = true → c = s.dev.core u → (c.reg f.ra + f.ext).toNat % 4 ≠ 0 →
    Becomes (.ldw u f) s (s.dev.except u Exc.ALIGN 0 0)) ∧
  (∀ (s : State) (u : Cpu) (f : FmtM) (c : Core), s.dev.executes u f.cond = true → c = s.dev.core u → (c.reg f.ra + f.ext).toNat % 2 ≠ 0 →
    Becomes (.ldh u f) s (s.dev.except u Exc.ALIGN 0 0)) ∧
  (∀ (s : State) (u : Cpu) (f : FmtM) (c : Core), s.dev.executes u f.cond = true → c = s.dev.core u → (c.reg f.ra + f.ext).toNat % 2 ≠ 0 →
    Becomes (.ldhu u f) s (s.dev.except u Exc.ALIGN 0 0)) ∧
  (∀ (s : State) (u : Cpu) (f : FmtM) (c : Core), s.dev.executes u f.cond = true → c = s.dev.core u → (c.reg f.ra + f.ext).toNat % 4 ≠ 0 →
    Becomes (.stw u f) s (s.dev.except u Exc.ALIGN 0 0)) ∧
  (∀ (s : State) (u : Cpu) (f : FmtM) (c : Core), s.dev.executes u f.cond = true → c = s.dev.core u → (c.reg f.ra + f.ext).toNat % 2 ≠ 0 →
    Becomes (.sth u f) s (s.dev.except u Exc.ALIGN 0 0)) ∧
  (∀ (s : State) (u : Cpu) (f : FmtR) (c : Core), s.dev.executes u f.cond = true → c = s.dev.core u → f.func.toNat ≤ 3 → f.s = false → (c.reg f.ra).toNat % 4 ≠ 0 →
    Becomes (.atom u f) s (s.dev.except u Exc.ALIGN 0 0)) ∧
  (∀ (s : State) (u : Cpu) (f : FmtR) (c : Core), s.dev.executes u f.cond = true → c = s.dev.core u → f.func.toNat ≤ 3 → f.s = false → (c.reg f.ra).toNat % 4 = 0 → atomic u (c.reg f.ra).toNat = false →
    Becomes (.atom u f) s (s.dev.except u Exc.BUS RC.NOT_PERMITTED 0)) ∧
  (∀ (s : State) (u : Cpu) (f : FmtM) (c : Core) (a k : Nat), s.dev.executes u f.cond = true → c = s.dev.core u → a = (c.reg f.ra + f.ext).toNat → a % 4 = 0 → s.dev.load u a 4 = (s.dev, Ans.err k) → k ≠ RC.OK →
    Becomes (.ldw u f) s (s.dev.except u Exc.BUS k 0)) ∧
  (∀ (s : State) (u : Cpu) (f : FmtM) (c : Core) (a k : Nat), s.dev.executes u f.cond = true → c = s.dev.core u → a = (c.reg f.ra + f.ext).toNat → a % 4 = 0 → s.dev.store u a 4 (c.reg f.rd) = (s.dev, Ans.err k) → k ≠ RC.OK →
    Becomes (.stw u f) s (s.dev.except u Exc.BUS k 0)) ∧
  (∀ (s : State) (u : Cpu) (f : FmtI) (c : Core), s.dev.executes u f.cond = true → c = s.dev.core u → 32 ≤ f.imm.toNat →
    Becomes (.shli u f) s (s.dev.except u Exc.ILLEGAL 0 0)) ∧
  (∀ (s : State) (u : Cpu) (f : FmtR) (c : Core), s.dev.executes u f.cond = true → c = s.dev.core u → 0x17 < f.func.toNat →
    Becomes (.alu u f) s (s.dev.except u Exc.ILLEGAL 0 0)) ∧
  (∀ (s : State) (u : Cpu) (f : FmtI) (c : Core), s.dev.executes u f.cond = true → c = s.dev.core u → 256 ≤ f.imm.toNat →
    Becomes (.trap u f) s (s.dev.except u Exc.ILLEGAL 0 0)) ∧
  (∀ (s : State) (u : Cpu) (f : FmtB) (c : Core), s.dev.executes u f.cond = true → c = s.dev.core u → c.slot = none → c.res = 11 → c.spillMax ≤ c.spilled →
    Becomes (.call u f) s (s.dev.except u Exc.OVERFLOW 0 0)) ∧
  (∀ (s : State) (u : Cpu) (f : FmtR) (c : Core), s.dev.executes u f.cond = true → c = s.dev.core u → c.slot = none → f.bare = true → c.res = 1 → c.spilled = 0 →
    Becomes (.ret u f) s (s.dev.except u Exc.UNDERFLOW 0 0)) ∧
  (∀ (s : State) (u : Cpu) (f : FmtR) (c : Core), s.dev.executes u f.cond = true → c = s.dev.core u → c.slot = none → f.rd = 0 → f.rb = 0 → f.s = false → f.func = 0 → (c.reg f.ra).toNat % 4 ≠ 0 →
    Becomes (.jmp u f) s (s.dev.except u Exc.ALIGN 0 0)) ∧
  (∀ (s : State) (u : Cpu) (f : FmtR) (c : Core), s.dev.executes u f.cond = true → c = s.dev.core u → c.slot = none → f.bare = true → ¬ (c.res = 1 ∧ c.spilled = 0) → c.lk.toNat % 4 ≠ 0 →
    Becomes (.ret u f) s (s.dev.except u Exc.ALIGN 0 0)) ∧
  (∀ (s : State) (u : Cpu) (f : FmtR) (c : Core), s.dev.executes u f.cond = true → c = s.dev.core u → c.slot = none → f.bare = true → c.epc.toNat % 4 ≠ 0 →
    Becomes (.rete u f) s (s.dev.except u Exc.ALIGN 0 0)) ∧
  (∀ (s : State) (u : Cpu) (f : FmtB) (c : Core), s.dev.executes u f.cond = true → c = s.dev.core u → c.slot.isSome = true →
    Becomes (.br u f) s (s.dev.except u Exc.ILLEGAL 0 0)) ∧
  (∀ (s : State) (u : Cpu) (f : FmtB) (c : Core), s.dev.executes u f.cond = true → c = s.dev.core u → c.slot.isSome = true →
    Becomes (.call u f) s (s.dev.except u Exc.ILLEGAL 0 0)) ∧
  (∀ (s : State) (u : Cpu) (f : FmtR) (c : Core), s.dev.executes u f.cond = true → c = s.dev.core u → c.slot.isSome = true →
    Becomes (.jmp u f) s (s.dev.except u Exc.ILLEGAL 0 0)) ∧
  (∀ (s : State) (u : Cpu) (f : FmtR) (c : Core), s.dev.executes u f.cond = true → c = s.dev.core u → c.slot.isSome = true →
    Becomes (.callr u f) s (s.dev.except u Exc.ILLEGAL 0 0)) ∧
  (∀ (s : State) (u : Cpu) (f : FmtR) (c : Core), s.dev.executes u f.cond = true → c = s.dev.core u → c.slot.isSome = true →
    Becomes (.ret u f) s (s.dev.except u Exc.ILLEGAL 0 0)) ∧
  (∀ (s : State) (u : Cpu) (f : FmtR) (c : Core), s.dev.executes u f.cond = true → c = s.dev.core u → c.slot.isSome = true →
    Becomes (.rete u f) s (s.dev.except u Exc.ILLEGAL 0 0)) ∧
  (∀ (s : State) (u : Cpu) (f : FmtR) (c : Core), s.dev.executes u f.cond = true → c = s.dev.core u → c.slot.isSome = true →
    Becomes (.wfe u f) s (s.dev.except u Exc.ILLEGAL 0 0)) ∧
  (∀ (s : State) (u : Cpu) (f : FmtR) (c : Core), s.dev.executes u f.cond = true → c = s.dev.core u → 8 < f.func.toNat →
    Becomes (.mfs u f) s (s.dev.except u Exc.ILLEGAL 0 0)) ∧
  (∀ (s : State) (f : FmtR), s.dev.executes .mp f.cond = true →
    Becomes (.take .mp f) s (s.dev.except .mp Exc.ILLEGAL 0 0)) ∧
  (∀ (s : State) (k : Fin 16) (f : FmtR), s.dev.executes (.quill k) f.cond = true → f.ra = 0 → f.rb = 0 → f.s = false → f.func = 0 → (s.dev.core (.quill k)).held.isSome = true →
    Becomes (.take (.quill k) f) s (s.dev.except (.quill k) Exc.OPSTATE 0 0)) ∧
  (∀ (s : State) (k : Fin 16) (f : FmtR), s.dev.executes (.quill k) f.cond = true → f.s = false → (s.dev.core (.quill k)).held = none →
    Becomes (.done (.quill k) f) s (s.dev.except (.quill k) Exc.OPSTATE 0 0)) ∧
  (∀ (s : State) (u : Cpu) (f : FmtI), s.dev.coreRuns u = true → executable u (s.dev.core u).pc = false →
    Becomes (.addi u f) s (s.dev.except u Exc.BUS RC.BAD_ADDRESS 0))

/-- STW, STH, STB and ATOM into a memory that takes the store put their bytes at the address, little-endian, and leave every
other byte the core can address, its registers and every device register as before; going on to the next instruction outside a
slot changes only the pc. ATOM's destination takes the old word. -/
def Obligations.StoresChangeOnlyTheirBytes : Prop :=
  (∀ (s : State) (u : Cpu) (f : FmtM) (c : Core) (a : Nat), s.dev.executes u f.cond = true → c = s.dev.core u → a = (c.reg f.ra + f.ext).toNat → a % 4 = 0 → s.dev.storable u (a / 4 * 4) = true →
    ∃ D : Dev, Becomes (.stw u f) s (D.goOn u) ∧ (∀ i < 4, D.memByte u (a + i) = BitVec.ofNat 8 ((c.reg f.rd).toNat / 256 ^ i)) ∧
      (∀ x, (x < a ∨ a + 4 ≤ x) → D.memByte u x = s.dev.memByte u x) ∧ D.core u = { c with dmem := (D.core u).dmem } ∧
      D.regs = s.dev.regs ∧ D.pages = s.dev.pages ∧ D.hci = s.dev.hci) ∧
  (∀ (s : State) (u : Cpu) (f : FmtM) (c : Core) (a : Nat), s.dev.executes u f.cond = true → c = s.dev.core u → a = (c.reg f.ra + f.ext).toNat → a % 2 = 0 → s.dev.storable u (a / 4 * 4) = true →
    ∃ D : Dev, Becomes (.sth u f) s (D.goOn u) ∧ (∀ i < 2, D.memByte u (a + i) = BitVec.ofNat 8 ((c.reg f.rd).toNat / 256 ^ i)) ∧
      (∀ x, (x < a ∨ a + 2 ≤ x) → D.memByte u x = s.dev.memByte u x) ∧ D.core u = { c with dmem := (D.core u).dmem } ∧
      D.regs = s.dev.regs ∧ D.pages = s.dev.pages ∧ D.hci = s.dev.hci) ∧
  (∀ (s : State) (u : Cpu) (f : FmtM) (c : Core) (a : Nat), s.dev.executes u f.cond = true → c = s.dev.core u → a = (c.reg f.ra + f.ext).toNat → s.dev.storable u (a / 4 * 4) = true →
    ∃ D : Dev, Becomes (.stb u f) s (D.goOn u) ∧ (∀ i < 1, D.memByte u (a + i) = BitVec.ofNat 8 ((c.reg f.rd).toNat / 256 ^ i)) ∧
      (∀ x, (x < a ∨ a + 1 ≤ x) → D.memByte u x = s.dev.memByte u x) ∧ D.core u = { c with dmem := (D.core u).dmem } ∧
      D.regs = s.dev.regs ∧ D.pages = s.dev.pages ∧ D.hci = s.dev.hci) ∧
  (∀ (s : State) (u : Cpu) (f : FmtR) (c : Core) (a : Nat) (old new : Word), s.dev.executes u f.cond = true → c = s.dev.core u → f.func.toNat ≤ 3 → f.s = false →
    a = (c.reg f.ra).toNat → a % 4 = 0 → atomic u a = true → old = wd (leNat ((List.range 4).map (fun i => s.dev.memByte u (a + i)))) →
    new = (if f.func = 0 then c.reg f.rb else if f.func = 1 then old + c.reg f.rb else if f.func = 2 then old &&& c.reg f.rb else old ||| c.reg f.rb) →
    ∃ D : Dev, Becomes (.atom u f) s ((D.setCore u ((D.core u).setReg f.rd old)).goOn u) ∧ (∀ i < 4, D.memByte u (a + i) = BitVec.ofNat 8 (new.toNat / 256 ^ i)) ∧
      (∀ x, (x < a ∨ a + 4 ≤ x) → D.memByte u x = s.dev.memByte u x) ∧ D.core u = { c with dmem := (D.core u).dmem } ∧
      D.regs = s.dev.regs ∧ D.pages = s.dev.pages ∧ D.hci = s.dev.hci) ∧
  (∀ (D : Dev) (u : Cpu), (D.core u).slot = none → (∀ x, (D.goOn u).memByte u x = D.memByte u x) ∧ (D.goOn u).core u = { D.core u with pc := ((D.core u).pc + 4) % 2 ^ 32 })

/-- LDW, LDH, LDHU, LDB and LDBU from a memory give the little-endian number of the bytes there, LDH and LDB sign-extended, in
the destination register. -/
def Obligations.LoadsGiveTheirBytes : Prop :=
  (∀ (s : State) (u : Cpu) (f : FmtM) (c : Core) (a : Nat) (v : Word), s.dev.executes u f.cond = true → c = s.dev.core u → a = (c.reg f.ra + f.ext).toNat → a % 4 = 0 → s.dev.storable u (a / 4 * 4) = true →
    v = wd (leNat ((List.range 4).map (fun i => s.dev.memByte u (a + i)))) →
    Becomes (.ldw u f) s ((s.dev.setCore u (c.setReg f.rd (v))).goOn u)) ∧
  (∀ (s : State) (u : Cpu) (f : FmtM) (c : Core) (a : Nat) (v : Word), s.dev.executes u f.cond = true → c = s.dev.core u → a = (c.reg f.ra + f.ext).toNat → a % 2 = 0 → s.dev.storable u (a / 4 * 4) = true →
    v = wd (leNat ((List.range 2).map (fun i => s.dev.memByte u (a + i)))) →
    Becomes (.ldh u f) s ((s.dev.setCore u (c.setReg f.rd ((v.truncate 16).signExtend 32))).goOn u)) ∧
  (∀ (s : State) (u : Cpu) (f : FmtM) (c : Core) (a : Nat) (v : Word), s.dev.executes u f.cond = true → c = s.dev.core u → a = (c.reg f.ra + f.ext).toNat → a % 2 = 0 → s.dev.storable u (a / 4 * 4) = true →
    v = wd (leNat ((List.range 2).map (fun i => s.dev.memByte u (a + i)))) →
    Becomes (.ldhu u f) s ((s.dev.setCore u (c.setReg f.rd (v))).goOn u)) ∧
  (∀ (s : State) (u : Cpu) (f : FmtM) (c : Core) (a : Nat) (v : Word), s.dev.executes u f.cond = true → c = s.dev.core u → a = (c.reg f.ra + f.ext).toNat → s.dev.storable u (a / 4 * 4) = true →
    v = wd (leNat ((List.range 1).map (fun i => s.dev.memByte u (a + i)))) →
    Becomes (.ldb u f) s ((s.dev.setCore u (c.setReg f.rd ((v.truncate 8).signExtend 32))).goOn u)) ∧
  (∀ (s : State) (u : Cpu) (f : FmtM) (c : Core) (a : Nat) (v : Word), s.dev.executes u f.cond = true → c = s.dev.core u → a = (c.reg f.ra + f.ext).toNat → s.dev.storable u (a / 4 * 4) = true →
    v = wd (leNat ((List.range 1).map (fun i => s.dev.memByte u (a + i)))) →
    Becomes (.ldbu u f) s ((s.dev.setCore u (c.setReg f.rd (v))).goOn u))

/-- ALU, the immediate operations, MOVL, MOVH and MFS outside a slot change at most the destination register, the flags only
with S set, and the pc by 4; nothing else of the device, its memories included. MFS of TB_LO, which also latches TB_HI, is left
to its completion statement. -/
def Obligations.RegisterInstructionFrames : Prop :=
  (∀ (s : State) (u : Cpu) (f : FmtR), s.dev.executes u f.cond = true → (s.dev.core u).slot = none → f.func.toNat ≤ 0x17 → (f.func = 0x0F → f.rb = 0) →
    ∃ D : Dev, Becomes (.alu u f) s D ∧ OnlyReg u f.rd f.s s.dev D) ∧
  (∀ (s : State) (u : Cpu) (f : FmtI), s.dev.executes u f.cond = true → (s.dev.core u).slot = none →
    ∃ D : Dev, Becomes (.addi u f) s D ∧ OnlyReg u f.rd f.s s.dev D) ∧
  (∀ (s : State) (u : Cpu) (f : FmtI), s.dev.executes u f.cond = true → (s.dev.core u).slot = none →
    ∃ D : Dev, Becomes (.subi u f) s D ∧ OnlyReg u f.rd f.s s.dev D) ∧
  (∀ (s : State) (u : Cpu) (f : FmtI), s.dev.executes u f.cond = true → (s.dev.core u).slot = none →
    ∃ D : Dev, Becomes (.andi u f) s D ∧ OnlyReg u f.rd f.s s.dev D) ∧
  (∀ (s : State) (u : Cpu) (f : FmtI), s.dev.executes u f.cond = true → (s.dev.core u).slot = none →
    ∃ D : Dev, Becomes (.ori u f) s D ∧ OnlyReg u f.rd f.s s.dev D) ∧
  (∀ (s : State) (u : Cpu) (f : FmtI), s.dev.executes u f.cond = true → (s.dev.core u).slot = none →
    ∃ D : Dev, Becomes (.xori u f) s D ∧ OnlyReg u f.rd f.s s.dev D) ∧
  (∀ (s : State) (u : Cpu) (f : FmtI), s.dev.executes u f.cond = true → (s.dev.core u).slot = none →
    ∃ D : Dev, Becomes (.muli u f) s D ∧ OnlyReg u f.rd f.s s.dev D) ∧
  (∀ (s : State) (u : Cpu) (f : FmtI), s.dev.executes u f.cond = true → (s.dev.core u).slot = none → f.imm.toNat < 32 →
    ∃ D : Dev, Becomes (.shli u f) s D ∧ OnlyReg u f.rd f.s s.dev D) ∧
  (∀ (s : State) (u : Cpu) (f : FmtI), s.dev.executes u f.cond = true → (s.dev.core u).slot = none → f.imm.toNat < 32 →
    ∃ D : Dev, Becomes (.shri u f) s D ∧ OnlyReg u f.rd f.s s.dev D) ∧
  (∀ (s : State) (u : Cpu) (f : FmtI), s.dev.executes u f.cond = true → (s.dev.core u).slot = none → f.imm.toNat < 32 →
    ∃ D : Dev, Becomes (.sari u f) s D ∧ OnlyReg u f.rd f.s s.dev D) ∧
  (∀ (s : State) (u : Cpu) (f : FmtI), s.dev.executes u f.cond = true → (s.dev.core u).slot = none → f.imm.toNat < 32 →
    ∃ D : Dev, Becomes (.rori u f) s D ∧ OnlyReg u f.rd f.s s.dev D) ∧
  (∀ (s : State) (u : Cpu) (f : FmtU), s.dev.executes u f.cond = true → (s.dev.core u).slot = none →
    ∃ D : Dev, Becomes (.movl u f) s D ∧ OnlyReg u f.rd false s.dev D) ∧
  (∀ (s : State) (u : Cpu) (f : FmtU), s.dev.executes u f.cond = true → (s.dev.core u).slot = none →
    ∃ D : Dev, Becomes (.movh u f) s D ∧ OnlyReg u f.rd false s.dev D) ∧
  (∀ (s : State) (u : Cpu) (f : FmtR), s.dev.executes u f.cond = true → (s.dev.core u).slot = none → f.ra = 0 → f.rb = 0 → f.s = false → f.func.toNat ≤ 8 → f.func ≠ 6 →
    ∃ D : Dev, Becomes (.mfs u f) s D ∧ OnlyReg u f.rd false s.dev D)

/-- MTS writes the writable bits of PSR, WIN, SPILLP, LK, EPC, ECAUSE or EVT and leaves every other special register (the LK
seen follows CWP), the register file, the pc and memory; MFS reads the nine registers of R257; MTS to TB_LO, TB_HI or an unknown
number, or of a WIN out of range, has no such effect. -/
def Obligations.SpecialRegisters : Prop :=
  (∀ (c g : Core) (v : Word) (mp : Bool) (tb : Nat), c.setSpecial 0 v = some g →
    (bitsOf (g.psr mp) 31 16 = bitsOf v 31 16 ∧ bitsOf (g.psr mp) 15 0 = bitsOf (c.psr mp) 15 0) ∧ (∀ j, j ≠ 0 → g.special mp tb j = c.special mp tb j) ∧ g.globals = c.globals ∧ g.windows = c.windows ∧ g.pc = c.pc ∧ g.slot = c.slot ∧ g.dmem = c.dmem ∧ g.wait = c.wait) ∧
  (∀ (c g : Core) (v : Word) (mp : Bool) (tb : Nat), c.setSpecial 2 v = some g →
    (g.spillp = v &&& 0xFFFFFFFC) ∧ (∀ j, j ≠ 2 → g.special mp tb j = c.special mp tb j) ∧ g.globals = c.globals ∧ g.windows = c.windows ∧ g.pc = c.pc ∧ g.slot = c.slot ∧ g.dmem = c.dmem ∧ g.wait = c.wait) ∧
  (∀ (c g : Core) (v : Word) (mp : Bool) (tb : Nat), c.setSpecial 3 v = some g →
    (g.lk = v &&& 0xFFFFFFFC) ∧ (∀ j, j ≠ 3 → g.special mp tb j = c.special mp tb j) ∧ g.globals = c.globals ∧ g.windows = c.windows ∧ g.pc = c.pc ∧ g.slot = c.slot ∧ g.dmem = c.dmem ∧ g.wait = c.wait) ∧
  (∀ (c g : Core) (v : Word) (mp : Bool) (tb : Nat), c.setSpecial 4 v = some g →
    (g.epc = v &&& 0xFFFFFFFC) ∧ (∀ j, j ≠ 4 → g.special mp tb j = c.special mp tb j) ∧ g.globals = c.globals ∧ g.windows = c.windows ∧ g.pc = c.pc ∧ g.slot = c.slot ∧ g.dmem = c.dmem ∧ g.wait = c.wait) ∧
  (∀ (c g : Core) (v : Word) (mp : Bool) (tb : Nat), c.setSpecial 5 v = some g →
    (g.ecause = v &&& 0x80FFFFFF) ∧ (∀ j, j ≠ 5 → g.special mp tb j = c.special mp tb j) ∧ g.globals = c.globals ∧ g.windows = c.windows ∧ g.pc = c.pc ∧ g.slot = c.slot ∧ g.dmem = c.dmem ∧ g.wait = c.wait) ∧
  (∀ (c g : Core) (v : Word) (mp : Bool) (tb : Nat), c.setSpecial 8 v = some g →
    (g.evt = bitOf v 0) ∧ (∀ j, j ≠ 8 → g.special mp tb j = c.special mp tb j) ∧ g.globals = c.globals ∧ g.windows = c.windows ∧ g.pc = c.pc ∧ g.slot = c.slot ∧ g.dmem = c.dmem ∧ g.wait = c.wait) ∧
  (∀ (c g : Core) (v : Word) (mp : Bool) (tb : Nat), c.setSpecial 1 v = some g →
    bitsOf g.win 19 0 = bitsOf v 19 0 ∧ bitsOf g.win 31 20 = 0 ∧ (∀ j, j ≠ 1 → j ≠ 3 → g.special mp tb j = c.special mp tb j) ∧ g.links = c.links ∧ g.globals = c.globals ∧ g.windows = c.windows ∧
    g.pc = c.pc ∧ g.slot = c.slot ∧ g.dmem = c.dmem ∧ g.wait = c.wait) ∧
  (∀ (c : Core) (k : Nat) (v : Word), c.setSpecial k v = none ↔ (k = 6 ∨ k = 7 ∨ 8 < k ∨ k = 1 ∧ (bitsOf v 7 4 = 0 ∨ 11 < bitsOf v 7 4 ∨ 11 < bitsOf v 3 0))) ∧
  (∀ (c : Core) (mp : Bool) (tb : Nat), c.special mp tb 0 = some (c.psr mp) ∧ c.special mp tb 1 = some c.win ∧ c.special mp tb 2 = some c.spillp ∧ c.special mp tb 3 = some c.lk ∧ c.special mp tb 4 = some c.epc ∧ c.special mp tb 5 = some c.ecause ∧ c.special mp tb 6 = some (wd tb) ∧ c.special mp tb 7 = some c.tbHi ∧ c.special mp tb 8 = some (wd (b2n c.evt)) ∧ ∀ k, 8 < k → c.special mp tb k = none)

/-- Of several codes that apply to a request, the reply carries the first in R31's order; the request is not refused exactly
when none applies. -/
def Obligations.FirstApplicableCode : Prop :=
  (codeOrder = [RC.VERSION, RC.BAD_LENGTH, RC.BAD_ADDRESS, RC.ABSENT, RC.NOT_IN_STATE, RC.NOT_PERMITTED, RC.LOCKED, RC.BAD_VALUE, RC.BUSY_SELFTEST, RC.BUSY_CALIBRATION, RC.POWER, RC.FROZEN, RC.BUSY]) ∧
  (∀ cs : List (Bool × Nat), (∀ c ∈ cs, c.2 ∈ codeOrder) → (refuse cs = RC.OK ↔ ∀ c ∈ cs, c.1 = false)) ∧
  (∀ (cs : List (Bool × Nat)) (pre post : List Nat) (k : Nat), codeOrder = pre ++ k :: post → (true, k) ∈ cs → (∀ c ∈ cs, c.1 = true → c.2 ∉ pre) → refuse cs = k)

/-- The words of a WRITE take effect one after the other in ascending order; the first refused word ends it: the words before it
have taken effect, its own write changes no register, no later word is written, and DETAIL is its index (R27). -/
def Obligations.WriteStopsAtRefusal : Prop :=
  (∀ (d e : Dev) (src : Src) (p o i : Nat) (w : Word) (ws : List Word), d.regWrite src (4096 * p + o) w = (e, Ans.ok []) →
    d.writeWords src p (w :: ws) o i = e.writeWords src p ws (o + 4) (i + 1)) ∧
  (∀ (pre post : List Word) (w : Word) (d d1 : Dev) (src : Src) (p o : Nat), d.writeWords src p pre o 0 = (d1, Ans.ok []) → (d1.regWrite src (4096 * p + (o + 4 * pre.length)) w).2.code ≠ RC.OK →
    (d.writeWords src p (pre ++ w :: post) o 0).1 = (d1.regWrite src (4096 * p + (o + 4 * pre.length)) w).1 ∧
    (d.writeWords src p (pre ++ w :: post) o 0).2.code = (d1.regWrite src (4096 * p + (o + 4 * pre.length)) w).2.code ∧
    (d.writeWords src p (pre ++ w :: post) o 0).2.detail = pre.length ∧ (d.writeWords src p (pre ++ w :: post) o 0).1.regs = d1.regs) ∧
  (∀ (d : Dev) (src : Src) (a : Nat) (w : Word), (d.regWrite src a w).2.code ≠ RC.OK → (d.regWrite src a w).1 = d ∨ ∃ b, (d.regWrite src a w).1 = d.wakeBlk b)

/-- Replacing a page's causes and mask advances ATTN_SEQ by the number of causes that enter or leave the pending set, modulo
2^32, and changes no other page; raising a clear, unmasked cause sets it and advances ATTN_SEQ by one (R33, R36). -/
def Obligations.AttentionCountsEveryChange : Prop :=
  (∀ (d : Dev) (p : Nat) (cause mask old new : Word), old = (d.page p).pend → new = cause &&& ~~~ mask →
    (d.attnSet p cause mask).hci.attnSeq = d.hci.attnSeq + wd (popCount (new &&& ~~~ old) + popCount (old &&& ~~~ new))) ∧
  (∀ (d : Dev) (p : Nat) (cause mask : Word), (d.attnSet p cause mask).pages = (d.setPage p { d.page p with cause := cause, mask := mask }).pages) ∧
  (∀ (d : Dev) (b : Blk) (i : Nat), i < 32 → bitOf (d.blk b).cause i = false → bitOf (d.blk b).mask i = false → (d.raise b i).hci.attnSeq = d.hci.attnSeq + 1 ∧
    (d.raise b i).blk b = { d.blk b with cause := (d.blk b).cause ||| oneBit i })

/-- Counting leaves every other register and makes a counter saturate at 2^32 − 1, wrap, or carry into its high word, as its
table says; a write of 0 clears it, both words of a wide one, and any other value changes nothing (R64). -/
def Obligations.CountersCount : Prop :=
  (∀ (d : Dev) (a n : Nat) (b : Blk) (c : CtrDef), blkOfPage (a / 4096) = some b → ctrAt b (a % 4096) = some c → c.wide = false → c.sat = true →
    ((d.countN a n).rd a).toNat = min ((d.rd a).toNat + n) (2 ^ 32 - 1) ∧ ∀ x, x ≠ a → (d.countN a n).rd x = d.rd x) ∧
  (∀ (d : Dev) (a n : Nat) (b : Blk) (c : CtrDef), blkOfPage (a / 4096) = some b → ctrAt b (a % 4096) = some c → c.wide = false → c.sat = false →
    ((d.countN a n).rd a).toNat = ((d.rd a).toNat + n) % 2 ^ 32 ∧ ∀ x, x ≠ a → (d.countN a n).rd x = d.rd x) ∧
  (∀ (d : Dev) (a n : Nat) (b : Blk) (c : CtrDef), blkOfPage (a / 4096) = some b → ctrAt b (a % 4096) = some c → c.wide = true →
    ((d.countN a n).rd a).toNat + 2 ^ 32 * ((d.countN a n).rd (a + 4)).toNat = ((d.rd a).toNat + 2 ^ 32 * (d.rd (a + 4)).toNat + n) % 2 ^ 64 ∧
    ∀ x, x ≠ a → x ≠ a + 4 → (d.countN a n).rd x = d.rd x) ∧
  (∀ (d : Dev) (a : Nat) (b : Blk) (c : CtrDef), blkOfPage (a / 4096) = some b → ctrAt b (a % 4096) = some c →
    (d.counterWrite a 0).rd a = 0 ∧ (c.wide = true → (d.counterWrite a 0).rd (a + 4) = 0) ∧ ∀ x, x ≠ a → (x ≠ a + 4 ∨ c.wide = false) → (d.counterWrite a 0).rd x = d.rd x) ∧
  (∀ (d : Dev) (a : Nat) (v : Word), v ≠ 0 → d.counterWrite a v = d)

/-- Whatever the state of the block, present or not, asleep, frozen, resetting or under self-test, a read of any range of a
page's header words is answered with their values, and the device is unchanged: no wake, no refusal for the block's state. -/
def Obligations.HeaderReadsAnswered : Prop :=
  (∀ (d : Dev) (b : Blk) (a : Nat), a < 2 ^ 24 → blkOfPage (a / 4096) = some b → a % 4096 < 0x040 → d.regRead a = (d, Ans.ok [d.headerRead b (a / 4096) (a % 4096)])) ∧
  (∀ (d : Dev) (src : Src) (m : Msg) (b : Blk) (n : Nat), n = m.arg.toNat → blkOfPage (bitsOf m.addr 23 12) = some b → bitsOf m.addr 11 0 % 4 = 0 → 1 ≤ n → bitsOf m.addr 11 0 + 4 * n ≤ 0x040 →
    m.len = 0 → 16 ≤ replyRoom src (decide (m.flags % 2 = 1)) → d.readOp src m [] = (d, Ans.ok ((List.range n).map (fun i => d.headerRead b (bitsOf m.addr 23 12) (bitsOf m.addr 11 0 + 4 * i)))))

/-- A write of bytes that are no whole line changes no poison mark and is discarded where the line is poisoned; a write of whole
aligned lines is stored and clears their marks and no others; a load of the MP's window that meets a poisoned line is counted
and refused with FROZEN (R348). -/
def Obligations.PoisonedLines : Prop :=
  (∀ (d : Dev) (a : Nat) (bs : List Byte), (∀ x, (d.dramPartial a bs).poisoned x = d.poisoned x) ∧
    ∀ x, (d.dramPartial a bs).dramByte x = if a ≤ x ∧ x < a + bs.length ∧ d.poisoned x = false then bs.getD (x - a) 0 else d.dramByte x) ∧
  (∀ (d : Dev) (a : Nat) (bs : List Byte), a % 64 = 0 → bs.length % 64 = 0 → ∀ x, a ≤ x → x < a + bs.length →
    (d.dramLines a bs).poisoned x = false ∧ (d.dramLines a bs).dramByte x = bs.getD (x - a) 0) ∧
  (∀ (d : Dev) (a : Nat) (bs : List Byte), a % 64 = 0 → bs.length % 64 = 0 → ∀ x, (x < a ∨ a + bs.length ≤ x) → (d.dramLines a bs).poisoned x = d.poisoned x ∧ (d.dramLines a bs).dramByte x = d.dramByte x) ∧
  (∀ (d : Dev) (a n : Nat), 0x80000000 ≤ a → d.winCode a n = RC.OK → d.rangePoisoned (d.winAddr a) n = true → d.mpLoad a n = (d.count A.MEM.POISON_READ_CNT, Ans.err RC.FROZEN))

/-- A power state is entered exactly when the conditions R444 names for it hold; otherwise the transition is refused with the
first failing reason and its page, counted, and ENTRY_REFUSED is raised. -/
def Obligations.StateEntryConditions : Prop :=
  (∀ (d : Dev) (p : PwrState), d.entryBlock p = none ↔
    ((p = .sleep ∨ p = .deep) → (∀ r ∈ [Radio.a, .b, .c], (d.rfe.get r).cur = .sleep ∧ (d.rfe.get r).moving = none) ∧ d.pcieLevel ≠ .l0 ∧ d.pcieLevel ≠ .l1) ∧
    (p ≠ .idle → d.hci.inExec = none ∧ d.flashActive = false) ∧ (p = .deep → (∀ t ∈ d.mgt.temps, t < 760) ∧ d.pmu.resumeValid = true)) ∧
  (∀ (d : Dev) (p : PwrState), p = .idle ∨ p = .sleep → d.pmu.state = .run → d.pmu.entering = none → d.entryBlock p = none → (d.tryEnter p).pmu.entering = some p) ∧
  (∀ (d : Dev) (p : PwrState) (reason page : Nat), p = .idle ∨ p = .sleep ∨ p = .off → d.pmu.state = .run → d.pmu.entering = none → d.entryBlock p = some (reason, page) →
    d.tryEnter p = (({ d with pmu := { d.pmu with entryPage := page, entryReason := reason } }).count A.PMU.ENTRY_REFUSE_CNT).raise .pmu Cause.PMU.ENTRY_REFUSED)

/-- LC_ADVANCE is allowed exactly for the transitions of R430 under their conditions, and every one leads to a higher-numbered
state; erasing the secrets clears the ACP keys, the mesh key and the wireless key table. -/
def Obligations.LifeCycleOrder : Prop :=
  (∀ (d : Dev) (dest : LifeCycle) (ws : List Word), d.lifeOk dest ws = true → d.mgt.otp.lc.num < dest.num) ∧
  (∀ (d : Dev) (dest : LifeCycle) (ws : List Word), dest ≠ .end_ → (d.lifeOk dest ws = true ↔
    (d.mgt.otp.lc = .raw ∧ dest = .test) ∨ (d.mgt.otp.lc = .test ∧ dest = .provision) ∨
    (d.mgt.otp.lc = .provision ∧ dest = .field ∧ rglPageOk ((List.range 64).map (fun i => tabGet 0 d.mgt.otp.reg i)) = true ∧ bitOf (tabGet 0 d.mgt.otp.reg 0) 31 = true ∧ d.mgt.otp.keys ≠ []) ∨
    (d.mgt.otp.lc = .field ∧ dest = .ret ∧ d.tokenOk ws = true))) ∧
  (∀ (d : Dev) (ws : List Word), d.lifeOk .end_ ws = true ↔ d.mgt.otp.lc ≠ .end_) ∧
  (∀ d : Dev, d.eraseSecrets.hci.keys = [] ∧ d.eraseSecrets.msh.key = [] ∧ d.eraseSecrets.mld.keys = [] ∧ d.eraseSecrets.regs = d.regs ∧ d.eraseSecrets.mgt.otp = d.mgt.otp)

/-- The result is PASS for a complete run with the expected signature and no mismatch, FAIL for another complete run, INCOMPLETE
for a truncated one, with ALIAS exactly when its signature equals the expected one (R461). -/
def Obligations.TestResults : Prop :=
  (∀ (complete eq : Bool) (mism : Nat), resultOf complete eq mism =
    if complete = true then (if eq = true ∧ mism = 0 then (1, false) else (2, false)) else (3, eq)) ∧
  (∀ (eq : Bool) (mism : Nat), (resultOf false eq mism).1 = 3 ∧ ((resultOf false eq mism).2 = true ↔ eq = true))

/-- From memories in canonical form, any MP store outside the register space leaves every memory in that form, and so does a
Quill core's store for its data memory and the scheduler SRAM. The canonical form is the model's (notes/assumptions/8.md). -/
def Obligations.StoresKeepMemoryForm : Prop :=
  (∀ (d : Dev) (a n : Nat) (v : Word), n = 1 ∨ n = 2 ∨ n = 4 → a % n = 0 → d.memWf = true → ¬ (0x20000000 ≤ a ∧ a < 0x21000000) → (d.mpStore a n v).1.memWf = true) ∧
  (∀ (d : Dev) (k : Fin 16) (a n : Nat) (v : Word), n = 1 ∨ n = 2 ∨ n = 4 → a % n = 0 → d.memWf = true → (0x10000000 ≤ a ∧ a < 0x10008000) ∨ (0x30000000 ≤ a ∧ a < 0x30100000) → Memory.wf ((d.quillStore k.val a n v).1.quill k.val).dmem = true ∧ Memory.wf (d.quillStore k.val a n v).1.asc.sram = true)

/-- With PG_LOCK set, a write of a register that holds an RWL field is refused and changes no register; the lock is set by
writing 1 and no write of PG_LOCK clears it (R60). -/
def Obligations.LockedRegistersKeepTheirValue : Prop :=
  (∀ (d : Dev) (src : Src) (b : Blk) (a : Nat) (v : Word) (r : RegDef), blkOfPage (a / 4096) = some b → regAt b (a % 4096) = some r → 0x040 ≤ a % 4096 →
    r.flds.any (fun f => decide (f.acc = .rwl)) = true → (d.page (a / 4096)).lock = true → (d.regWrite src a v).2.code ≠ RC.OK ∧ (d.regWrite src a v).1.regs = d.regs) ∧
  (∀ (d : Dev) (b : Blk) (p o : Nat) (v : Word), o = 0x020 → (d.page p).lock = true → ((d.headerWrite b p o v).page p).lock = true) ∧
  (∀ (d : Dev) (b : Blk) (p : Nat) (v : Word), bitOf v 0 = true → d.headerWrite b p 0x020 v = d.setPage p { d.page p with lock := true })
end

