-- ==== Sys2Proof/Laws/Bits.lean ====
section
/-! SUPPORT. Fields of words: reading back what was put. -/

namespace Sys2Proof.Machine

theorem bitsOf_putBits (w : Word) {hi lo : Nat} (v : Nat) (h : hi < 32) (hl : lo ≤ hi) :
    bitsOf (putBits w hi lo v) hi lo = v % 2 ^ (hi + 1 - lo) := by
  apply Nat.eq_of_testBit_eq
  intro i
  simp only [bitsOf, putBits, fieldMask, Nat.testBit_mod_two_pow, Nat.testBit_shiftRight, BitVec.toNat_or, BitVec.toNat_and,
    BitVec.toNat_not, BitVec.toNat_ofNat, Nat.testBit_or, Nat.testBit_and]
  by_cases hi' : i < hi + 1 - lo
  · have h1 : lo + i < 32 := by omega
    have h2 : ((2 ^ (hi + 1 - lo) - 1) <<< lo % 2 ^ 32).testBit (lo + i) = true := by
      rw [Nat.testBit_mod_two_pow, Nat.testBit_shiftLeft, Nat.testBit_two_pow_sub_one]
      simp [h1, hi']
    have h3 : (2 ^ 32 - 1 - (2 ^ (hi + 1 - lo) - 1) <<< lo % 2 ^ 32).testBit (lo + i) = false := by
      rw [show 2 ^ 32 - 1 - (2 ^ (hi + 1 - lo) - 1) <<< lo % 2 ^ 32
          = 2 ^ 32 - ((2 ^ (hi + 1 - lo) - 1) <<< lo % 2 ^ 32 + 1) by omega,
        Nat.testBit_two_pow_sub_succ (Nat.mod_lt _ (by decide)), h2]
      simp
    rw [h3]
    simp [hi', h1, Nat.testBit_shiftLeft]
  · simp [hi']

/-- A data entry's TYPE is the one it is given. -/
theorem typed_typ {t : Nat} (h : t < 256) (ws : List Word) : bitsOf (word (typed t ws) 0) 7 0 = t := by
  simp only [typed, word, List.getD_cons_zero]
  rw [bitsOf_putBits _ _ (by decide) (by decide)]
  exact Nat.mod_eq_of_lt h

end Sys2Proof.Machine
end

