-- ==== Sys2Proof/Laws/Tab.lean ====
section
/-! SUPPORT. The laws of sparse tables: what a read gives after a write, and that writes keep the canonical form. -/

namespace Sys2Proof.Machine

variable {α : Type}

@[simp] theorem tabFind_put_same (t : Tab α) (k : Nat) (v : α) : tabFind (tabPut t k v) k = some v := by
  induction t with
  | nil => simp [tabPut, tabFind]
  | cons e t ih =>
    obtain ⟨j, w⟩ := e
    by_cases h1 : k < j
    · simp [tabPut, h1, tabFind]
    · by_cases h2 : j = k
      · simp [tabPut, h2, tabFind]
      · simp [tabPut, h1, h2, tabFind, ih]

theorem tabFind_put_ne (t : Tab α) {k j : Nat} (v : α) (h : j ≠ k) : tabFind (tabPut t k v) j = tabFind t j := by
  induction t with
  | nil => simp [tabPut, tabFind, Ne.symm h]
  | cons e t ih =>
    obtain ⟨i, w⟩ := e
    by_cases h1 : k < i
    · simp [tabPut, h1, tabFind, Ne.symm h]
    · by_cases h2 : i = k
      · subst h2; simp [tabPut, tabFind, Ne.symm h]
      · simp [tabPut, h1, h2, tabFind, ih]

@[simp] theorem tabPut_put (t : Tab α) (k : Nat) (v w : α) : tabPut (tabPut t k v) k w = tabPut t k w := by
  induction t with
  | nil => simp [tabPut]
  | cons e t ih =>
    obtain ⟨j, x⟩ := e
    by_cases h1 : k < j
    · simp [tabPut, h1]
    · by_cases h2 : j = k
      · simp [tabPut, h2]
      · simp [tabPut, h1, h2, ih]

theorem tabFind_put (t : Tab α) (k j : Nat) (v : α) : tabFind (tabPut t k v) j = if j = k then some v else tabFind t j := by
  by_cases h : j = k
  · simp [h]
  · simp [h, tabFind_put_ne t v h]

@[simp] theorem tabFind_del_same (t : Tab α) (k : Nat) : tabFind (tabDel t k) k = none := by
  induction t with
  | nil => simp [tabDel, tabFind]
  | cons e t ih =>
    obtain ⟨i, w⟩ := e
    by_cases h : i = k
    · simpa [tabDel, h] using ih
    · simpa [tabDel, h, tabFind] using ih

theorem tabFind_del_ne (t : Tab α) {k j : Nat} (h : j ≠ k) : tabFind (tabDel t k) j = tabFind t j := by
  induction t with
  | nil => simp [tabDel, tabFind]
  | cons e t ih =>
    obtain ⟨i, w⟩ := e
    by_cases h2 : i = k
    · subst h2; simpa [tabDel, tabFind, Ne.symm h] using ih
    · by_cases h3 : i = j
      · simp [tabDel, tabFind, h3, h]
      · simpa [tabDel, h2, tabFind, h3] using ih

/-- A read after a write to the same key. -/
@[simp] theorem tabGet_set_same [DecidableEq α] (d : α) (t : Tab α) (k : Nat) (v : α) : tabGet d (tabSet d t k v) k = v := by
  unfold tabGet tabSet
  by_cases h : v = d
  · simp [h]
  · simp [h]

/-- A read after a write to another key. -/
theorem tabGet_set_ne [DecidableEq α] (d : α) (t : Tab α) {k j : Nat} (v : α) (h : j ≠ k) :
    tabGet d (tabSet d t k v) j = tabGet d t j := by
  unfold tabGet tabSet
  by_cases hv : v = d
  · simp [hv, tabFind_del_ne t h]
  · simp [hv, tabFind_put_ne t v h]

theorem tabGet_set [DecidableEq α] (d : α) (t : Tab α) (k j : Nat) (v : α) :
    tabGet d (tabSet d t k v) j = if j = k then v else tabGet d t j := by
  by_cases h : j = k
  · simp [h]
  · simp [h, tabGet_set_ne d t v h]

/-! The canonical form -/

theorem tabRising_mono {lo hi : Nat} (h : lo ≤ hi) (t : Tab α) (r : tabRising hi t = true) : tabRising lo t = true := by
  cases t with
  | nil => rfl
  | cons e t => obtain ⟨j, w⟩ := e; simp [tabRising] at r ⊢; exact ⟨by omega, r.2⟩

theorem tabRising_put {lo : Nat} (t : Tab α) (k : Nat) (v : α) (hk : lo < k) (r : tabRising lo t = true) :
    tabRising lo (tabPut t k v) = true := by
  induction t generalizing lo with
  | nil => simp [tabPut, tabRising, hk]
  | cons e t ih =>
    obtain ⟨j, w⟩ := e
    simp [tabRising] at r
    by_cases h1 : k < j
    · simp [tabPut, h1, tabRising, hk, r]
    · by_cases h2 : j = k
      · subst h2; simp [tabPut, tabRising, r]
      · simp [tabPut, h1, h2, tabRising, r.1]
        exact ih (by omega) r.2

theorem tabSorted_put (t : Tab α) (k : Nat) (v : α) (r : tabSorted t = true) : tabSorted (tabPut t k v) = true := by
  cases t with
  | nil => simp [tabPut, tabSorted, tabRising]
  | cons e t =>
    obtain ⟨j, w⟩ := e
    simp [tabSorted] at r
    by_cases h1 : k < j
    · simp [tabPut, h1, tabSorted, tabRising, r]
    · by_cases h2 : j = k
      · subst h2; simp [tabPut, tabSorted, r]
      · simp [tabPut, h1, h2, tabSorted]
        exact tabRising_put t k v (by omega) r

theorem tabRising_filter {lo : Nat} (p : Nat × α → Bool) (t : Tab α) (r : tabRising lo t = true) :
    tabRising lo (t.filter p) = true := by
  induction t generalizing lo with
  | nil => rfl
  | cons e t ih =>
    obtain ⟨j, w⟩ := e
    simp [tabRising] at r
    by_cases h : p (j, w)
    · simp [List.filter, h, tabRising, r.1, ih r.2]
    · simp [List.filter, h]
      exact ih (tabRising_mono (by omega) t r.2)

theorem tabSorted_filter (p : Nat × α → Bool) (t : Tab α) (r : tabSorted t = true) : tabSorted (t.filter p) = true := by
  cases t with
  | nil => rfl
  | cons e t =>
    obtain ⟨j, w⟩ := e
    simp [tabSorted] at r
    by_cases h : p (j, w)
    · simp [List.filter, h, tabSorted, tabRising_filter p t r]
    · have := tabRising_filter p t r
      simp [List.filter, h]
      cases h2 : List.filter p t with
      | nil => rfl
      | cons e2 t2 =>
        rw [h2] at this
        obtain ⟨i, u⟩ := e2
        simp [tabRising] at this
        simp [tabSorted, this]

theorem tabNoDefault_put [DecidableEq α] (d : α) (t : Tab α) (k : Nat) (v : α) (hv : v ≠ d) (r : tabNoDefault d t = true) :
    tabNoDefault d (tabPut t k v) = true := by
  induction t with
  | nil => simp [tabPut, tabNoDefault, hv]
  | cons e t ih =>
    obtain ⟨j, w⟩ := e
    simp [tabNoDefault] at r ih
    by_cases h1 : k < j
    · simp [tabPut, h1, tabNoDefault, hv]; exact r
    · by_cases h2 : j = k
      · simp [tabPut, h2, tabNoDefault, hv]; exact r.2
      · simp [tabPut, h1, h2, tabNoDefault, r.1]
        exact ih r.2

theorem tabNoDefault_del [DecidableEq α] (d : α) (t : Tab α) (k : Nat) (r : tabNoDefault d t = true) :
    tabNoDefault d (tabDel t k) = true := by
  simp only [tabNoDefault, tabDel, List.all_eq_true] at *
  intro e he
  exact r e (List.mem_filter.mp he).1

/-- A write keeps the canonical form. -/
theorem tabSet_wf [DecidableEq α] (d : α) (t : Tab α) (k : Nat) (v : α) (h : tabWf d t = true) : tabWf d (tabSet d t k v) = true := by
  simp only [tabWf, Bool.and_eq_true] at *
  unfold tabSet
  split
  · exact ⟨tabSorted_filter _ t h.1, tabNoDefault_del d t k h.2⟩
  · exact ⟨tabSorted_put t k v h.1, tabNoDefault_put d t k v ‹_› h.2⟩

end Sys2Proof.Machine
end

