-- ==== Sys2Proof/Laws/Mem.lean ====
section
/-! SUPPORT. The memories: every operation on one keeps its canonical form, and a store changes the bytes it stores to and no other. -/

namespace Sys2Proof.Machine

variable {α β : Type}

/-- Writes one after the other keep the canonical form. -/
theorem tabSet_foldl_wf [DecidableEq α] (d : α) (l : List β) (k : β → Nat) (v : β → α) (t : Tab α) (h : tabWf d t = true) :
    tabWf d (l.foldl (fun t e => tabSet d t (k e) (v e)) t) = true := by
  induction l generalizing t with
  | nil => exact h
  | cons e l ih => exact ih _ (tabSet_wf d t _ _ h)

/-- Leaving entries out keeps the canonical form. -/
theorem tabFilter_wf [DecidableEq α] (d : α) (p : Nat × α → Bool) (t : Tab α) (h : tabWf d t = true) : tabWf d (t.filter p) = true := by
  simp only [tabWf, Bool.and_eq_true] at *
  refine ⟨tabSorted_filter p t h.1, ?_⟩
  simp only [tabNoDefault, List.all_eq_true] at *
  intro e he
  exact h.2 e (List.mem_filter.mp he).1

theorem storeTab_wf (t : Tab Byte) (off n : Nat) (v : Word) (h : Memory.wf t = true) : Memory.wf (storeTab t off n v) = true :=
  tabSet_foldl_wf 0 _ _ _ t h

theorem Core.dmemPut_wf (c : Core) (off n v : Nat) (h : Memory.wf c.dmem = true) : Memory.wf (c.dmemPut off n v).dmem = true :=
  tabSet_foldl_wf 0 _ _ _ _ h

theorem Core.cplPut_wf (c : Core) (cpl code : Nat) (h : Memory.wf c.dmem = true) : Memory.wf (c.cplPut cpl code).dmem = true := by
  unfold Core.cplPut
  split
  · exact c.dmemPut_wf _ _ _ h
  · exact h

theorem Dev.sramPut_wf (d : Dev) (off n v : Nat) (h : Memory.wf d.asc.sram = true) : Memory.wf (d.sramPut off n v).asc.sram = true :=
  tabSet_foldl_wf 0 _ _ _ _ h

theorem Dev.dramPartial_wf (d : Dev) (a : Nat) (bs : List Byte) (h : Memory.wf d.mem.dram = true) :
    Memory.wf (d.dramPartial a bs).mem.dram = true := by
  induction bs generalizing d a with
  | nil => exact h
  | cons b bs ih =>
    refine ih _ _ ?_
    split
    · exact h
    · exact tabSet_wf 0 _ _ _ h

theorem Dev.dramLines_wf (d : Dev) (a : Nat) (bs : List Byte) (h : Memory.wf d.mem.dram = true) :
    Memory.wf (d.dramLines a bs).mem.dram = true := by
  refine Dev.dramPartial_wf _ _ _ ?_
  generalize List.range (ceilDiv bs.length 64) = l
  induction l generalizing d with
  | nil => exact h
  | cons i l ih => exact ih _ h

theorem Dev.dramUndefined_wf (d : Dev) (base len : Nat) (h : Memory.wf d.mem.dram = true) :
    Memory.wf (d.dramUndefined base len).mem.dram = true := tabFilter_wf 0 _ _ h

theorem Dev.ddrStart_wf (d : Dev) : Memory.wf d.ddrStart.mem.dram = true := rfl

theorem Dev.descCancel_wf (d : Dev) (slot : Nat) (h : Memory.wf d.qar.desc = true) : Memory.wf (d.descCancel slot).qar.desc = true :=
  tabSet_wf (0 : Byte) d.qar.desc (32 * slot + 7) 1 h

/-- Writes at consecutive keys: the keys written read as written, every other as before. -/
theorem tabGet_range (t : Tab Byte) (off n : Nat) (f : Nat → Byte) (a : Nat) :
    tabGet 0 ((List.range n).foldl (fun t i => tabSet 0 t (off + i) (f i)) t) a
      = if off ≤ a ∧ a < off + n then f (a - off) else tabGet 0 t a := by
  induction n with
  | zero => simp <;> omega
  | succ n ih =>
    rw [List.range_succ, List.foldl_append]
    simp only [List.foldl_cons, List.foldl_nil]
    rw [tabGet_set, ih]
    by_cases h : a = off + n
    · subst h; simp
    · rw [if_neg h]
      by_cases h2 : off ≤ a ∧ a < off + n
      · rw [if_pos h2, if_pos (by omega)]
      · rw [if_neg h2, if_neg (by omega)]

/-- A byte after a store. -/
theorem tabGet_storeTab (t : Tab Byte) (off n : Nat) (v : Word) (a : Nat) :
    tabGet 0 (storeTab t off n v) a = if off ≤ a ∧ a < off + n then BitVec.ofNat 8 (v.toNat / 256 ^ (a - off)) else tabGet 0 t a :=
  tabGet_range t off n _ a

/-- A byte of a core's data memory after a write of it. -/
theorem Core.tabGet_dmemPut (c : Core) (off n v a : Nat) :
    tabGet 0 (c.dmemPut off n v).dmem a = if off ≤ a ∧ a < off + n then BitVec.ofNat 8 (v / 256 ^ (a - off)) else tabGet 0 c.dmem a :=
  tabGet_range c.dmem off n _ a

@[simp] theorem Dev.dramPartial_undef (d : Dev) (a : Nat) (bs : List Byte) : (d.dramPartial a bs).mem.undef = d.mem.undef := by
  induction bs generalizing d a with
  | nil => rfl
  | cons b bs ih =>
    refine (ih _ _).trans ?_
    split <;> rfl

@[simp] theorem Dev.dramPartial_poisoned (d : Dev) (a : Nat) (bs : List Byte) (x : Nat) : (d.dramPartial a bs).poisoned x = d.poisoned x := by
  induction bs generalizing d a with
  | nil => rfl
  | cons b bs ih =>
    refine (ih _ _).trans ?_
    split <;> rfl

/-- A byte of DRAM after a write of less than a whole line: the bytes written read as written where their line is not poisoned,
every other as before (spec/14 R348). -/
theorem Dev.dramByte_dramPartial (d : Dev) (a : Nat) (bs : List Byte) (x : Nat) :
    (d.dramPartial a bs).dramByte x = if a ≤ x ∧ x < a + bs.length ∧ d.poisoned x = false then bs.getD (x - a) 0 else d.dramByte x := by
  induction bs generalizing d a with
  | nil =>
    rw [if_neg]
    · rfl
    · simp; omega
  | cons b bs ih =>
    have hstep : ∀ (d1 : Dev), d1 = (if d.poisoned a then d else d.onMem (fun m => { m with dram := tabSet 0 m.dram a (b ^^^ m.unwritten a) })) →
        (∀ y, d1.poisoned y = d.poisoned y) ∧ d1.dramByte x = if x = a ∧ d.poisoned a = false then b else d.dramByte x := by
      rintro d1 rfl
      by_cases hp : d.poisoned a
      · simp [hp]
      · rw [if_neg hp]
        refine ⟨fun _ => rfl, ?_⟩
        show tabGet 0 (tabSet 0 d.mem.dram a _) x ^^^ d.mem.unwritten x = _
        rw [tabGet_set]
        by_cases hx : x = a
        · subst hx
          simp [hp, BitVec.xor_assoc]
        · simp [hx, Dev.dramByte]
    obtain ⟨h1, h2⟩ := hstep _ rfl
    show (Dev.dramPartial _ (a + 1) bs).dramByte x = _
    rw [ih, h1, h2]
    by_cases hx : x = a
    · subst hx
      by_cases hp : d.poisoned x = false
      · rw [if_neg (by omega), if_pos ⟨rfl, hp⟩, if_pos ⟨by omega, by simp, hp⟩]; simp
      · rw [if_neg (by omega), if_neg (by simp [hp]), if_neg (by simp [hp])]
    · by_cases hin : a + 1 ≤ x ∧ x < a + 1 + bs.length ∧ d.poisoned x = false
      · rw [if_pos hin, if_pos ⟨by omega, by simp; omega, hin.2.2⟩]
        rw [show x - a = (x - (a + 1)) + 1 by omega, List.getD_cons_succ]
      · rw [if_neg hin, if_neg (by simp [hx]), if_neg]
        intro h
        exact hin ⟨by omega, by have := h.2.1; simp at this; omega, h.2.2⟩

/-- The memories at reset are in canonical form. -/
theorem reset_memWf : Dev.reset.memWf = true := by decide

end Sys2Proof.Machine
end

