-- ==== Sys2Proof/Laws/Core.lean ====
section
/-! SUPPORT. Cores: a core is read back as it was set, a register as it was written, and the windows do not overlap (spec/10 R242 to
R245). -/

namespace Sys2Proof.Machine

@[simp] theorem Dev.core_setCore (d : Dev) (u : Cpu) (c : Core) : (d.setCore u c).core u = c := by
  cases u <;> simp [Dev.core, Dev.setCore, Dev.quill, Dev.setQuill, Dev.onQar]

@[simp] theorem Dev.setCore_setCore (d : Dev) (u : Cpu) (c e : Core) : (d.setCore u c).setCore u e = d.setCore u e := by
  cases u <;> simp [Dev.setCore, Dev.setQuill, Dev.onQar]

/-- Setting one core leaves the others. -/
theorem Dev.core_setCore_ne (d : Dev) {u v : Cpu} (c : Core) (h : v ≠ u) : (d.setCore u c).core v = d.core v := by
  cases u with
  | mp => cases v with
    | mp => exact absurd rfl h
    | quill k => rfl
  | quill j => cases v with
    | mp => rfl
    | quill k =>
      have hk : k.val ≠ j.val := fun hk => h (by rw [Fin.ext hk])
      simp [Dev.core, Dev.setCore, Dev.quill, Dev.setQuill, Dev.onQar, tabFind_put_ne _ _ hk]

/-- Setting a core leaves the rest of the device: the data plane's state, the registers, the pages, the other memories. -/
theorem Dev.setCore_regs (d : Dev) (u : Cpu) (c : Core) : (d.setCore u c).regs = d.regs := by cases u <;> rfl
theorem Dev.setCore_pages (d : Dev) (u : Cpu) (c : Core) : (d.setCore u c).pages = d.pages := by cases u <;> rfl
theorem Dev.setCore_mem (d : Dev) (u : Cpu) (c : Core) : (d.setCore u c).mem = d.mem := by cases u <;> rfl
theorem Dev.setCore_asc (d : Dev) (u : Cpu) (c : Core) : (d.setCore u c).asc = d.asc := by cases u <;> rfl
theorem Dev.setCore_mgt (d : Dev) (u : Cpu) (c : Core) : (d.setCore u c).mgt = d.mgt := by cases u <;> rfl
theorem Dev.setCore_hci (d : Dev) (u : Cpu) (c : Core) : (d.setCore u c).hci = d.hci := by cases u <;> rfl

/-- The register fields of a window name different places. -/
theorem Core.place_inj (c : Core) {n m : BitVec 5} (h : c.place n = c.place m) : n = m := by
  have hn := n.isLt
  have hm := m.isLt
  have hg : c.cwp % 12 ≠ (c.cwp + 1) % 12 := by omega
  apply BitVec.eq_of_toNat_eq
  simp only [Core.place, windowAt] at h
  split at h <;> split at h <;> (try split at h) <;> (try split at h) <;> omega

theorem Core.place_zero (c : Core) (n : BitVec 5) : c.place n = 0 ↔ n = 0 := by
  constructor
  · intro h
    exact c.place_inj (h.trans rfl)
  · rintro rfl; rfl

theorem Core.getPlace_setPlace (c : Core) (p q : Nat) (v : Word) :
    (c.setPlace p v).getPlace q = if q = p ∧ p ≠ 0 then v else c.getPlace q := by
  simp only [Core.setPlace, Core.getPlace]
  by_cases hp : p = 0
  · simp [hp]
  · simp only [hp, if_false]
    by_cases hp8 : p < 8
    · simp only [hp8, if_true]
      by_cases hq : q = p
      · subst hq; simp [hp, hp8]
      · by_cases hq0 : q = 0
        · simp [hq0]; omega
        · by_cases hq8 : q < 8
          · simp [hq0, hq8, hq, tabGet_set_ne]
          · simp [hq0, hq8, hq]
    · simp only [hp8, if_false]
      by_cases hq : q = p
      · subst hq; simp [hp, hp8]
      · by_cases hq0 : q = 0
        · simp [hq0]; omega
        · by_cases hq8 : q < 8
          · simp [hq0, hq8, hq]
          · have : q - 8 ≠ p - 8 := by omega
            simp [hq0, hq8, hq, tabGet_set_ne _ _ _ this]

@[simp] theorem Core.setPlace_cwp (c : Core) (p : Nat) (v : Word) : (c.setPlace p v).cwp = c.cwp := by
  unfold Core.setPlace; split; rfl; split <;> rfl

/-- A register reads as it was written; k0 reads 0, and writing it changes nothing. -/
theorem Core.reg_setReg (c : Core) (n m : BitVec 5) (v : Word) : (c.setReg n v).reg m = if m = n ∧ n ≠ 0 then v else c.reg m := by
  have hp : (c.setReg n v).place m = c.place m := by simp [Core.place, Core.setReg]
  unfold Core.reg
  rw [hp, Core.setReg, Core.getPlace_setPlace]
  have h1 : (c.place m = c.place n ∧ c.place n ≠ 0) ↔ (m = n ∧ n ≠ 0) :=
    ⟨fun h => ⟨c.place_inj h.1, fun h2 => h.2 ((c.place_zero n).2 h2)⟩, fun h => ⟨by rw [h.1], fun h2 => h.2 ((c.place_zero n).1 h2)⟩⟩
  simp only [h1]

/-- What a register field of a number names: a global, or a place of a group (spec/10 R242, R243). -/
theorem Core.reg_of (c : Core) {n : BitVec 5} {k : Nat} (h : n.toNat = k) :
    c.reg n = if k = 0 then 0 else if k < 8 then tabGet 0 c.globals k
      else if k < 24 then tabGet 0 c.windows (16 * (c.cwp % 12) + (k - 8)) else tabGet 0 c.windows (16 * ((c.cwp + 1) % 12) + (k - 24)) := by
  subst h
  by_cases h8 : n.toNat < 8
  · have hp : c.place n = n.toNat := by simp [Core.place, h8]
    show c.getPlace (c.place n) = _
    rw [hp, Core.getPlace, if_pos h8, if_pos h8]
  · have hp : c.place n = 8 + windowAt c.cwp n.toNat := by simp [Core.place, h8]
    show c.getPlace (c.place n) = _
    rw [hp, Core.getPlace, if_neg (by omega), if_neg (by omega), if_neg (by omega), if_neg h8, Nat.add_sub_cancel_left, windowAt]
    split <;> rfl

theorem Core.reg_global (c : Core) {i : Nat} (hi : i < 8) : c.reg (BitVec.ofNat 5 i) = if i = 0 then 0 else tabGet 0 c.globals i := by
  rw [c.reg_of ((by decide : ∀ i < 8, (BitVec.ofNat 5 i).toNat = i) i hi), if_pos hi]

theorem Core.reg_param (c : Core) {i : Nat} (hi : i < 16) : c.reg (BitVec.ofNat 5 (8 + i)) = tabGet 0 c.windows (16 * (c.cwp % 12) + i) := by
  rw [c.reg_of ((by decide : ∀ i < 16, (BitVec.ofNat 5 (8 + i)).toNat = 8 + i) i hi), if_neg (by omega), if_neg (by omega), if_pos (by omega),
    Nat.add_sub_cancel_left]

theorem Core.reg_next (c : Core) {i : Nat} (hi : i < 8) : c.reg (BitVec.ofNat 5 (24 + i)) = tabGet 0 c.windows (16 * ((c.cwp + 1) % 12) + i) := by
  rw [c.reg_of ((by decide : ∀ i < 8, (BitVec.ofNat 5 (24 + i)).toNat = 24 + i) i hi), if_neg (by omega), if_neg (by omega), if_neg (by omega),
    Nat.add_sub_cancel_left]

@[simp] theorem Core.reg_zero (c : Core) : c.reg 0 = 0 := rfl

/-! Frames (spec/10 R245) -/

/-- Words written one after the other into data memory: only it changes, and only their bytes. -/
theorem Core.putWords_eq (c : Core) (off : Nat) (ws : List Word) (k : Nat) :
    ∃ m : Tab Byte, (ws.zipIdx k).foldl (fun c e => c.dmemPut (off + 4 * e.2) 4 e.1.toNat) c = { c with dmem := m } ∧
      ∀ x, tabGet 0 m x = if off + 4 * k ≤ x ∧ x < off + 4 * (k + ws.length)
        then BitVec.ofNat 8 ((ws.getD ((x - off) / 4 - k) 0).toNat / 256 ^ ((x - off) % 4)) else tabGet 0 c.dmem x := by
  induction ws generalizing c k with
  | nil => exact ⟨c.dmem, rfl, fun x => by rw [if_neg (by rw [List.length_nil]; omega)]⟩
  | cons w ws ih =>
    obtain ⟨m, h1, h2⟩ := ih (c.dmemPut (off + 4 * k) 4 w.toNat) (k + 1)
    refine ⟨m, by rw [List.zipIdx_cons, List.foldl_cons]; exact h1, fun x => ?_⟩
    rw [h2, Core.tabGet_dmemPut]
    by_cases hx : off + 4 * (k + 1) ≤ x ∧ x < off + 4 * (k + 1 + ws.length)
    · rw [if_pos hx, if_pos (by simp only [List.length_cons]; omega)]
      rw [show (x - off) / 4 - k = ((x - off) / 4 - (k + 1)) + 1 by omega, List.getD_cons_succ]
    · rw [if_neg hx]
      by_cases hx2 : off + 4 * k ≤ x ∧ x < off + 4 * k + 4
      · rw [if_pos hx2, if_pos (by simp only [List.length_cons]; omega), show (x - off) / 4 - k = 0 by omega, List.getD_cons_zero,
          show x - (off + 4 * k) = (x - off) % 4 by omega]
      · rw [if_neg hx2, if_neg (by simp only [List.length_cons]; omega)]

/-- Four bytes, little-endian. -/
theorem leNat_word (v : Nat) (h : v < 2 ^ 32) :
    leNat ((List.range 4).map (fun i => BitVec.ofNat 8 (v / 256 ^ i))) = v := by
  simp only [show List.range 4 = [0, 1, 2, 3] by decide, List.map_cons, List.map_nil, leNat, BitVec.toNat_ofNat]
  omega

/-- Writing out a frame changes data memory only, and there the frame's 72 bytes. -/
theorem Core.frameOut_eq (c : Core) (off : Nat) :
    ∃ m : Tab Byte, c.frameOut off = { c with dmem := m } ∧
      ∀ x, tabGet 0 m x = if off ≤ x ∧ x < off + 72
        then BitVec.ofNat 8 (((c.frame (c.cwp + 2)).getD ((x - off) / 4) 0).toNat / 256 ^ ((x - off) % 4)) else tabGet 0 c.dmem x := by
  obtain ⟨m, h1, h2⟩ := c.putWords_eq off (c.frame (c.cwp + 2)) 0
  have hl : (c.frame (c.cwp + 2)).length = 18 := by simp [Core.frame]
  refine ⟨m, h1, fun x => ?_⟩
  rw [h2, hl]
  simp only [Nat.sub_zero, Nat.mul_zero, Nat.add_zero, Nat.zero_add]

/-- What a spill does (spec/10 R245): the frame is written at its address, and nothing else of the core changes but the bookkeeping. -/
theorem Core.advance_spill {u : Cpu} {c e : Core} (hr : c.res = 11) (h : c.advance u = some e) :
    frameOk u (c.frameAt c.spilled) = true ∧
    e = { c.frameOut (c.frameAt c.spilled - 0x10000000) with spilled := (c.spilled + 1) % 4096, res := 11, cwp := (c.cwp + 1) % 12 } := by
  unfold Core.advance at h
  rw [if_pos hr] at h
  simp only at h
  by_cases hf : frameOk u (c.frameAt c.spilled) = true
  · rw [if_pos hf] at h
    exact ⟨hf, (Option.some.inj h).symm⟩
  · rw [if_neg hf] at h
    cases h

/-- A frame reads back as its bytes stand. -/
theorem Core.frameIn_eq (c : Core) (off : Nat) (ws : List Word) (hl : ws.length = 18)
    (h : ∀ x, off ≤ x ∧ x < off + 72 → tabGet 0 c.dmem x = BitVec.ofNat 8 ((ws.getD ((x - off) / 4) 0).toNat / 256 ^ ((x - off) % 4))) :
    c.frameIn off = ws := by
  have hi : ∀ i < 18, wd (c.dmemGet (off + 4 * i) 4) = ws.getD i 0 := by
    intro i hi
    have : (List.range 4).map (fun j => tabGet 0 c.dmem (off + 4 * i + j))
        = (List.range 4).map (fun j => BitVec.ofNat 8 ((ws.getD i 0).toNat / 256 ^ j)) := by
      apply List.map_congr_left
      intro j hj
      have hj : j < 4 := List.mem_range.1 hj
      rw [h _ ⟨by omega, by omega⟩, show (off + 4 * i + j - off) / 4 = i by omega, show (off + 4 * i + j - off) % 4 = j by omega]
    unfold Core.dmemGet
    rw [this, leNat_word _ (ws.getD i 0).isLt]
    simp [wd]
  apply List.ext_getElem
  · simp [Core.frameIn, hl]
  · intro i h1 h2
    rw [hl] at h2
    simp only [Core.frameIn, List.getElem_map, List.getElem_range, hi i h2]
    simp [List.getD, List.getElem?_eq_getElem (show i < ws.length by rw [hl]; exact h2)]

end Sys2Proof.Machine
end

