-- ==== Sys2Proof/Laws/State.lean ====
section
/-! SUPPORT. Each update of the device, field by field: what it gives the field it changes, and that it leaves every other field. -/

namespace Sys2Proof.Machine

/-! onHci -/
@[simp] theorem Dev.onHci_regs (d : Dev) (f : Hci → Hci) : (d.onHci f).regs = d.regs := rfl
@[simp] theorem Dev.onHci_pages (d : Dev) (f : Hci → Hci) : (d.onHci f).pages = d.pages := rfl
@[simp] theorem Dev.onHci_hci (d : Dev) (f : Hci → Hci) : (d.onHci f).hci = f d.hci := rfl
@[simp] theorem Dev.onHci_rfe (d : Dev) (f : Hci → Hci) : (d.onHci f).rfe = d.rfe := rfl
@[simp] theorem Dev.onHci_rgl (d : Dev) (f : Hci → Hci) : (d.onHci f).rgl = d.rgl := rfl
@[simp] theorem Dev.onHci_phy (d : Dev) (f : Hci → Hci) : (d.onHci f).phy = d.phy := rfl
@[simp] theorem Dev.onHci_mac (d : Dev) (f : Hci → Hci) : (d.onHci f).mac = d.mac := rfl
@[simp] theorem Dev.onHci_mld (d : Dev) (f : Hci → Hci) : (d.onHci f).mld = d.mld := rfl
@[simp] theorem Dev.onHci_asc (d : Dev) (f : Hci → Hci) : (d.onHci f).asc = d.asc := rfl
@[simp] theorem Dev.onHci_qar (d : Dev) (f : Hci → Hci) : (d.onHci f).qar = d.qar := rfl
@[simp] theorem Dev.onHci_mp (d : Dev) (f : Hci → Hci) : (d.onHci f).mp = d.mp := rfl
@[simp] theorem Dev.onHci_tmg (d : Dev) (f : Hci → Hci) : (d.onHci f).tmg = d.tmg := rfl
@[simp] theorem Dev.onHci_pke (d : Dev) (f : Hci → Hci) : (d.onHci f).pke = d.pke := rfl
@[simp] theorem Dev.onHci_eth (d : Dev) (f : Hci → Hci) : (d.onHci f).eth = d.eth := rfl
@[simp] theorem Dev.onHci_mem (d : Dev) (f : Hci → Hci) : (d.onHci f).mem = d.mem := rfl
@[simp] theorem Dev.onHci_tmu (d : Dev) (f : Hci → Hci) : (d.onHci f).tmu = d.tmu := rfl
@[simp] theorem Dev.onHci_msh (d : Dev) (f : Hci → Hci) : (d.onHci f).msh = d.msh := rfl
@[simp] theorem Dev.onHci_mgt (d : Dev) (f : Hci → Hci) : (d.onHci f).mgt = d.mgt := rfl
@[simp] theorem Dev.onHci_pmu (d : Dev) (f : Hci → Hci) : (d.onHci f).pmu = d.pmu := rfl
@[simp] theorem Dev.onHci_bst (d : Dev) (f : Hci → Hci) : (d.onHci f).bst = d.bst := rfl
@[simp] theorem Dev.onHci_port (d : Dev) (f : Hci → Hci) : (d.onHci f).port = d.port := rfl
@[simp] theorem Dev.onHci_out (d : Dev) (f : Hci → Hci) : (d.onHci f).out = d.out := rfl
@[simp] theorem Dev.onHci_free (d : Dev) (f : Hci → Hci) : (d.onHci f).free = d.free := rfl

/-! onMld -/
@[simp] theorem Dev.onMld_regs (d : Dev) (f : Mld → Mld) : (d.onMld f).regs = d.regs := rfl
@[simp] theorem Dev.onMld_pages (d : Dev) (f : Mld → Mld) : (d.onMld f).pages = d.pages := rfl
@[simp] theorem Dev.onMld_hci (d : Dev) (f : Mld → Mld) : (d.onMld f).hci = d.hci := rfl
@[simp] theorem Dev.onMld_rfe (d : Dev) (f : Mld → Mld) : (d.onMld f).rfe = d.rfe := rfl
@[simp] theorem Dev.onMld_rgl (d : Dev) (f : Mld → Mld) : (d.onMld f).rgl = d.rgl := rfl
@[simp] theorem Dev.onMld_phy (d : Dev) (f : Mld → Mld) : (d.onMld f).phy = d.phy := rfl
@[simp] theorem Dev.onMld_mac (d : Dev) (f : Mld → Mld) : (d.onMld f).mac = d.mac := rfl
@[simp] theorem Dev.onMld_mld (d : Dev) (f : Mld → Mld) : (d.onMld f).mld = f d.mld := rfl
@[simp] theorem Dev.onMld_asc (d : Dev) (f : Mld → Mld) : (d.onMld f).asc = d.asc := rfl
@[simp] theorem Dev.onMld_qar (d : Dev) (f : Mld → Mld) : (d.onMld f).qar = d.qar := rfl
@[simp] theorem Dev.onMld_mp (d : Dev) (f : Mld → Mld) : (d.onMld f).mp = d.mp := rfl
@[simp] theorem Dev.onMld_tmg (d : Dev) (f : Mld → Mld) : (d.onMld f).tmg = d.tmg := rfl
@[simp] theorem Dev.onMld_pke (d : Dev) (f : Mld → Mld) : (d.onMld f).pke = d.pke := rfl
@[simp] theorem Dev.onMld_eth (d : Dev) (f : Mld → Mld) : (d.onMld f).eth = d.eth := rfl
@[simp] theorem Dev.onMld_mem (d : Dev) (f : Mld → Mld) : (d.onMld f).mem = d.mem := rfl
@[simp] theorem Dev.onMld_tmu (d : Dev) (f : Mld → Mld) : (d.onMld f).tmu = d.tmu := rfl
@[simp] theorem Dev.onMld_msh (d : Dev) (f : Mld → Mld) : (d.onMld f).msh = d.msh := rfl
@[simp] theorem Dev.onMld_mgt (d : Dev) (f : Mld → Mld) : (d.onMld f).mgt = d.mgt := rfl
@[simp] theorem Dev.onMld_pmu (d : Dev) (f : Mld → Mld) : (d.onMld f).pmu = d.pmu := rfl
@[simp] theorem Dev.onMld_bst (d : Dev) (f : Mld → Mld) : (d.onMld f).bst = d.bst := rfl
@[simp] theorem Dev.onMld_port (d : Dev) (f : Mld → Mld) : (d.onMld f).port = d.port := rfl
@[simp] theorem Dev.onMld_out (d : Dev) (f : Mld → Mld) : (d.onMld f).out = d.out := rfl
@[simp] theorem Dev.onMld_free (d : Dev) (f : Mld → Mld) : (d.onMld f).free = d.free := rfl

/-! onAsc -/
@[simp] theorem Dev.onAsc_regs (d : Dev) (f : Asc → Asc) : (d.onAsc f).regs = d.regs := rfl
@[simp] theorem Dev.onAsc_pages (d : Dev) (f : Asc → Asc) : (d.onAsc f).pages = d.pages := rfl
@[simp] theorem Dev.onAsc_hci (d : Dev) (f : Asc → Asc) : (d.onAsc f).hci = d.hci := rfl
@[simp] theorem Dev.onAsc_rfe (d : Dev) (f : Asc → Asc) : (d.onAsc f).rfe = d.rfe := rfl
@[simp] theorem Dev.onAsc_rgl (d : Dev) (f : Asc → Asc) : (d.onAsc f).rgl = d.rgl := rfl
@[simp] theorem Dev.onAsc_phy (d : Dev) (f : Asc → Asc) : (d.onAsc f).phy = d.phy := rfl
@[simp] theorem Dev.onAsc_mac (d : Dev) (f : Asc → Asc) : (d.onAsc f).mac = d.mac := rfl
@[simp] theorem Dev.onAsc_mld (d : Dev) (f : Asc → Asc) : (d.onAsc f).mld = d.mld := rfl
@[simp] theorem Dev.onAsc_asc (d : Dev) (f : Asc → Asc) : (d.onAsc f).asc = f d.asc := rfl
@[simp] theorem Dev.onAsc_qar (d : Dev) (f : Asc → Asc) : (d.onAsc f).qar = d.qar := rfl
@[simp] theorem Dev.onAsc_mp (d : Dev) (f : Asc → Asc) : (d.onAsc f).mp = d.mp := rfl
@[simp] theorem Dev.onAsc_tmg (d : Dev) (f : Asc → Asc) : (d.onAsc f).tmg = d.tmg := rfl
@[simp] theorem Dev.onAsc_pke (d : Dev) (f : Asc → Asc) : (d.onAsc f).pke = d.pke := rfl
@[simp] theorem Dev.onAsc_eth (d : Dev) (f : Asc → Asc) : (d.onAsc f).eth = d.eth := rfl
@[simp] theorem Dev.onAsc_mem (d : Dev) (f : Asc → Asc) : (d.onAsc f).mem = d.mem := rfl
@[simp] theorem Dev.onAsc_tmu (d : Dev) (f : Asc → Asc) : (d.onAsc f).tmu = d.tmu := rfl
@[simp] theorem Dev.onAsc_msh (d : Dev) (f : Asc → Asc) : (d.onAsc f).msh = d.msh := rfl
@[simp] theorem Dev.onAsc_mgt (d : Dev) (f : Asc → Asc) : (d.onAsc f).mgt = d.mgt := rfl
@[simp] theorem Dev.onAsc_pmu (d : Dev) (f : Asc → Asc) : (d.onAsc f).pmu = d.pmu := rfl
@[simp] theorem Dev.onAsc_bst (d : Dev) (f : Asc → Asc) : (d.onAsc f).bst = d.bst := rfl
@[simp] theorem Dev.onAsc_port (d : Dev) (f : Asc → Asc) : (d.onAsc f).port = d.port := rfl
@[simp] theorem Dev.onAsc_out (d : Dev) (f : Asc → Asc) : (d.onAsc f).out = d.out := rfl
@[simp] theorem Dev.onAsc_free (d : Dev) (f : Asc → Asc) : (d.onAsc f).free = d.free := rfl

/-! onQar -/
@[simp] theorem Dev.onQar_regs (d : Dev) (f : Qar → Qar) : (d.onQar f).regs = d.regs := rfl
@[simp] theorem Dev.onQar_pages (d : Dev) (f : Qar → Qar) : (d.onQar f).pages = d.pages := rfl
@[simp] theorem Dev.onQar_hci (d : Dev) (f : Qar → Qar) : (d.onQar f).hci = d.hci := rfl
@[simp] theorem Dev.onQar_rfe (d : Dev) (f : Qar → Qar) : (d.onQar f).rfe = d.rfe := rfl
@[simp] theorem Dev.onQar_rgl (d : Dev) (f : Qar → Qar) : (d.onQar f).rgl = d.rgl := rfl
@[simp] theorem Dev.onQar_phy (d : Dev) (f : Qar → Qar) : (d.onQar f).phy = d.phy := rfl
@[simp] theorem Dev.onQar_mac (d : Dev) (f : Qar → Qar) : (d.onQar f).mac = d.mac := rfl
@[simp] theorem Dev.onQar_mld (d : Dev) (f : Qar → Qar) : (d.onQar f).mld = d.mld := rfl
@[simp] theorem Dev.onQar_asc (d : Dev) (f : Qar → Qar) : (d.onQar f).asc = d.asc := rfl
@[simp] theorem Dev.onQar_qar (d : Dev) (f : Qar → Qar) : (d.onQar f).qar = f d.qar := rfl
@[simp] theorem Dev.onQar_mp (d : Dev) (f : Qar → Qar) : (d.onQar f).mp = d.mp := rfl
@[simp] theorem Dev.onQar_tmg (d : Dev) (f : Qar → Qar) : (d.onQar f).tmg = d.tmg := rfl
@[simp] theorem Dev.onQar_pke (d : Dev) (f : Qar → Qar) : (d.onQar f).pke = d.pke := rfl
@[simp] theorem Dev.onQar_eth (d : Dev) (f : Qar → Qar) : (d.onQar f).eth = d.eth := rfl
@[simp] theorem Dev.onQar_mem (d : Dev) (f : Qar → Qar) : (d.onQar f).mem = d.mem := rfl
@[simp] theorem Dev.onQar_tmu (d : Dev) (f : Qar → Qar) : (d.onQar f).tmu = d.tmu := rfl
@[simp] theorem Dev.onQar_msh (d : Dev) (f : Qar → Qar) : (d.onQar f).msh = d.msh := rfl
@[simp] theorem Dev.onQar_mgt (d : Dev) (f : Qar → Qar) : (d.onQar f).mgt = d.mgt := rfl
@[simp] theorem Dev.onQar_pmu (d : Dev) (f : Qar → Qar) : (d.onQar f).pmu = d.pmu := rfl
@[simp] theorem Dev.onQar_bst (d : Dev) (f : Qar → Qar) : (d.onQar f).bst = d.bst := rfl
@[simp] theorem Dev.onQar_port (d : Dev) (f : Qar → Qar) : (d.onQar f).port = d.port := rfl
@[simp] theorem Dev.onQar_out (d : Dev) (f : Qar → Qar) : (d.onQar f).out = d.out := rfl
@[simp] theorem Dev.onQar_free (d : Dev) (f : Qar → Qar) : (d.onQar f).free = d.free := rfl

/-! onMp -/
@[simp] theorem Dev.onMp_regs (d : Dev) (f : Core → Core) : (d.onMp f).regs = d.regs := rfl
@[simp] theorem Dev.onMp_pages (d : Dev) (f : Core → Core) : (d.onMp f).pages = d.pages := rfl
@[simp] theorem Dev.onMp_hci (d : Dev) (f : Core → Core) : (d.onMp f).hci = d.hci := rfl
@[simp] theorem Dev.onMp_rfe (d : Dev) (f : Core → Core) : (d.onMp f).rfe = d.rfe := rfl
@[simp] theorem Dev.onMp_rgl (d : Dev) (f : Core → Core) : (d.onMp f).rgl = d.rgl := rfl
@[simp] theorem Dev.onMp_phy (d : Dev) (f : Core → Core) : (d.onMp f).phy = d.phy := rfl
@[simp] theorem Dev.onMp_mac (d : Dev) (f : Core → Core) : (d.onMp f).mac = d.mac := rfl
@[simp] theorem Dev.onMp_mld (d : Dev) (f : Core → Core) : (d.onMp f).mld = d.mld := rfl
@[simp] theorem Dev.onMp_asc (d : Dev) (f : Core → Core) : (d.onMp f).asc = d.asc := rfl
@[simp] theorem Dev.onMp_qar (d : Dev) (f : Core → Core) : (d.onMp f).qar = d.qar := rfl
@[simp] theorem Dev.onMp_mp (d : Dev) (f : Core → Core) : (d.onMp f).mp = f d.mp := rfl
@[simp] theorem Dev.onMp_tmg (d : Dev) (f : Core → Core) : (d.onMp f).tmg = d.tmg := rfl
@[simp] theorem Dev.onMp_pke (d : Dev) (f : Core → Core) : (d.onMp f).pke = d.pke := rfl
@[simp] theorem Dev.onMp_eth (d : Dev) (f : Core → Core) : (d.onMp f).eth = d.eth := rfl
@[simp] theorem Dev.onMp_mem (d : Dev) (f : Core → Core) : (d.onMp f).mem = d.mem := rfl
@[simp] theorem Dev.onMp_tmu (d : Dev) (f : Core → Core) : (d.onMp f).tmu = d.tmu := rfl
@[simp] theorem Dev.onMp_msh (d : Dev) (f : Core → Core) : (d.onMp f).msh = d.msh := rfl
@[simp] theorem Dev.onMp_mgt (d : Dev) (f : Core → Core) : (d.onMp f).mgt = d.mgt := rfl
@[simp] theorem Dev.onMp_pmu (d : Dev) (f : Core → Core) : (d.onMp f).pmu = d.pmu := rfl
@[simp] theorem Dev.onMp_bst (d : Dev) (f : Core → Core) : (d.onMp f).bst = d.bst := rfl
@[simp] theorem Dev.onMp_port (d : Dev) (f : Core → Core) : (d.onMp f).port = d.port := rfl
@[simp] theorem Dev.onMp_out (d : Dev) (f : Core → Core) : (d.onMp f).out = d.out := rfl
@[simp] theorem Dev.onMp_free (d : Dev) (f : Core → Core) : (d.onMp f).free = d.free := rfl

/-! onTmg -/
@[simp] theorem Dev.onTmg_regs (d : Dev) (f : Tmg → Tmg) : (d.onTmg f).regs = d.regs := rfl
@[simp] theorem Dev.onTmg_pages (d : Dev) (f : Tmg → Tmg) : (d.onTmg f).pages = d.pages := rfl
@[simp] theorem Dev.onTmg_hci (d : Dev) (f : Tmg → Tmg) : (d.onTmg f).hci = d.hci := rfl
@[simp] theorem Dev.onTmg_rfe (d : Dev) (f : Tmg → Tmg) : (d.onTmg f).rfe = d.rfe := rfl
@[simp] theorem Dev.onTmg_rgl (d : Dev) (f : Tmg → Tmg) : (d.onTmg f).rgl = d.rgl := rfl
@[simp] theorem Dev.onTmg_phy (d : Dev) (f : Tmg → Tmg) : (d.onTmg f).phy = d.phy := rfl
@[simp] theorem Dev.onTmg_mac (d : Dev) (f : Tmg → Tmg) : (d.onTmg f).mac = d.mac := rfl
@[simp] theorem Dev.onTmg_mld (d : Dev) (f : Tmg → Tmg) : (d.onTmg f).mld = d.mld := rfl
@[simp] theorem Dev.onTmg_asc (d : Dev) (f : Tmg → Tmg) : (d.onTmg f).asc = d.asc := rfl
@[simp] theorem Dev.onTmg_qar (d : Dev) (f : Tmg → Tmg) : (d.onTmg f).qar = d.qar := rfl
@[simp] theorem Dev.onTmg_mp (d : Dev) (f : Tmg → Tmg) : (d.onTmg f).mp = d.mp := rfl
@[simp] theorem Dev.onTmg_tmg (d : Dev) (f : Tmg → Tmg) : (d.onTmg f).tmg = f d.tmg := rfl
@[simp] theorem Dev.onTmg_pke (d : Dev) (f : Tmg → Tmg) : (d.onTmg f).pke = d.pke := rfl
@[simp] theorem Dev.onTmg_eth (d : Dev) (f : Tmg → Tmg) : (d.onTmg f).eth = d.eth := rfl
@[simp] theorem Dev.onTmg_mem (d : Dev) (f : Tmg → Tmg) : (d.onTmg f).mem = d.mem := rfl
@[simp] theorem Dev.onTmg_tmu (d : Dev) (f : Tmg → Tmg) : (d.onTmg f).tmu = d.tmu := rfl
@[simp] theorem Dev.onTmg_msh (d : Dev) (f : Tmg → Tmg) : (d.onTmg f).msh = d.msh := rfl
@[simp] theorem Dev.onTmg_mgt (d : Dev) (f : Tmg → Tmg) : (d.onTmg f).mgt = d.mgt := rfl
@[simp] theorem Dev.onTmg_pmu (d : Dev) (f : Tmg → Tmg) : (d.onTmg f).pmu = d.pmu := rfl
@[simp] theorem Dev.onTmg_bst (d : Dev) (f : Tmg → Tmg) : (d.onTmg f).bst = d.bst := rfl
@[simp] theorem Dev.onTmg_port (d : Dev) (f : Tmg → Tmg) : (d.onTmg f).port = d.port := rfl
@[simp] theorem Dev.onTmg_out (d : Dev) (f : Tmg → Tmg) : (d.onTmg f).out = d.out := rfl
@[simp] theorem Dev.onTmg_free (d : Dev) (f : Tmg → Tmg) : (d.onTmg f).free = d.free := rfl

/-! onPke -/
@[simp] theorem Dev.onPke_regs (d : Dev) (f : Pke → Pke) : (d.onPke f).regs = d.regs := rfl
@[simp] theorem Dev.onPke_pages (d : Dev) (f : Pke → Pke) : (d.onPke f).pages = d.pages := rfl
@[simp] theorem Dev.onPke_hci (d : Dev) (f : Pke → Pke) : (d.onPke f).hci = d.hci := rfl
@[simp] theorem Dev.onPke_rfe (d : Dev) (f : Pke → Pke) : (d.onPke f).rfe = d.rfe := rfl
@[simp] theorem Dev.onPke_rgl (d : Dev) (f : Pke → Pke) : (d.onPke f).rgl = d.rgl := rfl
@[simp] theorem Dev.onPke_phy (d : Dev) (f : Pke → Pke) : (d.onPke f).phy = d.phy := rfl
@[simp] theorem Dev.onPke_mac (d : Dev) (f : Pke → Pke) : (d.onPke f).mac = d.mac := rfl
@[simp] theorem Dev.onPke_mld (d : Dev) (f : Pke → Pke) : (d.onPke f).mld = d.mld := rfl
@[simp] theorem Dev.onPke_asc (d : Dev) (f : Pke → Pke) : (d.onPke f).asc = d.asc := rfl
@[simp] theorem Dev.onPke_qar (d : Dev) (f : Pke → Pke) : (d.onPke f).qar = d.qar := rfl
@[simp] theorem Dev.onPke_mp (d : Dev) (f : Pke → Pke) : (d.onPke f).mp = d.mp := rfl
@[simp] theorem Dev.onPke_tmg (d : Dev) (f : Pke → Pke) : (d.onPke f).tmg = d.tmg := rfl
@[simp] theorem Dev.onPke_pke (d : Dev) (f : Pke → Pke) : (d.onPke f).pke = f d.pke := rfl
@[simp] theorem Dev.onPke_eth (d : Dev) (f : Pke → Pke) : (d.onPke f).eth = d.eth := rfl
@[simp] theorem Dev.onPke_mem (d : Dev) (f : Pke → Pke) : (d.onPke f).mem = d.mem := rfl
@[simp] theorem Dev.onPke_tmu (d : Dev) (f : Pke → Pke) : (d.onPke f).tmu = d.tmu := rfl
@[simp] theorem Dev.onPke_msh (d : Dev) (f : Pke → Pke) : (d.onPke f).msh = d.msh := rfl
@[simp] theorem Dev.onPke_mgt (d : Dev) (f : Pke → Pke) : (d.onPke f).mgt = d.mgt := rfl
@[simp] theorem Dev.onPke_pmu (d : Dev) (f : Pke → Pke) : (d.onPke f).pmu = d.pmu := rfl
@[simp] theorem Dev.onPke_bst (d : Dev) (f : Pke → Pke) : (d.onPke f).bst = d.bst := rfl
@[simp] theorem Dev.onPke_port (d : Dev) (f : Pke → Pke) : (d.onPke f).port = d.port := rfl
@[simp] theorem Dev.onPke_out (d : Dev) (f : Pke → Pke) : (d.onPke f).out = d.out := rfl
@[simp] theorem Dev.onPke_free (d : Dev) (f : Pke → Pke) : (d.onPke f).free = d.free := rfl

/-! onMem -/
@[simp] theorem Dev.onMem_regs (d : Dev) (f : Mem → Mem) : (d.onMem f).regs = d.regs := rfl
@[simp] theorem Dev.onMem_pages (d : Dev) (f : Mem → Mem) : (d.onMem f).pages = d.pages := rfl
@[simp] theorem Dev.onMem_hci (d : Dev) (f : Mem → Mem) : (d.onMem f).hci = d.hci := rfl
@[simp] theorem Dev.onMem_rfe (d : Dev) (f : Mem → Mem) : (d.onMem f).rfe = d.rfe := rfl
@[simp] theorem Dev.onMem_rgl (d : Dev) (f : Mem → Mem) : (d.onMem f).rgl = d.rgl := rfl
@[simp] theorem Dev.onMem_phy (d : Dev) (f : Mem → Mem) : (d.onMem f).phy = d.phy := rfl
@[simp] theorem Dev.onMem_mac (d : Dev) (f : Mem → Mem) : (d.onMem f).mac = d.mac := rfl
@[simp] theorem Dev.onMem_mld (d : Dev) (f : Mem → Mem) : (d.onMem f).mld = d.mld := rfl
@[simp] theorem Dev.onMem_asc (d : Dev) (f : Mem → Mem) : (d.onMem f).asc = d.asc := rfl
@[simp] theorem Dev.onMem_qar (d : Dev) (f : Mem → Mem) : (d.onMem f).qar = d.qar := rfl
@[simp] theorem Dev.onMem_mp (d : Dev) (f : Mem → Mem) : (d.onMem f).mp = d.mp := rfl
@[simp] theorem Dev.onMem_tmg (d : Dev) (f : Mem → Mem) : (d.onMem f).tmg = d.tmg := rfl
@[simp] theorem Dev.onMem_pke (d : Dev) (f : Mem → Mem) : (d.onMem f).pke = d.pke := rfl
@[simp] theorem Dev.onMem_eth (d : Dev) (f : Mem → Mem) : (d.onMem f).eth = d.eth := rfl
@[simp] theorem Dev.onMem_mem (d : Dev) (f : Mem → Mem) : (d.onMem f).mem = f d.mem := rfl
@[simp] theorem Dev.onMem_tmu (d : Dev) (f : Mem → Mem) : (d.onMem f).tmu = d.tmu := rfl
@[simp] theorem Dev.onMem_msh (d : Dev) (f : Mem → Mem) : (d.onMem f).msh = d.msh := rfl
@[simp] theorem Dev.onMem_mgt (d : Dev) (f : Mem → Mem) : (d.onMem f).mgt = d.mgt := rfl
@[simp] theorem Dev.onMem_pmu (d : Dev) (f : Mem → Mem) : (d.onMem f).pmu = d.pmu := rfl
@[simp] theorem Dev.onMem_bst (d : Dev) (f : Mem → Mem) : (d.onMem f).bst = d.bst := rfl
@[simp] theorem Dev.onMem_port (d : Dev) (f : Mem → Mem) : (d.onMem f).port = d.port := rfl
@[simp] theorem Dev.onMem_out (d : Dev) (f : Mem → Mem) : (d.onMem f).out = d.out := rfl
@[simp] theorem Dev.onMem_free (d : Dev) (f : Mem → Mem) : (d.onMem f).free = d.free := rfl

/-! onTmu -/
@[simp] theorem Dev.onTmu_regs (d : Dev) (f : Tmu → Tmu) : (d.onTmu f).regs = d.regs := rfl
@[simp] theorem Dev.onTmu_pages (d : Dev) (f : Tmu → Tmu) : (d.onTmu f).pages = d.pages := rfl
@[simp] theorem Dev.onTmu_hci (d : Dev) (f : Tmu → Tmu) : (d.onTmu f).hci = d.hci := rfl
@[simp] theorem Dev.onTmu_rfe (d : Dev) (f : Tmu → Tmu) : (d.onTmu f).rfe = d.rfe := rfl
@[simp] theorem Dev.onTmu_rgl (d : Dev) (f : Tmu → Tmu) : (d.onTmu f).rgl = d.rgl := rfl
@[simp] theorem Dev.onTmu_phy (d : Dev) (f : Tmu → Tmu) : (d.onTmu f).phy = d.phy := rfl
@[simp] theorem Dev.onTmu_mac (d : Dev) (f : Tmu → Tmu) : (d.onTmu f).mac = d.mac := rfl
@[simp] theorem Dev.onTmu_mld (d : Dev) (f : Tmu → Tmu) : (d.onTmu f).mld = d.mld := rfl
@[simp] theorem Dev.onTmu_asc (d : Dev) (f : Tmu → Tmu) : (d.onTmu f).asc = d.asc := rfl
@[simp] theorem Dev.onTmu_qar (d : Dev) (f : Tmu → Tmu) : (d.onTmu f).qar = d.qar := rfl
@[simp] theorem Dev.onTmu_mp (d : Dev) (f : Tmu → Tmu) : (d.onTmu f).mp = d.mp := rfl
@[simp] theorem Dev.onTmu_tmg (d : Dev) (f : Tmu → Tmu) : (d.onTmu f).tmg = d.tmg := rfl
@[simp] theorem Dev.onTmu_pke (d : Dev) (f : Tmu → Tmu) : (d.onTmu f).pke = d.pke := rfl
@[simp] theorem Dev.onTmu_eth (d : Dev) (f : Tmu → Tmu) : (d.onTmu f).eth = d.eth := rfl
@[simp] theorem Dev.onTmu_mem (d : Dev) (f : Tmu → Tmu) : (d.onTmu f).mem = d.mem := rfl
@[simp] theorem Dev.onTmu_tmu (d : Dev) (f : Tmu → Tmu) : (d.onTmu f).tmu = f d.tmu := rfl
@[simp] theorem Dev.onTmu_msh (d : Dev) (f : Tmu → Tmu) : (d.onTmu f).msh = d.msh := rfl
@[simp] theorem Dev.onTmu_mgt (d : Dev) (f : Tmu → Tmu) : (d.onTmu f).mgt = d.mgt := rfl
@[simp] theorem Dev.onTmu_pmu (d : Dev) (f : Tmu → Tmu) : (d.onTmu f).pmu = d.pmu := rfl
@[simp] theorem Dev.onTmu_bst (d : Dev) (f : Tmu → Tmu) : (d.onTmu f).bst = d.bst := rfl
@[simp] theorem Dev.onTmu_port (d : Dev) (f : Tmu → Tmu) : (d.onTmu f).port = d.port := rfl
@[simp] theorem Dev.onTmu_out (d : Dev) (f : Tmu → Tmu) : (d.onTmu f).out = d.out := rfl
@[simp] theorem Dev.onTmu_free (d : Dev) (f : Tmu → Tmu) : (d.onTmu f).free = d.free := rfl

/-! onMsh -/
@[simp] theorem Dev.onMsh_regs (d : Dev) (f : Msh → Msh) : (d.onMsh f).regs = d.regs := rfl
@[simp] theorem Dev.onMsh_pages (d : Dev) (f : Msh → Msh) : (d.onMsh f).pages = d.pages := rfl
@[simp] theorem Dev.onMsh_hci (d : Dev) (f : Msh → Msh) : (d.onMsh f).hci = d.hci := rfl
@[simp] theorem Dev.onMsh_rfe (d : Dev) (f : Msh → Msh) : (d.onMsh f).rfe = d.rfe := rfl
@[simp] theorem Dev.onMsh_rgl (d : Dev) (f : Msh → Msh) : (d.onMsh f).rgl = d.rgl := rfl
@[simp] theorem Dev.onMsh_phy (d : Dev) (f : Msh → Msh) : (d.onMsh f).phy = d.phy := rfl
@[simp] theorem Dev.onMsh_mac (d : Dev) (f : Msh → Msh) : (d.onMsh f).mac = d.mac := rfl
@[simp] theorem Dev.onMsh_mld (d : Dev) (f : Msh → Msh) : (d.onMsh f).mld = d.mld := rfl
@[simp] theorem Dev.onMsh_asc (d : Dev) (f : Msh → Msh) : (d.onMsh f).asc = d.asc := rfl
@[simp] theorem Dev.onMsh_qar (d : Dev) (f : Msh → Msh) : (d.onMsh f).qar = d.qar := rfl
@[simp] theorem Dev.onMsh_mp (d : Dev) (f : Msh → Msh) : (d.onMsh f).mp = d.mp := rfl
@[simp] theorem Dev.onMsh_tmg (d : Dev) (f : Msh → Msh) : (d.onMsh f).tmg = d.tmg := rfl
@[simp] theorem Dev.onMsh_pke (d : Dev) (f : Msh → Msh) : (d.onMsh f).pke = d.pke := rfl
@[simp] theorem Dev.onMsh_eth (d : Dev) (f : Msh → Msh) : (d.onMsh f).eth = d.eth := rfl
@[simp] theorem Dev.onMsh_mem (d : Dev) (f : Msh → Msh) : (d.onMsh f).mem = d.mem := rfl
@[simp] theorem Dev.onMsh_tmu (d : Dev) (f : Msh → Msh) : (d.onMsh f).tmu = d.tmu := rfl
@[simp] theorem Dev.onMsh_msh (d : Dev) (f : Msh → Msh) : (d.onMsh f).msh = f d.msh := rfl
@[simp] theorem Dev.onMsh_mgt (d : Dev) (f : Msh → Msh) : (d.onMsh f).mgt = d.mgt := rfl
@[simp] theorem Dev.onMsh_pmu (d : Dev) (f : Msh → Msh) : (d.onMsh f).pmu = d.pmu := rfl
@[simp] theorem Dev.onMsh_bst (d : Dev) (f : Msh → Msh) : (d.onMsh f).bst = d.bst := rfl
@[simp] theorem Dev.onMsh_port (d : Dev) (f : Msh → Msh) : (d.onMsh f).port = d.port := rfl
@[simp] theorem Dev.onMsh_out (d : Dev) (f : Msh → Msh) : (d.onMsh f).out = d.out := rfl
@[simp] theorem Dev.onMsh_free (d : Dev) (f : Msh → Msh) : (d.onMsh f).free = d.free := rfl

/-! onMgt -/
@[simp] theorem Dev.onMgt_regs (d : Dev) (f : Mgt → Mgt) : (d.onMgt f).regs = d.regs := rfl
@[simp] theorem Dev.onMgt_pages (d : Dev) (f : Mgt → Mgt) : (d.onMgt f).pages = d.pages := rfl
@[simp] theorem Dev.onMgt_hci (d : Dev) (f : Mgt → Mgt) : (d.onMgt f).hci = d.hci := rfl
@[simp] theorem Dev.onMgt_rfe (d : Dev) (f : Mgt → Mgt) : (d.onMgt f).rfe = d.rfe := rfl
@[simp] theorem Dev.onMgt_rgl (d : Dev) (f : Mgt → Mgt) : (d.onMgt f).rgl = d.rgl := rfl
@[simp] theorem Dev.onMgt_phy (d : Dev) (f : Mgt → Mgt) : (d.onMgt f).phy = d.phy := rfl
@[simp] theorem Dev.onMgt_mac (d : Dev) (f : Mgt → Mgt) : (d.onMgt f).mac = d.mac := rfl
@[simp] theorem Dev.onMgt_mld (d : Dev) (f : Mgt → Mgt) : (d.onMgt f).mld = d.mld := rfl
@[simp] theorem Dev.onMgt_asc (d : Dev) (f : Mgt → Mgt) : (d.onMgt f).asc = d.asc := rfl
@[simp] theorem Dev.onMgt_qar (d : Dev) (f : Mgt → Mgt) : (d.onMgt f).qar = d.qar := rfl
@[simp] theorem Dev.onMgt_mp (d : Dev) (f : Mgt → Mgt) : (d.onMgt f).mp = d.mp := rfl
@[simp] theorem Dev.onMgt_tmg (d : Dev) (f : Mgt → Mgt) : (d.onMgt f).tmg = d.tmg := rfl
@[simp] theorem Dev.onMgt_pke (d : Dev) (f : Mgt → Mgt) : (d.onMgt f).pke = d.pke := rfl
@[simp] theorem Dev.onMgt_eth (d : Dev) (f : Mgt → Mgt) : (d.onMgt f).eth = d.eth := rfl
@[simp] theorem Dev.onMgt_mem (d : Dev) (f : Mgt → Mgt) : (d.onMgt f).mem = d.mem := rfl
@[simp] theorem Dev.onMgt_tmu (d : Dev) (f : Mgt → Mgt) : (d.onMgt f).tmu = d.tmu := rfl
@[simp] theorem Dev.onMgt_msh (d : Dev) (f : Mgt → Mgt) : (d.onMgt f).msh = d.msh := rfl
@[simp] theorem Dev.onMgt_mgt (d : Dev) (f : Mgt → Mgt) : (d.onMgt f).mgt = f d.mgt := rfl
@[simp] theorem Dev.onMgt_pmu (d : Dev) (f : Mgt → Mgt) : (d.onMgt f).pmu = d.pmu := rfl
@[simp] theorem Dev.onMgt_bst (d : Dev) (f : Mgt → Mgt) : (d.onMgt f).bst = d.bst := rfl
@[simp] theorem Dev.onMgt_port (d : Dev) (f : Mgt → Mgt) : (d.onMgt f).port = d.port := rfl
@[simp] theorem Dev.onMgt_out (d : Dev) (f : Mgt → Mgt) : (d.onMgt f).out = d.out := rfl
@[simp] theorem Dev.onMgt_free (d : Dev) (f : Mgt → Mgt) : (d.onMgt f).free = d.free := rfl

/-! onPmu -/
@[simp] theorem Dev.onPmu_regs (d : Dev) (f : Pmu → Pmu) : (d.onPmu f).regs = d.regs := rfl
@[simp] theorem Dev.onPmu_pages (d : Dev) (f : Pmu → Pmu) : (d.onPmu f).pages = d.pages := rfl
@[simp] theorem Dev.onPmu_hci (d : Dev) (f : Pmu → Pmu) : (d.onPmu f).hci = d.hci := rfl
@[simp] theorem Dev.onPmu_rfe (d : Dev) (f : Pmu → Pmu) : (d.onPmu f).rfe = d.rfe := rfl
@[simp] theorem Dev.onPmu_rgl (d : Dev) (f : Pmu → Pmu) : (d.onPmu f).rgl = d.rgl := rfl
@[simp] theorem Dev.onPmu_phy (d : Dev) (f : Pmu → Pmu) : (d.onPmu f).phy = d.phy := rfl
@[simp] theorem Dev.onPmu_mac (d : Dev) (f : Pmu → Pmu) : (d.onPmu f).mac = d.mac := rfl
@[simp] theorem Dev.onPmu_mld (d : Dev) (f : Pmu → Pmu) : (d.onPmu f).mld = d.mld := rfl
@[simp] theorem Dev.onPmu_asc (d : Dev) (f : Pmu → Pmu) : (d.onPmu f).asc = d.asc := rfl
@[simp] theorem Dev.onPmu_qar (d : Dev) (f : Pmu → Pmu) : (d.onPmu f).qar = d.qar := rfl
@[simp] theorem Dev.onPmu_mp (d : Dev) (f : Pmu → Pmu) : (d.onPmu f).mp = d.mp := rfl
@[simp] theorem Dev.onPmu_tmg (d : Dev) (f : Pmu → Pmu) : (d.onPmu f).tmg = d.tmg := rfl
@[simp] theorem Dev.onPmu_pke (d : Dev) (f : Pmu → Pmu) : (d.onPmu f).pke = d.pke := rfl
@[simp] theorem Dev.onPmu_eth (d : Dev) (f : Pmu → Pmu) : (d.onPmu f).eth = d.eth := rfl
@[simp] theorem Dev.onPmu_mem (d : Dev) (f : Pmu → Pmu) : (d.onPmu f).mem = d.mem := rfl
@[simp] theorem Dev.onPmu_tmu (d : Dev) (f : Pmu → Pmu) : (d.onPmu f).tmu = d.tmu := rfl
@[simp] theorem Dev.onPmu_msh (d : Dev) (f : Pmu → Pmu) : (d.onPmu f).msh = d.msh := rfl
@[simp] theorem Dev.onPmu_mgt (d : Dev) (f : Pmu → Pmu) : (d.onPmu f).mgt = d.mgt := rfl
@[simp] theorem Dev.onPmu_pmu (d : Dev) (f : Pmu → Pmu) : (d.onPmu f).pmu = f d.pmu := rfl
@[simp] theorem Dev.onPmu_bst (d : Dev) (f : Pmu → Pmu) : (d.onPmu f).bst = d.bst := rfl
@[simp] theorem Dev.onPmu_port (d : Dev) (f : Pmu → Pmu) : (d.onPmu f).port = d.port := rfl
@[simp] theorem Dev.onPmu_out (d : Dev) (f : Pmu → Pmu) : (d.onPmu f).out = d.out := rfl
@[simp] theorem Dev.onPmu_free (d : Dev) (f : Pmu → Pmu) : (d.onPmu f).free = d.free := rfl

/-! onBst -/
@[simp] theorem Dev.onBst_regs (d : Dev) (f : Bst → Bst) : (d.onBst f).regs = d.regs := rfl
@[simp] theorem Dev.onBst_pages (d : Dev) (f : Bst → Bst) : (d.onBst f).pages = d.pages := rfl
@[simp] theorem Dev.onBst_hci (d : Dev) (f : Bst → Bst) : (d.onBst f).hci = d.hci := rfl
@[simp] theorem Dev.onBst_rfe (d : Dev) (f : Bst → Bst) : (d.onBst f).rfe = d.rfe := rfl
@[simp] theorem Dev.onBst_rgl (d : Dev) (f : Bst → Bst) : (d.onBst f).rgl = d.rgl := rfl
@[simp] theorem Dev.onBst_phy (d : Dev) (f : Bst → Bst) : (d.onBst f).phy = d.phy := rfl
@[simp] theorem Dev.onBst_mac (d : Dev) (f : Bst → Bst) : (d.onBst f).mac = d.mac := rfl
@[simp] theorem Dev.onBst_mld (d : Dev) (f : Bst → Bst) : (d.onBst f).mld = d.mld := rfl
@[simp] theorem Dev.onBst_asc (d : Dev) (f : Bst → Bst) : (d.onBst f).asc = d.asc := rfl
@[simp] theorem Dev.onBst_qar (d : Dev) (f : Bst → Bst) : (d.onBst f).qar = d.qar := rfl
@[simp] theorem Dev.onBst_mp (d : Dev) (f : Bst → Bst) : (d.onBst f).mp = d.mp := rfl
@[simp] theorem Dev.onBst_tmg (d : Dev) (f : Bst → Bst) : (d.onBst f).tmg = d.tmg := rfl
@[simp] theorem Dev.onBst_pke (d : Dev) (f : Bst → Bst) : (d.onBst f).pke = d.pke := rfl
@[simp] theorem Dev.onBst_eth (d : Dev) (f : Bst → Bst) : (d.onBst f).eth = d.eth := rfl
@[simp] theorem Dev.onBst_mem (d : Dev) (f : Bst → Bst) : (d.onBst f).mem = d.mem := rfl
@[simp] theorem Dev.onBst_tmu (d : Dev) (f : Bst → Bst) : (d.onBst f).tmu = d.tmu := rfl
@[simp] theorem Dev.onBst_msh (d : Dev) (f : Bst → Bst) : (d.onBst f).msh = d.msh := rfl
@[simp] theorem Dev.onBst_mgt (d : Dev) (f : Bst → Bst) : (d.onBst f).mgt = d.mgt := rfl
@[simp] theorem Dev.onBst_pmu (d : Dev) (f : Bst → Bst) : (d.onBst f).pmu = d.pmu := rfl
@[simp] theorem Dev.onBst_bst (d : Dev) (f : Bst → Bst) : (d.onBst f).bst = f d.bst := rfl
@[simp] theorem Dev.onBst_port (d : Dev) (f : Bst → Bst) : (d.onBst f).port = d.port := rfl
@[simp] theorem Dev.onBst_out (d : Dev) (f : Bst → Bst) : (d.onBst f).out = d.out := rfl
@[simp] theorem Dev.onBst_free (d : Dev) (f : Bst → Bst) : (d.onBst f).free = d.free := rfl

/-! onRgl -/
@[simp] theorem Dev.onRgl_regs (d : Dev) (f : Rgl → Rgl) : (d.onRgl f).regs = d.regs := rfl
@[simp] theorem Dev.onRgl_pages (d : Dev) (f : Rgl → Rgl) : (d.onRgl f).pages = d.pages := rfl
@[simp] theorem Dev.onRgl_hci (d : Dev) (f : Rgl → Rgl) : (d.onRgl f).hci = d.hci := rfl
@[simp] theorem Dev.onRgl_rfe (d : Dev) (f : Rgl → Rgl) : (d.onRgl f).rfe = d.rfe := rfl
@[simp] theorem Dev.onRgl_rgl (d : Dev) (f : Rgl → Rgl) : (d.onRgl f).rgl = f d.rgl := rfl
@[simp] theorem Dev.onRgl_phy (d : Dev) (f : Rgl → Rgl) : (d.onRgl f).phy = d.phy := rfl
@[simp] theorem Dev.onRgl_mac (d : Dev) (f : Rgl → Rgl) : (d.onRgl f).mac = d.mac := rfl
@[simp] theorem Dev.onRgl_mld (d : Dev) (f : Rgl → Rgl) : (d.onRgl f).mld = d.mld := rfl
@[simp] theorem Dev.onRgl_asc (d : Dev) (f : Rgl → Rgl) : (d.onRgl f).asc = d.asc := rfl
@[simp] theorem Dev.onRgl_qar (d : Dev) (f : Rgl → Rgl) : (d.onRgl f).qar = d.qar := rfl
@[simp] theorem Dev.onRgl_mp (d : Dev) (f : Rgl → Rgl) : (d.onRgl f).mp = d.mp := rfl
@[simp] theorem Dev.onRgl_tmg (d : Dev) (f : Rgl → Rgl) : (d.onRgl f).tmg = d.tmg := rfl
@[simp] theorem Dev.onRgl_pke (d : Dev) (f : Rgl → Rgl) : (d.onRgl f).pke = d.pke := rfl
@[simp] theorem Dev.onRgl_eth (d : Dev) (f : Rgl → Rgl) : (d.onRgl f).eth = d.eth := rfl
@[simp] theorem Dev.onRgl_mem (d : Dev) (f : Rgl → Rgl) : (d.onRgl f).mem = d.mem := rfl
@[simp] theorem Dev.onRgl_tmu (d : Dev) (f : Rgl → Rgl) : (d.onRgl f).tmu = d.tmu := rfl
@[simp] theorem Dev.onRgl_msh (d : Dev) (f : Rgl → Rgl) : (d.onRgl f).msh = d.msh := rfl
@[simp] theorem Dev.onRgl_mgt (d : Dev) (f : Rgl → Rgl) : (d.onRgl f).mgt = d.mgt := rfl
@[simp] theorem Dev.onRgl_pmu (d : Dev) (f : Rgl → Rgl) : (d.onRgl f).pmu = d.pmu := rfl
@[simp] theorem Dev.onRgl_bst (d : Dev) (f : Rgl → Rgl) : (d.onRgl f).bst = d.bst := rfl
@[simp] theorem Dev.onRgl_port (d : Dev) (f : Rgl → Rgl) : (d.onRgl f).port = d.port := rfl
@[simp] theorem Dev.onRgl_out (d : Dev) (f : Rgl → Rgl) : (d.onRgl f).out = d.out := rfl
@[simp] theorem Dev.onRgl_free (d : Dev) (f : Rgl → Rgl) : (d.onRgl f).free = d.free := rfl

/-! onRfe -/
@[simp] theorem Dev.onRfe_regs (d : Dev) (r : Radio) (f : Rfe → Rfe) : (d.onRfe r f).regs = d.regs := rfl
@[simp] theorem Dev.onRfe_pages (d : Dev) (r : Radio) (f : Rfe → Rfe) : (d.onRfe r f).pages = d.pages := rfl
@[simp] theorem Dev.onRfe_hci (d : Dev) (r : Radio) (f : Rfe → Rfe) : (d.onRfe r f).hci = d.hci := rfl
@[simp] theorem Dev.onRfe_rfe (d : Dev) (r : Radio) (f : Rfe → Rfe) : (d.onRfe r f).rfe = d.rfe.set r (f (d.rfe.get r)) := rfl
@[simp] theorem Dev.onRfe_rgl (d : Dev) (r : Radio) (f : Rfe → Rfe) : (d.onRfe r f).rgl = d.rgl := rfl
@[simp] theorem Dev.onRfe_phy (d : Dev) (r : Radio) (f : Rfe → Rfe) : (d.onRfe r f).phy = d.phy := rfl
@[simp] theorem Dev.onRfe_mac (d : Dev) (r : Radio) (f : Rfe → Rfe) : (d.onRfe r f).mac = d.mac := rfl
@[simp] theorem Dev.onRfe_mld (d : Dev) (r : Radio) (f : Rfe → Rfe) : (d.onRfe r f).mld = d.mld := rfl
@[simp] theorem Dev.onRfe_asc (d : Dev) (r : Radio) (f : Rfe → Rfe) : (d.onRfe r f).asc = d.asc := rfl
@[simp] theorem Dev.onRfe_qar (d : Dev) (r : Radio) (f : Rfe → Rfe) : (d.onRfe r f).qar = d.qar := rfl
@[simp] theorem Dev.onRfe_mp (d : Dev) (r : Radio) (f : Rfe → Rfe) : (d.onRfe r f).mp = d.mp := rfl
@[simp] theorem Dev.onRfe_tmg (d : Dev) (r : Radio) (f : Rfe → Rfe) : (d.onRfe r f).tmg = d.tmg := rfl
@[simp] theorem Dev.onRfe_pke (d : Dev) (r : Radio) (f : Rfe → Rfe) : (d.onRfe r f).pke = d.pke := rfl
@[simp] theorem Dev.onRfe_eth (d : Dev) (r : Radio) (f : Rfe → Rfe) : (d.onRfe r f).eth = d.eth := rfl
@[simp] theorem Dev.onRfe_mem (d : Dev) (r : Radio) (f : Rfe → Rfe) : (d.onRfe r f).mem = d.mem := rfl
@[simp] theorem Dev.onRfe_tmu (d : Dev) (r : Radio) (f : Rfe → Rfe) : (d.onRfe r f).tmu = d.tmu := rfl
@[simp] theorem Dev.onRfe_msh (d : Dev) (r : Radio) (f : Rfe → Rfe) : (d.onRfe r f).msh = d.msh := rfl
@[simp] theorem Dev.onRfe_mgt (d : Dev) (r : Radio) (f : Rfe → Rfe) : (d.onRfe r f).mgt = d.mgt := rfl
@[simp] theorem Dev.onRfe_pmu (d : Dev) (r : Radio) (f : Rfe → Rfe) : (d.onRfe r f).pmu = d.pmu := rfl
@[simp] theorem Dev.onRfe_bst (d : Dev) (r : Radio) (f : Rfe → Rfe) : (d.onRfe r f).bst = d.bst := rfl
@[simp] theorem Dev.onRfe_port (d : Dev) (r : Radio) (f : Rfe → Rfe) : (d.onRfe r f).port = d.port := rfl
@[simp] theorem Dev.onRfe_out (d : Dev) (r : Radio) (f : Rfe → Rfe) : (d.onRfe r f).out = d.out := rfl
@[simp] theorem Dev.onRfe_free (d : Dev) (r : Radio) (f : Rfe → Rfe) : (d.onRfe r f).free = d.free := rfl

/-! onPhy -/
@[simp] theorem Dev.onPhy_regs (d : Dev) (r : Radio) (f : Phy → Phy) : (d.onPhy r f).regs = d.regs := rfl
@[simp] theorem Dev.onPhy_pages (d : Dev) (r : Radio) (f : Phy → Phy) : (d.onPhy r f).pages = d.pages := rfl
@[simp] theorem Dev.onPhy_hci (d : Dev) (r : Radio) (f : Phy → Phy) : (d.onPhy r f).hci = d.hci := rfl
@[simp] theorem Dev.onPhy_rfe (d : Dev) (r : Radio) (f : Phy → Phy) : (d.onPhy r f).rfe = d.rfe := rfl
@[simp] theorem Dev.onPhy_rgl (d : Dev) (r : Radio) (f : Phy → Phy) : (d.onPhy r f).rgl = d.rgl := rfl
@[simp] theorem Dev.onPhy_phy (d : Dev) (r : Radio) (f : Phy → Phy) : (d.onPhy r f).phy = d.phy.set r (f (d.phy.get r)) := rfl
@[simp] theorem Dev.onPhy_mac (d : Dev) (r : Radio) (f : Phy → Phy) : (d.onPhy r f).mac = d.mac := rfl
@[simp] theorem Dev.onPhy_mld (d : Dev) (r : Radio) (f : Phy → Phy) : (d.onPhy r f).mld = d.mld := rfl
@[simp] theorem Dev.onPhy_asc (d : Dev) (r : Radio) (f : Phy → Phy) : (d.onPhy r f).asc = d.asc := rfl
@[simp] theorem Dev.onPhy_qar (d : Dev) (r : Radio) (f : Phy → Phy) : (d.onPhy r f).qar = d.qar := rfl
@[simp] theorem Dev.onPhy_mp (d : Dev) (r : Radio) (f : Phy → Phy) : (d.onPhy r f).mp = d.mp := rfl
@[simp] theorem Dev.onPhy_tmg (d : Dev) (r : Radio) (f : Phy → Phy) : (d.onPhy r f).tmg = d.tmg := rfl
@[simp] theorem Dev.onPhy_pke (d : Dev) (r : Radio) (f : Phy → Phy) : (d.onPhy r f).pke = d.pke := rfl
@[simp] theorem Dev.onPhy_eth (d : Dev) (r : Radio) (f : Phy → Phy) : (d.onPhy r f).eth = d.eth := rfl
@[simp] theorem Dev.onPhy_mem (d : Dev) (r : Radio) (f : Phy → Phy) : (d.onPhy r f).mem = d.mem := rfl
@[simp] theorem Dev.onPhy_tmu (d : Dev) (r : Radio) (f : Phy → Phy) : (d.onPhy r f).tmu = d.tmu := rfl
@[simp] theorem Dev.onPhy_msh (d : Dev) (r : Radio) (f : Phy → Phy) : (d.onPhy r f).msh = d.msh := rfl
@[simp] theorem Dev.onPhy_mgt (d : Dev) (r : Radio) (f : Phy → Phy) : (d.onPhy r f).mgt = d.mgt := rfl
@[simp] theorem Dev.onPhy_pmu (d : Dev) (r : Radio) (f : Phy → Phy) : (d.onPhy r f).pmu = d.pmu := rfl
@[simp] theorem Dev.onPhy_bst (d : Dev) (r : Radio) (f : Phy → Phy) : (d.onPhy r f).bst = d.bst := rfl
@[simp] theorem Dev.onPhy_port (d : Dev) (r : Radio) (f : Phy → Phy) : (d.onPhy r f).port = d.port := rfl
@[simp] theorem Dev.onPhy_out (d : Dev) (r : Radio) (f : Phy → Phy) : (d.onPhy r f).out = d.out := rfl
@[simp] theorem Dev.onPhy_free (d : Dev) (r : Radio) (f : Phy → Phy) : (d.onPhy r f).free = d.free := rfl

/-! onMac -/
@[simp] theorem Dev.onMac_regs (d : Dev) (r : Radio) (f : Mac → Mac) : (d.onMac r f).regs = d.regs := rfl
@[simp] theorem Dev.onMac_pages (d : Dev) (r : Radio) (f : Mac → Mac) : (d.onMac r f).pages = d.pages := rfl
@[simp] theorem Dev.onMac_hci (d : Dev) (r : Radio) (f : Mac → Mac) : (d.onMac r f).hci = d.hci := rfl
@[simp] theorem Dev.onMac_rfe (d : Dev) (r : Radio) (f : Mac → Mac) : (d.onMac r f).rfe = d.rfe := rfl
@[simp] theorem Dev.onMac_rgl (d : Dev) (r : Radio) (f : Mac → Mac) : (d.onMac r f).rgl = d.rgl := rfl
@[simp] theorem Dev.onMac_phy (d : Dev) (r : Radio) (f : Mac → Mac) : (d.onMac r f).phy = d.phy := rfl
@[simp] theorem Dev.onMac_mac (d : Dev) (r : Radio) (f : Mac → Mac) : (d.onMac r f).mac = d.mac.set r (f (d.mac.get r)) := rfl
@[simp] theorem Dev.onMac_mld (d : Dev) (r : Radio) (f : Mac → Mac) : (d.onMac r f).mld = d.mld := rfl
@[simp] theorem Dev.onMac_asc (d : Dev) (r : Radio) (f : Mac → Mac) : (d.onMac r f).asc = d.asc := rfl
@[simp] theorem Dev.onMac_qar (d : Dev) (r : Radio) (f : Mac → Mac) : (d.onMac r f).qar = d.qar := rfl
@[simp] theorem Dev.onMac_mp (d : Dev) (r : Radio) (f : Mac → Mac) : (d.onMac r f).mp = d.mp := rfl
@[simp] theorem Dev.onMac_tmg (d : Dev) (r : Radio) (f : Mac → Mac) : (d.onMac r f).tmg = d.tmg := rfl
@[simp] theorem Dev.onMac_pke (d : Dev) (r : Radio) (f : Mac → Mac) : (d.onMac r f).pke = d.pke := rfl
@[simp] theorem Dev.onMac_eth (d : Dev) (r : Radio) (f : Mac → Mac) : (d.onMac r f).eth = d.eth := rfl
@[simp] theorem Dev.onMac_mem (d : Dev) (r : Radio) (f : Mac → Mac) : (d.onMac r f).mem = d.mem := rfl
@[simp] theorem Dev.onMac_tmu (d : Dev) (r : Radio) (f : Mac → Mac) : (d.onMac r f).tmu = d.tmu := rfl
@[simp] theorem Dev.onMac_msh (d : Dev) (r : Radio) (f : Mac → Mac) : (d.onMac r f).msh = d.msh := rfl
@[simp] theorem Dev.onMac_mgt (d : Dev) (r : Radio) (f : Mac → Mac) : (d.onMac r f).mgt = d.mgt := rfl
@[simp] theorem Dev.onMac_pmu (d : Dev) (r : Radio) (f : Mac → Mac) : (d.onMac r f).pmu = d.pmu := rfl
@[simp] theorem Dev.onMac_bst (d : Dev) (r : Radio) (f : Mac → Mac) : (d.onMac r f).bst = d.bst := rfl
@[simp] theorem Dev.onMac_port (d : Dev) (r : Radio) (f : Mac → Mac) : (d.onMac r f).port = d.port := rfl
@[simp] theorem Dev.onMac_out (d : Dev) (r : Radio) (f : Mac → Mac) : (d.onMac r f).out = d.out := rfl
@[simp] theorem Dev.onMac_free (d : Dev) (r : Radio) (f : Mac → Mac) : (d.onMac r f).free = d.free := rfl

/-! onEth -/
@[simp] theorem Dev.onEth_regs (d : Dev) (n : Nat) (f : EthPort → EthPort) : (d.onEth n f).regs = d.regs := rfl
@[simp] theorem Dev.onEth_pages (d : Dev) (n : Nat) (f : EthPort → EthPort) : (d.onEth n f).pages = d.pages := rfl
@[simp] theorem Dev.onEth_hci (d : Dev) (n : Nat) (f : EthPort → EthPort) : (d.onEth n f).hci = d.hci := rfl
@[simp] theorem Dev.onEth_rfe (d : Dev) (n : Nat) (f : EthPort → EthPort) : (d.onEth n f).rfe = d.rfe := rfl
@[simp] theorem Dev.onEth_rgl (d : Dev) (n : Nat) (f : EthPort → EthPort) : (d.onEth n f).rgl = d.rgl := rfl
@[simp] theorem Dev.onEth_phy (d : Dev) (n : Nat) (f : EthPort → EthPort) : (d.onEth n f).phy = d.phy := rfl
@[simp] theorem Dev.onEth_mac (d : Dev) (n : Nat) (f : EthPort → EthPort) : (d.onEth n f).mac = d.mac := rfl
@[simp] theorem Dev.onEth_mld (d : Dev) (n : Nat) (f : EthPort → EthPort) : (d.onEth n f).mld = d.mld := rfl
@[simp] theorem Dev.onEth_asc (d : Dev) (n : Nat) (f : EthPort → EthPort) : (d.onEth n f).asc = d.asc := rfl
@[simp] theorem Dev.onEth_qar (d : Dev) (n : Nat) (f : EthPort → EthPort) : (d.onEth n f).qar = d.qar := rfl
@[simp] theorem Dev.onEth_mp (d : Dev) (n : Nat) (f : EthPort → EthPort) : (d.onEth n f).mp = d.mp := rfl
@[simp] theorem Dev.onEth_tmg (d : Dev) (n : Nat) (f : EthPort → EthPort) : (d.onEth n f).tmg = d.tmg := rfl
@[simp] theorem Dev.onEth_pke (d : Dev) (n : Nat) (f : EthPort → EthPort) : (d.onEth n f).pke = d.pke := rfl
@[simp] theorem Dev.onEth_eth (d : Dev) (n : Nat) (f : EthPort → EthPort) : (d.onEth n f).eth = tabPut d.eth n (f (d.ethPort n)) := rfl
@[simp] theorem Dev.onEth_mem (d : Dev) (n : Nat) (f : EthPort → EthPort) : (d.onEth n f).mem = d.mem := rfl
@[simp] theorem Dev.onEth_tmu (d : Dev) (n : Nat) (f : EthPort → EthPort) : (d.onEth n f).tmu = d.tmu := rfl
@[simp] theorem Dev.onEth_msh (d : Dev) (n : Nat) (f : EthPort → EthPort) : (d.onEth n f).msh = d.msh := rfl
@[simp] theorem Dev.onEth_mgt (d : Dev) (n : Nat) (f : EthPort → EthPort) : (d.onEth n f).mgt = d.mgt := rfl
@[simp] theorem Dev.onEth_pmu (d : Dev) (n : Nat) (f : EthPort → EthPort) : (d.onEth n f).pmu = d.pmu := rfl
@[simp] theorem Dev.onEth_bst (d : Dev) (n : Nat) (f : EthPort → EthPort) : (d.onEth n f).bst = d.bst := rfl
@[simp] theorem Dev.onEth_port (d : Dev) (n : Nat) (f : EthPort → EthPort) : (d.onEth n f).port = d.port := rfl
@[simp] theorem Dev.onEth_out (d : Dev) (n : Nat) (f : EthPort → EthPort) : (d.onEth n f).out = d.out := rfl
@[simp] theorem Dev.onEth_free (d : Dev) (n : Nat) (f : EthPort → EthPort) : (d.onEth n f).free = d.free := rfl

/-! wr -/
@[simp] theorem Dev.wr_regs (d : Dev) (a : Nat) (v : Word) : (d.wr a v).regs = tabSet (resetVal d.mgt.otp.variant a) d.regs a v := rfl
@[simp] theorem Dev.wr_pages (d : Dev) (a : Nat) (v : Word) : (d.wr a v).pages = d.pages := rfl
@[simp] theorem Dev.wr_hci (d : Dev) (a : Nat) (v : Word) : (d.wr a v).hci = d.hci := rfl
@[simp] theorem Dev.wr_rfe (d : Dev) (a : Nat) (v : Word) : (d.wr a v).rfe = d.rfe := rfl
@[simp] theorem Dev.wr_rgl (d : Dev) (a : Nat) (v : Word) : (d.wr a v).rgl = d.rgl := rfl
@[simp] theorem Dev.wr_phy (d : Dev) (a : Nat) (v : Word) : (d.wr a v).phy = d.phy := rfl
@[simp] theorem Dev.wr_mac (d : Dev) (a : Nat) (v : Word) : (d.wr a v).mac = d.mac := rfl
@[simp] theorem Dev.wr_mld (d : Dev) (a : Nat) (v : Word) : (d.wr a v).mld = d.mld := rfl
@[simp] theorem Dev.wr_asc (d : Dev) (a : Nat) (v : Word) : (d.wr a v).asc = d.asc := rfl
@[simp] theorem Dev.wr_qar (d : Dev) (a : Nat) (v : Word) : (d.wr a v).qar = d.qar := rfl
@[simp] theorem Dev.wr_mp (d : Dev) (a : Nat) (v : Word) : (d.wr a v).mp = d.mp := rfl
@[simp] theorem Dev.wr_tmg (d : Dev) (a : Nat) (v : Word) : (d.wr a v).tmg = d.tmg := rfl
@[simp] theorem Dev.wr_pke (d : Dev) (a : Nat) (v : Word) : (d.wr a v).pke = d.pke := rfl
@[simp] theorem Dev.wr_eth (d : Dev) (a : Nat) (v : Word) : (d.wr a v).eth = d.eth := rfl
@[simp] theorem Dev.wr_mem (d : Dev) (a : Nat) (v : Word) : (d.wr a v).mem = d.mem := rfl
@[simp] theorem Dev.wr_tmu (d : Dev) (a : Nat) (v : Word) : (d.wr a v).tmu = d.tmu := rfl
@[simp] theorem Dev.wr_msh (d : Dev) (a : Nat) (v : Word) : (d.wr a v).msh = d.msh := rfl
@[simp] theorem Dev.wr_mgt (d : Dev) (a : Nat) (v : Word) : (d.wr a v).mgt = d.mgt := rfl
@[simp] theorem Dev.wr_pmu (d : Dev) (a : Nat) (v : Word) : (d.wr a v).pmu = d.pmu := rfl
@[simp] theorem Dev.wr_bst (d : Dev) (a : Nat) (v : Word) : (d.wr a v).bst = d.bst := rfl
@[simp] theorem Dev.wr_port (d : Dev) (a : Nat) (v : Word) : (d.wr a v).port = d.port := rfl
@[simp] theorem Dev.wr_out (d : Dev) (a : Nat) (v : Word) : (d.wr a v).out = d.out := rfl
@[simp] theorem Dev.wr_free (d : Dev) (a : Nat) (v : Word) : (d.wr a v).free = d.free := rfl

/-! setPage -/
@[simp] theorem Dev.setPage_regs (d : Dev) (p : Nat) (g : Page) : (d.setPage p g).regs = d.regs := rfl
@[simp] theorem Dev.setPage_pages (d : Dev) (p : Nat) (g : Page) : (d.setPage p g).pages = tabPut d.pages p g := rfl
@[simp] theorem Dev.setPage_hci (d : Dev) (p : Nat) (g : Page) : (d.setPage p g).hci = d.hci := rfl
@[simp] theorem Dev.setPage_rfe (d : Dev) (p : Nat) (g : Page) : (d.setPage p g).rfe = d.rfe := rfl
@[simp] theorem Dev.setPage_rgl (d : Dev) (p : Nat) (g : Page) : (d.setPage p g).rgl = d.rgl := rfl
@[simp] theorem Dev.setPage_phy (d : Dev) (p : Nat) (g : Page) : (d.setPage p g).phy = d.phy := rfl
@[simp] theorem Dev.setPage_mac (d : Dev) (p : Nat) (g : Page) : (d.setPage p g).mac = d.mac := rfl
@[simp] theorem Dev.setPage_mld (d : Dev) (p : Nat) (g : Page) : (d.setPage p g).mld = d.mld := rfl
@[simp] theorem Dev.setPage_asc (d : Dev) (p : Nat) (g : Page) : (d.setPage p g).asc = d.asc := rfl
@[simp] theorem Dev.setPage_qar (d : Dev) (p : Nat) (g : Page) : (d.setPage p g).qar = d.qar := rfl
@[simp] theorem Dev.setPage_mp (d : Dev) (p : Nat) (g : Page) : (d.setPage p g).mp = d.mp := rfl
@[simp] theorem Dev.setPage_tmg (d : Dev) (p : Nat) (g : Page) : (d.setPage p g).tmg = d.tmg := rfl
@[simp] theorem Dev.setPage_pke (d : Dev) (p : Nat) (g : Page) : (d.setPage p g).pke = d.pke := rfl
@[simp] theorem Dev.setPage_eth (d : Dev) (p : Nat) (g : Page) : (d.setPage p g).eth = d.eth := rfl
@[simp] theorem Dev.setPage_mem (d : Dev) (p : Nat) (g : Page) : (d.setPage p g).mem = d.mem := rfl
@[simp] theorem Dev.setPage_tmu (d : Dev) (p : Nat) (g : Page) : (d.setPage p g).tmu = d.tmu := rfl
@[simp] theorem Dev.setPage_msh (d : Dev) (p : Nat) (g : Page) : (d.setPage p g).msh = d.msh := rfl
@[simp] theorem Dev.setPage_mgt (d : Dev) (p : Nat) (g : Page) : (d.setPage p g).mgt = d.mgt := rfl
@[simp] theorem Dev.setPage_pmu (d : Dev) (p : Nat) (g : Page) : (d.setPage p g).pmu = d.pmu := rfl
@[simp] theorem Dev.setPage_bst (d : Dev) (p : Nat) (g : Page) : (d.setPage p g).bst = d.bst := rfl
@[simp] theorem Dev.setPage_port (d : Dev) (p : Nat) (g : Page) : (d.setPage p g).port = d.port := rfl
@[simp] theorem Dev.setPage_out (d : Dev) (p : Nat) (g : Page) : (d.setPage p g).out = d.out := rfl
@[simp] theorem Dev.setPage_free (d : Dev) (p : Nat) (g : Page) : (d.setPage p g).free = d.free := rfl

/-! setBlk -/
@[simp] theorem Dev.setBlk_regs (d : Dev) (b : Blk) (g : Page) : (d.setBlk b g).regs = d.regs := rfl
@[simp] theorem Dev.setBlk_pages (d : Dev) (b : Blk) (g : Page) : (d.setBlk b g).pages = tabPut d.pages (blkPage b) g := rfl
@[simp] theorem Dev.setBlk_hci (d : Dev) (b : Blk) (g : Page) : (d.setBlk b g).hci = d.hci := rfl
@[simp] theorem Dev.setBlk_rfe (d : Dev) (b : Blk) (g : Page) : (d.setBlk b g).rfe = d.rfe := rfl
@[simp] theorem Dev.setBlk_rgl (d : Dev) (b : Blk) (g : Page) : (d.setBlk b g).rgl = d.rgl := rfl
@[simp] theorem Dev.setBlk_phy (d : Dev) (b : Blk) (g : Page) : (d.setBlk b g).phy = d.phy := rfl
@[simp] theorem Dev.setBlk_mac (d : Dev) (b : Blk) (g : Page) : (d.setBlk b g).mac = d.mac := rfl
@[simp] theorem Dev.setBlk_mld (d : Dev) (b : Blk) (g : Page) : (d.setBlk b g).mld = d.mld := rfl
@[simp] theorem Dev.setBlk_asc (d : Dev) (b : Blk) (g : Page) : (d.setBlk b g).asc = d.asc := rfl
@[simp] theorem Dev.setBlk_qar (d : Dev) (b : Blk) (g : Page) : (d.setBlk b g).qar = d.qar := rfl
@[simp] theorem Dev.setBlk_mp (d : Dev) (b : Blk) (g : Page) : (d.setBlk b g).mp = d.mp := rfl
@[simp] theorem Dev.setBlk_tmg (d : Dev) (b : Blk) (g : Page) : (d.setBlk b g).tmg = d.tmg := rfl
@[simp] theorem Dev.setBlk_pke (d : Dev) (b : Blk) (g : Page) : (d.setBlk b g).pke = d.pke := rfl
@[simp] theorem Dev.setBlk_eth (d : Dev) (b : Blk) (g : Page) : (d.setBlk b g).eth = d.eth := rfl
@[simp] theorem Dev.setBlk_mem (d : Dev) (b : Blk) (g : Page) : (d.setBlk b g).mem = d.mem := rfl
@[simp] theorem Dev.setBlk_tmu (d : Dev) (b : Blk) (g : Page) : (d.setBlk b g).tmu = d.tmu := rfl
@[simp] theorem Dev.setBlk_msh (d : Dev) (b : Blk) (g : Page) : (d.setBlk b g).msh = d.msh := rfl
@[simp] theorem Dev.setBlk_mgt (d : Dev) (b : Blk) (g : Page) : (d.setBlk b g).mgt = d.mgt := rfl
@[simp] theorem Dev.setBlk_pmu (d : Dev) (b : Blk) (g : Page) : (d.setBlk b g).pmu = d.pmu := rfl
@[simp] theorem Dev.setBlk_bst (d : Dev) (b : Blk) (g : Page) : (d.setBlk b g).bst = d.bst := rfl
@[simp] theorem Dev.setBlk_port (d : Dev) (b : Blk) (g : Page) : (d.setBlk b g).port = d.port := rfl
@[simp] theorem Dev.setBlk_out (d : Dev) (b : Blk) (g : Page) : (d.setBlk b g).out = d.out := rfl
@[simp] theorem Dev.setBlk_free (d : Dev) (b : Blk) (g : Page) : (d.setBlk b g).free = d.free := rfl

/-! setRing -/
@[simp] theorem Dev.setRing_regs (d : Dev) (n : Nat) (r : Ring) : (d.setRing n r).regs = d.regs := rfl
@[simp] theorem Dev.setRing_pages (d : Dev) (n : Nat) (r : Ring) : (d.setRing n r).pages = d.pages := rfl
@[simp] theorem Dev.setRing_hci (d : Dev) (n : Nat) (r : Ring) : (d.setRing n r).hci = { d.hci with rings := tabPut d.hci.rings n r } := rfl
@[simp] theorem Dev.setRing_rfe (d : Dev) (n : Nat) (r : Ring) : (d.setRing n r).rfe = d.rfe := rfl
@[simp] theorem Dev.setRing_rgl (d : Dev) (n : Nat) (r : Ring) : (d.setRing n r).rgl = d.rgl := rfl
@[simp] theorem Dev.setRing_phy (d : Dev) (n : Nat) (r : Ring) : (d.setRing n r).phy = d.phy := rfl
@[simp] theorem Dev.setRing_mac (d : Dev) (n : Nat) (r : Ring) : (d.setRing n r).mac = d.mac := rfl
@[simp] theorem Dev.setRing_mld (d : Dev) (n : Nat) (r : Ring) : (d.setRing n r).mld = d.mld := rfl
@[simp] theorem Dev.setRing_asc (d : Dev) (n : Nat) (r : Ring) : (d.setRing n r).asc = d.asc := rfl
@[simp] theorem Dev.setRing_qar (d : Dev) (n : Nat) (r : Ring) : (d.setRing n r).qar = d.qar := rfl
@[simp] theorem Dev.setRing_mp (d : Dev) (n : Nat) (r : Ring) : (d.setRing n r).mp = d.mp := rfl
@[simp] theorem Dev.setRing_tmg (d : Dev) (n : Nat) (r : Ring) : (d.setRing n r).tmg = d.tmg := rfl
@[simp] theorem Dev.setRing_pke (d : Dev) (n : Nat) (r : Ring) : (d.setRing n r).pke = d.pke := rfl
@[simp] theorem Dev.setRing_eth (d : Dev) (n : Nat) (r : Ring) : (d.setRing n r).eth = d.eth := rfl
@[simp] theorem Dev.setRing_mem (d : Dev) (n : Nat) (r : Ring) : (d.setRing n r).mem = d.mem := rfl
@[simp] theorem Dev.setRing_tmu (d : Dev) (n : Nat) (r : Ring) : (d.setRing n r).tmu = d.tmu := rfl
@[simp] theorem Dev.setRing_msh (d : Dev) (n : Nat) (r : Ring) : (d.setRing n r).msh = d.msh := rfl
@[simp] theorem Dev.setRing_mgt (d : Dev) (n : Nat) (r : Ring) : (d.setRing n r).mgt = d.mgt := rfl
@[simp] theorem Dev.setRing_pmu (d : Dev) (n : Nat) (r : Ring) : (d.setRing n r).pmu = d.pmu := rfl
@[simp] theorem Dev.setRing_bst (d : Dev) (n : Nat) (r : Ring) : (d.setRing n r).bst = d.bst := rfl
@[simp] theorem Dev.setRing_port (d : Dev) (n : Nat) (r : Ring) : (d.setRing n r).port = d.port := rfl
@[simp] theorem Dev.setRing_out (d : Dev) (n : Nat) (r : Ring) : (d.setRing n r).out = d.out := rfl
@[simp] theorem Dev.setRing_free (d : Dev) (n : Nat) (r : Ring) : (d.setRing n r).free = d.free := rfl

/-! emit -/
@[simp] theorem Dev.emit_regs (d : Dev) (o : Out) : (d.emit o).regs = d.regs := rfl
@[simp] theorem Dev.emit_pages (d : Dev) (o : Out) : (d.emit o).pages = d.pages := rfl
@[simp] theorem Dev.emit_hci (d : Dev) (o : Out) : (d.emit o).hci = d.hci := rfl
@[simp] theorem Dev.emit_rfe (d : Dev) (o : Out) : (d.emit o).rfe = d.rfe := rfl
@[simp] theorem Dev.emit_rgl (d : Dev) (o : Out) : (d.emit o).rgl = d.rgl := rfl
@[simp] theorem Dev.emit_phy (d : Dev) (o : Out) : (d.emit o).phy = d.phy := rfl
@[simp] theorem Dev.emit_mac (d : Dev) (o : Out) : (d.emit o).mac = d.mac := rfl
@[simp] theorem Dev.emit_mld (d : Dev) (o : Out) : (d.emit o).mld = d.mld := rfl
@[simp] theorem Dev.emit_asc (d : Dev) (o : Out) : (d.emit o).asc = d.asc := rfl
@[simp] theorem Dev.emit_qar (d : Dev) (o : Out) : (d.emit o).qar = d.qar := rfl
@[simp] theorem Dev.emit_mp (d : Dev) (o : Out) : (d.emit o).mp = d.mp := rfl
@[simp] theorem Dev.emit_tmg (d : Dev) (o : Out) : (d.emit o).tmg = d.tmg := rfl
@[simp] theorem Dev.emit_pke (d : Dev) (o : Out) : (d.emit o).pke = d.pke := rfl
@[simp] theorem Dev.emit_eth (d : Dev) (o : Out) : (d.emit o).eth = d.eth := rfl
@[simp] theorem Dev.emit_mem (d : Dev) (o : Out) : (d.emit o).mem = d.mem := rfl
@[simp] theorem Dev.emit_tmu (d : Dev) (o : Out) : (d.emit o).tmu = d.tmu := rfl
@[simp] theorem Dev.emit_msh (d : Dev) (o : Out) : (d.emit o).msh = d.msh := rfl
@[simp] theorem Dev.emit_mgt (d : Dev) (o : Out) : (d.emit o).mgt = d.mgt := rfl
@[simp] theorem Dev.emit_pmu (d : Dev) (o : Out) : (d.emit o).pmu = d.pmu := rfl
@[simp] theorem Dev.emit_bst (d : Dev) (o : Out) : (d.emit o).bst = d.bst := rfl
@[simp] theorem Dev.emit_port (d : Dev) (o : Out) : (d.emit o).port = d.port := rfl
@[simp] theorem Dev.emit_out (d : Dev) (o : Out) : (d.emit o).out = o :: d.out := rfl
@[simp] theorem Dev.emit_free (d : Dev) (o : Out) : (d.emit o).free = d.free := rfl

/-! took -/
@[simp] theorem Dev.took_regs (d : Dev)  : (d.took).regs = d.regs := rfl
@[simp] theorem Dev.took_pages (d : Dev)  : (d.took).pages = d.pages := rfl
@[simp] theorem Dev.took_hci (d : Dev)  : (d.took).hci = d.hci := rfl
@[simp] theorem Dev.took_rfe (d : Dev)  : (d.took).rfe = d.rfe := rfl
@[simp] theorem Dev.took_rgl (d : Dev)  : (d.took).rgl = d.rgl := rfl
@[simp] theorem Dev.took_phy (d : Dev)  : (d.took).phy = d.phy := rfl
@[simp] theorem Dev.took_mac (d : Dev)  : (d.took).mac = d.mac := rfl
@[simp] theorem Dev.took_mld (d : Dev)  : (d.took).mld = d.mld := rfl
@[simp] theorem Dev.took_asc (d : Dev)  : (d.took).asc = d.asc := rfl
@[simp] theorem Dev.took_qar (d : Dev)  : (d.took).qar = d.qar := rfl
@[simp] theorem Dev.took_mp (d : Dev)  : (d.took).mp = d.mp := rfl
@[simp] theorem Dev.took_tmg (d : Dev)  : (d.took).tmg = d.tmg := rfl
@[simp] theorem Dev.took_pke (d : Dev)  : (d.took).pke = d.pke := rfl
@[simp] theorem Dev.took_eth (d : Dev)  : (d.took).eth = d.eth := rfl
@[simp] theorem Dev.took_mem (d : Dev)  : (d.took).mem = d.mem := rfl
@[simp] theorem Dev.took_tmu (d : Dev)  : (d.took).tmu = d.tmu := rfl
@[simp] theorem Dev.took_msh (d : Dev)  : (d.took).msh = d.msh := rfl
@[simp] theorem Dev.took_mgt (d : Dev)  : (d.took).mgt = d.mgt := rfl
@[simp] theorem Dev.took_pmu (d : Dev)  : (d.took).pmu = d.pmu := rfl
@[simp] theorem Dev.took_bst (d : Dev)  : (d.took).bst = d.bst := rfl
@[simp] theorem Dev.took_port (d : Dev)  : (d.took).port = d.port := rfl
@[simp] theorem Dev.took_out (d : Dev)  : (d.took).out = d.out := rfl
@[simp] theorem Dev.took_free (d : Dev)  : (d.took).free = d.free + 1 := rfl

/-! at_ -/
@[simp] theorem Dev.at__regs (d : Dev) (t : Nat) : (d.at_ t).regs = d.regs := rfl
@[simp] theorem Dev.at__pages (d : Dev) (t : Nat) : (d.at_ t).pages = d.pages := rfl
@[simp] theorem Dev.at__hci (d : Dev) (t : Nat) : (d.at_ t).hci = d.hci := rfl
@[simp] theorem Dev.at__rfe (d : Dev) (t : Nat) : (d.at_ t).rfe = d.rfe := rfl
@[simp] theorem Dev.at__rgl (d : Dev) (t : Nat) : (d.at_ t).rgl = d.rgl := rfl
@[simp] theorem Dev.at__phy (d : Dev) (t : Nat) : (d.at_ t).phy = d.phy := rfl
@[simp] theorem Dev.at__mac (d : Dev) (t : Nat) : (d.at_ t).mac = d.mac := rfl
@[simp] theorem Dev.at__mld (d : Dev) (t : Nat) : (d.at_ t).mld = d.mld := rfl
@[simp] theorem Dev.at__asc (d : Dev) (t : Nat) : (d.at_ t).asc = d.asc := rfl
@[simp] theorem Dev.at__qar (d : Dev) (t : Nat) : (d.at_ t).qar = d.qar := rfl
@[simp] theorem Dev.at__mp (d : Dev) (t : Nat) : (d.at_ t).mp = d.mp := rfl
@[simp] theorem Dev.at__tmg (d : Dev) (t : Nat) : (d.at_ t).tmg = d.tmg := rfl
@[simp] theorem Dev.at__pke (d : Dev) (t : Nat) : (d.at_ t).pke = d.pke := rfl
@[simp] theorem Dev.at__eth (d : Dev) (t : Nat) : (d.at_ t).eth = d.eth := rfl
@[simp] theorem Dev.at__mem (d : Dev) (t : Nat) : (d.at_ t).mem = d.mem := rfl
@[simp] theorem Dev.at__tmu (d : Dev) (t : Nat) : (d.at_ t).tmu = d.tmu.run (t - d.tmu.tb) := rfl
@[simp] theorem Dev.at__msh (d : Dev) (t : Nat) : (d.at_ t).msh = d.msh := rfl
@[simp] theorem Dev.at__mgt (d : Dev) (t : Nat) : (d.at_ t).mgt = d.mgt := rfl
@[simp] theorem Dev.at__pmu (d : Dev) (t : Nat) : (d.at_ t).pmu = d.pmu := rfl
@[simp] theorem Dev.at__bst (d : Dev) (t : Nat) : (d.at_ t).bst = d.bst := rfl
@[simp] theorem Dev.at__port (d : Dev) (t : Nat) : (d.at_ t).port = d.port := rfl
@[simp] theorem Dev.at__out (d : Dev) (t : Nat) : (d.at_ t).out = d.out := rfl
@[simp] theorem Dev.at__free (d : Dev) (t : Nat) : (d.at_ t).free = d.free := rfl

end Sys2Proof.Machine
end

