-- ==== Sys2Proof/Laws/Watch.lean ====
section
/-! SUPPORT. What sending a reply and answering the open WATCHes can change: the host control interface and what the device has put
out, and nothing else (spec/02 R37, R46, R52). -/

namespace Sys2Proof.Machine

theorem Dev.hciOnly_refl (d : Dev) : d.hciOnly d := rfl

theorem Dev.hciOnly_trans {a b c : Dev} (h1 : a.hciOnly b) (h2 : b.hciOnly c) : a.hciOnly c := by
  unfold Dev.hciOnly at *
  rw [h1] at h2
  exact h2

theorem Dev.emit_hciOnly (d : Dev) (o : Out) : d.hciOnly (d.emit o) := rfl
theorem Dev.setRing_hciOnly (d : Dev) (n : Nat) (r : Ring) : d.hciOnly (d.setRing n r) := rfl

theorem Dev.msix_hciOnly (d : Dev) (v : Nat) : d.hciOnly (d.msix v) := by
  unfold Dev.msix; split <;> rfl

theorem Dev.ringWrite_hciOnly (d : Dev) (n : Nat) (ws : List Word) (at_ : Nat) (p : List Word) : d.hciOnly (d.ringWrite n ws at_ p) :=
  Dev.hciOnly_trans (Dev.hciOnly_trans (d.emit_hciOnly _) (Dev.setRing_hciOnly _ _ _)) (Dev.msix_hciOnly _ _)

theorem Dev.ringPut_hciOnly (d : Dev) (n : Nat) (ws : List Word) (at_ : Nat) (p : List Word) : d.hciOnly (d.ringPut n ws at_ p) := by
  unfold Dev.ringPut
  simp only
  split
  · exact d.hciOnly_refl
  · split
    · exact d.setRing_hciOnly _ _
    · exact d.ringWrite_hciOnly _ _ _ _

theorem Dev.acpSend_hciOnly (d : Dev) (id : Nat) (a : Acp) (rs : List Reply) : d.hciOnly (d.acpSend id a rs) := rfl

theorem Dev.acpKeep_hciOnly (d : Dev) (id : Nat) (r : Reply) : d.hciOnly (d.acpKeep id r) := by
  unfold Dev.acpKeep; split <;> rfl

theorem Dev.deliver_hciOnly (d : Dev) (src : Src) (addr : Option Nat) (r : Reply) : d.hciOnly (d.deliver src addr r) := by
  cases src with
  | pcie n => cases addr <;> exact d.ringPut_hciOnly _ _ _ _
  | spi => rfl
  | acp id =>
    unfold Dev.deliver
    simp only
    split
    · rfl
    · exact Dev.hciOnly_trans (d.acpSend_hciOnly _ _ _) (Dev.acpKeep_hciOnly _ _ _)
  | mp => rfl

theorem Dev.acpSendAll_hciOnly (id : Nat) (gs : List (List Reply)) (d : Dev) :
    d.hciOnly (gs.foldl (fun d g => match tabFind d.hci.acp id with
      | some a => d.acpSend id a g
      | none => d) d) := by
  induction gs generalizing d with
  | nil => exact d.hciOnly_refl
  | cons g gs ih =>
    refine Dev.hciOnly_trans ?_ (ih _)
    simp only
    split
    · exact d.acpSend_hciOnly _ _ _
    · exact d.hciOnly_refl

theorem Dev.acpFlush_hciOnly (d : Dev) (id : Nat) : d.hciOnly (d.acpFlush id) := by
  unfold Dev.acpFlush
  split
  · split
    · refine Dev.hciOnly_trans ?_ (Dev.acpSendAll_hciOnly id _ _)
      rfl
    · rfl
  · rfl

theorem Dev.respond_hciOnly (d : Dev) (rq : Rq) (r : Reply) : d.hciOnly (d.respond rq r) := by
  unfold Dev.respond
  split
  · unfold Dev.acpReply
    split
    · refine Dev.hciOnly_trans ?_ (Dev.hciOnly_trans (Dev.acpKeep_hciOnly _ _ _) (Dev.acpFlush_hciOnly _ _))
      rfl
    · rfl
  · exact d.deliver_hciOnly _ _ _

theorem Dev.setWatch_hciOnly (d : Dev) (src : Src) (w : Option Watch) : d.hciOnly (d.setWatch src w) := by
  cases src with
  | acp id => unfold Dev.setWatch; simp only; split <;> rfl
  | _ => rfl

theorem Dev.answerWatch_hciOnly (d : Dev) (src : Src) (det : Nat) : d.hciOnly (d.answerWatch src det) := by
  unfold Dev.answerWatch
  split
  · rfl
  · exact Dev.hciOnly_trans (d.setWatch_hciOnly _ _) (Dev.deliver_hciOnly _ _ _ _)

/-- What answering one session's WATCH does, as answerWatches does it. -/
def Dev.watchStep (d : Dev) (src : Src) : Dev :=
  match d.watchOf src with
  | some w => if w.seen ≠ d.hci.attnSeq then d.answerWatch src 0 else d
  | none => d

theorem Dev.answerWatches_eq (d : Dev) : d.answerWatches = d.sessions.foldl Dev.watchStep d := rfl

theorem Dev.watchStep_hciOnly (d : Dev) (src : Src) : d.hciOnly (d.watchStep src) := by
  unfold Dev.watchStep
  split
  · split
    · exact d.answerWatch_hciOnly _ _
    · rfl
  · rfl

theorem Dev.watchFold_hciOnly (l : List Src) (d : Dev) : d.hciOnly (l.foldl Dev.watchStep d) := by
  induction l generalizing d with
  | nil => rfl
  | cons a l ih => exact Dev.hciOnly_trans (d.watchStep_hciOnly a) (ih _)

theorem Dev.answerWatches_hciOnly (d : Dev) : d.hciOnly d.answerWatches := d.watchFold_hciOnly _

/-! ATTN_SEQ stays while replies are sent -/

theorem Dev.msix_attnSeq (d : Dev) (v : Nat) : (d.msix v).hci.attnSeq = d.hci.attnSeq := by
  unfold Dev.msix; split <;> rfl

theorem Dev.ringPut_attnSeq (d : Dev) (n : Nat) (ws : List Word) (at_ : Nat) (p : List Word) : (d.ringPut n ws at_ p).hci.attnSeq = d.hci.attnSeq := by
  unfold Dev.ringPut
  simp only
  split
  · rfl
  · split
    · rfl
    · unfold Dev.ringWrite
      exact Dev.msix_attnSeq _ _

theorem Dev.deliver_attnSeq (d : Dev) (src : Src) (addr : Option Nat) (r : Reply) : (d.deliver src addr r).hci.attnSeq = d.hci.attnSeq := by
  cases src with
  | pcie n => cases addr <;> exact d.ringPut_attnSeq _ _ _ _
  | spi => rfl
  | acp id =>
    simp only [Dev.deliver]
    split
    · rfl
    · unfold Dev.acpKeep
      split <;> rfl
  | mp => rfl

theorem Dev.answerWatch_attnSeq (d : Dev) (src : Src) (det : Nat) : (d.answerWatch src det).hci.attnSeq = d.hci.attnSeq := by
  unfold Dev.answerWatch
  split
  · rfl
  · rw [Dev.deliver_attnSeq]
    cases src <;> try rfl
    simp only [Dev.setWatch]
    split <;> rfl

@[simp] theorem Dev.answerWatches_attnSeq (d : Dev) : d.answerWatches.hci.attnSeq = d.hci.attnSeq := by
  rw [Dev.answerWatches_eq]
  generalize d.sessions = l
  induction l generalizing d with
  | nil => rfl
  | cons a l ih =>
    rw [List.foldl_cons, ih]
    unfold Dev.watchStep
    split
    · split
      · exact d.answerWatch_attnSeq _ _
      · rfl
    · rfl

/-! The fields, one by one -/

theorem Dev.hciOnly_regs {d d' : Dev} (h : d.hciOnly d') : d'.regs = d.regs := by rw [h]
theorem Dev.hciOnly_pages {d d' : Dev} (h : d.hciOnly d') : d'.pages = d.pages := by rw [h]
theorem Dev.hciOnly_rfe {d d' : Dev} (h : d.hciOnly d') : d'.rfe = d.rfe := by rw [h]
theorem Dev.hciOnly_rgl {d d' : Dev} (h : d.hciOnly d') : d'.rgl = d.rgl := by rw [h]
theorem Dev.hciOnly_phy {d d' : Dev} (h : d.hciOnly d') : d'.phy = d.phy := by rw [h]
theorem Dev.hciOnly_mac {d d' : Dev} (h : d.hciOnly d') : d'.mac = d.mac := by rw [h]
theorem Dev.hciOnly_mld {d d' : Dev} (h : d.hciOnly d') : d'.mld = d.mld := by rw [h]
theorem Dev.hciOnly_asc {d d' : Dev} (h : d.hciOnly d') : d'.asc = d.asc := by rw [h]
theorem Dev.hciOnly_qar {d d' : Dev} (h : d.hciOnly d') : d'.qar = d.qar := by rw [h]
theorem Dev.hciOnly_mp {d d' : Dev} (h : d.hciOnly d') : d'.mp = d.mp := by rw [h]
theorem Dev.hciOnly_tmg {d d' : Dev} (h : d.hciOnly d') : d'.tmg = d.tmg := by rw [h]
theorem Dev.hciOnly_pke {d d' : Dev} (h : d.hciOnly d') : d'.pke = d.pke := by rw [h]
theorem Dev.hciOnly_eth {d d' : Dev} (h : d.hciOnly d') : d'.eth = d.eth := by rw [h]
theorem Dev.hciOnly_mem {d d' : Dev} (h : d.hciOnly d') : d'.mem = d.mem := by rw [h]
theorem Dev.hciOnly_tmu {d d' : Dev} (h : d.hciOnly d') : d'.tmu = d.tmu := by rw [h]
theorem Dev.hciOnly_msh {d d' : Dev} (h : d.hciOnly d') : d'.msh = d.msh := by rw [h]
theorem Dev.hciOnly_mgt {d d' : Dev} (h : d.hciOnly d') : d'.mgt = d.mgt := by rw [h]
theorem Dev.hciOnly_pmu {d d' : Dev} (h : d.hciOnly d') : d'.pmu = d.pmu := by rw [h]
theorem Dev.hciOnly_bst {d d' : Dev} (h : d.hciOnly d') : d'.bst = d.bst := by rw [h]
theorem Dev.hciOnly_port {d d' : Dev} (h : d.hciOnly d') : d'.port = d.port := by rw [h]
theorem Dev.hciOnly_free {d d' : Dev} (h : d.hciOnly d') : d'.free = d.free := by rw [h]

@[simp] theorem Dev.answerWatches_regs (d : Dev) : d.answerWatches.regs = d.regs := Dev.hciOnly_regs d.answerWatches_hciOnly
@[simp] theorem Dev.answerWatches_pages (d : Dev) : d.answerWatches.pages = d.pages := Dev.hciOnly_pages d.answerWatches_hciOnly
@[simp] theorem Dev.answerWatches_rfe (d : Dev) : d.answerWatches.rfe = d.rfe := Dev.hciOnly_rfe d.answerWatches_hciOnly
@[simp] theorem Dev.answerWatches_rgl (d : Dev) : d.answerWatches.rgl = d.rgl := Dev.hciOnly_rgl d.answerWatches_hciOnly
@[simp] theorem Dev.answerWatches_phy (d : Dev) : d.answerWatches.phy = d.phy := Dev.hciOnly_phy d.answerWatches_hciOnly
@[simp] theorem Dev.answerWatches_mac (d : Dev) : d.answerWatches.mac = d.mac := Dev.hciOnly_mac d.answerWatches_hciOnly
@[simp] theorem Dev.answerWatches_mld (d : Dev) : d.answerWatches.mld = d.mld := Dev.hciOnly_mld d.answerWatches_hciOnly
@[simp] theorem Dev.answerWatches_asc (d : Dev) : d.answerWatches.asc = d.asc := Dev.hciOnly_asc d.answerWatches_hciOnly
@[simp] theorem Dev.answerWatches_qar (d : Dev) : d.answerWatches.qar = d.qar := Dev.hciOnly_qar d.answerWatches_hciOnly
@[simp] theorem Dev.answerWatches_mp (d : Dev) : d.answerWatches.mp = d.mp := Dev.hciOnly_mp d.answerWatches_hciOnly
@[simp] theorem Dev.answerWatches_tmg (d : Dev) : d.answerWatches.tmg = d.tmg := Dev.hciOnly_tmg d.answerWatches_hciOnly
@[simp] theorem Dev.answerWatches_pke (d : Dev) : d.answerWatches.pke = d.pke := Dev.hciOnly_pke d.answerWatches_hciOnly
@[simp] theorem Dev.answerWatches_eth (d : Dev) : d.answerWatches.eth = d.eth := Dev.hciOnly_eth d.answerWatches_hciOnly
@[simp] theorem Dev.answerWatches_mem (d : Dev) : d.answerWatches.mem = d.mem := Dev.hciOnly_mem d.answerWatches_hciOnly
@[simp] theorem Dev.answerWatches_tmu (d : Dev) : d.answerWatches.tmu = d.tmu := Dev.hciOnly_tmu d.answerWatches_hciOnly
@[simp] theorem Dev.answerWatches_msh (d : Dev) : d.answerWatches.msh = d.msh := Dev.hciOnly_msh d.answerWatches_hciOnly
@[simp] theorem Dev.answerWatches_mgt (d : Dev) : d.answerWatches.mgt = d.mgt := Dev.hciOnly_mgt d.answerWatches_hciOnly
@[simp] theorem Dev.answerWatches_pmu (d : Dev) : d.answerWatches.pmu = d.pmu := Dev.hciOnly_pmu d.answerWatches_hciOnly
@[simp] theorem Dev.answerWatches_bst (d : Dev) : d.answerWatches.bst = d.bst := Dev.hciOnly_bst d.answerWatches_hciOnly
@[simp] theorem Dev.answerWatches_port (d : Dev) : d.answerWatches.port = d.port := Dev.hciOnly_port d.answerWatches_hciOnly
@[simp] theorem Dev.answerWatches_free (d : Dev) : d.answerWatches.free = d.free := Dev.hciOnly_free d.answerWatches_hciOnly

@[simp] theorem Dev.deliver_regs (d : Dev) (src : Src) (addr : Option Nat) (r : Reply) : (d.deliver src addr r).regs = d.regs :=
  Dev.hciOnly_regs (d.deliver_hciOnly src addr r)
@[simp] theorem Dev.deliver_pages (d : Dev) (src : Src) (addr : Option Nat) (r : Reply) : (d.deliver src addr r).pages = d.pages :=
  Dev.hciOnly_pages (d.deliver_hciOnly src addr r)
@[simp] theorem Dev.deliver_rfe (d : Dev) (src : Src) (addr : Option Nat) (r : Reply) : (d.deliver src addr r).rfe = d.rfe :=
  Dev.hciOnly_rfe (d.deliver_hciOnly src addr r)
@[simp] theorem Dev.deliver_rgl (d : Dev) (src : Src) (addr : Option Nat) (r : Reply) : (d.deliver src addr r).rgl = d.rgl :=
  Dev.hciOnly_rgl (d.deliver_hciOnly src addr r)
@[simp] theorem Dev.deliver_phy (d : Dev) (src : Src) (addr : Option Nat) (r : Reply) : (d.deliver src addr r).phy = d.phy :=
  Dev.hciOnly_phy (d.deliver_hciOnly src addr r)
@[simp] theorem Dev.deliver_mac (d : Dev) (src : Src) (addr : Option Nat) (r : Reply) : (d.deliver src addr r).mac = d.mac :=
  Dev.hciOnly_mac (d.deliver_hciOnly src addr r)
@[simp] theorem Dev.deliver_mld (d : Dev) (src : Src) (addr : Option Nat) (r : Reply) : (d.deliver src addr r).mld = d.mld :=
  Dev.hciOnly_mld (d.deliver_hciOnly src addr r)
@[simp] theorem Dev.deliver_asc (d : Dev) (src : Src) (addr : Option Nat) (r : Reply) : (d.deliver src addr r).asc = d.asc :=
  Dev.hciOnly_asc (d.deliver_hciOnly src addr r)
@[simp] theorem Dev.deliver_qar (d : Dev) (src : Src) (addr : Option Nat) (r : Reply) : (d.deliver src addr r).qar = d.qar :=
  Dev.hciOnly_qar (d.deliver_hciOnly src addr r)
@[simp] theorem Dev.deliver_mp (d : Dev) (src : Src) (addr : Option Nat) (r : Reply) : (d.deliver src addr r).mp = d.mp :=
  Dev.hciOnly_mp (d.deliver_hciOnly src addr r)
@[simp] theorem Dev.deliver_tmg (d : Dev) (src : Src) (addr : Option Nat) (r : Reply) : (d.deliver src addr r).tmg = d.tmg :=
  Dev.hciOnly_tmg (d.deliver_hciOnly src addr r)
@[simp] theorem Dev.deliver_pke (d : Dev) (src : Src) (addr : Option Nat) (r : Reply) : (d.deliver src addr r).pke = d.pke :=
  Dev.hciOnly_pke (d.deliver_hciOnly src addr r)
@[simp] theorem Dev.deliver_eth (d : Dev) (src : Src) (addr : Option Nat) (r : Reply) : (d.deliver src addr r).eth = d.eth :=
  Dev.hciOnly_eth (d.deliver_hciOnly src addr r)
@[simp] theorem Dev.deliver_mem (d : Dev) (src : Src) (addr : Option Nat) (r : Reply) : (d.deliver src addr r).mem = d.mem :=
  Dev.hciOnly_mem (d.deliver_hciOnly src addr r)
@[simp] theorem Dev.deliver_tmu (d : Dev) (src : Src) (addr : Option Nat) (r : Reply) : (d.deliver src addr r).tmu = d.tmu :=
  Dev.hciOnly_tmu (d.deliver_hciOnly src addr r)
@[simp] theorem Dev.deliver_msh (d : Dev) (src : Src) (addr : Option Nat) (r : Reply) : (d.deliver src addr r).msh = d.msh :=
  Dev.hciOnly_msh (d.deliver_hciOnly src addr r)
@[simp] theorem Dev.deliver_mgt (d : Dev) (src : Src) (addr : Option Nat) (r : Reply) : (d.deliver src addr r).mgt = d.mgt :=
  Dev.hciOnly_mgt (d.deliver_hciOnly src addr r)
@[simp] theorem Dev.deliver_pmu (d : Dev) (src : Src) (addr : Option Nat) (r : Reply) : (d.deliver src addr r).pmu = d.pmu :=
  Dev.hciOnly_pmu (d.deliver_hciOnly src addr r)
@[simp] theorem Dev.deliver_bst (d : Dev) (src : Src) (addr : Option Nat) (r : Reply) : (d.deliver src addr r).bst = d.bst :=
  Dev.hciOnly_bst (d.deliver_hciOnly src addr r)
@[simp] theorem Dev.deliver_port (d : Dev) (src : Src) (addr : Option Nat) (r : Reply) : (d.deliver src addr r).port = d.port :=
  Dev.hciOnly_port (d.deliver_hciOnly src addr r)
@[simp] theorem Dev.deliver_free (d : Dev) (src : Src) (addr : Option Nat) (r : Reply) : (d.deliver src addr r).free = d.free :=
  Dev.hciOnly_free (d.deliver_hciOnly src addr r)

end Sys2Proof.Machine
end

