-- ==== Sys2Proof/Laws/Frame.lean ====
section
/-! SUPPORT. What counters, MP events, the Blotter and the attention causes can change: the registers, the page headers, the host
control interface, the management block, the MP, the power state and the output; every other part of the device is as before. -/

namespace Sys2Proof.Machine

/-- `d'` differs from `d` in the parts that attention reaches only. -/
def Dev.hubOnly (d d' : Dev) : Prop :=
  d' = { d with regs := d'.regs, pages := d'.pages, hci := d'.hci, mp := d'.mp, mgt := d'.mgt, pmu := d'.pmu, out := d'.out }

theorem Dev.hubOnly_refl (d : Dev) : d.hubOnly d := rfl

theorem Dev.hubOnly_trans {a b c : Dev} (h1 : a.hubOnly b) (h2 : b.hubOnly c) : a.hubOnly c := by
  unfold Dev.hubOnly at *
  rw [h1] at h2
  exact h2

theorem Dev.hubOnly_of_hciOnly {a b : Dev} (h : a.hciOnly b) : a.hubOnly b := by
  unfold Dev.hubOnly
  rw [h]

theorem Dev.hubOnly_fold {β : Type} (f : Dev → β → Dev) (hf : ∀ d b, Dev.hubOnly d (f d b)) (l : List β) (d : Dev) :
    d.hubOnly (l.foldl f d) := by
  induction l generalizing d with
  | nil => exact d.hubOnly_refl
  | cons b l ih => exact Dev.hubOnly_trans (hf d b) (ih _)

theorem Dev.countN_eq (d : Dev) (a n : Nat) : d.countN a n = { d with regs := (d.countN a n).regs } := by
  unfold Dev.countN
  split
  · rfl
  · split
    · rfl
    · split <;> rfl

theorem Dev.event_eq (d : Dev) (i : Nat) :
    d.event i = { d with regs := (d.event i).regs, mp := (d.event i).mp, pmu := (d.event i).pmu } := by
  unfold Dev.event
  simp only
  split <;> rfl

theorem Dev.bltKick_eq (d : Dev) (due : Bool) : d.bltKick due = { d with mgt := (d.bltKick due).mgt } := by
  unfold Dev.bltKick
  simp only
  repeat' split
  all_goals rfl

/-- `d'` differs from `d` in the registers and the management block only. -/
def Dev.bltOnly (d d' : Dev) : Prop := d' = { d with regs := d'.regs, mgt := d'.mgt }

theorem Dev.bltOnly_trans {a b c : Dev} (h1 : a.bltOnly b) (h2 : b.bltOnly c) : a.bltOnly c := by
  unfold Dev.bltOnly at *
  rw [h1] at h2
  exact h2

theorem Dev.bltOnly_bltKick (d : Dev) (due : Bool) : d.bltOnly (d.bltKick due) := by
  unfold Dev.bltOnly; rw [Dev.bltKick_eq]

theorem Dev.bltOnly_blotter (d : Dev) (p c k : Nat) (args : List Word) : d.bltOnly (d.blotter p c k args) := by
  unfold Dev.blotter
  simp only
  split
  · refine Dev.bltOnly_trans (b := { d with mgt := _ }) rfl ?_
    unfold Dev.bltOnly Dev.count
    rw [Dev.countN_eq]
  · refine Dev.bltOnly_trans ?_ (Dev.bltOnly_bltKick _ _)
    cases d.mgt.dropped <;> cases d.mgt.uncommitted.isEmpty <;> simp [Dev.bltOnly, Dev.bltStore]

theorem Dev.blotter_eq (d : Dev) (p c k : Nat) (args : List Word) :
    d.blotter p c k args = { d with regs := (d.blotter p c k args).regs, mgt := (d.blotter p c k args).mgt } :=
  d.bltOnly_blotter p c k args

theorem Dev.countN_hub (d : Dev) (a n : Nat) : d.hubOnly (d.countN a n) := by
  unfold Dev.hubOnly; rw [Dev.countN_eq]
theorem Dev.event_hub (d : Dev) (i : Nat) : d.hubOnly (d.event i) := by
  unfold Dev.hubOnly; rw [Dev.event_eq]
theorem Dev.bltKick_hub (d : Dev) (due : Bool) : d.hubOnly (d.bltKick due) := by
  unfold Dev.hubOnly; rw [Dev.bltKick_eq]
theorem Dev.blotter_hub (d : Dev) (p c k : Nat) (args : List Word) : d.hubOnly (d.blotter p c k args) := by
  unfold Dev.hubOnly; rw [Dev.blotter_eq]

theorem Dev.attnLog_blt (d : Dev) (p : Nat) (g : Page) (e : Word) : d.bltOnly (d.attnLog p g e) := by
  unfold Dev.attnLog
  generalize bitList e 32 = l
  induction l generalizing d with
  | nil => rfl
  | cons a l ih =>
    simp only [List.foldl_cons]
    refine Dev.bltOnly_trans ?_ (ih _)
    split
    · exact Dev.bltOnly_blotter _ _ _ _ _
    · rfl

theorem Dev.attnSet_hub (d : Dev) (p : Nat) (cause mask : Word) : d.hubOnly (d.attnSet p cause mask) := by
  unfold Dev.attnSet
  simp only
  split
  · rfl
  · refine Dev.hubOnly_trans ?_ (Dev.hubOnly_of_hciOnly (Dev.answerWatches_hciOnly _))
    refine Dev.hubOnly_trans ?_ (Dev.event_hub _ _)
    have h := Dev.attnLog_blt ((d.setPage p { d.page p with cause := cause, mask := mask }).attnStep
      (popCount (({ d.page p with cause := cause, mask := mask } : Page).pend &&& ~~~ (d.page p).pend)
        + popCount ((d.page p).pend &&& ~~~ ({ d.page p with cause := cause, mask := mask } : Page).pend))) p
      { d.page p with cause := cause, mask := mask } (({ d.page p with cause := cause, mask := mask } : Page).pend &&& ~~~ (d.page p).pend)
    unfold Dev.bltOnly at h
    unfold Dev.hubOnly
    rw [h]
    rfl

theorem Dev.raise_hub (d : Dev) (b : Blk) (i : Nat) : d.hubOnly (d.raise b i) := Dev.attnSet_hub _ _ _ _
theorem Dev.lower_hub (d : Dev) (b : Blk) (i : Nat) : d.hubOnly (d.lower b i) := Dev.attnSet_hub _ _ _ _
theorem Dev.follow_hub (d : Dev) (b : Blk) (i : Nat) (on : Bool) : d.hubOnly (d.follow b i on) := by
  unfold Dev.follow
  cases on
  · simp only [Bool.false_eq_true, if_false]
    split
    · exact Dev.lower_hub d b i
    · exact d.hubOnly_refl
  · simp only [if_true]
    split
    · exact d.hubOnly_refl
    · exact Dev.raise_hub d b i

theorem Dev.hwWake_eq (d : Dev) (b : Blk) : d.hwWake b = { d with pages := (d.hwWake b).pages } := by
  unfold Dev.hwWake
  simp only
  split <;> rfl

theorem Dev.wakeBlk_eq (d : Dev) (b : Blk) : d.wakeBlk b = { d with pages := (d.wakeBlk b).pages } := by
  unfold Dev.wakeBlk
  simp only
  repeat' split
  all_goals rfl

theorem Dev.hubOnly_rfe {d d' : Dev} (h : d.hubOnly d') : d'.rfe = d.rfe := by rw [h]
theorem Dev.hubOnly_rgl {d d' : Dev} (h : d.hubOnly d') : d'.rgl = d.rgl := by rw [h]
theorem Dev.hubOnly_phy {d d' : Dev} (h : d.hubOnly d') : d'.phy = d.phy := by rw [h]
theorem Dev.hubOnly_mac {d d' : Dev} (h : d.hubOnly d') : d'.mac = d.mac := by rw [h]
theorem Dev.hubOnly_mld {d d' : Dev} (h : d.hubOnly d') : d'.mld = d.mld := by rw [h]
theorem Dev.hubOnly_asc {d d' : Dev} (h : d.hubOnly d') : d'.asc = d.asc := by rw [h]
theorem Dev.hubOnly_qar {d d' : Dev} (h : d.hubOnly d') : d'.qar = d.qar := by rw [h]
theorem Dev.hubOnly_tmg {d d' : Dev} (h : d.hubOnly d') : d'.tmg = d.tmg := by rw [h]
theorem Dev.hubOnly_pke {d d' : Dev} (h : d.hubOnly d') : d'.pke = d.pke := by rw [h]
theorem Dev.hubOnly_eth {d d' : Dev} (h : d.hubOnly d') : d'.eth = d.eth := by rw [h]
theorem Dev.hubOnly_mem {d d' : Dev} (h : d.hubOnly d') : d'.mem = d.mem := by rw [h]
theorem Dev.hubOnly_tmu {d d' : Dev} (h : d.hubOnly d') : d'.tmu = d.tmu := by rw [h]
theorem Dev.hubOnly_msh {d d' : Dev} (h : d.hubOnly d') : d'.msh = d.msh := by rw [h]
theorem Dev.hubOnly_bst {d d' : Dev} (h : d.hubOnly d') : d'.bst = d.bst := by rw [h]
theorem Dev.hubOnly_port {d d' : Dev} (h : d.hubOnly d') : d'.port = d.port := by rw [h]
theorem Dev.hubOnly_free {d d' : Dev} (h : d.hubOnly d') : d'.free = d.free := by rw [h]

/-! attnSet -/
@[simp] theorem Dev.attnSet_rfe (d : Dev) (p : Nat) (c m : Word) : (d.attnSet p c m).rfe = d.rfe := Dev.hubOnly_rfe (Dev.attnSet_hub d p c m)
@[simp] theorem Dev.attnSet_rgl (d : Dev) (p : Nat) (c m : Word) : (d.attnSet p c m).rgl = d.rgl := Dev.hubOnly_rgl (Dev.attnSet_hub d p c m)
@[simp] theorem Dev.attnSet_phy (d : Dev) (p : Nat) (c m : Word) : (d.attnSet p c m).phy = d.phy := Dev.hubOnly_phy (Dev.attnSet_hub d p c m)
@[simp] theorem Dev.attnSet_mac (d : Dev) (p : Nat) (c m : Word) : (d.attnSet p c m).mac = d.mac := Dev.hubOnly_mac (Dev.attnSet_hub d p c m)
@[simp] theorem Dev.attnSet_mld (d : Dev) (p : Nat) (c m : Word) : (d.attnSet p c m).mld = d.mld := Dev.hubOnly_mld (Dev.attnSet_hub d p c m)
@[simp] theorem Dev.attnSet_asc (d : Dev) (p : Nat) (c m : Word) : (d.attnSet p c m).asc = d.asc := Dev.hubOnly_asc (Dev.attnSet_hub d p c m)
@[simp] theorem Dev.attnSet_qar (d : Dev) (p : Nat) (c m : Word) : (d.attnSet p c m).qar = d.qar := Dev.hubOnly_qar (Dev.attnSet_hub d p c m)
@[simp] theorem Dev.attnSet_tmg (d : Dev) (p : Nat) (c m : Word) : (d.attnSet p c m).tmg = d.tmg := Dev.hubOnly_tmg (Dev.attnSet_hub d p c m)
@[simp] theorem Dev.attnSet_pke (d : Dev) (p : Nat) (c m : Word) : (d.attnSet p c m).pke = d.pke := Dev.hubOnly_pke (Dev.attnSet_hub d p c m)
@[simp] theorem Dev.attnSet_eth (d : Dev) (p : Nat) (c m : Word) : (d.attnSet p c m).eth = d.eth := Dev.hubOnly_eth (Dev.attnSet_hub d p c m)
@[simp] theorem Dev.attnSet_mem (d : Dev) (p : Nat) (c m : Word) : (d.attnSet p c m).mem = d.mem := Dev.hubOnly_mem (Dev.attnSet_hub d p c m)
@[simp] theorem Dev.attnSet_tmu (d : Dev) (p : Nat) (c m : Word) : (d.attnSet p c m).tmu = d.tmu := Dev.hubOnly_tmu (Dev.attnSet_hub d p c m)
@[simp] theorem Dev.attnSet_msh (d : Dev) (p : Nat) (c m : Word) : (d.attnSet p c m).msh = d.msh := Dev.hubOnly_msh (Dev.attnSet_hub d p c m)
@[simp] theorem Dev.attnSet_bst (d : Dev) (p : Nat) (c m : Word) : (d.attnSet p c m).bst = d.bst := Dev.hubOnly_bst (Dev.attnSet_hub d p c m)
@[simp] theorem Dev.attnSet_port (d : Dev) (p : Nat) (c m : Word) : (d.attnSet p c m).port = d.port := Dev.hubOnly_port (Dev.attnSet_hub d p c m)
@[simp] theorem Dev.attnSet_free (d : Dev) (p : Nat) (c m : Word) : (d.attnSet p c m).free = d.free := Dev.hubOnly_free (Dev.attnSet_hub d p c m)

/-! raise -/
@[simp] theorem Dev.raise_rfe (d : Dev) (b : Blk) (i : Nat) : (d.raise b i).rfe = d.rfe := Dev.hubOnly_rfe (Dev.raise_hub d b i)
@[simp] theorem Dev.raise_rgl (d : Dev) (b : Blk) (i : Nat) : (d.raise b i).rgl = d.rgl := Dev.hubOnly_rgl (Dev.raise_hub d b i)
@[simp] theorem Dev.raise_phy (d : Dev) (b : Blk) (i : Nat) : (d.raise b i).phy = d.phy := Dev.hubOnly_phy (Dev.raise_hub d b i)
@[simp] theorem Dev.raise_mac (d : Dev) (b : Blk) (i : Nat) : (d.raise b i).mac = d.mac := Dev.hubOnly_mac (Dev.raise_hub d b i)
@[simp] theorem Dev.raise_mld (d : Dev) (b : Blk) (i : Nat) : (d.raise b i).mld = d.mld := Dev.hubOnly_mld (Dev.raise_hub d b i)
@[simp] theorem Dev.raise_asc (d : Dev) (b : Blk) (i : Nat) : (d.raise b i).asc = d.asc := Dev.hubOnly_asc (Dev.raise_hub d b i)
@[simp] theorem Dev.raise_qar (d : Dev) (b : Blk) (i : Nat) : (d.raise b i).qar = d.qar := Dev.hubOnly_qar (Dev.raise_hub d b i)
@[simp] theorem Dev.raise_tmg (d : Dev) (b : Blk) (i : Nat) : (d.raise b i).tmg = d.tmg := Dev.hubOnly_tmg (Dev.raise_hub d b i)
@[simp] theorem Dev.raise_pke (d : Dev) (b : Blk) (i : Nat) : (d.raise b i).pke = d.pke := Dev.hubOnly_pke (Dev.raise_hub d b i)
@[simp] theorem Dev.raise_eth (d : Dev) (b : Blk) (i : Nat) : (d.raise b i).eth = d.eth := Dev.hubOnly_eth (Dev.raise_hub d b i)
@[simp] theorem Dev.raise_mem (d : Dev) (b : Blk) (i : Nat) : (d.raise b i).mem = d.mem := Dev.hubOnly_mem (Dev.raise_hub d b i)
@[simp] theorem Dev.raise_tmu (d : Dev) (b : Blk) (i : Nat) : (d.raise b i).tmu = d.tmu := Dev.hubOnly_tmu (Dev.raise_hub d b i)
@[simp] theorem Dev.raise_msh (d : Dev) (b : Blk) (i : Nat) : (d.raise b i).msh = d.msh := Dev.hubOnly_msh (Dev.raise_hub d b i)
@[simp] theorem Dev.raise_bst (d : Dev) (b : Blk) (i : Nat) : (d.raise b i).bst = d.bst := Dev.hubOnly_bst (Dev.raise_hub d b i)
@[simp] theorem Dev.raise_port (d : Dev) (b : Blk) (i : Nat) : (d.raise b i).port = d.port := Dev.hubOnly_port (Dev.raise_hub d b i)
@[simp] theorem Dev.raise_free (d : Dev) (b : Blk) (i : Nat) : (d.raise b i).free = d.free := Dev.hubOnly_free (Dev.raise_hub d b i)

/-! lower -/
@[simp] theorem Dev.lower_rfe (d : Dev) (b : Blk) (i : Nat) : (d.lower b i).rfe = d.rfe := Dev.hubOnly_rfe (Dev.lower_hub d b i)
@[simp] theorem Dev.lower_rgl (d : Dev) (b : Blk) (i : Nat) : (d.lower b i).rgl = d.rgl := Dev.hubOnly_rgl (Dev.lower_hub d b i)
@[simp] theorem Dev.lower_phy (d : Dev) (b : Blk) (i : Nat) : (d.lower b i).phy = d.phy := Dev.hubOnly_phy (Dev.lower_hub d b i)
@[simp] theorem Dev.lower_mac (d : Dev) (b : Blk) (i : Nat) : (d.lower b i).mac = d.mac := Dev.hubOnly_mac (Dev.lower_hub d b i)
@[simp] theorem Dev.lower_mld (d : Dev) (b : Blk) (i : Nat) : (d.lower b i).mld = d.mld := Dev.hubOnly_mld (Dev.lower_hub d b i)
@[simp] theorem Dev.lower_asc (d : Dev) (b : Blk) (i : Nat) : (d.lower b i).asc = d.asc := Dev.hubOnly_asc (Dev.lower_hub d b i)
@[simp] theorem Dev.lower_qar (d : Dev) (b : Blk) (i : Nat) : (d.lower b i).qar = d.qar := Dev.hubOnly_qar (Dev.lower_hub d b i)
@[simp] theorem Dev.lower_tmg (d : Dev) (b : Blk) (i : Nat) : (d.lower b i).tmg = d.tmg := Dev.hubOnly_tmg (Dev.lower_hub d b i)
@[simp] theorem Dev.lower_pke (d : Dev) (b : Blk) (i : Nat) : (d.lower b i).pke = d.pke := Dev.hubOnly_pke (Dev.lower_hub d b i)
@[simp] theorem Dev.lower_eth (d : Dev) (b : Blk) (i : Nat) : (d.lower b i).eth = d.eth := Dev.hubOnly_eth (Dev.lower_hub d b i)
@[simp] theorem Dev.lower_mem (d : Dev) (b : Blk) (i : Nat) : (d.lower b i).mem = d.mem := Dev.hubOnly_mem (Dev.lower_hub d b i)
@[simp] theorem Dev.lower_tmu (d : Dev) (b : Blk) (i : Nat) : (d.lower b i).tmu = d.tmu := Dev.hubOnly_tmu (Dev.lower_hub d b i)
@[simp] theorem Dev.lower_msh (d : Dev) (b : Blk) (i : Nat) : (d.lower b i).msh = d.msh := Dev.hubOnly_msh (Dev.lower_hub d b i)
@[simp] theorem Dev.lower_bst (d : Dev) (b : Blk) (i : Nat) : (d.lower b i).bst = d.bst := Dev.hubOnly_bst (Dev.lower_hub d b i)
@[simp] theorem Dev.lower_port (d : Dev) (b : Blk) (i : Nat) : (d.lower b i).port = d.port := Dev.hubOnly_port (Dev.lower_hub d b i)
@[simp] theorem Dev.lower_free (d : Dev) (b : Blk) (i : Nat) : (d.lower b i).free = d.free := Dev.hubOnly_free (Dev.lower_hub d b i)

/-! follow -/
@[simp] theorem Dev.follow_rfe (d : Dev) (b : Blk) (i : Nat) (on : Bool) : (d.follow b i on).rfe = d.rfe := Dev.hubOnly_rfe (Dev.follow_hub d b i on)
@[simp] theorem Dev.follow_rgl (d : Dev) (b : Blk) (i : Nat) (on : Bool) : (d.follow b i on).rgl = d.rgl := Dev.hubOnly_rgl (Dev.follow_hub d b i on)
@[simp] theorem Dev.follow_phy (d : Dev) (b : Blk) (i : Nat) (on : Bool) : (d.follow b i on).phy = d.phy := Dev.hubOnly_phy (Dev.follow_hub d b i on)
@[simp] theorem Dev.follow_mac (d : Dev) (b : Blk) (i : Nat) (on : Bool) : (d.follow b i on).mac = d.mac := Dev.hubOnly_mac (Dev.follow_hub d b i on)
@[simp] theorem Dev.follow_mld (d : Dev) (b : Blk) (i : Nat) (on : Bool) : (d.follow b i on).mld = d.mld := Dev.hubOnly_mld (Dev.follow_hub d b i on)
@[simp] theorem Dev.follow_asc (d : Dev) (b : Blk) (i : Nat) (on : Bool) : (d.follow b i on).asc = d.asc := Dev.hubOnly_asc (Dev.follow_hub d b i on)
@[simp] theorem Dev.follow_qar (d : Dev) (b : Blk) (i : Nat) (on : Bool) : (d.follow b i on).qar = d.qar := Dev.hubOnly_qar (Dev.follow_hub d b i on)
@[simp] theorem Dev.follow_tmg (d : Dev) (b : Blk) (i : Nat) (on : Bool) : (d.follow b i on).tmg = d.tmg := Dev.hubOnly_tmg (Dev.follow_hub d b i on)
@[simp] theorem Dev.follow_pke (d : Dev) (b : Blk) (i : Nat) (on : Bool) : (d.follow b i on).pke = d.pke := Dev.hubOnly_pke (Dev.follow_hub d b i on)
@[simp] theorem Dev.follow_eth (d : Dev) (b : Blk) (i : Nat) (on : Bool) : (d.follow b i on).eth = d.eth := Dev.hubOnly_eth (Dev.follow_hub d b i on)
@[simp] theorem Dev.follow_mem (d : Dev) (b : Blk) (i : Nat) (on : Bool) : (d.follow b i on).mem = d.mem := Dev.hubOnly_mem (Dev.follow_hub d b i on)
@[simp] theorem Dev.follow_tmu (d : Dev) (b : Blk) (i : Nat) (on : Bool) : (d.follow b i on).tmu = d.tmu := Dev.hubOnly_tmu (Dev.follow_hub d b i on)
@[simp] theorem Dev.follow_msh (d : Dev) (b : Blk) (i : Nat) (on : Bool) : (d.follow b i on).msh = d.msh := Dev.hubOnly_msh (Dev.follow_hub d b i on)
@[simp] theorem Dev.follow_bst (d : Dev) (b : Blk) (i : Nat) (on : Bool) : (d.follow b i on).bst = d.bst := Dev.hubOnly_bst (Dev.follow_hub d b i on)
@[simp] theorem Dev.follow_port (d : Dev) (b : Blk) (i : Nat) (on : Bool) : (d.follow b i on).port = d.port := Dev.hubOnly_port (Dev.follow_hub d b i on)
@[simp] theorem Dev.follow_free (d : Dev) (b : Blk) (i : Nat) (on : Bool) : (d.follow b i on).free = d.free := Dev.hubOnly_free (Dev.follow_hub d b i on)

/-! countN -/
@[simp] theorem Dev.countN_pages (d : Dev) (a n : Nat) : (d.countN a n).pages = d.pages := by rw [Dev.countN_eq]
@[simp] theorem Dev.countN_hci (d : Dev) (a n : Nat) : (d.countN a n).hci = d.hci := by rw [Dev.countN_eq]
@[simp] theorem Dev.countN_mp (d : Dev) (a n : Nat) : (d.countN a n).mp = d.mp := by rw [Dev.countN_eq]
@[simp] theorem Dev.countN_mgt (d : Dev) (a n : Nat) : (d.countN a n).mgt = d.mgt := by rw [Dev.countN_eq]
@[simp] theorem Dev.countN_pmu (d : Dev) (a n : Nat) : (d.countN a n).pmu = d.pmu := by rw [Dev.countN_eq]
@[simp] theorem Dev.countN_out (d : Dev) (a n : Nat) : (d.countN a n).out = d.out := by rw [Dev.countN_eq]
@[simp] theorem Dev.countN_rfe (d : Dev) (a n : Nat) : (d.countN a n).rfe = d.rfe := by rw [Dev.countN_eq]
@[simp] theorem Dev.countN_rgl (d : Dev) (a n : Nat) : (d.countN a n).rgl = d.rgl := by rw [Dev.countN_eq]
@[simp] theorem Dev.countN_phy (d : Dev) (a n : Nat) : (d.countN a n).phy = d.phy := by rw [Dev.countN_eq]
@[simp] theorem Dev.countN_mac (d : Dev) (a n : Nat) : (d.countN a n).mac = d.mac := by rw [Dev.countN_eq]
@[simp] theorem Dev.countN_mld (d : Dev) (a n : Nat) : (d.countN a n).mld = d.mld := by rw [Dev.countN_eq]
@[simp] theorem Dev.countN_asc (d : Dev) (a n : Nat) : (d.countN a n).asc = d.asc := by rw [Dev.countN_eq]
@[simp] theorem Dev.countN_qar (d : Dev) (a n : Nat) : (d.countN a n).qar = d.qar := by rw [Dev.countN_eq]
@[simp] theorem Dev.countN_tmg (d : Dev) (a n : Nat) : (d.countN a n).tmg = d.tmg := by rw [Dev.countN_eq]
@[simp] theorem Dev.countN_pke (d : Dev) (a n : Nat) : (d.countN a n).pke = d.pke := by rw [Dev.countN_eq]
@[simp] theorem Dev.countN_eth (d : Dev) (a n : Nat) : (d.countN a n).eth = d.eth := by rw [Dev.countN_eq]
@[simp] theorem Dev.countN_mem (d : Dev) (a n : Nat) : (d.countN a n).mem = d.mem := by rw [Dev.countN_eq]
@[simp] theorem Dev.countN_tmu (d : Dev) (a n : Nat) : (d.countN a n).tmu = d.tmu := by rw [Dev.countN_eq]
@[simp] theorem Dev.countN_msh (d : Dev) (a n : Nat) : (d.countN a n).msh = d.msh := by rw [Dev.countN_eq]
@[simp] theorem Dev.countN_bst (d : Dev) (a n : Nat) : (d.countN a n).bst = d.bst := by rw [Dev.countN_eq]
@[simp] theorem Dev.countN_port (d : Dev) (a n : Nat) : (d.countN a n).port = d.port := by rw [Dev.countN_eq]
@[simp] theorem Dev.countN_free (d : Dev) (a n : Nat) : (d.countN a n).free = d.free := by rw [Dev.countN_eq]

/-! event -/
@[simp] theorem Dev.event_pages (d : Dev) (i : Nat) : (d.event i).pages = d.pages := by rw [Dev.event_eq]
@[simp] theorem Dev.event_hci (d : Dev) (i : Nat) : (d.event i).hci = d.hci := by rw [Dev.event_eq]
@[simp] theorem Dev.event_mgt (d : Dev) (i : Nat) : (d.event i).mgt = d.mgt := by rw [Dev.event_eq]
@[simp] theorem Dev.event_out (d : Dev) (i : Nat) : (d.event i).out = d.out := by rw [Dev.event_eq]
@[simp] theorem Dev.event_rfe (d : Dev) (i : Nat) : (d.event i).rfe = d.rfe := by rw [Dev.event_eq]
@[simp] theorem Dev.event_rgl (d : Dev) (i : Nat) : (d.event i).rgl = d.rgl := by rw [Dev.event_eq]
@[simp] theorem Dev.event_phy (d : Dev) (i : Nat) : (d.event i).phy = d.phy := by rw [Dev.event_eq]
@[simp] theorem Dev.event_mac (d : Dev) (i : Nat) : (d.event i).mac = d.mac := by rw [Dev.event_eq]
@[simp] theorem Dev.event_mld (d : Dev) (i : Nat) : (d.event i).mld = d.mld := by rw [Dev.event_eq]
@[simp] theorem Dev.event_asc (d : Dev) (i : Nat) : (d.event i).asc = d.asc := by rw [Dev.event_eq]
@[simp] theorem Dev.event_qar (d : Dev) (i : Nat) : (d.event i).qar = d.qar := by rw [Dev.event_eq]
@[simp] theorem Dev.event_tmg (d : Dev) (i : Nat) : (d.event i).tmg = d.tmg := by rw [Dev.event_eq]
@[simp] theorem Dev.event_pke (d : Dev) (i : Nat) : (d.event i).pke = d.pke := by rw [Dev.event_eq]
@[simp] theorem Dev.event_eth (d : Dev) (i : Nat) : (d.event i).eth = d.eth := by rw [Dev.event_eq]
@[simp] theorem Dev.event_mem (d : Dev) (i : Nat) : (d.event i).mem = d.mem := by rw [Dev.event_eq]
@[simp] theorem Dev.event_tmu (d : Dev) (i : Nat) : (d.event i).tmu = d.tmu := by rw [Dev.event_eq]
@[simp] theorem Dev.event_msh (d : Dev) (i : Nat) : (d.event i).msh = d.msh := by rw [Dev.event_eq]
@[simp] theorem Dev.event_bst (d : Dev) (i : Nat) : (d.event i).bst = d.bst := by rw [Dev.event_eq]
@[simp] theorem Dev.event_port (d : Dev) (i : Nat) : (d.event i).port = d.port := by rw [Dev.event_eq]
@[simp] theorem Dev.event_free (d : Dev) (i : Nat) : (d.event i).free = d.free := by rw [Dev.event_eq]

/-! bltKick -/
@[simp] theorem Dev.bltKick_regs (d : Dev) (due : Bool) : (d.bltKick due).regs = d.regs := by rw [Dev.bltKick_eq]
@[simp] theorem Dev.bltKick_pages (d : Dev) (due : Bool) : (d.bltKick due).pages = d.pages := by rw [Dev.bltKick_eq]
@[simp] theorem Dev.bltKick_hci (d : Dev) (due : Bool) : (d.bltKick due).hci = d.hci := by rw [Dev.bltKick_eq]
@[simp] theorem Dev.bltKick_mp (d : Dev) (due : Bool) : (d.bltKick due).mp = d.mp := by rw [Dev.bltKick_eq]
@[simp] theorem Dev.bltKick_pmu (d : Dev) (due : Bool) : (d.bltKick due).pmu = d.pmu := by rw [Dev.bltKick_eq]
@[simp] theorem Dev.bltKick_out (d : Dev) (due : Bool) : (d.bltKick due).out = d.out := by rw [Dev.bltKick_eq]
@[simp] theorem Dev.bltKick_rfe (d : Dev) (due : Bool) : (d.bltKick due).rfe = d.rfe := by rw [Dev.bltKick_eq]
@[simp] theorem Dev.bltKick_rgl (d : Dev) (due : Bool) : (d.bltKick due).rgl = d.rgl := by rw [Dev.bltKick_eq]
@[simp] theorem Dev.bltKick_phy (d : Dev) (due : Bool) : (d.bltKick due).phy = d.phy := by rw [Dev.bltKick_eq]
@[simp] theorem Dev.bltKick_mac (d : Dev) (due : Bool) : (d.bltKick due).mac = d.mac := by rw [Dev.bltKick_eq]
@[simp] theorem Dev.bltKick_mld (d : Dev) (due : Bool) : (d.bltKick due).mld = d.mld := by rw [Dev.bltKick_eq]
@[simp] theorem Dev.bltKick_asc (d : Dev) (due : Bool) : (d.bltKick due).asc = d.asc := by rw [Dev.bltKick_eq]
@[simp] theorem Dev.bltKick_qar (d : Dev) (due : Bool) : (d.bltKick due).qar = d.qar := by rw [Dev.bltKick_eq]
@[simp] theorem Dev.bltKick_tmg (d : Dev) (due : Bool) : (d.bltKick due).tmg = d.tmg := by rw [Dev.bltKick_eq]
@[simp] theorem Dev.bltKick_pke (d : Dev) (due : Bool) : (d.bltKick due).pke = d.pke := by rw [Dev.bltKick_eq]
@[simp] theorem Dev.bltKick_eth (d : Dev) (due : Bool) : (d.bltKick due).eth = d.eth := by rw [Dev.bltKick_eq]
@[simp] theorem Dev.bltKick_mem (d : Dev) (due : Bool) : (d.bltKick due).mem = d.mem := by rw [Dev.bltKick_eq]
@[simp] theorem Dev.bltKick_tmu (d : Dev) (due : Bool) : (d.bltKick due).tmu = d.tmu := by rw [Dev.bltKick_eq]
@[simp] theorem Dev.bltKick_msh (d : Dev) (due : Bool) : (d.bltKick due).msh = d.msh := by rw [Dev.bltKick_eq]
@[simp] theorem Dev.bltKick_bst (d : Dev) (due : Bool) : (d.bltKick due).bst = d.bst := by rw [Dev.bltKick_eq]
@[simp] theorem Dev.bltKick_port (d : Dev) (due : Bool) : (d.bltKick due).port = d.port := by rw [Dev.bltKick_eq]
@[simp] theorem Dev.bltKick_free (d : Dev) (due : Bool) : (d.bltKick due).free = d.free := by rw [Dev.bltKick_eq]

/-! blotter -/
@[simp] theorem Dev.blotter_pages (d : Dev) (p c k : Nat) (args : List Word) : (d.blotter p c k args).pages = d.pages := by rw [Dev.blotter_eq]
@[simp] theorem Dev.blotter_hci (d : Dev) (p c k : Nat) (args : List Word) : (d.blotter p c k args).hci = d.hci := by rw [Dev.blotter_eq]
@[simp] theorem Dev.blotter_mp (d : Dev) (p c k : Nat) (args : List Word) : (d.blotter p c k args).mp = d.mp := by rw [Dev.blotter_eq]
@[simp] theorem Dev.blotter_pmu (d : Dev) (p c k : Nat) (args : List Word) : (d.blotter p c k args).pmu = d.pmu := by rw [Dev.blotter_eq]
@[simp] theorem Dev.blotter_out (d : Dev) (p c k : Nat) (args : List Word) : (d.blotter p c k args).out = d.out := by rw [Dev.blotter_eq]
@[simp] theorem Dev.blotter_rfe (d : Dev) (p c k : Nat) (args : List Word) : (d.blotter p c k args).rfe = d.rfe := by rw [Dev.blotter_eq]
@[simp] theorem Dev.blotter_rgl (d : Dev) (p c k : Nat) (args : List Word) : (d.blotter p c k args).rgl = d.rgl := by rw [Dev.blotter_eq]
@[simp] theorem Dev.blotter_phy (d : Dev) (p c k : Nat) (args : List Word) : (d.blotter p c k args).phy = d.phy := by rw [Dev.blotter_eq]
@[simp] theorem Dev.blotter_mac (d : Dev) (p c k : Nat) (args : List Word) : (d.blotter p c k args).mac = d.mac := by rw [Dev.blotter_eq]
@[simp] theorem Dev.blotter_mld (d : Dev) (p c k : Nat) (args : List Word) : (d.blotter p c k args).mld = d.mld := by rw [Dev.blotter_eq]
@[simp] theorem Dev.blotter_asc (d : Dev) (p c k : Nat) (args : List Word) : (d.blotter p c k args).asc = d.asc := by rw [Dev.blotter_eq]
@[simp] theorem Dev.blotter_qar (d : Dev) (p c k : Nat) (args : List Word) : (d.blotter p c k args).qar = d.qar := by rw [Dev.blotter_eq]
@[simp] theorem Dev.blotter_tmg (d : Dev) (p c k : Nat) (args : List Word) : (d.blotter p c k args).tmg = d.tmg := by rw [Dev.blotter_eq]
@[simp] theorem Dev.blotter_pke (d : Dev) (p c k : Nat) (args : List Word) : (d.blotter p c k args).pke = d.pke := by rw [Dev.blotter_eq]
@[simp] theorem Dev.blotter_eth (d : Dev) (p c k : Nat) (args : List Word) : (d.blotter p c k args).eth = d.eth := by rw [Dev.blotter_eq]
@[simp] theorem Dev.blotter_mem (d : Dev) (p c k : Nat) (args : List Word) : (d.blotter p c k args).mem = d.mem := by rw [Dev.blotter_eq]
@[simp] theorem Dev.blotter_tmu (d : Dev) (p c k : Nat) (args : List Word) : (d.blotter p c k args).tmu = d.tmu := by rw [Dev.blotter_eq]
@[simp] theorem Dev.blotter_msh (d : Dev) (p c k : Nat) (args : List Word) : (d.blotter p c k args).msh = d.msh := by rw [Dev.blotter_eq]
@[simp] theorem Dev.blotter_bst (d : Dev) (p c k : Nat) (args : List Word) : (d.blotter p c k args).bst = d.bst := by rw [Dev.blotter_eq]
@[simp] theorem Dev.blotter_port (d : Dev) (p c k : Nat) (args : List Word) : (d.blotter p c k args).port = d.port := by rw [Dev.blotter_eq]
@[simp] theorem Dev.blotter_free (d : Dev) (p c k : Nat) (args : List Word) : (d.blotter p c k args).free = d.free := by rw [Dev.blotter_eq]

/-! attnLog -/
@[simp] theorem Dev.attnLog_pages (d : Dev) (p : Nat) (g : Page) (e : Word) : (d.attnLog p g e).pages = d.pages := by rw [Dev.attnLog_blt d p g e]
@[simp] theorem Dev.attnLog_hci (d : Dev) (p : Nat) (g : Page) (e : Word) : (d.attnLog p g e).hci = d.hci := by rw [Dev.attnLog_blt d p g e]
@[simp] theorem Dev.attnLog_mp (d : Dev) (p : Nat) (g : Page) (e : Word) : (d.attnLog p g e).mp = d.mp := by rw [Dev.attnLog_blt d p g e]
@[simp] theorem Dev.attnLog_pmu (d : Dev) (p : Nat) (g : Page) (e : Word) : (d.attnLog p g e).pmu = d.pmu := by rw [Dev.attnLog_blt d p g e]
@[simp] theorem Dev.attnLog_out (d : Dev) (p : Nat) (g : Page) (e : Word) : (d.attnLog p g e).out = d.out := by rw [Dev.attnLog_blt d p g e]
@[simp] theorem Dev.attnLog_rfe (d : Dev) (p : Nat) (g : Page) (e : Word) : (d.attnLog p g e).rfe = d.rfe := by rw [Dev.attnLog_blt d p g e]
@[simp] theorem Dev.attnLog_rgl (d : Dev) (p : Nat) (g : Page) (e : Word) : (d.attnLog p g e).rgl = d.rgl := by rw [Dev.attnLog_blt d p g e]
@[simp] theorem Dev.attnLog_phy (d : Dev) (p : Nat) (g : Page) (e : Word) : (d.attnLog p g e).phy = d.phy := by rw [Dev.attnLog_blt d p g e]
@[simp] theorem Dev.attnLog_mac (d : Dev) (p : Nat) (g : Page) (e : Word) : (d.attnLog p g e).mac = d.mac := by rw [Dev.attnLog_blt d p g e]
@[simp] theorem Dev.attnLog_mld (d : Dev) (p : Nat) (g : Page) (e : Word) : (d.attnLog p g e).mld = d.mld := by rw [Dev.attnLog_blt d p g e]
@[simp] theorem Dev.attnLog_asc (d : Dev) (p : Nat) (g : Page) (e : Word) : (d.attnLog p g e).asc = d.asc := by rw [Dev.attnLog_blt d p g e]
@[simp] theorem Dev.attnLog_qar (d : Dev) (p : Nat) (g : Page) (e : Word) : (d.attnLog p g e).qar = d.qar := by rw [Dev.attnLog_blt d p g e]
@[simp] theorem Dev.attnLog_tmg (d : Dev) (p : Nat) (g : Page) (e : Word) : (d.attnLog p g e).tmg = d.tmg := by rw [Dev.attnLog_blt d p g e]
@[simp] theorem Dev.attnLog_pke (d : Dev) (p : Nat) (g : Page) (e : Word) : (d.attnLog p g e).pke = d.pke := by rw [Dev.attnLog_blt d p g e]
@[simp] theorem Dev.attnLog_eth (d : Dev) (p : Nat) (g : Page) (e : Word) : (d.attnLog p g e).eth = d.eth := by rw [Dev.attnLog_blt d p g e]
@[simp] theorem Dev.attnLog_mem (d : Dev) (p : Nat) (g : Page) (e : Word) : (d.attnLog p g e).mem = d.mem := by rw [Dev.attnLog_blt d p g e]
@[simp] theorem Dev.attnLog_tmu (d : Dev) (p : Nat) (g : Page) (e : Word) : (d.attnLog p g e).tmu = d.tmu := by rw [Dev.attnLog_blt d p g e]
@[simp] theorem Dev.attnLog_msh (d : Dev) (p : Nat) (g : Page) (e : Word) : (d.attnLog p g e).msh = d.msh := by rw [Dev.attnLog_blt d p g e]
@[simp] theorem Dev.attnLog_bst (d : Dev) (p : Nat) (g : Page) (e : Word) : (d.attnLog p g e).bst = d.bst := by rw [Dev.attnLog_blt d p g e]
@[simp] theorem Dev.attnLog_port (d : Dev) (p : Nat) (g : Page) (e : Word) : (d.attnLog p g e).port = d.port := by rw [Dev.attnLog_blt d p g e]
@[simp] theorem Dev.attnLog_free (d : Dev) (p : Nat) (g : Page) (e : Word) : (d.attnLog p g e).free = d.free := by rw [Dev.attnLog_blt d p g e]

/-! hwWake -/
@[simp] theorem Dev.hwWake_regs (d : Dev) (b : Blk) : (d.hwWake b).regs = d.regs := by rw [Dev.hwWake_eq]
@[simp] theorem Dev.hwWake_hci (d : Dev) (b : Blk) : (d.hwWake b).hci = d.hci := by rw [Dev.hwWake_eq]
@[simp] theorem Dev.hwWake_mp (d : Dev) (b : Blk) : (d.hwWake b).mp = d.mp := by rw [Dev.hwWake_eq]
@[simp] theorem Dev.hwWake_mgt (d : Dev) (b : Blk) : (d.hwWake b).mgt = d.mgt := by rw [Dev.hwWake_eq]
@[simp] theorem Dev.hwWake_pmu (d : Dev) (b : Blk) : (d.hwWake b).pmu = d.pmu := by rw [Dev.hwWake_eq]
@[simp] theorem Dev.hwWake_out (d : Dev) (b : Blk) : (d.hwWake b).out = d.out := by rw [Dev.hwWake_eq]
@[simp] theorem Dev.hwWake_rfe (d : Dev) (b : Blk) : (d.hwWake b).rfe = d.rfe := by rw [Dev.hwWake_eq]
@[simp] theorem Dev.hwWake_rgl (d : Dev) (b : Blk) : (d.hwWake b).rgl = d.rgl := by rw [Dev.hwWake_eq]
@[simp] theorem Dev.hwWake_phy (d : Dev) (b : Blk) : (d.hwWake b).phy = d.phy := by rw [Dev.hwWake_eq]
@[simp] theorem Dev.hwWake_mac (d : Dev) (b : Blk) : (d.hwWake b).mac = d.mac := by rw [Dev.hwWake_eq]
@[simp] theorem Dev.hwWake_mld (d : Dev) (b : Blk) : (d.hwWake b).mld = d.mld := by rw [Dev.hwWake_eq]
@[simp] theorem Dev.hwWake_asc (d : Dev) (b : Blk) : (d.hwWake b).asc = d.asc := by rw [Dev.hwWake_eq]
@[simp] theorem Dev.hwWake_qar (d : Dev) (b : Blk) : (d.hwWake b).qar = d.qar := by rw [Dev.hwWake_eq]
@[simp] theorem Dev.hwWake_tmg (d : Dev) (b : Blk) : (d.hwWake b).tmg = d.tmg := by rw [Dev.hwWake_eq]
@[simp] theorem Dev.hwWake_pke (d : Dev) (b : Blk) : (d.hwWake b).pke = d.pke := by rw [Dev.hwWake_eq]
@[simp] theorem Dev.hwWake_eth (d : Dev) (b : Blk) : (d.hwWake b).eth = d.eth := by rw [Dev.hwWake_eq]
@[simp] theorem Dev.hwWake_mem (d : Dev) (b : Blk) : (d.hwWake b).mem = d.mem := by rw [Dev.hwWake_eq]
@[simp] theorem Dev.hwWake_tmu (d : Dev) (b : Blk) : (d.hwWake b).tmu = d.tmu := by rw [Dev.hwWake_eq]
@[simp] theorem Dev.hwWake_msh (d : Dev) (b : Blk) : (d.hwWake b).msh = d.msh := by rw [Dev.hwWake_eq]
@[simp] theorem Dev.hwWake_bst (d : Dev) (b : Blk) : (d.hwWake b).bst = d.bst := by rw [Dev.hwWake_eq]
@[simp] theorem Dev.hwWake_port (d : Dev) (b : Blk) : (d.hwWake b).port = d.port := by rw [Dev.hwWake_eq]
@[simp] theorem Dev.hwWake_free (d : Dev) (b : Blk) : (d.hwWake b).free = d.free := by rw [Dev.hwWake_eq]

/-! wakeBlk -/
@[simp] theorem Dev.wakeBlk_regs (d : Dev) (b : Blk) : (d.wakeBlk b).regs = d.regs := by rw [Dev.wakeBlk_eq]
@[simp] theorem Dev.wakeBlk_hci (d : Dev) (b : Blk) : (d.wakeBlk b).hci = d.hci := by rw [Dev.wakeBlk_eq]
@[simp] theorem Dev.wakeBlk_mp (d : Dev) (b : Blk) : (d.wakeBlk b).mp = d.mp := by rw [Dev.wakeBlk_eq]
@[simp] theorem Dev.wakeBlk_mgt (d : Dev) (b : Blk) : (d.wakeBlk b).mgt = d.mgt := by rw [Dev.wakeBlk_eq]
@[simp] theorem Dev.wakeBlk_pmu (d : Dev) (b : Blk) : (d.wakeBlk b).pmu = d.pmu := by rw [Dev.wakeBlk_eq]
@[simp] theorem Dev.wakeBlk_out (d : Dev) (b : Blk) : (d.wakeBlk b).out = d.out := by rw [Dev.wakeBlk_eq]
@[simp] theorem Dev.wakeBlk_rfe (d : Dev) (b : Blk) : (d.wakeBlk b).rfe = d.rfe := by rw [Dev.wakeBlk_eq]
@[simp] theorem Dev.wakeBlk_rgl (d : Dev) (b : Blk) : (d.wakeBlk b).rgl = d.rgl := by rw [Dev.wakeBlk_eq]
@[simp] theorem Dev.wakeBlk_phy (d : Dev) (b : Blk) : (d.wakeBlk b).phy = d.phy := by rw [Dev.wakeBlk_eq]
@[simp] theorem Dev.wakeBlk_mac (d : Dev) (b : Blk) : (d.wakeBlk b).mac = d.mac := by rw [Dev.wakeBlk_eq]
@[simp] theorem Dev.wakeBlk_mld (d : Dev) (b : Blk) : (d.wakeBlk b).mld = d.mld := by rw [Dev.wakeBlk_eq]
@[simp] theorem Dev.wakeBlk_asc (d : Dev) (b : Blk) : (d.wakeBlk b).asc = d.asc := by rw [Dev.wakeBlk_eq]
@[simp] theorem Dev.wakeBlk_qar (d : Dev) (b : Blk) : (d.wakeBlk b).qar = d.qar := by rw [Dev.wakeBlk_eq]
@[simp] theorem Dev.wakeBlk_tmg (d : Dev) (b : Blk) : (d.wakeBlk b).tmg = d.tmg := by rw [Dev.wakeBlk_eq]
@[simp] theorem Dev.wakeBlk_pke (d : Dev) (b : Blk) : (d.wakeBlk b).pke = d.pke := by rw [Dev.wakeBlk_eq]
@[simp] theorem Dev.wakeBlk_eth (d : Dev) (b : Blk) : (d.wakeBlk b).eth = d.eth := by rw [Dev.wakeBlk_eq]
@[simp] theorem Dev.wakeBlk_mem (d : Dev) (b : Blk) : (d.wakeBlk b).mem = d.mem := by rw [Dev.wakeBlk_eq]
@[simp] theorem Dev.wakeBlk_tmu (d : Dev) (b : Blk) : (d.wakeBlk b).tmu = d.tmu := by rw [Dev.wakeBlk_eq]
@[simp] theorem Dev.wakeBlk_msh (d : Dev) (b : Blk) : (d.wakeBlk b).msh = d.msh := by rw [Dev.wakeBlk_eq]
@[simp] theorem Dev.wakeBlk_bst (d : Dev) (b : Blk) : (d.wakeBlk b).bst = d.bst := by rw [Dev.wakeBlk_eq]
@[simp] theorem Dev.wakeBlk_port (d : Dev) (b : Blk) : (d.wakeBlk b).port = d.port := by rw [Dev.wakeBlk_eq]
@[simp] theorem Dev.wakeBlk_free (d : Dev) (b : Blk) : (d.wakeBlk b).free = d.free := by rw [Dev.wakeBlk_eq]

/-! count -/
@[simp] theorem Dev.count_pages (d : Dev) (a : Nat) : (d.count a).pages = d.pages := Dev.countN_pages d a 1
@[simp] theorem Dev.count_hci (d : Dev) (a : Nat) : (d.count a).hci = d.hci := Dev.countN_hci d a 1
@[simp] theorem Dev.count_mp (d : Dev) (a : Nat) : (d.count a).mp = d.mp := Dev.countN_mp d a 1
@[simp] theorem Dev.count_mgt (d : Dev) (a : Nat) : (d.count a).mgt = d.mgt := Dev.countN_mgt d a 1
@[simp] theorem Dev.count_pmu (d : Dev) (a : Nat) : (d.count a).pmu = d.pmu := Dev.countN_pmu d a 1
@[simp] theorem Dev.count_out (d : Dev) (a : Nat) : (d.count a).out = d.out := Dev.countN_out d a 1
@[simp] theorem Dev.count_rfe (d : Dev) (a : Nat) : (d.count a).rfe = d.rfe := Dev.countN_rfe d a 1
@[simp] theorem Dev.count_rgl (d : Dev) (a : Nat) : (d.count a).rgl = d.rgl := Dev.countN_rgl d a 1
@[simp] theorem Dev.count_phy (d : Dev) (a : Nat) : (d.count a).phy = d.phy := Dev.countN_phy d a 1
@[simp] theorem Dev.count_mac (d : Dev) (a : Nat) : (d.count a).mac = d.mac := Dev.countN_mac d a 1
@[simp] theorem Dev.count_mld (d : Dev) (a : Nat) : (d.count a).mld = d.mld := Dev.countN_mld d a 1
@[simp] theorem Dev.count_asc (d : Dev) (a : Nat) : (d.count a).asc = d.asc := Dev.countN_asc d a 1
@[simp] theorem Dev.count_qar (d : Dev) (a : Nat) : (d.count a).qar = d.qar := Dev.countN_qar d a 1
@[simp] theorem Dev.count_tmg (d : Dev) (a : Nat) : (d.count a).tmg = d.tmg := Dev.countN_tmg d a 1
@[simp] theorem Dev.count_pke (d : Dev) (a : Nat) : (d.count a).pke = d.pke := Dev.countN_pke d a 1
@[simp] theorem Dev.count_eth (d : Dev) (a : Nat) : (d.count a).eth = d.eth := Dev.countN_eth d a 1
@[simp] theorem Dev.count_mem (d : Dev) (a : Nat) : (d.count a).mem = d.mem := Dev.countN_mem d a 1
@[simp] theorem Dev.count_tmu (d : Dev) (a : Nat) : (d.count a).tmu = d.tmu := Dev.countN_tmu d a 1
@[simp] theorem Dev.count_msh (d : Dev) (a : Nat) : (d.count a).msh = d.msh := Dev.countN_msh d a 1
@[simp] theorem Dev.count_bst (d : Dev) (a : Nat) : (d.count a).bst = d.bst := Dev.countN_bst d a 1
@[simp] theorem Dev.count_port (d : Dev) (a : Nat) : (d.count a).port = d.port := Dev.countN_port d a 1
@[simp] theorem Dev.count_free (d : Dev) (a : Nat) : (d.count a).free = d.free := Dev.countN_free d a 1

end Sys2Proof.Machine
end

