-- ==== Sys2Proof/Laws/Request.lean ====
section
/-! SUPPORT. Requests: the four transports execute a request alike, and what an accepted COMMAND, WRITE or READ leads to (spec/02 R24 to
R28, R46, R49, R54). -/

namespace Sys2Proof.Machine

@[simp] theorem Dev.ring_setRing_same (d : Dev) (n : Nat) (r : Ring) : (d.setRing n r).ring n = r := by
  simp [Dev.ring, Dev.setRing]

@[simp] theorem Dev.setRing_setRing (d : Dev) (n : Nat) (r x : Ring) : (d.setRing n r).setRing n x = d.setRing n x := by
  simp [Dev.setRing]

/-! What taking a request leaves -/

theorem Dev.Arrived.refl (d : Dev) : d.Arrived d where
  only := rfl
  seq := rfl
  marks := rfl
  keys := rfl
  out := rfl
  version _ := rfl
  watch _ := rfl

theorem Dev.Arrived.trans {a b c : Dev} (h : a.Arrived b) (k : b.Arrived c) : a.Arrived c where
  only := Dev.hciOnly_trans h.only k.only
  seq := by rw [k.seq, h.seq]
  marks := by rw [k.marks, h.marks]
  keys := by rw [k.keys, h.keys]
  out := by rw [k.out, h.out]
  version src := by rw [k.version, h.version]
  watch src := by rw [k.watch, h.watch]

/-- Moving a ring's positions. -/
theorem Dev.arrived_setRing (d : Dev) (n : Nat) (r : Ring) (h1 : r.session = (d.ring n).session) (h2 : r.watch = (d.ring n).watch) :
    d.Arrived (d.setRing n r) where
  only := rfl
  seq := rfl
  marks := rfl
  keys := rfl
  out := rfl
  version src := by
    cases src with
    | pcie k =>
      by_cases hk : k = n
      · subst hk; simp [Dev.version, h1]
      · simp [Dev.version, Dev.ring, Dev.setRing, tabFind_put_ne _ _ hk]
    | _ => rfl
  watch src := by
    cases src with
    | pcie k =>
      by_cases hk : k = n
      · subst hk; simp [Dev.watchOf, h2]
      · simp [Dev.watchOf, Dev.ring, Dev.setRing, tabFind_put_ne _ _ hk]
    | _ => rfl

/-- An ACP session's counters and waiting messages. -/
theorem Dev.arrived_setAcp (d : Dev) (id : Nat) (a b : Acp) (ha : tabFind d.hci.acp id = some a) (h1 : b.version = a.version)
    (h2 : b.watch = a.watch) : d.Arrived (d.onHci (fun h => { h with acp := tabPut h.acp id b })) where
  only := rfl
  seq := rfl
  marks := rfl
  keys := rfl
  out := rfl
  version src := by
    cases src with
    | acp k =>
      by_cases hk : k = id
      · subst hk; simp [Dev.version, Dev.onHci, ha, h1]
      · simp [Dev.version, Dev.onHci, tabFind_put_ne _ _ hk]
    | _ => rfl
  watch src := by
    cases src with
    | acp k =>
      by_cases hk : k = id
      · subst hk; simp [Dev.watchOf, Dev.onHci, ha, h2]
      · simp [Dev.watchOf, Dev.onHci, tabFind_put_ne _ _ hk]
    | _ => rfl

/-- The executor's turn, the SPI target's request, the MP's list. -/
theorem Dev.arrived_onHci (d : Dev) (f : Hci → Hci) (h1 : (f d.hci).attnSeq = d.hci.attnSeq) (h2 : (f d.hci).hwm = d.hci.hwm)
    (h3 : (f d.hci).keys = d.hci.keys) (h4 : (f d.hci).rings = d.hci.rings) (h5 : (f d.hci).acp = d.hci.acp)
    (h6 : (f d.hci).spi.session = d.hci.spi.session) (h7 : (f d.hci).spi.watch = d.hci.spi.watch) : d.Arrived (d.onHci f) where
  only := rfl
  seq := h1
  marks := h2
  keys := h3
  out := rfl
  version src := by cases src <;> simp [Dev.version, Dev.ring, Dev.onHci, h4, h5, h6]
  watch src := by cases src <;> simp [Dev.watchOf, Dev.ring, Dev.onHci, h4, h5, h7]

theorem Dev.reached_arrived (d : Dev) (src : Src) : d.Arrived (d.reached src) := by
  refine Dev.Arrived.trans (d.arrived_onHci (fun h => { h with turn := src.place + 1 }) rfl rfl rfl rfl rfl rfl rfl) ?_
  cases src with
  | pcie n => exact Dev.arrived_setRing _ n _ rfl rfl
  | spi => exact Dev.arrived_onHci _ (fun h => { h with spi := { h.spi with lastRejected := false, todo := none } }) rfl rfl rfl rfl rfl rfl rfl
  | mp => exact Dev.arrived_onHci _ (fun h => { h with mpTodo := [] }) rfl rfl rfl rfl rfl rfl rfl
  | acp id =>
    simp only [Dev.reached]
    split
    · rename_i a ha
      exact Dev.arrived_setAcp _ id a _ ha rfl rfl
    · exact Dev.Arrived.refl _

/-! The executor with one request that waits -/

/-- Where one session asks, with one request, its turn is all that serving does. -/
theorem Dev.serveAll_one {d : Dev} {src : Src} (hi : d.hci.inExec = none) (ha : d.asking = [src]) (ho : d.askOf src = 1) :
    d.serveAll = d.serveOne src := by
  have hn : d.nextAsking = some src := by
    simp only [Dev.nextAsking, ha, List.find?_cons, List.find?_nil]
    by_cases h : d.hci.turn ≤ src.place <;> simp [h]
  simp only [Dev.serveAll, Dev.askCount, ha, List.map_cons, List.map_nil, ho]
  simp [Dev.serve, hi, hn]

/-- No session asks. -/
theorem Dev.asking_nil {d : Dev} : d.asking = [] ↔ d.hci.rings.filter (fun e => e.2.asks) = [] ∧ d.hci.spi.todo = none
    ∧ d.hci.acp.filter (fun e => !e.2.todo.isEmpty) = [] ∧ d.hci.mpTodo = [] := by
  cases hs : d.hci.spi.todo <;> cases hm : d.hci.mpTodo <;> simp [Dev.asking, hs, hm]

/-- What one more entry does to a table no entry of which passes a test. -/
theorem tabPut_filter {α : Type} {t : Tab α} {p : Nat × α → Bool} {k : Nat} {v : α} (h : t.filter p = []) (hp : p (k, v) = true) :
    (tabPut t k v).filter p = [(k, v)] := by
  induction t with
  | nil => simp [tabPut, hp]
  | cons e t ih =>
    have he : p e = false := by
      cases hx : p e with
      | false => rfl
      | true => simp [hx] at h
    have ht : t.filter p = [] := by simpa [he] using h
    obtain ⟨j, w⟩ := e
    simp only [tabPut]
    split
    · simp [hp, he, ht]
    · split
      · simp [hp, ht]
      · simp [he, ih ht]

/-- A session that had nothing to wait for has an empty list of messages. -/
theorem tabFind_filter {α : Type} {t : Tab α} {p : Nat × α → Bool} {k : Nat} {v : α} (h : t.filter p = []) (hf : tabFind t k = some v) :
    p (k, v) = false := by
  induction t with
  | nil => simp [tabFind] at hf
  | cons e t ih =>
    have he : p e = false := by
      cases hx : p e with
      | false => rfl
      | true => simp [hx] at h
    obtain ⟨j, w⟩ := e
    simp only [tabFind] at hf
    split at hf
    · rename_i hj
      cases hf
      rw [← hj]; exact he
    · exact ih (by simpa [he] using h) hf

theorem Dev.hears_iff {d : Dev} {rq : Rq} {i o : Nat} : d.hears rq i o = true ↔ d.hciUp = true ∧ d.romServes = false
    ∧ d.hci.inExec = none ∧ d.asking = [] ∧ (i ≤ 256 ∧ o ≤ 256) ∧ d.carries rq i o = true := by
  simp only [Dev.hears, Bool.and_eq_true, List.isEmpty_iff, Option.isNone_iff_eq_none, Bool.not_eq_true', decide_eq_true_eq, and_assoc]

/-- FLAGS of a request that its session carries: INDIRECT only over PCIe, where the payloads else stand in the entries (spec/02 R44). -/
theorem Dev.carries_flags {d : Dev} {rq : Rq} {i o : Nat} (h : d.carries rq i o = true) :
    rq.flags < 2 ∧ (rq.flags = 1 → rq.src.isPcie = true) ∧ (rq.src.isPcie = true → rq.flags = 1 ∨ i ≤ 12 ∧ o ≤ 12) := by
  obtain ⟨src, flags, tag, x, y⟩ := rq
  cases src <;> simp_all [Dev.carries, Src.isPcie]

/-- What one more entry that does not pass does to a table no entry of which passes a test. -/
theorem tabPut_filter_not {α : Type} {t : Tab α} {p : Nat × α → Bool} {k : Nat} {v : α} (h : t.filter p = []) (hp : p (k, v) = false) :
    (tabPut t k v).filter p = [] := by
  induction t with
  | nil => simp [tabPut, hp]
  | cons e t ih =>
    have he : p e = false := by
      cases hx : p e with
      | false => rfl
      | true => simp [hx] at h
    have ht : t.filter p = [] := by simpa [he] using h
    obtain ⟨j, w⟩ := e
    simp only [tabPut]
    split
    · simp [hp, he, ht]
    · split
      · simp [hp, ht]
      · simp [he, ih ht]

/-- Where no session asks, serving does nothing. -/
theorem Dev.serveAll_none {d : Dev} (h : d.asking = []) : d.serveAll = d := by
  simp [Dev.serveAll, Dev.askCount, h, Dev.serve]

/-- A ring pair that does not ask leaves the executor nothing to do. -/
theorem Dev.asking_setRing {d : Dev} {n : Nat} {r : Ring} (h : d.asking = []) (hr : r.asks = false) : (d.setRing n r).asking = [] := by
  obtain ⟨hrings, hspi, hacp, hmp⟩ := Dev.asking_nil.1 h
  exact Dev.asking_nil.2 ⟨tabPut_filter_not hrings hr, hspi, hacp, hmp⟩

/-- One request posted in a control ring that can take it, while the executor is idle (spec/02 R28, R46). -/
theorem Dev.ringPost_idle {d : Dev} {n i : Nat} {e : RingEnt} (hex : d.hci.inExec = none) (hask : d.asking = []) (ht : (d.ring n).typ = 1)
    (he : (d.ring n).enable = true) (hh : (d.ring n).held = []) (hw : (d.ring n).waiting = []) (hf : (d.ring n).full = false) :
    d.ringPost n [e] i = ((d.onHci (fun h => { h with turn := (Src.pcie n).place + 1 })).setRing n
      { d.ring n with prod := i, held := [], reqPos := ((d.ring n).reqPos + 1) % (d.ring n).size }).request (.pcie n) e.msg := by
  obtain ⟨hrings, hspi, hacp, hmp⟩ := Dev.asking_nil.1 hask
  let r1 : Ring := { d.ring n with prod := i, held := [e] }
  have h1 : d.ringPost n [e] i = (d.setRing n r1).serveAll := by simp [Dev.ringPost, ht, hh, r1]
  have hasks : r1.asks = true := by
    have hmay : r1.mayTake = true := by
      show ((d.ring n).enable && (d.ring n).waiting.isEmpty && !(d.ring n).full) = true
      simp [he, hw, hf]
    simp only [Ring.asks, hmay]
    simp [r1, ht]
  have h2 : (d.setRing n r1).asking = [.pcie n] := by
    have := tabPut_filter (v := r1) (k := n) hrings hasks
    simp [Dev.asking, Dev.setRing, this, hspi, hacp, hmp]
  have hr : ((d.setRing n r1).onHci (fun h => { h with turn := (Src.pcie n).place + 1 })).ring n = r1 := Dev.ring_setRing_same d n r1
  rw [h1, Dev.serveAll_one (d := d.setRing n r1) (src := .pcie n) hex h2 (by simp [Dev.askOf, r1])]
  simp only [Dev.serveOne, Dev.takeNext, hr]
  simp only [r1, Dev.setRing, Dev.onHci, tabPut_put]
  rfl

/-- One request that the SPI target takes while the executor is idle (spec/02 R28, R49). -/
theorem Dev.spiTake_idle {d : Dev} {m : Msg} (ha : d.spiAccepting = true) (hex : d.hci.inExec = none) (hask : d.asking = []) :
    d.spiTake m = (d.reached .spi).request .spi m := by
  obtain ⟨hrings, hspi, hacp, hmp⟩ := Dev.asking_nil.1 hask
  rw [Dev.spiTake, if_pos ha, Dev.serveAll_one (d := d.onSpi (fun s => { s with lastRejected := false, todo := some m })) (src := .spi) hex
    (by simp [Dev.asking, Dev.onSpi, Dev.onHci, hrings, hacp, hmp]) rfl]
  rfl

/-- One request of an ACP session, alone in its datagram and no retry, while the executor is idle (spec/02 R28, R54, R55). -/
theorem Dev.acpAccept_idle {d : Dev} {id ctr port peer : Nat} {udp : Bool} {m : Msg} {a : Acp} (ha : tabFind d.hci.acp id = some a)
    (hm : ¬ m.flags / 2 % 2 = 1) (hex : d.hci.inExec = none) (hask : d.asking = []) :
    d.acpAccept id ctr port peer udp [m] = (d.onHci (fun h => { h with turn := (Src.acp id).place + 1, acp := tabPut h.acp id { a with
      topCtr := ctr, active := d.tb, port := port, peer := peer, udp := udp, todo := [[]] } })).request (.acp id) m := by
  obtain ⟨hrings, hspi, hacp, hmp⟩ := Dev.asking_nil.1 hask
  have htodo : a.todo = [] := by simpa using tabFind_filter hacp ha
  let b : Acp := { a with topCtr := ctr, active := d.tb, port := port, peer := peer, udp := udp, todo := [[m]] }
  have h1 : d.acpAccept id ctr port peer udp [m] = (d.onHci (fun h => { h with acp := tabPut h.acp id b })).serveAll := by
    simp [Dev.acpAccept, ha, b, htodo]
  have h2 : (d.onHci (fun h => { h with acp := tabPut h.acp id b })).asking = [.acp id] := by
    have := tabPut_filter (v := b) (k := id) hacp (by simp [b])
    simp [Dev.asking, Dev.onHci, this, hspi, hrings, hmp]
  have ht : tabFind ((d.onHci (fun h => { h with acp := tabPut h.acp id b })).onHci
      (fun h => { h with turn := (Src.acp id).place + 1 })).hci.acp id = some b := by simp [Dev.onHci]
  rw [h1, Dev.serveAll_one (d := d.onHci (fun h => { h with acp := tabPut h.acp id b })) (src := .acp id) hex h2
    (by simp [Dev.askOf, Dev.onHci, b])]
  simp only [Dev.serveOne, Dev.takeNext, ht]
  simp only [b, Dev.onHci, tabPut_put]
  simp [Dev.acpOne, hm]

/-- A request that the device hears is executed on the device that has taken it. -/
theorem Dev.post_request {d : Dev} {rq : Rq} {m : Msg} {nOut : Nat} (h : d.hears rq m.payload.length nOut = true)
    (hf : m.flags = rq.flags) : d.post rq.src m = (d.reached rq.src).request rq.src m := by
  obtain ⟨src, flags, tag, x, y⟩ := rq
  obtain ⟨hup, -, hex, hask, -, hsrc⟩ := Dev.hears_iff.1 h
  cases src with
  | mp =>
    obtain ⟨hrings, hspi, hacp, hmp⟩ := Dev.asking_nil.1 hask
    have h1 : d.post .mp m = (d.onHci (fun h => { h with mpTodo := [m] })).serveAll := by
      simp [Dev.post, hup, Dev.onHci, hmp]
    rw [h1, Dev.serveAll_one (d := d.onHci (fun h => { h with mpTodo := [m] })) (src := .mp) hex
      (by simp [Dev.asking, Dev.onHci, hrings, hspi, hacp]) rfl]
    rfl
  | spi =>
    simp only [Dev.carries, Bool.and_eq_true] at hsrc
    simp only [Dev.post, hup, Bool.not_true, Bool.false_eq_true, if_false, Dev.spiTake_idle hsrc.1 hex hask]
  | pcie n =>
    simp only [Dev.carries, Bool.and_eq_true, decide_eq_true_eq, List.isEmpty_iff, Bool.not_eq_true', and_assoc] at hsrc
    obtain ⟨hl, hwake, he, ht, hh, hw, hf, -⟩ := hsrc
    have hp : d.post (.pcie n) m = d.ringPost n [{ msg := m, words := [], frame := Hdr.none }] (((d.ring n).prod + 1) % (d.ring n).size) := by
      simp [Dev.post, hup, hl, he, ht, hwake]
    rw [hp, Dev.ringPost_idle hex hask ht he hh hw hf]
    rfl
  | acp id =>
    simp only [Dev.carries, Bool.and_eq_true, decide_eq_true_eq] at hsrc
    cases ha : tabFind d.hci.acp id with
    | none => simp [ha] at hsrc
    | some a =>
      have hz : flags = 0 := hsrc.2
      have hold : ¬ m.flags / 2 % 2 = 1 := by simp only at hf; omega
      simp only [Dev.post, hup, ha, Dev.acpAccept_idle ha hold hex hask, Dev.reached, Dev.onHci]
      rfl

theorem Dev.takes_hears {d : Dev} {rq : Rq} {op nIn nOut : Nat} (h : d.takes rq op nIn nOut = true) : d.hears rq nIn nOut = true := by
  simp only [Dev.takes, Bool.and_eq_true] at h
  exact h.1

/-! What keeps the agreement outside the host control interface -/

/-- The device with its host control interface and output replaced. -/
def Dev.withHost (d : Dev) (h : Hci) (o : List Out) : Dev := { d with hci := h, out := o }

theorem Dev.hciOnly_withHost (d : Dev) (h : Hci) (o : List Out) : d.hciOnly (d.withHost h o) := rfl

theorem Dev.hciOnly_iff {d e : Dev} : d.hciOnly e ↔ ∃ h o, e = d.withHost h o := by
  constructor
  · intro h
    exact ⟨_, _, h⟩
  · rintro ⟨h, o, rfl⟩
    rfl

theorem Dev.event_withHost (d : Dev) (h : Hci) (o : List Out) (i : Nat) : (d.withHost h o).event i = (d.event i).withHost h o := by
  unfold Dev.event
  by_cases hb : (d.wr A.MGT.EVT_PEND (d.rd A.MGT.EVT_PEND ||| oneBit i)).bit A.MGT.EVT_SEL i = true
  · have hb' : ((d.withHost h o).wr A.MGT.EVT_PEND ((d.withHost h o).rd A.MGT.EVT_PEND ||| oneBit i)).bit A.MGT.EVT_SEL i = true := hb
    simp only [hb, hb', if_true]
    rfl
  · have hb' : ¬ ((d.withHost h o).wr A.MGT.EVT_PEND ((d.withHost h o).rd A.MGT.EVT_PEND ||| oneBit i)).bit A.MGT.EVT_SEL i = true := hb
    simp only [hb, hb']
    rfl

theorem Dev.wakeBlk_withHost (d : Dev) (h : Hci) (o : List Out) (b : Blk) :
    (d.withHost h o).wakeBlk b = (d.wakeBlk b).withHost h o := by
  unfold Dev.wakeBlk
  have hb : (d.withHost h o).blk b = d.blk b := rfl
  simp only [hb]
  split
  · rfl
  · split <;> rfl

theorem Dev.event_congr {d e : Dev} (h : d.hciOnly e) (i : Nat) : (d.event i).hciOnly (e.event i) := by
  obtain ⟨h, o, rfl⟩ := Dev.hciOnly_iff.1 h
  rw [Dev.event_withHost]
  rfl

theorem Dev.wakeBlk_congr {d e : Dev} (h : d.hciOnly e) (b : Blk) : (d.wakeBlk b).hciOnly (e.wakeBlk b) := by
  obtain ⟨h, o, rfl⟩ := Dev.hciOnly_iff.1 h
  rw [Dev.wakeBlk_withHost]
  rfl

theorem Dev.asked_congr {d e : Dev} (h : d.hciOnly e) (b : Blk) : (d.asked b).hciOnly (e.asked b) :=
  Dev.wakeBlk_congr (Dev.event_congr h 0) b

theorem Dev.serves_gate {d : Dev} {b : Blk} (h : d.serves b = true) :
    d.present b = true ∧ (d.blk b).selftest = false ∧ (!(d.blk b).clkForce && decide ((d.blk b).power = 1 ∨ (d.blk b).power = 4)) = false
      ∧ (d.blk b).resetting = false ∧ (d.mgt.restarting && decide (b ≠ .mgt)) = false := by
  simp only [Dev.serves, Bool.and_eq_true, Bool.not_eq_true', Bool.or_eq_true, decide_eq_true_eq] at h
  obtain ⟨⟨⟨⟨h1, h2⟩, h3⟩, h4⟩, h5⟩ := h
  refine ⟨h1, h2, ?_, h4, ?_⟩
  · rcases h3 with h3 | h3
    · simp [h3]
    · simp [h3.1, h3.2]
  · rcases h5 with h5 | h5
    · simp [h5]
    · simp [h5]

/-! Refusals -/

/-- Where no condition holds, the code is OK. -/
theorem refuse_nil {cs : List (Bool × Nat)} (h : ∀ c ∈ cs, c.1 = false) : refuse cs = RC.OK := by
  have : cs.filter (fun c => c.1) = [] := by
    rw [List.filter_eq_nil_iff]
    intro c hc
    simp [h c hc]
  rw [refuse, this]
  rfl

/-- A command none of whose conditions holds takes its effect and answers OK. -/
theorem cmdIf_ok {d : Dev} {cs : List (Bool × Nat)} {eff : Dev × List Word} (h : ∀ c ∈ cs, c.1 = false) :
    cmdIf d cs eff = (eff.1, Ans.ok eff.2) := by
  simp [cmdIf, refuse_nil h]

theorem vinIf_ok {d : Dev} {cs : List (Bool × Nat)} {eff : Dev × List Word} (hv : d.mgt.vinWarn = false) (h : ∀ c ∈ cs, c.1 = false) :
    vinIf d cs eff = (eff.1, Ans.ok eff.2) := by
  have hc : refuse ((d.mgt.vinWarn, RC.NOT_IN_STATE) :: cs) = RC.OK := by
    refine refuse_nil ?_
    intro c hc
    rcases List.mem_cons.1 hc with rfl | hc
    · exact hv
    · exact h c hc
  simp only [vinIf, hc, if_true]

theorem cmdIns_ok {d : Dev} {cs : List (Bool × Nat)} {eff : Dev × List Word} (h : ∀ c ∈ cs, c.1 = false) :
    cmdIns d cs eff = (eff.1, Ans.ok eff.2) := by
  rw [cmdIns, cmdIf_ok h]
  exact if_neg (by simp [Ans.ok, RC.OK, RC.BUSY])

/-- A request that the device takes meets no refusal by its header or session. -/
theorem Dev.msgCodes_takes {d e : Dev} {rq : Rq} {m : Msg} {nOut : Nat} (h : d.takes rq m.op m.payload.length nOut = true)
    (hf : m.flags = rq.flags) (hv : e.version rq.src = d.version rq.src) (hl : m.len = 4 * m.payload.length)
    (ha : bitsOf m.addr 31 24 = 0)
    (ho : [OP.HELLO, OP.READ, OP.WRITE, OP.MODIFY, OP.WATCH, OP.ATTN_SCAN, OP.COMMAND, OP.CLOSE, OP.NOP].contains m.op = true) :
    ∀ c ∈ e.msgCodes rq.src m, c.1 = false := by
  obtain ⟨hh, hver⟩ := Bool.and_eq_true_iff.1 h
  obtain ⟨-, -, -, -, hn, hsrc⟩ := Dev.hears_iff.1 hh
  obtain ⟨hf1, hf2, hf3⟩ := Dev.carries_flags hsrc
  cases hvv : d.version rq.src with
  | none => simp [hvv] at hver
  | some v =>
    rw [hvv] at hv hver
    have hspk : (decide (some v = some 1) && [OP.MODIFY, OP.WATCH, OP.ATTN_SCAN, OP.COMMAND].contains m.op) = false := by
      by_cases h1 : v = 1
      · subst h1
        simp only [speaks, ne_eq, not_true, decide_false, Bool.false_or] at hver
        simp only [List.contains_iff_mem, List.mem_cons, List.not_mem_nil, or_false] at hver
        simp only [decide_true, Bool.true_and]
        rcases hver with h | h | h | h | h <;> rw [h] <;> decide
      · simp [h1]
    have hlt : ¬ 4 ≤ rq.flags := by omega
    have hdiv : rq.flags / 2 % 2 = 0 := by omega
    have hlen : ¬ (m.len % 4 ≠ 0 ∨ 1024 < m.len ∨ 4 * m.payload.length ≠ m.len) := by omega
    simp only [Dev.msgCodes, hv, List.forall_mem_cons, hspk, ho, ha, hf, hlt, hdiv, hlen]
    simp
    exact ⟨fun hx => hf2 (by omega), fun hi hz => by rcases hf3 hi with hx | hx <;> omega⟩

/-- Nor does the ROM turn it away. -/
theorem Dev.formCodes_takes {d e : Dev} {rq : Rq} {m : Msg} {nOut : Nat} (h : d.takes rq m.op m.payload.length nOut = true)
    (hf : m.flags = rq.flags) (hv : e.version rq.src = d.version rq.src) (hr : e.romServes = d.romServes) (hl : m.len = 4 * m.payload.length)
    (ha : bitsOf m.addr 31 24 = 0)
    (ho : [OP.HELLO, OP.READ, OP.WRITE, OP.MODIFY, OP.WATCH, OP.ATTN_SCAN, OP.COMMAND, OP.CLOSE, OP.NOP].contains m.op = true) :
    ∀ c ∈ e.formCodes rq.src m, c.1 = false := by
  have hrom : e.romServes = false := hr.trans (Dev.hears_iff.1 (Dev.takes_hears h)).2.1
  simp only [Dev.formCodes, hrom, Bool.false_and, List.forall_mem_cons, true_and]
  exact Dev.msgCodes_takes h hf hv hl ha ho

theorem Dev.takes_room {d : Dev} {rq : Rq} {op nIn nOut : Nat} (h : d.takes rq op nIn nOut = true) :
    nOut ≤ replyRoom rq.src (decide (rq.flags % 2 = 1)) := by
  obtain ⟨-, -, -, -, hn, hsrc⟩ := Dev.hears_iff.1 (Dev.takes_hears h)
  obtain ⟨-, -, hf⟩ := Dev.carries_flags hsrc
  cases hs : rq.src with
  | pcie n =>
    rcases hf (by rw [hs]; rfl) with hx | hx
    · simp [replyRoom, hx, hn.2]
    · simp only [replyRoom]
      split <;> omega
  | _ => exact hn.2

theorem Dev.takes_rom {d : Dev} {rq : Rq} {op nIn nOut : Nat} (h : d.takes rq op nIn nOut = true) : d.romServes = false :=
  (Dev.hears_iff.1 (Dev.takes_hears h)).2.1

theorem Dev.takes_len {d : Dev} {rq : Rq} {op nIn nOut : Nat} (h : d.takes rq op nIn nOut = true) : nIn ≤ 256 ∧ nOut ≤ 256 :=
  (Dev.hears_iff.1 (Dev.takes_hears h)).2.2.2.2.1

theorem bitsOf_wd_full {k n : Nat} (h : k < 2 ^ 32) (h2 : k < 2 ^ (n + 1)) : bitsOf (wd k) n 0 = k := by
  have : (wd k).toNat = k := by
    rw [wd, BitVec.toNat_ofNat]
    exact Nat.mod_eq_of_lt h
  simp [bitsOf, this, Nat.mod_eq_of_lt h2]

/-- The address of a page: its page number, offset 0, no bits above. -/
theorem page_addr {p : Nat} (hp : p < 4096) :
    bitsOf (wd (4096 * p)) 31 24 = 0 ∧ bitsOf (wd (4096 * p)) 23 12 = p ∧ bitsOf (wd (4096 * p)) 11 0 = 0 := by
  have h : (wd (4096 * p)).toNat = 4096 * p := by simp [wd]; omega
  simp only [bitsOf, h, Nat.shiftRight_eq_div_pow]
  refine ⟨by omega, by omega, by omega⟩

theorem Dev.gate_serves {d : Dev} {b : Blk} (h : d.serves b = true) (dpr : Bool) : ∀ c ∈ d.gate b dpr, c.1 = false := by
  obtain ⟨h1, h2, h3, h4, h5⟩ := Dev.serves_gate h
  intro c hc
  simp only [Dev.gate, List.mem_cons, List.not_mem_nil, or_false] at hc
  rcases hc with rfl | rfl | rfl
  · exact h2
  · exact h3
  · simp only [h4, h5]
    rfl

/-- An accepted COMMAND of a block that serves runs on the device with the block's clock on. -/
theorem Dev.commandRun_ok {d : Dev} {rq : Rq} {b : Blk} {code : Nat} {ws : List Word} {a : Ans} {f : List Word → Dev → Dev × Ans}
    (hf : Dev.blockCommand rq (replyRoom rq.src (decide (rq.flags % 2 = 1))) b code = some f) (hs : d.serves b = true)
    (hok : a.code = RC.OK) (hr : d.replyWords b code ws ≤ replyRoom rq.src (decide (rq.flags % 2 = 1))) (ha : (f ws d).2 = a) :
    d.commandRun rq b code ws = ((f ws (d.wakeBlk b)).1, a) := by
  have hc : refuse ((!d.present b, RC.ABSENT)
      :: (decide (replyRoom rq.src (decide (rq.flags % 2 = 1)) < d.replyWords b code ws), RC.BAD_LENGTH)
      :: (true, (f ws d).2.code) :: d.gate b (decide (code = 0x0702))) = RC.OK := by
    have hg := Dev.gate_serves hs (decide (code = 0x0702))
    have hfil : (d.gate b (decide (code = 0x0702))).filter (fun c => c.1) = [] := by
      rw [List.filter_eq_nil_iff]
      intro c hc
      simp [hg c hc]
    have hlen : ¬ replyRoom rq.src (decide (rq.flags % 2 = 1)) < d.replyWords b code ws := by omega
    simp only [refuse, ha, hok, (Dev.serves_gate hs).1, hlen, List.filter_cons, hfil]
    simp [firstCode, codeOrder, RC.OK, RC.VERSION, RC.BAD_LENGTH, RC.BAD_ADDRESS, RC.ABSENT, RC.NOT_IN_STATE, RC.NOT_PERMITTED, RC.LOCKED,
      RC.BAD_VALUE, RC.BUSY_SELFTEST, RC.BUSY_CALIBRATION, RC.POWER, RC.FROZEN, RC.BUSY]
  simp only [ha, hok] at hc
  simp only [Dev.commandRun, hf, ha, hok, hc, if_true]

theorem Dev.serves_congr {d e : Dev} (h : d.hciOnly e) (b : Blk) : (e.event 0).serves b = d.serves b := by
  obtain ⟨x, o, rfl⟩ := Dev.hciOnly_iff.1 h
  rw [Dev.event_withHost]
  have h1 : ((d.event 0).withHost x o).pages = d.pages := by simp [Dev.withHost]
  have h2 : ((d.event 0).withHost x o).mgt = d.mgt := by simp [Dev.withHost]
  simp only [Dev.serves, Dev.present, Dev.ports, Dev.blk, Dev.page, h1, h2]
  rfl

/-- Only the pages change when a block's clock is asked for. -/
theorem Dev.wakeBlk_pages (d : Dev) (b : Blk) : ∃ P, d.wakeBlk b = { d with pages := P } := by
  unfold Dev.wakeBlk
  simp only []
  split
  · exact ⟨_, rfl⟩
  · split
    · exact ⟨_, rfl⟩
    · exact ⟨d.pages, rfl⟩

theorem Dev.asked_withHost (d : Dev) (h : Hci) (o : List Out) (b : Blk) : (d.withHost h o).asked b = (d.asked b).withHost h o := by
  rw [Dev.asked, Dev.asked, Dev.event_withHost, Dev.wakeBlk_withHost]

/-- The device that has taken a request differs in the host control interface only. -/
theorem Dev.reached_host (d : Dev) (src : Src) : ∃ h o, d.reached src = d.withHost h o ∧ d.Arrived (d.withHost h o) := by
  obtain ⟨h, o, e⟩ := Dev.hciOnly_iff.1 (d.reached_arrived src).only
  exact ⟨h, o, e, e ▸ d.reached_arrived src⟩

theorem Dev.romServes_event (d : Dev) (h : Hci) (o : List Out) (i : Nat) : ((d.withHost h o).event i).romServes = d.romServes := by
  simp [Dev.romServes, Dev.withHost]

theorem Dev.romServes_host (d : Dev) (h : Hci) (o : List Out) : ((d.event 0).withHost h o).romServes = d.romServes := by
  simp [Dev.romServes, Dev.withHost]

theorem Dev.version_event (d : Dev) (i : Nat) (src : Src) : (d.event i).version src = d.version src := by
  cases src <;> simp [Dev.version, Dev.ring]

/-- What a request that the device takes meets on the device that has taken it. -/
theorem Dev.formCodes_reached {d : Dev} {rq : Rq} {m : Msg} {nOut : Nat} {h : Hci} {o : List Out}
    (ht : d.takes rq m.op m.payload.length nOut = true) (harr : d.Arrived (d.withHost h o)) (hf : m.flags = rq.flags)
    (hl : m.len = 4 * m.payload.length) (ha : bitsOf m.addr 31 24 = 0)
    (ho : [OP.HELLO, OP.READ, OP.WRITE, OP.MODIFY, OP.WATCH, OP.ATTN_SCAN, OP.COMMAND, OP.CLOSE, OP.NOP].contains m.op = true) :
    ∀ c ∈ ((d.withHost h o).event 0).formCodes rq.src m, c.1 = false :=
  Dev.formCodes_takes ht hf (by rw [Dev.version_event, harr.version]) (Dev.romServes_event d h o 0) hl ha ho

/-- An accepted COMMAND executes its effect `f` on the device as the request finds it, and its reply follows, unless it is one that
comes later. -/
theorem command_exec {c : Instr} {s : State} {rq : Rq} {p code nOut : Nat} {b : Blk} {ws : List Word} {a : Ans}
    {f : List Word → Dev → Dev × Ans} (hx : exec c s = s.run (fun d => d.command rq p code ws))
    (ht : s.dev.takes rq OP.COMMAND ws.length nOut = true) (hb : blkOfPage p = some b) (hp : p < 4096)
    (hc : code < 65536) (hf : Dev.blockCommand rq (replyRoom rq.src (decide (rq.flags % 2 = 1))) b code = some f)
    (hs : s.dev.serves b = true) (hok : a.code = RC.OK)
    (hn : ∀ h o, ((s.dev.event 0).withHost h o).replyWords b code ws ≤ nOut)
    (h1 : ∀ h o, s.dev.Arrived (s.dev.withHost h o) → (f ws ((s.dev.event 0).withHost h o)).2 = a) :
    exec c s = s.run (fun _ =>
      let d := (f ws (s.dev.finds rq b)).1
      if a.later then d.hold rq OP.COMMAND (wd (4096 * p)) else d.respond rq (d.reply OP.COMMAND rq.tag RC.OK a.detail a.words)) := by
  obtain ⟨ha1, ha2, ha3⟩ := page_addr hp
  let m : Msg := { op := OP.COMMAND, flags := rq.flags, len := 4 * ws.length, tag := rq.tag, addr := wd (4096 * p), arg := wd code,
                   payload := ws, reqAt := rq.reqAt, rspAt := rq.rspAt }
  have hpost := Dev.post_request (m := m) (Dev.takes_hears ht) rfl
  obtain ⟨h, o, he, harr⟩ := s.dev.reached_host rq.src
  have hcodes := Dev.formCodes_reached (m := m) ht harr rfl rfl ha1 (by show List.contains _ OP.COMMAND = true; decide)
  have hserve : ((s.dev.withHost h o).event 0).serves b = true := by rw [Dev.serves_congr harr.only, hs]
  have hrun := Dev.commandRun_ok (d := (s.dev.withHost h o).event 0) (rq := rq) (ws := ws) (a := a) hf hserve hok
    (by rw [Dev.event_withHost]; exact Nat.le_trans (hn h o) (Dev.takes_room ht)) (by rw [Dev.event_withHost]; exact h1 h o harr)
  have hform : refuse (((s.dev.withHost h o).event 0).formCodes rq.src m
      ++ [(decide (bitsOf m.addr 11 0 ≠ 0), RC.BAD_ADDRESS), ((some b).isNone, RC.BAD_ADDRESS)]) = RC.OK := by
    refine refuse_nil ?_
    simp only [List.forall_mem_append, List.forall_mem_cons]
    exact ⟨hcodes, by simp [m, ha3]⟩
  have hop : ((s.dev.withHost h o).event 0).runMsg rq m = ((f ws (s.dev.finds rq b)).1, a) := by
    have hbb : blkOfPage (bitsOf m.addr 23 12) = some b := by simp [m, ha2, hb]
    have hwake : ((s.dev.withHost h o).event 0).wakeBlk b = s.dev.finds rq b := by rw [Dev.finds, he]; rfl
    have hcode : bitsOf m.arg 15 0 = code := bitsOf_wd_full (by omega) (by omega)
    rw [hwake] at hrun
    have hcm : ((s.dev.withHost h o).event 0).commandOp rq m (((s.dev.withHost h o).event 0).formCodes rq.src m)
        = ((f ws (s.dev.finds rq b)).1, a) := by
      simp only [Dev.commandOp, hbb, hform, if_true, hcode]
      exact hrun
    rw [← hcm]
    rfl
  have hexec : (s.dev.reached rq.src).execute rq.src m = ((f ws (s.dev.finds rq b)).1, a) := by
    have hseen : mpSees m = true := by simp [mpSees, m]
    rw [Dev.execute, hseen, if_pos rfl, he]
    exact hop
  rw [hx]
  simp only [State.run]
  rw [Dev.command, hpost, Dev.request, hexec]
  simp only [hok]
  cases a.later <;> rfl

/-- What an accepted COMMAND leads to: `f` is the command's effect, which answers OK with `words`. -/
theorem command_replies {c : Instr} {s : State} {rq : Rq} {p code nOut : Nat} {b : Blk} {ws words : List Word}
    {f : List Word → Dev → Dev × Ans} {Q : Dev → Prop} (hx : exec c s = s.run (fun d => d.command rq p code ws))
    (ht : s.dev.takes rq OP.COMMAND ws.length nOut = true) (hb : blkOfPage p = some b) (hp : p < 4096)
    (hc : code < 65536) (hf : Dev.blockCommand rq (replyRoom rq.src (decide (rq.flags % 2 = 1))) b code = some f)
    (hs : s.dev.serves b = true)
    (h1 : ∀ h o, s.dev.Arrived (s.dev.withHost h o) → (f ws ((s.dev.event 0).withHost h o)).2 = Ans.ok words)
    (h2 : ∀ h o, s.dev.Arrived (s.dev.withHost h o) → Q (f ws ((s.dev.asked b).withHost h o)).1)
    (hn : ∀ h o, ((s.dev.event 0).withHost h o).replyWords b code ws ≤ nOut := by
      intros; first | exact Nat.zero_le _ | exact Nat.le_refl _) :
    Replies c s rq OP.COMMAND words Q := by
  obtain ⟨h, o, he, harr⟩ := s.dev.reached_host rq.src
  refine ⟨_, ?_, command_exec hx ht hb hp hc hf hs rfl hn h1⟩
  rw [Dev.finds, he, Dev.asked_withHost]
  exact h2 h o harr

/-- What an accepted request other than CLOSE leads to, from what executing it gives on every device that differs in the host control
interface only. -/
theorem request_answers {c : Instr} {s : State} {rq : Rq} {m : Msg} {nOut : Nat} {words : List Word} {D : Dev} {Q : Dev → Prop}
    (hx : exec c s = s.run (fun d => d.post rq.src m)) (ht : s.dev.hears rq m.payload.length nOut = true) (hf : m.rq rq.src = rq)
    (hop : m.op ≠ OP.CLOSE)
    (hrun : ∀ h o, s.dev.Arrived (s.dev.withHost h o) →
      ∃ e, ((if mpSees m then s.dev.event 0 else s.dev).withHost h o).runMsg rq m = (e, Ans.ok words) ∧ D.hciOnly e
        ∧ e.hci.attnSeq = D.hci.attnSeq ∧ Q e) :
    Answers c s rq m.op words D Q := by
  have hpost := Dev.post_request (m := m) ht (congrArg Rq.flags hf)
  obtain ⟨h, o, he, harr⟩ := s.dev.reached_host rq.src
  obtain ⟨e2, hr, hD1, hD2, hQ⟩ := hrun h o harr
  refine ⟨e2, ⟨hD1, hD2, hQ⟩, ?_⟩
  have hd0 : (if mpSees m then (s.dev.withHost h o).event 0 else s.dev.withHost h o)
      = (if mpSees m then s.dev.event 0 else s.dev).withHost h o := by
    split
    · exact Dev.event_withHost _ _ _ _
    · rfl
  have hexec : (s.dev.reached rq.src).execute rq.src m = (e2, Ans.ok words) := by rw [Dev.execute, he, hd0, hf, hr]
  have htag : m.tag = rq.tag := congrArg Rq.tag hf
  rw [hx, State.run, hpost, Dev.request, hexec]
  simp [hop, hf, htag, Ans.ok]

/-- A 24-bit register address: its page and its offset. -/
theorem reg_addr {a : Nat} (h : a < 2 ^ 24) :
    bitsOf (wd a) 31 24 = 0 ∧ bitsOf (wd a) 23 12 = a / 4096 ∧ bitsOf (wd a) 11 0 = a % 4096 := by
  have h2 : (wd a).toNat = a := by simp [wd]; omega
  simp only [bitsOf, h2, Nat.shiftRight_eq_div_pow]
  refine ⟨by omega, by omega, by omega⟩

/-- An accepted WRITE of one word has its effect on the device that has taken it. -/
theorem write_performs_at {c : Instr} {s : State} {rq : Rq} {a : Nat} {v : Word} {b : Blk} {f : Dev → Dev}
    (hx : exec c s = s.run (fun d => d.write rq a v)) (ht : s.dev.takes rq OP.WRITE 1 0 = true) (ha : a < 2 ^ 24) (h4 : a % 4 = 0)
    (hb : blkOfPage (a / 4096) = some b)
    (h1 : ∀ h o, refuse (((s.dev.event 0).withHost h o).writeCodes rq.src (a / 4096) (a % 4096) v) = RC.OK)
    (h2 : ∀ d : Dev, d.writeEffect (a / 4096) (a % 4096) v = f d) :
    Performs c s rq OP.WRITE [] b f := by
  obtain ⟨ha1, ha2, ha3⟩ := reg_addr ha
  let m : Msg := { op := OP.WRITE, flags := rq.flags, len := 4, tag := rq.tag, addr := wd a, arg := 1, payload := [v],
                   reqAt := rq.reqAt, rspAt := rq.rspAt }
  have hpost := Dev.post_request (m := m) (Dev.takes_hears ht) rfl
  obtain ⟨h, o, he, harr⟩ := s.dev.reached_host rq.src
  have hcodes := Dev.formCodes_reached (m := m) ht harr rfl rfl ha1 (by show List.contains _ OP.WRITE = true; decide)
  have hpage : bitsOf m.addr 23 12 = a / 4096 := ha2
  have hoff : bitsOf m.addr 11 0 = a % 4096 := ha3
  have hrange : ∀ x ∈ ((s.dev.withHost h o).event 0).rangeCodes rq.src m, x.1 = false := by
    have h1 : a % 4096 % 4 = 0 := by omega
    have h2 : ¬ 4096 < a % 4096 + 4 := by omega
    have harg : m.arg.toNat = 1 := rfl
    simp only [Dev.rangeCodes, hpage, hoff, hb, harg, List.forall_mem_cons]
    by_cases hv : ((s.dev.withHost h o).event 0).version rq.src = some 1 <;> simp [hv, outside, h1, h2]
  have hform : refuse (((s.dev.withHost h o).event 0).formCodes rq.src m ++ ((s.dev.withHost h o).event 0).rangeCodes rq.src m
      ++ [(decide (m.len ≠ 4 * m.arg.toNat), RC.BAD_LENGTH)]) = RC.OK := by
    refine refuse_nil ?_
    simp only [List.forall_mem_append, List.forall_mem_cons]
    exact ⟨⟨hcodes, hrange⟩, rfl, by simp⟩
  have hwake : ((s.dev.withHost h o).event 0).wakeBlk b = (s.dev.asked b).withHost h o := by
    rw [Dev.event_withHost, Dev.wakeBlk_withHost]; rfl
  have hwrite : ((s.dev.withHost h o).event 0).regWrite rq.src a v
      = (((s.dev.asked b).withHost h o).writeEffect (a / 4096) (a % 4096) v, Ans.ok []) := by
    have := h1 h o
    rw [← Dev.event_withHost] at this
    simp only [Dev.regWrite, hb, this, if_true, hwake]
  have hop : ((s.dev.withHost h o).event 0).runMsg rq m
      = (((s.dev.asked b).withHost h o).writeEffect (a / 4096) (a % 4096) v, Ans.ok []) := by
    have hcm : ((s.dev.withHost h o).event 0).writeOp rq.src m (((s.dev.withHost h o).event 0).formCodes rq.src m)
        = (((s.dev.asked b).withHost h o).writeEffect (a / 4096) (a % 4096) v, Ans.ok []) := by
      have hsum : 4096 * (a / 4096) + a % 4096 = a := Nat.div_add_mod a 4096
      have hpay : m.payload = [v] := rfl
      simp only [Dev.writeOp, hform, if_true, hpage, hoff, hpay, Dev.writeWords, hsum, hwrite]
      rfl
    rw [← hcm]
    rfl
  have hexec : (s.dev.reached rq.src).execute rq.src m
      = (((s.dev.asked b).withHost h o).writeEffect (a / 4096) (a % 4096) v, Ans.ok []) := by
    have hseen : mpSees m = true := by simp [mpSees, m]
    rw [Dev.execute, hseen, if_pos rfl, he]
    exact hop
  have hfind : s.dev.finds rq b = (s.dev.asked b).withHost h o := by rw [Dev.finds, he, Dev.asked_withHost]
  rw [Performs, ← h2, hfind, hx, State.run, Dev.write, hpost, Dev.request, hexec]
  rfl

/-- What an accepted WRITE of one word leads to. -/
theorem write_replies {c : Instr} {s : State} {rq : Rq} {a : Nat} {v : Word} {b : Blk} {Q : Dev → Prop}
    (hx : exec c s = s.run (fun d => d.write rq a v)) (ht : s.dev.takes rq OP.WRITE 1 0 = true) (ha : a < 2 ^ 24) (h4 : a % 4 = 0)
    (hb : blkOfPage (a / 4096) = some b)
    (h1 : ∀ h o, refuse (((s.dev.event 0).withHost h o).writeCodes rq.src (a / 4096) (a % 4096) v) = RC.OK)
    (h2 : ∀ h o, s.dev.Arrived (s.dev.withHost h o) → Q (((s.dev.asked b).withHost h o).writeEffect (a / 4096) (a % 4096) v)) :
    Replies c s rq OP.WRITE [] Q := by
  obtain ⟨h, o, he, harr⟩ := s.dev.reached_host rq.src
  refine ⟨_, ?_, write_performs_at hx ht ha h4 hb h1 (fun d => rfl)⟩
  rw [Dev.finds, he, Dev.asked_withHost]
  exact h2 h o harr

theorem Msg.formed_iff {m : Msg} {rq : Rq} : m.formed rq = true ↔
    m.rq rq.src = rq ∧ m.flags = rq.flags ∧ m.tag = rq.tag ∧ m.len = 4 * m.payload.length ∧ bitsOf m.addr 31 24 = 0 := by
  simp only [Msg.formed, decide_eq_true_eq]
  exact ⟨fun h => ⟨h.1, congrArg Rq.flags h.1, congrArg Rq.tag h.1, h.2⟩, fun h => ⟨h.1, h.2.2.2⟩⟩

/-- A sender without a session is a ring pair or the SPI target. -/
theorem Dev.version_none {d : Dev} {rq : Rq} {nIn nOut : Nat} (h : d.hears rq nIn nOut = true) (hv : d.version rq.src = none) :
    rq.src.isAcp = false ∧ rq.src ≠ .mp := by
  obtain ⟨src, f, t, x, y⟩ := rq
  have hc := (Dev.hears_iff.1 h).2.2.2.2.2
  cases src <;> simp_all [Src.isAcp, Dev.version, Dev.carries]

/-- A request that reaches the device from a sender without a session meets no refusal but that of its operation. -/
theorem Dev.formCodes_hello {d : Dev} {rq : Rq} {m : Msg} {nIn nOut : Nat} (h : d.hears rq nIn nOut = true) (hv : d.version rq.src = none)
    (hm : m.formed rq = true) (hn : m.payload.length ≤ nIn) (hn' : nIn ≤ 12) (ho : m.op = OP.HELLO ∨ m.op = OP.NOP) :
    ∀ c ∈ d.formCodes rq.src m, c.1 = false := by
  obtain ⟨-, hm1, -, hm3, hm4⟩ := Msg.formed_iff.1 hm
  obtain ⟨-, hrom, -, -, -, hc⟩ := Dev.hears_iff.1 h
  obtain ⟨f1, f2, -⟩ := Dev.carries_flags hc
  have hlt : ¬ 4 ≤ rq.flags := by omega
  have hdiv : rq.flags / 2 % 2 = 0 := by omega
  have hlen : ¬ (m.len % 4 ≠ 0 ∨ 1024 < m.len ∨ 4 * m.payload.length ≠ m.len) := by omega
  have h12 : ¬ 12 < m.payload.length := by omega
  have hop : [OP.HELLO, OP.READ, OP.WRITE, OP.MODIFY, OP.WATCH, OP.ATTN_SCAN, OP.COMMAND, OP.CLOSE, OP.NOP].contains m.op = true := by
    rcases ho with ho | ho <;> rw [ho] <;> decide
  have hno : ¬ (m.op ≠ OP.HELLO ∧ m.op ≠ OP.NOP) := by rcases ho with ho | ho <;> simp [ho]
  simp only [Dev.formCodes, Dev.msgCodes, hrom, hv, List.forall_mem_cons, hm1, hm4, hlt, hdiv, hlen, h12, hop, hno]
  simp
  exact fun hx => f2 (by omega)

theorem Dev.formCodes_congr {d e : Dev} {src : Src} (h : e.version src = d.version src) (hm : e.mgt = d.mgt) (m : Msg) :
    e.formCodes src m = d.formCodes src m := by
  simp only [Dev.formCodes, Dev.msgCodes, Dev.romServes, h, hm]

/-! Which operation a request executes -/

theorem Dev.runMsg_hello {d : Dev} {rq : Rq} {m : Msg} (ho : m.op = OP.HELLO) : d.runMsg rq m = d.hello rq.src m (d.formCodes rq.src m) := by
  simp only [Dev.runMsg, ho]
  rfl

theorem Dev.runMsg_read {d : Dev} {rq : Rq} {m : Msg} (ho : m.op = OP.READ) : d.runMsg rq m = d.readOp rq.src m (d.formCodes rq.src m) := by
  simp only [Dev.runMsg, ho]
  rfl

theorem Dev.runMsg_write {d : Dev} {rq : Rq} {m : Msg} (ho : m.op = OP.WRITE) : d.runMsg rq m = d.writeOp rq.src m (d.formCodes rq.src m) := by
  simp only [Dev.runMsg, ho]
  rfl

theorem Dev.runMsg_modify {d : Dev} {rq : Rq} {m : Msg} (ho : m.op = OP.MODIFY) : d.runMsg rq m = d.modifyOp rq.src m (d.formCodes rq.src m) := by
  simp only [Dev.runMsg, ho]
  rfl

theorem Dev.runMsg_watch {d : Dev} {rq : Rq} {m : Msg} (ho : m.op = OP.WATCH) : d.runMsg rq m = d.watchOp rq m (d.formCodes rq.src m) := by
  simp only [Dev.runMsg, ho]
  rfl

theorem Dev.runMsg_scan {d : Dev} {rq : Rq} {m : Msg} (ho : m.op = OP.ATTN_SCAN) : d.runMsg rq m = d.scanOp rq.src m (d.formCodes rq.src m) := by
  simp only [Dev.runMsg, ho]
  rfl

theorem Dev.runMsg_command {d : Dev} {rq : Rq} {m : Msg} (ho : m.op = OP.COMMAND) : d.runMsg rq m = d.commandOp rq m (d.formCodes rq.src m) := by
  simp only [Dev.runMsg, ho]
  rfl

theorem Dev.runMsg_plain {d : Dev} {rq : Rq} {m : Msg} (ho : m.op = OP.CLOSE ∨ m.op = OP.NOP)
    (hc : ∀ c ∈ d.formCodes rq.src m, c.1 = false) (hl : m.len = 0) : d.runMsg rq m = (d, Ans.ok []) := by
  have hr : refuse (d.formCodes rq.src m ++ [(decide (m.len ≠ 0), RC.BAD_LENGTH)]) = RC.OK := by
    refine refuse_nil ?_
    simp only [List.forall_mem_append, List.forall_mem_cons]
    exact ⟨hc, by simp [hl]⟩
  simp only [ne_eq, decide_not] at hr
  rcases ho with ho | ho <;> simp [Dev.runMsg, ho, hr, OP.HELLO, OP.READ, OP.WRITE, OP.MODIFY, OP.WATCH, OP.ATTN_SCAN, OP.COMMAND,
    OP.CLOSE, OP.NOP]

/-- The conditions of a list and of a longer one. -/
theorem all_append {cs ds : List (Bool × Nat)} (h1 : ∀ c ∈ cs, c.1 = false) (h2 : ∀ c ∈ ds, c.1 = false) : ∀ c ∈ cs ++ ds, c.1 = false := by
  intro c hc
  rcases List.mem_append.1 hc with hc | hc
  · exact h1 c hc
  · exact h2 c hc

/-! Registers do not depend on the host control interface's sessions -/

theorem Dev.blockPre_withHost (d : Dev) (h : Hci) (o : List Out) (src : Src) (b : Blk) (off : Nat) (v : Word) :
    (d.withHost h o).blockPre src b off v = d.blockPre src b off v := by
  cases b <;> rfl

theorem Dev.headerPre_withHost (d : Dev) (h : Hci) (o : List Out) (src : Src) (b : Blk) (p off : Nat) (v : Word) :
    (d.withHost h o).headerPre src b p off v = d.headerPre src b p off v := rfl

theorem Dev.writeCodes_withHost (d : Dev) (h : Hci) (o : List Out) (src : Src) (p off : Nat) (v : Word) :
    (d.withHost h o).writeCodes src p off v = d.writeCodes src p off v := by
  simp only [Dev.writeCodes, Dev.blockPre_withHost, Dev.headerPre_withHost]
  rfl

theorem Dev.readCodes_withHost (d : Dev) (h : Hci) (o : List Out) (p off : Nat) :
    (d.withHost h o).readCodes p off = d.readCodes p off := rfl

theorem Dev.live_withHost (d : Dev) (h : Hci) (o : List Out) (b : Blk) (off : Nat) (hs : h.attnSeq = d.hci.attnSeq)
    (hw : h.hwm = d.hci.hwm) : (d.withHost h o).live b off = d.live b off := by
  cases b <;> try rfl
  simp only [Dev.live, Dev.withHost, hs, hw]

theorem Dev.readValue_withHost (d : Dev) (h : Hci) (o : List Out) (p off : Nat) (hs : h.attnSeq = d.hci.attnSeq)
    (hw : h.hwm = d.hci.hwm) : (d.withHost h o).readValue p off = d.readValue p off := by
  simp only [Dev.readValue, Dev.live_withHost _ _ _ _ _ hs hw]
  rfl

/-! Changes that leave the availability of the links -/

theorem Dev.linkEdge_same {d : Dev} {b : Bool} {r : Radio} (h : d.avail r = b) : Dev.linkEdge b r d = d := by
  subst h
  simp only [Dev.linkEdge]
  cases d.avail r <;> simp

theorem Dev.withLinks_same {d : Dev} {f : Dev → Dev} (h : ∀ r, (f d).avail r = d.avail r) : d.withLinks f = f d := by
  simp only [Dev.withLinks]
  rw [Dev.linkEdge_same (h .a), Dev.linkEdge_same (h .b), Dev.linkEdge_same (h .c)]

theorem Dev.rd_wr_ne (d : Dev) {a b : Nat} (v : Word) (h : b ≠ a) : (d.wr a v).rd b = d.rd b := by
  simp only [Dev.rd, Dev.wr, tabGet, tabSet]
  split
  · rw [tabFind_del_ne _ h]
  · rw [tabFind_put_ne _ _ h]

theorem linkReg_ne {a : Nat} (h : linkReg a = false) : a ≠ A.MLD.LINK_CTRL ∧ a ≠ A.MSH.MESH_CFG := by simpa [linkReg] using h

theorem Dev.avail_wr {d : Dev} {a : Nat} {v : Word} (h : linkReg a = false) (r : Radio) : (d.wr a v).avail r = d.avail r := by
  obtain ⟨h1, h2⟩ := linkReg_ne h
  have hr : (d.wr a v).bit A.MLD.LINK_CTRL r.num = d.bit A.MLD.LINK_CTRL r.num := by
    rw [Dev.bit, Dev.rd_wr_ne _ _ (Ne.symm h1)]
    rfl
  have hm : (d.wr a v).offMesh r = d.offMesh r := by
    simp only [Dev.offMesh, Dev.meshOn, Dev.meshRadio, Dev.bit, Dev.fld, Dev.rd_wr_ne _ _ (Ne.symm h2)]
    rfl
  simp only [Dev.avail, Dev.linkReason, hr, hm]
  rfl

theorem Dev.withLinks_wr {d : Dev} {a : Nat} {v : Word} (h : linkReg a = false) : d.withLinks (fun d => d.wr a v) = d.wr a v :=
  Dev.withLinks_same (Dev.avail_wr h)

/-- A register that is only stored is none of the mesh's. -/
theorem linkReg_plain {a : Nat} {b : Blk} (hb : blkOfPage (a / 4096) = some b) (hp : plainReg b (a % 4096) = true)
    (h : a ≠ A.MLD.LINK_CTRL) : linkReg a = false := by
  have h2 : a ≠ A.MSH.MESH_CFG := by
    rintro rfl
    have : blkOfPage (A.MSH.MESH_CFG / 4096) = some .msh := by decide
    rw [this] at hb
    cases hb
    simp [plainReg] at hp
  simp [linkReg, h, h2]

theorem Dev.withLinks_setPage {d : Dev} {f : Dev → Page} {p : Nat} : d.withLinks (fun d => d.setPage p (f d)) = d.setPage p (f d) :=
  Dev.withLinks_same (fun _ => rfl)

/-! Reading and writing back -/

@[simp] theorem Dev.rd_wr_same (d : Dev) (a : Nat) (v : Word) : (d.wr a v).rd a = v := by
  simp [Dev.rd, Dev.wr]

@[simp] theorem Dev.page_setPage_same (d : Dev) (p : Nat) (g : Page) : (d.setPage p g).page p = g := by
  simp [Dev.page, Dev.setPage]

theorem Dev.page_setPage_ne (d : Dev) {p q : Nat} (g : Page) (h : q ≠ p) : (d.setPage p g).page q = d.page q := by
  simp [Dev.page, Dev.setPage, tabFind_put_ne _ _ h]

/-- What an accepted WRITE of one word leads to, from what its effect gives on every device that differs in the host control interface
only. -/
theorem accepts_replies {c : Instr} {s : State} {rq : Rq} {a : Nat} {v : Word} {b : Blk} {Q : Dev → Prop}
    (hx : exec c s = s.run (fun d => d.write rq a v)) (ha : s.dev.accepts rq a v b = true)
    (h2 : ∀ h o, s.dev.Arrived (s.dev.withHost h o) → Q (((s.dev.asked b).withHost h o).writeEffect (a / 4096) (a % 4096) v)) :
    Replies c s rq OP.WRITE [] Q := by
  simp only [Dev.accepts, Bool.and_eq_true, decide_eq_true_eq] at ha
  obtain ⟨⟨ht, h24, h4, hb⟩, hr⟩ := ha
  exact write_replies hx ht h24 h4 hb (fun h o => by rw [Dev.writeCodes_withHost]; exact hr) h2

theorem Dev.writeEffect_reg {d : Dev} {a : Nat} {v : Word} {b : Blk} {r : RegDef} (hb : blkOfPage (a / 4096) = some b)
    (ho : 0x040 ≤ a % 4096) (hr : regAt b (a % 4096) = some r) (hl : linkReg a = false) :
    d.writeEffect (a / 4096) (a % 4096) v
      = (d.wr a (r.next (d.rd a) v)).blockPost b (a % 4096) (d.rd a) (r.next (d.rd a) v) v := by
  have hlt : ¬ a % 4096 < 0x040 := by omega
  have hsum : 4096 * (a / 4096) + a % 4096 = a := Nat.div_add_mod a 4096
  simp only [Dev.writeEffect, hb, hlt, if_false, hr, hsum, Dev.withLinks_wr hl]

/-- Nothing follows from a write of a register that is only stored. -/
theorem Dev.plain_post {b : Blk} {o : Nat} (d : Dev) (h : plainReg b o = true) (x y v : Word) : d.blockPost b o x y v = d := by
  cases b <;> first
    | rfl
    | (simp [plainReg] at h; done)
    | (simp only [plainReg, decide_eq_true_eq] at h; simp [Dev.blockPost, ascPost, tmgPost, h])

/-- What an accepted WRITE of a register that is only stored leads to. -/
theorem plain_answers {c : Instr} {s : State} {rq : Rq} {a : Nat} {v : Word} {b : Blk} {r : RegDef}
    (hx : exec c s = s.run (fun d => d.write rq a v)) (ha : s.dev.accepts rq a v b = true) (ho : 0x040 ≤ a % 4096)
    (hr : regAt b (a % 4096) = some r) (hl : a ≠ A.MLD.LINK_CTRL) (hp : plainReg b (a % 4096) = true) :
    Answers c s rq OP.WRITE [] ((s.dev.asked b).wr a (r.next ((s.dev.asked b).rd a) v)) := by
  have ha2 := ha
  simp only [Dev.accepts, Bool.and_eq_true, decide_eq_true_eq] at ha2
  refine accepts_replies hx ha ?_
  intro h o harr
  rw [Dev.writeEffect_reg ha2.1.2.2.2 ho hr (linkReg_plain ha2.1.2.2.2 hp hl), Dev.plain_post _ hp]
  refine ⟨rfl, ?_, trivial⟩
  have hs : h.attnSeq = s.dev.hci.attnSeq := harr.seq
  simp [Dev.withHost, hs, Dev.asked]

/-! What a request performs -/

theorem Dev.asked_arrived {d : Dev} {h : Hci} {o : List Out} {b : Blk} (ha : d.Arrived (d.withHost h o)) :
    (d.asked b).Arrived ((d.asked b).withHost h o) := by
  have hv : ∀ (e : Dev) src, (e.asked b).version src = e.version src := by
    intro e src; cases src <;> simp [Dev.version, Dev.ring, Dev.asked]
  have hw : ∀ (e : Dev) src, (e.asked b).watchOf src = e.watchOf src := by
    intro e src; cases src <;> simp [Dev.watchOf, Dev.ring, Dev.asked]
  rw [← Dev.asked_withHost]
  exact {
    only := by rw [Dev.asked_withHost]; rfl
    seq := by simpa [Dev.asked] using ha.seq
    marks := by simpa [Dev.asked] using ha.marks
    keys := by simpa [Dev.asked] using ha.keys
    out := by simpa [Dev.asked] using ha.out
    version := fun src => by rw [hv, hv, ha.version]
    watch := fun src => by rw [hw, hw, ha.watch] }

/-- The device that a request finds differs in the host control interface only, from one that is asked for nothing. -/
theorem Dev.finds_host (d : Dev) (rq : Rq) (b : Blk) : ∃ h o, d.finds rq b = (d.asked b).withHost h o ∧ d.Arrived (d.withHost h o)
    ∧ (d.asked b).Arrived (d.finds rq b) := by
  obtain ⟨h, o, he, harr⟩ := d.reached_host rq.src
  have e : d.finds rq b = (d.asked b).withHost h o := by rw [Dev.finds, he, Dev.asked_withHost]
  exact ⟨h, o, e, harr, e ▸ Dev.asked_arrived harr⟩

/-- An accepted WRITE performs the effect of its word. -/
theorem accepts_performs {c : Instr} {s : State} {rq : Rq} {a : Nat} {v : Word} {b : Blk} {f : Dev → Dev}
    (hx : exec c s = s.run (fun d => d.write rq a v)) (ha : s.dev.accepts rq a v b = true)
    (hf : ∀ d : Dev, d.writeEffect (a / 4096) (a % 4096) v = f d) : Performs c s rq OP.WRITE [] b f := by
  simp only [Dev.accepts, Bool.and_eq_true, decide_eq_true_eq] at ha
  obtain ⟨⟨ht, h24, h4, hb⟩, hc⟩ := ha
  exact write_performs_at hx ht h24 h4 hb (fun h o => by rw [Dev.writeCodes_withHost]; exact hc) hf

/-- An accepted WRITE performs what follows from the stored word. -/
theorem write_performs {c : Instr} {s : State} {rq : Rq} {a : Nat} {v : Word} {b : Blk} {f : Dev → Dev}
    (hx : exec c s = s.run (fun d => d.write rq a v)) (ha : s.dev.accepts rq a v b = true) (ho : 0x040 ≤ a % 4096)
    (hr : (regAt b (a % 4096)).isSome = true)
    (hf : ∀ d : Dev, (d.withLinks (fun d => d.stored b a v)).blockPost b (a % 4096) (d.rd a) ((d.stored b a v).rd a) v = f d) :
    Performs c s rq OP.WRITE [] b f := by
  have hb : blkOfPage (a / 4096) = some b := by
    simp only [Dev.accepts, Bool.and_eq_true, decide_eq_true_eq] at ha
    exact ha.1.2.2.2
  refine accepts_performs hx ha (fun d => ?_)
  have hlt : ¬ a % 4096 < 0x040 := by omega
  have hsum : 4096 * (a / 4096) + a % 4096 = a := Nat.div_add_mod a 4096
  rw [← hf d]
  cases hreg : regAt b (a % 4096) with
  | none => simp [hreg] at hr
  | some r => simp only [Dev.writeEffect, hb, hlt, if_false, hreg, hsum, Dev.stored, Dev.rd_wr_same]; rfl

/-- Storing a register leaves the links, but for those they depend on. -/
theorem Dev.withLinks_stored {d : Dev} {a : Nat} {v : Word} {b : Blk} (h : linkReg a = false) :
    d.withLinks (fun d => d.stored b a v) = d.stored b a v := by
  refine Dev.withLinks_same ?_
  intro r
  simp only [Dev.stored]
  split
  · exact Dev.avail_wr h r
  · rfl

/-- An accepted COMMAND performs its effect. -/
theorem command_performs {c : Instr} {s : State} {rq : Rq} {p code nOut : Nat} {b : Blk} {ws words : List Word}
    {g : List Word → Dev → Dev × Ans} {f : Dev → Dev} (hx : exec c s = s.run (fun d => d.command rq p code ws))
    (ht : s.dev.takes rq OP.COMMAND ws.length nOut = true) (hb : blkOfPage p = some b) (hp : p < 4096)
    (hc : code < 65536) (hf : Dev.blockCommand rq (replyRoom rq.src (decide (rq.flags % 2 = 1))) b code = some g)
    (hs : s.dev.serves b = true)
    (h1 : ∀ h o, s.dev.Arrived (s.dev.withHost h o) → (g ws ((s.dev.event 0).withHost h o)).2 = Ans.ok words)
    (h2 : ∀ h o, s.dev.Arrived (s.dev.withHost h o) → (g ws ((s.dev.asked b).withHost h o)).1 = f ((s.dev.asked b).withHost h o))
    (hn : ∀ h o, ((s.dev.event 0).withHost h o).replyWords b code ws ≤ nOut := by
      intros; first | exact Nat.zero_le _ | exact Nat.le_refl _) :
    Performs c s rq OP.COMMAND words b f := by
  obtain ⟨h, o, he, harr, -⟩ := s.dev.finds_host rq b
  have hd : (g ws (s.dev.finds rq b)).1 = f (s.dev.finds rq b) := by rw [he]; exact h2 h o harr
  rw [Performs, ← hd]
  exact command_exec hx ht hb hp hc hf hs rfl hn h1

/-- The device that a COMMAND's checks find, and the device its effect finds, in one form. -/
theorem Dev.asked_form (d : Dev) (b : Blk) (h : Hci) (o : List Out) :
    (d.event 0).withHost h o = { d.asked b with pages := (d.event 0).pages, hci := h, out := o } := by
  obtain ⟨P, hP⟩ := Dev.wakeBlk_pages (d.event 0) b
  simp only [Dev.asked, hP, Dev.withHost]

/-- An accepted COMMAND whose reply comes later. -/
theorem command_defers {c : Instr} {s : State} {rq : Rq} {p code nOut : Nat} {b : Blk} {ws : List Word} {a : Ans}
    {g : List Word → Dev → Dev × Ans} {f : Dev → Dev} (hx : exec c s = s.run (fun d => d.command rq p code ws))
    (ht : s.dev.takes rq OP.COMMAND ws.length nOut = true) (hb : blkOfPage p = some b) (hp : p < 4096)
    (hc : code < 65536) (hf : Dev.blockCommand rq (replyRoom rq.src (decide (rq.flags % 2 = 1))) b code = some g)
    (hs : s.dev.serves b = true) (hok : a.code = RC.OK) (hl : a.later = true)
    (hg : ∀ P h o, s.dev.Arrived (s.dev.withHost h o) → let d : Dev := { s.dev.asked b with pages := P, hci := h, out := o }
      g ws d = (f d, a))
    (hn : ∀ h o, ((s.dev.event 0).withHost h o).replyWords b code ws ≤ nOut := by
      intros; first | exact Nat.zero_le _ | exact Nat.le_refl _) :
    Defers c s rq p b f := by
  obtain ⟨h, o, he, harr, -⟩ := s.dev.finds_host rq b
  have hd : (g ws (s.dev.finds rq b)).1 = f (s.dev.finds rq b) := by
    rw [he]; exact congrArg Prod.fst (hg (s.dev.asked b).pages h o harr)
  rw [Defers, ← hd, command_exec hx ht hb hp hc hf hs hok hn (fun h o harr => by rw [Dev.asked_form, hg _ h o harr])]
  simp only [State.run, hl, if_true]

/-- A command of the usual form: conditions that refuse it, then its effect. The conditions are those of the device as the command
finds it; they do not look at the pages. The form is needed only on such devices. -/
theorem cmdIf_found {c : Instr} {s : State} {rq : Rq} {p code nOut : Nat} {b : Blk} {ws words : List Word}
    {g : List Word → Dev → Dev × Ans} {f : Dev → Dev} {cs : Dev → List (Bool × Nat)} {e : Dev → Dev × List Word}
    (hx : exec c s = s.run (fun d => d.command rq p code ws))
    (ht : s.dev.takes rq OP.COMMAND ws.length nOut = true) (hb : blkOfPage p = some b) (hp : p < 4096)
    (hc : code < 65536) (hf : Dev.blockCommand rq (replyRoom rq.src (decide (rq.flags % 2 = 1))) b code = some g)
    (hs : s.dev.serves b = true)
    (hg : ∀ P h o, let d : Dev := { s.dev.asked b with pages := P, hci := h, out := o }; g ws d = cmdIf d (cs d) (e d))
    (h1 : ∀ P h o, s.dev.Arrived (s.dev.withHost h o) → ∀ c ∈ cs { s.dev.asked b with pages := P, hci := h, out := o }, c.1 = false)
    (h4 : ∀ P h o, (e { s.dev.asked b with pages := P, hci := h, out := o }).2 = words)
    (h2 : ∀ d, (e d).1 = f d)
    (hn : ∀ h o, ((s.dev.event 0).withHost h o).replyWords b code ws ≤ nOut := by
      intros; first | exact Nat.zero_le _ | exact Nat.le_refl _) :
    Performs c s rq OP.COMMAND words b f := by
  refine command_performs hx ht hb hp hc hf hs ?_ ?_ hn
  · intro h o harr
    rw [Dev.asked_form _ b, hg, cmdIf_ok (h1 _ h o harr), h4]
  · intro h o harr
    have := h1 (s.dev.asked b).pages h o harr
    show (g ws { s.dev.asked b with pages := (s.dev.asked b).pages, hci := h, out := o }).1 = _
    rw [hg, cmdIf_ok this]
    exact h2 _

/-- A command of the usual form: conditions that refuse it, then its effect. -/
theorem cmdIf_asked {c : Instr} {s : State} {rq : Rq} {p code nOut : Nat} {b : Blk} {ws words : List Word}
    {g : List Word → Dev → Dev × Ans} {f : Dev → Dev} {cs : Dev → List (Bool × Nat)} {e : Dev → Dev × List Word}
    (hx : exec c s = s.run (fun d => d.command rq p code ws))
    (ht : s.dev.takes rq OP.COMMAND ws.length nOut = true) (hb : blkOfPage p = some b) (hp : p < 4096)
    (hc : code < 65536) (hf : Dev.blockCommand rq (replyRoom rq.src (decide (rq.flags % 2 = 1))) b code = some g)
    (hs : s.dev.serves b = true) (hg : ∀ d, g ws d = cmdIf d (cs d) (e d))
    (h1 : ∀ P h o, s.dev.Arrived (s.dev.withHost h o) → ∀ c ∈ cs { s.dev.asked b with pages := P, hci := h, out := o }, c.1 = false)
    (h4 : ∀ P h o, (e { s.dev.asked b with pages := P, hci := h, out := o }).2 = words)
    (h2 : ∀ d, (e d).1 = f d)
    (hn : ∀ h o, ((s.dev.event 0).withHost h o).replyWords b code ws ≤ nOut := by
      intros; first | exact Nat.zero_le _ | exact Nat.le_refl _) :
    Performs c s rq OP.COMMAND words b f :=
  cmdIf_found hx ht hb hp hc hf hs (fun _ _ _ => hg _) h1 h4 h2 hn

/-- An accepted COMMAND performs `f`, where its effect is `f` on every device it can find. -/
theorem command_found {c : Instr} {s : State} {rq : Rq} {p code nOut : Nat} {b : Blk} {ws words : List Word}
    {g : List Word → Dev → Dev × Ans} {f : Dev → Dev} (hx : exec c s = s.run (fun d => d.command rq p code ws))
    (ht : s.dev.takes rq OP.COMMAND ws.length nOut = true) (hb : blkOfPage p = some b) (hp : p < 4096)
    (hc : code < 65536) (hf : Dev.blockCommand rq (replyRoom rq.src (decide (rq.flags % 2 = 1))) b code = some g)
    (hs : s.dev.serves b = true)
    (hg : ∀ P h o, s.dev.Arrived (s.dev.withHost h o) → let d : Dev := { s.dev.asked b with pages := P, hci := h, out := o }
      g ws d = (f d, Ans.ok words))
    (hn : ∀ h o, ((s.dev.event 0).withHost h o).replyWords b code ws ≤ nOut := by
      intros; first | exact Nat.zero_le _ | exact Nat.le_refl _) :
    Performs c s rq OP.COMMAND words b f := by
  refine command_performs hx ht hb hp hc hf hs ?_ ?_ hn
  · intro h o harr
    rw [Dev.asked_form _ b, hg _ h o harr]
  · intro h o harr
    exact congrArg Prod.fst (hg (s.dev.asked b).pages h o harr)

/-- What an accepted request other than CLOSE performs, from what executing it gives on every device it can find. -/
theorem request_performs {c : Instr} {s : State} {rq : Rq} {m : Msg} {nOut : Nat} {words : List Word} {b : Blk} {f : Dev → Dev}
    (hx : exec c s = s.run (fun d => d.post rq.src m)) (ht : s.dev.hears rq m.payload.length nOut = true) (hf : m.rq rq.src = rq)
    (hop : m.op ≠ OP.CLOSE) (hsees : mpSees m = true)
    (hrun : ∀ h o, s.dev.Arrived (s.dev.withHost h o) → s.dev.finds rq b = (s.dev.asked b).withHost h o →
      ((s.dev.event 0).withHost h o).runMsg rq m = (f ((s.dev.asked b).withHost h o), Ans.ok words)) :
    Performs c s rq m.op words b f := by
  have hpost := Dev.post_request (m := m) ht (congrArg Rq.flags hf)
  have htag : m.tag = rq.tag := congrArg Rq.tag hf
  obtain ⟨h, o, he, harr⟩ := s.dev.reached_host rq.src
  have hfind : s.dev.finds rq b = (s.dev.asked b).withHost h o := by rw [Dev.finds, he, Dev.asked_withHost]
  have hexec : (s.dev.reached rq.src).execute rq.src m = (f (s.dev.finds rq b), Ans.ok words) := by
    rw [Dev.execute, hsees, if_pos rfl, he, Dev.event_withHost, hf, hfind]
    exact hrun h o harr hfind
  rw [Performs, hx, State.run, hpost, Dev.request, hexec]
  simp only [Ans.ok, hop, hf, htag, false_and, if_false, Bool.false_eq_true]

/-- Posting an entry in a data ring that takes it at once. -/
theorem Dev.postData_taken {d e : Dev} {n : Nat} {ws : List Word} {h : Hdr} {m : Msg} (ht : d.takesData n = true)
    (hm0 : m = { op := 0, flags := 0, len := 0, tag := 0, addr := 0, arg := 0, payload := [] })
    (hd : (d.tookData n).dataEntry n { msg := m, words := ws, frame := h } = some e) : d.postData n ws h = e := by
  simp only [Dev.takesData, Bool.and_eq_true, decide_eq_true_eq, List.isEmpty_iff, Bool.not_eq_true', and_assoc] at ht
  obtain ⟨hup, hl, hwake, hon, ht, hh, hw, hf, hk⟩ := ht
  let r : Ring := { d.ring n with prod := ((d.ring n).prod + 1) % (d.ring n).size, held := [⟨m, ws, h⟩] }
  have hpost : d.postData n ws h = (d.setRing n r).ringRun n 1 := by
    simp [Dev.postData, hup, hl, hon, ht, hwake, Dev.ringPost, hh, r, hm0]
  have hmay : r.mayTake = true := by
    show ((d.ring n).enable && (d.ring n).waiting.isEmpty && !(d.ring n).full) = true
    simp [hon, hw, hf]
  have hr : (d.setRing n r).ring n = r := Dev.ring_setRing_same d n r
  have hgo : (!r.mayTake || decide (r.typ = 1) || (d.setRing n r).ringStuck n) = false := by
    have hs : (d.setRing n r).ringStuck n = false := hk
    have h1 : r.typ ≠ 1 := by rw [show r.typ = 2 from ht]; decide
    simp [hmay, hs, h1]
  have hs : (d.setRing n r).setRing n { r with held := [], reqPos := (r.reqPos + 1) % r.size } = d.tookData n :=
    Dev.setRing_setRing d n r _
  rw [hpost]
  simp only [Dev.ringRun, hr, hgo, show r.held = [⟨m, ws, h⟩] from rfl, Bool.false_eq_true, if_false, hs, hd]

/-! WATCH -/

/-- Where no WATCH is overdue, none is answered. -/
theorem Dev.answerWatches_id {d : Dev} (h : d.WatchesAnswered) : d.answerWatches = d := by
  rw [Dev.answerWatches_eq]
  have hstep : ∀ src, d.watchStep src = d := by
    intro src
    simp only [Dev.watchStep]
    cases hw : d.watchOf src with
    | none => rfl
    | some w => simp [h src w hw]
  generalize d.sessions = l
  induction l with
  | nil => rfl
  | cons a l ih => rw [List.foldl_cons, hstep, ih]

@[simp] theorem Dev.setWatch_attnSeq (d : Dev) (src : Src) (w : Option Watch) : (d.setWatch src w).hci.attnSeq = d.hci.attnSeq := by
  cases src <;> try rfl
  simp only [Dev.setWatch]
  split <;> rfl

@[simp] theorem Dev.setWatch_out (d : Dev) (src : Src) (w : Option Watch) : (d.setWatch src w).out = d.out := by
  cases src <;> try rfl
  simp only [Dev.setWatch]
  split <;> rfl

/-- Setting the WATCH of one session leaves those of the others. -/
theorem Dev.watchOf_setWatch_ne (d : Dev) {src x : Src} (w : Option Watch) (h : x ≠ src) : (d.setWatch src w).watchOf x = d.watchOf x := by
  cases src with
  | pcie n =>
    cases x <;> try rfl
    rename_i k
    have hk : k ≠ n := fun hk => h (by rw [hk])
    simp [Dev.setWatch, Dev.watchOf, Dev.ring, Dev.setRing, tabFind_put_ne _ _ hk]
  | spi => cases x <;> first | rfl | exact absurd rfl h
  | acp id =>
    simp only [Dev.setWatch]
    split
    · rfl
    · cases x <;> try rfl
      rename_i k
      have hk : k ≠ id := fun hk => h (by rw [hk])
      simp [Dev.watchOf, tabFind_put_ne _ _ hk]
  | mp => rfl

/-- Ending a session's WATCH. -/
theorem Dev.watchOf_setWatch_none (d : Dev) (src : Src) : (d.setWatch src none).watchOf src = none := by
  cases src with
  | pcie n => simp [Dev.setWatch, Dev.watchOf]
  | spi => rfl
  | acp id =>
    simp only [Dev.setWatch]
    split
    · rename_i h; simp [Dev.watchOf, h]
    · simp [Dev.watchOf]
  | mp => rfl

/-- An open session holds the WATCH it is given. -/
theorem Dev.watchOf_setWatch_same (d : Dev) {src : Src} (w : Option Watch) (h : src ≠ .mp) (hv : (d.version src).isSome) :
    (d.setWatch src w).watchOf src = w := by
  cases src with
  | pcie n => simp [Dev.setWatch, Dev.watchOf]
  | spi => rfl
  | acp id =>
    simp only [Dev.setWatch]
    split
    · rename_i hn; simp [Dev.version, hn] at hv
    · simp [Dev.watchOf]
  | mp => exact absurd rfl h

/-- Writing an entry of a ring leaves every open WATCH. -/
theorem Dev.ringPut_watchOf (d : Dev) (n : Nat) (ws : List Word) (host : Nat) (p : List Word) (x : Src) :
    (d.ringPut n ws host p).watchOf x = d.watchOf x := by
  have hset : ∀ (e : Dev) (r : Ring), r.watch = (e.ring n).watch → (e.setRing n r).watchOf x = e.watchOf x := by
    intro e r hr
    cases x with
    | pcie k =>
      by_cases hk : k = n
      · subst hk; simp [Dev.watchOf, hr]
      · simp [Dev.watchOf, Dev.ring, Dev.setRing, tabFind_put_ne _ _ hk]
    | _ => rfl
  have hm : ∀ (e : Dev) v, (e.msix v).watchOf x = e.watchOf x := by
    intro e v
    unfold Dev.msix
    split <;> cases x <;> rfl
  unfold Dev.ringPut
  simp only
  split
  · rfl
  · split
    · exact hset d _ rfl
    · unfold Dev.ringWrite
      rw [hm]
      refine (hset _ _ ?_).trans ?_
      · rfl
      · cases x <;> rfl

/-- Sending a reply leaves every open WATCH. -/
theorem Dev.deliver_watchOf (d : Dev) (src : Src) (addr : Option Nat) (r : Reply) (x : Src) : (d.deliver src addr r).watchOf x = d.watchOf x := by
  cases src with
  | pcie n => cases addr <;> exact d.ringPut_watchOf _ _ _ _ x
  | spi => cases x <;> rfl
  | mp => cases x <;> rfl
  | acp id =>
    simp only [Dev.deliver]
    split
    · rfl
    · rename_i a ha
      have h1 : tabFind (d.acpSend id a [r]).hci.acp id = some { a with txCtr := a.txCtr + 1 } := by simp [Dev.acpSend]
      cases x with
      | acp k =>
        by_cases hk : k = id
        · subst hk
          simp [Dev.watchOf, Dev.acpKeep, h1, ha]
        · simp [Dev.watchOf, Dev.acpKeep, tabFind_put_ne _ _ hk, Dev.acpSend, Dev.emit]
      | _ => simp only [Dev.acpKeep, h1]; rfl

/-- Answering a session's WATCH ends it and leaves those of the others. -/
theorem Dev.answerWatch_watchOf (d : Dev) (src : Src) (det : Nat) (x : Src) :
    (d.answerWatch src det).watchOf x = if x = src then none else d.watchOf x := by
  unfold Dev.answerWatch
  split
  · rename_i hw
    split
    · rename_i hx; rw [hx]; exact hw
    · rfl
  · rw [Dev.deliver_watchOf]
    split
    · rename_i hx; rw [hx]; exact d.watchOf_setWatch_none src
    · rename_i hx; exact d.watchOf_setWatch_ne none hx

/-! Lists of conditions, joined -/

theorem refuse_ok_iff {cs : List (Bool × Nat)} : refuse cs = RC.OK ↔ ∀ k ∈ codeOrder, (true, k) ∉ cs := by
  have hmem : ∀ k, ((cs.filter (fun c => c.1)).map (fun c => c.2)).contains k = true ↔ (true, k) ∈ cs := by
    intro k
    rw [List.contains_iff_mem, List.mem_map]
    constructor
    · rintro ⟨⟨x, y⟩, hc, rfl⟩
      rw [List.mem_filter] at hc
      obtain ⟨hc, hx⟩ := hc
      simp only at hx
      rw [hx] at hc
      exact hc
    · intro h
      exact ⟨(true, k), List.mem_filter.2 ⟨h, rfl⟩, rfl⟩
  simp only [refuse, firstCode]
  cases hf : codeOrder.find? (fun c => ((cs.filter (fun c => c.1)).map (fun c => c.2)).contains c) with
  | none =>
    refine ⟨fun _ k hk hc => ?_, fun _ => rfl⟩
    have := List.find?_eq_none.1 hf k hk
    exact this ((hmem k).2 hc)
  | some x =>
    have hx := List.find?_some hf
    have hin := List.mem_of_find?_eq_some hf
    refine ⟨fun h => ?_, fun h => absurd ((hmem x).1 hx) (h x hin)⟩
    simp only [Option.getD_some] at h
    subst h
    exact absurd hin (by decide)

theorem refuse_append {cs ds : List (Bool × Nat)} (h1 : refuse cs = RC.OK) (h2 : refuse ds = RC.OK) : refuse (cs ++ ds) = RC.OK := by
  rw [refuse_ok_iff] at *
  intro k hk hc
  rcases List.mem_append.1 hc with hc | hc
  · exact h1 k hk hc
  · exact h2 k hk hc

/-- A request that the MP does not see and that is answered at once. -/
theorem Dev.request_unseen {d e : Dev} {rq : Rq} {m : Msg} {a : Ans} (hs : mpSees m = false) (hf : m.rq rq.src = rq)
    (hr : d.runMsg rq m = (e, a)) (hl : a.later = false) :
    d.request rq.src m =
      (let r := e.reply m.op rq.tag a.code a.detail a.words
       if m.op = OP.CLOSE ∧ a.code = RC.OK then ((e.acpCut rq.src).respond rq r).endSession rq.src else e.respond rq r) := by
  have htag : m.tag = rq.tag := congrArg Rq.tag hf
  have hx : d.execute rq.src m = (e, a) := by rw [Dev.execute, hs, hf]; exact hr
  rw [Dev.request, hx, hf]
  simp only [hl, htag, Bool.false_eq_true, if_false]

/-- A WATCH that the device takes. -/
theorem Dev.request_watch {d e : Dev} {rq : Rq} {m : Msg} {a : Ans} (ho : m.op = OP.WATCH) (hf : m.rq rq.src = rq)
    (hr : d.runMsg rq m = (e, a)) (hl : a.later = true) : d.request rq.src m = e.passOver rq.src := by
  have hs : mpSees m = false := by simp [mpSees, ho, OP.WATCH, OP.WRITE, OP.MODIFY, OP.COMMAND, OP.READ]
  have hx : d.execute rq.src m = (e, a) := by rw [Dev.execute, hs, hf]; exact hr
  rw [Dev.request, hx]
  simp only [hl, ho, if_true]

/-! The medium -/

/-- What an event does to the medium depends on what it does to the device. -/
theorem Dev.onMedium_congr {d : Dev} {r : Radio} {f g : Dev → Dev} (h : f d = g d) : d.onMedium r f = d.onMedium r g :=
  congrArg (Dev.mediumEdge _ _ r) h

/-- An event on a radio's medium leaves what it does to the device, with what follows from the medium's edges. -/
theorem State.run_medium {s : State} {r : Radio} {f : Dev → Dev} {e : Dev} (h : f s.dev = e) :
    s.run (fun d => d.onMedium r f) = .next { s with dev := (s.dev.onMedium r (fun _ => e)).answerWatches } := by
  simp only [State.run, Dev.onMedium, h]

/-! Attention on devices that differ in the host control interface -/

theorem Dev.countN_withHost (d : Dev) (h : Hci) (o : List Out) (a n : Nat) : (d.withHost h o).countN a n = (d.countN a n).withHost h o := by
  unfold Dev.countN
  cases (blkOfPage (a / 4096)).bind (fun b => ctrAt b (a % 4096)) with
  | none => rfl
  | some c =>
    simp only
    split
    · rfl
    · split <;> rfl

theorem Dev.bltKick_withHost (d : Dev) (h : Hci) (o : List Out) (due : Bool) : (d.withHost h o).bltKick due = (d.bltKick due).withHost h o := by
  unfold Dev.bltKick
  have h1 : (d.withHost h o).mgt = d.mgt := rfl
  have h2 : (d.withHost h o).flashBlocked = d.flashBlocked := rfl
  simp only [h1, h2]
  split
  · rfl
  · split
    · rfl
    · split <;> rfl

theorem Dev.blotter_withHost (d : Dev) (h : Hci) (o : List Out) (p c k : Nat) (args : List Word) :
    (d.withHost h o).blotter p c k args = (d.blotter p c k args).withHost h o := by
  unfold Dev.blotter
  have h1 : (d.withHost h o).mgt = d.mgt := rfl
  simp only [h1]
  split
  · exact Dev.countN_withHost { d with mgt := _ } h o _ 1
  · rw [← Dev.bltKick_withHost]
    cases d.mgt.dropped <;> cases d.mgt.uncommitted.isEmpty <;> rfl

theorem Dev.hciOnly_symm {a b : Dev} (h : a.hciOnly b) : b.hciOnly a := by
  unfold Dev.hciOnly at *
  rw [h]

theorem Dev.attnLog_withHost (d : Dev) (h : Hci) (o : List Out) (p : Nat) (g : Page) (e : Word) :
    (d.withHost h o).attnLog p g e = (d.attnLog p g e).withHost h o := by
  unfold Dev.attnLog
  generalize bitList e 32 = l
  induction l generalizing d with
  | nil => rfl
  | cons a l ih =>
    simp only [List.foldl_cons]
    rw [show (d.withHost h o).fld A.MGT.BLT_CFG 2 0 = d.fld A.MGT.BLT_CFG 2 0 from rfl]
    split
    · rw [Dev.blotter_withHost, ih]
    · exact ih d

/-- The attention causes of a page change alike on devices that differ in the host control interface only. -/
theorem Dev.attnSet_congr {d e : Dev} (he : d.hciOnly e) (hs : e.hci.attnSeq = d.hci.attnSeq) (p : Nat) (cause mask : Word) :
    (d.attnSet p cause mask).hciOnly (e.attnSet p cause mask) ∧
      (e.attnSet p cause mask).hci.attnSeq = (d.attnSet p cause mask).hci.attnSeq := by
  obtain ⟨h, o, rfl⟩ := Dev.hciOnly_iff.1 he
  have hseq : h.attnSeq = d.hci.attnSeq := hs
  unfold Dev.attnSet
  simp only [show (d.withHost h o).page p = d.page p from rfl]
  split
  · exact ⟨rfl, hs⟩
  · constructor
    · refine Dev.hciOnly_trans (Dev.hciOnly_trans (Dev.hciOnly_symm (Dev.answerWatches_hciOnly _)) (Dev.event_congr ?_ 1)) (Dev.answerWatches_hciOnly _)
      exact Dev.hciOnly_iff.2 ⟨_, _, Dev.attnLog_withHost ((d.setPage p _).attnStep _) _ _ _ _ _⟩
    · simp only [Dev.answerWatches_attnSeq, Dev.event_hci, Dev.attnLog_hci]
      show h.attnSeq + _ = d.hci.attnSeq + _
      rw [hseq]

theorem Dev.raise_congr {d e : Dev} (he : d.hciOnly e) (hs : e.hci.attnSeq = d.hci.attnSeq) (b : Blk) (i : Nat) :
    (d.raise b i).hciOnly (e.raise b i) ∧ (e.raise b i).hci.attnSeq = (d.raise b i).hci.attnSeq := by
  obtain ⟨h, o, rfl⟩ := Dev.hciOnly_iff.1 he
  exact Dev.attnSet_congr he hs _ _ _

end Sys2Proof.Machine
end

