-- ==== Sys2Proof/Laws/Store.lean ====
section
/-! SUPPORT. Loads and stores of a core: a store puts its bytes at its address and changes nothing else; a load gives the bytes there
(spec/10 R255, R266, R268). -/

namespace Sys2Proof.Machine

/-- A core with its data memory replaced. -/
theorem Dev.setCore_dmem_byte (d : Dev) (u : Cpu) (m : Tab Byte) (x : Nat) :
    (d.setCore u { d.core u with dmem := m }).memByte u x
      = if 0x10000000 ≤ x ∧ x < u.dataEnd then tabGet 0 m (x - 0x10000000) else d.memByte u x := by
  unfold Dev.memByte
  rw [Dev.core_setCore]
  split
  · rfl
  · cases u <;> rfl

/-- A store into data memory, or into MP SRAM. -/
theorem Dev.store_data (d : Dev) (u : Cpu) (a n : Nat) (v : Word) (h : 0x10000000 ≤ a ∧ a < u.dataEnd) :
    d.store u a n v = (d.setCore u { d.core u with dmem := storeTab (d.core u).dmem (a - 0x10000000) n v }, Ans.ok []) := by
  cases u with
  | mp =>
    simp only [Cpu.dataEnd] at h
    simp only [Dev.store, Dev.mpStore]
    rw [if_neg (by omega), if_pos h]
    rfl
  | quill k =>
    simp only [Cpu.dataEnd] at h
    simp only [Dev.store, Dev.quillStore]
    rw [if_pos h]
    rfl

/-- A store into the scheduler SRAM. -/
theorem Dev.store_sram (d : Dev) (u : Cpu) (a n : Nat) (v : Word) (h : 0x30000000 ≤ a ∧ a < 0x30100000) :
    d.store u a n v = (d.onAsc (fun x => { x with sram := storeTab x.sram (a - 0x30000000) n v }), Ans.ok []) := by
  cases u with
  | mp =>
    simp only [Dev.store, Dev.mpStore]
    rw [if_neg (by omega), if_neg (by omega), if_neg (by omega), if_neg (by omega), if_pos h]
  | quill k =>
    simp only [Dev.store, Dev.quillStore]
    rw [if_neg (by omega), if_pos h]

theorem Dev.store_mgt (d : Dev) (a n : Nat) (v : Word) (h : 0x11000000 ≤ a ∧ a < 0x11200000) :
    d.store .mp a n v = (d.onMgt (fun m => { m with sram := storeTab m.sram (a - 0x11000000) n v }), Ans.ok []) := by
  simp only [Dev.store, Dev.mpStore]
  rw [if_neg (by omega), if_neg (by omega), if_pos h]

theorem Dev.store_ink (d : Dev) (a n : Nat) (v : Word) (h : 0x40000000 ≤ a ∧ a < 0x40800000) :
    d.store .mp a n v = (d.onMem (fun m => { m with ink := storeTab m.ink (a - 0x40000000) n v }), Ans.ok []) := by
  simp only [Dev.store, Dev.mpStore]
  rw [if_neg (by omega), if_neg (by omega), if_neg (by omega), if_neg (by omega), if_neg (by omega), if_pos h]

theorem Dev.store_dram (d : Dev) (a n : Nat) (v : Word) (h : 0x80000000 ≤ a) (hc : d.winCode a n = RC.OK) :
    d.store .mp a n v = (d.dramPartial (d.winAddr a) ((wordsBytes [v]).take n), Ans.ok []) := by
  simp only [Dev.store, Dev.mpStore]
  rw [if_neg (by omega), if_neg (by omega), if_neg (by omega), if_neg (by omega), if_neg (by omega), if_neg (by omega), if_pos h,
    if_neg (by simp [hc])]

/-- What an aligned store into a memory does: its code, each byte of the core's memories, and that the core keeps all but its data memory,
and the device its registers, pages and host interface. -/
theorem Dev.store_spec (d : Dev) (u : Cpu) (a n : Nat) (v : Word) (hn : n = 1 ∨ n = 2 ∨ n = 4) (ha : a % n = 0)
    (hs : d.storable u (a / 4 * 4) = true) :
    (d.store u a n v).2.code = RC.OK ∧
    (∀ x, (d.store u a n v).1.memByte u x = if a ≤ x ∧ x < a + n then BitVec.ofNat 8 (v.toNat / 256 ^ (x - a)) else d.memByte u x) ∧
    (d.store u a n v).1.core u = { d.core u with dmem := ((d.store u a n v).1.core u).dmem } ∧
    (d.store u a n v).1.regs = d.regs ∧ (d.store u a n v).1.pages = d.pages ∧ (d.store u a n v).1.hci = d.hci ∧
    (d.store u a n v).1.out = d.out := by
  have hle : a / 4 * 4 ≤ a ∧ a + n ≤ a / 4 * 4 + 4 := by rcases hn with rfl | rfl | rfl <;> omega
  by_cases h1 : 0x10000000 ≤ a ∧ a < u.dataEnd
  · rw [d.store_data u a n v h1]
    have he : a + n ≤ u.dataEnd := by cases u <;> simp only [Cpu.dataEnd] at h1 ⊢ <;> omega
    refine ⟨rfl, ?_, by simp, by cases u <;> rfl, by cases u <;> rfl, by cases u <;> rfl, by cases u <;> rfl⟩
    intro x
    rw [Dev.setCore_dmem_byte]
    by_cases hx : 0x10000000 ≤ x ∧ x < u.dataEnd
    · rw [if_pos hx, tabGet_storeTab]
      by_cases hy : a ≤ x ∧ x < a + n
      · rw [if_pos hy, if_pos (by omega), show x - 0x10000000 - (a - 0x10000000) = x - a by omega]
      · rw [if_neg hy, if_neg (by omega)]
        unfold Dev.memByte
        rw [if_pos hx]
    · rw [if_neg hx, if_neg (by omega)]
  by_cases h2 : 0x30000000 ≤ a ∧ a < 0x30100000
  · rw [d.store_sram u a n v h2]
    refine ⟨rfl, ?_, by cases u <;> rfl, rfl, rfl, rfl, rfl⟩
    intro x
    have hcore : ∀ f, (d.onAsc f).core u = d.core u := fun f => by cases u <;> rfl
    have hd : u.dataEnd ≤ 0x10080000 := by cases u <;> simp only [Cpu.dataEnd] <;> omega
    unfold Dev.memByte
    rw [hcore]
    by_cases hx : 0x30000000 ≤ x ∧ x < 0x30100000
    · have n1 : ¬ (0x10000000 ≤ x ∧ x < u.dataEnd) := by omega
      rw [if_neg n1, if_neg n1, if_pos hx, if_pos hx]
      show tabGet 0 (storeTab d.asc.sram _ n v) _ = _
      rw [tabGet_storeTab]
      by_cases hy : a ≤ x ∧ x < a + n
      · rw [if_pos hy, if_pos (by omega), show x - 0x30000000 - (a - 0x30000000) = x - a by omega]
      · rw [if_neg hy, if_neg (by omega)]
    · rw [if_neg (show ¬ (a ≤ x ∧ x < a + n) by omega), if_neg hx, if_neg hx]
      rfl
  cases u with
  | quill k =>
    exfalso
    simp only [Dev.storable, atomic, Cpu.isMp, Bool.false_and, Bool.or_false, Bool.or_eq_true, decide_eq_true_eq] at hs
    simp only [Cpu.dataEnd] at hs h1
    omega
  | mp =>
    simp only [Cpu.dataEnd] at h1
    by_cases h3 : 0x11000000 ≤ a ∧ a < 0x11200000
    · rw [d.store_mgt a n v h3]
      refine ⟨rfl, ?_, rfl, rfl, rfl, rfl, rfl⟩
      intro x
      unfold Dev.memByte
      simp only [Cpu.dataEnd]
      by_cases hx : 0x11000000 ≤ x ∧ x < 0x11200000
      · have n1 : ¬ (0x10000000 ≤ x ∧ x < 0x10080000) := by omega
        have n2 : ¬ (0x30000000 ≤ x ∧ x < 0x30100000) := by omega
        rw [if_neg n1, if_neg n1, if_neg n2, if_neg n2, if_pos hx, if_pos hx]
        show tabGet 0 (storeTab d.mgt.sram _ n v) _ = _
        rw [tabGet_storeTab]
        by_cases hy : a ≤ x ∧ x < a + n
        · rw [if_pos hy, if_pos (by omega), show x - 0x11000000 - (a - 0x11000000) = x - a by omega]
        · rw [if_neg hy, if_neg (by omega)]
      · rw [if_neg (show ¬ (a ≤ x ∧ x < a + n) by omega), if_neg hx, if_neg hx]
        rfl
    by_cases h4 : 0x40000000 ≤ a ∧ a < 0x40800000
    · rw [d.store_ink a n v h4]
      refine ⟨rfl, ?_, rfl, rfl, rfl, rfl, rfl⟩
      intro x
      unfold Dev.memByte
      simp only [Cpu.dataEnd]
      by_cases hx : 0x40000000 ≤ x ∧ x < 0x40800000
      · have n1 : ¬ (0x10000000 ≤ x ∧ x < 0x10080000) := by omega
        have n2 : ¬ (0x30000000 ≤ x ∧ x < 0x30100000) := by omega
        have n3 : ¬ (0x11000000 ≤ x ∧ x < 0x11200000) := by omega
        rw [if_neg n1, if_neg n1, if_neg n2, if_neg n2, if_neg n3, if_neg n3, if_pos hx, if_pos hx]
        show tabGet 0 (storeTab d.mem.ink _ n v) _ = _
        rw [tabGet_storeTab]
        by_cases hy : a ≤ x ∧ x < a + n
        · rw [if_pos hy, if_pos (by omega), show x - 0x40000000 - (a - 0x40000000) = x - a by omega]
        · rw [if_neg hy, if_neg (by omega)]
      · rw [if_neg (show ¬ (a ≤ x ∧ x < a + n) by omega), if_neg hx, if_neg hx]
        rfl
    simp only [Dev.storable, atomic, Cpu.isMp, Bool.true_and, Bool.or_eq_true, Bool.and_eq_true, decide_eq_true_eq,
      Bool.not_eq_true'] at hs
    simp only [Cpu.dataEnd] at hs
    have h5 : 0x80000000 ≤ a / 4 * 4 ∧ a / 4 * 4 < 2 ^ 32 ∧ d.winAddr (a / 4 * 4) + 4 ≤ d.dramMib * 2 ^ 20 := by omega
    have h6 : d.serving = true ∧ d.poisoned (d.winAddr (a / 4 * 4)) = false := by
      have h := hs.resolve_left (by omega)
      exact ⟨h.1.2, h.2⟩
    obtain ⟨B, hB, hw⟩ : ∃ B, B % 64 = 0 ∧ ∀ y, d.winAddr y = B + (y - 0x80000000) :=
      ⟨d.fld A.MGT.DRAM_WIN 3 0 * 2 ^ 31, by omega, fun y => by unfold Dev.winAddr; exact Eq.refl _⟩
    have hc : d.winCode a n = RC.OK := by
      unfold Dev.winCode
      rw [if_neg (by rw [hw a]; have := hw (a / 4 * 4); omega), h6.1]
      rfl
    have hlen : ((wordsBytes [v]).take n).length = n := by
      rcases hn with rfl | rfl | rfl <;> rfl
    have ha5 : 0x80000000 ≤ a := by omega
    rw [d.store_dram a n v ha5 hc]
    have key : ∀ (bs : List Byte) (e : Dev) (y : Nat), (e.dramPartial y bs).core .mp = e.core .mp ∧ (e.dramPartial y bs).regs = e.regs ∧
        (e.dramPartial y bs).pages = e.pages ∧ (e.dramPartial y bs).hci = e.hci ∧ (e.dramPartial y bs).out = e.out ∧
        (e.dramPartial y bs).asc = e.asc ∧ (e.dramPartial y bs).mgt = e.mgt ∧ (e.dramPartial y bs).mem.ink = e.mem.ink := by
      intro bs
      induction bs with
      | nil => intro e y; exact ⟨rfl, rfl, rfl, rfl, rfl, rfl, rfl, rfl⟩
      | cons b bs ih =>
        intro e y
        have := ih (if e.poisoned y then e else e.onMem (fun m => { m with dram := tabSet 0 m.dram y (b ^^^ m.unwritten y) })) (y + 1)
        simp only [Dev.dramPartial]
        by_cases hp : e.poisoned y = true
        · rw [if_pos hp] at this ⊢; exact this
        · rw [if_neg hp] at this ⊢; exact this
    obtain ⟨k1, k2, k3, k4, k5, k6, k7, k8⟩ := key ((wordsBytes [v]).take n) d (d.winAddr a)
    refine ⟨rfl, ?_, by rw [k1], k2, k3, k4, k5⟩
    intro x
    have hfld : (d.dramPartial (d.winAddr a) ((wordsBytes [v]).take n)).winAddr x = d.winAddr x := by
      have hr : ∀ y, (d.dramPartial (d.winAddr a) ((wordsBytes [v]).take n)).rd y = d.rd y := fun y => by unfold Dev.rd; rw [k2, k7]
      have hany : ∀ e : Dev, e.rd A.MGT.DRAM_WIN = d.rd A.MGT.DRAM_WIN → e.winAddr x = d.winAddr x := fun e he => by
        unfold Dev.winAddr Dev.fld; rw [he]
      exact hany _ (hr _)
    unfold Dev.memByte
    simp only [Cpu.dataEnd]
    rw [k1, k6, k7, k8, hfld, Dev.dramByte_dramPartial, hlen]
    by_cases hx : 0x80000000 ≤ x
    · have n1 : ¬ (0x10000000 ≤ x ∧ x < 0x10080000) := by omega
      have n2 : ¬ (0x30000000 ≤ x ∧ x < 0x30100000) := by omega
      have n3 : ¬ (0x11000000 ≤ x ∧ x < 0x11200000) := by omega
      have n4 : ¬ (0x40000000 ≤ x ∧ x < 0x40800000) := by omega
      rw [if_neg n1, if_neg n1, if_neg n2, if_neg n2, if_neg n3, if_neg n3, if_neg n4, if_neg n4, if_pos hx, if_pos hx]
      rw [hw a, hw x]
      by_cases hy : a ≤ x ∧ x < a + n
      · have hp : d.poisoned (B + (x - 0x80000000)) = false := by
          rw [← h6.2]
          unfold Dev.poisoned lineOf
          rw [hw (a / 4 * 4), show (B + (x - 0x80000000)) / 64 = (B + (a / 4 * 4 - 0x80000000)) / 64 by omega]
        rw [if_pos ⟨by omega, by omega, hp⟩, if_pos hy]
        rw [show B + (x - 0x80000000) - (B + (a - 0x80000000)) = x - a by omega]
        have hi : x - a < n := by omega
        generalize x - a = i at hi ⊢
        rw [List.getD_eq_getElem?_getD, List.getElem?_take_of_lt hi]
        have : i = 0 ∨ i = 1 ∨ i = 2 ∨ i = 3 := by omega
        rcases this with rfl | rfl | rfl | rfl <;>
          simp [wordsBytes, wordBytes, BitVec.toNat_eq, Nat.shiftRight_eq_div_pow]
      · rw [if_neg hy, if_neg (by omega)]
    · have hno : ¬ (a ≤ x ∧ x < a + n) := by omega
      rw [if_neg hno, if_neg hx, if_neg hx]

/-- The value of a range of bytes: the little-endian number of the bytes a core finds there. -/
theorem Dev.load_spec (d : Dev) (u : Cpu) (a n : Nat) (hn : n = 1 ∨ n = 2 ∨ n = 4) (ha : a % n = 0) (hs : d.storable u (a / 4 * 4) = true) :
    d.load u a n = (d, Ans.ok [wd (leNat ((List.range n).map (fun i => d.memByte u (a + i))))]) := by
  have hle : a / 4 * 4 ≤ a ∧ a + n ≤ a / 4 * 4 + 4 := by rcases hn with rfl | rfl | rfl <;> omega
  have hmap : ∀ f : Nat → Byte, (∀ i < n, f i = d.memByte u (a + i)) →
      (List.range n).map f = (List.range n).map (fun i => d.memByte u (a + i)) := fun f h =>
    List.map_congr_left (fun i hi => h i (List.mem_range.1 hi))
  by_cases h1 : 0x10000000 ≤ a ∧ a < u.dataEnd
  · have hl : d.load u a n = (d, loadTab (d.core u).dmem (a - 0x10000000) n) := by
      cases u with
      | mp =>
        simp only [Cpu.dataEnd] at h1
        simp only [Dev.load, Dev.mpLoad]
        rw [if_neg (by omega), if_pos h1]
        rfl
      | quill k =>
        simp only [Cpu.dataEnd] at h1
        simp only [Dev.load, Dev.quillLoad]
        rw [if_pos h1]
        rfl
    have he : a + n ≤ u.dataEnd := by cases u <;> simp only [Cpu.dataEnd] at h1 ⊢ <;> omega
    rw [hl, loadTab, hmap]
    intro i hi
    unfold Dev.memByte
    rw [if_pos (by omega), show a - 0x10000000 + i = a + i - 0x10000000 by omega]
  by_cases h2 : 0x30000000 ≤ a ∧ a < 0x30100000
  · have hl : d.load u a n = (d, loadTab d.asc.sram (a - 0x30000000) n) := by
      cases u with
      | mp =>
        simp only [Dev.load, Dev.mpLoad]
        rw [if_neg (by omega), if_neg (by omega), if_neg (by omega), if_neg (by omega), if_pos h2]
      | quill k =>
        simp only [Dev.load, Dev.quillLoad]
        rw [if_neg (by omega), if_pos h2]
    have hd : u.dataEnd ≤ 0x10080000 := by cases u <;> simp only [Cpu.dataEnd] <;> omega
    rw [hl, loadTab, hmap]
    intro i hi
    unfold Dev.memByte
    rw [if_neg (by omega), if_pos (by omega), show a - 0x30000000 + i = a + i - 0x30000000 by omega]
  cases u with
  | quill k =>
    exfalso
    simp only [Dev.storable, atomic, Cpu.isMp, Bool.false_and, Bool.or_false, Bool.or_eq_true, decide_eq_true_eq] at hs
    simp only [Cpu.dataEnd] at hs h1
    omega
  | mp =>
    simp only [Cpu.dataEnd] at h1
    have hm : ∀ x, d.memByte .mp x = if 0x10000000 ≤ x ∧ x < 0x10080000 then tabGet 0 d.mp.dmem (x - 0x10000000)
        else if 0x30000000 ≤ x ∧ x < 0x30100000 then tabGet 0 d.asc.sram (x - 0x30000000)
        else if 0x11000000 ≤ x ∧ x < 0x11200000 then tabGet 0 d.mgt.sram (x - 0x11000000)
        else if 0x40000000 ≤ x ∧ x < 0x40800000 then tabGet 0 d.mem.ink (x - 0x40000000)
        else if 0x80000000 ≤ x then d.dramByte (d.winAddr x) else 0 := fun x => by
      unfold Dev.memByte
      rfl
    by_cases h3 : 0x11000000 ≤ a ∧ a < 0x11200000
    · simp only [Dev.load, Dev.mpLoad]
      rw [if_neg (by omega), if_neg (by omega), if_pos h3, loadTab, hmap]
      intro i hi
      rw [hm, if_neg (by omega), if_neg (by omega), if_pos (by omega), show a - 0x11000000 + i = a + i - 0x11000000 by omega]
    by_cases h4 : 0x40000000 ≤ a ∧ a < 0x40800000
    · simp only [Dev.load, Dev.mpLoad]
      rw [if_neg (by omega), if_neg (by omega), if_neg (by omega), if_neg (by omega), if_neg (by omega), if_pos h4, loadTab, hmap]
      intro i hi
      rw [hm, if_neg (by omega), if_neg (by omega), if_neg (by omega), if_pos (by omega), show a - 0x40000000 + i = a + i - 0x40000000 by omega]
    simp only [Dev.storable, atomic, Cpu.isMp, Bool.true_and, Bool.or_eq_true, Bool.and_eq_true, decide_eq_true_eq,
      Bool.not_eq_true'] at hs
    simp only [Cpu.dataEnd] at hs
    have h5 : 0x80000000 ≤ a / 4 * 4 ∧ a / 4 * 4 < 2 ^ 32 ∧ d.winAddr (a / 4 * 4) + 4 ≤ d.dramMib * 2 ^ 20 := by omega
    have h6 : d.serving = true ∧ d.poisoned (d.winAddr (a / 4 * 4)) = false := by
      have h := hs.resolve_left (by omega)
      exact ⟨h.1.2, h.2⟩
    obtain ⟨B, hB, hw⟩ : ∃ B, B % 64 = 0 ∧ ∀ y, d.winAddr y = B + (y - 0x80000000) :=
      ⟨d.fld A.MGT.DRAM_WIN 3 0 * 2 ^ 31, by omega, fun y => by unfold Dev.winAddr; exact Eq.refl _⟩
    have hc : d.winCode a n = RC.OK := by
      unfold Dev.winCode
      rw [if_neg (by rw [hw a]; have := hw (a / 4 * 4); omega), h6.1]
      rfl
    have ha5 : 0x80000000 ≤ a := by omega
    have hp : d.rangePoisoned (d.winAddr a) n = false := by
      have hl : lineOf (d.winAddr a + n - 1) = lineOf (d.winAddr (a / 4 * 4)) ∧ lineOf (d.winAddr a) = lineOf (d.winAddr (a / 4 * 4)) := by
        rw [hw, hw]; unfold lineOf; rcases hn with rfl | rfl | rfl <;> omega
      unfold Dev.rangePoisoned
      rw [hl.1, hl.2, show lineOf (d.winAddr (a / 4 * 4)) + 1 - lineOf (d.winAddr (a / 4 * 4)) = 1 by omega]
      have h7 := h6.2
      unfold Dev.poisoned at h7 ⊢
      rw [List.range_one, List.any_cons, List.any_nil, Bool.or_false]
      rw [show lineOf (64 * (lineOf (d.winAddr (a / 4 * 4)) + 0)) = lineOf (d.winAddr (a / 4 * 4)) by unfold lineOf; omega]
      exact h7
    simp only [Dev.load, Dev.mpLoad]
    rw [if_neg (by omega), if_neg (by omega), if_neg (by omega), if_neg (by omega), if_neg (by omega), if_neg (by omega), if_pos ha5,
      if_neg (by simp [hc]), hp, if_neg (by decide)]
    have hb : d.dramBytes (d.winAddr a) n = (List.range n).map (fun i => d.memByte .mp (a + i)) := by
      refine hmap _ ?_
      intro i hi
      rw [hm, if_neg (by omega), if_neg (by omega), if_neg (by omega), if_neg (by omega), if_pos (by omega), hw, hw,
        show B + (a - 0x80000000) + i = B + (a + i - 0x80000000) by omega]
    rw [hb]

end Sys2Proof.Machine
end

