-- ==== Sys2Proof/Tests/Slice0.lean ====
section
/-! SUPPORT. The model's own tests: an ill-formed command for every check of WellFormed, results the spec's worked examples
give, and for every clause of an obligation with hypotheses a named witness that meets them all. -/

namespace Sys2Proof.Machine

set_option Elab.async false
set_option linter.unusedVariables false

/-! Blank values of the operand types -/

def blankHdr : Hdr := { len := 0, dst := 0, src := 0, tags := [], etype := 0, ipver := 0, malformed := false, deep := false, options := false, proto := 0, sip := 0, dip := 0, dscp := 0, ttl := 0, frag := false, nonFirst := false, sport := 0, dport := 0, tcpFlags := 0, icmpError := false, icmpEcho := false, ipSum := 0, l4Sum := 0, ndTarget := none }
def blankMsg : Msg := { op := 0, flags := 0, len := 0, tag := 0, addr := 0, arg := 0, payload := [], reqAt := 0, rspAt := 0 }
def blankRingEnt : RingEnt := { msg := blankMsg, words := [], frame := blankHdr }
def blankWatch : Watch := { tag := 0, seen := 0, due := 0 }
def blankReply : Reply := { op := 0, tag := 0, status := 0, detail := 0, seq := 0, payload := [] }
def blankAcp : Acp := { slot := 0, version := 0, helloCtr := 0, topCtr := 0, txCtr := 0, last := [], watch := none, active := 0, todo := [], done := [], port := 0, peer := 0, udp := false }
def blankReception : Reception := { start := 0, ref := 0, bypass := false, lna := 0, vga := 0, dsss := false, falseStart := false, guardOpen := false, cfo := none, bodyEnd := 0, fmt := 0, bw := 0, nss := 0, mcs := 0, gi := 0, holdEnd := 0, color := 0 }
def blankDetect : Detect := { boundary := 0, start := 0, power := 0, lna := 0, vga := 0, corr := 0, dsss := false }
def blankSigInfo : SigInfo := { durUs := 0, fmt := 0, bw := 0, nss := 0, mcs := 0, gi := 0, color := 0, users := 0 }
def blankRxRep : RxRep := { endCode := 0, fmt := 0, bw := 0, nss := 0, mcs := 0, gi := 0, ldpc := false, dup := false, falseStart := false, toa := 0, toaFrac := 0, cfo := 0, rssiCh := [], rssi := 0, bssColor := 0, bypass := false, lna := 0, vga := 0, punct := 0, user := 0, snr := [] }
def blankTxVec : TxVec := { kind := .data, fmt := 0, bw := 0, punct := 0, gi := 0, ofdma := false, pref := 0, users := [], durUs := 0, charge16 := 0, tolUs := 0, navUs := 0, solicits := false, targets := [], ac := 0, bss := 0, frame := .plain, respUs := 0 }
def blankTxWait : TxWait := { vec := blankTxVec, fids := [], deadline := 0, forDuty := false, forPrecoder := false }
def blankTxPpdu : TxPpdu := { vec := blankTxVec, start := 0, stop := 0, onUs := 0, chains := [], request := 0, clampQ := 0, cuts := [], clamped := false, unsteered := false, muDrop := 0, fids := [], prec := [] }
def blankGuardRec : GuardRec := { start := 0, power := 0, confirmed := false }
def blankRxMpdu : RxMpdu := { kind := 0, ra := 0, ta := 0, bssid := 0, len := 0, fcs := false, prot := false, keyId := 0, mic := 0, pn := 0, tid := 0, sn := 0, frag := 0, retry := false, ackPolicy := 0, pm := false, durUs := 0, aggregated := false, ssn := 0, bitmap := 0, hdr := blankHdr, closed := false, bsr := [], headroom := none, fb := none, fbV := [], dynBw := false, more := false }
def blankRespWait : RespWait := { until_ := 0, from_ := [], trig := false, ac := 0, fids := [], vec := blankTxVec }
def blankRespDue : RespDue := { kind := .ack, due := 0, sta := none, tid := 0, ssn := 0, bitmap := 0, ok := false, bw := 0, ref := 0, bss := 0, nav := 0, per := [] }
def blankTwt : Twt := { typ := 0, trigger := false, bss := 0, sta := 0, target := 0, intervalUs := 0, durUs := 0, tids := 0, members := [], sp := none, cut := false }
def blankTxop : Txop := { ac := 0, until_ := 0, bw := 0, start := 0, limit := none, single := false, done := false, prot := false, pend := [], pendFrom := [] }
def blankBss : Bss := { enable := false, mesh := false, txBssid := false, nonTx := false, txIndex := 0, dtim := 0, bssid := 0, intervalTu := 0, offsetTu := 0, basic := 0, bcnRate := 0, bcnDup := false, gtk := [], bigtk := [], color := 0 }
def blankTemplate : Template := { cur := [], timOff := 0, next := [], nextLen := 0, nextTim := 0, complete := false }
def blankAlloc : Alloc := { buf := 0, round := 0, snap := 0, pub := 0 }
def blankHeatPlan : HeatPlan := { format := 0, group := 0, seq := 0, center := 0, width := 0, band := 0, actS := 0, actNs := 0, periodUs := 0, members := [], heats := [] }
def blankHeatSlot : HeatSlot := { offUs := 0, durUs := 0, kind := 0, ac := 0, mode := 0, masks := [], limits := [] }
def blankTpl : Tpl := { fwMajor := 0, ver := 0, nodes := [], standard := false }
def blankTplNode : TplNode := { entry := 0, param := 0, limit := 0, pred := 0 }
def blankWork : Work := { pol := [], snap := none, exch := [], prev := [], dl := [], ul := [], sounds := [], groups := [], rus := [], users := [], dlUs := 0, ulSym := 0 }
def blankInst : Inst := { tpl := 0, list := 0, deadline := 0, enable := 0, ctx := [], order := 0, at_ := 0, by_ := 0, radio := 0, cancelled := false, complete := false, done := 0, work := blankWork }
def blankOp : Op := { inst := 0, node := 0, st := .waiting 0, cancelled := false }
def blankFetch : Fetch := { src := 0, dst := 0, cpl := 0, len := 0, refused := false }
def blankQueue : Queue := { profile := 0, pacerEn := false, pacer := 0, entries := [], dropCnt := 0, ageCnt := 0, deficit := 0 }
def blankWl : Wl := { sta := 0, tid := 0, bss := 0, mpdu := false, noAck := false, noEncrypt := false, lateFinal := false, launch := none, lateAt := none, fixedRate := none, links := 0, tol := 0, retry := 0, attempts := 0, late := 0, defers := 0, sn := none, pn := none, sealed := none, lastLink := none, rep := [] }
def blankEntry : Entry := { fid := 0, len := 0, color := 0, stamp := 0, inInk := false, writing := false, dram := 0, cells := 0, share := 0, ingress := none, hdr := blankHdr, host := none, pin := none, setDscp := none, wl := blankWl, toHost := none, mesh := none }
def blankToHost : ToHost := { reason := 0, cls := 0, source := 0, domain := 0, vlan := 0, token := none, time := 0, notice := none }
def blankInFrame : InFrame := { id := 0, source := 0, hdr := blankHdr, time := 0, sta := none, tid := 0, bss := 0, direct := none, cells := 0, share := 0, icls := 0, ring := none }
def blankPacerCfg : PacerCfg := { enable := false, parentEn := false, parent := 0, periodUs := 0, inc := 0, burst := 0 }
def blankPacer : Pacer := { cfg := blankPacerCfg, next := none, credit := 0, refillAt := 0 }
def blankHold : Hold := { domain := 0, frame := blankInFrame, listed := [], due := 0 }
def blankPkeJob : PkeJob := { frame := blankInFrame, domain := 0, vlan := 0, decided := false, waits := none, dests := [], token := none, stuck := false, passed := false, view := blankHdr, due := 0 }
def blankDest : Dest := { queue := 0, hdr := blankHdr, meter := none, color := 0, pinPort := none, toHost := none, setDscp := none }
def blankL2Ent : L2Ent := { kind := 0, index := 0, static := false, used := 0 }
def blankFlowKey : FlowKey := { proto := 0, v6 := false, iface := 0, sip := 0, dip := 0, sport := 0, dport := 0 }
def blankFlow : Flow := { key := blankFlowKey, w10 := 0, w11 := 0, natAddr := 0, natPort := 0, idleS := 0, packets := 0, bytes := 0, used := 0 }
def blankHostBuf : HostBuf := { ring := 0, cookie := 0, size := 0, buf := 0, sid := 0 }
def blankEthPort : EthPort := { link := false, rate := 0, localFault := false, remoteFault := false, fecLock := false, lpiRx := false, lpiTx := false, waking := none, paused := [], pausedAt := [], ctl := [], xoff := [], heldReset := false, occ := [], tx := none, suspended := none, verify := 0, attempts := 0, verifyDue := 0, partnerOk := false, partner := none, result := 0, stride := none, nextXid := 0, offer := none, turn := 0, idleAt := 0 }
def blankEthTx : EthTx := { entry := blankEntry, cls := 0, express := false, began := 0, left := 0, stop := 0 }
def blankStride : Stride := { initiator := false, target := 0, fec := 0, xid := 0, phase := .asked 0 }
def blankPtpIn : PtpIn := { role := 0, steps := 0, theta := none }
def blankRq : Rq := { src := .mp, flags := 0, tag := 0, reqAt := 0, rspAt := 0 }
def blankTsLaunch : TsLaunch := { port := 0, oneStep := false, len := 0, hOfs := 0, launch := none, tolUs := 0, bytes := [] }
def blankSource : Source := { last := 0, interval := 0, accepted := none }
def blankMeshBeacon : MeshBeacon := { meshId := 0, minVer := 0, maxVer := 0, state := 0, addr := 0, depth := 0, prio := 0, children := 0, admitting := false, locked := false, hops := 0, rootMac := 0, intervalTu := 0, group := 0, heatMin := 0, heatMax := 0, mac := 0, rssi := 0 }
def blankMeshMsg : MeshMsg := { version := 0, typ := 0, ttl := 0, origin := 0, seq := 0, dest := 0, payload := [] }
def blankJoinReq : JoinReq := { mac := 0, nonce := 0, minVer := 0, maxVer := 0, held := 0 }
def blankAdmitted : Admitted := { req := blankJoinReq, version := 0, at_ := 0 }
def blankSeen : Seen := { origin := 0, seq := 0, copies := 0, at_ := 0 }
def blankChild : Child := { mac := 0, addr := 0, version := 0, sta := 0, listen := 0, heard := 0 }
def blankDark : Dark := { start := 0, stop := 0, started := false, targets := [], retryAt := none }
def blankLease : Lease := { mac := 0, until_ := 0 }
def blankAddrReq : AddrReq := { mac := 0, held := 0, depth := 0 }
def blankGrantEnt : GrantEnt := { mac := 0, addr := 0, leaseS := 0, changed := false }
def blankStation : Station := { apMld := 0, links := 0, mld := false, maxLen := 0, addr := 0, addrs := ⟨0, 0, 0⟩, map := 0, powerSave := false }
def blankApMld : ApMld := { links := 0, bss := ⟨0, 0, 0⟩, linkId := ⟨0, 0, 0⟩, addr := 0 }
def blankStaTid : StaTid := { nextSn := 0, txWin := none, txStart := 0, board := [], bar := none, rxWin := none, rxStart := 0, held := [], seen := [], done := [], dup := none, bound := none }
def blankRxHeld : RxHeld := { sn := 0, pn := 0, slot := none, link := 0, frame := blankInFrame }
def blankBoardEnt : BoardEnt := { sn := 0, st := .queued, entry := blankEntry }
def blankFmtR : FmtR := { cond := 0, rd := 0, ra := 0, rb := 0, s := false, func := 0 }
def blankFmtI : FmtI := { cond := 0, rd := 0, ra := 0, s := false, imm := 0 }
def blankFmtM : FmtM := { cond := 0, rd := 0, ra := 0, off := 0 }
def blankFmtB : FmtB := { cond := 0, off := 0 }
def blankFmtU : FmtU := { cond := 0, rd := 0, imm := 0 }
def blankAluOut : AluOut := { res := 0, c := false, v := false }
def blankPage : Page := { enable := false, clkForce := false, isolate := false, lock := false, cause := 0, mask := 0, cls := 0, inited := false, resetting := false, selftest := false, failed := false, power := 0 }
def blankSlot : Slot := { state := .empty, gen := 0, len := 0, image := [] }
def blankBltRec : BltRec := { time := 0, seq := 0, page := 0, cls := 0, code := 0, args := [] }
def blankTestRes : TestRes := { result := 0, alias_ := false, reason := 0, coverage := 0, executed := 0, planned := 0, sig := 0, expected := 0, durUs := 0, mismatches := 0, firstFail := 0, seq := 0 }
def blankRadarPulse : RadarPulse := { tb := 0, subch := 0, power := 0, width := 0 }
def blankMeter : Meter := { mode := 0, aware := false, greenDrop := false, yellowDrop := false, redDrop := false, cir := 0, pir := 0, cbs := 0, ebs := 0, tc := 0, te := 0, last := 0, gFrames := 0, yFrames := 0, rFrames := 0, gBytes := 0, yBytes := 0, rBytes := 0 }
def blankVlan : Vlan := { learn := false, isolate := false, floodH := false, iface := 0, members := 0, untagged := 0, bss := 0 }
def blankNextHop : NextHop := { resolved := false, iface := 0, mac := 0 }
def blankIface : Iface := { nat := false, vlan := 0, mac := 0, mtu := 0 }
def blankKeySlot : KeySlot := { cipher := 0, txEn := false, rxEn := false, key := [], txPn := 0, rxPn := [] }
def blankCtrDef : CtrDef := { off := 0, cnt := 0, stride := 0, wide := false, sat := false, clr := .keep }
def blankRegDef : RegDef := { off := 0, cnt := 0, stride := 0, flds := [] }
def blankAscRadio : AscRadio := { round := 0, from_ := 0, inFlight := none, snap := 0, good := none, missedAt := none, eligible := [], exchanges := [], plan := none, pending := none, heatFlight := none, heatSnap := 0, heatGood := [], heatNext := none, heatFor := none, heatRun := none, suspended := false }
def blankPortVlan : PortVlan := { pvid := 0, accept := 0, cls := 0 }
def blankTxStart : TxStart := { pick := .beacon, vec := blankTxVec, rooms := [], ready := false, sync := false, ce := 0, ue := [] }
def blankOtp : Otp := { variant := 0, uid := [], reg := [], keys := [], revoked := [], arb := 0, lc := .raw }
def blankFlash : Flash := { slotA := blankSlot, slotB := blankSlot, journal := [], blotter := [], reservation := 0 }
def blankMgt : Mgt := { otp := blankOtp, flash := blankFlash, restarting := false, warm := false, bootCause := 0, bootDetail := 0, unsigned := false, slot := false, stage := 0, wdogAt := 0, lastWdog := none, temps := [], volts := [], iin := 0, ring := [], nextSeq := 0, commitSeq := 0, epoch := 0, dropped := none, openSince := 0, committing := 0, wantCommit := false, failCommit := false, upd := .idle, updLen := 0, updGot := 0, updBytes := [], trialDue := none, resetDue := none, staged := [], nonce := none, flashBusy := false, flashFail := false, flashMode := .x1, flashTries := 0, bltWait := none, vinWarn := false, timeSynced := false, sram := [] }
def blankFemNow : FemNow := { ramp := 0, map := 0, time := 0, bias := 0 }
def blankImgSet : ImgSet := { gain := [], phase := [], irr := [] }
def blankTxCorr : TxCorr := { gain := [], phase := [], leakI := [], leakQ := [] }
def blankRfe : Rfe := { cur := .sleep, moving := none, locked := false, calPhase := .none, calKind := .first, phaseEnd := 0, tuned := 0, side := false, lo := 0, chanReq := false, bands := [], wait := none, irr := 0, imgTime := none, image := blankImgSet, txCorr := blankTxCorr, perTime := 0, tempSyn := 0, tempImg := 0, tempNow := 0, recalDue := false, periodicDue := false, dueSince := none, overdue := false, quiet := none, calNext := false, femNow := blankFemNow }
def blankRxCfg : RxCfg := { det := 0, agc := 0, agcMan := 0, ovt := 0, cca := 0, obss := 0, dec := 0, radar := 0 }
def blankPhy : Phy := { rx := .listen, rcp := none, cuts := [], lastEnd := none, riseAt := 0, cfg := blankRxCfg, ed := 0, pdSec := [], clearAt := [], radar := [], fb := [], snrAt := [], cache := [], sounding := none, tx := none, pwrLast := [], lastRep := none }
def blankMac : Mac := { cw := [], backoff := [], idleAt := none, eifs := false, navBasic := 0, navIntra := 0, navBy := 0, navIntraBy := 0, ownNav := 0, txop := none, wait := none, due := none, bss := [], tmpl := [], bcnQueue := [], bcnBusy := [], starved := [], escalated := 0, dtimCount := [], twt := [], obss := none, rxBufs := [], airEnd := 0, short := false, sounded := none, txopEnd := 0, groupOpen := [] }
def blankTmu : Tmu := { tb := 0, ptp := 0, freq := 0, history := [], servo := .free, hops := 0, ofsLast := 0, integ := 0, delta := 0, lockRun := 0, rejectRun := 0, holdSince := 0, sources := [], tsfOfs := [], setTick := none, ppsEdge := none, ppsHigh := false, f0 := 0, te := 0, ptpRole := 0, ptpSteps := 0, ftm := none, ftmAt := 0, syncAt := 0, syncSeq := 0, ppsFall := 0, launches := [], asleep := none, aonTemp := 0 }
def blankMsh : Msh := { state := .off, addr := 0, depth := 0, parent := none, parentMac := 0, rootMac := 0, parentVer := 0, parentRssi := 0, parentInterval := 0, parentLocked := false, parentHops := 0, children := [], heard := [], scanIdx := 0, listenUntil := none, target := none, nonce := 0, reqAt := 0, reqDue := false, reattach := false, admitted := [], admitSlot := 0, admittedNow := 0, grantSlot := none, renewAt := 0, reportAt := 0, leases := [], requests := [], electedAt := 0, claimed := [], ownLease := none, seq := 0, seeded := false, seen := [], forwards := [], upHeld := [], inbox := [], key := [], listen := 0, guardUs := 0, misses := 0, window := none, windowOpen := false, windowGot := false, pull := false, nap := none, bcnLoss := 0, searchUntil := none, uplinkLost := none, dark := none, floodHdr := none, floodChunks := [], groups := [], ftmFast := false }
def blankCalMeas : CalMeas := { first := blankImgSet, second := blankImgSet, tx := blankTxCorr }
def blankCut : Cut := { rcp := blankReception, code := 0, at_ := 0 }
def blankTimedSeen : TimedSeen := { rooms := [], ready := false, ce := 0, ue := [] }
def blankFtmBurst : FtmBurst := { radio := .a, exs := [] }
def blankBootSeen : BootSeen := { sfdp := 0, bad := [] }

/-! A running device, and operations that bring it to a state -/

def rglOpen (d : Dev) : Dev :=
  ([(0, 0x00010007), (25, 0xFFFF), (26, 0xFFFFFFFF), (27, 0xFFFFFFFF), (28, 0xFF), (31, 0x3E8FA3E8)] : List (Nat × Word)).foldl
    (fun d e => d.wr (A.RGL.TEST_W e.1) e.2) ((List.range 24).foldl (fun d k => d.wr (A.RGL.TEST_W (k + 1)) 0xFFFFFFFF) d)
def T0 : State :=
  { State.reset with dev := rglOpen (allBlks.foldl (fun d b => d.setBlk b { d.blk b with enable := true, inited := true })
      { Dev.reset with pmu := { Pmu.reset with state := .run } }) }
def mpRq : Rq := { src := .mp, flags := 0, tag := 0 }
def dv (f : Dev → Dev) : State := { T0 with dev := f T0.dev }
theorem hmac_ne (k : List Word) (b : List Byte) : (hmacTag k b).map (fun x => x + 1) ≠ hmacTag k b := by
  intro h
  have h1 := congrArg List.head? h
  simp [hmacTag, natBytes] at h1
/-- Station 5, of the AP MLD 0, on radios A and B. -/
def Dev.withSta (d : Dev) : Dev :=
  ((d.onMac .a (fun m => { m with bss := tabPut m.bss 0 { enable := true, mesh := false, txBssid := false, nonTx := false, txIndex := 0, dtim := 1, bssid := 7, intervalTu := 100, offsetTu := 0, basic := 0, bcnRate := 0, bcnDup := false, gtk := [255, 255, 255, 255], bigtk := [255, 255], color := 0 } })).onMld
    (fun m => { m with apMlds := tabPut m.apMlds 0 { links := 3, bss := ⟨0, 0, 0⟩, linkId := ⟨0, 1, 2⟩, addr := 0 },
                       stations := tabPut m.stations 5 { apMld := 0, links := 3, mld := true, maxLen := 7991, addr := 9, addrs := ⟨1, 2, 3⟩, map := 0x6DB6DB, powerSave := false } }))
/-- Radio A on its channel, receiving, available. -/
def Dev.radioUp (d : Dev) : Dev :=
  (d.onRfe .a (fun f => { f with cur := .receive, locked := true })).onPhy .a (fun p => { p with rx := .listen })
/-- A template of one node in slots 0 and 1. -/
def Dev.withTpl (d : Dev) : Dev :=
  d.onQar (fun q => { q with templates := [(0, { fwMajor := 0, ver := 0, nodes := [{ entry := 0, param := 0, limit := 0, pred := 0 }], standard := false }), (1, { fwMajor := 0, ver := 0, nodes := [{ entry := 0, param := 0, limit := 0, pred := 0 }], standard := false })] })
theorem submitted_ok {x : Dev × Option Nat × Nat} (h : x.2.1.isSome = true) : x = (x.1, some (x.2.1.get h), x.2.2) := by
  rcases x with ⟨a, _ | b, c⟩
  · cases h
  · rfl
def Dev.dramUp (d : Dev) : Dev := d.onMem (fun m => { m with ddr := .serving })
theorem stuck_ok {x : Dev × List Dest × Bool} (h : x.2.1 ≠ []) : x = (x.1, x.2.1.head h :: x.2.1.tail, x.2.2) := by
  rcases x with ⟨a, _ | ⟨b, l⟩, c⟩
  · exact absurd rfl h
  · rfl
theorem no_poison {d : Dev} (h : d.mem.poison = []) (h2 : d.mem.poisonInit = false) (a n : Nat) : d.rangePoisoned a n = false := by
  simp [Dev.rangePoisoned, Dev.poisoned, tabGet, tabFind, h, h2]

/-! WellFormed: an ill-formed command for each check, which the check refuses -/

theorem test_wf_port : (Instr.linkUp 10 0).wf = false ∧ (Instr.linkUp 9 0).wf = true := by decide
theorem test_wf_ring : (Instr.requestProducerWrite 32 0 []).wf = false := by decide
theorem test_wf_page : (Instr.pgLockSet mpRq 4096).wf = false := by decide
theorem test_wf_addr : (Instr.counterWrite mpRq 2 0).wf = false ∧ (Instr.registerWrite mpRq 0x1000000 0).wf = false := by decide
theorem test_wf_slot : (Instr.acpKeyWrite mpRq 4 []).wf = false := by decide
theorem test_wf_station : (Instr.reorderHoleTimeout 1024 0).wf = false := by decide
theorem test_wf_tid : (Instr.reorderHoleTimeout 0 8).wf = false := by decide
theorem test_wf_queue : (Instr.ageCheck 16383).wf = false := by decide +kernel
theorem test_wf_pacer : (Instr.pacerRefill 4096).wf = false := by decide
theorem test_wf_sensor : (Instr.tempWarn 12 0).wf = false := by decide
theorem test_wf_rail : (Instr.brownOut 6 false).wf = false := by decide
theorem test_wf_rank : (Instr.ddrRefresh 2 false).wf = false := by decide
theorem test_wf_client : (Instr.ddrReadReturn 12 0 0 [] 0).wf = false := by decide
theorem test_wf_subchannel : (Instr.radarPulse 16 0 0).wf = false := by decide
theorem test_wf_mac : (Instr.childTimeout (2 ^ 48)).wf = false := by decide
theorem test_wf_vlan : (Instr.l2AgeOut 4096 0).wf = false := by decide
theorem test_wf_bss : (Instr.tbtt .a 16).wf = false := by decide
theorem test_wf_instance : (Instr.instanceDeadline 16).wf = false := by decide
theorem test_wf_class : (Instr.pauseTimerExpiry 0 8).wf = false := by decide

/-! Results: the expected values are those of the spec's worked examples -/

/-- Meter 40 of spec/11 (after R286): the colours of six arrivals at 0, 100, 200, 300, 400 and 1,100 µs. -/
def meterRun (m : Meter) : List Nat → List Nat
  | [] => []
  | t :: ts => ((m.fill (250 * t)).mark 1500 0).1 :: meterRun ((m.fill (250 * t)).mark 1500 0).2 ts
theorem test_meter_marks :
    meterRun { Meter.reset with mode := 2, cir := 8000, pir := 16000, cbs := 3000, ebs := 4500, tc := 3000 * 65536, te := 4500 * 65536 }
      [0, 100, 200, 300, 400, 1100] = [0, 0, 1, 2, 2, 1] := by decide +kernel

/-- Versions of spec/02 (after R41): [1, 2] with [1, 3] agree on 2; [4, 5] with [1, 3] do not agree. -/
theorem test_versions : agree 1 2 1 3 = some 2 ∧ agree 4 5 1 3 = none := by decide

/-- STR of spec/07 (after R178): 5,775 MHz at 80 MHz with 6,105 MHz at 320 MHz is non-STR; 5,570 MHz at 160 MHz is STR. -/
def tunedTo (b c : Word) : Dev := (T0.dev.onRfe .b (fun f => { f with tuned := b })).onRfe .c (fun f => { f with tuned := c })
theorem test_str :
    (tunedTo (wd (5775 * 2 ^ 16 + 2 * 2 ^ 8)) (wd (6105 * 2 ^ 16 + 4 * 2 ^ 8))).strNow = false
    ∧ (tunedTo (wd (5570 * 2 ^ 16 + 3 * 2 ^ 8)) (wd (6105 * 2 ^ 16 + 4 * 2 ^ 8))).strNow = true := by decide +kernel

/-- The OBSS limit of spec/06 (after R138): LEVEL −72 dBm, 4 chains, FEM gain 16 dB: −7.25 dBm. -/
def obssDev : Dev := (T0.dev.wr (A.RGL.TEST_W 29) 0x4000).onMac .b (fun m => { m with obss := some (-72, 1000) })
theorem test_obss_limit : (obssDev.obssLimit .b).map (fun p => p - Int.ofNat (dirGain 4) - obssDev.femGain .b) = some (-29) := by
  decide +kernel

/-- The start check of spec/03 (after R91): 4 chains at 320 MHz are each clamped by 1.25 dB. -/
def clampDev : Dev :=
  ((((T0.dev.wr (A.RGL.TEST_W 28) 84).wr (A.RGL.TEST_W 29) 0x400000).wr (A.RGL.TEST_W 30) 0x0C0000).wr A.RGL.FIELD_PWR3 80).onRfe
    .c (fun f => { f with tuned := wd (6105 * 2 ^ 16 + 4 * 2 ^ 8 + 1) })
theorem test_clamp : clampDev.rglStart .c 4 0 [0, 1, 2, 3] 8 100 = .go [(0, 5), (1, 5), (2, 5), (3, 5)] := by decide +kernel

/-- The mean of spec/05 (after R123): two 484-tone RUs at 0 and +3 dB: with P_REF −1.00 dBm the request is +1.00 dBm. -/
theorem test_request : -4 + meanOffset [(484, 0), (484, 12)] = 4 := by decide +kernel

/-- The servo of spec/15 (after R361): the four values of TMU.FREQ, from θ and I in 1/65,536 ns. -/
theorem test_servo :
    T0.dev.servoFreq (40 * 65536) 56908316672 31250000 = -5669 ∧ T0.dev.servoFreq 0 56908316672 31250000 = -1821
    ∧ T0.dev.servoFreq (-12 * 65536) 41446434406 31250000 = -172 ∧ T0.dev.servoFreq (-12 * 65536) 25984552141 31250000 = 323 := by
  decide +kernel

/-- Pacer 17 of spec/11 (after R284): the refill at t = 30 µs applies INC 62.5 and BURST 2,000; the credit is −1,187.5 bytes. -/
def pacer17 : Dev :=
  T0.dev.setPacer 17 { cfg := { enable := true, parentEn := false, parent := 0, periodUs := 10, inc := 2000, burst := 3000 },
                       next := some { enable := true, parentEn := false, parent := 0, periodUs := 10, inc := 1000, burst := 2000 },
                       credit := -1250 * 16, refillAt := 7500 }
theorem test_pacer : ((effPacerRefill 17 pacer17).pacer 17).credit = -19000 := by decide +kernel

/-- The status word of spec/02 (after R64): ATTN_SEQ 0x24 after the freeze cause of class 5 gives 0xD400. -/
theorem test_status :
    (({ T0.dev with hci := { T0.dev.hci with attnSeq := 0x23 } }.setBlk .mem { T0.dev.blk .mem with mask := 0 }).raise
      .mem Cause.MEM.DRAM_FROZEN).status 0 = 0xD400 := by
  decide +kernel

/-- PG_ID of ETH_3, page 0x730, in spec/02 (after R62). -/
theorem test_page_id : T0.dev.headerRead (.eth 3) 0x730 0 = 0x04003730 := by decide +kernel

/-- The call chain of spec/10: after ten calls the eleventh spills group 0 and leaves WIN with SPILLED 1, RES 11, CWP 11; the
third frame stands at 0x1000_7890. -/
theorem test_spill :
    ((Core.advance (.quill 0) { Core.reset false with cwp := 10, res := 11, spillp := 0x10007800 }).map (fun c => c.win)) = some 0x1BB
    ∧ ({ Core.reset false with spillp := 0x10007800 } : Core).frameAt 2 = 0x10007890 := by decide +kernel

/-- ALU results by the tables of spec/10: a sum that wraps sets C and not V; 1 minus 2 borrows; the quotient by 0. -/
theorem test_alu :
    aluAdd 0xFFFFFFFF 1 false = { res := 0, c := true, v := false } ∧ (aluSub 1 2 false).res = 0xFFFFFFFF
    ∧ (aluDivu 7 0).res = 0xFFFFFFFF ∧ (aluSar 0x80000000 4).res = 0xF8000000 := by decide

/-- ADDI on the MP (spec/10): w0 := w0 + 5, and the pc moves on one word. -/
theorem test_addi :
    (match exec (.addi .mp { blankFmtI with rd := 16, ra := 16, imm := 5 }) (dv (fun d => d.onMp (fun c => c.setReg 16 7))) with
     | .next t => decide ((t.dev.mp.reg 16) = 12 ∧ t.dev.mp.pc = T0.dev.mp.pc + 4) | _ => false) = true := by decide +kernel

/-- The queue holds the commands first in, first out; the front one is taken. -/
theorem test_queue :
    (match step { T0 with pending := [.pcieLinkDown, .spiStatus] } with
     | .next t => decide (t.pending = [.spiStatus]) | _ => false) = true := by decide +kernel

/-! Witnesses: for every clause of an obligation, operands and a state that meet all its hypotheses -/

theorem w_HostRequestsComplete_hello : ∃ (s : State) (rq : Rq) (m : Msg) (v : Nat),
  (s.dev.hears rq 0 1 = true) ∧
  (s.dev.version rq.src = none) ∧
  (m.formed rq = true) ∧
  (m.payload = []) ∧
  (agree 2 3 (bitsOf m.arg 7 0) (bitsOf m.arg 15 8) = some v) :=
  ⟨T0, ({ src := .spi, flags := 0, tag := 0 } : Rq), ({ op := 0, flags := 0, len := 0, tag := 0, addr := 0, arg := 0x0302, payload := [] } : Msg), 3,
   by decide +kernel⟩

theorem w_HostRequestsComplete_nop : ∃ (s : State) (rq : Rq) (m : Msg),
  (s.dev.hears rq 0 0 = true) ∧
  (m.formed rq = true) ∧
  (m.payload = []) :=
  ⟨T0, mpRq, ({ op := 0, flags := 0, len := 0, tag := 0, addr := 0, arg := 0, payload := [] } : Msg),
   by decide +kernel⟩

theorem w_HostRequestsComplete_readHeader : ∃ (s : State) (rq : Rq) (m : Msg) (n : Nat) (p : Nat) (o : Nat) (b : Blk),
  (s.dev.takes rq OP.READ 0 n = true) ∧
  (m.formed rq = true) ∧
  (m.payload = []) ∧
  (m.arg.toNat = n) ∧
  (1 ≤ n) ∧
  (p = bitsOf m.addr 23 12) ∧
  (o = bitsOf m.addr 11 0) ∧
  (o % 4 = 0) ∧
  (o + 4 * n ≤ 0x040) ∧
  (blkOfPage p = some b) :=
  ⟨T0, mpRq, ({ op := 0, flags := 0, len := 0, tag := 0, addr := 0x030000, arg := 16, payload := [] } : Msg), 16, 0x030, 0, .mgt,
   by decide +kernel⟩

theorem w_HostRequestsComplete_read : ∃ (s : State) (rq : Rq) (m : Msg) (n : Nat) (p : Nat) (o : Nat) (b : Blk),
  (s.dev.takes rq OP.READ 0 n = true) ∧
  (m.formed rq = true) ∧
  (m.payload = []) ∧
  (m.arg.toNat = n) ∧
  (1 ≤ n) ∧
  (s.dev.version rq.src = some 1 → n ≤ 64) ∧
  (p = bitsOf m.addr 23 12) ∧
  (o = bitsOf m.addr 11 0) ∧
  (o % 4 = 0) ∧
  (0x040 < o + 4 * n) ∧
  (o + 4 * n ≤ 0x1000) ∧
  (blkOfPage p = some b) ∧
  (∀ k < n, refuse ((s.dev.event 0).readCodes p (o + 4 * k)) = RC.OK) ∧
  (∀ k < n, 4096 * p + (o + 4 * k) ≠ A.PHY.RADAR_FIFO1 .b) :=
  by refine ⟨T0, mpRq, ({ op := 0, flags := 0, len := 0, tag := 0, addr := 0x030040, arg := 1, payload := [] } : Msg), 1, 0x030, 0x040, .mgt,
   ?_, ?_, ?_, ?_, ?_, ?_, ?_, ?_, ?_, ?_, ?_, ?_, (by decide +kernel), (by decide +kernel)⟩ <;> decide +kernel

theorem w_HostRequestsComplete_write : ∃ (s : State) (rq : Rq) (m : Msg) (v : Word) (b : Blk) (r : RegDef),
  (m.formed rq = true) ∧
  (m.payload = [v]) ∧
  (m.arg = 1) ∧
  (s.dev.accepts rq (bitsOf m.addr 23 0) v b = true) ∧
  (0x040 ≤ bitsOf m.addr 11 0) ∧
  (regAt b (bitsOf m.addr 11 0) = some r) ∧
  (plainReg b (bitsOf m.addr 11 0) = true) ∧
  (bitsOf m.addr 23 0 ≠ A.MLD.LINK_CTRL) :=
  ⟨T0, mpRq, ({ op := 0, flags := 0, len := 4, tag := 0, addr := BitVec.ofNat 32 A.PMU.WAKE_EN, arg := 1, payload := [2] } : Msg), 2, .pmu, ((regAt .pmu (A.PMU.WAKE_EN % 4096)).getD blankRegDef),
   by decide +kernel⟩

theorem w_HostRequestsComplete_writeThen : ∃ (s : State) (rq : Rq) (m : Msg) (v : Word) (b : Blk) (r : RegDef),
  (m.formed rq = true) ∧
  (m.payload = [v]) ∧
  (m.arg = 1) ∧
  (s.dev.accepts rq (bitsOf m.addr 23 0) v b = true) ∧
  (0x040 ≤ bitsOf m.addr 11 0) ∧
  (regAt b (bitsOf m.addr 11 0) = some r) ∧
  (linkReg (bitsOf m.addr 23 0) = false) :=
  ⟨T0, mpRq, ({ op := 0, flags := 0, len := 4, tag := 0, addr := BitVec.ofNat 32 A.PMU.WAKE_EN, arg := 1, payload := [2] } : Msg), 2, .pmu, ((regAt .pmu (A.PMU.WAKE_EN % 4096)).getD blankRegDef),
   by decide +kernel⟩

theorem w_HostRequestsComplete_modify : ∃ (s : State) (rq : Rq) (m : Msg) (w : Word) (new : Word) (p : Nat) (o : Nat) (b : Blk) (r : RegDef),
  (s.dev.takes rq OP.MODIFY 1 1 = true) ∧
  (m.formed rq = true) ∧
  (m.payload = [w]) ∧
  (p = bitsOf m.addr 23 12) ∧
  (o = bitsOf m.addr 11 0) ∧
  (o % 4 = 0) ∧
  (0x040 ≤ o) ∧
  (blkOfPage p = some b) ∧
  (regAt b o = some r) ∧
  (modifiable b o = true) ∧
  (plainReg b o = true) ∧
  (4096 * p + o ≠ A.MLD.LINK_CTRL) ∧
  (new = ((s.dev.event 0).readValue p o &&& ~~~ m.arg) ||| (w &&& m.arg)) ∧
  (refuse ((s.dev.event 0).readCodes p o) = RC.OK) ∧
  (refuse ((s.dev.event 0).writeCodes rq.src p o new) = RC.OK) :=
  by refine ⟨T0, mpRq, ({ op := 0, flags := 0, len := 4, tag := 0, addr := BitVec.ofNat 32 A.PMU.WAKE_EN, arg := 6, payload := [2] } : Msg), 2, _, A.PMU.WAKE_EN / 4096, A.PMU.WAKE_EN % 4096, .pmu, ((regAt .pmu (A.PMU.WAKE_EN % 4096)).getD blankRegDef),
   ?_, ?_, ?_, ?_, ?_, ?_, ?_, ?_, ?_, ?_, ?_, ?_, rfl, ?_⟩ <;> decide +kernel

theorem w_HostRequestsComplete_modifyThen : ∃ (s : State) (rq : Rq) (m : Msg) (w : Word) (new : Word) (p : Nat) (o : Nat) (b : Blk) (r : RegDef) (F : Dev → Dev),
  (s.dev.takes rq OP.MODIFY 1 1 = true) ∧
  (m.formed rq = true) ∧
  (m.payload = [w]) ∧
  (p = bitsOf m.addr 23 12) ∧
  (o = bitsOf m.addr 11 0) ∧
  (o % 4 = 0) ∧
  (0x040 ≤ o) ∧
  (blkOfPage p = some b) ∧
  (regAt b o = some r) ∧
  (modifiable b o = true) ∧
  (linkReg (4096 * p + o) = false) ∧
  (new = ((s.dev.event 0).readValue p o &&& ~~~ m.arg) ||| (w &&& m.arg)) ∧
  (refuse ((s.dev.event 0).readCodes p o) = RC.OK) ∧
  (refuse ((s.dev.event 0).writeCodes rq.src p o new) = RC.OK) ∧
  (F = (fun d => (d.wr (4096 * p + o) (r.next (d.rd (4096 * p + o)) new)).blockPost b o (d.rd (4096 * p + o)) (r.next (d.rd (4096 * p + o)) new) new)) :=
  by refine ⟨T0, mpRq, ({ op := 0, flags := 0, len := 4, tag := 0, addr := BitVec.ofNat 32 A.PMU.WAKE_EN, arg := 6, payload := [2] } : Msg), 2, _, _, _, .pmu, ((regAt .pmu (A.PMU.WAKE_EN % 4096)).getD blankRegDef), _,
   ?_, ?_, ?_, rfl, rfl, ?_, ?_, ?_, ?_, ?_, ?_, rfl, ?_, ?_, rfl⟩ <;> decide +kernel

theorem w_HostRequestsComplete_watch : ∃ (s : State) (rq : Rq) (m : Msg) (d : Dev),
  (s.dev.WatchesAnswered) ∧
  (s.dev.takes rq OP.WATCH 1 0 = true) ∧
  (rq.src ≠ .mp) ∧
  (m.formed rq = true) ∧
  (m.payload = [s.dev.hci.attnSeq]) ∧
  (m.arg ≠ 0) ∧
  (m.arg.toNat ≤ 60000) ∧
  (s.dev.watchOf rq.src = none) ∧
  (d = s.dev.reached rq.src) :=
  by refine ⟨dv (fun d => d.onHci (fun h => { h with spi := { h.spi with session := some 3 } })), ({ src := .spi, flags := 0, tag := 0 } : Rq), ({ op := 0, flags := 0, len := 4, tag := 0, addr := 0, arg := 60000, payload := [0] } : Msg), _,
   (by intro src w h; cases src <;> cases h), (by decide), ?_, ?_, ?_, ?_, ?_, ?_, rfl⟩ <;> decide +kernel

theorem w_HostRequestsComplete_watchOpen : ∃ (d : Dev) (src : Src) (w : Watch),
  (src ≠ .mp) ∧
  ((d.version src).isSome = true) :=
  ⟨(dv (fun d => d.onHci (fun h => { h with spi := { h.spi with session := some 3 } }))).dev, .spi, (blankWatch),
   by decide +kernel⟩

theorem w_HostRequestsComplete_watchTimeout : ∃ (s : State) (src : Src) (w : Watch),
  (s.dev.watchOf src = some w) ∧
  (w.seen = s.dev.hci.attnSeq) :=
  ⟨dv (fun d => d.onHci (fun h => { h with spi := { h.spi with session := some 3, watch := some blankWatch } })), .spi, blankWatch,
   by decide +kernel⟩

theorem w_HostRequestsComplete_attnScan : ∃ (s : State) (rq : Rq) (m : Msg) (n : Nat) (ps : List (Nat × Page)),
  (s.dev.takes rq OP.ATTN_SCAN 0 n = true) ∧
  (m.formed rq = true) ∧
  (m.payload = []) ∧
  (ps = s.dev.pages.filter (fun e => decide (bitsOf m.arg 11 0 ≤ e.1) && decide (e.2.pend ≠ 0))) ∧
  (2 * ps.length ≤ n) :=
  by refine ⟨T0, mpRq, ({ op := 0, flags := 0, len := 0, tag := 0, addr := 0, arg := 0, payload := [] } : Msg), 0, _,
   ?_, ?_, ?_, rfl, ?_⟩ <;> decide +kernel

theorem w_HostRequestsComplete_close : ∃ (s : State) (rq : Rq) (m : Msg) (e : Dev),
  (s.dev.takes rq OP.CLOSE 0 0 = true) ∧
  (m.formed rq = true) ∧
  (m.payload = []) ∧
  (e = s.dev.reached rq.src) :=
  ⟨dv (fun d => d.onHci (fun h => { h with spi := { h.spi with session := some 3 } })), ({ src := .spi, flags := 0, tag := 0 } : Rq), ({ op := 0, flags := 0, len := 0, tag := 0, addr := 0, arg := 0, payload := [] } : Msg), _,
   by decide +kernel,
   by decide +kernel,
   by decide +kernel,
   rfl⟩

theorem w_HostRequestsComplete_closed : ∃ (d : Dev) (src : Src),
  (src ≠ .mp) :=
  ⟨T0.dev, .spi,
   by decide +kernel⟩

theorem w_RingWritesComplete_producerTakes : ∃ (s : State) (n : Nat) (w : Word) (e : RingEnt) (d : Dev) (r : Ring),
  (d = s.dev.pcieWake) ∧
  (r = s.dev.ring n) ∧
  (s.dev.hciUp = true) ∧
  (s.dev.hci.linkUp = true) ∧
  (n < 32) ∧
  (r.enable = true) ∧
  (r.typ = 1) ∧
  (r.held = []) ∧
  (r.waiting = []) ∧
  (r.full = false) ∧
  (bitsOf w 11 0 < r.size) ∧
  ((bitsOf w 11 0 + r.size - r.prod) % r.size = 1) ∧
  (d.hci.inExec = none) ∧
  (d.asking = []) :=
  ⟨dv (fun d => (d.onHci (fun h => { h with linkUp := true })).setRing 0 { Ring.reset with enable := true, typ := 1, log2 := 4 }), 0, 1, blankRingEnt, _, _,
   rfl,
   rfl,
   by decide +kernel⟩

theorem w_RingWritesComplete_producerData : ∃ (s : State) (n : Nat) (w : Word) (e : RingEnt) (d : Dev) (d1 : Dev) (r : Ring),
  (d = s.dev.pcieWake) ∧
  (r = s.dev.ring n) ∧
  (s.dev.hciUp = true) ∧
  (s.dev.hci.linkUp = true) ∧
  (n < 32) ∧
  (r.enable = true) ∧
  (r.typ = 2) ∧
  (r.held = []) ∧
  (r.waiting = []) ∧
  (r.full = false) ∧
  (bitsOf w 11 0 < r.size) ∧
  ((bitsOf w 11 0 + r.size - r.prod) % r.size = 1) ∧
  (d.ringStuck n = false) ∧
  ((d.setRing n { r with prod := bitsOf w 11 0, held := [], reqPos := (r.reqPos + 1) % r.size }).dataEntry n e = some d1) :=
  by refine ⟨dv (fun d => (d.onHci (fun h => { h with linkUp := true })).setRing 0 { Ring.reset with enable := true, typ := 2, log2 := 4 }), 0, 1, { blankRingEnt with words := [0x00640000, 0, 0, 0, 0x000807FF, 0, 0, 0] }, _, _, _,
   rfl, rfl, ?_, ?_, ?_, ?_, ?_, ?_, ?_, ?_, ?_, ?_, ?_, (Option.some_get (by decide +kernel)).symm⟩ <;> decide +kernel

theorem w_RingWritesComplete_producerHeld : ∃ (s : State) (n : Nat) (w : Word) (es : List RingEnt) (k : Nat) (d : Dev) (r : Ring),
  (d = s.dev.pcieWake) ∧
  (r = s.dev.ring n) ∧
  (s.dev.hciUp = true) ∧
  (s.dev.hci.linkUp = true) ∧
  (n < 32) ∧
  (r.enable = true) ∧
  (bitsOf w 11 0 < r.size) ∧
  (r.full = true ∨ r.waiting ≠ []) ∧
  (k = (bitsOf w 11 0 + r.size - r.prod) % r.size) ∧
  (d.asking = []) :=
  by refine ⟨dv (fun d => (d.onHci (fun h => { h with linkUp := true })).setRing 0 { Ring.reset with enable := true, typ := 1, log2 := 4, waiting := [([], 0, [])] }), 0, 1, [], _, _, _,
   rfl, rfl, ?_, ?_, ?_, ?_, ?_, Or.inr (by decide +kernel), rfl, ?_⟩ <;> decide +kernel

theorem w_RingWritesComplete_consumerFrees : ∃ (s : State) (n : Nat) (w : Word) (d : Dev) (r : Ring),
  (d = s.dev.pcieWake) ∧
  (r = s.dev.ring n) ∧
  (s.dev.hciUp = true) ∧
  (s.dev.hci.linkUp = true) ∧
  (n < 32) ∧
  (r.enable = true) ∧
  (bitsOf w 11 0 < r.size) ∧
  (r.held = []) ∧
  (r.waiting = []) ∧
  (d.asking = []) :=
  ⟨dv (fun d => (d.onHci (fun h => { h with linkUp := true })).setRing 0 { Ring.reset with enable := true, typ := 1, log2 := 4 }), 0, 1, _, _,
   rfl,
   rfl,
   by decide +kernel⟩

theorem w_RingWritesComplete_consumerWrites : ∃ (s : State) (n : Nat) (w : Word) (d : Dev) (r : Ring) (ws : List Word) (host : Nat) (p : List Word),
  (d = s.dev.pcieWake) ∧
  (r = s.dev.ring n) ∧
  (s.dev.hciUp = true) ∧
  (s.dev.hci.linkUp = true) ∧
  (n < 32) ∧
  (r.enable = true) ∧
  (bitsOf w 11 0 < r.size) ∧
  (r.held = []) ∧
  (r.waiting = [(ws, host, p)]) ∧
  ((r.rspPos + 1) % r.size ≠ bitsOf w 11 0) ∧
  (d.asking = []) :=
  ⟨dv (fun d => (d.onHci (fun h => { h with linkUp := true })).setRing 0 { Ring.reset with enable := true, typ := 1, log2 := 4, waiting := [([], 0, [])] }), 0, 5, _, _, [], 0, [],
   rfl,
   rfl,
   by decide +kernel⟩

theorem w_RingWritesComplete_ringBase : ∃ (s : State) (n : Nat) (w : Word) (d : Dev) (r : Ring),
  (d = s.dev.pcieWake) ∧
  (r = s.dev.ring n) ∧
  (s.dev.hciUp = true) ∧
  (s.dev.hci.linkUp = true) ∧
  (n < 32) ∧
  (r.enable = false) :=
  ⟨dv (fun d => (d.onHci (fun h => { h with linkUp := true })).setRing 0 { Ring.reset with enable := false, typ := 1, log2 := 4 }), 0, 0, _, _,
   rfl,
   rfl,
   by decide +kernel⟩

theorem w_RingWritesComplete_ringEnable : ∃ (s : State) (n : Nat) (w : Word) (d : Dev) (r : Ring) (new : Ring),
  (d = s.dev.pcieWake) ∧
  (r = s.dev.ring n) ∧
  (s.dev.hciUp = true) ∧
  (s.dev.hci.linkUp = true) ∧
  (n < 32) ∧
  (r.enable = false) ∧
  (bitOf w 31 = true) ∧
  (new = { r with log2 := bitsOf w 3 0, typ := bitsOf w 5 4, vec := bitsOf w 12 8 }) ∧
  (d.ringValid n new = true) :=
  by refine ⟨dv (fun d => (d.onHci (fun h => { h with linkUp := true })).setRing 0 { Ring.reset with enable := false, typ := 1, log2 := 4, reqBase := 0x10000, rspBase := 0x20000 }), 0, 0x80000014, _, _, _,
   rfl, rfl, ?_, ?_, ?_, ?_, ?_, rfl, ?_⟩ <;> decide +kernel

theorem w_RingWritesComplete_ringStop : ∃ (s : State) (n : Nat) (w : Word) (d : Dev),
  (d = s.dev.pcieWake.ringStop n) ∧
  (s.dev.hciUp = true) ∧
  (s.dev.hci.linkUp = true) ∧
  (n < 32) ∧
  ((s.dev.ring n).enable = true) ∧
  (bitOf w 31 = false) :=
  ⟨dv (fun d => (d.onHci (fun h => { h with linkUp := true })).setRing 0 { Ring.reset with enable := true, typ := 1, log2 := 4 }), 0, 0, _,
   rfl,
   by decide +kernel⟩

theorem w_RingWritesComplete_msixUnmask : ∃ (s : State) (v : Nat) (w : Word) (d : Dev),
  (d = s.dev.pcieWake.onHci (fun h => { h with msixTab := tabSet 0 h.msixTab (4 * v + 3) w, msixMask := h.msixMask &&& ~~~ oneBit v, msixPending := h.msixPending &&& ~~~ oneBit v })) ∧
  (s.dev.hciUp = true) ∧
  (s.dev.hci.linkUp = true) ∧
  (v < 32) ∧
  (bitOf w 0 = false) :=
  ⟨dv (fun d => (d.onHci (fun h => { h with linkUp := true })).setRing 0 { Ring.reset with enable := true, typ := 1, log2 := 4 }), 0, 0, _,
   rfl,
   by decide +kernel⟩

theorem w_DatagramsAndSpiComplete_spiRequest : ∃ (s : State) (bs : List Byte) (body : List Byte) (d : Dev),
  (d = s.dev.emit (.spi [s.dev.spiStatus])) ∧
  (s.dev.hciUp = true) ∧
  (s.dev.spiAccepting = true) ∧
  (18 ≤ bs.length) ∧
  (body = bs.take (bs.length - 2)) ∧
  (body.length = 16 + (msgOf body).len) ∧
  (leNat (bs.drop (bs.length - 2)) = (crc16 body).toNat) ∧
  (d.hci.inExec = none) ∧
  (d.asking = []) :=
  by refine ⟨T0, (List.replicate 16 0 ++ [BitVec.ofNat 8 (crc16 (List.replicate 16 0)).toNat, BitVec.ofNat 8 ((crc16 (List.replicate 16 0)).toNat / 256)]), _, _,
   rfl, ?_, ?_, ?_, rfl, ?_⟩ <;> decide +kernel

theorem w_DatagramsAndSpiComplete_spiReply : ∃ (s : State) (clocks : Nat) (r : Reply) (rest : List Reply),
  (s.dev.hciUp = true) ∧
  (s.dev.hci.spi.replies = r :: rest) ∧
  (r.spiBytes.length ≤ clocks) :=
  ⟨dv (fun d => d.onHci (fun h => { h with spi := { h.spi with replies := [blankReply] } })), 64, blankReply, [],
   by decide +kernel⟩

theorem w_DatagramsAndSpiComplete_spiStatus : ∃ (s : State),
  (s.dev.hciUp = true) :=
  ⟨T0,
   by decide +kernel⟩

theorem w_DatagramsAndSpiComplete_acpAccept : ∃ (s : State) (port : Nat) (peer : Nat) (udp : Bool) (bs : List Byte) (body : List Byte) (ms : List Msg) (a : Acp) (id : Nat) (ctr : Nat),
  (s.dev.hciUp = true) ∧
  (s.dev.romServes = false) ∧
  (port < 10) ∧
  (s.dev.present (.eth port) = true) ∧
  (bitOf (s.dev.rd A.HCI.ACP_CFG) (12 + port) = true) ∧
  (bitOf (s.dev.rd A.HCI.ACP_CFG) (if udp then 1 else 0) = true) ∧
  (32 ≤ bs.length) ∧
  (bs.length ≤ 1400) ∧
  (body = bs.take (bs.length - 16)) ∧
  (byteAt bs 4 ≤ 3) ∧
  (bs.drop (bs.length - 16) = hmacTag (s.dev.acpKey (byteAt bs 4)) body) ∧
  (byteAt bs 1 = 0) ∧
  (byteAt bs 6 = 0) ∧
  (byteAt bs 7 = 0) ∧
  (acpMsgs (byteAt bs 5) (body.drop 16) = some ms) ∧
  (id = leNat ((bs.drop 2).take 2)) ∧
  (id ≠ 0) ∧
  (tabFind s.dev.hci.acp id = some a) ∧
  (byteAt bs 0 = a.version) ∧
  (byteAt bs 4 = a.slot) ∧
  (1 ≤ byteAt bs 5) ∧
  (byteAt bs 5 ≤ (if a.version = 3 then 8 else 1)) ∧
  (ctr = leNat ((bs.drop 8).take 8)) ∧
  (a.helloCtr < ctr) ∧
  (a.topCtr < ctr) :=
  by refine ⟨dv (fun d => (d.wr A.HCI.ACP_CFG 0xFFFFFFFF).onHci (fun h => { h with acp := [(1, { blankAcp with version := 3 })] })), 0, 0, false, (([3, 0, 1, 0, 0, 1, 0, 0, 1, 0, 0, 0, 0, 0, 0, 0] ++ List.replicate 16 0) ++ hmacTag (List.replicate 8 0) ([3, 0, 1, 0, 0, 1, 0, 0, 1, 0, 0, 0, 0, 0, 0, 0] ++ List.replicate 16 0)), ([3, 0, 1, 0, 0, 1, 0, 0, 1, 0, 0, 0, 0, 0, 0, 0] ++ List.replicate 16 0), ((acpMsgs 1 (List.replicate 16 0)).getD []), { blankAcp with version := 3 }, 1, 1,
   ?_, ?_, ?_, ?_, ?_, ?_, ?_, ?_, rfl, ?_, rfl, ?_⟩ <;> decide +kernel

theorem w_DatagramsAndSpiComplete_acpRequest : ∃ (d : Dev) (id : Nat) (ctr : Nat) (port : Nat) (peer : Nat) (udp : Bool) (m : Msg) (a : Acp),
  (tabFind d.hci.acp id = some a) ∧
  (m.flags / 2 % 2 = 0) ∧
  (d.hci.inExec = none) ∧
  (d.asking = []) :=
  ⟨(dv (fun d => d.onHci (fun h => { h with acp := [(1, blankAcp)] }))).dev, 1, 0, 0, 0, false, blankMsg, blankAcp,
   by decide +kernel⟩

theorem w_DatagramsAndSpiComplete_sessionIdle : ∃ (s : State) (id : Nat) (a : Acp),
  (tabFind s.dev.hci.acp id = some a) ∧
  (a.watch = none) :=
  ⟨dv (fun d => d.onHci (fun h => { h with acp := [(1, blankAcp)] })), 1, blankAcp,
   by decide +kernel⟩

theorem w_DatagramsAndSpiComplete_keyWrite : ∃ (s : State) (rq : Rq) (slot : Nat) (v : Word),
  (slot < 4) ∧
  (s.dev.accepts rq (A.HCI.ACP_KEY (8 * slot)) v .hci = true) :=
  ⟨T0, mpRq, 0, 0,
   by decide +kernel⟩

theorem w_TransportRefusals_producerError : ∃ (s : State) (n : Nat) (w : Word) (es : List RingEnt),
  (s.dev.hciUp = true) ∧
  (s.dev.hci.linkUp = true) ∧
  (n < 32) ∧
  ((s.dev.ring n).enable = true) ∧
  ((s.dev.ring n).size ≤ bitsOf w 11 0) :=
  ⟨dv (fun d => (d.onHci (fun h => { h with linkUp := true })).setRing 0 { Ring.reset with enable := true, typ := 1, log2 := 4 }), 0, 0xFFF, [],
   by decide +kernel⟩

theorem w_TransportRefusals_consumerError : ∃ (s : State) (n : Nat) (w : Word),
  (s.dev.hciUp = true) ∧
  (s.dev.hci.linkUp = true) ∧
  (n < 32) ∧
  ((s.dev.ring n).enable = true) ∧
  ((s.dev.ring n).size ≤ bitsOf w 11 0) :=
  ⟨dv (fun d => (d.onHci (fun h => { h with linkUp := true })).setRing 0 { Ring.reset with enable := true, typ := 1, log2 := 4 }), 0, 0xFFF,
   by decide +kernel⟩

theorem w_TransportRefusals_spiBadCrc : ∃ (s : State) (bs : List Byte) (body : List Byte),
  (s.dev.hciUp = true) ∧
  (s.dev.spiAccepting = true) ∧
  (18 ≤ bs.length) ∧
  (body = bs.take (bs.length - 2)) ∧
  (leNat (bs.drop (bs.length - 2)) ≠ (crc16 body).toNat) :=
  by refine ⟨T0, (List.replicate 18 1), _,
   ?_, ?_, ?_, rfl, ?_⟩ <;> decide +kernel

theorem w_TransportRefusals_acpAuthFail : ∃ (s : State) (port : Nat) (peer : Nat) (udp : Bool) (bs : List Byte) (body : List Byte),
  (s.dev.hciUp = true) ∧
  (s.dev.romServes = false) ∧
  (port < 10) ∧
  (s.dev.present (.eth port) = true) ∧
  (bitOf (s.dev.rd A.HCI.ACP_CFG) (12 + port) = true) ∧
  (bitOf (s.dev.rd A.HCI.ACP_CFG) (if udp then 1 else 0) = true) ∧
  (32 ≤ bs.length) ∧
  (bs.length ≤ 1400) ∧
  (body = bs.take (bs.length - 16)) ∧
  (byteAt bs 4 ≤ 3) ∧
  (bs.drop (bs.length - 16) ≠ hmacTag (s.dev.acpKey (byteAt bs 4)) body) ∧
  (s.dev.hci.authFails.length < 15) :=
  by refine ⟨dv (fun d => d.wr A.HCI.ACP_CFG 0xFFFFFFFF), 0, 0, false, (List.replicate 16 0 ++ (hmacTag (List.replicate 8 0) (List.replicate 16 0)).map (fun b => b + 1)), (List.replicate 16 0),
   ?_, ?_, ?_, ?_, ?_, ?_, ?_, ?_, rfl, ?_, (by intro h; refine hmac_ne (List.replicate 8 0) (List.replicate 16 0) ?_; exact h), ?_⟩ <;> decide +kernel

theorem w_PageHeaderCommandsComplete_softReset : ∃ (s : State) (rq : Rq) (p : Nat) (v : Word) (b : Blk),
  (p < 4096) ∧
  (s.dev.accepts rq (4096 * p + 0x008) (v ||| 2) b = true) :=
  ⟨T0, mpRq, blkPage (.phy .a), 3, .phy .a,
   by decide +kernel⟩

theorem w_PageHeaderCommandsComplete_softResetDone : ∃ (s : State) (b : Blk),
  ((s.dev.blk b).resetting = true) ∧
  (dpBlks.contains b = false ∨ s.dev.mem.dpReset = false) ∧
  (b ≠ .qar) :=
  ⟨dv (fun d => d.setBlk .pke { d.blk .pke with resetting := true }), .pke,
   by decide +kernel⟩

theorem w_PageHeaderCommandsComplete_softResetDoneArray : ∃ (s : State),
  ((s.dev.blk .qar).resetting = true) ∧
  (s.dev.mem.dpReset = false) ∧
  (s.dev.qarAtTake = true) :=
  ⟨dv (fun d => d.setBlk .qar { d.blk .qar with resetting := true }),
   by decide +kernel⟩

theorem w_PageHeaderCommandsComplete_enable : ∃ (s : State) (rq : Rq) (p : Nat) (v : Word) (b : Blk),
  (p < 4096) ∧
  (s.dev.accepts rq (4096 * p + 0x008) v b = true) ∧
  (bitOf v 1 = false) :=
  ⟨T0, mpRq, blkPage (.phy .a), 1, .phy .a,
   by decide +kernel⟩

theorem w_PageHeaderCommandsComplete_isolate : ∃ (s : State) (rq : Rq) (p : Nat) (v : Word) (b : Blk),
  (p < 4096) ∧
  (s.dev.accepts rq (4096 * p + 0x008) v b = true) ∧
  (bitOf v 1 = false) :=
  ⟨T0, mpRq, blkPage (.phy .a), 9, .phy .a,
   by decide +kernel⟩

theorem w_PageHeaderCommandsComplete_lock : ∃ (s : State) (rq : Rq) (p : Nat) (b : Blk),
  (p < 4096) ∧
  (s.dev.accepts rq (4096 * p + 0x020) 1 b = true) :=
  ⟨T0, mpRq, blkPage (.phy .a), .phy .a,
   by decide +kernel⟩

theorem w_PageHeaderCommandsComplete_causeClear : ∃ (s : State) (rq : Rq) (p : Nat) (v : Word) (b : Blk),
  (p < 4096) ∧
  (s.dev.accepts rq (4096 * p + 0x010) v b = true) ∧
  (∀ i < 32, p = blkPage b → (s.dev.asked b).causeHolds b i = false) :=
  ⟨T0, mpRq, blkPage (.phy .a), 1, .phy .a,
   by decide +kernel⟩

theorem w_PageHeaderCommandsComplete_mask : ∃ (s : State) (rq : Rq) (p : Nat) (v : Word) (b : Blk),
  (p < 4096) ∧
  (s.dev.accepts rq (4096 * p + 0x014) v b = true) :=
  ⟨T0, mpRq, blkPage (.phy .a), 0xFFFFFFFF, .phy .a,
   by decide +kernel⟩

theorem w_PageHeaderCommandsComplete_class : ∃ (s : State) (rq : Rq) (p : Nat) (v : Word) (b : Blk),
  (p < 4096) ∧
  (s.dev.accepts rq (4096 * p + 0x018) v b = true) :=
  ⟨T0, mpRq, blkPage (.phy .a), (T0.dev.blk (.phy .a)).cls, .phy .a,
   by decide +kernel⟩

theorem w_PageHeaderCommandsComplete_force : ∃ (s : State) (rq : Rq) (p : Nat) (v : Word) (b : Blk),
  (p < 4096) ∧
  (s.dev.accepts rq (4096 * p + 0x01C) v b = true) :=
  ⟨dv (fun d => d.onMgt (fun m => { m with otp := { m.otp with lc := .test } })), mpRq, blkPage (.phy .a), 1, .phy .a,
   by decide +kernel⟩

theorem w_PageHeaderCommandsComplete_counter : ∃ (s : State) (rq : Rq) (a : Nat) (v : Word) (b : Blk) (c : CtrDef),
  (s.dev.accepts rq a v b = true) ∧
  (0x040 ≤ a % 4096) ∧
  (regAt b (a % 4096) = none) ∧
  (ctrAt b (a % 4096) = some c) :=
  ⟨T0, mpRq, 4096 * blkPage (.phy .a) + 0x100, 0, .phy .a, ((ctrAt (.phy .a) 0x100).getD blankCtrDef),
   by decide +kernel⟩

theorem w_PageHeaderCommandsComplete_register : ∃ (s : State) (rq : Rq) (a : Nat) (v : Word) (b : Blk) (r : RegDef),
  (s.dev.accepts rq a v b = true) ∧
  (0x040 ≤ a % 4096) ∧
  (regAt b (a % 4096) = some r) ∧
  (a ≠ A.MLD.LINK_CTRL) ∧
  (plainReg b (a % 4096) = true) :=
  ⟨T0, mpRq, A.PMU.WAKE_EN, 2, .pmu, ((regAt .pmu (A.PMU.WAKE_EN % 4096)).getD blankRegDef),
   by decide +kernel⟩

theorem w_PageHeaderCommandsComplete_registerThen : ∃ (s : State) (rq : Rq) (a : Nat) (v : Word) (b : Blk) (r : RegDef),
  (s.dev.accepts rq a v b = true) ∧
  (0x040 ≤ a % 4096) ∧
  (regAt b (a % 4096) = some r) ∧
  (linkReg a = false) :=
  ⟨T0, mpRq, A.PMU.WAKE_EN, 2, .pmu, ((regAt .pmu (A.PMU.WAKE_EN % 4096)).getD blankRegDef),
   by decide +kernel⟩

theorem w_PageHeaderCommandsComplete_roundCfg : ∃ (s : State) (rq : Rq) (v : Word),
  (s.dev.accepts rq (A.ASC.ROUND_CFG) (v) .asc = true) :=
  ⟨T0, mpRq, 0x07D00014,
   by decide +kernel⟩

theorem w_RadioCommandsComplete_stateCmd : ∃ (s : State) (rq : Rq) (r : Radio) (v : Word),
  (s.dev.accepts rq (A.RFE.STATE_CMD r) (v) (.rfe r) = true) :=
  ⟨T0, mpRq, .a, 1,
   by decide +kernel⟩

theorem w_RadioCommandsComplete_chan : ∃ (s : State) (rq : Rq) (r : Radio) (v : Word),
  (s.dev.accepts rq (A.RFE.CHAN r) (v) (.rfe r) = true) :=
  ⟨T0, mpRq, .a, T0.dev.rd (A.RFE.CHAN .a),
   by decide +kernel⟩

theorem w_RadioCommandsComplete_chainEn : ∃ (s : State) (rq : Rq) (r : Radio) (v : Word),
  (s.dev.accepts rq (A.RFE.CHAIN_EN r) (v) (.rfe r) = true) :=
  ⟨T0, mpRq, .a, T0.dev.rd (A.RFE.CHAIN_EN .a),
   by decide +kernel⟩

theorem w_RadioCommandsComplete_transition : ∃ (s : State) (r : Radio) (x : RState) (t : Nat),
  ((s.dev.rfe.get r).moving = some (x, t)) ∧
  ((s.dev.rfe.get r).calPhase = .none) ∧
  (¬ ((s.dev.rfe.get r).cur = .standby ∧ x = .synthOn)) :=
  ⟨dv (fun d => d.onRfe .a (fun x => { x with moving := some (.standby, 5) })), .a, .standby, 5,
   by decide +kernel⟩

theorem w_RadioCommandsComplete_firstStart : ∃ (s : State) (r : Radio) (m : CalMeas),
  ((s.dev.rfe.get r).calPhase = .none) ∧
  ((s.dev.rfe.get r).calKind = .first) ∧
  ((s.dev.rfe.get r).cur = .standby) ∧
  ((s.dev.rfe.get r).moving.isSome = true) ∧
  ((s.dev.rfe.get r).phaseEnd ≠ 0) :=
  ⟨dv (fun d => d.onRfe .a (fun x => { x with cur := .standby, moving := some (.synthOn, 5), phaseEnd := 5 })), .a, (blankCalMeas),
   by decide +kernel⟩

theorem w_RadioCommandsComplete_coarseDone : ∃ (s : State) (r : Radio) (m : CalMeas),
  ((s.dev.rfe.get r).calPhase = .coarse) :=
  ⟨dv (fun d => d.onRfe .a (fun x => { x with calPhase := .coarse })), .a, (blankCalMeas),
   by decide +kernel⟩

theorem w_RadioCommandsComplete_fineDone : ∃ (s : State) (r : Radio) (m : CalMeas),
  ((s.dev.rfe.get r).calPhase = .fine) :=
  ⟨dv (fun d => d.onRfe .a (fun x => { x with calPhase := .fine })), .a, (blankCalMeas),
   by decide +kernel⟩

theorem w_RadioCommandsComplete_imageDone : ∃ (s : State) (r : Radio) (m : CalMeas),
  ((s.dev.rfe.get r).calPhase = .image) :=
  ⟨dv (fun d => d.onRfe .a (fun x => { x with calPhase := .image })), .a, (blankCalMeas),
   by decide +kernel⟩

theorem w_RadioCommandsComplete_drift : ∃ (s : State) (r : Radio) (t : Int) (d : Dev),
  (d = s.dev.tempRead r t) ∧
  (s.dev.bit (A.RFE.SYN_CFG r) 8 = true) ∧
  ((d.rfe.get r).locked = true) ∧
  (s.dev.fld (A.RFE.SYN_CFG r) 7 0 ≤ ((d.rfe.get r).tempNow - (d.rfe.get r).tempSyn).natAbs) ∧
  ((d.rfe.get r).recalDue = false) :=
  ⟨dv (fun d => (d.wr (A.RFE.SYN_CFG .a) 0x100).onRfe .a (fun x => { x with locked := true })), .a, 300, _,
   rfl,
   by decide +kernel⟩

theorem w_RadioCommandsComplete_periodic : ∃ (s : State) (r : Radio) (t : Int) (d : Dev),
  (d = s.dev.tempRead r t) ∧
  ((d.rfe.get r).locked = true) ∧
  ((d.rfe.get r).periodicDue = false) ∧
  (s.dev.fld (A.RFE.CAL_CFG r) 11 8 ≤ ((d.rfe.get r).tempNow - (d.rfe.get r).tempImg).natAbs) :=
  ⟨dv (fun d => d.onRfe .a (fun x => { x with locked := true })), .a, 300, _,
   rfl,
   by decide +kernel⟩

theorem w_RadioCommandsComplete_deferExpiry : ∃ (s : State) (r : Radio) (t : Nat),
  ((s.dev.rfe.get r).dueSince = some t) ∧
  ((s.dev.rfe.get r).overdue = false) :=
  ⟨dv (fun d => d.onRfe .a (fun x => { x with dueSince := some 1 })), .a, 1,
   by decide +kernel⟩

theorem w_RadioCommandsComplete_quietStart : ∃ (s : State) (r : Radio) (durUs : Nat) (n : Nat),
  (s.dev.macIdle r = true) ∧
  ((s.dev.rfe.get r).periodicDue = true ∨ (s.dev.rfe.get r).recalDue = true) ∧
  ((s.dev.rfe.get r).locked = true) ∧
  ((s.dev.rfe.get r).cur = .receive) ∧
  ((s.dev.rfe.get r).calPhase = .none) ∧
  ((s.dev.mac.get r).txop = none) ∧
  ((s.dev.mac.get r).ownNav ≤ s.dev.tb) ∧
  (s.dev.mediumIdle r = true) ∧
  (n = s.dev.tb + s.dev.wayToTx r + usT (44 + durUs)) ∧
  (durUs ≤ 1456) ∧
  (47 + ceilDiv (25 * s.dev.fld (A.RFE.RAMP_CFG r) 4 0 + 250) 250 + (if (s.dev.rfe.get r).periodicDue then 300 else 0) + (if (s.dev.rfe.get r).recalDue then 180 else 0) ≤ 44 + durUs) ∧
  (∀ t, s.dev.nextHeat r = some t → n < t) ∧
  (∀ e ∈ s.dev.beaconing r, n < s.dev.tbttTick r e.1 e.2) ∧
  (s.dev.nstrHolds r false = false) :=
  by refine ⟨dv (fun d => (d.onRfe .a (fun x => { x with periodicDue := true, locked := true, cur := .receive })).onPhy .a (fun x => { x with rx := .listen })), .a, 1400, _,
   ?_, ?_, ?_, ?_, ?_, ?_, ?_, ?_, rfl, ?_, ?_, (by intro t h; cases h), ?_⟩ <;> decide +kernel

theorem w_RadioCommandsComplete_quietBegins : ∃ (s : State) (r : Radio) (t : Nat) (x : TxPpdu) (d : Dev),
  ((s.dev.rfe.get r).moving = some (.transmit, t)) ∧
  ((s.dev.rfe.get r).calPhase = .none) ∧
  (d = (s.dev.at_ t).enter r .transmit) ∧
  ((d.phy.get r).tx = some x) ∧
  (x.vec.kind = .ctsSelf) :=
  ⟨dv (fun d => (d.onRfe .a (fun x => { x with moving := some (.transmit, 5) })).onPhy .a (fun p => { p with tx := some { blankTxPpdu with vec := { blankTxVec with kind := .ctsSelf } } })), .a, 5, { blankTxPpdu with vec := { blankTxVec with kind := .ctsSelf } }, _,
   by decide +kernel,
   by decide +kernel,
   rfl,
   by decide +kernel⟩

theorem w_RadioCommandsComplete_quietEnd : ∃ (s : State) (r : Radio) (t : Nat),
  ((s.dev.rfe.get r).quiet = some t) :=
  ⟨dv (fun d => d.onRfe .a (fun x => { x with quiet := some 9 })), .a, 9,
   by decide +kernel⟩

theorem w_RadioCommandsComplete_transmit : ∃ (s : State) (r : Radio) (x : TxVec) (fids : List Nat) (ready : Bool),
  (s.dev.macIdle r = true) ∧
  (s.dev.nstrHolds r false = false) ∧
  (∀ f ∈ fids, f ∈ s.dev.boundTo r) :=
  ⟨dv (fun d => d.onRfe .a (fun x => { x with cur := .receive, locked := true })), .a, blankTxVec, [], true,
   by decide +kernel⟩

theorem w_RadioCommandsComplete_nstrHeld : ∃ (s : State) (r : Radio) (x : TxVec) (fids : List Nat) (ready : Bool),
  (s.dev.macIdle r = true) ∧
  (s.dev.nstrHolds r false = true) :=
  ⟨dv (fun d => (d.onMac .b (fun m => { m with wait := some blankRespWait })).onMld (fun m => { m with bcStr := false })), .c, (blankTxVec), [], false,
   by decide +kernel⟩

theorem w_RadioCommandsComplete_unlock : ∃ (s : State) (r : Radio),
  ((s.dev.rfe.get r).locked = true) ∧
  ((s.dev.phy.get r).tx = none) :=
  ⟨dv (fun d => d.onRfe .a (fun x => { x with locked := true })), .a,
   by decide +kernel⟩

theorem w_RadioCommandsComplete_relock : ∃ (s : State) (r : Radio),
  ((s.dev.rfe.get r).calKind = .relock) ∧
  ((s.dev.rfe.get r).calPhase = .settle) :=
  ⟨dv (fun d => d.onRfe .a (fun x => { x with calKind := .relock, calPhase := .settle })), .a,
   by decide +kernel⟩

theorem w_RadioCommandsComplete_relockFails : ∃ (s : State) (r : Radio),
  ((s.dev.rfe.get r).calKind = .relock) ∧
  ((s.dev.rfe.get r).calPhase = .settle) :=
  ⟨dv (fun d => d.onRfe .a (fun x => { x with calKind := .relock, calPhase := .settle })), .a,
   by decide +kernel⟩

theorem w_RadioCommandsComplete_dutyRelease : ∃ (s : State) (r : Radio) (w : TxWait) (t : Nat),
  ((s.dev.rfe.get r).wait = some w) ∧
  (w.forDuty = true) ∧
  (s.dev.dutyRelease r (s.dev.onTicks r w.vec.durUs) = some t) :=
  ⟨dv (fun d => (((d.onRfe .a (fun x => { x with wait := some { blankTxWait with forDuty := true } })).wr A.RGL.FIELD_DUTY 0x3FFFFFFF).wr (A.RGL.TEST_W 31) 0x3FFFFFFF).onRgl (fun g => { g with shadow := [(31, 0x3FFFFFFF)] })), .a, { blankTxWait with forDuty := true }, _,
   by decide +kernel,
   by decide +kernel,
   (Option.some_get (by decide +kernel)).symm⟩

theorem w_RadioCommandsComplete_rglEnable : ∃ (s : State) (rq : Rq) (v : Word),
  (s.dev.accepts rq 0x060008 v .rgl = true) ∧
  (bitOf v 1 = false) :=
  ⟨T0, mpRq, 0,
   by decide +kernel⟩

theorem w_RadioCommandsComplete_rglField : ∃ (s : State) (rq : Rq) (k : Nat) (v : Word),
  (k < 29) ∧
  (s.dev.accepts rq (A.RGL.FIELD_CHAN k) (v) .rgl = true) :=
  ⟨T0, mpRq, 0, 0,
   by decide +kernel⟩

theorem w_RadioCommandsComplete_rglTest : ∃ (s : State) (rq : Rq) (k : Nat) (v : Word),
  (k < 32) ∧
  (s.dev.accepts rq (A.RGL.TEST_W k) (v) .rgl = true) :=
  ⟨T0, mpRq, 0, 0,
   by decide +kernel⟩

theorem w_ReceiverCommandsComplete_rise : ∃ (s : State) (r : Radio) (power : Int),
  ((s.dev.phy.get r).rx = .listen) ∧
  (sbyte (s.dev.phy.get r).cfg.det 16 < power) :=
  ⟨dv (fun d => d.onPhy .a (fun x => { x with rx := .listen })), .a, 0,
   by decide +kernel⟩

theorem w_ReceiverCommandsComplete_detect : ∃ (s : State) (r : Radio) (x : Detect) (y : Reception),
  ((s.dev.phy.get r).rx = .settle) ∧
  ((s.dev.phy.get r).rcp = some y) ∧
  (x.dsss = false) ∧
  (1 ≤ x.boundary) ∧
  (x.boundary ≤ 8) ∧
  (sbyte (s.dev.phy.get r).cfg.det 16 ≤ x.power) ∧
  (bitsOf (s.dev.phy.get r).cfg.det 11 8 ≤ x.corr) :=
  ⟨dv (fun d => d.onPhy .a (fun x => { x with rx := .settle, rcp := some blankReception })), .a, { blankDetect with boundary := 8, corr := 15 }, blankReception,
   by decide +kernel⟩

theorem w_ReceiverCommandsComplete_detectDsss : ∃ (s : State) (x : Detect),
  (s.dev.phy.a.rx = .listen) ∧
  (s.dev.phy.a.rcp = none) ∧
  (x.dsss = true) :=
  ⟨dv (fun d => d.onPhy .a (fun x => { x with rx := .listen })), { blankDetect with dsss := true },
   by decide +kernel⟩

theorem w_ReceiverCommandsComplete_settle : ∃ (s : State) (r : Radio),
  ((s.dev.phy.get r).rx = .settle) :=
  ⟨dv (fun d => d.onPhy .a (fun x => { x with rx := .settle })), .a,
   by decide +kernel⟩

theorem w_ReceiverCommandsComplete_falseStart : ∃ (s : State) (r : Radio) (recs : List GuardRec) (lna : Nat) (vga : Nat) (x : Reception) (g : GuardRec),
  ((s.dev.phy.get r).rcp = some x) ∧
  ((s.dev.phy.get r).rx = .preamble) ∧
  (x.guardOpen = true) ∧
  (x.dsss = false) ∧
  (riseOf (s.dev.phy.get r).cfg x.ref recs = some g) :=
  ⟨dv (fun d => d.onPhy .a (fun x => { x with rx := .preamble, rcp := some { blankReception with guardOpen := true, ref := -80 } })), .a, [⟨0, -20, true⟩], 0, 0, { blankReception with guardOpen := true, ref := -80 }, ⟨0, -20, true⟩,
   by decide +kernel⟩

theorem w_ReceiverCommandsComplete_afc : ∃ (s : State) (r : Radio) (cfo : Int) (x : Reception),
  ((s.dev.phy.get r).rcp = some x) ∧
  ((s.dev.phy.get r).rx = .preamble) ∧
  (x.dsss = false) ∧
  (x.cfo = none) :=
  ⟨dv (fun d => d.onPhy .a (fun x => { x with rx := .preamble, rcp := some blankReception })), .a, 0, blankReception,
   by decide +kernel⟩

theorem w_ReceiverCommandsComplete_lSigFails : ∃ (s : State) (r : Radio) (g : SigInfo) (recs : List GuardRec) (lna : Nat) (vga : Nat) (x : Reception),
  ((s.dev.phy.get r).rcp = some x) ∧
  ((s.dev.phy.get r).rx = .preamble) ∧
  (x.dsss = false) :=
  ⟨dv (fun d => d.onPhy .a (fun x => { x with rx := .preamble, rcp := some blankReception })), .a, blankSigInfo, [], 0, 0, blankReception,
   by decide +kernel⟩

theorem w_ReceiverCommandsComplete_lSig : ∃ (s : State) (r : Radio) (g : SigInfo) (recs : List GuardRec) (lna : Nat) (vga : Nat) (x : Reception) (y : Reception),
  ((s.dev.phy.get r).rcp = some x) ∧
  ((s.dev.phy.get r).rx = .preamble) ∧
  (x.dsss = false) ∧
  (y = x.sig g (x.start + usT (20 + g.durUs))) :=
  ⟨dv (fun d => d.onPhy .a (fun x => { x with rx := .preamble, rcp := some blankReception })), .a, blankSigInfo, [], 0, 0, blankReception, _,
   by decide +kernel,
   by decide +kernel,
   by decide +kernel,
   rfl⟩

theorem w_ReceiverCommandsComplete_dsssHeader : ∃ (s : State) (r : Radio) (ok : Bool) (short : Bool) (rate : Nat) (durUs : Nat) (cfo : Int) (x : Reception) (t : Nat),
  ((s.dev.phy.get r).rcp = some x) ∧
  ((s.dev.phy.get r).rx = .preamble) ∧
  (x.dsss = true) ∧
  (t = x.start + usT (if short then 96 else 192)) :=
  ⟨dv (fun d => d.onPhy .a (fun x => { x with rx := .preamble, rcp := some { blankReception with dsss := true } })), .a, false, false, 0, 0, 0, { blankReception with dsss := true }, _,
   by decide +kernel,
   by decide +kernel,
   by decide +kernel,
   rfl⟩

theorem w_ReceiverCommandsComplete_sigFail : ∃ (s : State) (r : Radio) (x : Reception),
  ((s.dev.phy.get r).rcp = some x) ∧
  ((s.dev.phy.get r).rx = .body) ∧
  (x.dsss = false) :=
  ⟨dv (fun d => d.onPhy .a (fun x => { x with rx := .body, rcp := some blankReception })), .a, blankReception,
   by decide +kernel⟩

theorem w_ReceiverCommandsComplete_overtake : ∃ (s : State) (r : Radio) (start : Nat) (power : Int) (lna : Nat) (vga : Nat) (u : RxRep × List RxMpdu) (us : List (RxRep × List RxMpdu)) (x : Reception) (k : Nat),
  ((s.dev.phy.get r).rcp = some x) ∧
  ((s.dev.phy.get r).rx = .body ∧ k = 1 ∨ (s.dev.phy.get r).rx = .hold ∧ k = x.holdEnd) ∧
  (x.dsss = false) ∧
  (bitOf (s.dev.phy.get r).cfg.ovt 0 = true) ∧
  (x.ref + (bitsOf (s.dev.phy.get r).cfg.ovt 12 8 : Nat) ≤ power) ∧
  ((s.dev.mac.get r).wait = none) :=
  ⟨dv (fun d => d.onPhy .a (fun x => { x with rx := .body, rcp := some blankReception })), .a, 0, 40, 0, 0, (blankRxRep, []), [], blankReception, 1,
   by decide +kernel⟩

theorem w_ReceiverCommandsComplete_overtakeOff : ∃ (s : State) (r : Radio) (start : Nat) (power : Int) (lna : Nat) (vga : Nat) (u : RxRep × List RxMpdu) (us : List (RxRep × List RxMpdu)) (x : Reception),
  ((s.dev.phy.get r).rcp = some x) ∧
  ((s.dev.phy.get r).rx = .body ∨ (s.dev.phy.get r).rx = .hold) ∧
  (x.dsss = false) ∧
  (bitOf (s.dev.phy.get r).cfg.ovt 0 = true) ∧
  (x.ref + (bitsOf (s.dev.phy.get r).cfg.ovt 12 8 : Nat) ≤ power) ∧
  ((s.dev.mac.get r).wait.isSome = true) :=
  ⟨dv (fun d => (d.onPhy .a (fun x => { x with rx := .body, rcp := some blankReception })).onMac .a (fun m => { m with wait := some blankRespWait })), .a, 0, 40, 0, 0, (blankRxRep, []), [], blankReception,
   by decide +kernel,
   Or.inl (by decide +kernel),
   by decide +kernel⟩

theorem w_ReceiverCommandsComplete_obss : ∃ (s : State) (r : Radio) (rssi : Int) (x : Reception),
  ((s.dev.phy.get r).rcp = some x) ∧
  ((s.dev.phy.get r).rx = .body) ∧
  (bitOf (s.dev.phy.get r).cfg.obss 0 = true) ∧
  (4 ≤ x.fmt) ∧
  (x.color ≠ 0) ∧
  (∀ b ∈ (s.dev.mac.get r).bss, b.2.enable = true → b.2.color ≠ x.color) ∧
  (rssi < sbyte (s.dev.phy.get r).cfg.obss 8) :=
  ⟨dv (fun d => d.onPhy .a (fun x => { x with rx := .body, rcp := some { blankReception with fmt := 4, color := 3 }, cfg := { x.cfg with obss := 0xAE01 } })), .a, -90, { blankReception with fmt := 4, color := 3 },
   by decide +kernel⟩

theorem w_ReceiverCommandsComplete_ed : ∃ (s : State) (r : Radio) (sub : Nat) (power : Int),
  ((s.dev.phy.get r).rx ≠ .off) ∧
  (sub < 2 ^ chanWidth (s.dev.rfe.get r).tuned) :=
  ⟨dv (fun d => d.onPhy .a (fun x => { x with rx := .listen })), .a, 0, 0,
   by decide +kernel⟩

theorem w_ReceiverCommandsComplete_secondary : ∃ (s : State) (r : Radio) (sub : Nat) (durUs : Nat) (power : Int),
  ((s.dev.phy.get r).rx ≠ .off) ∧
  (sub < 2 ^ chanWidth (s.dev.rfe.get r).tuned) ∧
  (sub ≠ primIdx r (s.dev.rfe.get r).tuned) ∧
  (sbyte (s.dev.phy.get r).cfg.cca 8 ≤ power) :=
  ⟨dv (fun d => (d.onPhy .b (fun x => { x with rx := .listen })).onRfe .b (fun x => { x with tuned := 0x143C0124 })), .b, 1, 0, 0,
   by decide +kernel⟩

theorem w_ReceiverCommandsComplete_rxEnd : ∃ (s : State) (r : Radio) (us : List (RxRep × List RxMpdu)) (x : Reception) (d : Dev),
  ((s.dev.phy.get r).cuts = []) ∧
  ((s.dev.phy.get r).rcp = some x) ∧
  ((s.dev.phy.get r).rx = .body) ∧
  (d = (s.dev.at_ (x.ends r)).rxFinish r 0) :=
  ⟨dv (fun d => d.onPhy .a (fun x => { x with rx := .body, rcp := some blankReception })), .a, [], blankReception, _,
   by decide +kernel,
   by decide +kernel,
   by decide +kernel,
   rfl⟩

theorem w_ReceiverCommandsComplete_rxCutEnd : ∃ (s : State) (r : Radio) (us : List (RxRep × List RxMpdu)) (c : Cut) (cs : List Cut) (d : Dev),
  ((s.dev.phy.get r).cuts = c :: cs) ∧
  (c.rcp.holdEnd = 0) ∧
  (d = s.dev.onPhy r (fun p => { p with cuts := cs })) :=
  ⟨dv (fun d => d.onPhy .a (fun x => { x with cuts := [blankCut] })), .a, [], blankCut, [], _,
   by decide +kernel,
   by decide +kernel,
   rfl⟩

theorem w_ReceiverCommandsComplete_holdEnd : ∃ (s : State) (r : Radio) (m : RxRep) (x : Reception) (d : Dev),
  ((s.dev.phy.get r).cuts = []) ∧
  ((s.dev.phy.get r).rcp = some x) ∧
  ((s.dev.phy.get r).rx = .hold) ∧
  (d = (s.dev.at_ (x.ends r)).rxFinish r x.holdEnd) :=
  ⟨dv (fun d => d.onPhy .a (fun x => { x with rx := .hold, rcp := some blankReception })), .a, blankRxRep, blankReception, _,
   by decide +kernel,
   by decide +kernel,
   by decide +kernel,
   rfl⟩

theorem w_ReceiverCommandsComplete_holdCutEnd : ∃ (s : State) (r : Radio) (m : RxRep) (c : Cut) (cs : List Cut) (d : Dev),
  ((s.dev.phy.get r).cuts = c :: cs) ∧
  (c.rcp.holdEnd ≠ 0) ∧
  (d = s.dev.onPhy r (fun p => { p with cuts := cs })) :=
  ⟨dv (fun d => d.onPhy .a (fun x => { x with cuts := [{ blankCut with rcp := { blankReception with holdEnd := 1 } }] })), .a, (blankRxRep), { blankCut with rcp := { blankReception with holdEnd := 1 } }, [], _,
   by decide +kernel,
   by decide +kernel,
   rfl⟩

theorem w_ReceiverCommandsComplete_radar : ∃ (s : State) (sub : Nat) (width : Nat) (power : Int),
  (bitOf s.dev.phy.b.cfg.radar 0 = true) ∧
  (s.dev.phy.b.rx ≠ .off) ∧
  (sbyte s.dev.phy.b.cfg.radar 8 ≤ power) ∧
  (s.dev.phy.b.radar.length < 64) :=
  ⟨dv (fun d => d.onPhy .b (fun x => { x with rx := .listen, cfg := { x.cfg with radar := 0xC001 } })), 0, 0, 0,
   by decide +kernel⟩

theorem w_ReceiverCommandsComplete_radarFull : ∃ (s : State) (sub : Nat) (width : Nat) (power : Int),
  (bitOf s.dev.phy.b.cfg.radar 0 = true) ∧
  (s.dev.phy.b.rx ≠ .off) ∧
  (sbyte s.dev.phy.b.cfg.radar 8 ≤ power) ∧
  (64 ≤ s.dev.phy.b.radar.length) :=
  ⟨dv (fun d => d.onPhy .b (fun x => { x with rx := .listen, cfg := { x.cfg with radar := 0xC001 }, radar := List.replicate 64 ⟨0, 0, 0, 0⟩ })), 0, 0, 0,
   by decide +kernel⟩

theorem w_ReceiverCommandsComplete_radarRead : ∃ (s : State) (rq : Rq),
  (s.dev.takes rq OP.READ 0 1 = true) ∧
  (refuse ((s.dev.event 0).readCodes 0x240 0x084) = RC.OK) :=
  ⟨T0, mpRq,
   by decide +kernel⟩

theorem w_ReceiverCommandsComplete_precoder : ∃ (s : State) (r : Radio) (w : TxWait),
  ((s.dev.rfe.get r).wait = some w) ∧
  (w.forPrecoder = true) :=
  ⟨dv (fun d => d.onRfe .a (fun x => { x with wait := some { blankTxWait with forPrecoder := true } })), .a, { blankTxWait with forPrecoder := true },
   by decide +kernel⟩

theorem w_WirelessEventsComplete_endBeacon : ∃ (s : State) (r : Radio) (detect : List Int) (x : TxPpdu) (e : Dev),
  ((s.dev.phy.get r).tx = some x) ∧
  (e = ((s.dev.at_ x.stop).txEnd r 0 detect x).afterTx r x) ∧
  (x.vec.kind = .beacon) :=
  ⟨dv (fun d => d.onPhy .a (fun p => { p with tx := some { blankTxPpdu with vec := { blankTxVec with kind := .beacon } } })), .a, [], { blankTxPpdu with vec := { blankTxVec with kind := .beacon } }, _,
   by decide +kernel,
   rfl,
   by decide +kernel⟩

theorem w_WirelessEventsComplete_endResponse : ∃ (s : State) (r : Radio) (detect : List Int) (x : TxPpdu) (e : Dev),
  ((s.dev.phy.get r).tx = some x) ∧
  (e = ((s.dev.at_ x.stop).txEnd r 0 detect x).afterTx r x) ∧
  (x.vec.kind = .response) :=
  ⟨dv (fun d => d.onPhy .a (fun p => { p with tx := some { blankTxPpdu with vec := { blankTxVec with kind := .response } } })), .a, [], { blankTxPpdu with vec := { blankTxVec with kind := .response } }, _,
   by decide +kernel,
   rfl,
   by decide +kernel⟩

theorem w_WirelessEventsComplete_endCfEnd : ∃ (s : State) (r : Radio) (detect : List Int) (x : TxPpdu) (e : Dev),
  ((s.dev.phy.get r).tx = some x) ∧
  (e = ((s.dev.at_ x.stop).txEnd r 0 detect x).afterTx r x) ∧
  (x.vec.kind = .cfEnd) :=
  ⟨dv (fun d => d.onPhy .a (fun p => { p with tx := some { blankTxPpdu with vec := { blankTxVec with kind := .cfEnd } } })), .a, [], { blankTxPpdu with vec := { blankTxVec with kind := .cfEnd } }, _,
   by decide +kernel,
   rfl,
   by decide +kernel⟩

theorem w_WirelessEventsComplete_endCtsSelf : ∃ (s : State) (r : Radio) (detect : List Int) (x : TxPpdu) (e : Dev),
  ((s.dev.phy.get r).tx = some x) ∧
  (e = ((s.dev.at_ x.stop).txEnd r 0 detect x).afterTx r x) ∧
  (x.vec.kind = .ctsSelf) :=
  ⟨dv (fun d => d.onPhy .a (fun p => { p with tx := some { blankTxPpdu with vec := { blankTxVec with kind := .ctsSelf } } })), .a, [], { blankTxPpdu with vec := { blankTxVec with kind := .ctsSelf } }, _,
   by decide +kernel,
   rfl,
   by decide +kernel⟩

theorem w_WirelessEventsComplete_endSolicits : ∃ (s : State) (r : Radio) (detect : List Int) (x : TxPpdu) (e : Dev),
  ((s.dev.phy.get r).tx = some x) ∧
  (e = ((s.dev.at_ x.stop).txEnd r 0 detect x).afterTx r x) ∧
  (¬ (x.vec.kind = .beacon ∨ x.vec.kind = .response ∨ x.vec.kind = .ctsSelf ∨ x.vec.kind = .cfEnd)) ∧
  (x.vec.solicits = true) :=
  ⟨dv (fun d => d.onPhy .a (fun p => { p with tx := some { blankTxPpdu with vec := { blankTxVec with solicits := true } } })), .a, [], { blankTxPpdu with vec := { blankTxVec with solicits := true } }, _,
   by decide +kernel,
   rfl,
   by decide +kernel⟩

theorem w_WirelessEventsComplete_endMu : ∃ (s : State) (r : Radio) (detect : List Int) (x : TxPpdu) (e : Dev),
  ((s.dev.phy.get r).tx = some x) ∧
  (e = ((s.dev.at_ x.stop).txEnd r 0 detect x).afterTx r x) ∧
  (¬ (x.vec.kind = .beacon ∨ x.vec.kind = .response ∨ x.vec.kind = .ctsSelf ∨ x.vec.kind = .cfEnd)) ∧
  (x.vec.solicits = false) ∧
  (x.vec.ofdma = true) ∧
  (x.fids ≠ []) :=
  ⟨dv (fun d => d.onPhy .a (fun p => { p with tx := some { blankTxPpdu with vec := { blankTxVec with ofdma := true }, fids := [1] } })), .a, [], { blankTxPpdu with vec := { blankTxVec with ofdma := true }, fids := [1] }, _,
   by decide +kernel,
   rfl,
   by decide +kernel⟩

theorem w_WirelessEventsComplete_endOne : ∃ (s : State) (r : Radio) (detect : List Int) (x : TxPpdu) (e : Dev),
  ((s.dev.phy.get r).tx = some x) ∧
  (e = ((s.dev.at_ x.stop).txEnd r 0 detect x).afterTx r x) ∧
  (¬ (x.vec.kind = .beacon ∨ x.vec.kind = .response ∨ x.vec.kind = .ctsSelf ∨ x.vec.kind = .cfEnd)) ∧
  (x.vec.solicits = false) ∧
  (x.vec.ofdma = false ∨ x.fids = []) :=
  ⟨dv (fun d => d.onPhy .a (fun p => { p with tx := some { blankTxPpdu with vec := { blankTxVec with targets := [(0, 1)] } } })), .a, [], { blankTxPpdu with vec := { blankTxVec with targets := [(0, 1)] } }, _,
   by decide +kernel,
   rfl,
   by decide +kernel⟩

theorem w_WirelessEventsComplete_backoff : ∃ (s : State) (r : Radio) (acs : List Nat) (x : TxStart) (t : Nat) (ac : Nat) (lim : Nat) (go : Nat) (exch : Nat) (by_ : Nat) (ts : List Nat) (up : List Nat) (e : Dev) (d1 : Dev) (d2 : Dev) (d3 : Dev) (f : Filled),
  (acs.map (fun a => s.dev.expiry r a) = t :: ts) ∧
  (e = (if x.sync then s.dev else s.dev.at_ (ts.foldl min t))) ∧
  (up = (if x.sync then acs else acs.filter (fun a => decide (e.expiry r a ≤ e.tb)))) ∧
  ([4, 3, 2, 0, 1].find? (fun a => up.contains a) = some ac) ∧
  (e.macIdle r = true) ∧
  (e.mediumIdle r = true) ∧
  ((e.mac.get r).txop = none) ∧
  (x.pick = .beacon ↔ ac = 4) ∧
  (e.rtwtFirst r x.pick = true) ∧
  (x.sync = true → e.syncOk r = true) ∧
  (e.nstrHolds r x.sync = false) ∧
  (lim = (if ac = 4 then 0 else 32 * e.fld (acReg r ac) 31 16)) ∧
  (go = e.tb + e.wayToTx r) ∧
  ((e.fill r { x with vec := { x.vec with ac := ac } } true 0).2 = some f) ∧
  (exch = e.exchTicks r f.vec) ∧
  (by_ = e.endBy r e.tb (f.vec.targets.map (fun y => y.1)) (go + if lim = 0 then exch else usT lim)) ∧
  (go + exch ≤ by_) ∧
  (e.needsRts r f false = false) ∧
  (x.pick = .sounding ↔ lim ≠ 0 ∧ e.toSound r ≠ [] ∧ go + e.soundTicks r (e.toSound r) ≤ e.endBy r e.tb (e.toSound r) (go + usT lim)) ∧
  (d1 = ((if x.sync then [] else up.filter (fun a => decide (a ≠ ac))).foldl (fun d a => d.cwFail r a) (f.dev.onMac r (fun m => { m with txop := some { ac := ac, until_ := by_, bw := f.vec.bw, start := e.tb, limit := e.obssLimit r, single := decide (lim = 0), done := decide (x.pick ≠ .sounding ∧ f.vec.kind ≠ .rts), prot := false, pend := [], pendFrom := [] }, eifs := false, backoff := tabDel m.backoff ac }))).allocUse r x.pick true) ∧
  (d2 = (if (e.obssLimit r).isSome then d1.count (A.MAC.OBSS_PWR_CNT r) else d1)) ∧
  (d3 = d2.send r { f with dev := d2 } x.ready) :=
  by refine ⟨(dv (fun d => ((d.onRfe .a (fun f => { f with cur := .receive, locked := true })).onPhy .a (fun p => { p with rx := .listen })).onMac .a (fun m => { m with bcnQueue := [(0, 0)], navBasic := 0, idleAt := some 0, bss := [(0, { blankBss with bigtk := [255, 255] })] }))), .a, [4], blankTxStart, (((dv (fun d => ((d.onRfe .a (fun f => { f with cur := .receive, locked := true })).onPhy .a (fun p => { p with rx := .listen })).onMac .a (fun m => { m with bcnQueue := [(0, 0)], navBasic := 0, idleAt := some 0, bss := [(0, { blankBss with bigtk := [255, 255] })] })))).dev.expiry .a 4), 4, _, _, _, _, [], _, _, _, _, _, _,
   ?_, rfl, rfl, ?_, ?_, ?_, ?_, ?_, ?_, ?_, ?_, rfl, rfl, (Option.some_get (by decide +kernel)).symm, rfl, rfl, ?_, ?_, ?_, rfl, rfl, rfl⟩ <;> decide +kernel

theorem w_WirelessEventsComplete_txopEnds : ∃ (s : State) (r : Radio) (x : TxStart) (t : Txop),
  ((s.dev.mac.get r).txop = some t) ∧
  (s.dev.macFree r = true) ∧
  (x.pick = .endTxop ∨ s.dev.macIdle r = false ∨ (s.dev.mac.get r).airEnd + sifs r - s.dev.intoTx r true < s.dev.tb) :=
  ⟨dv (fun d => (d).onMac .a (fun m => { m with txop := some blankTxop })), .a, { blankTxStart with pick := .endTxop }, blankTxop,
   by decide +kernel⟩

theorem w_WirelessEventsComplete_txopNext : ∃ (s : State) (r : Radio) (x : TxStart) (t : Txop) (due : Nat) (end_ : Nat) (by_ : Nat) (e : Dev) (d1 : Dev) (d2 : Dev) (f : Filled),
  ((s.dev.mac.get r).txop = some t) ∧
  (s.dev.macFree r = true) ∧
  (s.dev.macIdle r = true) ∧
  (due = (s.dev.mac.get r).airEnd + sifs r - s.dev.intoTx r true) ∧
  (s.dev.tb ≤ due) ∧
  (x.pick ≠ .endTxop) ∧
  (x.pick ≠ .beacon) ∧
  (t.single = true → t.done = true → x.pick = .muBar) ∧
  (s.dev.rtwtFirst r x.pick = true) ∧
  (s.dev.nstrHolds r x.sync = false) ∧
  (e = s.dev.at_ due) ∧
  ((e.fill r { x with vec := { x.vec with ac := t.ac } } false t.bw).2 = some f) ∧
  (end_ = e.tb + e.wayToTx r + e.exchTicks r f.vec) ∧
  (by_ = e.endBy r t.start (f.vec.targets.map (fun y => y.1)) (if t.single then end_ else t.until_)) ∧
  (end_ ≤ by_) ∧
  (e.needsRts r f t.prot = false) ∧
  (d1 = (f.dev.allocUse r x.pick false).onMac r (fun m => { m with txop := some { t with done := t.done || decide (x.pick ≠ .sounding ∧ f.vec.kind ≠ .rts), until_ := by_ } })) ∧
  (d2 = d1.send r { f with dev := d1 } x.ready) :=
  by refine ⟨(dv (fun d => (((d.onRfe .a (fun f => { f with cur := .receive, locked := true })).onPhy .a (fun p => { p with rx := .listen })).onMac .a (fun m => { m with txop := some { blankTxop with until_ := 99999 } })).withSta)), .a, { blankTxStart with pick := .rts 5 }, { blankTxop with until_ := 99999 }, _, _, _, _, _, _, _,
   ?_, ?_, ?_, rfl, ?_, ?_, ?_, ?_, ?_, ?_, rfl, (Option.some_get (by decide +kernel)).symm, rfl, rfl, ?_, ?_, rfl, rfl⟩ <;> decide +kernel

theorem w_WirelessEventsComplete_sifsSkip : ∃ (s : State) (r : Radio) (durUs : Nat) (x : RespDue),
  ((s.dev.mac.get r).due = some x) ∧
  (x.ok = false) :=
  ⟨dv (fun d => (d).onMac .a (fun m => { m with due := some blankRespDue })), .a, 0, blankRespDue,
   by decide +kernel⟩

theorem w_WirelessEventsComplete_sifsResponse : ∃ (s : State) (r : Radio) (durUs : Nat) (x : RespDue) (d0 : Dev) (d1 : Dev) (v : TxVec) (start : Nat) (cut : List (Nat × Nat)),
  ((s.dev.mac.get r).due = some x) ∧
  (x.ok = true) ∧
  (d0 = (s.dev.at_ (x.due - s.dev.intoTx r true)).onMac r (fun m => { m with due := none })) ∧
  (v = d0.respVec r x durUs) ∧
  ((d0.rfe.get r).locked = true) ∧
  ((d0.rfe.get r).cur = .receive) ∧
  (start = max x.due (d0.tb + d0.intoTx r true)) ∧
  (∀ t, d0.nextHeat r = some t → start + usT durUs ≤ t) ∧
  ((d0.phy.get r).tx = none) ∧
  (d1 = d0.rxAbort r) ∧
  (d1.txvOk r v = true) ∧
  (d1.rglStart r v.bw v.punct (d1.enabled r) v.request (d1.onTicks r durUs) = .go cut) :=
  by refine ⟨(dv (fun d => ((d.onRfe .a (fun f => { f with cur := .receive, locked := true })).onPhy .a (fun p => { p with rx := .listen })).onMac .a (fun m => { m with due := some { blankRespDue with ok := true } }))), .a, 0, { blankRespDue with ok := true }, _, _, _, _, [(0, 0), (1, 0), (2, 0), (3, 0)],
   ?_, ?_, rfl, rfl, ?_, ?_, rfl, ?_, ?_, rfl, ?_⟩ <;> decide +kernel

theorem w_WirelessEventsComplete_respTimeout : ∃ (s : State) (r : Radio) (w : RespWait),
  ((s.dev.mac.get r).wait = some w) ∧
  (¬ ((s.dev.phy.get r).rx = .preamble ∨ (s.dev.phy.get r).rx = .body ∨ (s.dev.phy.get r).rx = .hold)) :=
  ⟨dv (fun d => (d).onMac .a (fun m => { m with wait := some blankRespWait })), .a, blankRespWait,
   by decide +kernel⟩

theorem w_WirelessEventsComplete_tbtt : ∃ (s : State) (r : Radio) (i : Nat) (b : Bss) (d : Dev) (d1 : Dev) (d2 : Dev) (t : Template) (k : Nat),
  (tabFind (s.dev.mac.get r).bss i = some b) ∧
  (b.enable = true) ∧
  (b.nonTx = false) ∧
  (d = s.dev.at_ (s.dev.tbttTick r i b)) ∧
  (d1 = (if (d.mac.get r).bcnQueue.any (fun e => decide (e.2 = i)) then d.bcnMiss r i else d)) ∧
  (t = ((tabFind (d1.mac.get r).tmpl i).getD Template.empty).apply) ∧
  (k = tabGet 0 (d1.mac.get r).dtimCount i) ∧
  (d2 = d1.onMac r (fun m => { m with tmpl := tabPut m.tmpl i t, dtimCount := tabSet 0 m.dtimCount i (if k = 0 then b.dtim - 1 else k - 1) })) ∧
  (if d2.isMeshBss r i then d2.msh.beacons = true else t.cur ≠ []) :=
  by refine ⟨dv (fun d => (d).onMac .a (fun m => { m with bss := [(0, { blankBss with enable := true })], tmpl := [(0, { blankTemplate with cur := [1] })] })), .a, 0, { blankBss with enable := true }, _, _, _, _, _,
   ?_, ?_, ?_, rfl, rfl, rfl, rfl, rfl, ?_⟩ <;> decide +kernel

theorem w_WirelessEventsComplete_tbttNothing : ∃ (s : State) (r : Radio) (i : Nat) (b : Bss),
  (tabFind (s.dev.mac.get r).bss i = some b) ∧
  (b.enable = false ∨ b.nonTx = true) :=
  ⟨dv (fun d => (d).onMac .a (fun m => { m with bss := [(0, blankBss)] })), .a, 0, blankBss,
   by decide +kernel⟩

theorem w_WirelessEventsComplete_twtStart : ∃ (s : State) (r : Radio) (id : Nat) (x : Twt) (d : Dev) (e : Dev),
  (tabFind (s.dev.mac.get r).twt id = some x) ∧
  (x.sp = none) ∧
  (d = s.dev.at_ (s.dev.usAhead (s.dev.twtWait r x))) ∧
  (e = d.onMac r (fun m => { m with twt := tabPut m.twt id { x with sp := some (d.tb + usT x.durUs), cut := false } })) :=
  ⟨dv (fun d => (d).onMac .a (fun m => { m with twt := [(0, blankTwt)] })), .a, 0, blankTwt, _, _,
   by decide +kernel,
   by decide +kernel,
   rfl,
   rfl⟩

theorem w_WirelessEventsComplete_twtEnd : ∃ (s : State) (r : Radio) (id : Nat) (t : Nat) (x : Twt),
  (tabFind (s.dev.mac.get r).twt id = some x) ∧
  (x.sp = some t) :=
  ⟨dv (fun d => (d).onMac .a (fun m => { m with twt := [(0, { blankTwt with sp := some 9 })] })), .a, 0, 9, { blankTwt with sp := some 9 },
   by decide +kernel⟩

theorem w_WirelessEventsComplete_twtJoin : ∃ (s : State) (rq : Rq) (r : Radio) (ws : List Word) (id : Nat) (k : Nat) (x : Twt) (leave : Bool) (d : Dev),
  (d = s.dev.asked (.mac r)) ∧
  (s.dev.takes rq OP.COMMAND ws.length 0 = true) ∧
  (s.dev.serves (.mac r) = true) ∧
  (ws.length = 2) ∧
  (id = bitsOf (word ws 0) 7 0) ∧
  (k = bitsOf (word ws 1) 10 0) ∧
  (leave = bitOf (word ws 1) 31) ∧
  (tabFind (d.mac.get r).twt id = some x) ∧
  (extra (word ws 0) 0xFF = false) ∧
  (extra (word ws 1) 0x800007FF = false) ∧
  (x.typ ≠ 0) ∧
  (leave = false → (d.station k).isSome = true) ∧
  (leave = false → k ∉ x.members → d.twtCount r k < 4) :=
  by refine ⟨dv (fun d => (d).onMac .a (fun m => { m with twt := [(0, { blankTwt with typ := 1 })] })), mpRq, .a, [0, 0x80000000], _, _, { blankTwt with typ := 1 }, _, _,
   rfl, ?_, ?_, ?_, rfl, rfl, rfl, ?_⟩ <;> decide +kernel

theorem w_WirelessEventsComplete_txRequest : ∃ (s : State) (n : Nat) (ws : List Word) (h : Hdr) (d : Dev) (e : Entry),
  (s.dev.takesData n = true) ∧
  (d = s.dev.tookData n) ∧
  (e = d.txEntry n (typed 0x10 ws) h) ∧
  (d.txCheck (typed 0x10 ws) e = RC.OK) ∧
  (d.ready .tmg = true) ∧
  (d.hostAdmits (d.hostQueue e.wl) e = true) :=
  ⟨(dv (fun d => (d.onHci (fun h => { h with linkUp := true })).setRing 1 { Ring.reset with enable := true, typ := 2, log2 := 4 })), 1, [0x00640000, 0, 0, 0, 0x000807FF, 0, 0, 0], (blankHdr), _, _,
   by decide +kernel,
   rfl,
   rfl,
   by decide +kernel⟩

theorem w_WirelessEventsComplete_txRefused : ∃ (s : State) (n : Nat) (ws : List Word) (h : Hdr) (d : Dev) (e : Entry),
  (s.dev.takesData n = true) ∧
  (d = s.dev.tookData n) ∧
  (e = d.txEntry n (typed 0x10 ws) h) ∧
  (d.txCheck (typed 0x10 ws) e ≠ RC.OK) :=
  ⟨(dv (fun d => (d.onHci (fun h => { h with linkUp := true })).setRing 1 { Ring.reset with enable := true, typ := 2, log2 := 4 })), 1, [0x00640000, 0, 0, 0, 0x000907FF, 0, 0, 0], (blankHdr), _, _,
   by decide +kernel,
   rfl,
   rfl,
   by decide +kernel⟩

theorem w_WirelessEventsComplete_rxPost : ∃ (s : State) (n : Nat) (ws : List Word) (d : Dev),
  (s.dev.takesData n = true) ∧
  (d = s.dev.tookData n) :=
  ⟨(dv (fun d => (d.onHci (fun h => { h with linkUp := true })).setRing 1 { Ring.reset with enable := true, typ := 2, log2 := 4 })), 1, [], _,
   by decide +kernel,
   rfl⟩

theorem w_WirelessEventsComplete_macAddr : ∃ (s : State) (rq : Rq) (r : Radio) (hi : Bool) (v : Word),
  (s.dev.accepts rq (if hi then A.MAC.ADDR_HI r else A.MAC.ADDR_LO r) (v) (.mac r) = true) :=
  ⟨T0, mpRq, .a, false, 0,
   by decide +kernel⟩

theorem w_WirelessEventsComplete_linkCtrl : ∃ (s : State) (rq : Rq) (v : Word),
  (s.dev.accepts rq (A.MLD.LINK_CTRL) (v) .mld = true) :=
  ⟨T0, mpRq, 0,
   by decide +kernel⟩

theorem w_WirelessEventsComplete_quiesce : ∃ (s : State) (r : Radio),
  (s.dev.mld.quiesce.get r = true) ∧
  (s.dev.mld.quiesced.get r = false) ∧
  (s.dev.radioQuiet r = true) :=
  ⟨dv (fun d => (d.onMld (fun m => { m with quiesce := m.quiesce.set .a true }))), .a,
   by decide +kernel⟩

def wHole : Nat × Dev := let d := (T0.dev.setStaTid 1 0 { blankStaTid with held := [blankRxHeld] }).at_ (msT (T0.dev.fld A.MLD.REORDER_CFG 7 0)); d.rxPass 1 0 false (d.staTid 1 0).toHeld

theorem w_WirelessEventsComplete_holeTimeout : ∃ (s : State) (sta : Nat) (tid : Nat) (due : Nat) (n : Nat) (d : Dev),
  (s.dev.holeDue sta tid = some due) ∧
  ((s.dev.at_ due).rxPass sta tid false ((s.dev.at_ due).staTid sta tid).toHeld = (n, d)) :=
  ⟨dv (fun d => d.setStaTid 1 0 { blankStaTid with held := [blankRxHeld] }), 1, 0, msT (T0.dev.fld A.MLD.REORDER_CFG 7 0), wHole.1, wHole.2,
   by decide +kernel,
   rfl⟩

theorem w_MacAndMldCommandsComplete_keySet : ∃ (σ : State) (rq : Rq) (r : Radio) (ws : List Word),
  (σ.dev.serves (.mac r) = true) ∧
  let w := word ws 0
  let k := bitsOf w 11 0
  let c := bitsOf w 19 16
  let bad := extra w 0x030F0FFF || decide (0x83F < k) || outside c 1 8 || extra (word ws 2) 0xFFFF || extra (word ws 4) 0xFFFF
      || (ws.drop (5 + keyWords c)).any (fun v => decide (v ≠ 0))
  (σ.dev.takes rq OP.COMMAND ws.length 0 = true) ∧
  (¬ (ws.length ≠ 13)) ∧
  (bad = false) :=
  ⟨T0, mpRq, .a, (0x03010000 :: List.replicate 12 0),
   by decide +kernel,
   by decide +kernel⟩

theorem w_MacAndMldCommandsComplete_keyClear : ∃ (σ : State) (rq : Rq) (r : Radio) (ws : List Word),
  (σ.dev.serves (.mac r) = true) ∧
  let w := word ws 0
  (σ.dev.takes rq OP.COMMAND ws.length 0 = true) ∧
  (¬ (ws.length ≠ 1)) ∧
  (¬ (0x83F < w.toNat)) :=
  ⟨T0, mpRq, .a, [0x83F],
   by decide +kernel,
   by decide +kernel⟩

theorem w_MacAndMldCommandsComplete_keyPn : ∃ (σ : State) (rq : Rq) (r : Radio) (ws : List Word),
  (σ.dev.serves (.mac r) = true) ∧
  let d := σ.dev.asked (.mac r)
  let w := word ws 0
  let pns := match d.keySlot w.toNat with
      | some x => x.txPn :: (List.range 9).map (fun t => x.rxPn.getD t 0)
      | none => List.replicate 10 0
  (σ.dev.takes rq OP.COMMAND ws.length 20 = true) ∧
  (¬ (ws.length ≠ 1)) ∧
  (¬ (0x83F < w.toNat)) :=
  ⟨T0, mpRq, .a, [0x83F],
   by decide +kernel,
   by decide +kernel⟩

theorem w_MacAndMldCommandsComplete_bssSet : ∃ (σ : State) (rq : Rq) (r : Radio) (ws : List Word),
  (σ.dev.serves (.mac r) = true) ∧
  let d := σ.dev.asked (.mac r)
  let b := bssOf ws
  let tx : Bool := match tabFind (d.mac.get r).bss b.txIndex with
      | some x => x.txBssid
      | none => false
  let rateOk := decide (b.bcnRate ≤ 7) || (decide (r = .a) && !outside b.bcnRate 0x10 0x13)
  let bad := extra (word ws 0) 0x00FF0FFF || decide (b.dtim = 0) || extra (word ws 2) 0xFFFF || outside b.intervalTu 16 1000
      || decide (b.intervalTu ≤ b.offsetTu) || extra (word ws 4) 0x01FF0FFF || (decide (r ≠ .a) && decide (b.basic % 16 ≠ 0))
      || !rateOk || extra (word ws 6) 0x003FFFFF || !((b.gtk.take 2).all (d.groupKeyOk false)) || !((b.gtk.drop 2).all (d.groupKeyOk true))
      || !(b.bigtk.all (d.groupKeyOk true)) || (b.nonTx && !tx)
  (σ.dev.takes rq OP.COMMAND ws.length 0 = true) ∧
  (¬ (ws.length ≠ 7)) ∧
  (bad = false) :=
  ⟨T0, mpRq, .a, [0x00010010, 7, 0, 100, 0xFFF, 0xFFFFFFFF, 0xFFFF],
   by decide +kernel,
   by decide +kernel⟩

theorem w_MacAndMldCommandsComplete_beaconSet : ∃ (σ : State) (rq : Rq) (r : Radio) (ws : List Word),
  (σ.dev.serves (.mac r) = true) ∧
  let w := word ws 0
  let c := bitsOf w 15 8
  let total := bitsOf w 31 16
  let tim := bitsOf (word ws 1) 15 0
  let n := min 1016 (total - 1016 * c)
  let bad := extra w 0xFFFFFF0F || extra (word ws 1) 0xFFFF || outside total 1 2048 || decide (total ≤ 1016 * c)
      || decide (total ≤ tim)
  (σ.dev.takes rq OP.COMMAND ws.length 0 = true) ∧
  (¬ (ws.length < 2 ∨ (!bad ∧ ws.length ≠ 2 + ceilDiv n 4))) ∧
  (bad = false) :=
  ⟨T0, mpRq, .a, [0x00040000, 3, 1],
   by decide +kernel,
   by decide +kernel⟩

theorem w_MacAndMldCommandsComplete_twtSet : ∃ (σ : State) (rq : Rq) (r : Radio) (ws : List Word),
  (σ.dev.serves (.mac r) = true) ∧
  let d := σ.dev.asked (.mac r)
  let w := word ws 0
  let id := bitsOf w 7 0
  let typ := bitsOf w 9 8
  let s := bitsOf w 26 16
  let old := tabFind (d.mac.get r).twt id
  let was := match old with
      | some x => x.members
      | none => []
  let dur := bitsOf (word ws 4) 15 0
  let iv := (word ws 3).toNat
  let on := bitOf w 31
  let bad := decide (typ = 3) || extra w 0x87FFF7FF || (on && (decide (iv < 1024) || decide (dur < 256) || decide (iv < dur)
      || extra (word ws 4) 0xFFFFFF || (decide (typ = 0) && (d.station s).isNone)))
  let full := on && decide (typ = 0) && !was.contains s && decide (4 ≤ d.twtCount r s)
  (σ.dev.takes rq OP.COMMAND ws.length 0 = true) ∧
  (¬ (ws.length ≠ 5)) ∧
  (bad = false) ∧
  (full = false) :=
  ⟨T0, mpRq, .a, [0x80000100, 0, 0, 1024, 256],
   by decide +kernel,
   by decide +kernel⟩

theorem w_MacAndMldCommandsComplete_apMldSet : ∃ (σ : State) (rq : Rq) (ws : List Word),
  (σ.dev.serves .mld = true) ∧
  let d := σ.dev.asked .mld
  let w := word ws 0
  let i := bitsOf w 3 0
  let links := bitsOf w 6 4
  let on := bitOf w 7
  let rs := [Radio.a, .b, .c].filter (fun r => links.testBit r.num)
  let bss (r : Radio) : Nat := bitsOf w (11 + 4 * r.num) (8 + 4 * r.num)
  let lid (r : Radio) : Nat := bitsOf w (23 + 4 * r.num) (20 + 4 * r.num)
  let enabled (r : Radio) : Bool := match tabFind (d.mac.get r).bss (bss r) with
      | some b => b.enable
      | none => false
  let taken (r : Radio) : Bool := d.mld.apMlds.any (fun e => decide (e.1 ≠ i) && e.2.links.testBit r.num
      && decide (e.2.bss.get r = bss r))
  let bad := extra (word ws 2) 0xFFFF || decide (word ws 3 ≠ 0)
      || (on && (rs.any (fun r => !enabled r || taken r || decide (14 < lid r))
        || decide ((rs.map lid).eraseDups.length ≠ rs.length)))
  let used := !on && d.mld.stations.any (fun e => decide (e.2.apMld = i))
  (σ.dev.takes rq OP.COMMAND ws.length 0 = true) ∧
  (¬ (ws.length ≠ 4)) ∧
  ((on && rs.any (fun r => decide (d.chains r = 0))) = false) ∧
  (used = false) ∧
  (bad = false) :=
  ⟨T0, mpRq, [0x80, 1, 0, 0],
   by decide +kernel,
   by decide +kernel⟩

theorem w_MacAndMldCommandsComplete_staSet : ∃ (σ : State) (rq : Rq) (ws : List Word),
  (σ.dev.serves .mld = true) ∧
  let d := σ.dev.asked .mld
  let w := word ws 0
  let s := bitsOf w 10 0
  let on := bitOf w 31
  let old := d.station s
  let x := staOf ws (match old with
      | some y => y.powerSave
      | none => false)
  let ap : Nat := match tabFind d.mld.apMlds x.apMld with
      | some a => a.links
      | none => 0
  let map := (List.range 8).any (fun t => decide (x.map / 2 ^ (3 * t) % 8 &&& x.links = 0))
  let moved : Bool := match old with
      | some y => on && decide (y.apMld ≠ x.apMld)
      | none => false
  let bad := decide (1023 < s) || extra w 0x803FF7FF || decide (bitsOf w 21 20 = 3) || extra (word ws 2) 0xFFFF
      || [4, 6, 8].any (fun i => extra (word ws i) 0xFFFF) || extra (word ws 9) 0xFFFFFF
      || (on && (decide (x.links = 0) || decide (x.links &&& ap ≠ x.links) || map || (!x.mld && decide (popNat 3 x.links ≠ 1))))
  let absent := on && [Radio.a, .b, .c].any (fun r => x.links.testBit r.num && decide (d.chains r = 0))
  (σ.dev.takes rq OP.COMMAND ws.length 0 = true) ∧
  (¬ (ws.length ≠ 10)) ∧
  (absent = false) ∧
  (moved = false) ∧
  (bad = false) :=
  ⟨T0, mpRq, [0, 0, 0, 0, 0, 0, 0, 0, 0, 0],
   by decide +kernel,
   by decide +kernel⟩

theorem w_MacAndMldCommandsComplete_staDel : ∃ (σ : State) (rq : Rq) (ws : List Word),
  (σ.dev.serves .mld = true) ∧
  let w := word ws 0
  (σ.dev.takes rq OP.COMMAND ws.length 0 = true) ∧
  (¬ (ws.length ≠ 1)) ∧
  ((extra w 0x7FF || decide (1023 < w.toNat)) = false) :=
  ⟨T0, mpRq, [1023],
   by decide +kernel,
   by decide +kernel⟩

theorem w_MacAndMldCommandsComplete_baSet : ∃ (σ : State) (rq : Rq) (ws : List Word),
  (σ.dev.serves .mld = true) ∧
  let d := σ.dev.asked .mld
  let w := word ws 0
  let s := bitsOf w 10 0
  let on := bitOf w 17
  let win := bitsOf (word ws 1) 10 0
  let bad := extra w 0x377FF || extra (word ws 1) 0x0FFF07FF || (d.station s).isNone || (on && outside win 1 1024)
  (σ.dev.takes rq OP.COMMAND ws.length 0 = true) ∧
  (¬ (ws.length ≠ 2)) ∧
  (bad = false) :=
  ⟨dv (fun d => d.withSta), mpRq, [0x00020005, 1024],
   by decide +kernel,
   by decide +kernel⟩

theorem w_SchedulerCommandsComplete_idleRound : ∃ (s : State) (r : Radio) (t : Nat) (dl : Nat) (d : Dev),
  (t = s.dev.gridAt (max s.dev.tb (s.dev.asc.radios.get r).from_)) ∧
  (dl = s.dev.gridAt (t + 1)) ∧
  (d = ((s.dev.at_ t).deadlines).onAscRadio r (fun x => { x with from_ := t + 1 })) ∧
  (d.ready .asc = true) ∧
  (d.ready .qar = true) ∧
  (d.avail r = true) ∧
  ((d.asc.radios.get r).inFlight = none) ∧
  (d.bit A.ASC.ROUND_CFG 8 = true) ∧
  (d.roundWork r = false) :=
  ⟨dv (fun d => d.radioUp), .a, _, _, _,
   rfl,
   rfl,
   rfl,
   by decide +kernel⟩

theorem w_SchedulerCommandsComplete_round : ∃ (s : State) (r : Radio) (t : Nat) (dl : Nat) (d : Dev) (e : Dev) (g : Dev) (i : Nat) (c : Nat),
  (t = s.dev.gridAt (max s.dev.tb (s.dev.asc.radios.get r).from_)) ∧
  (dl = s.dev.gridAt (t + 1)) ∧
  (d = ((s.dev.at_ t).deadlines).onAscRadio r (fun x => { x with from_ := t + 1 })) ∧
  (d.ready .asc = true) ∧
  (d.ready .qar = true) ∧
  (d.avail r = true) ∧
  ((d.asc.radios.get r).inFlight = none) ∧
  (d.bit A.ASC.ROUND_CFG 8 = false ∨ d.roundWork r = true) ∧
  (e = (d.onAscRadio r (fun x => { x with round := (x.round + 1) % 65536 })).count (A.ASC.ROUND_CNT r.num)) ∧
  ({ e with free := e.free + 4 }.qarSubmit (d.fld A.QAR.ASC_TPL 4 0) (d.fld A.ASC.PRIO (2 * r.num + 1) (2 * r.num)) dl (d.enableMask r) e.freeCtx 0 r.num = (g, some i, c)) :=
  by refine ⟨dv (fun d => (d.radioUp.withTpl).wr A.ASC.ROUND_CFG 0x07D00014), .a, _, _, _, _, _, _, _,
   rfl, rfl, rfl, ?_, ?_, ?_, ?_, ?_, rfl, submitted_ok (by decide +kernel)⟩ <;> decide +kernel

theorem w_SchedulerCommandsComplete_roundRefused : ∃ (s : State) (r : Radio) (t : Nat) (dl : Nat) (d : Dev) (e : Dev) (g : Dev) (c : Nat),
  (t = s.dev.gridAt (max s.dev.tb (s.dev.asc.radios.get r).from_)) ∧
  (dl = s.dev.gridAt (t + 1)) ∧
  (d = ((s.dev.at_ t).deadlines).onAscRadio r (fun x => { x with from_ := t + 1 })) ∧
  (d.ready .asc = true) ∧
  (d.ready .qar = true) ∧
  (d.avail r = true) ∧
  ((d.asc.radios.get r).inFlight = none) ∧
  (d.bit A.ASC.ROUND_CFG 8 = false ∨ d.roundWork r = true) ∧
  (e = (d.onAscRadio r (fun x => { x with round := (x.round + 1) % 65536 })).count (A.ASC.ROUND_CNT r.num)) ∧
  ({ e with free := e.free + 4 }.qarSubmit (d.fld A.QAR.ASC_TPL 4 0) (d.fld A.ASC.PRIO (2 * r.num + 1) (2 * r.num)) dl (d.enableMask r) e.freeCtx 0 r.num = (g, none, c)) :=
  by refine ⟨dv (fun d => d.radioUp.wr A.ASC.ROUND_CFG 0x07D00014), .a, _, _, _, _, _, _,
   rfl, rfl, rfl, ?_, ?_, ?_, ?_, ?_, rfl, rfl⟩ <;> decide +kernel

theorem w_SchedulerCommandsComplete_staPolicy : ∃ (σ : State) (rq : Rq) (ws : List Word),
  (σ.dev.serves .asc = true) ∧
  let d := σ.dev.asked .asc
  let w := word ws 0
  let s := bitsOf w 10 0
  let links := match d.station s with
      | some x => x.links
      | none => 0
  (σ.dev.takes rq OP.COMMAND ws.length 0 = true) ∧
  (¬ (ws.length ≠ 4)) ∧
  ((extra w 0x03FF37FF || decide (1024 ≤ s) || (d.station s).isNone || decide (bitsOf w 23 16 = 0)
       || (List.range 3).any (fun l => capsBad (word ws (1 + l)) || (bitOf (word ws (1 + l)) 0 && !links.testBit l))) = false) :=
  ⟨dv (fun d => d.withSta), mpRq, [0x00010005, 0, 0, 0],
   by decide +kernel,
   by decide +kernel⟩

theorem w_SchedulerCommandsComplete_planChunk : ∃ (s : State) (rq : Rq) (ws : List Word) (d : Dev) (w : Word) (k : Nat) (len : Nat) (data : List Byte),
  (d = s.dev.asked .asc) ∧
  (s.dev.takes rq OP.COMMAND ws.length 0 = true) ∧
  (s.dev.serves .asc = true) ∧
  (w = word ws 0) ∧
  (k = bitsOf w 7 0) ∧
  (len = bitsOf w 31 16) ∧
  (data = ((wordsBytes (ws.drop 1)).take 1016).take (len - 1016 * k)) ∧
  (2 ≤ ws.length) ∧
  (ws.length ≤ 255) ∧
  (extra w 0xFFFF00FF = false) ∧
  (1016 * k < len) ∧
  (len ≤ 68 + 80 * 16) ∧
  ((tabPut (if d.asc.planLen = len then d.asc.planChunks else []) k data).length < ceilDiv len 1016) :=
  ⟨T0, mpRq, [0x05000000, 0], _, _, _, _, _,
   rfl,
   by decide +kernel,
   by decide +kernel,
   rfl,
   rfl,
   rfl,
   rfl,
   by decide +kernel⟩

def wPlan : List Byte :=
  wordsBytes ([0x2, 0x1010000] ++ List.replicate 4 0 ++ [0x10000, 0, 0x3ff0000] ++ List.replicate 7 0x3ff03ff ++ [0, 0x10000c8] ++
    List.replicate 18 0 ++ [0xb971e10f])
def wPart (i : Nat) : List Byte := (wPlan.drop (36 * i)).take 36
def wFold (c : BitVec 32) (i : Nat) : BitVec 32 := (wPart i).foldl (fun c b => Nat.repeat crc32Bit 8 (c ^^^ b.setWidth 32)) c
theorem wFold0 : wFold 0xffffffff 0 = 0xde511f9b := by decide +kernel
theorem wFold1 : wFold 0xde511f9b 1 = 0xd46783e7 := by decide +kernel
theorem wFold2 : wFold 0xd46783e7 2 = 0x1e0dbad := by decide +kernel
theorem wFold3 : wFold 0x1e0dbad 3 = 0x468e1ef0 := by decide +kernel
theorem wPlan_crc : (crc32 (wPlan.take (wPlan.length - 4))).toNat = leNat (wPlan.drop (wPlan.length - 4)) := by
  have h : wPlan.take (wPlan.length - 4) = ((wPart 0 ++ wPart 1) ++ wPart 2) ++ wPart 3 := by decide +kernel
  have f : crc32 (wPlan.take (wPlan.length - 4)) = ~~~ (wFold (wFold (wFold (wFold 0xFFFFFFFF 0) 1) 2) 3) := by
    rw [h, crc32, List.foldl_append, List.foldl_append, List.foldl_append]; rfl
  rw [f, wFold0, wFold1, wFold2, wFold3]
  decide +kernel
theorem wPlan_shape : planShape wPlan = true := by
  have h := wPlan_crc
  unfold planShape
  simp only [Bool.and_eq_true, decide_eq_true_eq]
  and_intros
  all_goals first | with_reducible exact h | decide +kernel
theorem wPlan_admit {d : Dev} (h : d = (dv (fun d => (d.wr A.ASC.HEAT_CTRL 1).onMsh (fun m => { m with addr := 0 }))).dev.asked .asc) : d.heatAdmit wPlan = RC.OK := by
  subst h
  unfold Dev.heatAdmit
  simp only [wPlan_shape]
  decide +kernel

theorem w_SchedulerCommandsComplete_planLast : ∃ (s : State) (rq : Rq) (ws : List Word) (d : Dev) (w : Word) (k : Nat) (len : Nat) (data : List Byte) (bs : List Byte) (chunks : Tab (List Byte)),
  (d = s.dev.asked .asc) ∧
  (s.dev.takes rq OP.COMMAND ws.length 0 = true) ∧
  (s.dev.serves .asc = true) ∧
  (w = word ws 0) ∧
  (k = bitsOf w 7 0) ∧
  (len = bitsOf w 31 16) ∧
  (data = ((wordsBytes (ws.drop 1)).take 1016).take (len - 1016 * k)) ∧
  (2 ≤ ws.length) ∧
  (ws.length ≤ 255) ∧
  (extra w 0xFFFF00FF = false) ∧
  (1016 * k < len) ∧
  (len ≤ 68 + 80 * 16) ∧
  (chunks = tabPut (if d.asc.planLen = len then d.asc.planChunks else []) k data) ∧
  (ceilDiv len 1016 ≤ chunks.length) ∧
  (bs = (chunks.map (fun e => e.2)).flatten) ∧
  (d.heatAdmit bs = RC.OK) :=
  by refine ⟨dv (fun d => (d.wr A.ASC.HEAT_CTRL 1).onMsh (fun m => { m with addr := 0 })), mpRq, (0x00940000 :: bytesWords wPlan), _, _, _, _, _, _, _,
   rfl, ?_, ?_, rfl, rfl, rfl, rfl, ?_, ?_, ?_, ?_, ?_, rfl, ?_, rfl, (congrArg _ (by decide +kernel)).trans (wPlan_admit rfl)⟩ <;> decide +kernel

theorem w_SchedulerCommandsComplete_heatClear : ∃ (σ : State) (rq : Rq) (ws : List Word),
  (σ.dev.serves .asc = true) ∧
  (σ.dev.takes rq OP.COMMAND ws.length 0 = true) ∧
  (¬ (ws.length ≠ 1)) ∧
  ((extra (word ws 0) 3 || decide (bitsOf (word ws 0) 1 0 = 3)) = false) :=
  ⟨T0, mpRq, [2],
   by decide +kernel⟩

theorem w_SchedulerCommandsComplete_allocGet : ∃ (σ : State) (rq : Rq) (ws : List Word),
  (σ.dev.serves .asc = true) ∧
  let d := σ.dev.asked .asc
  let w := word ws 0
  let r := Radio.ofNum (bitsOf w 1 0)
  let a := d.newestAlloc r (bitOf w 2)
  let at_ := allocAt r (match a with
      | some x => x.buf
      | none => 0) + 1024 * bitsOf w 15 8
  (σ.dev.takes rq OP.COMMAND ws.length 256 = true) ∧
  (¬ (ws.length ≠ 1)) ∧
  (a.isNone = false) ∧
  ((extra w 0xFF07 || decide (bitsOf w 1 0 = 3 ∨ 4 < bitsOf w 15 8)) = false) :=
  ⟨dv (fun d => (d).onAscRadio .a (fun m => { m with good := some blankAlloc })), mpRq, [0],
   by decide +kernel,
   by decide +kernel⟩

theorem w_SchedulerCommandsComplete_activate : ∃ (s : State) (r : Radio) (p : HeatPlan) (d : Dev),
  ((s.dev.asc.radios.get r).pending = some p) ∧
  (s.dev.planHere r p = true) ∧
  (d = s.dev.at_ (s.dev.tickAt (s.dev.planStart p))) :=
  ⟨dv (fun d => (d).onAscRadio .a (fun m => { m with pending := some { blankHeatPlan with periodUs := 100000, actS := 1, heats := [blankHeatSlot], center := chanCenter (T0.dev.rd (A.RFE.CHAN .a)), width := chanWidth (T0.dev.rd (A.RFE.CHAN .a)) } })), .a, { blankHeatPlan with periodUs := 100000, actS := 1, heats := [blankHeatSlot], center := chanCenter (T0.dev.rd (A.RFE.CHAN .a)), width := chanWidth (T0.dev.rd (A.RFE.CHAN .a)) }, _,
   by decide +kernel,
   by decide +kernel,
   rfl⟩

theorem w_SchedulerCommandsComplete_heatRound : ∃ (s : State) (r : Radio) (p : HeatPlan) (lead : Nat) (per : Nat) (k : Nat) (startNs : Nat) (launch : Nat) (dur : Nat) (buf : Nat) (i : Nat) (c : Nat) (d : Dev) (d1 : Dev) (d2 : Dev),
  (lead = s.dev.fld (A.ASC.HEAT_CFG r.num) 31 24) ∧
  (per = s.dev.periodAt s.dev.tb) ∧
  (s.dev.heatAfter r (max (s.dev.ptpAt (s.dev.tb + usT (lead + per)) - 1) (match (s.dev.asc.radios.get r).heatNext with
    | some x => s.dev.ptpAt x.launch
    | none => 0)) = some (p, k, startNs)) ∧
  (launch = s.dev.tickAt startNs) ∧
  (dur = (match p.heats[k]? with
    | some x => x.durUs
    | none => 0)) ∧
  (d = (s.dev.at_ (launch - usT (lead + per))).deadlines) ∧
  (d.tmu.servo = .locked) ∧
  (d1 = (d.onAscRadio r (fun s => { s with heatNext := some { idx := k, launch := launch, end_ := launch + usT dur, un := false, sub := d.tb }, heatGood := if s.heatFor = some p then s.heatGood else [], heatFor := some p })).suspendAll false) ∧
  (d1.ready .asc = true) ∧
  (d1.ready .qar = true) ∧
  (d1.avail r = true) ∧
  ((d1.asc.radios.get r).heatFlight = none) ∧
  (buf = (match d1.newestAlloc r true with
    | some a => 5 - a.buf
    | none => 2)) ∧
  ({ d1 with free := d1.free + 4 }.qarSubmit (d.fld A.QAR.ASC_TPL 12 8) (d.fld A.ASC.PRIO 7 6) (launch - usT lead) (d.enableMask r) d1.freeCtx 1 r.num = (d2, some i, c)) :=
  by refine ⟨dv (fun d => (d.radioUp.withTpl.onTmu (fun t => { t with servo := .locked })).onAscRadio .a (fun m => { m with plan := some { blankHeatPlan with periodUs := 100000, actS := 1, heats := [blankHeatSlot] } })), .a, { blankHeatPlan with periodUs := 100000, actS := 1, heats := [blankHeatSlot] }, _, _, _, _, _, _, _, _, _, _, _, _,
   rfl, rfl, (Option.some_get (by decide +kernel)).symm, rfl, rfl, rfl, ?_, rfl, ?_, ?_, ?_, ?_, rfl, submitted_ok (by decide +kernel)⟩ <;> decide +kernel

theorem w_SchedulerCommandsComplete_heatUnsynced : ∃ (s : State) (r : Radio) (p : HeatPlan) (lead : Nat) (per : Nat) (k : Nat) (startNs : Nat) (launch : Nat) (dur : Nat) (d : Dev),
  (lead = s.dev.fld (A.ASC.HEAT_CFG r.num) 31 24) ∧
  (per = s.dev.periodAt s.dev.tb) ∧
  (s.dev.heatAfter r (max (s.dev.ptpAt (s.dev.tb + usT (lead + per)) - 1) (match (s.dev.asc.radios.get r).heatNext with
    | some x => s.dev.ptpAt x.launch
    | none => 0)) = some (p, k, startNs)) ∧
  (launch = s.dev.tickAt startNs) ∧
  (dur = (match p.heats[k]? with
    | some x => x.durUs
    | none => 0)) ∧
  (d = (s.dev.at_ (launch - usT (lead + per))).deadlines) ∧
  (d.tmu.servo ≠ .locked) :=
  ⟨dv (fun d => (d.radioUp.withTpl).onAscRadio .a (fun m => { m with plan := some { blankHeatPlan with periodUs := 100000, actS := 1, heats := [blankHeatSlot] } })), .a, { blankHeatPlan with periodUs := 100000, actS := 1, heats := [blankHeatSlot] }, _, _, _, _, _, _, _,
   rfl,
   rfl,
   (Option.some_get (by decide +kernel)).symm,
   rfl,
   rfl,
   rfl,
   by decide +kernel⟩

theorem w_SchedulerCommandsComplete_heatSilent : ∃ (s : State) (r : Radio) (x : TxStart) (y : HeatNext),
  ((s.dev.asc.radios.get r).heatNext = some y) ∧
  (y.un = true) :=
  ⟨dv (fun d => (d).onAscRadio .a (fun m => { m with heatNext := some { idx := 0, launch := 1, end_ := 2, un := true, sub := 0 } })), .a, (blankTxStart), { idx := 0, launch := 1, end_ := 2, un := true, sub := 0 },
   by decide +kernel⟩

theorem w_SchedulerCommandsComplete_heatLaunch : ∃ (s : State) (r : Radio) (x : TxStart) (q : Nat) (y : HeatNext) (a : Alloc) (d : Dev) (d1 : Dev) (d2 : Dev) (f : Filled),
  ((s.dev.asc.radios.get r).heatNext = some y) ∧
  (y.un = false) ∧
  (d = (s.dev.at_ (y.launch - s.dev.wayToTx r)).deadlines) ∧
  ((d.asc.radios.get r).heatGood.find? (fun e => decide (e.1 = y.idx)) = some (q, a)) ∧
  (d1 = (d.twtCut r).onAscRadio r (fun z => { z with heatNext := none, heatRun := some (y.end_, true) })) ∧
  (a.pub < y.sub → y.launch - a.snap < usT (d.fld A.ASC.ROUND_CFG 31 16)) ∧
  (d.avail r = true) ∧
  (d.heatYields r y.launch y.end_ = false) ∧
  (d.tb + d.wayToTx r ≤ y.launch) ∧
  ((if bitOf (d.sram32 (allocAt r a.buf)) 25 then d1.fillMu r (allocAt r a.buf) x.vec x.rooms false 4 else d1.fillTrigger r (allocAt r a.buf) x.vec).2 = some f) ∧
  (d2 = (f.dev.shortDone r).transmit r { f.vec with kind := .heat } f.fids x.ready) ∧
  ((d2.phy.get r).tx.isSome = true) :=
  by refine ⟨dv (fun d => (((d.radioUp.withSta).sramPut (allocAt .a 0 + 26) 1 1).sramPut (allocAt .a 0 + 2432) 1 5).onAscRadio .a (fun m => { m with heatNext := some { idx := 0, launch := 100000, end_ := 200000, un := false, sub := 0 }, heatGood := [(0, { blankAlloc with snap := 90000 })] })), .a, { blankTxStart with vec := { blankTxVec with tolUs := 50, fmt := 1, gi := 3, durUs := 100 } }, _, { idx := 0, launch := 100000, end_ := 200000, un := false, sub := 0 }, _, _, _, _, _,
   ?_, ?_, rfl, (Option.some_get (by decide +kernel)).symm, rfl, ?_, ?_, ?_, ?_, (Option.some_get (by decide +kernel)).symm, rfl, ?_⟩ <;> decide +kernel

theorem w_SchedulerCommandsComplete_heatEnd : ∃ (s : State) (r : Radio) (t : Nat) (b : Bool),
  ((s.dev.asc.radios.get r).heatRun = some (t, b)) :=
  ⟨dv (fun d => (d).onAscRadio .a (fun m => { m with heatRun := some (9, true) })), .a, 9, true,
   by decide +kernel⟩

theorem w_ArrayCommandsComplete_submit : ∃ (s : State) (rq : Rq) (ws : List Word) (d : Dev) (w : Word) (i : Nat) (mask : Nat) (t : Tpl) (x : Inst),
  (d = s.dev.asked .qar) ∧
  (s.dev.takes rq OP.COMMAND ws.length 1 = true) ∧
  (s.dev.serves .qar = true) ∧
  (ws.length = 8) ∧
  (rq.src ≠ .mp → d.mgt.otp.lc = .test ∨ d.mgt.otp.lc = .ret) ∧
  (w = word ws 0) ∧
  (extra w 0xDF = false) ∧
  (tabFind d.qar.templates (bitsOf w 4 0) = some t) ∧
  (mask = pair ws 2 % 2 ^ t.nodes.length) ∧
  (t.nodes ≠ []) ∧
  (mask.testBit (t.nodes.length - 1) = true) ∧
  ((List.range 16).find? (fun j => (tabFind d.qar.insts j).isNone) = some i) ∧
  (((List.range t.nodes.length).filter (fun n => mask.testBit n)).length ≤ d.freeSlots.length) ∧
  (x = { tpl := bitsOf w 4 0, list := bitsOf w 7 6, deadline := d.tbOf (word ws 1), enable := mask, ctx := ws.drop 4, order := d.qar.nextOrder, at_ := d.tb, by_ := if rq.src = .mp then 2 else 3, radio := 0, cancelled := false, complete := false, done := 0, work := Work.reset }) :=
  by refine ⟨dv (fun d => d.withTpl), mpRq, [0, 0, 1, 0, 0, 0, 0, 0], _, _, _, _, _, _,
   rfl, ?_, ?_, ?_, (by decide +kernel), rfl, ?_, (Option.some_get (by decide +kernel)).symm, rfl, ?_, ?_, (Option.some_get (by decide +kernel)).symm, ?_, rfl⟩ <;> decide +kernel

theorem w_ArrayCommandsComplete_tplChunk : ∃ (s : State) (rq : Rq) (ws : List Word) (d : Dev) (w : Word) (t : Nat) (k : Nat) (len : Nat) (data : List Byte),
  (d = s.dev.asked .qar) ∧
  (s.dev.takes rq OP.COMMAND ws.length 0 = true) ∧
  (s.dev.serves .qar = true) ∧
  (w = word ws 0) ∧
  (t = bitsOf w 4 0) ∧
  (k = bitsOf w 15 8) ∧
  (len = bitsOf w 31 16) ∧
  (data = ((wordsBytes (ws.drop 1)).take 1016).take (len - 1016 * k)) ∧
  (2 ≤ ws.length) ∧
  (ws.length ≤ 255) ∧
  (extra w 0xFFFFFF1F = false) ∧
  (1016 * k < len) ∧
  ((tabPut (if d.qar.loadT = t ∧ d.qar.loadLen = len then d.qar.loadChunks else []) k data).length < ceilDiv len 1016) :=
  ⟨T0, mpRq, [wd (2000 * 2 ^ 16 + 2), 0], _, _, _, _, _, _,
   rfl,
   by decide +kernel,
   by decide +kernel,
   rfl,
   rfl,
   rfl,
   rfl,
   rfl,
   by decide +kernel⟩

def wTplBody : List Word := [0x101, 0, 0, 0, 0, 1, 0, 0]

theorem w_ArrayCommandsComplete_tplLast : ∃ (s : State) (rq : Rq) (ws : List Word) (d : Dev) (w : Word) (t : Nat) (k : Nat) (len : Nat) (data : List Byte) (bs : List Byte) (chunks : Tab (List Byte)),
  (d = s.dev.asked .qar) ∧
  (s.dev.takes rq OP.COMMAND ws.length 0 = true) ∧
  (s.dev.serves .qar = true) ∧
  (w = word ws 0) ∧
  (t = bitsOf w 4 0) ∧
  (k = bitsOf w 15 8) ∧
  (len = bitsOf w 31 16) ∧
  (data = ((wordsBytes (ws.drop 1)).take 1016).take (len - 1016 * k)) ∧
  (2 ≤ ws.length) ∧
  (ws.length ≤ 255) ∧
  (extra w 0xFFFFFF1F = false) ∧
  (1016 * k < len) ∧
  (chunks = tabPut (if d.qar.loadT = t ∧ d.qar.loadLen = len then d.qar.loadChunks else []) k data) ∧
  (ceilDiv len 1016 ≤ chunks.length) ∧
  (bs = (chunks.map (fun e => e.2)).flatten) ∧
  (leNat ((bs.drop 4).take 2) = bitsOf d.qar.fwVer 31 24) ∧
  (∀ e ∈ d.qar.insts, e.2.tpl ≠ t) ∧
  (d.fld A.QAR.ASC_TPL 4 0 ≠ t) ∧
  (d.fld A.QAR.ASC_TPL 12 8 ≠ t) ∧
  (tplOk bs = true) :=
  by refine ⟨T0, mpRq, ([wd (36 * 2 ^ 16 + 2)] ++ wTplBody ++ [crc32 (wordsBytes wTplBody)]), _, _, _, _, _, _, _, _,
   rfl, ?_, ?_, rfl, rfl, rfl, rfl, rfl, ?_, ?_, ?_, ?_, rfl, ?_, rfl, ?_⟩ <;> decide +kernel

theorem w_ArrayCommandsComplete_ductusGet : ∃ (s : State) (rq : Rq) (ws : List Word) (d : Dev) (n : Nat) (k : Nat),
  (d = s.dev.asked .qar) ∧
  (k = min 64 (replyRoom rq.src (decide (rq.flags % 2 = 1)) / 4)) ∧
  (ws.length = 1) ∧
  (n = (wd d.qar.ductus.seq - word ws 0).toNat) ∧
  (n ≤ d.qar.ductus.recs.length) ∧
  (n < 2 ^ 31) ∧
  (s.dev.takes rq OP.COMMAND ws.length (4 * min k n) = true) ∧
  (s.dev.serves .qar = true) :=
  ⟨T0, mpRq, [0], _, _, _,
   rfl,
   rfl,
   by decide +kernel,
   rfl,
   by decide +kernel⟩

theorem w_ArrayCommandsComplete_ductusTrigger : ∃ (s : State) (rq : Rq),
  (s.dev.takes rq OP.COMMAND 1 0 = true) ∧
  (s.dev.serves .qar = true) :=
  ⟨T0, mpRq,
   by decide +kernel⟩

theorem w_ArrayCommandsComplete_ductusResume : ∃ (s : State) (rq : Rq),
  (s.dev.takes rq OP.COMMAND 1 0 = true) ∧
  (s.dev.serves .qar = true) :=
  ⟨T0, mpRq,
   by decide +kernel⟩

theorem w_ArrayCommandsComplete_postDone : ∃ (s : State),
  (s.dev.qar.ductus.triggered = true) ∧
  (s.dev.qar.ductus.postLeft = 0) :=
  ⟨dv (fun d => d.onQar (fun q => { q with ductus := { q.ductus with triggered := true } })),
   by decide +kernel⟩

theorem w_ArrayCommandsComplete_coreRun : ∃ (s : State) (rq : Rq) (v : Word),
  (s.dev.accepts rq (A.QAR.CORE_CTRL) (v) .qar = true) :=
  ⟨T0, mpRq, 0,
   by decide +kernel⟩

theorem w_ArrayCommandsComplete_put1 : ∃ (s : State) (k : Fin 16) (v : Word) (o : Op) (slot : Nat),
  ((s.dev.quill k.val).held = some slot) ∧
  (tabFind s.dev.qar.ops slot = some o) ∧
  (0x10 ≤ bitsOf (s.dev.quill k.val).put0 31 24) ∧
  (bitsOf (s.dev.quill k.val).put0 31 24 ≤ 0x1F) :=
  ⟨dv (fun d => (d.withTpl.onQar (fun q => { q with insts := [(0, blankInst)], ops := [(0, blankOp)] })).setCore (.quill 0) { Core.reset false with wait := .none, held := some 0, put0 := 0x10000000 }), 0, 0, _, _,
   (Option.some_get (by decide +kernel)).symm,
   (Option.some_get (by decide +kernel)).symm,
   by decide +kernel⟩

theorem w_ArrayCommandsComplete_limit : ∃ (s : State) (k : Fin 16) (slot : Nat) (o : Op) (x : Inst) (t : Tpl) (lim : Nat) (d : Dev) (fs : List Nat) (out : Bool),
  ((s.dev.quill k.val).held = some slot) ∧
  (tabFind s.dev.qar.ops slot = some o) ∧
  (tabFind s.dev.qar.insts o.inst = some x) ∧
  (tabFind s.dev.qar.templates x.tpl = some t) ∧
  (lim = (t.nodes.getD o.node { entry := 0, param := 0, limit := 0, pred := 0 }).limit) ∧
  (d = (s.dev.at_ (o.since + lim)).deadlines) ∧
  (fs = d.tb :: (d.quill k.val).faults.filter (fun t => decide (d.tb < t + sT 1))) ∧
  (out = decide (3 ≤ fs.length)) :=
  ⟨dv (fun d => (d.withTpl.onQar (fun q => { q with insts := [(0, blankInst)], ops := [(0, blankOp)] })).setCore (.quill 0) { Core.reset false with wait := .none, held := some 0 }), 0, _, _, _, _, _, _, _, _,
   (Option.some_get (by decide +kernel)).symm,
   (Option.some_get (by decide +kernel)).symm,
   (Option.some_get (by decide +kernel)).symm,
   (Option.some_get (by decide +kernel)).symm,
   rfl,
   rfl,
   rfl,
   rfl⟩

theorem w_ArrayCommandsComplete_deadline : ∃ (s : State) (k : Nat) (x : Inst),
  (tabFind s.dev.qar.insts k = some x) ∧
  (x.cancelled = false) ∧
  (x.complete = false) :=
  ⟨dv (fun d => (d.withTpl.onQar (fun q => { q with insts := [(0, blankInst)], ops := [(0, blankOp)] })).setCore (.quill 0) { Core.reset false with wait := .none, pc := 0 }), 0, _,
   (Option.some_get (by decide +kernel)).symm,
   by decide +kernel⟩

theorem w_ArrayCommandsComplete_assign : ∃ (s : State) (slot : Nat) (o : Op) (a : Nat × Nat × Nat) (b : Nat × Nat × Nat) (l : List (Nat × Nat × Nat)),
  (s.dev.openOps.find? (fun e => e.2.isReady) = some (slot, o)) ∧
  (s.dev.takers = a :: l) ∧
  (b = l.foldl (fun b x => if x.1 < b.1 then x else b) a) :=
  ⟨dv (fun d => (d.withTpl.onQar (fun q => { q with insts := [(0, blankInst)], ops := [(0, { blankOp with st := .ready 0 })] })).setCore (.quill 0) { Core.reset false with wait := .take 0 0 }), _, _, (0, 0, 0), _, [],
   (Option.some_get (by decide +kernel)).symm,
   by decide +kernel,
   rfl⟩

theorem w_ArrayCommandsComplete_fetchStart : ∃ (s : State) (k : Fin 16) (v : Word) (f : Fetch) (c : Core),
  ((s.dev.quill k.val).fetches.length < 4) ∧
  (c = (s.dev.quill k.val).cplPut (s.dev.quill k.val).fcpl.toNat 0xFF) ∧
  (f = { src := c.fsrcLo.toNat + 2 ^ 32 * bitsOf c.fsrcHi 2 0, dst := c.fdst.toNat, cpl := c.fcpl.toNat, len := v.toNat, refused := false }) ∧
  (s.dev.serving = true) :=
  ⟨dv (fun d => d.dramUp), 0, 0, _, _,
   by decide +kernel,
   rfl,
   rfl,
   by decide +kernel⟩

theorem w_ArrayCommandsComplete_fetchWaits : ∃ (s : State) (k : Fin 16) (v : Word),
  (4 ≤ (s.dev.quill k.val).fetches.length) :=
  ⟨dv (fun d => d.setCore (.quill 0) { Core.reset false with wait := .none, fetches := [blankFetch, blankFetch, blankFetch, blankFetch] }), 0, 0,
   by decide +kernel⟩

theorem w_ArrayCommandsComplete_fetchDone : ∃ (s : State) (k : Fin 16) (f : Fetch) (l : List Fetch),
  ((s.dev.quill k.val).fetches = f :: l) ∧
  (f.refused = false) ∧
  (s.dev.fetchCode f = RC.OK) ∧
  (s.dev.mem.ddr = .serving) ∧
  (s.dev.rangePoisoned f.src f.len = false) ∧
  (∀ w, (s.dev.quill k.val).wait ≠ .fetchRoom w) :=
  by refine ⟨dv (fun d => (d.dramUp).setCore (.quill 0) { Core.reset false with wait := .none, fetches := [{ blankFetch with len := 64, dst := 0x10000000 }] }), 0, { blankFetch with len := 64, dst := 0x10000000 }, [],
   ?_, ?_, ?_, ?_, no_poison rfl rfl _ _, fun w h => by cases h⟩ <;> decide +kernel

theorem w_RegisterInstructionsComplete_alu : ∃ (s : State) (u : Cpu) (f : FmtR) (c : Core) (o : AluOut),
  (s.dev.executes u f.cond = true) ∧
  (c = s.dev.core u) ∧
  (aluFunc c f.func.toNat (c.reg f.ra) (c.reg f.rb) = some o) ∧
  (f.func = 0x0F → f.rb = 0) :=
  ⟨T0, .mp, (blankFmtR), _, _,
   by decide +kernel,
   rfl,
   (Option.some_get (by decide +kernel)).symm,
   by decide +kernel⟩

theorem w_RegisterInstructionsComplete_addi : ∃ (s : State) (u : Cpu) (f : FmtI) (c : Core),
  (s.dev.executes u f.cond = true) ∧
  (c = s.dev.core u) :=
  ⟨T0, .mp, (blankFmtI), _,
   by decide +kernel,
   rfl⟩

theorem w_RegisterInstructionsComplete_subi : ∃ (s : State) (u : Cpu) (f : FmtI) (c : Core),
  (s.dev.executes u f.cond = true) ∧
  (c = s.dev.core u) :=
  ⟨T0, .mp, (blankFmtI), _,
   by decide +kernel,
   rfl⟩

theorem w_RegisterInstructionsComplete_andi : ∃ (s : State) (u : Cpu) (f : FmtI) (c : Core),
  (s.dev.executes u f.cond = true) ∧
  (c = s.dev.core u) :=
  ⟨T0, .mp, (blankFmtI), _,
   by decide +kernel,
   rfl⟩

theorem w_RegisterInstructionsComplete_ori : ∃ (s : State) (u : Cpu) (f : FmtI) (c : Core),
  (s.dev.executes u f.cond = true) ∧
  (c = s.dev.core u) :=
  ⟨T0, .mp, (blankFmtI), _,
   by decide +kernel,
   rfl⟩

theorem w_RegisterInstructionsComplete_xori : ∃ (s : State) (u : Cpu) (f : FmtI) (c : Core),
  (s.dev.executes u f.cond = true) ∧
  (c = s.dev.core u) :=
  ⟨T0, .mp, (blankFmtI), _,
   by decide +kernel,
   rfl⟩

theorem w_RegisterInstructionsComplete_muli : ∃ (s : State) (u : Cpu) (f : FmtI) (c : Core),
  (s.dev.executes u f.cond = true) ∧
  (c = s.dev.core u) :=
  ⟨T0, .mp, (blankFmtI), _,
   by decide +kernel,
   rfl⟩

theorem w_RegisterInstructionsComplete_shli : ∃ (s : State) (u : Cpu) (f : FmtI) (c : Core),
  (s.dev.executes u f.cond = true) ∧
  (c = s.dev.core u) ∧
  (f.imm.toNat < 32) :=
  ⟨T0, .mp, (blankFmtI), _,
   by decide +kernel,
   rfl,
   by decide +kernel⟩

theorem w_RegisterInstructionsComplete_shri : ∃ (s : State) (u : Cpu) (f : FmtI) (c : Core),
  (s.dev.executes u f.cond = true) ∧
  (c = s.dev.core u) ∧
  (f.imm.toNat < 32) :=
  ⟨T0, .mp, (blankFmtI), _,
   by decide +kernel,
   rfl,
   by decide +kernel⟩

theorem w_RegisterInstructionsComplete_sari : ∃ (s : State) (u : Cpu) (f : FmtI) (c : Core),
  (s.dev.executes u f.cond = true) ∧
  (c = s.dev.core u) ∧
  (f.imm.toNat < 32) :=
  ⟨T0, .mp, (blankFmtI), _,
   by decide +kernel,
   rfl,
   by decide +kernel⟩

theorem w_RegisterInstructionsComplete_rori : ∃ (s : State) (u : Cpu) (f : FmtI) (c : Core),
  (s.dev.executes u f.cond = true) ∧
  (c = s.dev.core u) ∧
  (f.imm.toNat < 32) :=
  ⟨T0, .mp, (blankFmtI), _,
   by decide +kernel,
   rfl,
   by decide +kernel⟩

theorem w_RegisterInstructionsComplete_movl : ∃ (s : State) (u : Cpu) (f : FmtU) (c : Core),
  (s.dev.executes u f.cond = true) ∧
  (c = s.dev.core u) :=
  ⟨T0, .mp, (blankFmtU), _,
   by decide +kernel,
   rfl⟩

theorem w_RegisterInstructionsComplete_movh : ∃ (s : State) (u : Cpu) (f : FmtU) (c : Core),
  (s.dev.executes u f.cond = true) ∧
  (c = s.dev.core u) :=
  ⟨T0, .mp, (blankFmtU), _,
   by decide +kernel,
   rfl⟩

theorem w_RegisterInstructionsComplete_mfs : ∃ (s : State) (u : Cpu) (f : FmtR) (c : Core) (v : Word),
  (s.dev.executes u f.cond = true) ∧
  (c = s.dev.core u) ∧
  (f.ra = 0) ∧
  (f.rb = 0) ∧
  (f.s = false) ∧
  (c.special u.isMp s.dev.tb f.func.toNat = some v) :=
  by refine ⟨T0, .mp, (blankFmtR), _, _,
   ?_, rfl, ?_, ?_, ?_, (Option.some_get (by decide +kernel)).symm⟩ <;> decide +kernel

theorem w_RegisterInstructionsComplete_mts : ∃ (s : State) (u : Cpu) (f : FmtR) (c : Core) (g : Core),
  (s.dev.executes u f.cond = true) ∧
  (c = s.dev.core u) ∧
  (f.rd = 0) ∧
  (f.rb = 0) ∧
  (f.s = false) ∧
  (c.setSpecial f.func.toNat (c.reg f.ra) = some g) :=
  by refine ⟨T0, .mp, (blankFmtR), _, _,
   ?_, rfl, ?_, ?_, ?_, (Option.some_get (by decide +kernel)).symm⟩ <;> decide +kernel

theorem w_MemoryInstructionsComplete_ldw : ∃ (s : State) (u : Cpu) (f : FmtM) (c : Core) (a : Nat) (e : Dev) (v : Word),
  (s.dev.executes u f.cond = true) ∧
  (c = s.dev.core u) ∧
  (a = (c.reg f.ra + f.ext).toNat) ∧
  (a % 4 = 0) ∧
  (s.dev.load u a 4 = (e, Ans.ok [v])) :=
  ⟨dv (fun d => d.onMp (fun c => { c with globals := [(1, 0x10000000)] })), .mp, { blankFmtM with ra := 1 }, _, _, _, 0,
   by decide +kernel,
   rfl,
   rfl,
   by decide +kernel,
   (Prod.ext (rfl) (by decide +kernel))⟩

theorem w_MemoryInstructionsComplete_ldh : ∃ (s : State) (u : Cpu) (f : FmtM) (c : Core) (a : Nat) (e : Dev) (v : Word),
  (s.dev.executes u f.cond = true) ∧
  (c = s.dev.core u) ∧
  (a = (c.reg f.ra + f.ext).toNat) ∧
  (a % 2 = 0) ∧
  (s.dev.load u a 2 = (e, Ans.ok [v])) :=
  ⟨dv (fun d => d.onMp (fun c => { c with globals := [(1, 0x10000000)] })), .mp, { blankFmtM with ra := 1 }, _, _, _, 0,
   by decide +kernel,
   rfl,
   rfl,
   by decide +kernel,
   (Prod.ext (rfl) (by decide +kernel))⟩

theorem w_MemoryInstructionsComplete_ldhu : ∃ (s : State) (u : Cpu) (f : FmtM) (c : Core) (a : Nat) (e : Dev) (v : Word),
  (s.dev.executes u f.cond = true) ∧
  (c = s.dev.core u) ∧
  (a = (c.reg f.ra + f.ext).toNat) ∧
  (a % 2 = 0) ∧
  (s.dev.load u a 2 = (e, Ans.ok [v])) :=
  ⟨dv (fun d => d.onMp (fun c => { c with globals := [(1, 0x10000000)] })), .mp, { blankFmtM with ra := 1 }, _, _, _, 0,
   by decide +kernel,
   rfl,
   rfl,
   by decide +kernel,
   (Prod.ext (rfl) (by decide +kernel))⟩

theorem w_MemoryInstructionsComplete_ldb : ∃ (s : State) (u : Cpu) (f : FmtM) (c : Core) (a : Nat) (e : Dev) (v : Word),
  (s.dev.executes u f.cond = true) ∧
  (c = s.dev.core u) ∧
  (a = (c.reg f.ra + f.ext).toNat) ∧
  (s.dev.load u a 1 = (e, Ans.ok [v])) :=
  ⟨dv (fun d => d.onMp (fun c => { c with globals := [(1, 0x10000000)] })), .mp, { blankFmtM with ra := 1 }, _, _, _, 0,
   by decide +kernel,
   rfl,
   rfl,
   (Prod.ext (rfl) (by decide +kernel))⟩

theorem w_MemoryInstructionsComplete_ldbu : ∃ (s : State) (u : Cpu) (f : FmtM) (c : Core) (a : Nat) (e : Dev) (v : Word),
  (s.dev.executes u f.cond = true) ∧
  (c = s.dev.core u) ∧
  (a = (c.reg f.ra + f.ext).toNat) ∧
  (s.dev.load u a 1 = (e, Ans.ok [v])) :=
  ⟨dv (fun d => d.onMp (fun c => { c with globals := [(1, 0x10000000)] })), .mp, { blankFmtM with ra := 1 }, _, _, _, 0,
   by decide +kernel,
   rfl,
   rfl,
   (Prod.ext (rfl) (by decide +kernel))⟩

theorem w_MemoryInstructionsComplete_stw : ∃ (s : State) (u : Cpu) (f : FmtM) (c : Core) (a : Nat) (e : Dev) (ws : List Word),
  (s.dev.executes u f.cond = true) ∧
  (c = s.dev.core u) ∧
  (a = (c.reg f.ra + f.ext).toNat) ∧
  (a % 4 = 0) ∧
  (s.dev.store u a 4 (c.reg f.rd) = (e, Ans.ok ws)) :=
  ⟨dv (fun d => d.onMp (fun c => { c with globals := [(1, 0x10000000)] })), .mp, { blankFmtM with ra := 1 }, _, _, _, [],
   by decide +kernel,
   rfl,
   rfl,
   by decide +kernel,
   (Prod.ext (rfl) (by decide +kernel))⟩

theorem w_MemoryInstructionsComplete_sth : ∃ (s : State) (u : Cpu) (f : FmtM) (c : Core) (a : Nat) (e : Dev) (ws : List Word),
  (s.dev.executes u f.cond = true) ∧
  (c = s.dev.core u) ∧
  (a = (c.reg f.ra + f.ext).toNat) ∧
  (a % 2 = 0) ∧
  (s.dev.store u a 2 (c.reg f.rd) = (e, Ans.ok ws)) :=
  ⟨dv (fun d => d.onMp (fun c => { c with globals := [(1, 0x10000000)] })), .mp, { blankFmtM with ra := 1 }, _, _, _, [],
   by decide +kernel,
   rfl,
   rfl,
   by decide +kernel,
   (Prod.ext (rfl) (by decide +kernel))⟩

theorem w_MemoryInstructionsComplete_stb : ∃ (s : State) (u : Cpu) (f : FmtM) (c : Core) (a : Nat) (e : Dev) (ws : List Word),
  (s.dev.executes u f.cond = true) ∧
  (c = s.dev.core u) ∧
  (a = (c.reg f.ra + f.ext).toNat) ∧
  (s.dev.store u a 1 (c.reg f.rd) = (e, Ans.ok ws)) :=
  ⟨dv (fun d => d.onMp (fun c => { c with globals := [(1, 0x10000000)] })), .mp, { blankFmtM with ra := 1 }, _, _, _, [],
   by decide +kernel,
   rfl,
   rfl,
   (Prod.ext (rfl) (by decide +kernel))⟩

theorem w_MemoryInstructionsComplete_atom : ∃ (s : State) (u : Cpu) (f : FmtR) (c : Core) (a : Nat) (old : Word) (new : Word) (e : Dev),
  (s.dev.executes u f.cond = true) ∧
  (c = s.dev.core u) ∧
  (f.func.toNat ≤ 3) ∧
  (f.s = false) ∧
  (a = (c.reg f.ra).toNat) ∧
  (a % 4 = 0) ∧
  (atomic u a = true) ∧
  (old = word (s.dev.load u a 4).2.words 0) ∧
  (new = (if f.func = 0 then c.reg f.rb else if f.func = 1 then old + c.reg f.rb else if f.func = 2 then old &&& c.reg f.rb else old ||| c.reg f.rb)) ∧
  (e = (s.dev.store u a 4 new).1) :=
  by refine ⟨dv (fun d => d.onMp (fun c => { c with globals := [(1, 0x10000000)] })), .mp, { blankFmtR with ra := 1 }, _, _, _, _, _,
   ?_, rfl, ?_, ?_, rfl, ?_, ?_, rfl, rfl, rfl⟩ <;> decide +kernel

theorem w_MemoryInstructionsComplete_fence : ∃ (s : State) (u : Cpu) (f : FmtR) (c : Core),
  (s.dev.executes u f.cond = true) ∧
  (c = s.dev.core u) ∧
  (f.bare = true) :=
  ⟨T0, .mp, (blankFmtR), _,
   by decide +kernel,
   rfl,
   by decide +kernel⟩

theorem w_ControlInstructionsComplete_br : ∃ (s : State) (u : Cpu) (f : FmtB) (c : Core),
  (s.dev.executes u f.cond = true) ∧
  (c = s.dev.core u) ∧
  (c.slot = none) :=
  ⟨T0, .mp, (blankFmtB), _,
   by decide +kernel,
   rfl,
   by decide +kernel⟩

theorem w_ControlInstructionsComplete_call : ∃ (s : State) (u : Cpu) (f : FmtB) (c : Core),
  (s.dev.executes u f.cond = true) ∧
  (c = s.dev.core u) ∧
  (c.slot = none) ∧
  (¬ (c.res = 11 ∧ c.spillMax ≤ c.spilled)) ∧
  ((wd c.pc + f.dist).toNat % 4 = 0) :=
  ⟨T0, .mp, (blankFmtB), _,
   by decide +kernel,
   rfl,
   by decide +kernel⟩

theorem w_ControlInstructionsComplete_jmp : ∃ (s : State) (u : Cpu) (f : FmtR) (c : Core),
  (s.dev.executes u f.cond = true) ∧
  (c = s.dev.core u) ∧
  (c.slot = none) ∧
  (f.rd = 0) ∧
  (f.rb = 0) ∧
  (f.s = false) ∧
  (f.func = 0) ∧
  ((c.reg f.ra).toNat % 4 = 0) :=
  ⟨T0, .mp, (blankFmtR), _,
   by decide +kernel,
   rfl,
   by decide +kernel⟩

theorem w_ControlInstructionsComplete_callr : ∃ (s : State) (u : Cpu) (f : FmtR) (c : Core),
  (s.dev.executes u f.cond = true) ∧
  (c = s.dev.core u) ∧
  (c.slot = none) ∧
  (f.rd = 0) ∧
  (f.rb = 0) ∧
  (f.s = false) ∧
  (f.func = 0) ∧
  (¬ (c.res = 11 ∧ c.spillMax ≤ c.spilled)) ∧
  ((c.reg f.ra).toNat % 4 = 0) :=
  ⟨T0, .mp, (blankFmtR), _,
   by decide +kernel,
   rfl,
   by decide +kernel⟩

theorem w_ControlInstructionsComplete_ret : ∃ (s : State) (u : Cpu) (f : FmtR) (c : Core),
  (s.dev.executes u f.cond = true) ∧
  (c = s.dev.core u) ∧
  (c.slot = none) ∧
  (f.bare = true) ∧
  (¬ (c.res = 1 ∧ c.spilled = 0)) ∧
  (c.lk.toNat % 4 = 0) :=
  ⟨dv (fun d => d.onMp (fun c => { c with res := 2 })), .mp, (blankFmtR), _,
   by decide +kernel,
   rfl,
   by decide +kernel⟩

theorem w_ControlInstructionsComplete_rete : ∃ (s : State) (u : Cpu) (f : FmtR) (c : Core),
  (s.dev.executes u f.cond = true) ∧
  (c = s.dev.core u) ∧
  (c.slot = none) ∧
  (f.bare = true) ∧
  (c.epc.toNat % 4 = 0) :=
  ⟨T0, .mp, (blankFmtR), _,
   by decide +kernel,
   rfl,
   by decide +kernel⟩

theorem w_ControlInstructionsComplete_trap : ∃ (s : State) (u : Cpu) (f : FmtI) (c : Core),
  (s.dev.executes u f.cond = true) ∧
  (c = s.dev.core u) ∧
  (c.slot = none) ∧
  (f.rd = 0) ∧
  (f.ra = 0) ∧
  (f.s = false) ∧
  (f.imm.toNat < 256) :=
  ⟨T0, .mp, (blankFmtI), _,
   by decide +kernel,
   rfl,
   by decide +kernel⟩

theorem w_EventInstructionsComplete_wfeSet : ∃ (s : State) (u : Cpu) (f : FmtR) (c : Core),
  (s.dev.executes u f.cond = true) ∧
  (c = s.dev.core u) ∧
  (f.bare = true) ∧
  (c.slot = none) ∧
  (c.evt = true) :=
  ⟨dv (fun d => d.onMp (fun c => { c with evt := true })), .mp, (blankFmtR), _,
   by decide +kernel,
   rfl,
   by decide +kernel⟩

theorem w_EventInstructionsComplete_wfeWait : ∃ (s : State) (u : Cpu) (f : FmtR) (c : Core),
  (s.dev.executes u f.cond = true) ∧
  (c = s.dev.core u) ∧
  (f.bare = true) ∧
  (c.slot = none) ∧
  (c.evt = false) ∧
  (u.isMp = false ∨ s.dev.fld A.PMU.MODE 2 0 = 0) :=
  ⟨T0, .mp, (blankFmtR), _,
   by decide +kernel,
   rfl,
   by decide +kernel⟩

theorem w_EventInstructionsComplete_wfeMode : ∃ (s : State) (f : FmtR) (c : Core) (e : Dev),
  (s.dev.executes (.mp) f.cond = true) ∧
  (c = s.dev.core (.mp)) ∧
  (f.bare = true) ∧
  (c.slot = none) ∧
  (c.evt = false) ∧
  (s.dev.fld A.PMU.MODE 2 0 ≠ 0) ∧
  (e = s.dev.tryEnter (stateOfMode (s.dev.fld A.PMU.MODE 2 0))) :=
  by refine ⟨dv (fun d => d.wr A.PMU.MODE 1), (blankFmtR), _, _,
   ?_, rfl, ?_, ?_, ?_, ?_, rfl⟩ <;> decide +kernel

theorem w_EventInstructionsComplete_wfeWake : ∃ (s : State) (u : Cpu),
  ((s.dev.core u).wait = .wfe) ∧
  ((s.dev.core u).evt = true) ∧
  (u.isMp = false ∨ s.dev.pmu.state = .run ∧ s.dev.pmu.entering = none) :=
  ⟨dv (fun d => d.onMp (fun c => { c with wait := .wfe, evt := true })), .mp,
   by decide +kernel⟩

theorem w_EventInstructionsComplete_sevMp : ∃ (s : State) (f : FmtR) (c : Core),
  (s.dev.executes (.mp) f.cond = true) ∧
  (c = s.dev.core (.mp)) ∧
  (f.bare = true) :=
  ⟨T0, (blankFmtR), _,
   by decide +kernel,
   rfl,
   by decide +kernel⟩

theorem w_EventInstructionsComplete_sevQuill : ∃ (s : State) (f : FmtR) (c : Core) (k : Fin 16),
  (s.dev.executes (.quill k) f.cond = true) ∧
  (c = s.dev.core (.quill k)) ∧
  (f.bare = true) :=
  ⟨dv (fun d => d.setCore (.quill 0) { Core.reset false with wait := .none, pc := 0 }), (blankFmtR), _, 0,
   by decide +kernel,
   rfl,
   by decide +kernel⟩

theorem w_EventInstructionsComplete_waituPast : ∃ (s : State) (u : Cpu) (f : FmtR) (c : Core),
  (s.dev.executes u f.cond = true) ∧
  (c = s.dev.core u) ∧
  (f.rd = 0) ∧
  (f.rb = 0) ∧
  (f.s = false) ∧
  (f.func = 0) ∧
  (s.dev.ahead (c.reg f.ra) = 0) :=
  ⟨T0, .mp, (blankFmtR), _,
   by decide +kernel,
   rfl,
   by decide +kernel⟩

theorem w_EventInstructionsComplete_waitu : ∃ (s : State) (u : Cpu) (f : FmtR) (c : Core),
  (s.dev.executes u f.cond = true) ∧
  (c = s.dev.core u) ∧
  (f.rd = 0) ∧
  (f.rb = 0) ∧
  (f.s = false) ∧
  (f.func = 0) ∧
  (s.dev.ahead (c.reg f.ra) ≠ 0) :=
  ⟨dv (fun d => d.onMp (fun c => { c with globals := [(1, 1000)] })), .mp, { blankFmtR with ra := 1 }, _,
   by decide +kernel,
   rfl,
   by decide +kernel⟩

theorem w_EventInstructionsComplete_waituResume : ∃ (s : State) (u : Cpu) (due : Word) (e : Dev),
  ((s.dev.core u).wait = .waitu due) ∧
  (e = s.dev.at_ (s.dev.tb + s.dev.ahead due)) :=
  ⟨dv (fun d => d.onMp (fun c => { c with wait := .waitu 1000 })), .mp, 1000, _,
   by decide +kernel,
   rfl⟩

theorem w_EventInstructionsComplete_take : ∃ (s : State) (f : FmtR) (c : Core) (k : Fin 16),
  (s.dev.executes (.quill k) f.cond = true) ∧
  (c = s.dev.core (.quill k)) ∧
  (f.ra = 0) ∧
  (f.rb = 0) ∧
  (f.s = false) ∧
  (f.func = 0) ∧
  (c.held = none) :=
  ⟨dv (fun d => d.setCore (.quill 0) { Core.reset false with wait := .none, pc := 0 }), (blankFmtR), _, 0,
   by decide +kernel,
   rfl,
   by decide +kernel⟩

theorem w_EventInstructionsComplete_done : ∃ (s : State) (f : FmtR) (c : Core) (k : Fin 16),
  (s.dev.executes (.quill k) f.cond = true) ∧
  (c = s.dev.core (.quill k)) ∧
  (f.s = false) ∧
  (c.held.isSome = true) :=
  ⟨dv (fun d => d.setCore (.quill 0) { Core.reset false with wait := .none, held := some 0 }), (blankFmtR), _, 0,
   by decide +kernel,
   rfl,
   by decide +kernel⟩

theorem w_QueueCommandsComplete_queueSet : ∃ (σ : State) (rq : Rq) (ws : List Word),
  (σ.dev.serves .tmg = true) ∧
  let d := σ.dev.asked .tmg
  let w := word ws 0
  let q := bitsOf w 13 0
  (σ.dev.takes rq OP.COMMAND ws.length 0 = true) ∧
  (¬ (ws.length ≠ 2)) ∧
  ((d.qAbsent q) = false) ∧
  (((qKind q).isNone || extra w 0x7F3FFF || extra (word ws 1) 0xFFF) = false) :=
  ⟨T0, mpRq, [0, 0],
   by decide +kernel,
   by decide +kernel⟩

theorem w_QueueCommandsComplete_profileSet : ∃ (σ : State) (rq : Rq) (ws : List Word),
  (σ.dev.serves .tmg = true) ∧
  let p : Profile := { quantum := bitsOf (word ws 0) 31 16, qlim := bitsOf (word ws 1) 15 0, ylim := bitsOf (word ws 1) 31 16,
                         rlim := bitsOf (word ws 2) 15 0, spill := bitsOf (word ws 2) 31 16, ageMs := bitsOf (word ws 3) 15 0 }
  (σ.dev.takes rq OP.COMMAND ws.length 0 = true) ∧
  (¬ (ws.length ≠ 4)) ∧
  ((extra (word ws 0) 0xFFFF003F || extra (word ws 3) 0xFFFF || outside p.quantum 64 65536
             || outside p.qlim 1 65534 || decide (p.qlim < p.ylim) || decide (p.ylim < p.rlim)) = false) :=
  ⟨T0, mpRq, [0x00400000, 0x00010001, 1, 0],
   by decide +kernel,
   by decide +kernel⟩

theorem w_QueueCommandsComplete_pacerSet : ∃ (σ : State) (rq : Rq) (ws : List Word),
  (σ.dev.serves .tmg = true) ∧
  let d := σ.dev.asked .tmg
  let w := word ws 0
  let k := bitsOf w 11 0
  let c : PacerCfg := { enable := bitOf w 12, parentEn := bitOf w 13, parent := bitsOf w 27 16,
                          periodUs := bitsOf (word ws 1) 9 0, inc := bitsOf (word ws 2) 23 0, burst := bitsOf (word ws 3) 23 0 }
  let named := d.tmg.pacers.any (fun e => decide (e.1 ≠ k) && e.2.last.parentEn && decide (e.2.last.parent = k))
  (σ.dev.takes rq OP.COMMAND ws.length 0 = true) ∧
  (¬ (ws.length ≠ 4)) ∧
  ((extra w 0x0FFF3FFF || extra (word ws 1) 0x3FF || extra (word ws 2) 0xFFFFFF || extra (word ws 3) 0xFFFFFF
             || outside c.periodUs 1 1000 || outside c.inc 1 16777215 || outside c.burst 64 16777215
             || (c.parentEn && (decide (c.parent = k) || (d.pacer c.parent).last.parentEn || named))) = false) :=
  ⟨T0, mpRq, [0, 1, 1, 64],
   by decide +kernel,
   by decide +kernel⟩

theorem w_QueueCommandsComplete_meterSet : ∃ (σ : State) (rq : Rq) (ws : List Word),
  (σ.dev.serves .tmg = true) ∧
  let w := word ws 0
  let mode := bitsOf w 13 12
  let cir := (word ws 1).toNat
  let pir := (word ws 2).toNat
  let cbs := (word ws 3).toNat
  let ebs := (word ws 4).toNat
  let bad := decide (mode ≠ 0) && (outside cir 8 100000000 || outside cbs 64 16777215
      || (if mode = 2 then outside pir cir 100000000 || outside ebs cbs 16777215
          else decide (pir ≠ 0) || decide (16777215 < ebs)))
  (σ.dev.takes rq OP.COMMAND ws.length 0 = true) ∧
  (¬ (ws.length ≠ 5)) ∧
  ((extra w 0x77FFF || decide (mode = 3) || bad) = false) :=
  ⟨T0, mpRq, [0, 0, 0, 0, 0],
   by decide +kernel,
   by decide +kernel⟩

theorem w_QueueCommandsComplete_meterStat : ∃ (σ : State) (rq : Rq) (ws : List Word),
  (σ.dev.serves .tmg = true) ∧
  let d := σ.dev.asked .tmg
  let m := d.meter (bitsOf (word ws 0) 11 0)
  let two (n : Nat) : List Word := [wd n, wd (n / 2 ^ 32)]
  (σ.dev.takes rq OP.COMMAND ws.length 12 = true) ∧
  (¬ (ws.length ≠ 1)) ∧
  ((extra (word ws 0) 0xFFF) = false) :=
  ⟨T0, mpRq, [0xFFF],
   by decide +kernel,
   by decide +kernel⟩

theorem w_QueueCommandsComplete_queueStat : ∃ (σ : State) (rq : Rq) (ws : List Word),
  (σ.dev.serves .tmg = true) ∧
  let d := σ.dev.asked .tmg
  let q := (word ws 0).toNat
  let x := d.queue q
  (σ.dev.takes rq OP.COMMAND ws.length 5 = true) ∧
  (¬ (ws.length ≠ 1)) ∧
  ((d.qAbsent q) = false) ∧
  (((qKind q).isNone) = false) :=
  ⟨T0, mpRq, [8343],
   by decide +kernel,
   by decide +kernel⟩

theorem w_QueueCommandsComplete_queueFlush : ∃ (σ : State) (rq : Rq) (ws : List Word),
  (σ.dev.serves .tmg = true) ∧
  let d := σ.dev.asked .tmg
  let q := (word ws 0).toNat
  (σ.dev.takes rq OP.COMMAND ws.length 0 = true) ∧
  (¬ (ws.length ≠ 1)) ∧
  ((d.qAbsent q) = false) ∧
  (((qKind q).isNone) = false) :=
  ⟨T0, mpRq, [8343],
   by decide +kernel,
   by decide +kernel⟩

theorem w_QueueCommandsComplete_pacerRefill : ∃ (s : State) (k : Nat) (p : Pacer) (c : PacerCfg) (e : Dev),
  (tabFind s.dev.tmg.pacers k = some p) ∧
  (p.cfg.enable = true) ∧
  (s.dev.tb ≤ p.refillAt ∧ p.refillAt < 2 ^ 64) ∧
  (c = p.last) ∧
  (e = (s.dev.at_ p.refillAt).setPacer k { cfg := c, next := none, credit := min (p.credit + c.inc) (16 * c.burst), refillAt := p.refillAt + usT c.periodUs }) :=
  ⟨dv (fun d => d.setPacer 0 { Pacer.reset with cfg := { Pacer.reset.cfg with enable := true } }), 0, _, _, _,
   (Option.some_get (by decide +kernel)).symm,
   by decide +kernel,
   by decide +kernel,
   rfl,
   rfl⟩

theorem w_QueueCommandsComplete_ageCheck : ∃ (s : State) (q : Nat),
  ((qKind q).isSome = true) ∧
  (s.dev.qAbsent q = false) :=
  ⟨T0, 0,
   by decide +kernel⟩

theorem w_QueueCommandsComplete_spillWriteDone : ∃ (s : State) (q : Nat) (e : Entry) (d1 : Dev),
  (s.dev.mem.ddr = .serving) ∧
  ((s.dev.queue q).entries.find? Entry.writing = some e) ∧
  (d1 = s.dev.setQueue q { s.dev.queue q with entries := onFirst Entry.writing (fun e => { e with inInk := false, writing := false }) (s.dev.queue q).entries }) :=
  ⟨dv (fun d => (d.dramUp).setQueue 8256 { Queue.reset with entries := [{ blankEntry with inInk := true, writing := true }] }), 8256, _, _,
   by decide +kernel,
   (Option.some_get (by decide +kernel)).symm,
   rfl⟩

theorem w_QueueCommandsComplete_refillDone : ∃ (s : State) (q : Nat) (x : Queue) (e : Entry) (sh : Nat) (d0 : Dev) (d1 : Dev),
  (x = s.dev.queue q) ∧
  (x.entries.find? Entry.inDram = some e) ∧
  (s.dev.mem.ddr = .serving) ∧
  (e.writing = false) ∧
  (depthOf (x.entries.takeWhile (fun e => !e.inDram)) < 1024 * (s.dev.profile x.profile).spill) ∧
  (s.dev.rangePoisoned e.dram (256 * cellsOf e.len) = false) ∧
  (sh = s.dev.destShare q e.share) ∧
  (s.dev.inkRoom sh e.cells = true) ∧
  (d0 = s.dev.setQueue q { x with entries := onFirst Entry.inDram (fun f => { f with inInk := true, share := sh, ingress := if sh = f.share then f.ingress else none }) x.entries }) ∧
  (d1 = d0.cellsTake sh e.cells (if sh = e.share then e.ingress else none)) :=
  by refine ⟨dv (fun d => (d.dramUp).setQueue 8256 { Queue.reset with entries := [blankEntry] }), 8256, _, _, _, _, _,
   rfl, (Option.some_get (by decide +kernel)).symm, ?_, ?_, ?_, ?_, rfl, ?_, rfl, rfl⟩ <;> decide +kernel

theorem w_QueueCommandsComplete_refillPoisoned : ∃ (s : State) (q : Nat) (x : Queue) (e : Entry),
  (x = s.dev.queue q) ∧
  (x.entries.find? Entry.inDram = some e) ∧
  (s.dev.mem.ddr = .serving) ∧
  (e.writing = false) ∧
  (depthOf (x.entries.takeWhile (fun e => !e.inDram)) < 1024 * (s.dev.profile x.profile).spill) ∧
  (s.dev.rangePoisoned e.dram (256 * cellsOf e.len) = true) :=
  ⟨dv (fun d => (d.dramUp.setPoison 0 true).setQueue 8256 { Queue.reset with entries := [{ blankEntry with len := 64 }] }), 8256, _, _,
   rfl,
   (Option.some_get (by decide +kernel)).symm,
   by decide +kernel⟩

theorem w_QueueCommandsComplete_spillCfg : ∃ (s : State) (rq : Rq) (k : Nat) (v : Word),
  (k < 3) ∧
  (s.dev.accepts rq (A.TMG.SPILL_BASE_LO + 4 * k) (v) .tmg = true) :=
  ⟨dv (fun d => d.setBlk .tmg { d.blk .tmg with enable := false }), mpRq, 0, 0,
   by decide +kernel⟩

theorem w_QueueCommandsComplete_txStart : ∃ (s : State) (n : Nat) (ce : Bool) (ue : Bool) (p : EthPort) (d1 : Dev) (c : Nat) (e : Entry),
  (p = s.dev.ethPort n) ∧
  (p.link = true) ∧
  (p.noStart = false) ∧
  (p.lpiTx = false) ∧
  (p.tx = none) ∧
  (s.dev.ethPick n p.suspended.isSome = (d1, some (c, e))) :=
  by refine ⟨dv (fun d => (d.setQueue 8256 { Queue.reset with entries := [{ blankEntry with inInk := true, len := 64, cells := 1 }] }).onEth 0 (fun p => { p with link := true, rate := 4, turn := 0 })), 0, false, false, _, _, _, _,
   rfl, ?_, ?_, ?_, ?_, (Prod.ext (rfl) ((Option.some_get (by decide +kernel)).symm))⟩ <;> decide +kernel

theorem w_QueueCommandsComplete_txResume : ∃ (s : State) (n : Nat) (ce : Bool) (ue : Bool) (p : EthPort) (d1 : Dev),
  (p = s.dev.ethPort n) ∧
  (p.link = true) ∧
  (p.noStart = false) ∧
  (p.lpiTx = false) ∧
  (p.tx = none) ∧
  (s.dev.ethPick n p.suspended.isSome = (d1, none)) :=
  by refine ⟨dv (fun d => (d).onEth 0 (fun p => { p with link := true, rate := 4, turn := 0 })), 0, false, false, _, _,
   rfl, ?_, ?_, ?_, ?_, rfl⟩ <;> decide +kernel

theorem w_QueueCommandsComplete_txPreempt : ∃ (s : State) (n : Nat) (ce : Bool) (ue : Bool) (p : EthPort) (x : EthTx) (d1 : Dev) (c : Nat) (e : Entry) (b : Nat),
  (p = s.dev.ethPort n) ∧
  (p.link = true) ∧
  (p.noStart = false) ∧
  (p.lpiTx = false) ∧
  (p.tx = some x) ∧
  (x.express = false) ∧
  (p.ctl = []) ∧
  (s.dev.preempts n = true) ∧
  (s.dev.ethPick n true = (d1, some (c, e))) ∧
  (s.dev.cutAt n x = some b) :=
  by refine ⟨dv (fun d => (d.setQueue 8256 { Queue.reset with entries := [{ blankEntry with inInk := true, len := 64, cells := 1 }] } |>.wr (A.ETH.PREEMPT_CFG 0) 0xFF03).onEth 0 (fun p => { p with link := true, rate := 4, turn := 0, tx := some { blankEthTx with left := 1000 } })), 0, false, false, _, { blankEthTx with left := 1000 }, _, _, _, _,
   rfl, ?_, ?_, ?_, ?_, ?_, ?_, ?_, (Prod.ext (rfl) ((Option.some_get (by decide +kernel)).symm)), (Option.some_get (by decide +kernel)).symm⟩ <;> decide +kernel

theorem w_QueueCommandsComplete_txControl : ∃ (s : State) (n : Nat) (ce : Bool) (ue : Bool) (p : EthPort) (x : EthTx) (b : Nat),
  (p = s.dev.ethPort n) ∧
  (p.link = true) ∧
  (p.noStart = false) ∧
  (p.lpiTx = false) ∧
  (p.tx = some x) ∧
  (x.express = false) ∧
  (p.ctl.isEmpty = false) ∧
  (s.dev.preempts n = true) ∧
  (s.dev.cutAt n x = some b) :=
  by refine ⟨dv (fun d => (d.wr (A.ETH.PREEMPT_CFG 0) 0xFF03).onEth 0 (fun p => { p with link := true, rate := 4, turn := 0, tx := some { blankEthTx with left := 1000 }, ctl := [.verify] })), 0, false, false, _, { blankEthTx with left := 1000 }, _,
   rfl, ?_, ?_, ?_, ?_, ?_, ?_, ?_, (Option.some_get (by decide +kernel)).symm⟩ <;> decide +kernel

theorem w_QueueCommandsComplete_txLpi : ∃ (s : State) (n : Nat) (ce : Bool) (ue : Bool) (p : EthPort),
  (p = s.dev.ethPort n) ∧
  (p.link = true) ∧
  (p.noStart = false) ∧
  (p.lpiTx = true) ∧
  (((List.range 8).any (fun c => (s.dev.ethEligible n c).isSome)) = true) :=
  ⟨dv (fun d => (d.setQueue 8256 { Queue.reset with entries := [{ blankEntry with inInk := true, len := 64, cells := 1 }] }).onEth 0 (fun p => { p with link := true, rate := 4, lpiTx := true })), 0, false, false, _,
   rfl,
   by decide +kernel⟩

theorem w_QueueCommandsComplete_txEnd : ∃ (s : State) (n : Nat) (x : EthTx) (d1 : Dev) (d2 : Dev),
  ((s.dev.ethPort n).tx = some x) ∧
  (d1 = (s.dev.at_ x.stop).onEth n (fun p => { p with tx := none, idleAt := max s.dev.tb x.stop })) ∧
  (d2 = (d1.emit (.eth n (.frame x.entry x.express))).count (A.ETH.TX_OK_CNT n)) :=
  ⟨dv (fun d => (d).onEth 0 (fun p => { p with link := true, rate := 4, tx := some blankEthTx })), 0, _, _, _,
   (Option.some_get (by decide +kernel)).symm,
   rfl,
   rfl⟩

theorem w_FramePathComplete_admitAcp : ∃ (s : State) (f : InFrame) (g : InFrame) (d : Dev),
  (s.dev.ready .pke = true) ∧
  (s.dev.pke.jobs.length < 1024) ∧
  (s.dev.arbiter = some (f, d)) ∧
  (g = { f with hdr := d.parse f.hdr }) ∧
  (d.isAcp g = true) :=
  ⟨dv (fun d => ((d.wr A.HCI.ACP_CFG 0xFFFFFFFF)).onPke (fun p => { p with waiting := [(0, [{ blankInFrame with hdr := { blankHdr with etype := T0.dev.fld A.HCI.ACP_ADDR 15 0, dst := 7 } }])], locals := [(0, { kind := 0, addr := 7 })] })), _, _, _,
   by decide +kernel,
   by decide +kernel,
   (Option.some_get (by decide +kernel)).symm,
   rfl,
   by decide +kernel⟩

theorem w_FramePathComplete_admitHeld : ∃ (s : State) (f : InFrame) (g : InFrame) (d : Dev) (t : Nat) (x : Hold),
  (s.dev.ready .pke = true) ∧
  (s.dev.pke.jobs.length < 1024) ∧
  (s.dev.arbiter = some (f, d)) ∧
  (g = { f with hdr := d.parse f.hdr }) ∧
  (d.isAcp g = false) ∧
  (d.holdOf (domainOf g.hdr (d.vlanOf g)) = some (t, x)) :=
  ⟨dv (fun d => (d).onPke (fun p => { p with waiting := [(10, [blankInFrame])], holds := [(0, { blankHold with domain := domainOf blankHdr 1 })] })), _, _, _, 0, { blankHold with domain := domainOf blankHdr 1 },
   by decide +kernel,
   by decide +kernel,
   (Option.some_get (by decide +kernel)).symm,
   rfl,
   by decide +kernel,
   (List.find?_cons_of_pos (decide_eq_true (congr (congrArg domainOf (by decide +kernel)) (by decide +kernel))))⟩

theorem w_FramePathComplete_admit : ∃ (s : State) (f : InFrame) (g : InFrame) (d : Dev) (d2 : Dev) (v : Nat) (dom : Nat) (j : PkeJob),
  (s.dev.ready .pke = true) ∧
  (s.dev.pke.jobs.length < 1024) ∧
  (s.dev.arbiter = some (f, d)) ∧
  (g = { f with hdr := d.parse f.hdr }) ∧
  (d.isAcp g = false) ∧
  (v = d.vlanOf g) ∧
  (dom = domainOf g.hdr v) ∧
  (d.holdOf dom = none) ∧
  (j = { frame := f, domain := dom, vlan := v, decided := false, waits := none, dests := [], token := none, stuck := false, passed := false, view := g.hdr, due := s.dev.tb + 100 }) ∧
  (d2 = d.onPke (fun p => { p with jobs := p.jobs ++ [j] })) :=
  by refine ⟨dv (fun d => (d).onPke (fun p => { p with waiting := [(10, [blankInFrame])] })), _, _, _, _, _, _, _,
   ?_, ?_, (Option.some_get (by decide +kernel)).symm, rfl, ?_, rfl, rfl, ?_, rfl, rfl⟩ <;> decide +kernel

theorem w_FramePathComplete_bucket : ∃ (s : State) (id : Nat) (j : PkeJob) (k : FlowKey) (d1 : Dev),
  (s.dev.pke.jobs.find? (fun j => decide (j.frame.id = id)) = some j) ∧
  (j.waits = some k) ∧
  (s.dev.mem.ddr = .serving) ∧
  (d1 = s.dev.bucketRead k.bucket) :=
  ⟨dv (fun d => (d.dramUp).onPke (fun p => { p with jobs := [{ blankPkeJob with waits := some blankFlowKey }] })), 0, _, _, _,
   (Option.some_get (by decide +kernel)).symm,
   (Option.some_get (by decide +kernel)).symm,
   by decide +kernel,
   rfl⟩

theorem w_FramePathComplete_release : ∃ (s : State) (id : Nat) (j : PkeJob) (d1 : Dev) (first : Bool) (d2 : Dev),
  (s.dev.pke.jobs.find? (fun j => decide (j.frame.id = id)) = some j) ∧
  (((s.dev.pke.jobs.takeWhile (fun x => decide (x.frame.id ≠ id))).any (fun x => decide (x.domain = j.domain))) = false) ∧
  (j.decided = true) ∧
  (s.dev.ready .tmg = true) ∧
  ((s.dev.at_ j.due).handOff j (!j.passed) j.dests = (d1, [], first)) ∧
  (d2 = d1.onPke (fun p => { p with jobs := p.jobs.filter (fun x => decide (x.frame.id ≠ id)) })) :=
  ⟨dv (fun d => (d).onPke (fun p => { p with jobs := [{ blankPkeJob with decided := true }] })), 0, _, _, _, _,
   (Option.some_get (by decide +kernel)).symm,
   by decide +kernel,
   by decide +kernel,
   by decide +kernel,
   (Prod.ext (rfl) (Prod.ext (by decide +kernel) (rfl))),
   rfl⟩

theorem w_FramePathComplete_releaseStuck : ∃ (s : State) (id : Nat) (j : PkeJob) (d1 : Dev) (first : Bool) (x : Dest) (xs : List Dest),
  (s.dev.pke.jobs.find? (fun j => decide (j.frame.id = id)) = some j) ∧
  (((s.dev.pke.jobs.takeWhile (fun x => decide (x.frame.id ≠ id))).any (fun x => decide (x.domain = j.domain))) = false) ∧
  (j.decided = true) ∧
  (s.dev.ready .tmg = true) ∧
  ((s.dev.at_ j.due).handOff j (!j.passed) j.dests = (d1, x :: xs, first)) :=
  ⟨dv (fun d => (d.setQueue 8256 { Queue.reset with entries := [{ blankEntry with inInk := true, len := 1000000000 }] }).onPke (fun p => { p with jobs := [{ blankPkeJob with decided := true, dests := [{ blankDest with queue := 8256 }], frame := { blankInFrame with ring := some 1 } }] })), 0, _, _, _, _, _,
   (Option.some_get (by decide +kernel)).symm,
   by decide +kernel,
   by decide +kernel,
   by decide +kernel,
   stuck_ok (by decide +kernel)⟩

theorem w_FramePathComplete_send : ∃ (s : State) (n : Nat) (ws : List Word) (h : Hdr) (d : Dev) (e : Dev) (w : List Word) (len : Nat) (f : InFrame),
  (s.dev.takesData n = true) ∧
  (d = s.dev.tookData n) ∧
  (w = typed 0x30 ws) ∧
  (bitOf (word w 0) 9 = false) ∧
  (bitOf (word w 0) 8 = false) ∧
  (len = bitsOf (word w 0) 31 16) ∧
  (outside len 60 10236 = false) ∧
  (d.inkRoom 5 (cellsOf (len + 4)) = true) ∧
  (f = { id := d.tmg.nextFid, source := 10, hdr := { h with len := len + 4 }, time := d.tb, sta := none, tid := 0, bss := 0, direct := none, cells := cellsOf (len + 4), share := 5, icls := 0, ring := some n }) ∧
  (e = ((d.nextFid.submitted n f.id).cellsTake 5 f.cells none).onPke (fun p => { p with waiting := tabPut p.waiting 10 (tabGet [] p.waiting 10 ++ [f]) })) :=
  by refine ⟨dv (fun d => (d.onHci (fun h => { h with linkUp := true })).setRing 1 { Ring.reset with enable := true, typ := 2, log2 := 4 }), 1, [0x003C0000, 0, 0, 0, 0], (blankHdr), _, _, _, _, _,
   ?_, rfl, rfl, ?_, ?_, rfl, ?_, ?_, rfl, rfl⟩ <;> decide +kernel

theorem w_FramePathComplete_sendDirect : ∃ (s : State) (n : Nat) (ws : List Word) (h : Hdr) (d : Dev) (e : Dev) (w : List Word) (len : Nat) (port : Nat) (f : InFrame),
  (s.dev.takesData n = true) ∧
  (d = s.dev.tookData n) ∧
  (w = typed 0x30 ws) ∧
  (bitOf (word w 0) 9 = false) ∧
  (bitOf (word w 0) 8 = true) ∧
  (len = bitsOf (word w 0) 31 16) ∧
  (port = bitsOf (word w 4) 19 16) ∧
  (d.present (.eth port) = true) ∧
  (outside len 60 (d.fld (A.ETH.MAX_FRAME port) 13 0 - 4) = false) ∧
  (d.inkRoom 5 (cellsOf (len + 4)) = true) ∧
  (f = { id := d.tmg.nextFid, source := 10, hdr := { h with len := len + 4 }, time := d.tb, sta := none, tid := 0, bss := 0, direct := some (port, bitsOf (word w 4) 22 20), cells := cellsOf (len + 4), share := 5, icls := 0, ring := some n }) ∧
  (e = ((d.nextFid.submitted n f.id).cellsTake 5 f.cells none).onPke (fun p => { p with waiting := tabPut p.waiting 10 (tabGet [] p.waiting 10 ++ [f]) })) :=
  by refine ⟨dv (fun d => (d.onHci (fun h => { h with linkUp := true })).setRing 1 { Ring.reset with enable := true, typ := 2, log2 := 4 }), 1, [0x003C0100, 0, 0, 0, 0], (blankHdr), _, _, _, _, _, _,
   ?_, rfl, rfl, ?_, ?_, rfl, rfl, ?_, ?_, ?_, rfl, rfl⟩ <;> decide +kernel

theorem w_FramePathComplete_continue : ∃ (s : State) (n : Nat) (ws : List Word) (d : Dev) (e : Dev) (w : List Word) (len : Nat) (x : Hold) (f : InFrame),
  (s.dev.takesData n = true) ∧
  (d = s.dev.tookData n) ∧
  (w = typed 0x30 ws) ∧
  (bitOf (word w 0) 9 = true) ∧
  (bitOf (word w 0) 8 = false) ∧
  (len = bitsOf (word w 0) 31 16) ∧
  (outside len 60 10236 = false) ∧
  (d.inkRoom 5 (cellsOf (len + 4)) = true) ∧
  (tabFind d.pke.holds (bitsOf (word w 4) 15 0) = some x) ∧
  (f = { id := d.tmg.nextFid, source := x.frame.source, hdr := { Hdr.none with len := len + 4 }, time := d.tb, sta := x.frame.sta, tid := x.frame.tid, bss := x.frame.bss, direct := none, cells := cellsOf (len + 4), share := 5, icls := 0, ring := none }) ∧
  (e = (((d.nextFid.submitted n f.id).cellsTake 5 f.cells none).endHold (bitsOf (word w 4) 15 0) (some f))) :=
  by refine ⟨dv (fun d => ((d.onHci (fun h => { h with linkUp := true })).setRing 1 { Ring.reset with enable := true, typ := 2, log2 := 4 }).onPke (fun p => { p with holds := [(0, blankHold)] })), 1, [0x003C0200, 0, 0, 0, 0], _, _, _, _, _, _,
   ?_, rfl, rfl, ?_, ?_, rfl, ?_, ?_, (Option.some_get (by decide +kernel)).symm, rfl, rfl⟩ <;> decide +kernel

theorem w_FramePathComplete_discard : ∃ (s : State) (n : Nat) (ws : List Word) (d : Dev) (e : Dev) (w : List Word) (len : Nat) (x : Hold),
  (s.dev.takesData n = true) ∧
  (d = s.dev.tookData n) ∧
  (w = typed 0x30 ws) ∧
  (bitOf (word w 0) 9 = true) ∧
  (bitOf (word w 0) 8 = false) ∧
  (len = bitsOf (word w 0) 31 16) ∧
  (len = 0) ∧
  (tabFind d.pke.holds (bitsOf (word w 4) 15 0) = some x) ∧
  (e = (d.nextFid.submitted n d.tmg.nextFid).endHold (bitsOf (word w 4) 15 0) none) :=
  by refine ⟨dv (fun d => ((d.onHci (fun h => { h with linkUp := true })).setRing 1 { Ring.reset with enable := true, typ := 2, log2 := 4 }).onPke (fun p => { p with holds := [(0, blankHold)] })), 1, [0x00000200, 0, 0, 0, 0], _, _, _, _, _,
   ?_, rfl, rfl, ?_, ?_, rfl, ?_, (Option.some_get (by decide +kernel)).symm, rfl⟩ <;> decide +kernel

theorem w_FramePathComplete_timeout : ∃ (s : State) (t : Nat) (x : Hold),
  (tabFind s.dev.pke.holds t = some x) :=
  ⟨dv (fun d => (d).onPke (fun p => { p with holds := [(0, blankHold)] })), 0, _,
   (Option.some_get (by decide +kernel)).symm⟩

theorem w_FramePathComplete_post : ∃ (s : State) (n : Nat) (ws : List Word) (w : List Word) (d : Dev),
  (s.dev.takesData n = true) ∧
  (d = s.dev.tookData n) ∧
  (w = typed 0x40 ws) :=
  ⟨dv (fun d => (d.onHci (fun h => { h with linkUp := true })).setRing 1 { Ring.reset with enable := true, typ := 2, log2 := 4 }), 1, [], _, _,
   by decide +kernel,
   rfl,
   rfl⟩

theorem w_FramePathComplete_scan : ∃ (s : State) (k : FlowKey) (x : Flow),
  (s.dev.flow k = some x) ∧
  (x.idleS ≠ 0) ∧
  (s.dev.serving = true) :=
  ⟨dv (fun d => (d.dramUp).onPke (fun p => { p with flows := [{ blankFlow with idleS := 1 }] })), blankFlowKey, _,
   (Option.some_get (by decide +kernel)).symm,
   by decide +kernel⟩

theorem w_FramePathComplete_age : ∃ (s : State) (vlan : Nat) (mac : Nat) (age : Nat) (e : L2Ent),
  (age = s.dev.fld A.PKE.L2_CFG 31 16) ∧
  (tabFind s.dev.pke.l2 (l2Key vlan mac) = some e) ∧
  (e.static = false) ∧
  (age ≠ 0) :=
  ⟨dv (fun d => (d).onPke (fun p => { p with l2 := [(0, blankL2Ent)] })), 0, 0, _, _,
   rfl,
   (Option.some_get (by decide +kernel)).symm,
   by decide +kernel⟩

theorem w_PacketTablesComplete_l2Set : ∃ (σ : State) (rq : Rq) (ws : List Word),
  (σ.dev.serves .pke = true) ∧
  let d := σ.dev.asked .pke
  let w := word ws 0
  let k := l2Key (bitsOf w 11 0) (macAt ws 1)
  let kind := bitsOf w 15 14
  let i := bitsOf w 26 16
  let old := tabFind d.pke.l2 k
  let bad := decide (kind = 3) || (decide (kind = 0) && decide (9 < i)) || (decide (kind = 1) && decide (1023 < i))
      || (decide (kind = 2) && decide (i ≠ 0))
  (σ.dev.takes rq OP.COMMAND ws.length 0 = true) ∧
  (¬ (ws.length ≠ 3)) ∧
  ((decide (kind = 0) && decide (i < 10) && !d.present (.eth i)) = false) ∧
  ((!bitOf w 12 && old.isNone) = false) ∧
  ((extra w 0x07FFFFFF || extra (word ws 2) 0xFFFF || (bitOf w 12 && bad)) = false) ∧
  ((bitOf w 12 && old.isNone && d.l2Full k) = false) :=
  ⟨dv (fun d => d.onPke (fun p => { p with l2 := [(l2Key 0 0, blankL2Ent)] })), mpRq, [0x00003000, 0, 0],
   by decide +kernel,
   by decide +kernel⟩

theorem w_PacketTablesComplete_vlanSet : ∃ (σ : State) (rq : Rq) (ws : List Word),
  (σ.dev.serves .pke = true) ∧
  let d := σ.dev.asked .pke
  let w := word ws 0
  let v : Vlan := { learn := bitOf w 13, isolate := bitOf w 14, floodH := bitOf w 15, iface := bitsOf w 23 16,
                      members := bitsOf (word ws 1) 10 0, untagged := bitsOf (word ws 1) 25 16,
                      bss := (word ws 2).toNat + 2 ^ 32 * bitsOf (word ws 3) 15 0 }
  let absent := (List.range 10).any (fun n => (v.members.testBit n || v.untagged.testBit n) && !d.present (.eth n))
  (σ.dev.takes rq OP.COMMAND ws.length 0 = true) ∧
  (¬ (ws.length ≠ 4)) ∧
  (absent = false) ∧
  ((extra w 0x00FFFFFF || extra (word ws 1) 0x03FF07FF || extra (word ws 3) 0xFFFF) = false) :=
  ⟨T0, mpRq, [0xE001, 1, 0, 0],
   by decide +kernel,
   by decide +kernel⟩

theorem w_PacketTablesComplete_portVlan : ∃ (σ : State) (rq : Rq) (ws : List Word),
  (σ.dev.serves .pke = true) ∧
  let d := σ.dev.asked .pke
  let w := word ws 0
  let s := bitsOf w 3 0
  (σ.dev.takes rq OP.COMMAND ws.length 0 = true) ∧
  (¬ (ws.length ≠ 1)) ∧
  ((decide (s < 10) && !d.present (.eth s)) = false) ∧
  ((extra w 0x0073FFFF || decide (10 < s) || decide (bitsOf w 17 16 = 3)) = false) :=
  ⟨T0, mpRq, [0x0001000A],
   by decide +kernel,
   by decide +kernel⟩

theorem w_PacketTablesComplete_bssVlan : ∃ (σ : State) (rq : Rq) (ws : List Word),
  (σ.dev.serves .pke = true) ∧
  let w := word ws 0
  (σ.dev.takes rq OP.COMMAND ws.length 0 = true) ∧
  (¬ (ws.length ≠ 1)) ∧
  ((extra w 0x0FFF00F3 || decide (bitsOf w 1 0 = 3)) = false) :=
  ⟨T0, mpRq, [2],
   by decide +kernel,
   by decide +kernel⟩

theorem w_PacketTablesComplete_staVlan : ∃ (σ : State) (rq : Rq) (ws : List Word),
  (σ.dev.serves .pke = true) ∧
  let w := word ws 0
  (σ.dev.takes rq OP.COMMAND ws.length 0 = true) ∧
  (¬ (ws.length ≠ 1)) ∧
  ((extra w 0x0FFF07FF || decide (1023 < bitsOf w 10 0)) = false) :=
  ⟨T0, mpRq, [1023],
   by decide +kernel,
   by decide +kernel⟩

theorem w_PacketTablesComplete_ifSet : ∃ (σ : State) (rq : Rq) (ws : List Word),
  (σ.dev.serves .pke = true) ∧
  let w := word ws 0
  let x : Iface := { nat := bitOf w 9, vlan := bitsOf w 27 16, mac := macAt ws 1, mtu := bitsOf (word ws 3) 13 0 }
  (σ.dev.takes rq OP.COMMAND ws.length 0 = true) ∧
  (¬ (ws.length ≠ 4)) ∧
  ((extra w 0x0FFF03FF || extra (word ws 2) 0xFFFF || extra (word ws 3) 0x3FFF
             || (bitOf w 8 && outside x.mtu 576 9216)) = false) :=
  ⟨T0, mpRq, [0x100, 0, 0, 576],
   by decide +kernel,
   by decide +kernel⟩

theorem w_PacketTablesComplete_nhSet : ∃ (σ : State) (rq : Rq) (ws : List Word),
  (σ.dev.serves .pke = true) ∧
  let w := word ws 0
  (σ.dev.takes rq OP.COMMAND ws.length 0 = true) ∧
  (¬ (ws.length ≠ 3)) ∧
  ((extra w 0x00FF3FFF || extra (word ws 2) 0xFFFF) = false) :=
  ⟨T0, mpRq, [0, 0, 0],
   by decide +kernel,
   by decide +kernel⟩

theorem w_PacketTablesComplete_routeAdd : ∃ (σ : State) (rq : Rq) (ws : List Word),
  (σ.dev.serves .pke = true) ∧
  let d := σ.dev.asked .pke
  let v6 := (routeOf ws).1
  let len := (routeOf ws).2.1
  let p := (routeOf ws).2.2.1
  let bad := (routeOf ws).2.2.2
  let rs := if v6 then d.pke.routes6 else d.pke.routes4
  let same (x : Route) : Bool := decide (x.prefx = p ∧ x.len = len)
  (σ.dev.takes rq OP.COMMAND ws.length 0 = true) ∧
  (¬ (ws.length ≠ 5)) ∧
  ((extra (word ws 0) 0x0FFF01FF || bad) = false) ∧
  ((!rs.any same && decide ((if v6 then 8192 else 16384) ≤ rs.length)) = false) :=
  ⟨T0, mpRq, [32, 7, 0, 0, 0],
   by decide +kernel,
   by decide +kernel⟩

theorem w_PacketTablesComplete_routeDel : ∃ (σ : State) (rq : Rq) (ws : List Word),
  (σ.dev.serves .pke = true) ∧
  let d := σ.dev.asked .pke
  let v6 := (routeOf ws).1
  let len := (routeOf ws).2.1
  let p := (routeOf ws).2.2.1
  let bad := (routeOf ws).2.2.2
  let rs := if v6 then d.pke.routes6 else d.pke.routes4
  let same (x : Route) : Bool := decide (x.prefx = p ∧ x.len = len)
  (σ.dev.takes rq OP.COMMAND ws.length 0 = true) ∧
  (¬ (ws.length ≠ 5)) ∧
  ((extra (word ws 0) 0x0FFF01FF || bad) = false) ∧
  ((!rs.any same) = false) :=
  ⟨dv (fun d => d.onPke (fun p => { p with routes4 := [{ prefx := 7, len := 32, nh := 0 }] })), mpRq, [32, 7, 0, 0, 0],
   by decide +kernel,
   by decide +kernel⟩

theorem w_PacketTablesComplete_aclSet : ∃ (σ : State) (rq : Rq) (ws : List Word),
  (σ.dev.serves .pke = true) ∧
  let w := word ws 0
  (σ.dev.takes rq OP.COMMAND ws.length 0 = true) ∧
  (¬ (ws.length ≠ 24)) ∧
  ((extra w 0x3FFFFFFF || decide (3 < bitsOf w 15 12) || extra (word ws 1) 0x00FF0FFF || extra (word ws 2) 0x0FFF0FFF
             || extra (word ws 4) 0x3F3FFFFF || extra (word ws 5) 0xFFFF) = false) :=
  ⟨T0, mpRq, (List.replicate 24 0),
   by decide +kernel,
   by decide +kernel⟩

theorem w_PacketTablesComplete_localSet : ∃ (σ : State) (rq : Rq) (ws : List Word),
  (σ.dev.serves .pke = true) ∧
  let w := word ws 0
  let kind := bitsOf w 7 6
  (σ.dev.takes rq OP.COMMAND ws.length 0 = true) ∧
  (¬ (ws.length ≠ 5)) ∧
  ((extra w 0xFF || decide (kind = 3) || (decide (kind = 0) && extra (word ws 2) 0xFFFF)
             || (decide (kind = 1) && decide (word ws 2 ≠ 0)) || (decide (kind ≠ 2) && decide (word ws 3 ≠ 0 ∨ word ws 4 ≠ 0))) = false) :=
  ⟨T0, mpRq, [0x80, 0, 0, 0, 0],
   by decide +kernel,
   by decide +kernel⟩

theorem w_PacketTablesComplete_mapSet : ∃ (σ : State) (rq : Rq) (ws : List Word),
  (σ.dev.serves .pke = true) ∧
  let w := word ws 0
  let pcp := bitOf w 6
  let i := bitsOf w 5 0
  let e : MapEnt := { cls := bitsOf w 10 8, color := bitsOf w 13 12 }
  (σ.dev.takes rq OP.COMMAND ws.length 0 = true) ∧
  (¬ (ws.length ≠ 1)) ∧
  ((extra w 0x377F || (pcp && decide (7 < i)) || decide (e.color = 3)) = false) :=
  ⟨T0, mpRq, [0x47],
   by decide +kernel,
   by decide +kernel⟩

theorem w_PacketTablesComplete_l2Flush : ∃ (σ : State) (rq : Rq) (ws : List Word),
  (σ.dev.serves .pke = true) ∧
  let w := word ws 0
  (σ.dev.takes rq OP.COMMAND ws.length 0 = true) ∧
  (¬ (ws.length ≠ 1)) ∧
  ((extra w 0x1FFF) = false) :=
  ⟨T0, mpRq, [0x1FFF],
   by decide +kernel,
   by decide +kernel⟩

theorem w_PacketTablesComplete_flowAdd : ∃ (s : State) (rq : Rq) (ws : List Word) (d : Dev) (k : FlowKey) (w : Word),
  (s.dev.serves .pke = true) ∧
  (d = s.dev.asked .pke) ∧
  (s.dev.takes rq OP.COMMAND ws.length 0 = true) ∧
  (ws.length = 14) ∧
  (k = flowKeyOf ws) ∧
  (w = word ws 10) ∧
  (flowKeyBad ws = false) ∧
  (extra w 0x0FFF001F = false) ∧
  (extra (word ws 11) 0x1FFFF = false) ∧
  (bitsOf w 1 0 ≠ 3) ∧
  ((bitOf w 2 && bitOf w 3) = false) ∧
  (((bitOf w 2 || bitOf w 3) && k.v6) = false) ∧
  (d.serving = true) ∧
  (d.rangePoisoned (d.bucketAddr k.bucket) 256 = false) ∧
  (((d.pke.flows.filter (fun y => decide (y.key ≠ k))).filter (fun y => decide (y.key.bucket = k.bucket))).length < 4) :=
  by refine ⟨dv (fun d => d.dramUp), mpRq, (List.replicate 14 0), _, _, _,
   ?_, rfl, ?_, ?_, rfl, rfl, ?_, ?_, ?_, ?_, ?_, ?_, ?_, no_poison (by decide +kernel) (by decide +kernel) _ _, ?_⟩ <;> decide +kernel

theorem w_PacketTablesComplete_flowDel : ∃ (s : State) (rq : Rq) (ws : List Word) (d : Dev) (k : FlowKey) (x : Flow),
  (s.dev.serves .pke = true) ∧
  (d = s.dev.asked .pke) ∧
  (s.dev.takes rq OP.COMMAND ws.length 0 = true) ∧
  (ws.length = 10) ∧
  (k = flowKeyOf ws) ∧
  (flowKeyBad ws = false) ∧
  (d.serving = true) ∧
  (d.rangePoisoned (d.bucketAddr k.bucket) 256 = false) ∧
  (d.flow k = some x) :=
  by refine ⟨dv (fun d => (d.dramUp).onPke (fun p => { p with flows := [blankFlow] })), mpRq, (List.replicate 10 0), _, _, _,
   ?_, rfl, ?_, ?_, rfl, ?_, ?_, no_poison (by decide +kernel) (by decide +kernel) _ _, (Option.some_get (by decide +kernel)).symm⟩ <;> decide +kernel

theorem w_PacketTablesComplete_flowGet : ∃ (s : State) (rq : Rq) (ws : List Word) (d : Dev) (k : FlowKey) (x : Flow),
  (s.dev.serves .pke = true) ∧
  (d = s.dev.asked .pke) ∧
  (s.dev.takes rq OP.COMMAND ws.length 18 = true) ∧
  (ws.length = 10) ∧
  (k = flowKeyOf ws) ∧
  (flowKeyBad ws = false) ∧
  (d.serving = true) ∧
  (d.rangePoisoned (d.bucketAddr k.bucket) 256 = false) ∧
  (d.flow k = some x) :=
  by refine ⟨dv (fun d => (d.dramUp).onPke (fun p => { p with flows := [blankFlow] })), mpRq, (List.replicate 10 0), _, _, _,
   ?_, rfl, ?_, ?_, rfl, ?_, ?_, no_poison (by decide +kernel) (by decide +kernel) _ _, (Option.some_get (by decide +kernel)).symm⟩ <;> decide +kernel

theorem w_EthernetPortCommandsComplete_ethMode : ∃ (s : State) (rq : Rq) (n : Nat) (v : Word),
  (n < 10) ∧
  (s.dev.accepts rq (A.ETH.MODE n) (v) (.eth n) = true) :=
  ⟨T0, mpRq, 0, 0,
   by decide +kernel⟩

theorem w_EthernetPortCommandsComplete_linkUp : ∃ (s : State) (n : Nat) (an : Nat) (r : Nat) (d1 : Dev) (d2 : Dev),
  (s.dev.present (.eth n) = true) ∧
  ((s.dev.blk (.eth n)).enable = true) ∧
  ((s.dev.ethPort n).link = false) ∧
  ((s.dev.blk (.eth n)).selftest = false) ∧
  (s.dev.ethRate n an = some r) ∧
  (d1 = (s.dev.hwWake (.eth n)).onEth n (fun p => { p with link := true, rate := r, localFault := false, remoteFault := false, fecLock := decide (s.dev.fld (A.ETH.MODE n) 5 4 ≠ 0), idleAt := s.dev.tb })) ∧
  (d2 = (d1.verifyStart n).raise (.eth n) Cause.ETH.LINK_CHANGE) :=
  by refine ⟨dv (fun d => d.wr (A.ETH.MODE 0) 1), 0, 0, _, _, _,
   ?_, ?_, ?_, ?_, (Option.some_get (by decide +kernel)).symm, rfl, rfl⟩ <;> decide +kernel

theorem w_EthernetPortCommandsComplete_linkDown : ∃ (s : State) (n : Nat) (loc : Bool) (rem : Bool),
  (s.dev.present (.eth n) = true) :=
  ⟨T0, 0, false, false,
   by decide +kernel⟩

theorem w_EthernetPortCommandsComplete_rxReasm : ∃ (s : State) (n : Nat) (p : EthPort) (h : Hdr) (fcs : Bool) (pre : Bool) (re : Bool) (age : Nat),
  (p = s.dev.ethPort n) ∧
  (p.link = true) ∧
  (p.relocking = false) ∧
  ((re || (pre && !p.partnerOk)) = true) :=
  ⟨dv (fun d => (d).onEth 0 (fun p => { p with link := true, rate := 5 })), 0, _, (blankHdr), false, false, true, 0,
   rfl,
   by decide +kernel⟩

theorem w_EthernetPortCommandsComplete_rxRunt : ∃ (s : State) (n : Nat) (p : EthPort) (h : Hdr) (fcs : Bool) (pre : Bool) (re : Bool) (age : Nat),
  (p = s.dev.ethPort n) ∧
  (p.link = true) ∧
  (p.relocking = false) ∧
  (re = false) ∧
  ((pre && !p.partnerOk) = false) ∧
  (h.len < 64) :=
  ⟨dv (fun d => (d).onEth 0 (fun p => { p with link := true, rate := 5 })), 0, _, { blankHdr with len := 63 }, false, false, _, 0,
   rfl,
   by decide +kernel,
   by decide +kernel,
   rfl,
   by decide +kernel⟩

theorem w_EthernetPortCommandsComplete_rxOversize : ∃ (s : State) (n : Nat) (p : EthPort) (h : Hdr) (fcs : Bool) (pre : Bool) (re : Bool) (age : Nat),
  (p = s.dev.ethPort n) ∧
  (p.link = true) ∧
  (p.relocking = false) ∧
  (re = false) ∧
  ((pre && !p.partnerOk) = false) ∧
  (¬ h.len < 64) ∧
  (s.dev.fld (A.ETH.MAX_FRAME n) 13 0 < h.len) :=
  ⟨dv (fun d => (d).onEth 0 (fun p => { p with link := true, rate := 5 })), 0, _, { blankHdr with len := 20000 }, false, false, _, 0,
   rfl,
   by decide +kernel,
   by decide +kernel,
   rfl,
   by decide +kernel⟩

theorem w_EthernetPortCommandsComplete_rxFcs : ∃ (s : State) (n : Nat) (p : EthPort) (h : Hdr) (fcs : Bool) (pre : Bool) (re : Bool) (age : Nat),
  (p = s.dev.ethPort n) ∧
  (p.link = true) ∧
  (p.relocking = false) ∧
  (re = false) ∧
  ((pre && !p.partnerOk) = false) ∧
  (¬ h.len < 64) ∧
  (¬ s.dev.fld (A.ETH.MAX_FRAME n) 13 0 < h.len) ∧
  (fcs = false) :=
  by refine ⟨dv (fun d => (d).onEth 0 (fun p => { p with link := true, rate := 5 })), 0, _, { blankHdr with len := 64 }, _, false, _, 0,
   rfl, ?_, ?_, rfl, ?_, ?_, ?_, rfl⟩ <;> decide +kernel

theorem w_EthernetPortCommandsComplete_rxOverflow : ∃ (s : State) (n : Nat) (p : EthPort) (h : Hdr) (fcs : Bool) (pre : Bool) (re : Bool) (age : Nat),
  (p = s.dev.ethPort n) ∧
  (p.link = true) ∧
  (p.relocking = false) ∧
  (re = false) ∧
  ((pre && !p.partnerOk) = false) ∧
  (¬ h.len < 64) ∧
  (¬ s.dev.fld (A.ETH.MAX_FRAME n) 13 0 < h.len) ∧
  (fcs = true) ∧
  (s.dev.inkRoom 0 (cellsOf h.len) = false) :=
  ⟨dv (fun d => (d.inkSet 0 100000).onEth 0 (fun p => { p with link := true, rate := 5 })), 0, _, { blankHdr with len := 64 }, true, false, _, 0,
   rfl,
   by decide +kernel,
   by decide +kernel,
   rfl,
   by decide +kernel⟩

theorem w_EthernetPortCommandsComplete_rxCtrl : ∃ (s : State) (n : Nat) (p : EthPort) (h : Hdr) (fcs : Bool) (pre : Bool) (re : Bool) (age : Nat),
  (p = s.dev.ethPort n) ∧
  (p.link = true) ∧
  (p.relocking = false) ∧
  (re = false) ∧
  ((pre && !p.partnerOk) = false) ∧
  (¬ h.len < 64) ∧
  (¬ s.dev.fld (A.ETH.MAX_FRAME n) 13 0 < h.len) ∧
  (fcs = true) ∧
  (s.dev.inkRoom 0 (cellsOf h.len) = true) ∧
  (h.etype = 0x8808) :=
  ⟨dv (fun d => (d).onEth 0 (fun p => { p with link := true, rate := 5 })), 0, _, { blankHdr with len := 64, etype := 0x8808 }, true, false, _, 0,
   rfl,
   by decide +kernel,
   by decide +kernel,
   rfl,
   by decide +kernel⟩

theorem w_EthernetPortCommandsComplete_rxStrideOther : ∃ (s : State) (n : Nat) (p : EthPort) (h : Hdr) (fcs : Bool) (pre : Bool) (re : Bool) (age : Nat),
  (p = s.dev.ethPort n) ∧
  (p.link = true) ∧
  (p.relocking = false) ∧
  (re = false) ∧
  ((pre && !p.partnerOk) = false) ∧
  (¬ h.len < 64) ∧
  (¬ s.dev.fld (A.ETH.MAX_FRAME n) 13 0 < h.len) ∧
  (fcs = true) ∧
  (s.dev.inkRoom 0 (cellsOf h.len) = true) ∧
  (h.etype ≠ 0x8808) ∧
  (n < 2 ∧ h.etype = 0x88B6 ∧ h.dst = 0x0180C200000E) :=
  ⟨dv (fun d => (d).onEth 0 (fun p => { p with link := true, rate := 5 })), 0, _, { blankHdr with len := 64, etype := 0x88B6, dst := 0x0180C200000E }, true, false, _, 0,
   rfl,
   by decide +kernel,
   by decide +kernel,
   rfl,
   by decide +kernel⟩

theorem w_EthernetPortCommandsComplete_rxFrame : ∃ (s : State) (n : Nat) (p : EthPort) (h : Hdr) (fcs : Bool) (pre : Bool) (re : Bool) (age : Nat),
  (p = s.dev.ethPort n) ∧
  (p.link = true) ∧
  (p.relocking = false) ∧
  (re = false) ∧
  ((pre && !p.partnerOk) = false) ∧
  (¬ h.len < 64) ∧
  (¬ s.dev.fld (A.ETH.MAX_FRAME n) 13 0 < h.len) ∧
  (fcs = true) ∧
  (s.dev.inkRoom 0 (cellsOf h.len) = true) ∧
  (h.etype ≠ 0x8808) ∧
  (¬ (n < 2 ∧ h.etype = 0x88B6 ∧ h.dst = 0x0180C200000E)) :=
  ⟨dv (fun d => (d).onEth 0 (fun p => { p with link := true, rate := 5 })), 0, _, { blankHdr with len := 64 }, true, false, _, 0,
   rfl,
   by decide +kernel,
   by decide +kernel,
   rfl,
   by decide +kernel⟩

theorem w_EthernetPortCommandsComplete_rxVerify : ∃ (s : State) (n : Nat) (p : EthPort),
  (p = s.dev.ethPort n) ∧
  (p.link = true) ∧
  (p.relocking = false) :=
  ⟨dv (fun d => (d).onEth 0 (fun p => { p with link := true, rate := 5 })), 0, _,
   rfl,
   by decide +kernel⟩

theorem w_EthernetPortCommandsComplete_rxRespond : ∃ (s : State) (n : Nat) (p : EthPort),
  (p = s.dev.ethPort n) ∧
  (p.link = true) ∧
  (p.relocking = false) ∧
  (p.verify = 1) :=
  ⟨dv (fun d => (d).onEth 0 (fun p => { p with link := true, rate := 5, verify := 1 })), 0, _,
   rfl,
   by decide +kernel⟩

theorem w_EthernetPortCommandsComplete_rxLpi : ∃ (s : State) (n : Nat) (p : EthPort) (on : Bool),
  (p = s.dev.ethPort n) ∧
  (p.link = true) ∧
  (p.relocking = false) :=
  ⟨dv (fun d => (d).onEth 0 (fun p => { p with link := true, rate := 5 })), 0, _, false,
   rfl,
   by decide +kernel⟩

theorem w_EthernetPortCommandsComplete_xoffRefresh : ∃ (s : State) (n : Nat) (c : Nat) (t : Nat) (e : Nat × Nat) (rest : Tab Nat) (d1 : Dev),
  ((s.dev.ethPort n).xoff = e :: rest) ∧
  (s.dev.fcMode n ≠ 0) ∧
  ((s.dev.ethPort n).link = true) ∧
  ((c, t) = rest.foldl (fun m e => if e.2 < m.2 then e else m) e) ∧
  (d1 = s.dev.at_ t) :=
  by refine ⟨dv (fun d => (d.wr (A.ETH.FC_CFG 0) 2).onEth 0 (fun p => { p with link := true, rate := 5, xoff := [(0, 9)] })), 0, 0, 9, (0, 9), [], _,
   ?_, ?_, ?_, ?_, rfl⟩ <;> decide +kernel

theorem w_EthernetPortCommandsComplete_pauseRx : ∃ (s : State) (n : Nat) (dst : Nat) (q : Nat),
  ((s.dev.ethPort n).link = true) ∧
  (s.dev.fcMode n = 1) ∧
  (s.dev.ctrlMine n dst = true) :=
  ⟨dv (fun d => (d.wr (A.ETH.FC_CFG 0) 1).onEth 0 (fun p => { p with link := true, rate := 5 })), 0, 0x0180C2000001, 0,
   by decide +kernel⟩

theorem w_EthernetPortCommandsComplete_pauseOther : ∃ (s : State) (n : Nat) (dst : Nat) (q : Nat),
  ((s.dev.ethPort n).link = true) ∧
  (¬ (s.dev.fcMode n = 1 ∧ s.dev.ctrlMine n dst = true)) :=
  ⟨dv (fun d => (d.wr (A.ETH.FC_CFG 0) 0).onEth 0 (fun p => { p with link := true, rate := 5 })), 0, 0x0180C2000001, 0,
   by decide +kernel⟩

theorem w_EthernetPortCommandsComplete_pfcRx : ∃ (s : State) (n : Nat) (dst : Nat) (en : Nat) (ts : List Nat),
  ((s.dev.ethPort n).link = true) ∧
  (s.dev.fcMode n = 2) ∧
  (s.dev.ctrlMine n dst = true) :=
  ⟨dv (fun d => (d.wr (A.ETH.FC_CFG 0) 2).onEth 0 (fun p => { p with link := true, rate := 5 })), 0, 0x0180C2000001, 0, [],
   by decide +kernel⟩

theorem w_EthernetPortCommandsComplete_pfcOther : ∃ (s : State) (n : Nat) (dst : Nat) (en : Nat) (ts : List Nat),
  ((s.dev.ethPort n).link = true) ∧
  (¬ (s.dev.fcMode n = 2 ∧ s.dev.ctrlMine n dst = true)) :=
  ⟨dv (fun d => (d.wr (A.ETH.FC_CFG 0) 1).onEth 0 (fun p => { p with link := true, rate := 5 })), 0, 0x0180C2000001, 0, [],
   by decide +kernel⟩

theorem w_EthernetPortCommandsComplete_pauseExpiry : ∃ (s : State) (n : Nat) (c : Nat) (t : Nat),
  (tabFind (s.dev.ethPort n).paused c = some t) :=
  ⟨dv (fun d => (d).onEth 0 (fun p => { p with link := true, rate := 5, paused := [(0, 9)] })), 0, 0, _,
   (Option.some_get (by decide +kernel)).symm⟩

theorem w_EthernetPortCommandsComplete_verifyAgain : ∃ (s : State) (n : Nat) (d1 : Dev),
  ((s.dev.ethPort n).verify = 1) ∧
  ((s.dev.ethPort n).attempts < 3) ∧
  (d1 = s.dev.at_ (s.dev.ethPort n).verifyDue) :=
  ⟨dv (fun d => (d).onEth 0 (fun p => { p with link := true, rate := 5, verify := 1, attempts := 2 })), 0, _,
   by decide +kernel,
   by decide +kernel,
   rfl⟩

theorem w_EthernetPortCommandsComplete_verifyFail : ∃ (s : State) (n : Nat),
  ((s.dev.ethPort n).verify = 1) ∧
  (3 ≤ (s.dev.ethPort n).attempts) :=
  ⟨dv (fun d => (d).onEth 0 (fun p => { p with link := true, rate := 5, verify := 1, attempts := 3 })), 0,
   by decide +kernel⟩

theorem w_EthernetPortCommandsComplete_lpiEntry : ∃ (s : State) (n : Nat) (p : EthPort),
  (p = s.dev.ethPort n) ∧
  (p.link = true) ∧
  (s.dev.bit (A.ETH.EEE_CFG n) 0 = true) ∧
  (s.dev.lpiMode n = true) ∧
  (p.tx = none) ∧
  (p.suspended = none) ∧
  (p.stride = none) ∧
  (p.waking = none) ∧
  (p.lpiTx = false) ∧
  (p.ctl = []) ∧
  (((List.range 8).any (fun c => (s.dev.ethEligible n c).isSome)) = false) :=
  ⟨dv (fun d => ((d.wr (A.ETH.EEE_CFG 0) 1).wr (A.ETH.MODE 0) 1).onEth 0 (fun p => { p with link := true, rate := 5 })), 0, _,
   rfl,
   by decide +kernel⟩

theorem w_EthernetPortCommandsComplete_lpiWake : ∃ (s : State) (n : Nat) (t : Nat),
  ((s.dev.ethPort n).waking = some t) :=
  ⟨dv (fun d => (d).onEth 0 (fun p => { p with link := true, rate := 5, waking := some 9 })), 0, _,
   (Option.some_get (by decide +kernel)).symm⟩

theorem w_EthernetPortCommandsComplete_mac : ∃ (s : State) (rq : Rq) (n : Nat) (hi : Bool) (v : Word),
  (n < 10) ∧
  (s.dev.accepts rq (if hi then A.ETH.MAC_HI n else A.ETH.MAC_LO n) (v) (.eth n) = true) :=
  ⟨T0, mpRq, 0, false, 0,
   by decide +kernel⟩

theorem w_EthernetPortCommandsComplete_ptpOther : ∃ (s : State) (n : Nat) (h : Hdr) (fcs : Bool) (x : PtpIn),
  ((s.dev.ptpFrame n h && s.dev.ethGood n h fcs) = false) :=
  ⟨T0, 0, (blankHdr), false, (blankPtpIn),
   by decide +kernel⟩

theorem w_EthernetPortCommandsComplete_ptp : ∃ (s : State) (n : Nat) (h : Hdr) (x : PtpIn) (d : Dev) (d2 : Dev),
  (s.dev.ptpFrame n h = true) ∧
  (s.dev.ethGood n h true = true) ∧
  (d = effEthRxFrame n (.frame h true false false 0) s.dev) ∧
  (d2 = d.onTmu (fun t => { t with ptpRole := x.role, ptpSteps := x.steps, hops := if x.role = 1 then 0 else t.hops })) :=
  ⟨dv (fun d => ((d.wr A.TMU.PTP_CFG0 1).wr A.TMU.PTP_CFG1 1).onEth 0 (fun p => { p with link := true, rate := 5 })), 0, { blankHdr with len := 64, etype := 0x88F7 }, (blankPtpIn), _, _,
   by decide +kernel,
   by decide +kernel,
   rfl,
   rfl⟩

theorem w_StrideRefusals_requestNak2 : ∃ (s : State) (n : Nat) (ver : Nat) (target : Nat) (fec : Nat) (xid : Nat) (src : Nat) (p : EthPort) (d1 : Dev) (ack : Dev),
  (p = s.dev.ethPort n) ∧
  (p.link = true) ∧
  (n < 2) ∧
  (d1 = s.dev.count (A.ETH.STRIDE_RX_CNT n)) ∧
  (ack = (d1.onEth n (fun p => { p with stride := some { initiator := false, target := target, fec := strideFec ver target fec, xid := xid, phase := .acking (s.dev.fld (A.ETH.STRIDE_CFG n) 31 16) } })).strideSend n 3 xid (strideArgs ver (s.dev.strideMin n) (s.dev.strideMax n) target fec (s.dev.fld (A.ETH.STRIDE_CFG n) 31 16) 0)) ∧
  (s.dev.strideOn n = true) ∧
  (p.partner = some ver) ∧
  (p.stride = none) ∧
  (targetRate target = p.rate ∨ 1 < target ∨ strideFecOk target (strideFec ver target fec) = false) :=
  ⟨dv (fun d => (d.wr (A.ETH.STRIDE_CFG 0) 1).onEth 0 (fun p => { p with link := true, rate := 5, partner := some 2 })), 0, 2, 0, 0, 0, 0, _, _, _,
   rfl,
   by decide +kernel,
   by decide +kernel,
   rfl,
   rfl,
   by decide +kernel⟩

theorem w_StrideRefusals_requestNak3 : ∃ (s : State) (n : Nat) (ver : Nat) (target : Nat) (fec : Nat) (xid : Nat) (src : Nat) (p : EthPort) (d1 : Dev) (ack : Dev),
  (p = s.dev.ethPort n) ∧
  (p.link = true) ∧
  (n < 2) ∧
  (d1 = s.dev.count (A.ETH.STRIDE_RX_CNT n)) ∧
  (ack = (d1.onEth n (fun p => { p with stride := some { initiator := false, target := target, fec := strideFec ver target fec, xid := xid, phase := .acking (s.dev.fld (A.ETH.STRIDE_CFG n) 31 16) } })).strideSend n 3 xid (strideArgs ver (s.dev.strideMin n) (s.dev.strideMax n) target fec (s.dev.fld (A.ETH.STRIDE_CFG n) 31 16) 0)) ∧
  (s.dev.strideOn n = true) ∧
  (p.partner ≠ some ver) :=
  ⟨dv (fun d => (d.wr (A.ETH.STRIDE_CFG 0) 1).onEth 0 (fun p => { p with link := true, rate := 5 })), 0, 2, 0, 0, 0, 0, _, _, _,
   rfl,
   by decide +kernel,
   by decide +kernel,
   rfl,
   rfl,
   by decide +kernel⟩

theorem w_StrideRefusals_requestNak1 : ∃ (s : State) (n : Nat) (ver : Nat) (target : Nat) (fec : Nat) (xid : Nat) (src : Nat) (p : EthPort) (d1 : Dev) (ack : Dev) (x : Stride),
  (p = s.dev.ethPort n) ∧
  (p.link = true) ∧
  (n < 2) ∧
  (d1 = s.dev.count (A.ETH.STRIDE_RX_CNT n)) ∧
  (ack = (d1.onEth n (fun p => { p with stride := some { initiator := false, target := target, fec := strideFec ver target fec, xid := xid, phase := .acking (s.dev.fld (A.ETH.STRIDE_CFG n) 31 16) } })).strideSend n 3 xid (strideArgs ver (s.dev.strideMin n) (s.dev.strideMax n) target fec (s.dev.fld (A.ETH.STRIDE_CFG n) 31 16) 0)) ∧
  (s.dev.strideOn n = true) ∧
  (p.partner = some ver) ∧
  (p.stride = some x) ∧
  (x.initiator = false ∨ ∀ t, x.phase ≠ .asked t) :=
  by refine ⟨dv (fun d => (d.wr (A.ETH.STRIDE_CFG 0) 1).onEth 0 (fun p => { p with link := true, rate := 5, partner := some 2, stride := some blankStride })), 0, 2, 0, 0, 0, 0, _, _, _, blankStride,
   rfl, ?_, ?_, rfl, rfl, ?_, ?_, ?_, Or.inl (by decide +kernel)⟩ <;> decide +kernel

theorem w_StrideCommandsComplete_offerTimer : ∃ (s : State) (n : Nat) (t : Nat),
  ((s.dev.ethPort n).offer = some t) ∧
  ((s.dev.ethPort n).link = true) ∧
  (s.dev.strideOn n = true) :=
  ⟨dv (fun d => (d.wr (A.ETH.STRIDE_CFG 0) 1).onEth 0 (fun p => { p with link := true, rate := 5, offer := some 9 })), 0, _,
   (Option.some_get (by decide +kernel)).symm,
   by decide +kernel⟩

theorem w_StrideCommandsComplete_offerRx : ∃ (s : State) (n : Nat) (mn : Nat) (mx : Nat),
  ((s.dev.ethPort n).link = true) ∧
  (n < 2) ∧
  (s.dev.strideOn n = true) :=
  ⟨dv (fun d => (d.wr (A.ETH.STRIDE_CFG 0) 1).onEth 0 (fun p => { p with link := true, rate := 5 })), 0, 0, 0,
   by decide +kernel⟩

theorem w_StrideCommandsComplete_requestAck : ∃ (s : State) (n : Nat) (ver : Nat) (target : Nat) (fec : Nat) (xid : Nat) (src : Nat) (p : EthPort) (d1 : Dev) (ack : Dev),
  (p = s.dev.ethPort n) ∧
  (p.link = true) ∧
  (n < 2) ∧
  (d1 = s.dev.count (A.ETH.STRIDE_RX_CNT n)) ∧
  (ack = (d1.onEth n (fun p => { p with stride := some { initiator := false, target := target, fec := strideFec ver target fec, xid := xid, phase := .acking (s.dev.fld (A.ETH.STRIDE_CFG n) 31 16) } })).strideSend n 3 xid (strideArgs ver (s.dev.strideMin n) (s.dev.strideMax n) target fec (s.dev.fld (A.ETH.STRIDE_CFG n) 31 16) 0)) ∧
  (s.dev.strideOn n = true) ∧
  (p.partner = some ver) ∧
  (p.stride = none) ∧
  (targetRate target ≠ p.rate) ∧
  (target ≤ 1) ∧
  (strideFecOk target (strideFec ver target fec) = true) :=
  ⟨dv (fun d => (d.wr (A.ETH.STRIDE_CFG 0) 1).onEth 0 (fun p => { p with link := true, rate := 5, partner := some 2 })), 0, 2, 1, 0, 0, 0, _, _, _,
   rfl,
   by decide +kernel,
   by decide +kernel,
   rfl,
   rfl,
   by decide +kernel⟩

theorem w_StrideCommandsComplete_requestCross : ∃ (s : State) (n : Nat) (ver : Nat) (target : Nat) (fec : Nat) (xid : Nat) (src : Nat) (p : EthPort) (d1 : Dev) (ack : Dev) (x : Stride) (t : Nat),
  (p = s.dev.ethPort n) ∧
  (p.link = true) ∧
  (n < 2) ∧
  (d1 = s.dev.count (A.ETH.STRIDE_RX_CNT n)) ∧
  (ack = (d1.onEth n (fun p => { p with stride := some { initiator := false, target := target, fec := strideFec ver target fec, xid := xid, phase := .acking (s.dev.fld (A.ETH.STRIDE_CFG n) 31 16) } })).strideSend n 3 xid (strideArgs ver (s.dev.strideMin n) (s.dev.strideMax n) target fec (s.dev.fld (A.ETH.STRIDE_CFG n) 31 16) 0)) ∧
  (s.dev.strideOn n = true) ∧
  (p.partner = some ver) ∧
  (p.stride = some x) ∧
  (x.phase = .asked t) ∧
  (x.initiator = true) :=
  ⟨dv (fun d => (d.wr (A.ETH.STRIDE_CFG 0) 1).onEth 0 (fun p => { p with link := true, rate := 5, partner := some 2, stride := some { blankStride with initiator := true } })), 0, 2, 0, 0, 0, 0, _, _, _, { blankStride with initiator := true }, 0,
   rfl,
   by decide +kernel,
   by decide +kernel,
   rfl,
   rfl,
   by decide +kernel⟩

theorem w_StrideCommandsComplete_ackRx : ∃ (s : State) (n : Nat) (xid : Nat) (lead : Nat) (x : Stride),
  ((s.dev.ethPort n).link = true) ∧
  (n < 2) ∧
  ((s.dev.ethPort n).asks xid = some x) :=
  ⟨dv (fun d => (d.wr (A.ETH.STRIDE_CFG 0) 1).onEth 0 (fun p => { p with link := true, rate := 5, stride := some blankStride })), 0, 0, 0, _,
   by decide +kernel,
   by decide +kernel,
   (Option.some_get (by decide +kernel)).symm⟩

theorem w_StrideCommandsComplete_nakRx : ∃ (s : State) (n : Nat) (xid : Nat) (x : Stride),
  ((s.dev.ethPort n).link = true) ∧
  (n < 2) ∧
  ((s.dev.ethPort n).asks xid = some x) :=
  ⟨dv (fun d => (d.wr (A.ETH.STRIDE_CFG 0) 1).onEth 0 (fun p => { p with link := true, rate := 5, stride := some blankStride })), 0, 0, _,
   by decide +kernel,
   by decide +kernel,
   (Option.some_get (by decide +kernel)).symm⟩

theorem w_StrideCommandsComplete_start : ∃ (σ : State) (rq : Rq) (n : Nat) (ws : List Word),
  (σ.dev.serves (.eth n) = true) ∧
  (n < 10) ∧
  let d := σ.dev.asked (.eth n)
  let p := d.ethPort n
  let w := word ws 0
  let target := bitsOf w 0 0
  let fec := bitsOf w 5 4
  (σ.dev.takes rq OP.COMMAND ws.length 0 = true) ∧
  (¬ (ws.length ≠ 1)) ∧
  ((!d.present (.eth n)) = false) ∧
  ((decide (n < 2) && (p.partner.isNone || !p.link || p.stride.isSome || decide (d.ethMac n = 0))) = false) ∧
  ((decide (2 ≤ n) || extra w 0x31 || decide (targetRate target = p.rate) || !strideFecOk target fec) = false) :=
  ⟨dv (fun d => ((d.wr (A.ETH.MAC_LO 0) 1)).onEth 0 (fun p => { p with link := true, rate := 5, partner := some 2 })), mpRq, 0, [1],
   by decide +kernel,
   by decide +kernel,
   by decide +kernel⟩

theorem w_StrideCommandsComplete_timeout : ∃ (s : State) (n : Nat) (x : Stride) (t : Nat),
  ((s.dev.ethPort n).stride = some x) ∧
  (x.phase = .asked t) :=
  ⟨dv (fun d => (d.wr (A.ETH.STRIDE_CFG 0) 1).onEth 0 (fun p => { p with link := true, rate := 5, stride := some blankStride })), 0, blankStride, 0,
   by decide +kernel⟩

theorem w_StrideCommandsComplete_quiet : ∃ (s : State) (n : Nat) (x : Stride) (t : Nat),
  ((s.dev.ethPort n).stride = some x) ∧
  (x.phase = .agreed t) :=
  ⟨dv (fun d => (d.wr (A.ETH.STRIDE_CFG 0) 1).onEth 0 (fun p => { p with link := true, rate := 5, stride := some { blankStride with phase := .agreed 0 } })), 0, { blankStride with phase := .agreed 0 }, 0,
   by decide +kernel⟩

theorem w_StrideCommandsComplete_switch : ∃ (s : State) (n : Nat) (x : Stride) (t : Nat),
  ((s.dev.ethPort n).stride = some x) ∧
  (x.phase = .quiet t) :=
  ⟨dv (fun d => (d.wr (A.ETH.STRIDE_CFG 0) 1).onEth 0 (fun p => { p with link := true, rate := 5, stride := some { blankStride with phase := .quiet 0 } })), 0, { blankStride with phase := .quiet 0 }, 0,
   by decide +kernel⟩

theorem w_StrideCommandsComplete_lock : ∃ (s : State) (n : Nat) (x : Stride) (t : Nat),
  ((s.dev.ethPort n).stride = some x) ∧
  (x.phase = .relock t) :=
  ⟨dv (fun d => (d.wr (A.ETH.STRIDE_CFG 0) 1).onEth 0 (fun p => { p with link := true, rate := 5, stride := some { blankStride with phase := .relock 0 } })), 0, { blankStride with phase := .relock 0 }, 0,
   by decide +kernel⟩

theorem w_StrideCommandsComplete_relockTimeout : ∃ (s : State) (n : Nat) (x : Stride) (t : Nat),
  ((s.dev.ethPort n).stride = some x) ∧
  (x.phase = .relock t) :=
  ⟨dv (fun d => (d.wr (A.ETH.STRIDE_CFG 0) 1).onEth 0 (fun p => { p with link := true, rate := 5, stride := some { blankStride with phase := .relock 0 } })), 0, { blankStride with phase := .relock 0 }, 0,
   by decide +kernel⟩

theorem w_MemoryCommandsComplete_inkPart : ∃ (s : State) (rq : Rq) (k : Nat) (v : Word),
  (k < 2) ∧
  (s.dev.accepts rq (A.MEM.INK_PART0 + 4 * k) (v) .mem = true) :=
  ⟨T0, mpRq, 0, 0,
   by decide +kernel⟩

theorem w_MemoryCommandsComplete_inkCommit : ∃ (s : State) (rq : Rq),
  (s.dev.accepts rq (A.MEM.INK_CTRL) (1) .mem = true) :=
  ⟨T0, mpRq,
   by decide +kernel⟩

theorem w_MemoryCommandsComplete_inkPeak : ∃ (s : State) (rq : Rq) (k : Nat),
  (k < 6) ∧
  (s.dev.accepts rq (A.MEM.INK_USE k) (0) .mem = true) :=
  ⟨T0, mpRq, 0,
   by decide +kernel⟩

theorem w_MemoryCommandsComplete_ddrCfg : ∃ (s : State) (rq : Rq) (v : Word),
  (s.dev.accepts rq (A.MEM.DDR_CFG) (v) .mem = true) :=
  ⟨T0, mpRq, 0,
   by decide +kernel⟩

theorem w_MemoryCommandsComplete_ddrEnable : ∃ (s : State) (rq : Rq) (v : Word),
  (s.dev.accepts rq (A.MEM.DDR_CFG) (v ||| 0x100) .mem = true) :=
  ⟨T0, mpRq, 0,
   by decide +kernel⟩

theorem w_MemoryCommandsComplete_ddrDisable : ∃ (s : State) (rq : Rq) (v : Word),
  (s.dev.accepts rq (A.MEM.DDR_CFG) (v &&& 0xFFFFFEFF) .mem = true) :=
  ⟨T0, mpRq, 0,
   by decide +kernel⟩

theorem w_MemoryCommandsComplete_stopDone : ∃ (s : State),
  (s.dev.mem.stopping = true) ∧
  (s.dev.dramBusy = false) :=
  ⟨dv (fun d => (d).onMem (fun m => { m with stopping := true })),
   by decide +kernel⟩

theorem w_MemoryCommandsComplete_trained : ∃ (s : State),
  (s.dev.mem.ddr = .training ∧ s.dev.mem.trained = false ∨ s.dev.mem.ddr = .frozen ∧ s.dev.mem.thawing = true) :=
  ⟨dv (fun d => (d).onMem (fun m => { m with ddr := .training })),
   by decide +kernel⟩

theorem w_MemoryCommandsComplete_trainOnce : ∃ (s : State),
  (s.dev.mem.ddr = .training ∧ s.dev.mem.trained = false ∨ s.dev.mem.ddr = .frozen ∧ s.dev.mem.thawing = true) ∧
  (s.dev.mem.trainFails = 0) :=
  ⟨dv (fun d => (d).onMem (fun m => { m with ddr := .training })),
   by decide +kernel⟩

theorem w_MemoryCommandsComplete_trainTwice : ∃ (s : State),
  (s.dev.mem.ddr = .training ∧ s.dev.mem.trained = false ∨ s.dev.mem.ddr = .frozen ∧ s.dev.mem.thawing = true) ∧
  (s.dev.mem.trainFails ≠ 0) :=
  ⟨dv (fun d => (d).onMem (fun m => { m with ddr := .training, trainFails := 1 })),
   by decide +kernel⟩

theorem w_MemoryCommandsComplete_initEarly : ∃ (s : State) (d1 : Dev) (base : Nat),
  (s.dev.mem.ddr = .training) ∧
  (s.dev.mem.trained = true) ∧
  (d1 = s.dev.onMem (fun m => { m with ddr := .serving, initEarly := true, served := true, frontier := min (s.dev.fld A.MEM.INIT_CFG 15 0) s.dev.dramMib })) ∧
  (base = s.dev.fld A.PMU.RESUME_BASE_LO 31 20 * 2 ^ 20 + (s.dev.rd A.PMU.RESUME_BASE_HI).toNat * 2 ^ 32) :=
  ⟨dv (fun d => (d).onMem (fun m => { m with ddr := .training, trained := true })), _, _,
   by decide +kernel,
   by decide +kernel,
   rfl,
   rfl⟩

theorem w_MemoryCommandsComplete_initDone : ∃ (s : State),
  (s.dev.serving = true) ∧
  (s.dev.mem.initEarly = true) :=
  ⟨dv (fun d => (d).onMem (fun m => { m with ddr := .serving, initEarly := true })),
   by decide +kernel⟩

theorem w_MemoryCommandsComplete_refresh : ∃ (s : State) (rank : Nat) (n : Nat) (urgent : Bool),
  (s.dev.mem.ddr = .serving ∨ s.dev.mem.ddr = .selfRefresh ∨ s.dev.mem.ddr = .frozen) ∧
  (rank ≤ s.dev.fld A.MEM.DDR_CFG 7 7) ∧
  (n = tabGet 0 s.dev.mem.postponed rank) :=
  ⟨dv (fun d => d.dramUp), 0, _, false,
   by decide +kernel,
   by decide +kernel,
   rfl⟩

theorem w_MemoryCommandsComplete_mr4 : ∃ (s : State) (a : Bool) (b : Bool),
  (s.dev.mem.ddr = .serving ∨ s.dev.mem.ddr = .frozen) :=
  ⟨dv (fun d => d.dramUp), false, false,
   by decide +kernel⟩

theorem w_MemoryCommandsComplete_oscCentre : ∃ (s : State) (ps : Nat),
  (s.dev.serving = true) ∧
  (s.dev.fld A.MEM.TRAIN_CFG 7 0 < ps) :=
  ⟨dv (fun d => d.dramUp), 255,
   by decide +kernel⟩

theorem w_MemoryCommandsComplete_osc : ∃ (s : State) (ps : Nat),
  (s.dev.serving = true) ∧
  (¬ s.dev.fld A.MEM.TRAIN_CFG 7 0 < ps) :=
  ⟨dv (fun d => d.dramUp), 0,
   by decide +kernel⟩

theorem w_MemoryCommandsComplete_zq : ∃ (s : State) (d1 : Dev),
  (s.dev.serving = true) ∧
  (d1 = s.dev.at_ (s.dev.mem.zqAt + msT (s.dev.fld A.MEM.TRAIN_CFG 23 16))) :=
  ⟨dv (fun d => d.dramUp), _,
   by decide +kernel,
   rfl⟩

theorem w_MemoryCommandsComplete_readReturn : ∃ (s : State) (port : Nat) (addr : Nat) (errs : Nat) (synd : List Word) (ns : Nat) (d1 : Dev),
  (s.dev.mem.ddr = .serving) ∧
  (port < 12) ∧
  (d1 = s.dev.latency port ns) :=
  ⟨dv (fun d => d.dramUp), 11, 0, 0, [], 0, _,
   by decide +kernel,
   by decide +kernel,
   rfl⟩

theorem w_MemoryCommandsComplete_crcRetry : ∃ (s : State) (port : Nat) (part : Bool) (addr : Nat) (n : Nat),
  (s.dev.mem.ddr = .serving) ∧
  (port < 12) ∧
  (n < 4) :=
  ⟨dv (fun d => d.dramUp), 0, false, 0, 3,
   by decide +kernel⟩

theorem w_MemoryCommandsComplete_crcFreeze : ∃ (s : State) (port : Nat) (part : Bool) (addr : Nat) (n : Nat) (d1 : Dev),
  (s.dev.mem.ddr = .serving) ∧
  (port < 12) ∧
  (4 ≤ n) ∧
  (d1 = s.dev.freeze 2 (if part then 2 else 1) port addr []) :=
  ⟨dv (fun d => d.dramUp), 0, false, 0, 4, _,
   by decide +kernel,
   by decide +kernel,
   by decide +kernel,
   rfl⟩

theorem w_MemoryCommandsComplete_scrub : ∃ (s : State) (errs : Nat) (synd : List Word),
  (s.dev.serving = true) ∧
  (s.dev.fld A.MEM.SCRUB_CFG 15 0 ≠ 0) :=
  ⟨dv (fun d => d.dramUp), 0, [],
   by decide +kernel⟩

theorem w_MemoryCommandsComplete_thaw : ∃ (s : State) (rq : Rq) (ws : List Word) (d : Dev),
  (s.dev.serves .mem = true) ∧
  (d = s.dev.asked .mem) ∧
  (s.dev.takes rq OP.COMMAND ws.length 0 = true) ∧
  (ws = [0]) ∧
  (d.tb ≠ d.frzWdogAt) ∧
  (d.mem.ddr = .frozen) ∧
  (d.mem.thawing = false) ∧
  (d.mem.dpReset = false) :=
  ⟨dv (fun d => (d).onMem (fun m => { m with ddr := .frozen })), mpRq, [0], _,
   by decide +kernel,
   rfl,
   by decide +kernel⟩

theorem w_MemoryCommandsComplete_thawDone : ∃ (s : State) (d1 : Dev),
  (s.dev.mem.ddr = .frozen) ∧
  (s.dev.mem.thawing = true) ∧
  (s.dev.mem.trained = true) ∧
  (d1 = s.dev.heldWrites.unfreeze) :=
  ⟨dv (fun d => (d).onMem (fun m => { m with ddr := .frozen, thawing := true, trained := true })), _,
   by decide +kernel,
   by decide +kernel,
   by decide +kernel,
   rfl⟩

theorem w_MemoryCommandsComplete_dpReset : ∃ (s : State) (rq : Rq) (ws : List Word) (d : Dev),
  (s.dev.serves .mem = true) ∧
  (d = s.dev.asked .mem) ∧
  (s.dev.takes rq OP.COMMAND ws.length 0 = true) ∧
  (ws = [0]) ∧
  (d.tb ≠ d.frzWdogAt) :=
  ⟨T0, mpRq, [0], _,
   by decide +kernel,
   rfl,
   by decide +kernel⟩

theorem w_MemoryCommandsComplete_dpDone : ∃ (s : State),
  (s.dev.testReset = false) ∧
  (s.dev.qarAtTake = true) :=
  ⟨T0,
   by decide +kernel⟩

theorem w_MemoryCommandsComplete_watchdog : ∃ (s : State),
  (s.dev.mem.ddr = .frozen) ∧
  (s.dev.mem.thawing = false) ∧
  (s.dev.mem.dpReset = false ∨ s.dev.testReset = true) :=
  ⟨dv (fun d => (d).onMem (fun m => { m with ddr := .frozen })),
   by decide +kernel⟩

theorem w_TimeCommandsComplete_timeGet : ∃ (σ : State) (rq : Rq) (ws : List Word),
  (σ.dev.serves .tmu = true) ∧
  let d := σ.dev.asked .tmu
  (σ.dev.takes rq OP.COMMAND ws.length 5 = true) ∧
  (¬ (ws ≠ [])) :=
  ⟨T0, mpRq, [],
   by decide +kernel,
   by decide +kernel⟩

theorem w_TimeCommandsComplete_timeSet : ∃ (σ : State) (rq : Rq) (ws : List Word),
  (σ.dev.serves .tmu = true) ∧
  let d := σ.dev.asked .tmu
  let rel := bitOf (word ws 0) 0
  let ns := (word ws 3).toNat
  let new : Int := if rel then Int.ofNat d.tmu.ptp + signed 64 (pair ws 1) * 2 ^ 32
      else Int.ofNat (((pair ws 1) * 1000000000 + ns) * 2 ^ 32)
  (σ.dev.takes rq OP.COMMAND ws.length 0 = true) ∧
  (¬ (ws.length ≠ if rel then 3 else 4)) ∧
  ((extra (word ws 0) 1 || decide (new < 0 ∨ Int.ofNat ptpEnd ≤ new) || (!rel && (extra (word ws 2) 0xFFFF || decide (1000000000 ≤ ns)))) = false) :=
  ⟨T0, mpRq, [0, 1, 0, 0],
   by decide +kernel,
   by decide +kernel⟩

theorem w_TimeCommandsComplete_tsfSet : ∃ (σ : State) (rq : Rq) (ws : List Word),
  (σ.dev.serves .tmu = true) ∧
  let w := word ws 0
  (σ.dev.takes rq OP.COMMAND ws.length 0 = true) ∧
  (¬ (ws.length ≠ 3)) ∧
  ((extra w 0x1F3 || decide (bitsOf w 1 0 = 3)) = false) :=
  ⟨T0, mpRq, [0x1F2, 0, 0],
   by decide +kernel,
   by decide +kernel⟩

theorem w_TimeCommandsComplete_tsSend : ∃ (s : State) (rq : Rq) (ws : List Word) (d : Dev) (x : TsLaunch),
  (s.dev.serves .tmu = true) ∧
  (d = s.dev.asked .tmu) ∧
  (s.dev.takes rq OP.COMMAND ws.length 0 = true) ∧
  (x = { port := bitsOf (word ws 0) 3 0, oneStep := bitOf (word ws 0) 8, len := bitsOf (word ws 0) 31 16, hOfs := bitsOf (word ws 1) 23 16, launch := if bitOf (word ws 0) 9 then some (pair ws 2) else none, tolUs := if bitsOf (word ws 1) 7 0 = 0 then 50 else bitsOf (word ws 1) 7 0, bytes := ws.drop 4 }) ∧
  (ws.length = 4 + ceilDiv x.len 4) ∧
  (x.port < d.ports) ∧
  ((d.ethPort x.port).link = true) ∧
  (rq.src = .mp ∨ d.bit A.TMU.PTP_CFG0 0 = false) ∧
  (extra (word ws 0) 0xFFFF030F = false) ∧
  (extra (word ws 1) 0x00FF00FF = false) ∧
  (outside x.len 60 128 = false) ∧
  (∀ t, x.launch = some t → t ≤ d.ptpNs + 1000000000) ∧
  (x.oneStep = true → x.hOfs + 44 ≤ x.len) :=
  by refine ⟨dv (fun d => (d).onEth 0 (fun p => { p with link := true, rate := 5 })), mpRq, (0x003C0000 :: List.replicate 18 0), _, _,
   ?_, rfl, ?_, rfl, ?_, ?_, ?_, Or.inl rfl, ?_, ?_, ?_, (by intro t h; cases h), (by decide +kernel)⟩ <;> decide +kernel

theorem w_TimeCommandsComplete_launchDown : ∃ (s : State) (n : Nat) (x : TsLaunch) (d : Dev),
  (s.dev.tmu.launches.find? (fun x => decide (x.port = n)) = some x) ∧
  (d = (match x.launch with
    | some t => s.dev.at_ (s.dev.tickAt t)
    | none => s.dev).onTmu (fun t => { t with launches := t.launches.erase x })) ∧
  ((d.ethPort n).link = false) :=
  ⟨dv (fun d => (d).onTmu (fun t => { t with launches := [blankTsLaunch] })), 0, _, _,
   (Option.some_get (by decide +kernel)).symm,
   rfl,
   by decide +kernel⟩

theorem w_TimeCommandsComplete_launchLate : ∃ (s : State) (n : Nat) (x : TsLaunch) (d : Dev) (t : Nat) (e : Dev),
  (s.dev.tmu.launches.find? (fun x => decide (x.port = n)) = some x) ∧
  (d = (match x.launch with
    | some t => s.dev.at_ (s.dev.tickAt t)
    | none => s.dev).onTmu (fun t => { t with launches := t.launches.erase x })) ∧
  ((d.ethPort n).link = true) ∧
  (e = (d.lpiForLaunch n x.launch.isSome).expressTurn n) ∧
  ((e.ethPort n).noStart = false) ∧
  (x.launch = some t) ∧
  (t + 1000 * x.tolUs < e.ptpNs) :=
  ⟨dv (fun d => (d.onTmu (fun t => { t with launches := [{ blankTsLaunch with launch := some 0 }], ptp := 2 ^ 62 })).onEth 0 (fun p => { p with link := true, rate := 5 })), 0, _, _, 0, _,
   (Option.some_get (by decide +kernel)).symm,
   rfl,
   by decide +kernel,
   rfl,
   by decide +kernel⟩

theorem w_TimeCommandsComplete_launch : ∃ (s : State) (n : Nat) (x : TsLaunch) (d : Dev) (out : List Byte) (e : Dev) (g : Dev),
  (s.dev.tmu.launches.find? (fun x => decide (x.port = n)) = some x) ∧
  (d = (match x.launch with
    | some t => s.dev.at_ (s.dev.tickAt t)
    | none => s.dev).onTmu (fun t => { t with launches := t.launches.erase x })) ∧
  ((d.ethPort n).link = true) ∧
  (e = (d.lpiForLaunch n x.launch.isSome).expressTurn n) ∧
  ((e.ethPort n).noStart = false) ∧
  (∀ t, x.launch = some t → e.ptpNs ≤ t + 1000 * x.tolUs) ∧
  (out = (if x.oneStep then oneStepBytes ((wordsBytes x.bytes).take x.len) x.hOfs (e.egressTime n).2 else (wordsBytes x.bytes).take x.len)) ∧
  (g = (((e.emit (.eth n (.timed (bytesWords out) (if x.oneStep then some (e.egressTime n).2 else none)))).count A.TMU.PTP_TX_CNT).count (A.ETH.TX_OK_CNT n)).countN (A.ETH.TX_OCTET_CNT n) (wireLen (x.len + 4))) :=
  ⟨dv (fun d => (d.onTmu (fun t => { t with launches := [blankTsLaunch] })).onEth 0 (fun p => { p with link := true, rate := 5 })), 0, blankTsLaunch, _, _, _, _,
   by decide +kernel,
   rfl,
   by decide +kernel,
   rfl,
   by decide +kernel,
   (by intro t h; cases h),
   rfl,
   rfl⟩

theorem w_TimeCommandsComplete_ofsPut : ∃ (σ : State) (rq : Rq) (ws : List Word),
  (σ.dev.serves .tmu = true) ∧
  let ms := (word ws 1).toNat
  (σ.dev.takes rq OP.COMMAND ws.length 0 = true) ∧
  (¬ (ws.length ≠ 2)) ∧
  ((outside ms 1 1000) = false) :=
  ⟨T0, mpRq, [0, 1000],
   by decide +kernel,
   by decide +kernel⟩

theorem w_TimeCommandsComplete_tb2ptp : ∃ (σ : State) (rq : Rq) (ws : List Word),
  (σ.dev.serves .tmu = true) ∧
  let d := σ.dev.asked .tmu
  let t := pair ws 0
  (σ.dev.takes rq OP.COMMAND ws.length 5 = true) ∧
  (¬ (ws.length ≠ 2)) ∧
  (((d.tmu.convert t).isNone) = false) :=
  ⟨dv (fun d => (d).onTmu (fun t => { t with history := [{ tb := 0, ptp := 0, freq := 0 }] })), mpRq, [0, 0],
   by decide +kernel,
   by decide +kernel⟩

theorem w_TimeCommandsComplete_sourceTimeout : ∃ (s : State) (c : Nat) (x : Source),
  (tabFind s.dev.tmu.sources c = some x) :=
  ⟨dv (fun d => (d).onTmu (fun t => { t with sources := [(0, blankSource)] })), 0, _,
   (Option.some_get (by decide +kernel)).symm⟩

theorem w_TimeCommandsComplete_holdover : ∃ (s : State),
  (s.dev.tmu.servo = .holdover) :=
  ⟨dv (fun d => (d).onTmu (fun t => { t with servo := .holdover })),
   by decide +kernel⟩

theorem w_TimeCommandsComplete_ptpSync : ∃ (s : State) (d : Dev),
  (s.dev.bit A.TMU.PTP_CFG0 0 = true) ∧
  (s.dev.tmu.ptpRole ≠ 2) ∧
  (d = (s.dev.at_ (s.dev.tmu.syncAt + s.dev.syncTicks)).onTmu (fun t => { t with ptpRole := 1, hops := 0, syncAt := max s.dev.tb (s.dev.tmu.syncAt + s.dev.syncTicks), syncSeq := (t.syncSeq + 1) % 65536 })) :=
  ⟨dv (fun d => d.wr A.TMU.PTP_CFG0 1), _,
   by decide +kernel,
   by decide +kernel,
   rfl⟩

theorem w_TimeCommandsComplete_ftmStart : ∃ (s : State) (d : Dev),
  (s.dev.msh.parent.isSome = true) ∧
  (s.dev.tmu.ftm = none) ∧
  (d = s.dev.at_ (s.dev.tmu.ftmAt + msT s.dev.ftmMs)) :=
  ⟨dv (fun d => d.onMsh (fun m => { m with parent := some 1 })), _,
   by decide +kernel,
   by decide +kernel,
   rfl⟩

theorem w_TimeCommandsComplete_ftmNone : ∃ (s : State) (b : FtmBurst) (hops : Nat),
  (s.dev.tmu.ftm.isSome = true) ∧
  ((b.exs.take (s.dev.fld A.TMU.FTM_CFG 19 16)).filterMap (s.dev.ftmTheta b.radio) = []) :=
  ⟨dv (fun d => (d).onTmu (fun t => { t with ftm := some [] })), (blankFtmBurst), 0,
   by decide +kernel⟩

theorem w_TimeCommandsComplete_ftmEnd : ∃ (s : State) (b : FtmBurst) (hops : Nat) (ths : List Int),
  (s.dev.tmu.ftm.isSome = true) ∧
  (ths = (b.exs.take (s.dev.fld A.TMU.FTM_CFG 19 16)).filterMap (s.dev.ftmTheta b.radio)) ∧
  (ths ≠ []) :=
  ⟨dv (fun d => (d.wr A.TMU.FTM_CFG 0x00080064).onTmu (fun t => { t with ftm := some [], history := [{ tb := 0, ptp := 0, freq := 0 }] })), { radio := .a, exs := [{ t1 := 0, t2 := 0, t3 := 0, t4 := 0 }] }, 0, _,
   by decide +kernel,
   rfl,
   by decide +kernel⟩

theorem w_TimeCommandsComplete_ppsIn : ∃ (s : State) (sub : Nat) (n : Nat) (off : Int),
  (s.dev.bit A.TMU.PPS_CFG 0 = true) ∧
  (n = (s.dev.ptpNs + sub) % 1000000000) ∧
  (off = (if n < 500000000 then Int.ofNat n else Int.ofNat n - 1000000000)) ∧
  (∀ t, s.dev.tmu.ppsEdge = some t → sT 9 / 10 ≤ s.dev.tb - t ∧ s.dev.tb - t ≤ sT 11 / 10) :=
  ⟨dv (fun d => d.wr A.TMU.PPS_CFG 1), 0, _, _,
   by decide +kernel,
   rfl,
   rfl,
   (by intro t h; cases h)⟩

theorem w_TimeCommandsComplete_ppsEarly : ∃ (s : State) (sub : Nat) (t : Nat),
  (s.dev.bit A.TMU.PPS_CFG 0 = true) ∧
  (s.dev.tmu.ppsEdge = some t) ∧
  (s.dev.tb - t < sT 9 / 10) :=
  ⟨dv (fun d => (d.wr A.TMU.PPS_CFG 1).onTmu (fun t => { t with ppsEdge := some 0 })), 0, 0,
   by decide +kernel⟩

theorem w_TimeCommandsComplete_ppsLate : ∃ (s : State) (sub : Nat) (t : Nat),
  (s.dev.bit A.TMU.PPS_CFG 0 = true) ∧
  (s.dev.tmu.ppsEdge = some t) ∧
  (sT 11 / 10 < s.dev.tb - t) :=
  ⟨dv (fun d => (d.wr A.TMU.PPS_CFG 1).onTmu (fun t => { t with ppsEdge := some 0, tb := 300000000 })), 0, 0,
   by decide +kernel⟩

theorem w_TimeCommandsComplete_ppsRise : ∃ (s : State) (d : Dev),
  (s.dev.tmu.ppsHigh = false) ∧
  (s.dev.bit A.TMU.PPS_CFG 1 = true) ∧
  (d = s.dev.at_ (s.dev.tickAt ((s.dev.ptpNs / 1000000000 + 1) * 1000000000))) :=
  ⟨dv (fun d => d.wr A.TMU.PPS_CFG 2), _,
   by decide +kernel,
   by decide +kernel,
   rfl⟩

theorem w_TimeCommandsComplete_ppsFall : ∃ (s : State),
  (s.dev.tmu.ppsHigh = true) :=
  ⟨dv (fun d => (d).onTmu (fun t => { t with ppsHigh := true })),
   by decide +kernel⟩

theorem w_TimeCommandsComplete_timedLate : ∃ (s : State) (r : Radio) (q : Nat) (t : Nat) (v : TxVec) (x : TimedSeen) (e : Entry),
  (s.dev.headReady q = some e) ∧
  (e.wl.launch = some t) ∧
  (t + 1000 * (if e.wl.tol = 0 then 50 else e.wl.tol) < s.dev.ptpNs) :=
  ⟨dv (fun d => (d.onTmu (fun t => { t with ptp := 2 ^ 62 })).setQueue 8240 { Queue.reset with entries := [{ blankEntry with inInk := true, cells := 1, len := 64, wl := { blankWl with launch := some 0, tid := 8, tol := 50 } }] }), .a, 8240, 0, (blankTxVec), (blankTimedSeen), _,
   (Option.some_get (by decide +kernel)).symm,
   by decide +kernel⟩

theorem w_TimeCommandsComplete_timed : ∃ (s : State) (r : Radio) (q : Nat) (t : Nat) (v : TxVec) (x : TimedSeen) (e : Entry) (d : Dev),
  (s.dev.headReady q = some e) ∧
  (e.wl.launch = some t) ∧
  (s.dev.ptpNs ≤ t + 1000 * (if e.wl.tol = 0 then 50 else e.wl.tol)) ∧
  (s.dev.avail r = true) ∧
  (linkAllowed r e = true) ∧
  (d = (s.dev.at_ (s.dev.tickAt t - s.dev.wayToTx r)).onHead q (fun h => { h with wl := { h.wl with launch := none, lateAt := some (s.dev.tickAt (t + 1000 * (if e.wl.tol = 0 then 50 else e.wl.tol))) } })) :=
  by refine ⟨dv (fun d => (d.radioUp).setQueue 8240 { Queue.reset with entries := [{ blankEntry with inInk := true, cells := 1, len := 64, wl := { blankWl with launch := some 1000000, tid := 8, tol := 50 } }] }), .a, 8240, 1000000, (blankTxVec), (blankTimedSeen), _, _,
   (Option.some_get (by decide +kernel)).symm, ?_, ?_, ?_, ?_, rfl⟩ <;> decide +kernel

theorem w_TimeCommandsComplete_f0 : ∃ (s : State) (a : Int) (b : Int),
  (s.dev.pmu.state = .run) :=
  ⟨T0, 0, 0,
   by decide +kernel⟩

theorem w_MeshMembershipComplete_enable : ∃ (s : State) (rq : Rq) (v : Word),
  (s.dev.accepts rq (A.MSH.MESH_CFG) (v) .msh = true) :=
  ⟨T0, mpRq, 0,
   by decide +kernel⟩

theorem w_MeshMembershipComplete_candidateEnd : ∃ (s : State) (t : Nat) (d : Dev) (e : Dev),
  (s.dev.msh.state = .candidate) ∧
  (s.dev.msh.listenUntil = some t) ∧
  (d = s.dev.at_ t) ∧
  (e = ({ d with msh := { d.msh with state := .root, addr := 0, depth := 0, parent := none, listenUntil := none, leases := [], claimed := [], requests := [], electedAt := d.tb, rootMac := d.nodeMac, uplinkLost := none, ownLease := none, ftmFast := true, grantSlot := none, upHeld := [] } } : Dev)) :=
  ⟨dv (fun d => ((d.wr A.MSH.MESH_CFG 0xC0000000)).onMsh (fun m => { m with state := .candidate, listenUntil := some 9 })), _, _, _,
   by decide +kernel,
   (Option.some_get (by decide +kernel)).symm,
   rfl,
   rfl⟩

theorem w_MeshMembershipComplete_holdExpiry : ∃ (s : State) (t : Nat),
  (s.dev.msh.uplinkLost = some t) ∧
  (s.dev.msh.state = .root) ∧
  (s.dev.hasUplink = false) :=
  ⟨dv (fun d => ((d.wr A.MSH.MESH_CFG 0xC0000000)).onMsh (fun m => { m with state := .root, uplinkLost := some 9 })), _,
   (Option.some_get (by decide +kernel)).symm,
   by decide +kernel⟩

theorem w_MeshMembershipComplete_bcnCandidate : ∃ (s : State) (b : MeshBeacon) (d : Dev),
  (s.dev.meshOn = true) ∧
  (b.meshId = (s.dev.rd A.MSH.MESH_ID).toNat) ∧
  (d = s.dev.childHeard b.mac) ∧
  (d.msh.state = .candidate) ∧
  (d.endsCandidacy b = true) :=
  ⟨dv (fun d => ((d.wr A.MSH.MESH_CFG 0xC0000000)).onMsh (fun m => { m with state := .candidate })), { blankMeshBeacon with meshId := (T0.dev.rd A.MSH.MESH_ID).toNat, state := 5, prio := 255 }, _,
   by decide +kernel,
   by decide +kernel,
   rfl,
   by decide +kernel⟩

theorem w_MeshMembershipComplete_bcnRoot : ∃ (s : State) (b : MeshBeacon) (d : Dev),
  (s.dev.meshOn = true) ∧
  (b.meshId = (s.dev.rd A.MSH.MESH_ID).toNat) ∧
  (d = s.dev.childHeard b.mac) ∧
  (d.msh.state = .root) ∧
  (d.endsRoot b = true) :=
  ⟨dv (fun d => ((d.wr A.MSH.MESH_CFG 0xC0000000)).onMsh (fun m => { m with state := .root })), { blankMeshBeacon with meshId := (T0.dev.rd A.MSH.MESH_ID).toNat, state := 1, prio := 255 }, _,
   by decide +kernel,
   by decide +kernel,
   rfl,
   by decide +kernel⟩

theorem w_MeshMembershipComplete_bcnScan : ∃ (s : State) (b : MeshBeacon) (d : Dev) (e : Dev),
  (s.dev.meshOn = true) ∧
  (b.meshId = (s.dev.rd A.MSH.MESH_ID).toNat) ∧
  (d = s.dev.childHeard b.mac) ∧
  (d.msh.state = .scan) ∧
  (e = d.hear b) :=
  ⟨dv (fun d => ((d.wr A.MSH.MESH_CFG 0xC0000000)).onMsh (fun m => { m with state := .scan })), { blankMeshBeacon with meshId := (T0.dev.rd A.MSH.MESH_ID).toNat, prio := 0 }, _, _,
   by decide +kernel,
   by decide +kernel,
   rfl,
   by decide +kernel,
   rfl⟩

theorem w_MeshMembershipComplete_bcnJoin : ∃ (s : State) (b : MeshBeacon) (d : Dev) (e : Dev) (t : MeshBeacon),
  (s.dev.meshOn = true) ∧
  (b.meshId = (s.dev.rd A.MSH.MESH_ID).toNat) ∧
  (d = s.dev.childHeard b.mac) ∧
  (d.msh.state = .joining ∨ d.msh.state = .search) ∧
  (e = d.hear b) ∧
  (e.msh.target = some t) :=
  ⟨dv (fun d => ((d.wr A.MSH.MESH_CFG 0xC0000000)).onMsh (fun m => { m with state := .joining, target := some blankMeshBeacon })), { blankMeshBeacon with meshId := (T0.dev.rd A.MSH.MESH_ID).toNat, prio := 0 }, _, _, _,
   by decide +kernel,
   by decide +kernel,
   rfl,
   by decide +kernel,
   rfl,
   (Option.some_get (by decide +kernel)).symm⟩

theorem w_MeshMembershipComplete_bcnSearch : ∃ (s : State) (b : MeshBeacon) (d : Dev) (e : Dev),
  (s.dev.meshOn = true) ∧
  (b.meshId = (s.dev.rd A.MSH.MESH_ID).toNat) ∧
  (d = s.dev.childHeard b.mac) ∧
  (d.msh.state = .search) ∧
  (e = d.hear b) ∧
  (e.msh.target = none) :=
  by refine ⟨dv (fun d => ((d.wr A.MSH.MESH_CFG 0xC0000000)).onMsh (fun m => { m with state := .search })), { blankMeshBeacon with meshId := (T0.dev.rd A.MSH.MESH_ID).toNat, prio := 0 }, _, _,
   ?_, ?_, rfl, ?_, rfl, ?_⟩ <;> decide +kernel

theorem w_MeshMembershipComplete_bcnParent : ∃ (s : State) (b : MeshBeacon) (d : Dev),
  (s.dev.meshOn = true) ∧
  (b.meshId = (s.dev.rd A.MSH.MESH_ID).toNat) ∧
  (d = s.dev.childHeard b.mac) ∧
  (d.msh.state = .joined) ∧
  (d.msh.parent.isSome = true) ∧
  (b.mac = d.msh.parentMac) :=
  ⟨dv (fun d => ((d.wr A.MSH.MESH_CFG 0xC0000000)).onMsh (fun m => { m with state := .joined, parent := some 1 })), { blankMeshBeacon with meshId := (T0.dev.rd A.MSH.MESH_ID).toNat, prio := 0 }, _,
   by decide +kernel,
   by decide +kernel,
   rfl,
   by decide +kernel⟩

theorem w_MeshMembershipComplete_dwellNext : ∃ (s : State) (t : Nat) (d : Dev) (e : Dev),
  (s.dev.msh.state = .scan) ∧
  (s.dev.msh.listenUntil = some t) ∧
  (d = s.dev.at_ t) ∧
  (d.msh.scanIdx + 1 < d.fld A.MSH.SCAN_CFG 4 0) ∧
  (e = d.tuneTo (d.msh.scanIdx + 1)) :=
  ⟨dv (fun d => (d.wr A.MSH.SCAN_CFG 0x00C80004).onMsh (fun m => { m with state := .scan, listenUntil := some 9, scanIdx := 0 })), _, _, _,
   by decide +kernel,
   (Option.some_get (by decide +kernel)).symm,
   rfl,
   by decide +kernel,
   rfl⟩

theorem w_MeshMembershipComplete_dwellPass : ∃ (s : State) (t : Nat) (d : Dev),
  (s.dev.msh.state = .scan) ∧
  (s.dev.msh.listenUntil = some t) ∧
  (d = s.dev.at_ t) ∧
  (¬ d.msh.scanIdx + 1 < d.fld A.MSH.SCAN_CFG 4 0) :=
  ⟨dv (fun d => ((d.wr A.MSH.MESH_CFG 0xC0000000)).onMsh (fun m => { m with state := .scan, listenUntil := some 9, scanIdx := 30 })), _, _,
   by decide +kernel,
   (Option.some_get (by decide +kernel)).symm,
   rfl,
   by decide +kernel⟩

theorem w_MeshMembershipComplete_parentListen : ∃ (s : State) (t : Nat),
  (s.dev.msh.state = .joining) ∧
  (s.dev.msh.listenUntil = some t) :=
  ⟨dv (fun d => ((d.wr A.MSH.MESH_CFG 0xC0000000)).onMsh (fun m => { m with state := .joining, listenUntil := some 9 })), _,
   by decide +kernel,
   (Option.some_get (by decide +kernel)).symm⟩

theorem w_MeshMembershipComplete_joinReq : ∃ (s : State) (ver : Nat) (v : Nat) (now : Nat) (q : JoinReq),
  (s.dev.meshOn = true) ∧
  (s.dev.verOk ver = true) ∧
  (agree q.minVer q.maxVer s.dev.minVer s.dev.maxVer = some v) ∧
  (s.dev.msh.attached = true) ∧
  (s.dev.admitting = true) ∧
  (now = (if s.dev.msh.admitSlot = s.dev.ownInterval then s.dev.msh.admittedNow else 0)) ∧
  (now < 8) :=
  by refine ⟨dv (fun d => ((d.wr A.MSH.MESH_CFG 0xC0000000)).onMsh (fun m => { m with state := .root, depth := 0 })), 1, _, _, { blankJoinReq with minVer := 1, maxVer := 3 },
   ?_, ?_, (Option.some_get (by decide +kernel)).symm, ?_, ?_, rfl, ?_⟩ <;> decide +kernel

theorem w_MeshMembershipComplete_joinReqWait : ∃ (s : State) (ver : Nat) (v : Nat) (q : JoinReq),
  (s.dev.meshOn = true) ∧
  (s.dev.verOk ver = true) ∧
  (agree q.minVer q.maxVer s.dev.minVer s.dev.maxVer = some v) ∧
  (s.dev.msh.attached = true) ∧
  (s.dev.admitting = true) ∧
  (s.dev.msh.admitSlot = s.dev.ownInterval) ∧
  (8 ≤ s.dev.msh.admittedNow) :=
  ⟨dv (fun d => ((d.wr A.MSH.MESH_CFG 0xC0000000)).onMsh (fun m => { m with state := .root, depth := 0, addr := 0, admittedNow := 8, admitSlot := 1 })), 1, _, { blankJoinReq with minVer := 1, maxVer := 3 },
   by decide +kernel,
   by decide +kernel,
   (Option.some_get (by decide +kernel)).symm,
   by decide +kernel⟩

theorem w_MeshMembershipComplete_joinAccept : ∃ (s : State) (ver : Nat) (mac : Nat) (addr : Nat) (nonce : Nat) (b : MeshBeacon) (d1 : Dev) (d4 : Dev),
  (s.dev.meshOn = true) ∧
  (s.dev.verOk ver = true) ∧
  (s.dev.msh.target = some b) ∧
  (b.mac = mac) ∧
  (s.dev.msh.reqDue = false) ∧
  (d1 = ({ s.dev with msh := { s.dev.msh with state := .joined, addr := addr, depth := b.depth + 1, parent := some b.addr, parentMac := b.mac, parentVer := (agree b.minVer b.maxVer s.dev.minVer s.dev.maxVer).getD 1, parentRssi := b.rssi, parentInterval := b.intervalTu, parentLocked := b.locked, parentHops := b.hops, rootMac := b.rootMac, target := none, reqDue := false, reattach := false, bcnLoss := 0, searchUntil := none, listenUntil := none, ownLease := some (s.dev.tb + sT s.dev.leaseS), renewAt := s.dev.tb, ftmFast := true, upHeld := [] } } : Dev)) ∧
  (d4 = (fun e : Dev => if s.dev.msh.reattach then e.count A.MSH.REATTACH_CNT else e) (s.dev.msh.upHeld.foldl (fun d m => d.sendUp m) (d1.peerEnter (d1.fld A.MSH.MESH_CFG 9 0) b.mac (linkKey d1.msh.key b.mac d1.nodeMac nonce d1.msh.nonce)).meshBssSet).sleepAgain) :=
  ⟨dv (fun d => ((d.wr A.MSH.MESH_CFG 0xC0000000)).onMsh (fun m => { m with state := .joining, target := some blankMeshBeacon })), 1, _, 0, 0, _, _, _,
   by decide +kernel,
   by decide +kernel,
   (Option.some_get (by decide +kernel)).symm,
   rfl,
   by decide +kernel,
   rfl,
   rfl⟩

theorem w_MeshMembershipComplete_joinWait : ∃ (s : State) (ver : Nat) (mac : Nat) (b : MeshBeacon),
  (s.dev.meshOn = true) ∧
  (s.dev.verOk ver = true) ∧
  (s.dev.msh.target = some b) ∧
  (b.mac = mac) :=
  ⟨dv (fun d => ((d.wr A.MSH.MESH_CFG 0xC0000000)).onMsh (fun m => { m with state := .joining, target := some blankMeshBeacon })), 1, _, _,
   by decide +kernel,
   by decide +kernel,
   (Option.some_get (by decide +kernel)).symm,
   rfl⟩

theorem w_MeshMembershipComplete_joinTimeout : ∃ (s : State) (b : MeshBeacon),
  (s.dev.msh.target = some b) ∧
  (s.dev.msh.reqDue = false) ∧
  (s.dev.msh.state = .joining ∨ s.dev.msh.state = .search) :=
  ⟨dv (fun d => ((d.wr A.MSH.MESH_CFG 0xC0000000)).onMsh (fun m => { m with state := .search, target := some blankMeshBeacon })), _,
   (Option.some_get (by decide +kernel)).symm,
   by decide +kernel⟩

theorem w_MeshMembershipComplete_addrReqRoot : ∃ (s : State) (m : MeshMsg),
  (s.dev.meshOn = true) ∧
  (s.dev.verOk m.version = true) ∧
  (s.dev.msh.state = .root) :=
  ⟨dv (fun d => ((d.wr A.MSH.MESH_CFG 0xC0000000)).onMsh (fun m => { m with state := .root })), { blankMeshMsg with version := 1, ttl := 3 },
   by decide +kernel⟩

theorem w_MeshMembershipComplete_addrReqPass : ∃ (s : State) (m : MeshMsg),
  (s.dev.meshOn = true) ∧
  (s.dev.verOk m.version = true) ∧
  (s.dev.msh.state ≠ .root) ∧
  (1 < m.ttl) :=
  ⟨dv (fun d => ((d.wr A.MSH.MESH_CFG 0xC0000000)).onMsh (fun m => { m with state := .joined })), { blankMeshMsg with version := 3, ttl := 2 },
   by decide +kernel⟩

theorem w_MeshMembershipComplete_grantSend : ∃ (s : State) (l : List AddrReq) (x : Dev × List GrantEnt),
  (s.dev.msh.state = .root) ∧
  (s.dev.msh.requests ≠ []) ∧
  (s.dev.msh.grantSlot ≠ some s.dev.ownInterval) ∧
  (l = s.dev.msh.requests.foldl (fun l q => byDepth q l) []) ∧
  (x = (l.take 64).foldl (fun (a : Dev × List GrantEnt) q => ((a.1.grantOne q).1, a.2 ++ (a.1.grantOne q).2.toList)) (({ s.dev with msh := { s.dev.msh with requests := l.drop 64, grantSlot := some s.dev.ownInterval } } : Dev), [])) :=
  ⟨dv (fun d => ((d.wr A.MSH.MESH_CFG 0xC0000000)).onMsh (fun m => { m with state := .root, requests := [blankAddrReq] })), _, _,
   by decide +kernel,
   by decide +kernel,
   by decide +kernel,
   rfl,
   rfl⟩

theorem w_MeshMembershipComplete_renewTimer : ∃ (s : State) (d : Dev),
  (s.dev.msh.state = .joined ∨ s.dev.msh.state = .search) ∧
  (d = s.dev.at_ (s.dev.msh.renewAt + sT s.dev.leaseS / 2)) :=
  ⟨dv (fun d => ((d.wr A.MSH.MESH_CFG 0xC0000000)).onMsh (fun m => { m with state := .search })), _,
   by decide +kernel,
   rfl⟩

theorem w_MeshMembershipComplete_renewRoot : ∃ (s : State) (m : MeshMsg),
  (s.dev.meshOn = true) ∧
  (s.dev.verOk m.version = true) ∧
  (s.dev.msh.state = .root) :=
  ⟨dv (fun d => ((d.wr A.MSH.MESH_CFG 0xC0000000)).onMsh (fun m => { m with state := .root })), { blankMeshMsg with version := 1, ttl := 3 },
   by decide +kernel⟩

theorem w_MeshMembershipComplete_leaseExpiry : ∃ (s : State) (a : Nat) (l : Lease),
  (tabFind s.dev.msh.leases a = some l) ∧
  (s.dev.msh.state = .root) :=
  ⟨dv (fun d => ((d.wr A.MSH.MESH_CFG 0xC0000000)).onMsh (fun m => { m with state := .root, leases := [(0, blankLease)] })), 0, _,
   (Option.some_get (by decide +kernel)).symm,
   by decide +kernel⟩

theorem w_MeshMembershipComplete_ownLease : ∃ (s : State) (t : Nat) (d : Dev),
  (s.dev.msh.ownLease = some t) ∧
  (s.dev.msh.state ≠ .root) ∧
  (s.dev.msh.state ≠ .off) ∧
  (d = s.dev.at_ t) :=
  ⟨dv (fun d => ((d.wr A.MSH.MESH_CFG 0xC0000000)).onMsh (fun m => { m with state := .joined, ownLease := some 9 })), _, _,
   (Option.some_get (by decide +kernel)).symm,
   by decide +kernel,
   by decide +kernel,
   rfl⟩

theorem w_MeshTrafficComplete_floodNew : ∃ (s : State) (m : MeshMsg) (d1 : Dev) (d2 : Dev),
  (s.dev.msh.attached = true) ∧
  (s.dev.verOk m.version = true) ∧
  (s.dev.seenFind m.origin m.seq = none) ∧
  (d1 = ((s.dev.seenAdd m.origin m.seq).count A.MSH.RELAY_RX_CNT).consume m) ∧
  (d2 = d1.took) :=
  ⟨dv (fun d => ((d.wr A.MSH.MESH_CFG 0xC0000000)).onMsh (fun m => { m with state := .joined })), { blankMeshMsg with version := 3, ttl := 2 }, _, _,
   by decide +kernel,
   by decide +kernel,
   by decide +kernel,
   rfl,
   rfl⟩

theorem w_MeshTrafficComplete_floodSeen : ∃ (s : State) (m : MeshMsg) (e : Seen),
  (s.dev.msh.attached = true) ∧
  (s.dev.verOk m.version = true) ∧
  (s.dev.seenFind m.origin m.seq = some e) :=
  ⟨dv (fun d => ((d.wr A.MSH.MESH_CFG 0xC0000000)).onMsh (fun m => { m with state := .joined, seen := [blankSeen] })), { blankMeshMsg with version := 1, ttl := 3 }, _,
   by decide +kernel,
   by decide +kernel,
   (Option.some_get (by decide +kernel)).symm⟩

theorem w_MeshTrafficComplete_forward : ∃ (s : State) (t : Nat) (n : Nat) (m : MeshMsg) (l : List (Nat × MeshMsg)) (d : Dev),
  (s.dev.msh.forwards = (t, m) :: l) ∧
  (d = ({ (s.dev.at_ t) with msh := { (s.dev.at_ t).msh with forwards := l } } : Dev)) ∧
  (n = ((d.seenFind m.origin m.seq).map (fun e => e.copies)).getD 0) :=
  ⟨dv (fun d => ((d.wr A.MSH.MESH_CFG 0xC0000000)).onMsh (fun m => { m with state := .joined, forwards := [(0, blankMeshMsg)] })), 0, _, (blankMeshMsg), [], _,
   by decide +kernel,
   rfl,
   rfl⟩

theorem w_MeshTrafficComplete_seenExpiry : ∃ (s : State) (e : Seen) (l : List Seen),
  (s.dev.msh.seen = e :: l) :=
  ⟨dv (fun d => ((d.wr A.MSH.MESH_CFG 0xC0000000)).onMsh (fun m => { m with seen := [blankSeen] })), blankSeen, [],
   by decide +kernel⟩

theorem w_MeshTrafficComplete_upRoot : ∃ (s : State) (m : MeshMsg),
  (s.dev.meshOn = true) ∧
  (s.dev.verOk m.version = true) ∧
  (s.dev.msh.state = .root) :=
  ⟨dv (fun d => ((d.wr A.MSH.MESH_CFG 0xC0000000)).onMsh (fun m => { m with state := .root })), { blankMeshMsg with version := 1, ttl := 3 },
   by decide +kernel⟩

theorem w_MeshTrafficComplete_upPass : ∃ (s : State) (m : MeshMsg),
  (s.dev.meshOn = true) ∧
  (s.dev.verOk m.version = true) ∧
  (s.dev.msh.state ≠ .root) ∧
  (1 < m.ttl) :=
  ⟨dv (fun d => ((d.wr A.MSH.MESH_CFG 0xC0000000)).onMsh (fun m => { m with state := .joined })), { blankMeshMsg with version := 3, ttl := 2 },
   by decide +kernel⟩

theorem w_MeshTrafficComplete_bcnLoss : ∃ (s : State),
  (s.dev.msh.state = .joined) ∧
  (s.dev.msh.bcnLoss < 2) :=
  ⟨dv (fun d => ((d.wr A.MSH.MESH_CFG 0xC0000000)).onMsh (fun m => { m with state := .joined, bcnLoss := 1 })),
   by decide +kernel⟩

theorem w_MeshTrafficComplete_bcnLost : ∃ (s : State),
  (s.dev.msh.state = .joined) ∧
  (2 ≤ s.dev.msh.bcnLoss) :=
  ⟨dv (fun d => ((d.wr A.MSH.MESH_CFG 0xC0000000)).onMsh (fun m => { m with state := .joined, bcnLoss := 2 })),
   by decide +kernel⟩

theorem w_MeshTrafficComplete_sleepSet : ∃ (σ : State) (rq : Rq) (ws : List Word),
  (σ.dev.serves .msh = true) ∧
  let d := σ.dev.asked .msh
  let l := bitsOf (word ws 0) 15 0
  let m := d.msh
  (σ.dev.takes rq OP.COMMAND ws.length 0 = true) ∧
  (¬ (ws.length ≠ 1)) ∧
  ((extra (word ws 0) 0xFFFF) = false) ∧
  ((decide (m.children ≠ []) || decide (m.state = .root)) = false) ∧
  (¬ ((if m.parent.isSome then m.parentVer else 0) < 2)) ∧
  (¬ (d.guardCfg * 1000000 < l * d.meshTu * 1024 * 5 + 1000000)) :=
  ⟨dv (fun d => (d.wr A.MSH.SLEEP_CFG 0xFFFF0000).onMsh (fun m => { m with state := .joined, parent := some 1, parentVer := 2 })), mpRq, [1],
   by decide +kernel,
   by decide +kernel⟩

theorem w_MeshTrafficComplete_sleepSched : ∃ (s : State) (ver : Nat) (mac : Nat) (l : Nat) (c : Child),
  (s.dev.verOk ver = true) ∧
  (s.dev.msh.children.find? (fun c => decide (c.mac = mac)) = some c) :=
  ⟨dv (fun d => (d.withSta).onMsh (fun m => { m with children := [{ blankChild with sta := 5 }] })), 1, 0, 0, _,
   by decide +kernel,
   (Option.some_get (by decide +kernel)).symm⟩

theorem w_MeshTrafficComplete_winOpen : ∃ (s : State) (t : Nat) (d : Dev),
  (s.dev.msh.window = some t) ∧
  (s.dev.msh.state = .joined) ∧
  (s.dev.msh.windowOpen = false) ∧
  (s.dev.pmu.state = .run) ∧
  (d = s.dev.at_ (t - usT s.dev.msh.guardUs - if (s.dev.rfe.get s.dev.meshRadio).cur = .sleep then s.dev.riseTicks s.dev.meshRadio else 0)) :=
  ⟨dv (fun d => ((d.wr A.MSH.MESH_CFG 0xC0000000)).onMsh (fun m => { m with state := .joined, window := some 1000000 })), _, _,
   (Option.some_get (by decide +kernel)).symm,
   by decide +kernel,
   by decide +kernel,
   by decide +kernel,
   rfl⟩

theorem w_MeshTrafficComplete_winClose : ∃ (s : State) (t : Nat) (d : Dev) (d1 : Dev),
  (s.dev.msh.window = some t) ∧
  (s.dev.msh.windowOpen = true) ∧
  (s.dev.msh.windowGot = true) ∧
  (d = s.dev.at_ (t + usT (s.dev.msh.guardUs + s.dev.fld A.MSH.SLEEP_CFG 15 0))) ∧
  (d1 = ({ d with msh := { d.msh with windowOpen := false, windowGot := false, window := if d.msh.listen = 0 then none else some (d.nextTbtt (d.msh.parent.getD 0) (d.msh.listen - 1)) } } : Dev)) :=
  ⟨dv (fun d => ((d.wr A.MSH.MESH_CFG 0xC0000000)).onMsh (fun m => { m with state := .joined, window := some 1000000, windowOpen := true, windowGot := true })), _, _, _,
   (Option.some_get (by decide +kernel)).symm,
   by decide +kernel,
   by decide +kernel,
   rfl,
   rfl⟩

theorem w_MeshTrafficComplete_winMiss : ∃ (s : State) (t : Nat) (d : Dev) (d1 : Dev) (d2 : Dev),
  (s.dev.msh.window = some t) ∧
  (s.dev.msh.windowOpen = true) ∧
  (s.dev.msh.windowGot = false) ∧
  (d = s.dev.at_ (t + usT (s.dev.msh.guardUs + s.dev.fld A.MSH.SLEEP_CFG 15 0))) ∧
  (d1 = d.count A.MSH.WIN_MISS_CNT) ∧
  (d2 = ({ d1 with msh := { d1.msh with windowOpen := false, misses := d1.msh.misses + 1, guardUs := min (8 * d1.guardCfg) (2 * d1.msh.guardUs), window := some (d1.nextTbtt (d.msh.parent.getD 0) 0) } } : Dev)) :=
  ⟨dv (fun d => ((d.wr A.MSH.MESH_CFG 0xC0000000)).onMsh (fun m => { m with state := .joined, window := some 1000000, windowOpen := true })), _, _, _, _,
   (Option.some_get (by decide +kernel)).symm,
   by decide +kernel,
   by decide +kernel,
   rfl,
   rfl,
   rfl⟩

theorem w_MeshTrafficComplete_search : ∃ (s : State) (t : Nat),
  (s.dev.msh.state = .search) ∧
  (s.dev.msh.searchUntil = some t) ∧
  (s.dev.msh.target = none) :=
  ⟨dv (fun d => ((d.wr A.MSH.MESH_CFG 0xC0000000)).onMsh (fun m => { m with state := .search, searchUntil := some 9 })), _,
   by decide +kernel,
   (Option.some_get (by decide +kernel)).symm,
   by decide +kernel⟩

theorem w_MeshTrafficComplete_childTimeout : ∃ (s : State) (mac : Nat) (c : Child) (d : Dev),
  (s.dev.msh.children.find? (fun c => decide (c.mac = mac)) = some c) ∧
  (d = s.dev.at_ (c.heard + (3 * c.listen + 3) * s.dev.meshTicks)) :=
  ⟨dv (fun d => ((d.wr A.MSH.MESH_CFG 0xC0000000)).onMsh (fun m => { m with children := [blankChild] })), 0, _, _,
   (Option.some_get (by decide +kernel)).symm,
   rfl⟩

theorem w_MeshTrafficComplete_darkStart : ∃ (s : State) (k : Dark) (d : Dev),
  (s.dev.msh.dark = some k) ∧
  (k.started = false) ∧
  (s.dev.pmu.state = .run) ∧
  (d = s.dev.at_ (s.dev.tickAt (k.start / 2 ^ 32))) ∧
  (d.msh.attached = true) ∧
  (d.tmu.ptp < k.stop) :=
  by refine ⟨dv (fun d => ((d.wr A.MSH.MESH_CFG 0xC0000000)).onMsh (fun m => { m with state := .joined, dark := some { blankDark with stop := 2 ^ 64 } })), { blankDark with stop := 2 ^ 64 }, _,
   ?_, ?_, ?_, rfl, ?_⟩ <;> decide +kernel

theorem w_MeshTrafficComplete_darkPast : ∃ (s : State) (k : Dark) (d : Dev),
  (s.dev.msh.dark = some k) ∧
  (k.started = false) ∧
  (s.dev.pmu.state = .run) ∧
  (d = s.dev.at_ (s.dev.tickAt (k.start / 2 ^ 32))) ∧
  (d.msh.attached = false ∨ k.stop ≤ d.tmu.ptp) :=
  by refine ⟨dv (fun d => ((d.wr A.MSH.MESH_CFG 0xC0000000)).onMsh (fun m => { m with state := .joined, dark := some blankDark })), blankDark, _,
   ?_, ?_, ?_, rfl, ?_⟩ <;> decide +kernel

theorem w_MeshTrafficComplete_darkRetry : ∃ (s : State) (k : Dark) (t : Nat),
  (s.dev.msh.dark = some k) ∧
  (k.retryAt = some t) ∧
  (k.started = true) ∧
  (s.dev.pmu.state = .run) ∧
  (s.dev.pmu.entering = none) :=
  ⟨dv (fun d => ((d.wr A.MSH.MESH_CFG 0xC0000000)).onMsh (fun m => { m with state := .joined, dark := some { blankDark with started := true, retryAt := some 9 } })), _, _,
   (Option.some_get (by decide +kernel)).symm,
   (Option.some_get (by decide +kernel)).symm,
   by decide +kernel⟩

theorem w_MeshTrafficComplete_darkEnd : ∃ (s : State) (k : Dark) (g : Nat) (d : Dev) (d1 : Dev) (d2 : Dev),
  (s.dev.msh.dark = some k) ∧
  (k.started = true) ∧
  (s.dev.pmu.state = .run) ∧
  (d = s.dev.at_ (s.dev.tickAt (k.stop / 2 ^ 32))) ∧
  (g = max d.guardCfg (10 * ((k.stop - k.start) / (1000000000 * 2 ^ 32)) + 2)) ∧
  (d1 = ([Radio.a, .b, .c].zip k.targets).foldl (fun d e => d.stateCmd e.1 (bitsOf e.2 2 0)) d) ∧
  (d2 = ({ d1 with msh := { d1.msh with dark := none, nap := none, ftmFast := true } } : Dev)) :=
  ⟨dv (fun d => ((d.wr A.MSH.MESH_CFG 0xC0000000)).onMsh (fun m => { m with state := .joined, dark := some { blankDark with started := true } })), _, _, _, _, _,
   (Option.some_get (by decide +kernel)).symm,
   by decide +kernel,
   by decide +kernel,
   rfl,
   rfl,
   rfl,
   rfl⟩

theorem w_MeshTrafficComplete_groupReport : ∃ (s : State) (d : Dev),
  (d = s.dev.at_ (s.dev.msh.reportAt + sT s.dev.leaseS / 2)) :=
  ⟨dv (fun d => ((d.wr A.MSH.MESH_CFG 0xC0000000)).onMsh (fun m => { m with state := .joined })), _,
   rfl⟩

theorem w_MeshTrafficComplete_floodSend : ∃ (σ : State) (rq : Rq) (ws : List Word),
  (σ.dev.serves .msh = true) ∧
  let d := σ.dev.asked .msh
  let w0 := word ws 0
  let typ := bitsOf w0 7 0
  let ttl := bitsOf w0 11 8
  let chunk := bitsOf w0 23 16
  let total := bitsOf (word ws 1) 15 0
  let bytes := wordsBytes (ws.drop 2)
  let want := min 1016 (total - 1016 * chunk)
  let last := decide (total ≤ 1016 * (chunk + 1))
  let old := match d.msh.floodHdr with
      | some h => if h = (typ, ttl, total) ∧ chunk ≠ 0 then d.msh.floodChunks else []
      | none => []
  let chunks := tabPut old chunk (bytes.take want)
  let whole := (List.range (chunk + 1)).all (fun i => (tabFind chunks i).isSome)
  (σ.dev.takes rq OP.COMMAND ws.length 1 = true) ∧
  ((decide (ws.length < 2 ∨ 256 < ws.length) || decide (bytes.length < want ∨ want + 3 < bytes.length)) = false) ∧
  ((!d.msh.attached) = false) ∧
  ((extra w0 0x00FF0FFF || extra (word ws 1) 0xFFFF || !([0x08, 0x11, 0x20, 0x21].contains typ)
       || decide (ttl = 0) || decide (1400 < total) || decide (total ≠ 0 ∧ total ≤ 1016 * chunk) || !whole) = false) :=
  ⟨dv (fun d => ((d.wr A.MSH.MESH_CFG 0xC0000000)).onMsh (fun m => { m with state := .joined })), mpRq, [0x00000308, 4, 0],
   by decide +kernel,
   by decide +kernel⟩

theorem w_MeshTrafficComplete_leaseGet : ∃ (σ : State) (rq : Rq) (ws : List Word),
  (σ.dev.serves .msh = true) ∧
  let d := σ.dev.asked .msh
  let a := bitsOf (word ws 0) 9 0
  (σ.dev.takes rq OP.COMMAND ws.length 3 = true) ∧
  (¬ (ws.length ≠ 1)) ∧
  (¬ (d.msh.state ≠ .root)) ∧
  ((extra (word ws 0) 0x3FF) = false) :=
  ⟨dv (fun d => ((d.wr A.MSH.MESH_CFG 0xC0000000)).onMsh (fun m => { m with state := .root })), mpRq, [0x3FF],
   by decide +kernel,
   by decide +kernel⟩

theorem w_MeshTrafficComplete_meshKeySet : ∃ (σ : State) (rq : Rq) (ws : List Word),
  (σ.dev.serves .msh = true) ∧
  (σ.dev.takes rq OP.COMMAND ws.length 0 = true) ∧
  (¬ (ws.length ≠ 8)) ∧
  (rq.src.isAcp = false) :=
  ⟨T0, mpRq, (List.replicate 8 0),
   by decide +kernel⟩

theorem w_MeshTrafficComplete_msgGet : ∃ (s : State) (rq : Rq) (ws : List Word) (d : Dev) (m : MeshMsg) (l : List MeshMsg),
  (s.dev.serves .msh = true) ∧
  (d = s.dev.asked .msh) ∧
  (s.dev.takes rq OP.COMMAND ws.length 256 = true) ∧
  (ws = []) ∧
  (d.msh.inbox = m :: l) :=
  ⟨dv (fun d => ((d.wr A.MSH.MESH_CFG 0xC0000000)).onMsh (fun m => { m with inbox := [blankMeshMsg] })), mpRq, _, _, (blankMeshMsg), [],
   by decide +kernel,
   rfl,
   by decide +kernel,
   rfl,
   by decide +kernel⟩

theorem w_SupervisionCommandsComplete_wdogFirst : ∃ (s : State) (d : Dev),
  (d = s.dev.at_ (s.dev.mgt.wdogAt + msT (s.dev.fld A.MGT.WDOG 15 0))) ∧
  (∀ t, s.dev.mgt.lastWdog = some t → t + sT 10 ≤ d.tb) :=
  ⟨T0, _,
   rfl,
   (by intro t h; cases h)⟩

theorem w_SupervisionCommandsComplete_wdogAgain : ∃ (s : State) (d : Dev) (t : Nat),
  (d = s.dev.at_ (s.dev.mgt.wdogAt + msT (s.dev.fld A.MGT.WDOG 15 0))) ∧
  (s.dev.mgt.lastWdog = some t) ∧
  (d.tb < t + sT 10) :=
  ⟨dv (fun d => (d).onMgt (fun m => { m with lastWdog := some 0 })), _, 0,
   rfl,
   by decide +kernel⟩

theorem w_SupervisionCommandsComplete_wdog : ∃ (s : State) (rq : Rq) (v : Word),
  (s.dev.accepts rq (A.MGT.WDOG) (v) .mgt = true) :=
  ⟨T0, mpRq, 100,
   by decide +kernel⟩

theorem w_SupervisionCommandsComplete_restartDone : ∃ (s : State) (d1 : Dev),
  (s.dev.mgt.restarting = true) ∧
  (d1 = ({ s.dev with mgt := { s.dev.mgt with restarting := false, warm := true, stage := 2, wdogAt := s.dev.tb }, mp := s.dev.mpLoadFw s.dev.mp.dmem } : Dev)) :=
  ⟨dv (fun d => (d).onMgt (fun m => { m with restarting := true })), _,
   by decide +kernel,
   rfl⟩

theorem w_SupervisionCommandsComplete_dramWin : ∃ (s : State) (rq : Rq) (v : Word),
  (s.dev.accepts rq (A.MGT.DRAM_WIN) (v) .mgt = true) :=
  ⟨T0, mpRq, 0,
   by decide +kernel⟩

theorem w_SupervisionCommandsComplete_hot : ∃ (s : State) (k : Nat) (x : Int) (d : Dev) (y : Int),
  (d = ({ s.dev with mgt := { s.dev.mgt with temps := s.dev.mgt.temps.set k x } } : Dev)) ∧
  (y ∈ d.mgt.temps) ∧
  (8 * signed 8 (d.fld A.MGT.TEMP_CFG 7 0) ≤ y) ∧
  (bitOf (d.blk .mgt).cause Cause.MGT.TEMP_WARN = false) :=
  ⟨T0, 0, 2000, _, 2000,
   rfl,
   by decide +kernel⟩

theorem w_SupervisionCommandsComplete_crosses : ∃ (s : State) (k : Nat) (x : Int) (d : Dev),
  (d = ({ s.dev with mgt := { s.dev.mgt with temps := s.dev.mgt.temps.set k x } } : Dev)) ∧
  (∃ z ∈ s.dev.mgt.temps.zip d.mgt.temps, z.1 < 8 * signed 8 (d.fld A.MGT.TEMP_CFG 7 0) ∧ 8 * signed 8 (d.fld A.MGT.TEMP_CFG 7 0) ≤ z.2) ∧
  (bitOf (d.blk .mgt).cause Cause.MGT.TEMP_WARN = true) :=
  ⟨dv (fun d => d.setBlk .mgt { d.blk .mgt with cause := 0xFFFFFFFF }), 0, 2000, _,
   rfl,
   by decide +kernel⟩

theorem w_SupervisionCommandsComplete_cool : ∃ (s : State) (k : Nat) (x : Int) (d : Dev),
  (d = ({ s.dev with mgt := { s.dev.mgt with temps := s.dev.mgt.temps.set k x } } : Dev)) ∧
  (∀ y ∈ d.mgt.temps, y < 8 * signed 8 (d.fld A.MGT.TEMP_CFG 7 0) - 8 * (d.fld A.MGT.TEMP_CFG 15 8 : Int)) ∧
  (bitOf (d.blk .mgt).cause Cause.MGT.TEMP_WARN = true) :=
  ⟨dv (fun d => d.setBlk .mgt { d.blk .mgt with cause := 0xFFFFFFFF }), 0, 0, _,
   rfl,
   by decide +kernel⟩

theorem w_SupervisionCommandsComplete_trip : ∃ (s : State) (k : Nat) (t : Int) (d : Dev),
  (1000 ≤ t) ∧
  (s.dev.pmu.state = .run ∨ s.dev.pmu.state = .idle ∨ s.dev.pmu.state = .sleep) ∧
  (d = s.dev.hciEndAll.dropFrames.aonPins) :=
  ⟨T0, 0, 1000, _,
   by decide +kernel,
   by decide +kernel,
   rfl⟩

theorem w_SupervisionCommandsComplete_commitTimer : ∃ (s : State),
  (s.dev.mgt.uncommitted ≠ []) :=
  ⟨dv (fun d => (d).onMgt (fun m => { m with ring := [{ blankBltRec with seq := 1 }] })),
   by decide +kernel⟩

theorem w_SupervisionCommandsComplete_commitNone : ∃ (s : State) (rq : Rq) (ws : List Word),
  (s.dev.serves .mgt = true) ∧
  (s.dev.takes rq OP.COMMAND ws.length 0 = true) ∧
  (ws = []) ∧
  ((s.dev.asked .mgt).mgt.uncommitted = []) :=
  ⟨T0, mpRq, _,
   by decide +kernel,
   by decide +kernel,
   rfl,
   by decide +kernel⟩

theorem w_SupervisionCommandsComplete_commitLater : ∃ (s : State) (rq : Rq) (ws : List Word) (m : Mgt),
  (s.dev.serves .mgt = true) ∧
  (s.dev.takes rq OP.COMMAND ws.length 0 = true) ∧
  (ws = []) ∧
  (m = (s.dev.asked .mgt).mgt) ∧
  (m.uncommitted ≠ []) ∧
  ((m.vinWarn && !m.failCommit && !m.flashBusy) = false) ∧
  (m.flashFail = false) :=
  ⟨dv (fun d => (d).onMgt (fun m => { m with ring := [{ blankBltRec with seq := 1 }] })), mpRq, _, _,
   by decide +kernel,
   by decide +kernel,
   rfl,
   rfl,
   by decide +kernel⟩

theorem w_SupervisionCommandsComplete_bltRead : ∃ (s : State) (rq : Rq) (ws : List Word) (m : Mgt) (recs : List BltRec),
  (s.dev.serves .mgt = true) ∧
  (m = (s.dev.asked .mgt).mgt) ∧
  (∀ r, m.records.head? = some r → r.seq ≤ (word ws 0).toNat) ∧
  (recs = (m.records.filter (fun r => decide ((word ws 0).toNat ≤ r.seq))).take (min 32 (replyRoom rq.src (decide (rq.flags % 2 = 1)) / 8))) ∧
  (s.dev.takes rq OP.COMMAND ws.length ((recs.map BltRec.toWords).flatten).length = true) ∧
  (ws.length = 1) :=
  ⟨T0, mpRq, [0], _, _,
   by decide +kernel,
   rfl,
   by decide +kernel,
   rfl,
   by decide +kernel⟩

theorem w_SupervisionCommandsComplete_flashOk : ∃ (s : State) (m : Mgt) (rest : List BltRec) (done : Bool) (d1 : Dev),
  (s.dev.mgt.flashBusy = true) ∧
  (m = s.dev.mgt) ∧
  (rest = m.uncommitted.filter (fun r => decide (m.committing < r.seq))) ∧
  (done = true ↔ ∃ n, m.bltWait = some n ∧ n ≤ m.committing) ∧
  (d1 = ({ s.dev with mgt := { m with flash := { m.flash with blotter := bltKeep (m.flash.blotter ++ [m.uncommitted.filter (fun r => decide (r.seq ≤ m.committing))]), reservation := m.committing + 17 }, commitSeq := m.committing, committing := 0, flashBusy := false, flashTries := 0, bltWait := (if done then none else m.bltWait), openSince := (match rest with | r :: _ => (r.time - m.epoch) * 256 | [] => m.openSince) } } : Dev).event 3) :=
  ⟨dv (fun d => (d).onMgt (fun m => { m with flashBusy := true })), _, _, false, _,
   by decide +kernel,
   rfl,
   rfl,
   ⟨(by intro h; cases h), (by rintro ⟨n, h, _⟩; cases h)⟩,
   rfl⟩

theorem w_SupervisionCommandsComplete_flashRetry : ∃ (s : State),
  (s.dev.mgt.flashBusy = true) ∧
  (s.dev.mgt.flashTries = 0) :=
  ⟨dv (fun d => (d).onMgt (fun m => { m with flashBusy := true })),
   by decide +kernel⟩

theorem w_SupervisionCommandsComplete_flashFail : ∃ (s : State) (d1 : Dev),
  (s.dev.mgt.flashBusy = true) ∧
  (s.dev.mgt.flashTries ≠ 0) ∧
  (d1 = (({ s.dev with mgt := { s.dev.mgt with flashTries := 0, flashBusy := false, committing := 0, flashFail := true, bltWait := none } } : Dev).event 3).raise .mgt Cause.MGT.FLASH_FAIL) :=
  ⟨dv (fun d => (d).onMgt (fun m => { m with flashBusy := true, flashTries := 1 })), _,
   by decide +kernel,
   by decide +kernel,
   rfl⟩

theorem w_SupervisionCommandsComplete_eraseRetry : ∃ (s : State),
  (s.dev.mgt.flashBusy = false) ∧
  (s.dev.mgt.upd = .erasing) ∧
  (s.dev.mgt.flashTries = 0) :=
  ⟨dv (fun d => (d).onMgt (fun m => { m with upd := .erasing })),
   by decide +kernel⟩

theorem w_SupervisionCommandsComplete_eraseFail : ∃ (s : State),
  (s.dev.mgt.flashBusy = false) ∧
  (s.dev.mgt.upd = .erasing) ∧
  (s.dev.mgt.flashTries ≠ 0) :=
  ⟨dv (fun d => (d).onMgt (fun m => { m with upd := .erasing, flashTries := 1 })),
   by decide +kernel⟩

theorem w_SupervisionCommandsComplete_vinWarn : ∃ (s : State) (mv : Nat) (d : Dev),
  (s.dev.mgt.vinWarn = false) ∧
  (mv < s.dev.fld A.PMU.VIN_CFG 15 0) ∧
  (s.dev.pmu.state ≠ .held) ∧
  (s.dev.pmu.state ≠ .off) ∧
  (d = (((({ s.dev with mgt := { s.dev.mgt with volts := s.dev.mgt.volts.set 0 mv, vinWarn := true } } : Dev)).count A.PMU.VIN_WARN_CNT).event 5).raise .pmu Cause.PMU.VIN_WARN) :=
  by refine ⟨T0, 0, _,
   ?_, ?_, ?_, ?_, rfl⟩ <;> decide +kernel

theorem w_SupervisionCommandsComplete_vinClear : ∃ (s : State) (mv : Nat),
  (s.dev.mgt.vinWarn = true) ∧
  (s.dev.fld A.PMU.VIN_CFG 15 0 + 200 < mv) :=
  ⟨dv (fun d => (d).onMgt (fun m => { m with vinWarn := true })), 65535,
   by decide +kernel⟩

theorem w_FirmwareCommandsComplete_bootDue : ∃ (s : State) (x : BootSeen) (t : Nat) (c : Nat),
  (s.dev.mgt.resetDue = some (t, c)) ∧
  (s.dev.pmu.state ≠ .held) ∧
  (s.dev.pmu.state ≠ .off) :=
  ⟨dv (fun d => (d).onMgt (fun m => { m with resetDue := some (5, 2) })), (blankBootSeen), _, _,
   (Option.some_get (by decide +kernel)).symm,
   by decide +kernel⟩

theorem w_FirmwareCommandsComplete_boot : ∃ (s : State) (x : BootSeen),
  (s.dev.pmu.state = .booting) ∧
  (s.dev.mgt.resetDue = none) :=
  ⟨dv (fun d => (d).onPmu (fun m => { m with state := .booting })), (blankBootSeen),
   by decide +kernel⟩

theorem w_FirmwareCommandsComplete_updBegin : ∃ (σ : State) (rq : Rq) (ws : List Word),
  (σ.dev.serves .mgt = true) ∧
  let d := σ.dev.asked .mgt
  let len := (word ws 0).toNat
  ((σ.dev.asked .mgt).mgt.vinWarn = false) ∧
  (σ.dev.takes rq OP.COMMAND ws.length 0 = true) ∧
  (¬ (ws.length ≠ 1)) ∧
  ((outside len 1 (8 * 2 ^ 20)) = false) ∧
  (¬ (d.mgt.upd ≠ .idle ∧ d.mgt.upd ≠ .failed)) :=
  ⟨T0, mpRq, [8388608],
   by decide +kernel,
   by decide +kernel⟩

theorem w_FirmwareCommandsComplete_eraseDone : ∃ (s : State),
  (s.dev.mgt.upd = .erasing) :=
  ⟨dv (fun d => (d).onMgt (fun m => { m with upd := .erasing })),
   by decide +kernel⟩

theorem w_FirmwareCommandsComplete_updWrite : ∃ (s : State) (rq : Rq) (ws : List Word) (m : Mgt) (got : List Byte),
  (s.dev.serves .mgt = true) ∧
  (m = (s.dev.asked .mgt).mgt) ∧
  (s.dev.takes rq OP.COMMAND ws.length 0 = true) ∧
  (m.vinWarn = false) ∧
  (m.upd = .receiving) ∧
  ((word ws 0).toNat = m.updGot) ∧
  (2 ≤ ws.length) ∧
  (ws.length ≤ 255) ∧
  ((wordsBytes (ws.drop 1)).length ≤ m.updLen - m.updGot + 3) ∧
  (got = (wordsBytes (ws.drop 1)).take (m.updLen - m.updGot)) :=
  by refine ⟨dv (fun d => (d).onMgt (fun m => { m with upd := .receiving, updLen := 4 })), mpRq, [0, 7], _, _,
   ?_, rfl, ?_, ?_, ?_, ?_, ?_, ?_, ?_, rfl⟩ <;> decide +kernel

def wPre : List Byte := [0x53, 0x50, 0x57, 0x49, 1, 0, 6, 0, 0, 0x10, 0, 0] ++ List.replicate 116 0
def wHash : List Byte := (natBytes 48 (Config.sha384 []).toNat).reverse
def wComp (i : Nat) : List Byte := [BitVec.ofNat 8 i, 0, 0, 0, 0, 0x10, 0, 0, 0, 0, 0, 0, 0, 0, 0, 0] ++ wHash
/-- An image of six empty components. -/
def wImage : List Byte := wPre ++ (wComp 1 ++ (wComp 2 ++ (wComp 3 ++ (wComp 4 ++ (wComp 5 ++ (wComp 6 ++ List.replicate 3584 0))))))
theorem natBytes_length (n v : Nat) : (natBytes n v).length = n := by
  induction n generalizing v with
  | zero => rfl
  | succ n ih => rw [natBytes, List.length_cons, ih]
theorem wComp_length (i : Nat) : (wComp i).length = 64 := by simp [wComp, wHash, natBytes_length]
theorem wImage_length : wImage.length = 4096 := by
  have hp : wPre.length = 128 := by rfl
  rw [wImage]
  simp only [List.length_append, hp, wComp_length, List.length_replicate]
theorem beNat_append (a b : List Byte) : beNat (a ++ b) = beNat a * 256 ^ b.length + beNat b := by
  have h : ∀ (b : List Byte) (n : Nat), b.foldl (fun n b => 256 * n + b.toNat) n = n * 256 ^ b.length + b.foldl (fun n b => 256 * n + b.toNat) 0 := by
    intro b
    induction b with
    | nil => intro n; simp
    | cons x l ih => intro n; rw [List.foldl_cons, List.foldl_cons, ih, ih (256 * 0 + x.toNat), List.length_cons, Nat.pow_succ, Nat.add_mul, Nat.mul_zero, Nat.zero_add,
        Nat.mul_comm 256 n, Nat.mul_comm (256 ^ l.length) 256, Nat.mul_assoc, Nat.add_assoc]
  rw [beNat, List.foldl_append, h, beNat, beNat]
theorem beNat_natBytes (n v : Nat) : beNat (natBytes n v).reverse = v % 256 ^ n := by
  induction n generalizing v with
  | zero => simp [natBytes, beNat, Nat.mod_one]
  | succ n ih =>
    rw [natBytes, List.reverse_cons, beNat_append, ih]
    simp only [beNat, List.foldl_cons, List.foldl_nil, List.length_cons, List.length_nil, BitVec.toNat_ofNat]
    have := Nat.mod_mul (x := v) (a := 256) (b := 256 ^ n)
    rw [Nat.pow_succ 256 n, Nat.mul_comm (256 ^ n) 256, this]
    omega
theorem wHash_num : beNat wHash = (Config.sha384 []).toNat := by
  rw [wHash, beNat_natBytes, Nat.mod_eq_of_lt]
  exact Nat.lt_of_lt_of_le (Config.sha384 []).isLt (by decide)
theorem drop_at {a b : List Byte} {n : Nat} (h : a.length = n) : (a ++ b).drop n = b := List.drop_left' h
theorem wEntry {l a b : List Byte} {i n : Nat} (hl : l = a ++ (wComp i ++ b)) (h : a.length = n) : (l.drop n).take 64 = wComp i := by
  rw [hl, List.drop_left' h, List.take_left' (wComp_length i)]
theorem wImage_at (i : Nat) (hi : i < 6) : (wImage.drop (128 + 64 * i)).take 64 = wComp (i + 1) := by
  have hp : wPre.length = 128 := by rfl
  have hc := wComp_length
  match i, hi with
  | 0, _ => exact wEntry (a := wPre) rfl (by simp [hp])
  | 1, _ => exact wEntry (a := wPre ++ wComp 1) (by simp only [wImage, List.append_assoc]; rfl) (by simp only [List.length_append, hp, hc])
  | 2, _ => exact wEntry (a := wPre ++ wComp 1 ++ wComp 2) (by simp only [wImage, List.append_assoc]; rfl) (by simp only [List.length_append, hp, hc])
  | 3, _ => exact wEntry (a := wPre ++ wComp 1 ++ wComp 2 ++ wComp 3) (by simp only [wImage, List.append_assoc]; rfl) (by simp only [List.length_append, hp, hc])
  | 4, _ => exact wEntry (a := wPre ++ wComp 1 ++ wComp 2 ++ wComp 3 ++ wComp 4) (by simp only [wImage, List.append_assoc]; rfl) (by simp only [List.length_append, hp, hc])
  | 5, _ => exact wEntry (a := wPre ++ wComp 1 ++ wComp 2 ++ wComp 3 ++ wComp 4 ++ wComp 5) (by simp only [wImage, List.append_assoc]; rfl) (by simp only [List.length_append, hp, hc])
theorem wImage_parts : imageParts wImage = (List.range 6).map (fun i => { typ := i + 1, off := 4096, bytes := [], hash := (Config.sha384 []).toNat }) := by
  have hn : leNat ((wImage.drop 6).take 2) = 6 := by rfl
  unfold imageParts
  rw [hn]
  apply List.map_congr_left
  intro i hi
  rw [List.mem_range] at hi
  simp only [wImage_at i hi]
  have h1 : byteAt (wComp (i + 1)) 0 = i + 1 := by
    match i, hi with
    | 0, _ | 1, _ | 2, _ | 3, _ | 4, _ | 5, _ => rfl
  have h2 : leNat (((wComp (i + 1)).drop 4).take 4) = 4096 := rfl
  have h3 : leNat (((wComp (i + 1)).drop 8).take 4) = 0 := rfl
  have h4 : ((wComp (i + 1)).drop 16).take 48 = wHash := by
    rw [wComp, List.drop_left' (by rfl)]
    exact List.take_of_length_le (by simp [wHash, natBytes_length])
  rw [h1, h2, h3, h4, wHash_num]
  rfl
theorem zeros_entry {i a b : Nat} (hi : i < 6) (hb : b ≤ 64) (h : zeros (wComp (i + 1)) a b = true) :
    zeros wImage (128 + 64 * i + a) (128 + 64 * i + b) = true := by
  have e : (wImage.take (128 + 64 * i + b)).drop (128 + 64 * i + a) = ((wComp (i + 1)).take b).drop a := by
    rw [← wImage_at i hi, List.take_take, Nat.min_eq_left hb, ← List.drop_drop, List.drop_take (i := 128 + 64 * i) ]
    congr 2
    omega
  rw [zeros, e]
  exact h
theorem field_entry {i a b : Nat} (hi : i < 6) (hb : a + b ≤ 64) :
    (wImage.drop (128 + 64 * i + a)).take b = ((wComp (i + 1)).drop a).take b := by
  rw [← wImage_at i hi, List.drop_take, List.take_take, List.drop_drop, Nat.min_eq_left (by omega)]
theorem zeros_last : zeros wImage 1248 4096 = true := by
  have h : wImage = (wPre ++ wComp 1 ++ wComp 2 ++ wComp 3 ++ wComp 4 ++ wComp 5 ++ wComp 6 ++ List.replicate 736 0) ++ List.replicate 2848 0 := by
    have : List.replicate 3584 (0 : Byte) = List.replicate 736 0 ++ List.replicate 2848 0 := by
      rw [List.replicate_append_replicate]
    rw [wImage, this]; simp only [List.append_assoc]
  rw [zeros, List.take_of_length_le (Nat.le_of_eq wImage_length), h, List.drop_left' (by simp only [List.length_append, wComp_length, List.length_replicate] <;> rfl)]
  rw [List.all_eq_true]
  intro x hx
  rw [List.eq_of_mem_replicate hx]
  rfl
theorem wImage_shape : imageShape wImage = true := by
  unfold imageShape
  simp only [wImage_parts, wImage_length, zeros_last]
  have hn : leNat ((wImage.drop 6).take 2) = 6 := by rfl
  have hl : leNat ((wImage.drop 8).take 4) = 4096 := by rfl
  have hm : leNat (wImage.take 4) = 0x49575053 := by rfl
  have hv : leNat ((wImage.drop 12).take 4) = 0 := by rfl
  have h5 : byteAt wImage 5 = 0 := by rfl
  have z1 : zeros wImage 20 24 = true := by rfl
  have z2 : zeros wImage 121 128 = true := by rfl
  have hr : ((List.range 6).all (fun i => zeros wImage (128 + 64 * i + 1) (128 + 64 * i + 4)
      && zeros wImage (128 + 64 * i + 12) (128 + 64 * i + 16)
      && decide (leNat ((wImage.drop (128 + 64 * i + 4)).take 4) + leNat ((wImage.drop (128 + 64 * i + 8)).take 4) ≤ 4096))) = true := by
    rw [List.all_eq_true]
    intro i hi
    rw [List.mem_range] at hi
    rw [zeros_entry hi (by omega) rfl, zeros_entry hi (by omega) rfl, field_entry hi (by omega), field_entry hi (by omega)]
    rfl
  rw [hn, hl, hm, hv, h5, z1, z2, hr]
  rfl
theorem wImage_verify {d : Dev} (h : d.unsignedOk = true) (hf : d.mgt.flashFail = false) : d.verify wImage = none := by
  unfold Dev.verify
  have h4 : byteAt wImage 4 = 1 := by rfl
  have ha : ((imageParts wImage).any (fun p => decide (partLimit p.typ < p.bytes.length) || decide ((Config.sha384 p.bytes).toNat ≠ p.hash))) = false := by
    rw [wImage_parts, List.any_eq_false]
    intro p hp
    rw [List.mem_map] at hp
    obtain ⟨i, _, rfl⟩ := hp
    simp
  simp only [h4, wImage_shape, h, ha, hf]
  rfl

theorem w_FirmwareCommandsComplete_updFinish : ∃ (s : State) (rq : Rq) (ws : List Word) (d0 : Dev),
  (s.dev.serves .mgt = true) ∧
  (d0 = s.dev.asked .mgt) ∧
  (s.dev.takes rq OP.COMMAND ws.length 0 = true) ∧
  (ws = []) ∧
  (d0.mgt.vinWarn = false) ∧
  (d0.mgt.upd = .receiving) ∧
  (d0.mgt.updGot = d0.mgt.updLen) ∧
  (d0.verify d0.mgt.updBytes = none) :=
  by refine ⟨dv (fun d => (d).onMgt (fun m => { m with upd := .receiving, updBytes := wImage })), mpRq, _, _,
   ?_, rfl, ?_, rfl, ?_, ?_, rfl, wImage_verify (by decide +kernel) rfl⟩ <;> decide +kernel

theorem w_FirmwareCommandsComplete_updActivate : ∃ (σ : State) (rq : Rq) (ws : List Word),
  (σ.dev.serves .mgt = true) ∧
  let d := σ.dev.asked .mgt
  ((σ.dev.asked .mgt).mgt.vinWarn = false) ∧
  (σ.dev.takes rq OP.COMMAND ws.length 0 = true) ∧
  (¬ (ws.length ≠ 0)) ∧
  (¬ (d.mgt.upd ≠ .ready)) :=
  ⟨dv (fun d => (d).onMgt (fun m => { m with upd := .ready })), mpRq, [],
   by decide +kernel,
   by decide +kernel⟩

theorem w_FirmwareCommandsComplete_updConfirm : ∃ (σ : State) (rq : Rq) (ws : List Word),
  (σ.dev.serves .mgt = true) ∧
  let d := σ.dev.asked .mgt
  ((σ.dev.asked .mgt).mgt.vinWarn = false) ∧
  (σ.dev.takes rq OP.COMMAND ws.length 0 = true) ∧
  (¬ (ws.length ≠ 0)) ∧
  (¬ (d.mgt.upd ≠ .trial)) :=
  ⟨dv (fun d => (d).onMgt (fun m => { m with upd := .trial })), mpRq, [],
   by decide +kernel,
   by decide +kernel⟩

theorem w_FirmwareCommandsComplete_updAbort : ∃ (σ : State) (rq : Rq) (ws : List Word),
  (σ.dev.serves .mgt = true) ∧
  let d := σ.dev.asked .mgt
  ((σ.dev.asked .mgt).mgt.vinWarn = false) ∧
  (σ.dev.takes rq OP.COMMAND ws.length 0 = true) ∧
  (¬ (ws.length ≠ 0)) ∧
  (¬ (d.mgt.upd = .idle ∨ d.mgt.upd = .trial)) :=
  ⟨dv (fun d => (d).onMgt (fun m => { m with upd := .receiving })), mpRq, [],
   by decide +kernel,
   by decide +kernel⟩

theorem w_FirmwareCommandsComplete_trialEnd : ∃ (s : State) (t : Nat) (d1 : Dev),
  (s.dev.mgt.trialDue = some t) ∧
  (s.dev.mgt.upd = .trial) ∧
  (d1 = s.dev.at_ t) :=
  ⟨dv (fun d => (d).onMgt (fun m => { m with upd := .trial, trialDue := some 9 })), _, _,
   (Option.some_get (by decide +kernel)).symm,
   by decide +kernel,
   rfl⟩

theorem w_FirmwareCommandsComplete_cfgStage : ∃ (σ : State) (rq : Rq) (ws : List Word),
  (σ.dev.serves .mgt = true) ∧
  let d := σ.dev.asked .mgt
  let cs := writesOf ws
  ((σ.dev.asked .mgt).mgt.vinWarn = false) ∧
  (σ.dev.takes rq OP.COMMAND ws.length 0 = true) ∧
  (¬ (ws.length = 0 ∨ 254 < ws.length ∨ ws.length % 2 = 1)) ∧
  ((cs.any (fun e => decide (2 ^ 24 ≤ e.1) || (blkOfPage (e.1 / 4096)).isNone)) = false) ∧
  (¬ (512 < d.mgt.staged.length + cs.length)) :=
  ⟨T0, mpRq, [BitVec.ofNat 32 A.PMU.WAKE_EN, 1],
   by decide +kernel,
   by decide +kernel⟩

theorem w_FirmwareCommandsComplete_cfgCommit : ∃ (s : State) (rq : Rq) (ws : List Word) (m : Mgt),
  (s.dev.serves .mgt = true) ∧
  (s.dev.takes rq OP.COMMAND ws.length 0 = true) ∧
  (ws = []) ∧
  (m = (s.dev.asked .mgt).mgt) ∧
  (m.vinWarn = false) ∧
  (m.flashFail = false) :=
  ⟨T0, mpRq, _, _,
   by decide +kernel,
   by decide +kernel,
   rfl,
   rfl,
   by decide +kernel⟩

theorem w_FirmwareCommandsComplete_cfgDiscard : ∃ (σ : State) (rq : Rq) (ws : List Word),
  (σ.dev.serves .mgt = true) ∧
  ((σ.dev.asked .mgt).mgt.vinWarn = false) ∧
  (σ.dev.takes rq OP.COMMAND ws.length 0 = true) ∧
  (¬ (ws.length ≠ 0)) :=
  ⟨T0, mpRq, [],
   by decide +kernel⟩

theorem w_FirmwareCommandsComplete_otpKey : ∃ (σ : State) (rq : Rq) (ws : List Word),
  (σ.dev.serves .mgt = true) ∧
  let d := σ.dev.asked .mgt
  let k := bitsOf (word ws 0) 1 0
  ((σ.dev.asked .mgt).mgt.vinWarn = false) ∧
  (σ.dev.takes rq OP.COMMAND ws.length 0 = true) ∧
  (¬ (ws.length ≠ 13)) ∧
  (¬ (d.mgt.otp.lc ≠ .provision)) ∧
  (rq.src.isAcp = false) ∧
  (((tabFind d.mgt.otp.keys k).isSome) = false) ∧
  ((extra (word ws 0) 3) = false) :=
  ⟨dv (fun d => (d).onMgt (fun m => { m with otp := { m.otp with lc := .provision } })), mpRq, (3 :: List.replicate 12 0),
   by decide +kernel,
   by decide +kernel⟩

theorem w_FirmwareCommandsComplete_keyRevoke : ∃ (σ : State) (rq : Rq) (ws : List Word),
  (σ.dev.serves .mgt = true) ∧
  let d := σ.dev.asked .mgt
  let k := (word ws 0).toNat
  let o := d.mgt.otp
  let others := (tabKeys o.keys).filter (fun i => decide (i ≠ k) && !d.keyRevoked i)
  ((σ.dev.asked .mgt).mgt.vinWarn = false) ∧
  (σ.dev.takes rq OP.COMMAND ws.length 0 = true) ∧
  (¬ (ws.length ≠ 1)) ∧
  (rq.src.isAcp = false) ∧
  (¬ (3 < k)) ∧
  ((!d.mgt.unsigned && decide (d.mgt.stage = 2) && decide (byteAt d.mgt.running.image 5 = k)) = false) ∧
  (others.isEmpty = false) :=
  ⟨dv (fun d => (d).onMgt (fun m => { m with otp := { m.otp with keys := [(0, 7), (1, 8)] }, stage := 1 })), mpRq, [1],
   by decide +kernel,
   by decide +kernel⟩

def wReg : List Word := 0x00010000 :: (List.replicate 62 0 ++ [0x63fe8952])
def wRegPart (i : Nat) : List Byte := if i = 0 then 0 :: 0 :: 1 :: List.replicate 33 0 else List.replicate 36 0
def wRegFold (c : BitVec 32) (i : Nat) : BitVec 32 := (wRegPart i).foldl (fun c b => Nat.repeat crc32Bit 8 (c ^^^ b.setWidth 32)) c
theorem wRegFold0 : wRegFold 0xffffffff 0 = 0xb1cb1c1c := by decide +kernel
theorem wRegFold1 : wRegFold 0xb1cb1c1c 1 = 0xa95b7cc6 := by decide +kernel
theorem wRegFold2 : wRegFold 0xa95b7cc6 2 = 0x803741a3 := by decide +kernel
theorem wRegFold3 : wRegFold 0x803741a3 3 = 0xd8622df4 := by decide +kernel
theorem wRegFold4 : wRegFold 0xd8622df4 4 = 0xec26e8f := by decide +kernel
theorem wRegFold5 : wRegFold 0xec26e8f 5 = 0xc5f63164 := by decide +kernel
theorem wRegFold6 : wRegFold 0xc5f63164 6 = 0x9c0176ad := by decide +kernel
theorem wReg_ok : rglPageOk wReg = true := by
  have h : wordsBytes ((List.range 63).map (fun i => if i = 0 then word wReg 0 &&& 0x7FFFFFFF else word wReg i)) =
      ((((((wRegPart 0 ++ wRegPart 1) ++ wRegPart 2) ++ wRegPart 3) ++ wRegPart 4) ++ wRegPart 5) ++ wRegPart 6) := by decide +kernel
  have f : rglCrc wReg = ~~~ (wRegFold (wRegFold (wRegFold (wRegFold (wRegFold (wRegFold (wRegFold 0xFFFFFFFF 0) 1) 2) 3) 4) 5) 6) := by
    rw [rglCrc, h, crc32, List.foldl_append, List.foldl_append, List.foldl_append, List.foldl_append, List.foldl_append, List.foldl_append]; rfl
  have g : rglCrc wReg = word wReg 63 := by
    rw [f, wRegFold0, wRegFold1, wRegFold2, wRegFold3, wRegFold4, wRegFold5, wRegFold6]
    decide +kernel
  unfold rglPageOk
  rw [g]
  decide +kernel

theorem w_FirmwareCommandsComplete_otpReg : ∃ (σ : State) (rq : Rq) (ws : List Word),
  (σ.dev.serves .mgt = true) ∧
  let d := σ.dev.asked .mgt
  ((σ.dev.asked .mgt).mgt.vinWarn = false) ∧
  (σ.dev.takes rq OP.COMMAND ws.length 0 = true) ∧
  (¬ (ws.length ≠ 64)) ∧
  (¬ (d.mgt.otp.lc ≠ .provision)) ∧
  (rq.src.isAcp = false) ∧
  ((bitOf (tabGet 0 d.mgt.otp.reg 0) 31) = false) ∧
  ((!rglPageOk ws) = false) :=
  by refine ⟨dv (fun d => (d).onMgt (fun m => { m with otp := { m.otp with lc := .provision } })), mpRq, wReg,
   ?_, ?_, ?_, ?_, ?_, ?_, ?_, (by rw [wReg_ok]; rfl)⟩ <;> decide +kernel

theorem w_FirmwareCommandsComplete_lcAdvance : ∃ (σ : State) (rq : Rq) (ws : List Word),
  (σ.dev.serves .mgt = true) ∧
  let d := σ.dev.asked .mgt
  let w := word ws 0
  let dest := lifeOf (bitsOf w 2 0)
  let need := if bitsOf w 2 0 = 4 then 51 else 1
  let l := dest.getD .end_
  ((σ.dev.asked .mgt).mgt.vinWarn = false) ∧
  (σ.dev.takes rq OP.COMMAND ws.length 0 = true) ∧
  (¬ (ws.length ≠ need)) ∧
  (rq.src.isAcp = false) ∧
  ((extra w 7 || (decide (need = 51) && decide (((wordsBytes ws).drop 105).take 3 ≠ [0, 0, 0]))) = false) ∧
  ((dest.isNone || !d.lifeOk l ws) = false) :=
  ⟨T0, mpRq, [1],
   by decide +kernel,
   by decide +kernel⟩

theorem w_FirmwareCommandsComplete_lcNonce : ∃ (σ : State) (rq : Rq) (ws : List Word),
  (σ.dev.serves .mgt = true) ∧
  let d := σ.dev.asked .mgt
  let n := (List.range 4).map (fun i => wd (Config.freeNat (d.free + i)))
  (σ.dev.takes rq OP.COMMAND ws.length 4 = true) ∧
  (¬ (ws.length ≠ 0)) :=
  ⟨T0, mpRq, [],
   by decide +kernel,
   by decide +kernel⟩

theorem w_PowerCommandsComplete_powerOn : ∃ (s : State),
  (s.dev.pmu.state = .held) ∧
  (s.dev.pmu.tripped = false) :=
  ⟨dv (fun d => (d).onPmu (fun m => { m with state := .held })),
   by decide +kernel⟩

theorem w_PowerCommandsComplete_aonLost : ∃ (s : State) (rail : Nat) (d1 : Dev),
  (s.dev.pmu.state ≠ .held) ∧
  (d1 = (s.dev.count A.PMU.BROWNOUT_CNT).hciEndAll.dropFrames.aonPins) :=
  ⟨T0, 0, _,
   by decide +kernel,
   rfl⟩

theorem w_PowerCommandsComplete_brownOut : ∃ (s : State) (rail : Nat) (d1 : Dev),
  (s.dev.pmu.state ≠ .held) ∧
  (d1 = (s.dev.count A.PMU.BROWNOUT_CNT).hciEndAll.dropFrames.aonPins) :=
  ⟨T0, 0, _,
   by decide +kernel,
   rfl⟩

theorem w_PowerCommandsComplete_overcurrent : ∃ (s : State) (ua : Nat),
  (s.dev.pmu.state ≠ .held) ∧
  (s.dev.pmu.state ≠ .off) :=
  ⟨T0, 0,
   by decide +kernel⟩

theorem w_PowerCommandsComplete_entryIdle : ∃ (s : State) (d : Dev),
  (s.dev.pmu.entering = some .idle) ∧
  (d = ({ s.dev with pmu := { s.dev.pmu with entering := none, wakePending := none, state := .idle, exiting := s.dev.pmu.wakePending } } : Dev)) :=
  ⟨dv (fun d => (d).onPmu (fun m => { m with entering := some .idle })), _,
   by decide +kernel,
   rfl⟩

theorem w_PowerCommandsComplete_entrySleep : ∃ (s : State) (d : Dev),
  (s.dev.pmu.entering = some .sleep) ∧
  (d = ({ s.dev with pmu := { s.dev.pmu with entering := none, wakePending := none, state := .sleep, exiting := s.dev.pmu.wakePending } } : Dev)) :=
  ⟨dv (fun d => (d).onPmu (fun m => { m with entering := some .sleep })), _,
   by decide +kernel,
   rfl⟩

theorem w_PowerCommandsComplete_entryDeep : ∃ (s : State) (d : Dev),
  (s.dev.pmu.entering = some .deep) ∧
  (d = ({ s.dev with pmu := { s.dev.pmu with entering := none, wakePending := none, state := .deep, exiting := s.dev.pmu.wakePending } } : Dev)) :=
  ⟨dv (fun d => (d).onPmu (fun m => { m with entering := some .deep })), _,
   by decide +kernel,
   rfl⟩

theorem w_PowerCommandsComplete_entryOff : ∃ (s : State) (d : Dev),
  (s.dev.pmu.entering = some .off) ∧
  (d = ({ s.dev with pmu := { s.dev.pmu with entering := none, wakePending := none, state := .off, exiting := s.dev.pmu.wakePending } } : Dev)) :=
  ⟨dv (fun d => (d).onPmu (fun m => { m with entering := some .off })), _,
   by decide +kernel,
   rfl⟩

theorem w_PowerCommandsComplete_wakeOff : ∃ (s : State),
  (s.dev.pmu.state = .off) :=
  ⟨dv (fun d => (d).onPmu (fun m => { m with state := .off })),
   by decide +kernel⟩

theorem w_PowerCommandsComplete_wakeN : ∃ (s : State),
  (s.dev.pmu.state ≠ .off) ∧
  (s.dev.pmu.state = .idle ∨ s.dev.pmu.entering = some .idle ∨ s.dev.bit A.PMU.WAKE_EN 0 = true) :=
  ⟨T0,
   by decide +kernel⟩

theorem w_PowerCommandsComplete_wakeAt : ∃ (s : State) (p : PwrState),
  (p = s.dev.pmu.entering.getD s.dev.pmu.state) ∧
  (p = .idle ∨ ((p = .sleep ∨ p = .deep) ∧ s.dev.bit A.PMU.WAKE_EN 1 = true)) :=
  ⟨dv (fun d => (d).onPmu (fun m => { m with state := .idle })), _,
   rfl,
   by decide +kernel⟩

theorem w_PowerCommandsComplete_wakeCs : ∃ (s : State) (p : PwrState),
  (p = s.dev.pmu.entering.getD s.dev.pmu.state) ∧
  (p = .idle ∨ ((p = .sleep ∨ p = .deep) ∧ s.dev.bit A.PMU.WAKE_EN 2 = true)) :=
  ⟨dv (fun d => (d).onPmu (fun m => { m with entering := some .idle })), _,
   rfl,
   by decide +kernel⟩

theorem w_PowerCommandsComplete_exitFail : ∃ (s : State) (code : Nat),
  (s.dev.pmu.exiting = some code) ∧
  (s.dev.pmu.state = .deep) :=
  ⟨dv (fun d => (d).onPmu (fun m => { m with state := .deep, exiting := some 1 })), _,
   (Option.some_get (by decide +kernel)).symm,
   by decide +kernel⟩

theorem w_PowerCommandsComplete_exit : ∃ (s : State) (ok : Bool) (code : Nat) (d0 : Dev) (d1 : Dev) (d2 : Dev),
  (s.dev.pmu.exiting = some code) ∧
  (s.dev.pmu.state = .deep → ok = true) ∧
  (d0 = ({ s.dev with pmu := { s.dev.pmu with state := .run, exiting := none, lastState := s.dev.pmu.state.mode, wakeCause := code } } : Dev)) ∧
  (d1 = (if s.dev.pmu.state = .sleep then (if ok = true ∨ d0.mem.ddr ≠ .selfRefresh then d0.ddrWake else d0.trainFailed).tmuWake false else if s.dev.pmu.state = .deep then (d0.onMp (fun c => { c with dmem := d0.fwInto c.dmem })).ddrWake.tmuWake true else d0)) ∧
  (d2 = (d1.wr A.PMU.MODE 0).event 5) :=
  ⟨dv (fun d => (d).onPmu (fun m => { m with state := .sleep, exiting := some 1 })), false, _, _, _, _,
   (Option.some_get (by decide +kernel)).symm,
   by decide +kernel,
   rfl,
   rfl,
   rfl⟩

theorem w_PowerCommandsComplete_gate : ∃ (s : State) (b : Blk) (l : Nat),
  ((s.dev.blk b).clkForce = false) ∧
  (1 < (s.dev.blk b).power) ∧
  ((s.dev.blk b).power ≠ 4) ∧
  (s.dev.idleLevel b = some l) ∧
  (l < (s.dev.blk b).power) :=
  ⟨dv (fun d => d.setBlk .pke { d.blk .pke with power := 3 }), .pke, 2,
   by decide +kernel⟩

theorem w_PowerCommandsComplete_blockWake : ∃ (s : State) (b : Blk),
  ((s.dev.blk b).power = 4) :=
  ⟨dv (fun d => d.setBlk .pke { d.blk .pke with power := 4 }), .pke,
   by decide +kernel⟩

theorem w_SelfTestCommandsComplete_startRadio : ∃ (s : State) (rq : Rq) (ws : List Word) (d : Dev) (c : Nat) (r : Radio),
  (s.dev.serves .bst = true) ∧
  (d = s.dev.asked .bst) ∧
  (s.dev.takes rq OP.COMMAND ws.length 0 = true) ∧
  (c = bitsOf (word ws 0) 7 0) ∧
  (unitOf c = some (.radio r)) ∧
  (d.unitAllowed (.radio r) = true) ∧
  (d.bst.phase = .idle) ∧
  (extra (word ws 0) 0xFF = false) ∧
  (ws.length = 1) :=
  ⟨T0, mpRq, [1], _, _, .a,
   by decide +kernel,
   rfl,
   by decide +kernel,
   rfl,
   by decide +kernel⟩

theorem w_SelfTestCommandsComplete_startQuillTake : ∃ (s : State) (rq : Rq) (ws : List Word) (d : Dev) (c : Nat) (k : Nat) (q : Core) (a : Nat) (b : Nat),
  (s.dev.serves .bst = true) ∧
  (d = s.dev.asked .bst) ∧
  (s.dev.takes rq OP.COMMAND ws.length 0 = true) ∧
  (c = bitsOf (word ws 0) 7 0) ∧
  (unitOf c = some (.quill k)) ∧
  (d.unitAllowed (.quill k) = true) ∧
  (d.bst.phase = .idle) ∧
  (extra (word ws 0) 0xFF = false) ∧
  (ws.length = 1) ∧
  (tabFind d.qar.cores k = some q) ∧
  (q.wait = .take a b) :=
  ⟨dv (fun d => d.onQar (fun q => { q with cores := [(0, { Core.reset false with wait := .take 0 0 })] })), mpRq, [0x10], _, _, 0, { Core.reset false with wait := .take 0 0 }, 0, 0,
   by decide +kernel,
   rfl,
   by decide +kernel,
   rfl,
   by decide +kernel⟩

theorem w_SelfTestCommandsComplete_startQuillStopped : ∃ (s : State) (rq : Rq) (ws : List Word) (d : Dev) (c : Nat) (k : Nat) (q : Core),
  (s.dev.serves .bst = true) ∧
  (d = s.dev.asked .bst) ∧
  (s.dev.takes rq OP.COMMAND ws.length 0 = true) ∧
  (c = bitsOf (word ws 0) 7 0) ∧
  (unitOf c = some (.quill k)) ∧
  (d.unitAllowed (.quill k) = true) ∧
  (d.bst.phase = .idle) ∧
  (extra (word ws 0) 0xFF = false) ∧
  (ws.length = 1) ∧
  (tabFind d.qar.cores k = some q) ∧
  (q.wait = .stopped) :=
  by refine ⟨dv (fun d => d.onQar (fun q => { q with cores := [(0, { Core.reset false with wait := .stopped })] })), mpRq, [0x10], _, _, 0, _,
   ?_, rfl, ?_, rfl, ?_, ?_, ?_, ?_, ?_, (Option.some_get (by decide +kernel)).symm, ?_⟩ <;> decide +kernel

theorem w_SelfTestCommandsComplete_startQuillRuns : ∃ (s : State) (rq : Rq) (ws : List Word) (d : Dev) (c : Nat) (k : Nat) (q : Core),
  (s.dev.serves .bst = true) ∧
  (d = s.dev.asked .bst) ∧
  (s.dev.takes rq OP.COMMAND ws.length 0 = true) ∧
  (c = bitsOf (word ws 0) 7 0) ∧
  (unitOf c = some (.quill k)) ∧
  (d.unitAllowed (.quill k) = true) ∧
  (d.bst.phase = .idle) ∧
  (extra (word ws 0) 0xFF = false) ∧
  (ws.length = 1) ∧
  (tabFind d.qar.cores k = some q) ∧
  (q.wait ≠ .stopped) ∧
  (∀ a b, q.wait ≠ .take a b) :=
  by refine ⟨dv (fun d => d.onQar (fun q => { q with cores := [(0, { Core.reset false with wait := .none })] })), mpRq, [0x10], _, _, 0, { Core.reset false with wait := .none },
   ?_, rfl, ?_, rfl, ?_, ?_, ?_, ?_, ?_, ?_, ?_, (by intro a b h; cases h)⟩ <;> decide +kernel

theorem w_SelfTestCommandsComplete_startEth : ∃ (s : State) (rq : Rq) (ws : List Word) (d : Dev) (c : Nat) (n : Nat),
  (s.dev.serves .bst = true) ∧
  (d = s.dev.asked .bst) ∧
  (s.dev.takes rq OP.COMMAND ws.length 0 = true) ∧
  (c = bitsOf (word ws 0) 7 0) ∧
  (unitOf c = some (.eth n)) ∧
  (d.unitAllowed (.eth n) = true) ∧
  (d.bst.phase = .idle) ∧
  (extra (word ws 0) 0xFF = false) ∧
  (ws.length = 1) ∧
  (d.present (.eth n) = true) :=
  ⟨T0, mpRq, [0x20], _, _, 0,
   by decide +kernel,
   rfl,
   by decide +kernel,
   rfl,
   by decide +kernel⟩

theorem w_SelfTestCommandsComplete_startPlane : ∃ (s : State) (rq : Rq) (ws : List Word) (d : Dev) (c : Nat) (u : TUnit),
  (s.dev.serves .bst = true) ∧
  (d = s.dev.asked .bst) ∧
  (s.dev.takes rq OP.COMMAND ws.length 0 = true) ∧
  (c = bitsOf (word ws 0) 7 0) ∧
  (unitOf c = some (u)) ∧
  (d.unitAllowed (u) = true) ∧
  (d.bst.phase = .idle) ∧
  (extra (word ws 0) 0xFF = false) ∧
  (ws.length = 1) ∧
  (u = .pke ∨ u = .tmg ∨ u = .inkwell ∨ u = .sched) :=
  ⟨T0, mpRq, [0x33], _, _, .sched,
   by decide +kernel,
   rfl,
   by decide +kernel,
   rfl,
   by decide +kernel⟩

theorem w_SelfTestCommandsComplete_startDram : ∃ (s : State) (rq : Rq) (ws : List Word) (d : Dev) (c : Nat),
  (s.dev.serves .bst = true) ∧
  (d = s.dev.asked .bst) ∧
  (s.dev.takes rq OP.COMMAND ws.length 0 = true) ∧
  (c = bitsOf (word ws 0) 7 0) ∧
  (unitOf c = some (.dram)) ∧
  (d.unitAllowed (.dram) = true) ∧
  (d.bst.phase = .idle) ∧
  (extra (word ws 0) 0xFF = false) ∧
  (ws.length = 4) ∧
  (c = 0x34) ∧
  (d.mem.ddr ≠ .frozen) ∧
  (pair ws 1 % 2 ^ 20 = 0) ∧
  ((word ws 3).toNat ≠ 0) ∧
  (pair ws 1 + (word ws 3).toNat * 2 ^ 20 ≤ d.dramMib * 2 ^ 20) :=
  ⟨T0, mpRq, [0x34, 0, 0, 1], _, _,
   by decide +kernel,
   rfl,
   by decide +kernel,
   rfl,
   by decide +kernel⟩

theorem w_SelfTestCommandsComplete_testAbort : ∃ (s : State) (rq : Rq) (ws : List Word) (d0 : Dev),
  (s.dev.serves .bst = true) ∧
  (d0 = s.dev.asked .bst) ∧
  (s.dev.takes rq OP.COMMAND ws.length 0 = true) ∧
  (ws = []) ∧
  (d0.bst.phase = .quiescing ∨ (d0.bst.phase = .running ∧ ∀ u, unitOf d0.bst.unit = some u → d0.tb ≠ d0.bst.runStart + usT (d0.unitUs u))) :=
  ⟨dv (fun d => (d).onBst (fun m => { m with phase := .running })), mpRq, _, _,
   by decide +kernel,
   rfl,
   by decide +kernel,
   rfl,
   by decide +kernel⟩

theorem w_SelfTestCommandsComplete_testResult : ∃ (σ : State) (rq : Rq) (ws : List Word),
  (σ.dev.serves .bst = true) ∧
  let d := σ.dev.asked .bst
  let c := bitsOf (word ws 0) 7 0
  let running := decide (d.bst.unit = c) && decide (d.bst.phase = .running ∨ d.bst.phase = .quiescing)
  let live : TestRes := { result := 4, alias_ := false, reason := 0, coverage := 0, executed := match unitOf c with
                              | some u => u.executed d.bstSoFar
                              | none => 0,
                            planned := match unitOf c with
                              | some u => u.patterns
                              | none => 0,
                            sig := 0, expected := Config.bistSignature d.mgt.otp.variant.toNat c,
                            durUs := (d.tb - d.bst.start) / 250, mismatches := 0, firstFail := 0, seq := 0 }
  let res := if running then some live else tabFind d.bst.results c
  (σ.dev.takes rq OP.COMMAND ws.length 11 = true) ∧
  (¬ (ws.length ≠ 1)) ∧
  ((extra (word ws 0) 0x1FF || (unitOf c).isNone) = false) ∧
  (res.isNone = false) :=
  ⟨dv (fun d => (d).onBst (fun m => { m with results := [(1, blankTestRes)] })), mpRq, [1],
   by decide +kernel,
   by decide +kernel⟩

theorem w_SelfTestCommandsComplete_done : ∃ (s : State) (sig : Nat) (mism : Nat) (first : Nat) (u : TUnit),
  (unitOf s.dev.bst.unit = some u) ∧
  (s.dev.bst.phase = .running) :=
  ⟨dv (fun d => (d).onBst (fun m => { m with phase := .running, unit := 1 })), 0, 0, 0, _,
   (Option.some_get (by decide +kernel)).symm,
   by decide +kernel⟩

theorem w_SelfTestCommandsComplete_overrun : ∃ (s : State) (n : Nat) (u : TUnit) (d : Dev),
  (unitOf s.dev.bst.unit = some u) ∧
  (s.dev.bst.phase = .running) ∧
  (d = s.dev.at_ (s.dev.bst.runStart + usT (2 * s.dev.unitUs u))) :=
  ⟨dv (fun d => (d).onBst (fun m => { m with phase := .running, unit := 1 })), 0, _, _,
   (Option.some_get (by decide +kernel)).symm,
   by decide +kernel,
   rfl⟩

theorem w_SelfTestCommandsComplete_reinitRadio : ∃ (s : State) (r : Radio) (d : Dev),
  (unitOf s.dev.bst.unit = some (.radio r)) ∧
  (s.dev.bst.phase = .reinit) ∧
  (d = ((s.dev.at_ (s.dev.tb + usT 293)).isolate (.radio r) false).onBst (fun b => { b with phase := .idle, unit := 0 })) :=
  ⟨dv (fun d => (d).onBst (fun m => { m with phase := .reinit, unit := 1 })), .a, _,
   by decide +kernel,
   by decide +kernel,
   rfl⟩

theorem w_SelfTestCommandsComplete_reinitQuill : ∃ (s : State) (k : Nat) (d : Dev) (d2 : Dev),
  (unitOf s.dev.bst.unit = some (.quill k)) ∧
  (s.dev.bst.phase = .reinit) ∧
  (s.dev.bst.failed.contains s.dev.bst.unit = false) ∧
  (d = ({ s.dev with bst := { s.dev.bst with phase := .idle, unit := 0 }, tmu := (s.dev.at_ (s.dev.tb + usT 0)).tmu } : Dev)) ∧
  (d2 = d.setQuill k { Core.reset false with imem := d.quillCode, wait := .none }) :=
  ⟨dv (fun d => (d.onQar (fun q => { q with cores := [(0, Core.reset false)] })).onBst (fun m => { m with phase := .reinit, unit := 16 })), 0, _, _,
   by decide +kernel,
   by decide +kernel,
   by decide +kernel,
   rfl,
   rfl⟩

theorem w_SelfTestCommandsComplete_reinitFailed : ∃ (s : State) (k : Nat),
  (unitOf s.dev.bst.unit = some (.quill k)) ∧
  (s.dev.bst.phase = .reinit) ∧
  (s.dev.bst.failed.contains s.dev.bst.unit = true) :=
  ⟨dv (fun d => (d).onBst (fun m => { m with phase := .reinit, unit := 16, failed := [16] })), 0,
   by decide +kernel⟩

theorem w_SelfTestCommandsComplete_reinitEth : ∃ (s : State) (n : Nat),
  (unitOf s.dev.bst.unit = some (.eth n)) ∧
  (s.dev.bst.phase = .reinit) :=
  ⟨dv (fun d => (d).onBst (fun m => { m with phase := .reinit, unit := 32 })), 0,
   by decide +kernel⟩

theorem w_SelfTestCommandsComplete_reinitPlane : ∃ (s : State) (u : TUnit),
  (unitOf s.dev.bst.unit = some u) ∧
  (u = .pke ∨ u = .tmg ∨ u = .inkwell ∨ u = .sched) ∧
  (s.dev.bst.phase = .reinit) ∧
  (s.dev.qarAtTake = true) :=
  ⟨dv (fun d => (d).onBst (fun m => { m with phase := .reinit, unit := 0x30 })), .pke,
   by decide +kernel⟩

theorem w_SelfTestCommandsComplete_reinitDram : ∃ (s : State),
  (unitOf s.dev.bst.unit = some .dram) ∧
  (s.dev.bst.phase = .reinit) ∧
  (s.dev.qarAtTake = true) :=
  ⟨dv (fun d => (d).onBst (fun m => { m with phase := .reinit, unit := 0x34 })),
   by decide +kernel⟩

theorem w_LateCommandsComplete_parity : ∃ (s : State) (cmd : Nat) (port : Nat) (addr : Nat),
  (s.dev.mem.ddr = .serving ∨ (s.dev.mem.ddr = .frozen ∧ s.dev.mem.thawing = true)) :=
  ⟨dv (fun d => d.dramUp), 0, 0, 0,
   by decide +kernel⟩

theorem w_LateCommandsComplete_parityFrozen : ∃ (s : State) (cmd : Nat) (port : Nat) (addr : Nat),
  (s.dev.mem.ddr = .frozen) ∧
  (s.dev.mem.thawing = false) :=
  ⟨dv (fun d => (d).onMem (fun m => { m with ddr := .frozen })), 0, 0, 0,
   by decide +kernel⟩

theorem w_LateCommandsComplete_release : ∃ (s : State),
  (s.dev.pmu.state = .held) ∧
  (s.dev.pmu.tripped = true) :=
  ⟨dv (fun d => (d).onPmu (fun m => { m with state := .held, tripped := true })),
   by decide +kernel⟩

theorem w_LateCommandsComplete_linkUp : ∃ (s : State),
  (s.dev.hciUp = true) :=
  ⟨T0,
   by decide +kernel⟩

theorem w_LateCommandsComplete_tick : ∃ (s : State) (temps : List Int) (volts : List Nat) (iin : Nat) (m : Mgt),
  (m = { s.dev.mgt with temps := (temps ++ s.dev.mgt.temps.drop temps.length).take 12, volts := (volts ++ s.dev.mgt.volts.drop volts.length).take 6, iin := iin }) :=
  ⟨T0, [], [], 0, _,
   rfl⟩

theorem w_LateCommandsComplete_aonTemp : ∃ (s : State) (t : Int),
  (s.dev.pmu.state = .deep) :=
  ⟨dv (fun d => (d).onPmu (fun m => { m with state := .deep })), 0,
   by decide +kernel⟩

theorem w_LateCommandsComplete_ed : ∃ (s : State) (r : Radio) (k : Nat) (power : Int) (busy : Bool),
  ((s.dev.phy.get r).rx ≠ .off) ∧
  (k < 2 ^ chanWidth (s.dev.rfe.get r).tuned) ∧
  (busy = decide (sbyte (s.dev.phy.get r).cfg.cca 0 ≤ power)) :=
  ⟨dv (fun d => d.radioUp), .a, 0, 0, _,
   by decide +kernel,
   by decide +kernel,
   rfl⟩

theorem w_LateCommandsComplete_pd : ∃ (s : State) (r : Radio) (k : Nat) (power : Int) (us : Nat),
  ((s.dev.phy.get r).rx ≠ .off) ∧
  (k < 2 ^ chanWidth (s.dev.rfe.get r).tuned) ∧
  (k ≠ primIdx r (s.dev.rfe.get r).tuned) ∧
  (sbyte (s.dev.phy.get r).cfg.cca 8 ≤ power) :=
  ⟨dv (fun d => (d.onPhy .b (fun x => { x with rx := .listen })).onRfe .b (fun x => { x with tuned := 0x143C0124 })), .b, 1, 0, 0,
   by decide +kernel⟩

theorem w_LateCommandsComplete_nav : ∃ (s : State) (r : Radio) (t : Nat) (ts : List Nat),
  ([(s.dev.mac.get r).navBasic, (s.dev.mac.get r).navIntra, (s.dev.mac.get r).ownNav].filter (fun x => decide (s.dev.tb < x)) = t :: ts) :=
  ⟨dv (fun d => (d).onMac .a (fun m => { m with navBasic := 5 })), .a, 5, [],
   by decide +kernel⟩

theorem w_LateCommandsComplete_idcode : ∃ (s : State),
  (s.dev.mgt.otp.lc ≠ .end_) :=
  ⟨T0,
   by decide +kernel⟩

theorem w_LateCommandsComplete_port : ∃ (s : State) (i : PortInstr),
  (i ≠ .idcode) ∧
  (i = .extest ∨ i = .scan ∨ i = .debug → s.dev.mgt.otp.lc = .raw ∨ s.dev.mgt.otp.lc = .test ∨ s.dev.mgt.otp.lc = .ret) ∧
  (s.dev.mgt.otp.lc ≠ .end_) :=
  ⟨T0, .sample,
   by decide +kernel,
   (by decide +kernel),
   by decide +kernel⟩

theorem w_LateCommandsComplete_bypass : ∃ (s : State) (i : PortInstr),
  (i = .extest ∨ i = .scan ∨ i = .debug) ∧
  (s.dev.mgt.otp.lc ≠ .raw) ∧
  (s.dev.mgt.otp.lc ≠ .test) ∧
  (s.dev.mgt.otp.lc ≠ .ret) :=
  ⟨dv (fun d => (d).onMgt (fun m => { m with otp := { m.otp with lc := .field } })), .debug,
   by decide +kernel⟩

theorem w_EmptyQueueTicks_runs : ∃ (d : Dev),
  (d.pmu.state = .run ∨ d.pmu.state = .idle ∨ d.pmu.state = .sleep ∨ d.pmu.state = .deep) ∧
  (d.WatchesAnswered) :=
  ⟨T0.dev,
   by decide +kernel,
   (by intro src w h; cases src <;> cases h)⟩

theorem w_EmptyQueueTicks_stops : ∃ (d : Dev),
  (d.pmu.state = .held ∨ d.pmu.state = .booting ∨ d.pmu.state = .off) ∧
  (d.WatchesAnswered) :=
  ⟨(dv (fun d => (d).onPmu (fun m => { m with state := .held }))).dev,
   by decide +kernel,
   (by intro src w h; cases src <;> cases h)⟩

theorem w_StepKeepsInvariant_a : ∃ (s : State) (t : State),
  (s.Inv) ∧
  (step s = .next t) :=
  ⟨{ T0 with pending := [] }, { dev := T0.dev.at_ (T0.dev.tb + 1), pending := [] },
   ⟨(by intro src w h; cases src <;> cases h), (by intro c h; cases h)⟩,
   rfl⟩

theorem w_FailedConditions_imm : ∃ (s : State) (u : Cpu) (f : FmtI),
  (s.dev.coreRuns u = true) ∧
  (executable u (s.dev.core u).pc = true) ∧
  ((s.dev.core u).holds f.cond = false) :=
  ⟨T0, .mp, { blankFmtI with cond := 15 },
   by decide +kernel⟩

theorem w_FailedConditions_reg : ∃ (s : State) (u : Cpu) (f : FmtR),
  (s.dev.coreRuns u = true) ∧
  (executable u (s.dev.core u).pc = true) ∧
  ((s.dev.core u).holds f.cond = false) :=
  ⟨T0, .mp, { blankFmtR with cond := 15 },
   by decide +kernel⟩

theorem w_FailedConditions_mem : ∃ (s : State) (u : Cpu) (f : FmtM),
  (s.dev.coreRuns u = true) ∧
  (executable u (s.dev.core u).pc = true) ∧
  ((s.dev.core u).holds f.cond = false) :=
  ⟨T0, .mp, { blankFmtM with cond := 15 },
   by decide +kernel⟩

theorem w_FailedConditions_mov : ∃ (s : State) (u : Cpu) (f : FmtU),
  (s.dev.coreRuns u = true) ∧
  (executable u (s.dev.core u).pc = true) ∧
  ((s.dev.core u).holds f.cond = false) :=
  ⟨T0, .mp, { blankFmtU with cond := 15 },
   by decide +kernel⟩

theorem w_FailedConditions_branch : ∃ (s : State) (u : Cpu) (f : FmtB),
  (s.dev.coreRuns u = true) ∧
  (executable u (s.dev.core u).pc = true) ∧
  ((s.dev.core u).holds f.cond = false) ∧
  ((s.dev.core u).slot = none) :=
  ⟨T0, .mp, { blankFmtB with cond := 15 },
   by decide +kernel⟩

theorem w_FailedConditions_jump : ∃ (s : State) (u : Cpu) (f : FmtR),
  (s.dev.coreRuns u = true) ∧
  (executable u (s.dev.core u).pc = true) ∧
  ((s.dev.core u).holds f.cond = false) ∧
  ((s.dev.core u).slot = none) :=
  ⟨T0, .mp, { blankFmtR with cond := 15 },
   by decide +kernel⟩

theorem w_FailedConditions_notTaken : ∃ (d : Dev) (u : Cpu) (a : Nat),
  ((d.core u).slot = some (a, .notTaken)) :=
  ⟨(dv (fun d => d.onMp (fun c => { c with slot := some (0, .notTaken) }))).dev, .mp, _,
   (Option.some_get (by decide +kernel)).symm⟩

theorem w_MultiwordArithmetic_add : ∃ (c : Core) (a1 : Word) (a0 : Word) (b1 : Word) (b0 : Word) (lo : AluOut) (hi : AluOut),
  (aluFunc c 0x00 a0 b0 = some lo) ∧
  (aluFunc { c with c := lo.c } 0x01 a1 b1 = some hi) :=
  ⟨(Core.reset true), 0, 0, 0, 0, _, _,
   (Option.some_get (by decide +kernel)).symm,
   (Option.some_get (by decide +kernel)).symm⟩

theorem w_MultiwordArithmetic_sub : ∃ (c : Core) (a1 : Word) (a0 : Word) (b1 : Word) (b0 : Word) (lo : AluOut) (hi : AluOut),
  (aluFunc c 0x02 a0 b0 = some lo) ∧
  (aluFunc { c with c := lo.c } 0x03 a1 b1 = some hi) :=
  ⟨(Core.reset true), 0, 0, 0, 0, _, _,
   (Option.some_get (by decide +kernel)).symm,
   (Option.some_get (by decide +kernel)).symm⟩

theorem w_MultiwordArithmetic_mulu : ∃ (c : Core) (a : Word) (b : Word) (lo : AluOut) (hi : AluOut),
  (aluFunc c 0x0C a b = some lo) ∧
  (aluFunc c 0x0D a b = some hi) :=
  ⟨(Core.reset true), 0, 0, _, _,
   (Option.some_get (by decide +kernel)).symm,
   (Option.some_get (by decide +kernel)).symm⟩

theorem w_MultiwordArithmetic_muls : ∃ (c : Core) (a : Word) (b : Word) (lo : AluOut) (hi : AluOut),
  (aluFunc c 0x0C a b = some lo) ∧
  (aluFunc c 0x0E a b = some hi) :=
  ⟨(Core.reset true), 0, 0, _, _,
   (Option.some_get (by decide +kernel)).symm,
   (Option.some_get (by decide +kernel)).symm⟩

theorem w_DivisionNeverTraps_unsigned : ∃ (c : Core) (a : Word) (b : Word) (q : AluOut) (r : AluOut),
  (aluFunc c 0x14 a b = some q) ∧
  (aluFunc c 0x16 a b = some r) ∧
  (b ≠ 0) :=
  ⟨(Core.reset true), 0, 1, _, _,
   (Option.some_get (by decide +kernel)).symm,
   (Option.some_get (by decide +kernel)).symm,
   by decide +kernel⟩

theorem w_DivisionNeverTraps_signed : ∃ (c : Core) (a : Word) (b : Word) (q : AluOut) (r : AluOut),
  (aluFunc c 0x15 a b = some q) ∧
  (aluFunc c 0x17 a b = some r) ∧
  (b ≠ 0) ∧
  (¬ (a = 0x80000000 ∧ b = 0xFFFFFFFF)) :=
  ⟨(Core.reset true), 0, 0xFFFFFFFF, _, _,
   (Option.some_get (by decide +kernel)).symm,
   (Option.some_get (by decide +kernel)).symm,
   by decide +kernel⟩

theorem w_RegisterWindows_globals : ∃ (c : Core) (n : BitVec 5),
  (n.toNat < 8) :=
  ⟨(Core.reset true), 7,
   by decide +kernel⟩

theorem w_RegisterWindows_params : ∃ (c : Core) (i : Nat),
  (c.cwp < 12) ∧
  (i < 8) :=
  ⟨({ Core.reset true with cwp := 11 } : Core), 7,
   by decide +kernel⟩

theorem w_RegisterWindows_working : ∃ (c : Core) (i : Nat),
  (c.cwp < 12) ∧
  (i < 8) :=
  ⟨({ Core.reset true with cwp := 11 } : Core), 7,
   by decide +kernel⟩

theorem w_RegisterWindows_next : ∃ (c : Core) (i : Nat),
  (i < 8) :=
  ⟨({ Core.reset true with cwp := 11 } : Core), 7,
   by decide +kernel⟩

theorem w_RegisterWindows_link : ∃ (c : Core),
  (c.cwp < 12) :=
  ⟨({ Core.reset true with cwp := 11 } : Core),
   by decide +kernel⟩

theorem w_RegisterWindows_callers : ∃ (c : Core) (e : Core) (i : Nat),
  (i < 8) ∧
  (e = ({ c with cwp := (c.cwp + 1) % 12 } : Core)) :=
  ⟨({ Core.reset true with cwp := 11 } : Core), _, 7,
   by decide +kernel,
   rfl⟩

theorem w_CallAndReturn_call : ∃ (d : Dev) (u : Cpu) (c : Core) (a : Nat) (p : Nat) (r : Nat) (e : Core),
  (c = d.core u) ∧
  (c.slot = some (a, .call p r)) ∧
  (c.cwp < 12) ∧
  (c.res < 11) ∧
  (e = (d.goOn u).core u) :=
  ⟨(dv (fun d => d.onMp (fun c => { c with slot := some (0, .call 8 4) }))).dev, .mp, _, 0, 8, 4, _,
   rfl,
   by decide +kernel,
   by decide +kernel,
   by decide +kernel,
   rfl⟩

theorem w_CallAndReturn_ret : ∃ (d : Dev) (u : Cpu) (c : Core) (a : Nat) (e : Core),
  (c = d.core u) ∧
  (c.slot = some (a, .ret)) ∧
  (c.cwp < 12) ∧
  (1 < c.res) ∧
  (e = (d.goOn u).core u) :=
  ⟨(dv (fun d => d.onMp (fun c => { c with slot := some (0, .ret), res := 2 }))).dev, .mp, _, 0, _,
   rfl,
   by decide +kernel,
   by decide +kernel,
   by decide +kernel,
   rfl⟩

theorem w_CallAndReturn_rete : ∃ (d : Dev) (u : Cpu) (c : Core) (a : Nat) (e : Core),
  (c = d.core u) ∧
  (c.slot = some (a, .rete)) ∧
  (c.cwp < 12) ∧
  (1 < c.res) ∧
  (e = (d.goOn u).core u) :=
  ⟨(dv (fun d => d.onMp (fun c => { c with slot := some (0, .rete), res := 2 }))).dev, .mp, _, 0, _,
   rfl,
   by decide +kernel,
   by decide +kernel,
   by decide +kernel,
   rfl⟩

theorem w_CallAndReturn_jump : ∃ (d : Dev) (u : Cpu) (c : Core) (a : Nat) (p : Nat),
  (c = d.core u) ∧
  (c.slot = some (a, .jump p)) :=
  ⟨(dv (fun d => d.onMp (fun c => { c with slot := some (0, .jump 8) }))).dev, .mp, _, 0, 8,
   rfl,
   by decide +kernel⟩

theorem w_SpilledWindowsReturn_spill : ∃ (u : Cpu) (c : Core) (e : Core),
  (c.res = 11) ∧
  (c.advance u = some e) :=
  ⟨.mp, ({ Core.reset true with res := 11 } : Core), _,
   by decide +kernel,
   (Option.some_get (by decide +kernel)).symm⟩

def wCore : Core := { Core.reset true with res := 11 }
def wSpilled : Core := (wCore.advance .mp).getD wCore

theorem w_SpilledWindowsReturn_back : ∃ (u : Cpu) (c : Core) (e : Core) (f : Core),
  (c.res = 11) ∧
  (c.spilled < 4095) ∧
  (c.advance u = some e) ∧
  (f.spilled = e.spilled) ∧
  (f.spillp = c.spillp) ∧
  (f.dmem = e.dmem) ∧
  (f.res = 1) ∧
  (f.cwp % 12 = (c.cwp + 3) % 12) :=
  ⟨.mp, wCore, wSpilled, { wSpilled with res := 1, cwp := 3, spillp := wCore.spillp },
   by decide +kernel⟩

theorem w_TakingAnException_slotPc : ∃ (c : Core) (cause : Nat) (a : Nat) (t : Transfer),
  (c.slot = some (a, t)) :=
  ⟨({ Core.reset true with slot := some (8, .ret) } : Core), 0, 8, .ret,
   by decide +kernel⟩

theorem w_TakingAnException_trapPc : ∃ (c : Core),
  (c.slot = none) :=
  ⟨(Core.reset true),
   by decide +kernel⟩

theorem w_TakingAnException_otherPc : ∃ (c : Core) (cause : Nat),
  (c.slot = none) ∧
  (cause ≠ Exc.TRAP) :=
  ⟨(Core.reset true), Exc.BUS,
   by decide +kernel⟩

theorem w_TakingAnException_entry : ∃ (d : Dev) (u : Cpu) (c : Core) (e : Core) (cause : Nat) (det : Nat) (code : Nat) (epc : Nat),
  (c = d.core u) ∧
  (c.exc = false) ∧
  (c.res < 11) ∧
  (epc = c.epcFor cause) ∧
  (e = ({ c with epc := wd epc, ecause := wd (b2n c.slot.isSome * 2 ^ 31 + det * 2 ^ 16 + code * 2 ^ 8 + cause), slot := none, cwp := (c.cwp + 1) % 12, res := c.res + 1, links := tabSet 0 c.links ((c.cwp + 1) % 12) (wd epc), exc := true, pc := 0x40 } : Core)) :=
  ⟨(dv (fun d => d.onMp (fun c => { c with res := 10 }))).dev, .mp, _, _, 0, 0, 0, _,
   rfl,
   by decide +kernel,
   by decide +kernel,
   rfl,
   rfl⟩

theorem w_TakingAnException_spills : ∃ (d : Dev) (u : Cpu) (c : Core) (c1 : Core) (c2 : Core) (cause : Nat) (det : Nat) (code : Nat) (epc : Nat),
  (c = d.core u) ∧
  (c.exc = false) ∧
  (c.res = 11) ∧
  (c.spilled ≤ c.spillMax) ∧
  (epc = c.epcFor cause) ∧
  (c1 = ({ c with epc := wd epc, ecause := wd (b2n c.slot.isSome * 2 ^ 31 + det * 2 ^ 16 + code * 2 ^ 8 + cause), slot := none } : Core)) ∧
  (c1.advance u = some c2) :=
  ⟨(dv (fun d => d.onMp (fun c => { c with res := 11 }))).dev, .mp, _, _, _, 0, 0, 0, _,
   rfl,
   by decide +kernel,
   by decide +kernel,
   by decide +kernel,
   rfl,
   rfl,
   (Option.some_get (by decide +kernel)).symm⟩

theorem w_TakingAnException_handler : ∃ (d : Dev),
  (d.mp.dmemGet 0 4 ≠ 0) ∧
  (d.mp.dmemGet 0 4 % 4 = 0) :=
  ⟨(dv (fun d => d.onMp (fun c => { c with dmem := [(0, 64)] }))).dev,
   by decide +kernel⟩

theorem w_TakingAnException_noHandler : ∃ (d : Dev),
  (d.mp.dmemGet 0 4 = 0 ∨ d.mp.dmemGet 0 4 % 4 ≠ 0) :=
  ⟨T0.dev,
   by decide +kernel⟩

theorem w_TakingAnException_again : ∃ (d : Dev) (u : Cpu) (cause : Nat) (det : Nat) (code : Nat),
  ((d.core u).exc = true) :=
  ⟨(dv (fun d => d.onMp (fun c => { c with exc := true }))).dev, .mp, 0, 0, 0,
   by decide +kernel⟩

theorem w_TakingAnException_pastArea : ∃ (d : Dev) (u : Cpu) (c : Core) (c1 : Core) (cause : Nat) (det : Nat) (code : Nat) (epc : Nat),
  (c = d.core u) ∧
  (c.exc = false) ∧
  (c.res = 11) ∧
  (c.spillMax < c.spilled) ∧
  (epc = c.epcFor cause) ∧
  (c1 = ({ c with epc := wd epc, ecause := wd (b2n c.slot.isSome * 2 ^ 31 + det * 2 ^ 16 + code * 2 ^ 8 + cause), slot := none } : Core)) :=
  ⟨(dv (fun d => d.onMp (fun c => { c with res := 11, spilled := 28 }))).dev, .mp, _, _, 0, 0, 0, _,
   rfl,
   by decide +kernel,
   by decide +kernel,
   by decide +kernel,
   rfl,
   rfl⟩

theorem w_WhereInstructionsTrap_ldw : ∃ (s : State) (u : Cpu) (f : FmtM) (c : Core),
  (s.dev.executes u f.cond = true) ∧
  (c = s.dev.core u) ∧
  ((c.reg f.ra + f.ext).toNat % 4 ≠ 0) :=
  ⟨T0, .mp, { blankFmtM with off := 1 }, _,
   by decide +kernel,
   rfl,
   by decide +kernel⟩

theorem w_WhereInstructionsTrap_ldh : ∃ (s : State) (u : Cpu) (f : FmtM) (c : Core),
  (s.dev.executes u f.cond = true) ∧
  (c = s.dev.core u) ∧
  ((c.reg f.ra + f.ext).toNat % 2 ≠ 0) :=
  ⟨T0, .mp, { blankFmtM with off := 1 }, _,
   by decide +kernel,
   rfl,
   by decide +kernel⟩

theorem w_WhereInstructionsTrap_ldhu : ∃ (s : State) (u : Cpu) (f : FmtM) (c : Core),
  (s.dev.executes u f.cond = true) ∧
  (c = s.dev.core u) ∧
  ((c.reg f.ra + f.ext).toNat % 2 ≠ 0) :=
  ⟨T0, .mp, { blankFmtM with off := 1 }, _,
   by decide +kernel,
   rfl,
   by decide +kernel⟩

theorem w_WhereInstructionsTrap_stw : ∃ (s : State) (u : Cpu) (f : FmtM) (c : Core),
  (s.dev.executes u f.cond = true) ∧
  (c = s.dev.core u) ∧
  ((c.reg f.ra + f.ext).toNat % 4 ≠ 0) :=
  ⟨T0, .mp, { blankFmtM with off := 1 }, _,
   by decide +kernel,
   rfl,
   by decide +kernel⟩

theorem w_WhereInstructionsTrap_sth : ∃ (s : State) (u : Cpu) (f : FmtM) (c : Core),
  (s.dev.executes u f.cond = true) ∧
  (c = s.dev.core u) ∧
  ((c.reg f.ra + f.ext).toNat % 2 ≠ 0) :=
  ⟨T0, .mp, { blankFmtM with off := 1 }, _,
   by decide +kernel,
   rfl,
   by decide +kernel⟩

theorem w_WhereInstructionsTrap_atom : ∃ (s : State) (u : Cpu) (f : FmtR) (c : Core),
  (s.dev.executes u f.cond = true) ∧
  (c = s.dev.core u) ∧
  (f.func.toNat ≤ 3) ∧
  (f.s = false) ∧
  ((c.reg f.ra).toNat % 4 ≠ 0) :=
  ⟨dv (fun d => d.onMp (fun c => { c with globals := [(1, 1)] })), .mp, { blankFmtR with ra := 1 }, _,
   by decide +kernel,
   rfl,
   by decide +kernel⟩

theorem w_WhereInstructionsTrap_atomElsewhere : ∃ (s : State) (u : Cpu) (f : FmtR) (c : Core),
  (s.dev.executes u f.cond = true) ∧
  (c = s.dev.core u) ∧
  (f.func.toNat ≤ 3) ∧
  (f.s = false) ∧
  ((c.reg f.ra).toNat % 4 = 0) ∧
  (atomic u (c.reg f.ra).toNat = false) :=
  ⟨T0, .mp, (blankFmtR), _,
   by decide +kernel,
   rfl,
   by decide +kernel⟩

theorem w_WhereInstructionsTrap_busLoad : ∃ (s : State) (u : Cpu) (f : FmtM) (c : Core) (a : Nat) (k : Nat),
  (s.dev.executes u f.cond = true) ∧
  (c = s.dev.core u) ∧
  (a = (c.reg f.ra + f.ext).toNat) ∧
  (a % 4 = 0) ∧
  (s.dev.load u a 4 = (s.dev, Ans.err k)) ∧
  (k ≠ RC.OK) :=
  ⟨dv (fun d => d.onMp (fun c => { c with globals := [(1, 0x60000000)] })), .mp, { blankFmtM with ra := 1 }, _, _, RC.BAD_ADDRESS,
   by decide +kernel,
   rfl,
   rfl,
   by decide +kernel⟩

theorem w_WhereInstructionsTrap_busStore : ∃ (s : State) (u : Cpu) (f : FmtM) (c : Core) (a : Nat) (k : Nat),
  (s.dev.executes u f.cond = true) ∧
  (c = s.dev.core u) ∧
  (a = (c.reg f.ra + f.ext).toNat) ∧
  (a % 4 = 0) ∧
  (s.dev.store u a 4 (c.reg f.rd) = (s.dev, Ans.err k)) ∧
  (k ≠ RC.OK) :=
  ⟨dv (fun d => d.onMp (fun c => { c with globals := [(1, 0x60000000)] })), .mp, { blankFmtM with ra := 1 }, _, _, RC.BAD_ADDRESS,
   by decide +kernel,
   rfl,
   rfl,
   by decide +kernel⟩

theorem w_WhereInstructionsTrap_shift : ∃ (s : State) (u : Cpu) (f : FmtI) (c : Core),
  (s.dev.executes u f.cond = true) ∧
  (c = s.dev.core u) ∧
  (32 ≤ f.imm.toNat) :=
  ⟨T0, .mp, { blankFmtI with imm := 32 }, _,
   by decide +kernel,
   rfl,
   by decide +kernel⟩

theorem w_WhereInstructionsTrap_func : ∃ (s : State) (u : Cpu) (f : FmtR) (c : Core),
  (s.dev.executes u f.cond = true) ∧
  (c = s.dev.core u) ∧
  (0x17 < f.func.toNat) :=
  ⟨T0, .mp, { blankFmtR with func := 0x18 }, _,
   by decide +kernel,
   rfl,
   by decide +kernel⟩

theorem w_WhereInstructionsTrap_trap : ∃ (s : State) (u : Cpu) (f : FmtI) (c : Core),
  (s.dev.executes u f.cond = true) ∧
  (c = s.dev.core u) ∧
  (256 ≤ f.imm.toNat) :=
  ⟨T0, .mp, { blankFmtI with imm := 256 }, _,
   by decide +kernel,
   rfl,
   by decide +kernel⟩

theorem w_WhereInstructionsTrap_overflow : ∃ (s : State) (u : Cpu) (f : FmtB) (c : Core),
  (s.dev.executes u f.cond = true) ∧
  (c = s.dev.core u) ∧
  (c.slot = none) ∧
  (c.res = 11) ∧
  (c.spillMax ≤ c.spilled) :=
  ⟨dv (fun d => d.onMp (fun c => { c with res := 11, spilled := 27 })), .mp, (blankFmtB), _,
   by decide +kernel,
   rfl,
   by decide +kernel⟩

theorem w_WhereInstructionsTrap_underflow : ∃ (s : State) (u : Cpu) (f : FmtR) (c : Core),
  (s.dev.executes u f.cond = true) ∧
  (c = s.dev.core u) ∧
  (c.slot = none) ∧
  (f.bare = true) ∧
  (c.res = 1) ∧
  (c.spilled = 0) :=
  ⟨T0, .mp, (blankFmtR), _,
   by decide +kernel,
   rfl,
   by decide +kernel⟩

theorem w_WhereInstructionsTrap_jmp : ∃ (s : State) (u : Cpu) (f : FmtR) (c : Core),
  (s.dev.executes u f.cond = true) ∧
  (c = s.dev.core u) ∧
  (c.slot = none) ∧
  (f.rd = 0) ∧
  (f.rb = 0) ∧
  (f.s = false) ∧
  (f.func = 0) ∧
  ((c.reg f.ra).toNat % 4 ≠ 0) :=
  ⟨dv (fun d => d.onMp (fun c => { c with globals := [(1, 2)] })), .mp, { blankFmtR with ra := 1 }, _,
   by decide +kernel,
   rfl,
   by decide +kernel⟩

theorem w_WhereInstructionsTrap_ret : ∃ (s : State) (u : Cpu) (f : FmtR) (c : Core),
  (s.dev.executes u f.cond = true) ∧
  (c = s.dev.core u) ∧
  (c.slot = none) ∧
  (f.bare = true) ∧
  (¬ (c.res = 1 ∧ c.spilled = 0)) ∧
  (c.lk.toNat % 4 ≠ 0) :=
  ⟨dv (fun d => d.onMp (fun c => { c with res := 2, links := [(0, 2)] })), .mp, (blankFmtR), _,
   by decide +kernel,
   rfl,
   by decide +kernel⟩

theorem w_WhereInstructionsTrap_rete : ∃ (s : State) (u : Cpu) (f : FmtR) (c : Core),
  (s.dev.executes u f.cond = true) ∧
  (c = s.dev.core u) ∧
  (c.slot = none) ∧
  (f.bare = true) ∧
  (c.epc.toNat % 4 ≠ 0) :=
  ⟨dv (fun d => d.onMp (fun c => { c with epc := 2 })), .mp, (blankFmtR), _,
   by decide +kernel,
   rfl,
   by decide +kernel⟩

theorem w_WhereInstructionsTrap_brInSlot : ∃ (s : State) (u : Cpu) (f : FmtB) (c : Core),
  (s.dev.executes u f.cond = true) ∧
  (c = s.dev.core u) ∧
  (c.slot.isSome = true) :=
  ⟨dv (fun d => d.onMp (fun c => { c with slot := some (0, .notTaken) })), .mp, (blankFmtB), _,
   by decide +kernel,
   rfl,
   by decide +kernel⟩

theorem w_WhereInstructionsTrap_callInSlot : ∃ (s : State) (u : Cpu) (f : FmtB) (c : Core),
  (s.dev.executes u f.cond = true) ∧
  (c = s.dev.core u) ∧
  (c.slot.isSome = true) :=
  ⟨dv (fun d => d.onMp (fun c => { c with slot := some (0, .notTaken) })), .mp, (blankFmtB), _,
   by decide +kernel,
   rfl,
   by decide +kernel⟩

theorem w_WhereInstructionsTrap_jmpInSlot : ∃ (s : State) (u : Cpu) (f : FmtR) (c : Core),
  (s.dev.executes u f.cond = true) ∧
  (c = s.dev.core u) ∧
  (c.slot.isSome = true) :=
  ⟨dv (fun d => d.onMp (fun c => { c with slot := some (0, .notTaken) })), .mp, (blankFmtR), _,
   by decide +kernel,
   rfl,
   by decide +kernel⟩

theorem w_WhereInstructionsTrap_callrInSlot : ∃ (s : State) (u : Cpu) (f : FmtR) (c : Core),
  (s.dev.executes u f.cond = true) ∧
  (c = s.dev.core u) ∧
  (c.slot.isSome = true) :=
  ⟨dv (fun d => d.onMp (fun c => { c with slot := some (0, .notTaken) })), .mp, (blankFmtR), _,
   by decide +kernel,
   rfl,
   by decide +kernel⟩

theorem w_WhereInstructionsTrap_retInSlot : ∃ (s : State) (u : Cpu) (f : FmtR) (c : Core),
  (s.dev.executes u f.cond = true) ∧
  (c = s.dev.core u) ∧
  (c.slot.isSome = true) :=
  ⟨dv (fun d => d.onMp (fun c => { c with slot := some (0, .notTaken) })), .mp, (blankFmtR), _,
   by decide +kernel,
   rfl,
   by decide +kernel⟩

theorem w_WhereInstructionsTrap_reteInSlot : ∃ (s : State) (u : Cpu) (f : FmtR) (c : Core),
  (s.dev.executes u f.cond = true) ∧
  (c = s.dev.core u) ∧
  (c.slot.isSome = true) :=
  ⟨dv (fun d => d.onMp (fun c => { c with slot := some (0, .notTaken) })), .mp, (blankFmtR), _,
   by decide +kernel,
   rfl,
   by decide +kernel⟩

theorem w_WhereInstructionsTrap_wfeInSlot : ∃ (s : State) (u : Cpu) (f : FmtR) (c : Core),
  (s.dev.executes u f.cond = true) ∧
  (c = s.dev.core u) ∧
  (c.slot.isSome = true) :=
  ⟨dv (fun d => d.onMp (fun c => { c with slot := some (0, .notTaken) })), .mp, (blankFmtR), _,
   by decide +kernel,
   rfl,
   by decide +kernel⟩

theorem w_WhereInstructionsTrap_special : ∃ (s : State) (u : Cpu) (f : FmtR) (c : Core),
  (s.dev.executes u f.cond = true) ∧
  (c = s.dev.core u) ∧
  (8 < f.func.toNat) :=
  ⟨T0, .mp, { blankFmtR with func := 9 }, _,
   by decide +kernel,
   rfl,
   by decide +kernel⟩

theorem w_WhereInstructionsTrap_takeMp : ∃ (s : State) (f : FmtR),
  (s.dev.executes .mp f.cond = true) :=
  ⟨T0, (blankFmtR),
   by decide +kernel⟩

theorem w_WhereInstructionsTrap_takeHeld : ∃ (s : State) (k : Fin 16) (f : FmtR),
  (s.dev.executes (.quill k) f.cond = true) ∧
  (f.ra = 0) ∧
  (f.rb = 0) ∧
  (f.s = false) ∧
  (f.func = 0) ∧
  ((s.dev.core (.quill k)).held.isSome = true) :=
  ⟨dv (fun d => d.setCore (.quill 0) { Core.reset false with wait := .none, held := some 0 }), 0, (blankFmtR),
   by decide +kernel⟩

theorem w_WhereInstructionsTrap_doneNone : ∃ (s : State) (k : Fin 16) (f : FmtR),
  (s.dev.executes (.quill k) f.cond = true) ∧
  (f.s = false) ∧
  ((s.dev.core (.quill k)).held = none) :=
  ⟨dv (fun d => d.setCore (.quill 0) { Core.reset false with wait := .none, pc := 0 }), 0, (blankFmtR),
   by decide +kernel⟩

theorem w_WhereInstructionsTrap_fetch : ∃ (s : State) (u : Cpu) (f : FmtI),
  (s.dev.coreRuns u = true) ∧
  (executable u (s.dev.core u).pc = false) :=
  ⟨dv (fun d => d.onMp (fun c => { c with pc := 0x20000000 })), .mp, (blankFmtI),
   by decide +kernel⟩

theorem w_StoresChangeOnlyTheirBytes_stw : ∃ (s : State) (u : Cpu) (f : FmtM) (c : Core) (a : Nat),
  (s.dev.executes u f.cond = true) ∧
  (c = s.dev.core u) ∧
  (a = (c.reg f.ra + f.ext).toNat) ∧
  (a % 4 = 0) ∧
  (s.dev.storable u (a / 4 * 4) = true) :=
  ⟨dv (fun d => d.onMp (fun c => { c with globals := [(1, 0x10000000)] })), .mp, { blankFmtM with ra := 1 }, _, _,
   by decide +kernel,
   rfl,
   rfl,
   by decide +kernel⟩

theorem w_StoresChangeOnlyTheirBytes_sth : ∃ (s : State) (u : Cpu) (f : FmtM) (c : Core) (a : Nat),
  (s.dev.executes u f.cond = true) ∧
  (c = s.dev.core u) ∧
  (a = (c.reg f.ra + f.ext).toNat) ∧
  (a % 2 = 0) ∧
  (s.dev.storable u (a / 4 * 4) = true) :=
  ⟨dv (fun d => d.onMp (fun c => { c with globals := [(1, 0x10000000)] })), .mp, { blankFmtM with ra := 1 }, _, _,
   by decide +kernel,
   rfl,
   rfl,
   by decide +kernel⟩

theorem w_StoresChangeOnlyTheirBytes_stb : ∃ (s : State) (u : Cpu) (f : FmtM) (c : Core) (a : Nat),
  (s.dev.executes u f.cond = true) ∧
  (c = s.dev.core u) ∧
  (a = (c.reg f.ra + f.ext).toNat) ∧
  (s.dev.storable u (a / 4 * 4) = true) :=
  ⟨dv (fun d => d.onMp (fun c => { c with globals := [(1, 0x10000000)] })), .mp, { blankFmtM with ra := 1 }, _, _,
   by decide +kernel,
   rfl,
   rfl,
   by decide +kernel⟩

theorem w_StoresChangeOnlyTheirBytes_atom : ∃ (s : State) (u : Cpu) (f : FmtR) (c : Core) (a : Nat) (old : Word) (new : Word),
  (s.dev.executes u f.cond = true) ∧
  (c = s.dev.core u) ∧
  (f.func.toNat ≤ 3) ∧
  (f.s = false) ∧
  (a = (c.reg f.ra).toNat) ∧
  (a % 4 = 0) ∧
  (atomic u a = true) ∧
  (old = wd (leNat ((List.range 4).map (fun i => s.dev.memByte u (a + i))))) ∧
  (new = (if f.func = 0 then c.reg f.rb else if f.func = 1 then old + c.reg f.rb else if f.func = 2 then old &&& c.reg f.rb else old ||| c.reg f.rb)) :=
  by refine ⟨dv (fun d => d.onMp (fun c => { c with globals := [(1, 0x10000000)] })), .mp, { blankFmtR with ra := 1 }, _, _, _, _,
   ?_, rfl, ?_, ?_, rfl, ?_, ?_, rfl, rfl⟩ <;> decide +kernel

theorem w_StoresChangeOnlyTheirBytes_next : ∃ (D : Dev) (u : Cpu),
  ((D.core u).slot = none) :=
  ⟨T0.dev, .mp,
   by decide +kernel⟩

theorem w_LoadsGiveTheirBytes_ldw : ∃ (s : State) (u : Cpu) (f : FmtM) (c : Core) (a : Nat) (v : Word),
  (s.dev.executes u f.cond = true) ∧
  (c = s.dev.core u) ∧
  (a = (c.reg f.ra + f.ext).toNat) ∧
  (a % 4 = 0) ∧
  (s.dev.storable u (a / 4 * 4) = true) ∧
  (v = wd (leNat ((List.range 4).map (fun i => s.dev.memByte u (a + i))))) :=
  ⟨dv (fun d => d.onMp (fun c => { c with globals := [(1, 0x10000000)] })), .mp, { blankFmtM with ra := 1 }, _, _, _,
   by decide +kernel,
   rfl,
   rfl,
   by decide +kernel,
   by decide +kernel,
   rfl⟩

theorem w_LoadsGiveTheirBytes_ldh : ∃ (s : State) (u : Cpu) (f : FmtM) (c : Core) (a : Nat) (v : Word),
  (s.dev.executes u f.cond = true) ∧
  (c = s.dev.core u) ∧
  (a = (c.reg f.ra + f.ext).toNat) ∧
  (a % 2 = 0) ∧
  (s.dev.storable u (a / 4 * 4) = true) ∧
  (v = wd (leNat ((List.range 2).map (fun i => s.dev.memByte u (a + i))))) :=
  ⟨dv (fun d => d.onMp (fun c => { c with globals := [(1, 0x10000000)] })), .mp, { blankFmtM with ra := 1 }, _, _, _,
   by decide +kernel,
   rfl,
   rfl,
   by decide +kernel,
   by decide +kernel,
   rfl⟩

theorem w_LoadsGiveTheirBytes_ldhu : ∃ (s : State) (u : Cpu) (f : FmtM) (c : Core) (a : Nat) (v : Word),
  (s.dev.executes u f.cond = true) ∧
  (c = s.dev.core u) ∧
  (a = (c.reg f.ra + f.ext).toNat) ∧
  (a % 2 = 0) ∧
  (s.dev.storable u (a / 4 * 4) = true) ∧
  (v = wd (leNat ((List.range 2).map (fun i => s.dev.memByte u (a + i))))) :=
  ⟨dv (fun d => d.onMp (fun c => { c with globals := [(1, 0x10000000)] })), .mp, { blankFmtM with ra := 1 }, _, _, _,
   by decide +kernel,
   rfl,
   rfl,
   by decide +kernel,
   by decide +kernel,
   rfl⟩

theorem w_LoadsGiveTheirBytes_ldb : ∃ (s : State) (u : Cpu) (f : FmtM) (c : Core) (a : Nat) (v : Word),
  (s.dev.executes u f.cond = true) ∧
  (c = s.dev.core u) ∧
  (a = (c.reg f.ra + f.ext).toNat) ∧
  (s.dev.storable u (a / 4 * 4) = true) ∧
  (v = wd (leNat ((List.range 1).map (fun i => s.dev.memByte u (a + i))))) :=
  ⟨dv (fun d => d.onMp (fun c => { c with globals := [(1, 0x10000000)] })), .mp, { blankFmtM with ra := 1 }, _, _, _,
   by decide +kernel,
   rfl,
   rfl,
   by decide +kernel,
   rfl⟩

theorem w_LoadsGiveTheirBytes_ldbu : ∃ (s : State) (u : Cpu) (f : FmtM) (c : Core) (a : Nat) (v : Word),
  (s.dev.executes u f.cond = true) ∧
  (c = s.dev.core u) ∧
  (a = (c.reg f.ra + f.ext).toNat) ∧
  (s.dev.storable u (a / 4 * 4) = true) ∧
  (v = wd (leNat ((List.range 1).map (fun i => s.dev.memByte u (a + i))))) :=
  ⟨dv (fun d => d.onMp (fun c => { c with globals := [(1, 0x10000000)] })), .mp, { blankFmtM with ra := 1 }, _, _, _,
   by decide +kernel,
   rfl,
   rfl,
   by decide +kernel,
   rfl⟩

theorem w_RegisterInstructionFrames_alu : ∃ (s : State) (u : Cpu) (f : FmtR),
  (s.dev.executes u f.cond = true) ∧
  ((s.dev.core u).slot = none) ∧
  (f.func.toNat ≤ 0x17) ∧
  (f.func = 0x0F → f.rb = 0) :=
  ⟨T0, .mp, (blankFmtR),
   by decide +kernel⟩

theorem w_RegisterInstructionFrames_addi : ∃ (s : State) (u : Cpu) (f : FmtI),
  (s.dev.executes u f.cond = true) ∧
  ((s.dev.core u).slot = none) :=
  ⟨T0, .mp, (blankFmtI),
   by decide +kernel⟩

theorem w_RegisterInstructionFrames_subi : ∃ (s : State) (u : Cpu) (f : FmtI),
  (s.dev.executes u f.cond = true) ∧
  ((s.dev.core u).slot = none) :=
  ⟨T0, .mp, (blankFmtI),
   by decide +kernel⟩

theorem w_RegisterInstructionFrames_andi : ∃ (s : State) (u : Cpu) (f : FmtI),
  (s.dev.executes u f.cond = true) ∧
  ((s.dev.core u).slot = none) :=
  ⟨T0, .mp, (blankFmtI),
   by decide +kernel⟩

theorem w_RegisterInstructionFrames_ori : ∃ (s : State) (u : Cpu) (f : FmtI),
  (s.dev.executes u f.cond = true) ∧
  ((s.dev.core u).slot = none) :=
  ⟨T0, .mp, (blankFmtI),
   by decide +kernel⟩

theorem w_RegisterInstructionFrames_xori : ∃ (s : State) (u : Cpu) (f : FmtI),
  (s.dev.executes u f.cond = true) ∧
  ((s.dev.core u).slot = none) :=
  ⟨T0, .mp, (blankFmtI),
   by decide +kernel⟩

theorem w_RegisterInstructionFrames_muli : ∃ (s : State) (u : Cpu) (f : FmtI),
  (s.dev.executes u f.cond = true) ∧
  ((s.dev.core u).slot = none) :=
  ⟨T0, .mp, (blankFmtI),
   by decide +kernel⟩

theorem w_RegisterInstructionFrames_shli : ∃ (s : State) (u : Cpu) (f : FmtI),
  (s.dev.executes u f.cond = true) ∧
  ((s.dev.core u).slot = none) ∧
  (f.imm.toNat < 32) :=
  ⟨T0, .mp, (blankFmtI),
   by decide +kernel⟩

theorem w_RegisterInstructionFrames_shri : ∃ (s : State) (u : Cpu) (f : FmtI),
  (s.dev.executes u f.cond = true) ∧
  ((s.dev.core u).slot = none) ∧
  (f.imm.toNat < 32) :=
  ⟨T0, .mp, (blankFmtI),
   by decide +kernel⟩

theorem w_RegisterInstructionFrames_sari : ∃ (s : State) (u : Cpu) (f : FmtI),
  (s.dev.executes u f.cond = true) ∧
  ((s.dev.core u).slot = none) ∧
  (f.imm.toNat < 32) :=
  ⟨T0, .mp, (blankFmtI),
   by decide +kernel⟩

theorem w_RegisterInstructionFrames_rori : ∃ (s : State) (u : Cpu) (f : FmtI),
  (s.dev.executes u f.cond = true) ∧
  ((s.dev.core u).slot = none) ∧
  (f.imm.toNat < 32) :=
  ⟨T0, .mp, (blankFmtI),
   by decide +kernel⟩

theorem w_RegisterInstructionFrames_movl : ∃ (s : State) (u : Cpu) (f : FmtU),
  (s.dev.executes u f.cond = true) ∧
  ((s.dev.core u).slot = none) :=
  ⟨T0, .mp, (blankFmtU),
   by decide +kernel⟩

theorem w_RegisterInstructionFrames_movh : ∃ (s : State) (u : Cpu) (f : FmtU),
  (s.dev.executes u f.cond = true) ∧
  ((s.dev.core u).slot = none) :=
  ⟨T0, .mp, (blankFmtU),
   by decide +kernel⟩

theorem w_RegisterInstructionFrames_mfs : ∃ (s : State) (u : Cpu) (f : FmtR),
  (s.dev.executes u f.cond = true) ∧
  ((s.dev.core u).slot = none) ∧
  (f.ra = 0) ∧
  (f.rb = 0) ∧
  (f.s = false) ∧
  (f.func.toNat ≤ 8) ∧
  (f.func ≠ 6) :=
  ⟨T0, .mp, (blankFmtR),
   by decide +kernel⟩

theorem w_SpecialRegisters_psr : ∃ (c : Core) (g : Core) (v : Word) (mp : Bool) (tb : Nat),
  (c.setSpecial 0 v = some g) :=
  ⟨(Core.reset true), _, 0, false, 0,
   (Option.some_get (by decide +kernel)).symm⟩

theorem w_SpecialRegisters_spillp : ∃ (c : Core) (g : Core) (v : Word) (mp : Bool) (tb : Nat),
  (c.setSpecial 2 v = some g) :=
  ⟨(Core.reset true), _, 0, false, 0,
   (Option.some_get (by decide +kernel)).symm⟩

theorem w_SpecialRegisters_lk : ∃ (c : Core) (g : Core) (v : Word) (mp : Bool) (tb : Nat),
  (c.setSpecial 3 v = some g) :=
  ⟨(Core.reset true), _, 0, false, 0,
   (Option.some_get (by decide +kernel)).symm⟩

theorem w_SpecialRegisters_epc : ∃ (c : Core) (g : Core) (v : Word) (mp : Bool) (tb : Nat),
  (c.setSpecial 4 v = some g) :=
  ⟨(Core.reset true), _, 0, false, 0,
   (Option.some_get (by decide +kernel)).symm⟩

theorem w_SpecialRegisters_ecause : ∃ (c : Core) (g : Core) (v : Word) (mp : Bool) (tb : Nat),
  (c.setSpecial 5 v = some g) :=
  ⟨(Core.reset true), _, 0, false, 0,
   (Option.some_get (by decide +kernel)).symm⟩

theorem w_SpecialRegisters_evt : ∃ (c : Core) (g : Core) (v : Word) (mp : Bool) (tb : Nat),
  (c.setSpecial 8 v = some g) :=
  ⟨(Core.reset true), _, 0, false, 0,
   (Option.some_get (by decide +kernel)).symm⟩

theorem w_SpecialRegisters_win : ∃ (c : Core) (g : Core) (v : Word) (mp : Bool) (tb : Nat),
  (c.setSpecial 1 v = some g) :=
  ⟨(Core.reset true), _, 0x10, false, 0,
   (Option.some_get (by decide +kernel)).symm⟩

theorem w_FirstApplicableCode_none : ∃ (cs : List (Bool × Nat)),
  (∀ c ∈ cs, c.2 ∈ codeOrder) :=
  ⟨[],
   by decide +kernel⟩

theorem w_FirstApplicableCode_first : ∃ (cs : List (Bool × Nat)) (pre : List Nat) (post : List Nat) (k : Nat),
  (codeOrder = pre ++ k :: post) ∧
  ((true, k) ∈ cs) ∧
  (∀ c ∈ cs, c.1 = true → c.2 ∉ pre) :=
  ⟨[(true, RC.BAD_LENGTH)], [RC.VERSION], codeOrder.drop 2, RC.BAD_LENGTH,
   by decide +kernel⟩

theorem w_WriteStopsAtRefusal_ok : ∃ (d : Dev) (e : Dev) (src : Src) (p : Nat) (o : Nat) (i : Nat) (w : Word) (ws : List Word),
  (d.regWrite src (4096 * p + o) w = (e, Ans.ok [])) :=
  ⟨T0.dev, _, .mp, 0x20, A.PMU.WAKE_EN - 0x20000, 0, 2, [],
   (Prod.ext (rfl) (by decide +kernel))⟩

theorem w_WriteStopsAtRefusal_stops : ∃ (pre : List Word) (post : List Word) (w : Word) (d : Dev) (d1 : Dev) (src : Src) (p : Nat) (o : Nat),
  (d.writeWords src p pre o 0 = (d1, Ans.ok [])) ∧
  ((d1.regWrite src (4096 * p + (o + 4 * pre.length)) w).2.code ≠ RC.OK) :=
  ⟨[], [], 0, T0.dev, _, .mp, 0, 0,
   (Prod.ext (rfl) (by decide +kernel)),
   by decide +kernel⟩

theorem w_WriteStopsAtRefusal_refused : ∃ (d : Dev) (src : Src) (a : Nat) (w : Word),
  ((d.regWrite src a w).2.code ≠ RC.OK) :=
  ⟨T0.dev, .mp, 0, 0,
   by decide +kernel⟩

theorem w_AttentionCountsEveryChange_seq : ∃ (d : Dev) (p : Nat) (cause : Word) (mask : Word) (old : Word) (new : Word),
  (old = (d.page p).pend) ∧
  (new = cause &&& ~~~ mask) :=
  ⟨T0.dev, 0, 0, 0, _, _,
   rfl,
   rfl⟩

theorem w_AttentionCountsEveryChange_raise : ∃ (d : Dev) (b : Blk) (i : Nat),
  (i < 32) ∧
  (bitOf (d.blk b).cause i = false) ∧
  (bitOf (d.blk b).mask i = false) :=
  ⟨(T0.dev.setBlk .pmu { T0.dev.blk .pmu with mask := 0 }), .pmu, 0,
   by decide +kernel⟩

theorem w_CountersCount_saturates : ∃ (d : Dev) (a : Nat) (n : Nat) (b : Blk) (c : CtrDef),
  (blkOfPage (a / 4096) = some b) ∧
  (ctrAt b (a % 4096) = some c) ∧
  (c.wide = false) ∧
  (c.sat = true) :=
  ⟨T0.dev, 0x50104, 0, .tmu, _,
   by decide +kernel,
   (Option.some_get (by decide +kernel)).symm,
   by decide +kernel⟩

theorem w_CountersCount_wraps : ∃ (d : Dev) (a : Nat) (n : Nat) (b : Blk) (c : CtrDef),
  (blkOfPage (a / 4096) = some b) ∧
  (ctrAt b (a % 4096) = some c) ∧
  (c.wide = false) ∧
  (c.sat = false) :=
  ⟨T0.dev, 0x50100, 0, .tmu, _,
   by decide +kernel,
   (Option.some_get (by decide +kernel)).symm,
   by decide +kernel⟩

theorem w_CountersCount_wide : ∃ (d : Dev) (a : Nat) (n : Nat) (b : Blk) (c : CtrDef),
  (blkOfPage (a / 4096) = some b) ∧
  (ctrAt b (a % 4096) = some c) ∧
  (c.wide = true) :=
  ⟨T0.dev, 4096 * blkPage (.eth 0) + 0x104, 0, (.eth 0), _,
   by decide +kernel,
   (Option.some_get (by decide +kernel)).symm,
   by decide +kernel⟩

theorem w_CountersCount_clears : ∃ (d : Dev) (a : Nat) (b : Blk) (c : CtrDef),
  (blkOfPage (a / 4096) = some b) ∧
  (ctrAt b (a % 4096) = some c) :=
  ⟨T0.dev, 0x50100, .tmu, _,
   by decide +kernel,
   (Option.some_get (by decide +kernel)).symm⟩

theorem w_CountersCount_keeps : ∃ (d : Dev) (a : Nat) (v : Word),
  (v ≠ 0) :=
  ⟨T0.dev, 0x50100, 1,
   by decide +kernel⟩

theorem w_HeaderReadsAnswered_read : ∃ (d : Dev) (b : Blk) (a : Nat),
  (a < 2 ^ 24) ∧
  (blkOfPage (a / 4096) = some b) ∧
  (a % 4096 < 0x040) :=
  ⟨T0.dev, .tmu, 0x50010,
   by decide +kernel⟩

theorem w_HeaderReadsAnswered_request : ∃ (d : Dev) (src : Src) (m : Msg) (b : Blk) (n : Nat),
  (n = m.arg.toNat) ∧
  (blkOfPage (bitsOf m.addr 23 12) = some b) ∧
  (bitsOf m.addr 11 0 % 4 = 0) ∧
  (1 ≤ n) ∧
  (bitsOf m.addr 11 0 + 4 * n ≤ 0x040) ∧
  (m.len = 0) ∧
  (16 ≤ replyRoom src (decide (m.flags % 2 = 1))) :=
  ⟨T0.dev, .mp, { blankMsg with addr := 0x50010, arg := 1 }, .tmu, _,
   rfl,
   by decide +kernel⟩

theorem w_PoisonedLines_whole : ∃ (d : Dev) (a : Nat) (bs : List Byte),
  (a % 64 = 0) ∧
  (bs.length % 64 = 0) :=
  ⟨T0.dev, 0, [],
   by decide +kernel⟩

theorem w_PoisonedLines_others : ∃ (d : Dev) (a : Nat) (bs : List Byte),
  (a % 64 = 0) ∧
  (bs.length % 64 = 0) :=
  ⟨T0.dev, 0, [],
   by decide +kernel⟩

theorem w_PoisonedLines_window : ∃ (d : Dev) (a : Nat) (n : Nat),
  (0x80000000 ≤ a) ∧
  (d.winCode a n = RC.OK) ∧
  (d.rangePoisoned (d.winAddr a) n = true) :=
  ⟨(T0.dev.dramUp.setPoison 0 true), 0x80000000, 4,
   by decide +kernel⟩

theorem w_StateEntryConditions_entered : ∃ (d : Dev) (p : PwrState),
  (p = .idle ∨ p = .sleep) ∧
  (d.pmu.state = .run) ∧
  (d.pmu.entering = none) ∧
  (d.entryBlock p = none) :=
  ⟨T0.dev, .idle,
   Or.inl rfl,
   by decide +kernel⟩

theorem w_StateEntryConditions_refused : ∃ (d : Dev) (p : PwrState) (reason : Nat) (page : Nat),
  (p = .idle ∨ p = .sleep ∨ p = .off) ∧
  (d.pmu.state = .run) ∧
  (d.pmu.entering = none) ∧
  (d.entryBlock p = some (reason, page)) :=
  ⟨T0.dev.onRfe .a (fun f => { f with cur := .receive }), .sleep, 1, 0x100,
   Or.inr (Or.inl rfl),
   by decide +kernel⟩

theorem w_LifeCycleOrder_forward : ∃ (d : Dev) (dest : LifeCycle) (ws : List Word),
  (d.lifeOk dest ws = true) :=
  ⟨T0.dev, .test, [],
   by decide +kernel⟩

theorem w_LifeCycleOrder_table : ∃ (d : Dev) (dest : LifeCycle) (ws : List Word),
  (dest ≠ .end_) :=
  ⟨T0.dev, .test, [],
   by decide +kernel⟩

theorem w_StoresKeepMemoryForm_mp : ∃ (d : Dev) (a : Nat) (n : Nat) (v : Word),
  (n = 1 ∨ n = 2 ∨ n = 4) ∧
  (a % n = 0) ∧
  (d.memWf = true) ∧
  (¬ (0x20000000 ≤ a ∧ a < 0x21000000)) :=
  ⟨T0.dev, 0x10000000, 4, 1,
   by decide +kernel⟩

theorem w_StoresKeepMemoryForm_quill : ∃ (d : Dev) (k : Fin 16) (a : Nat) (n : Nat) (v : Word),
  (n = 1 ∨ n = 2 ∨ n = 4) ∧
  (a % n = 0) ∧
  (d.memWf = true) ∧
  ((0x10000000 ≤ a ∧ a < 0x10008000) ∨ (0x30000000 ≤ a ∧ a < 0x30100000)) :=
  ⟨T0.dev, 0, 0x10000000, 4, 1,
   by decide +kernel⟩

theorem w_LockedRegistersKeepTheirValue_refused : ∃ (d : Dev) (src : Src) (b : Blk) (a : Nat) (v : Word) (r : RegDef),
  (blkOfPage (a / 4096) = some b) ∧
  (regAt b (a % 4096) = some r) ∧
  (0x040 ≤ a % 4096) ∧
  (r.flds.any (fun f => decide (f.acc = .rwl)) = true) ∧
  ((d.page (a / 4096)).lock = true) :=
  ⟨(T0.dev.setPage 0x60 { T0.dev.page 0x60 with lock := true }), .mp, .rgl, 0x60200, 0, _,
   by decide +kernel,
   (Option.some_get (by decide +kernel)).symm,
   by decide +kernel⟩

theorem w_LockedRegistersKeepTheirValue_stays : ∃ (d : Dev) (b : Blk) (p : Nat) (o : Nat) (v : Word),
  (o = 0x020) ∧
  ((d.page p).lock = true) :=
  ⟨(T0.dev.setPage 0x60 { T0.dev.page 0x60 with lock := true }), .rgl, 0x60, 0x020, 0,
   by decide +kernel⟩

theorem w_LockedRegistersKeepTheirValue_sets : ∃ (d : Dev) (b : Blk) (p : Nat) (v : Word),
  (bitOf v 0 = true) :=
  ⟨T0.dev, .rgl, 0x60, 1,
   by decide +kernel⟩

end Sys2Proof.Machine
end

section
/-! SUPPORT. Reads of a page's header words: they meet no condition, have no effect, and give the header's values (spec/02 R26, R31,
R32). -/

namespace Sys2Proof.Machine

/-! One word -/

theorem Dev.readCodes_header (d : Dev) {b : Blk} {p o : Nat} (hb : blkOfPage p = some b) (ho : o < 0x040) : d.readCodes p o = [] := by
  simp [Dev.readCodes, hb, ho]

theorem Dev.readValue_header (d : Dev) {b : Blk} {p o : Nat} (hb : blkOfPage p = some b) (ho : o < 0x040) :
    d.readValue p o = d.headerRead b p o := by
  simp [Dev.readValue, hb, ho]

/-- The only register that a read changes stands at offset 0x084 of its page, above the header (R114). -/
theorem Dev.readEffect_header (d : Dev) {p o : Nat} (ho : o < 0x040) : d.readEffect p o = d := by
  have hne : 4096 * p + o ≠ A.PHY.RADAR_FIFO1 .b := by
    simp only [A.PHY.RADAR_FIFO1, Radio.num]
    omega
  simp [Dev.readEffect, hne]

theorem Dev.regRead_header (d : Dev) {b : Blk} {a : Nat} (hb : blkOfPage (a / 4096) = some b) (ho : a % 4096 < 0x040) :
    d.regRead a = (d, Ans.ok [d.headerRead b (a / 4096) (a % 4096)]) := by
  have hc : refuse (d.readCodes (a / 4096) (a % 4096)) = RC.OK := by
    rw [d.readCodes_header hb ho]
    exact refuse_nil (by simp)
  simp only [Dev.regRead, hb, hc, if_pos ho, if_true, d.readEffect_header ho, d.readValue_header hb ho]

/-! A range of words -/

theorem Dev.readBad_header (d : Dev) {b : Blk} {p : Nat} (hb : blkOfPage p = some b) (n o i : Nat) (hn : o + 4 * n ≤ 0x040) :
    d.readBad p n o i = none := by
  induction n generalizing o i with
  | zero => rfl
  | succ n ih =>
    have hc : refuse (d.readCodes p o) = RC.OK := by
      rw [d.readCodes_header hb (by omega)]
      exact refuse_nil (by simp)
    simp only [Dev.readBad, hc, if_true]
    exact ih (o + 4) (i + 1) (by omega)

theorem Dev.readWords_header (d : Dev) {b : Blk} {p : Nat} (hb : blkOfPage p = some b) (n o : Nat) (hn : o + 4 * n ≤ 0x040) :
    d.readWords p n o = (d, (List.range n).map (fun i => d.headerRead b p (o + 4 * i))) := by
  induction n generalizing o with
  | zero => rfl
  | succ n ih =>
    have ho : o < 0x040 := by omega
    have hoff : ∀ i, o + 4 + 4 * i = o + 4 * (i + 1) := by omega
    simp only [Dev.readWords, d.readEffect_header ho, d.readValue_header hb ho, ih (o + 4) (by omega), hoff,
      List.range_succ_eq_map, List.map_cons, List.map_map, Function.comp_def, Nat.mul_zero, Nat.add_zero]

/-- A range within a header is no more than its 16 words, on an existing page: no session's version refuses it. -/
theorem Dev.rangeCodes_header (d : Dev) (src : Src) {m : Msg} {b : Blk} (hb : blkOfPage (bitsOf m.addr 23 12) = some b)
    (h4 : bitsOf m.addr 11 0 % 4 = 0) (h1 : 1 ≤ m.arg.toNat) (hn : bitsOf m.addr 11 0 + 4 * m.arg.toNat ≤ 0x040) :
    ∀ c ∈ d.rangeCodes src m, c.1 = false := by
  have hcount : outside m.arg.toNat 1 (if d.version src = some 1 then 64 else 256) = false := by
    rw [outside, decide_eq_false_iff_not]
    split <;> omega
  have hend : ¬ 0x1000 < bitsOf m.addr 11 0 + 4 * m.arg.toNat := by omega
  simp [Dev.rangeCodes, hcount, h4, hend, hb]

theorem Dev.readOp_header (d : Dev) (src : Src) {m : Msg} {b : Blk} (hb : blkOfPage (bitsOf m.addr 23 12) = some b)
    (h4 : bitsOf m.addr 11 0 % 4 = 0) (h1 : 1 ≤ m.arg.toNat) (hn : bitsOf m.addr 11 0 + 4 * m.arg.toNat ≤ 0x040)
    (hlen : m.len = 0) (hroom : 16 ≤ replyRoom src (decide (m.flags % 2 = 1))) :
    d.readOp src m [] = (d, Ans.ok ((List.range m.arg.toNat).map
      (fun i => d.headerRead b (bitsOf m.addr 23 12) (bitsOf m.addr 11 0 + 4 * i)))) := by
  have hfits : ¬ replyRoom src (decide (m.flags % 2 = 1)) < m.arg.toNat := by omega
  have hform : refuse ([] ++ d.rangeCodes src m ++ [(decide (m.len ≠ 0), RC.BAD_LENGTH),
      (decide (replyRoom src (decide (m.flags % 2 = 1)) < m.arg.toNat), RC.BAD_LENGTH)]) = RC.OK :=
    refuse_nil (all_append (d.rangeCodes_header src hb h4 h1 hn) (by simp [hlen, hfits]))
  simp only [Dev.readOp, hform, if_true, d.readBad_header hb _ _ 0 hn, ite_self, hb, if_pos hn, d.readWords_header hb _ _ hn]

/-- Settles O54: a header word meets no condition, and its read has no effect; a range of them by induction on its words. -/
theorem headerReadsAnswered : Obligations.HeaderReadsAnswered := by
  unfold Obligations.HeaderReadsAnswered
  refine ⟨fun d b a _ hb ho => d.regRead_header hb ho, ?_⟩
  rintro d src m b n rfl hb h4 h1 hn hlen hroom
  exact d.readOp_header src hb h4 h1 hn hlen hroom

end Sys2Proof.Machine
end

section
/-! SUPPORT. Register fields by the names R242 gives them: globals, p, w, n and LK of the current window, as places of the groups
of R243. -/

namespace Sys2Proof.Machine

/-- `Core.reg_global` of a field, not of its number. -/
theorem Core.reg_of_lt_eight (c : Core) {n : BitVec 5} (hn : n.toNat < 8) :
    c.reg n = if n = 0 then 0 else tabGet 0 c.globals n.toNat := by
  have hzero : n.toNat = 0 ↔ n = 0 := BitVec.toNat_inj (y := 0)
  rw [c.reg_of rfl, if_pos hn]
  simp only [hzero]

/-- p0 to p7 are the low half of group CWP. -/
theorem Core.reg_p (c : Core) {i : Nat} (hc : c.cwp < 12) (hi : i < 8) :
    c.reg (BitVec.ofNat 5 (8 + i)) = tabGet 0 c.windows (16 * c.cwp + i) := by
  rw [c.reg_param (by omega), Nat.mod_eq_of_lt hc]

/-- w0 to w7 are the high half of group CWP: `Core.reg_param` goes on from p7 to w0. -/
theorem Core.reg_w (c : Core) {i : Nat} (hc : c.cwp < 12) (hi : i < 8) :
    c.reg (BitVec.ofNat 5 (16 + i)) = tabGet 0 c.windows (16 * c.cwp + 8 + i) := by
  have hfield : 16 + i = 8 + (8 + i) := by omega
  rw [hfield, c.reg_param (by omega), Nat.mod_eq_of_lt hc, Nat.add_assoc (16 * c.cwp) 8 i]

theorem Core.lk_eq (c : Core) (hc : c.cwp < 12) : c.lk = tabGet 0 c.links c.cwp := by
  rw [Core.lk, Core.linkOf, Nat.mod_eq_of_lt hc]

/-- Both name the low half of group (CWP + 1) mod 12: the shared half by which a caller passes its arguments. -/
theorem Core.reg_p_next_window (c : Core) {i : Nat} (hi : i < 8) :
    ({ c with cwp := (c.cwp + 1) % 12 } : Core).reg (BitVec.ofNat 5 (8 + i)) = c.reg (BitVec.ofNat 5 (24 + i)) := by
  rw [Core.reg_param _ (by omega), c.reg_next hi, Nat.mod_mod]

/-- Settles O41: each kind of field by the half of a group it names; a write by the distinct places of distinct fields. -/
theorem registerWindows : Obligations.RegisterWindows := by
  unfold Obligations.RegisterWindows
  refine ⟨fun c _ hn => c.reg_of_lt_eight hn, fun c _ hc hi => c.reg_p hc hi, fun c _ hc hi => c.reg_w hc hi,
    fun c _ hi => c.reg_next hi, fun c hc => c.lk_eq hc, ?_, fun c n m v => c.reg_setReg n m v⟩
  rintro c e i hi rfl
  exact c.reg_p_next_window hi

end Sys2Proof.Machine
end

section
/-! SUPPORT. Every step answers a next state in which no WATCH is overdue: what `exec` can do, said once (spec/02 R37). -/

namespace Sys2Proof.Machine

/-! What a step can do -/

/-- Every command is an effect on the device, after which the overdue WATCHes are answered. -/
theorem exec_next (c : Instr) (s : State) : ∃ d : Dev, exec c s = .next { s with dev := d.answerWatches } := by
  cases c <;> exact ⟨_, rfl⟩

/-- Every step is one too; it takes at most the front command. -/
theorem step_next (s : State) : ∃ d : Dev, step s = .next { dev := d.answerWatches, pending := s.pending.tail } := by
  obtain ⟨d, cs⟩ := s
  cases cs with
  | nil => exact ⟨d.tick, rfl⟩
  | cons c cs => exact exec_next c { dev := d, pending := cs }

/-! Sessions with an open WATCH -/

theorem mem_tabKeys_of_tabFind {α : Type} {t : Tab α} {k : Nat} {v : α} (h : tabFind t k = some v) : k ∈ tabKeys t := by
  induction t with
  | nil => cases h
  | cons e t ih =>
    obtain ⟨j, w⟩ := e
    by_cases hj : j = k
    · exact hj ▸ List.mem_cons_self
    · rw [tabFind, if_neg hj] at h
      exact List.mem_cons_of_mem _ (ih h)

theorem Dev.mem_sessions_of_watchOf {d : Dev} {src : Src} {w : Watch} (h : d.watchOf src = some w) : src ∈ d.sessions := by
  cases src with
  | pcie n =>
    cases hr : tabFind d.hci.rings n with
    | none =>
      rw [Dev.watchOf, Dev.ring, hr] at h
      cases h
    | some r => simp [Dev.sessions, mem_tabKeys_of_tabFind hr]
  | spi => simp [Dev.sessions]
  | acp id =>
    obtain ⟨a, ha, -⟩ := Option.bind_eq_some_iff.1 h
    simp [Dev.sessions, mem_tabKeys_of_tabFind ha]
  | mp => cases h

@[simp] theorem Dev.watchStep_attnSeq (d : Dev) (src : Src) : (d.watchStep src).hci.attnSeq = d.hci.attnSeq := by
  unfold Dev.watchStep
  split
  · split
    · exact d.answerWatch_attnSeq src 0
    · rfl
  · rfl

/-- A session's turn leaves the other sessions' WATCHes, and its own only where that is not overdue. -/
theorem Dev.watchOf_of_watchStep {d : Dev} {src x : Src} {w : Watch} (h : (d.watchStep src).watchOf x = some w) :
    d.watchOf x = some w ∧ (x = src → w.seen = d.hci.attnSeq) := by
  unfold Dev.watchStep at h
  split at h
  next v hv =>
    split at h
    next hlate =>
      rw [Dev.answerWatch_watchOf] at h
      split at h
      · cases h
      next hx => exact ⟨h, fun e => absurd e hx⟩
    next hseen =>
      refine ⟨h, fun e => ?_⟩
      subst e
      rw [hv] at h
      cases h
      exact Classical.not_not.1 hseen
  next hv =>
    refine ⟨h, fun e => ?_⟩
    subst e
    rw [hv] at h
    cases h

/-- A WATCH still open after the sessions of `l` had their turn was open before, and none of `l` has an overdue one. -/
theorem Dev.watchOf_of_watchFold {l : List Src} {d : Dev} {x : Src} {w : Watch} (h : (l.foldl Dev.watchStep d).watchOf x = some w) :
    d.watchOf x = some w ∧ (x ∈ l → w.seen = d.hci.attnSeq) := by
  induction l generalizing d with
  | nil => exact ⟨h, fun hx => by cases hx⟩
  | cons src l ih =>
    obtain ⟨hopen, hrest⟩ := ih h
    obtain ⟨hd, hsrc⟩ := Dev.watchOf_of_watchStep hopen
    rw [Dev.watchStep_attnSeq] at hrest
    exact ⟨hd, fun hx => (List.mem_cons.1 hx).elim hsrc hrest⟩

/-- What R37 asks of every change of ATTN_SEQ. -/
theorem Dev.answerWatches_answered (d : Dev) : d.answerWatches.WatchesAnswered := by
  intro src w h
  rw [Dev.answerWatches_eq] at h
  obtain ⟨hopen, hseen⟩ := Dev.watchOf_of_watchFold h
  rw [Dev.answerWatches_attnSeq]
  exact hseen (Dev.mem_sessions_of_watchOf hopen)

/-! The statements -/

/-- Settles O31: by definition of `step`. -/
theorem stepRunsFront : Obligations.StepRunsFront := fun _ _ _ => rfl

/-- Settles O33: each of the table's rows is an effect on the device. -/
theorem everyCommandAnswers : Obligations.EveryCommandAnswers := by
  unfold Obligations.EveryCommandAnswers
  intro c s
  obtain ⟨d, hd⟩ := exec_next c s
  exact ⟨d.answerWatches, hd⟩

/-- Settles O34: nothing waits and no session is open at reset; the memories are empty (`reset_memWf`). -/
theorem invariantAtReset : Obligations.InvariantAtReset := by
  unfold Obligations.InvariantAtReset
  refine ⟨⟨?_, fun c hc => nomatch hc⟩, reset_memWf⟩
  intro src w h
  cases src <;> cases h

/-- Settles O35: every step ends by answering the overdue WATCHes, and takes commands off the queue only. -/
theorem stepKeepsInvariant : Obligations.StepKeepsInvariant := by
  unfold Obligations.StepKeepsInvariant
  rintro s t ⟨-, hpend⟩ hstep
  obtain ⟨d, hd⟩ := step_next s
  rw [hd] at hstep
  cases hstep
  exact ⟨Dev.answerWatches_answered _, fun c hc => hpend c (List.mem_of_mem_tail hc)⟩

/-- A tick leaves every WATCH and ATTN_SEQ. -/
theorem Dev.WatchesAnswered.at_ {d : Dev} (h : d.WatchesAnswered) (t : Nat) : (d.at_ t).WatchesAnswered := by
  intro src w hw
  have hkeep : (d.at_ t).watchOf src = d.watchOf src := by cases src <;> simp [Dev.watchOf, Dev.ring]
  rw [Dev.at__hci]
  exact h src w (hkeep ▸ hw)

theorem step_idle {d : Dev} : step { dev := d, pending := [] } = .next { dev := d.tick.answerWatches, pending := [] } := rfl

/-- Settles O32: the tick, with nothing overdue after it (`Dev.answerWatches_id`). -/
theorem emptyQueueTicks : Obligations.EmptyQueueTicks := by
  unfold Obligations.EmptyQueueTicks
  refine ⟨fun d hrun hw => ?_, fun d hstop hw => ?_, fun d => ?_⟩
  · have htick : d.tick = d.at_ (d.tb + 1) := if_neg (by rcases hrun with h | h | h | h <;> simp [h])
    rw [step_idle, htick, Dev.answerWatches_id (hw.at_ _)]
  · have htick : d.tick = d := if_pos hstop
    rw [step_idle, htick, Dev.answerWatches_id hw]
  · show (d.tb + (d.tb + 1 - d.tb)) % 2 ^ 64 = _
    rw [Nat.add_sub_cancel_left]

end Sys2Proof.Machine
end

section
/-! SUPPORT. A window that was spilled comes back as it was: what `setFrame` leaves in a group (spec/10 R244, R245). -/

namespace Sys2Proof.Machine

/-- `tabGet_range` for words. -/
theorem tabGet_foldl_range {α : Type} [DecidableEq α] (d : α) (t : Tab α) (off n : Nat) (f : Nat → α) (k : Nat) :
    tabGet d ((List.range n).foldl (fun t i => tabSet d t (off + i) (f i)) t) k
      = if off ≤ k ∧ k < off + n then f (k - off) else tabGet d t k := by
  induction n with
  | zero => rw [if_neg (by omega)]; rfl
  | succ n ih =>
    rw [List.range_succ, List.foldl_append, List.foldl_cons, List.foldl_nil, tabGet_set]
    by_cases hlast : k = off + n
    · rw [if_pos hlast, if_pos (by omega)]
      exact congrArg f (by omega)
    · rw [if_neg hlast, ih]
      by_cases hin : off ≤ k ∧ k < off + n
      · rw [if_pos hin, if_pos (by omega)]
      · rw [if_neg hin, if_neg (by omega)]

theorem Core.frame_length (c : Core) (g : Nat) : (c.frame g).length = 18 := by simp [Core.frame]

theorem Core.frame_getD_reg (c : Core) (g : Nat) {i : Nat} (hi : i < 16) :
    (c.frame g).getD i 0 = tabGet 0 c.windows (16 * (g % 12) + i) := by
  simp [Core.frame, List.getD_eq_getElem?_getD, List.getElem?_append_left, hi]

theorem Core.windows_setFrame (c : Core) (g : Nat) (ws : List Word) {i : Nat} (hi : i < 16) :
    tabGet 0 (c.setFrame g ws).windows (16 * (g % 12) + i) = ws.getD i 0 := by
  show tabGet 0 ((List.range 16).foldl (fun t i => tabSet 0 t (16 * (g % 12) + i) (ws.getD i 0)) c.windows) _ = _
  rw [tabGet_foldl_range, if_pos (by omega), Nat.add_sub_cancel_left]

theorem Core.linkOf_setFrame (c : Core) (g : Nat) (ws : List Word) : (c.setFrame g ws).linkOf g = ws.getD 16 0 :=
  tabGet_set_same 0 c.links (g % 12) _

/-- `Core.advance_spill` backwards: a retreat with one resident window fills it from the last frame. -/
theorem Core.retreat_fill {u : Cpu} {c : Core} {k : Nat} (hres : c.res = 1) (hk : (c.spilled + 4095) % 4096 = k)
    (hok : frameOk u (c.frameAt k) = true) :
    c.retreat u = some { c.setFrame (c.cwp + 11) (c.frameIn (c.frameAt k - 0x10000000)) with
      spilled := k, res := 1, cwp := (c.cwp + 11) % 12 } := by
  subst hk
  rw [Core.retreat, if_pos hres]
  exact if_pos hok

/-- Settles O43: the advance stores the frame (`Core.advance_spill`, `Core.frameOut_eq`), and the retreat reads the same eighteen
words back (`Core.frameIn_eq`) into the group it retreats to. -/
theorem spilledWindowsReturn : Obligations.SpilledWindowsReturn := by
  unfold Obligations.SpilledWindowsReturn
  constructor
  · intro u c e hres hadv
    obtain ⟨-, rfl⟩ := Core.advance_spill hres hadv
    obtain ⟨m, hm, hbytes⟩ := c.frameOut_eq (c.frameAt c.spilled - 0x10000000)
    rw [hm]
    exact ⟨rfl, rfl, rfl, rfl, rfl, rfl, fun x hx => (hbytes x).trans (if_neg (by omega))⟩
  · intro u c e f hres hlt hadv hspilled hspillp hdmem hone hcwp
    obtain ⟨hok, rfl⟩ := Core.advance_spill hres hadv
    obtain ⟨m, hm, hbytes⟩ := c.frameOut_eq (c.frameAt c.spilled - 0x10000000)
    rw [hm] at hspilled hdmem
    have hframe : f.frameAt c.spilled = c.frameAt c.spilled := by rw [Core.frameAt, Core.frameAt, hspillp]
    have hwords : f.frameIn (c.frameAt c.spilled - 0x10000000) = c.frame (c.cwp + 2) :=
      f.frameIn_eq _ _ (c.frame_length _) (fun x hx => by rw [hdmem, hbytes, if_pos hx])
    have hgroup : (f.cwp + 11) % 12 = (c.cwp + 2) % 12 := by omega
    refine ⟨_, Core.retreat_fill hone (k := c.spilled) ?_ (hframe ▸ hok), rfl, rfl, hgroup, ?_, rfl, fun i hi => ?_⟩
    · simp only at hspilled
      omega
    · rw [Core.lk, Core.linkOf, Nat.mod_mod, hframe, hwords]
      exact Core.linkOf_setFrame f (f.cwp + 11) _
    · rw [Core.reg_param _ hi, Nat.mod_mod, hframe, hwords]
      exact (Core.windows_setFrame f (f.cwp + 11) _ hi).trans (c.frame_getD_reg _ hi)

end Sys2Proof.Machine
end

section
/-! SUPPORT. The life cycle and the results of self-tests (spec/17 R430 to R432, spec/19 R461). -/

namespace Sys2Proof.Machine

theorem Dev.lifeOk_end_iff (d : Dev) (ws : List Word) : d.lifeOk .end_ ws = true ↔ d.mgt.otp.lc ≠ .end_ := by
  cases hlc : d.mgt.otp.lc <;> simp [Dev.lifeOk, hlc]

/-- The rows of R430's table whose destination is not END. -/
theorem Dev.lifeOk_iff (d : Dev) {dest : LifeCycle} (ws : List Word) (hend : dest ≠ .end_) : d.lifeOk dest ws = true ↔
    (d.mgt.otp.lc = .raw ∧ dest = .test) ∨ (d.mgt.otp.lc = .test ∧ dest = .provision) ∨
    (d.mgt.otp.lc = .provision ∧ dest = .field ∧ rglPageOk ((List.range 64).map (fun i => tabGet 0 d.mgt.otp.reg i)) = true ∧
      bitOf (tabGet 0 d.mgt.otp.reg 0) 31 = true ∧ d.mgt.otp.keys ≠ []) ∨
    (d.mgt.otp.lc = .field ∧ dest = .ret ∧ d.tokenOk ws = true) := by
  cases dest with
  | end_ => exact absurd rfl hend
  | field => cases hlc : d.mgt.otp.lc <;> simp [Dev.lifeOk, hlc, and_assoc]
  | _ => cases hlc : d.mgt.otp.lc <;> simp [Dev.lifeOk, hlc]

/-- Every transition of R430 goes forward. -/
theorem Dev.num_lt_of_lifeOk {d : Dev} {dest : LifeCycle} {ws : List Word} (h : d.lifeOk dest ws = true) :
    d.mgt.otp.lc.num < dest.num := by
  by_cases hend : dest = .end_
  · subst hend
    have hne := (d.lifeOk_end_iff ws).1 h
    cases hlc : d.mgt.otp.lc <;> simp_all [LifeCycle.num]
  · rcases (d.lifeOk_iff ws hend).1 h with ⟨hlc, rfl⟩ | ⟨hlc, rfl⟩ | ⟨hlc, rfl, -⟩ | ⟨hlc, rfl, -⟩ <;> simp [hlc, LifeCycle.num]

/-- Settles O57: the table of `Dev.lifeOk`, transition by transition. -/
theorem lifeCycleOrder : Obligations.LifeCycleOrder := by
  unfold Obligations.LifeCycleOrder
  exact ⟨fun _ _ _ => Dev.num_lt_of_lifeOk, fun d _ ws hend => d.lifeOk_iff ws hend, Dev.lifeOk_end_iff,
    fun _ => ⟨rfl, rfl, rfl, rfl, rfl⟩⟩

/-- Settles O58: by the two outcomes of a run, complete and truncated. -/
theorem testResults : Obligations.TestResults := by
  unfold Obligations.TestResults
  refine ⟨fun complete eq mism => ?_, fun eq mism => ⟨rfl, Iff.rfl⟩⟩
  cases complete with
  | false => rfl
  | true =>
    by_cases hpass : eq = true ∧ mism = 0
    · simp [resultOf, hpass]
    · simp only [resultOf, Bool.and_eq_true, decide_eq_true_eq, hpass, if_true, if_false]

end Sys2Proof.Machine
end

section
/-! SUPPORT. The arithmetic behind the ALU: 64-bit numbers of two words, the signed order from N and V, quotient and remainder
(spec/10 R249 to R252). -/

namespace Sys2Proof.Machine

/-! Two words as one number -/

theorem toNat_append_word (x y : Word) : (x ++ y).toNat = 2 ^ 32 * x.toNat + y.toNat := by
  rw [BitVec.toNat_append, ← Nat.shiftLeft_add_eq_or_of_lt y.isLt, Nat.shiftLeft_eq, Nat.mul_comm]

theorem toInt_append_word (x y : Word) : (x ++ y).toInt = 2 ^ 32 * x.toInt + y.toNat := by
  rw [BitVec.toInt_eq_toNat_cond, BitVec.toInt_eq_toNat_cond, toNat_append_word]
  have := x.isLt
  have := y.isLt
  repeat' split
  all_goals omega

@[simp] theorem toNat_wd_b2n (b : Bool) : (wd (b2n b)).toNat = b2n b := by cases b <;> rfl

theorem b2n_decide (p : Prop) [Decidable p] : b2n (decide p) = if p then 1 else 0 := by
  by_cases h : p <;> simp [h, b2n]

/-! Sums and differences with carry and borrow -/

theorem aluAdd_res_toNat (a b : Word) (cin : Bool) : (aluAdd a b cin).res.toNat = (a.toNat + b.toNat + b2n cin) % 2 ^ 32 := by
  simp [aluAdd, BitVec.toNat_add]

theorem aluSub_res_toNat (a b : Word) (cin : Bool) :
    (aluSub a b cin).res.toNat = (a.toNat + (2 ^ 32 - b.toNat) + (2 ^ 32 - b2n cin)) % 2 ^ 32 := by
  have := a.isLt
  have := b.isLt
  have : b2n cin ≤ 1 := by cases cin <;> decide
  simp only [aluSub, BitVec.toNat_sub, toNat_wd_b2n]
  omega

theorem aluAdd_c_iff (a b : Word) (cin : Bool) : (aluAdd a b cin).c = true ↔ 2 ^ 32 ≤ a.toNat + b.toNat + b2n cin := decide_eq_true_iff

theorem aluSub_c_iff (a b : Word) (cin : Bool) : (aluSub a b cin).c = true ↔ a.toNat < b.toNat + b2n cin := decide_eq_true_iff

theorem aluSub_res (a b : Word) : (aluSub a b false).res = a - b := by simp [aluSub, b2n, wd]

theorem aluAdd_chain (a1 a0 b1 b0 : Word) :
    (aluAdd a1 b1 (aluAdd a0 b0 false).c).res ++ (aluAdd a0 b0 false).res = (a1 ++ a0) + (b1 ++ b0) ∧
      ((aluAdd a1 b1 (aluAdd a0 b0 false).c).c = true ↔ 2 ^ 64 ≤ (a1 ++ a0).toNat + (b1 ++ b0).toNat) := by
  have ha1 := a1.isLt
  have ha0 := a0.isLt
  have hb1 := b1.isLt
  have hb0 := b0.isLt
  have hcarry : b2n (aluAdd a0 b0 false).c = if 2 ^ 32 ≤ a0.toNat + b0.toNat then 1 else 0 := b2n_decide _
  constructor
  · apply BitVec.eq_of_toNat_eq
    rw [BitVec.toNat_add, toNat_append_word, toNat_append_word, toNat_append_word, aluAdd_res_toNat, aluAdd_res_toNat, hcarry]
    simp only [b2n, Bool.false_eq_true, if_false]
    split <;> omega
  · rw [aluAdd_c_iff, toNat_append_word, toNat_append_word, hcarry]
    split <;> omega

theorem aluSub_chain (a1 a0 b1 b0 : Word) :
    (aluSub a1 b1 (aluSub a0 b0 false).c).res ++ (aluSub a0 b0 false).res = (a1 ++ a0) - (b1 ++ b0) ∧
      ((aluSub a1 b1 (aluSub a0 b0 false).c).c = true ↔ (a1 ++ a0).toNat < (b1 ++ b0).toNat) := by
  have ha1 := a1.isLt
  have ha0 := a0.isLt
  have hb1 := b1.isLt
  have hb0 := b0.isLt
  have hborrow : b2n (aluSub a0 b0 false).c = if a0.toNat < b0.toNat then 1 else 0 := b2n_decide _
  constructor
  · apply BitVec.eq_of_toNat_eq
    rw [BitVec.toNat_sub, toNat_append_word, toNat_append_word, toNat_append_word, aluSub_res_toNat, aluSub_res_toNat, hborrow]
    simp only [b2n, Bool.false_eq_true, if_false]
    split <;> omega
  · rw [aluSub_c_iff, toNat_append_word, toNat_append_word, hborrow]
    split <;> omega

/-! Products -/

theorem aluMul_high (a b : Word) : ((aluMulhu a b).res ++ (aluMul a b).res).toNat = a.toNat * b.toNat := by
  have hlt : a.toNat * b.toNat < 2 ^ 32 * 2 ^ 32 := Nat.mul_lt_mul'' a.isLt b.isLt
  have hhigh : (wd (a.toNat * b.toNat / 2 ^ 32)).toNat = a.toNat * b.toNat / 2 ^ 32 := by
    rw [wd, BitVec.toNat_ofNat, Nat.mod_eq_of_lt (Nat.div_lt_of_lt_mul hlt)]
  rw [toNat_append_word]
  show 2 ^ 32 * (wd _).toNat + (a * b).toNat = _
  rw [hhigh, BitVec.toNat_mul, Nat.div_add_mod]

/-- A number in a word's signed range is what its word says. -/
theorem toInt_ofInt_word {x : Int} (h1 : -2 ^ 31 ≤ x) (h2 : x < 2 ^ 31) : (BitVec.ofInt 32 x).toInt = x := by
  rw [BitVec.toInt_ofInt, Int.bmod_eq_of_le] <;> omega

theorem toInt_bounds (a : Word) : -2 ^ 31 ≤ a.toInt ∧ a.toInt < 2 ^ 31 := ⟨a.le_toInt, a.toInt_lt⟩

theorem aluMul_highSigned (a b : Word) : ((aluMulhs a b).res ++ (aluMul a b).res).toInt = a.toInt * b.toInt := by
  obtain ⟨ha1, ha2⟩ := toInt_bounds a
  obtain ⟨hb1, hb2⟩ := toInt_bounds b
  have hbound : (a.toInt * b.toInt).natAbs ≤ 2 ^ 31 * 2 ^ 31 := by
    rw [Int.natAbs_mul]
    exact Nat.mul_le_mul (by omega) (by omega)
  have hhigh : (BitVec.ofInt 32 (a.toInt * b.toInt / 2 ^ 32)).toInt = a.toInt * b.toInt / 2 ^ 32 := toInt_ofInt_word (by omega) (by omega)
  have hlow : ((a * b).toNat : Int) = a.toInt * b.toInt % 2 ^ 32 := by
    have hprod : a * b = BitVec.ofInt 32 (a.toInt * b.toInt) := by rw [BitVec.ofInt_mul, BitVec.ofInt_toInt, BitVec.ofInt_toInt]
    rw [hprod, BitVec.toNat_ofInt]
    omega
  rw [toInt_append_word]
  show 2 ^ 32 * (BitVec.ofInt 32 _).toInt + ((a * b).toNat : Int) = _
  rw [hhigh, hlow, Int.mul_ediv_add_emod]

/-- Settles O39: the words of the results put together (`aluAdd_chain`, `aluSub_chain`, `aluMul_high`, `aluMul_highSigned`). -/
theorem multiwordArithmetic : Obligations.MultiwordArithmetic := by
  unfold Obligations.MultiwordArithmetic
  refine ⟨?_, ?_, ?_, ?_⟩
  · intro c a1 a0 b1 b0 lo hi hlo hhi
    cases hlo
    cases hhi
    exact aluAdd_chain a1 a0 b1 b0
  · intro c a1 a0 b1 b0 lo hi hlo hhi
    cases hlo
    cases hhi
    exact aluSub_chain a1 a0 b1 b0
  · intro c a b lo hi hlo hhi
    cases hlo
    cases hhi
    exact aluMul_high a b
  · intro c a b lo hi hlo hhi
    cases hlo
    cases hhi
    exact aluMul_highSigned a b

/-! The order of the operands of a subtraction -/

theorem holds_signedLess (c : Core) (a b : Word) : ((c.setFlags (aluSub a b false)).n != (c.setFlags (aluSub a b false)).v)
    = decide (a.toInt < b.toInt) := by
  obtain ⟨ha1, ha2⟩ := toInt_bounds a
  obtain ⟨hb1, hb2⟩ := toInt_bounds b
  have hn : (c.setFlags (aluSub a b false)).n = decide ((a - b).toInt < 0) := by
    rw [← BitVec.msb_eq_toInt, BitVec.msb_eq_getLsbD_last, ← aluSub_res]
    rfl
  have hv : (c.setFlags (aluSub a b false)).v = decide ((a - b).toInt ≠ a.toInt - b.toInt) := by
    rw [← aluSub_res]
    simp [Core.setFlags, aluSub, b2n]
  have hdiff : (a - b).toInt = (a.toInt - b.toInt).bmod (2 ^ 32) := BitVec.toInt_sub
  rw [Int.bmod_def] at hdiff
  rw [hn, hv, Bool.eq_iff_iff]
  simp only [bne_iff_ne, ne_eq, decide_eq_decide, decide_eq_true_eq]
  split at hdiff <;> omega

theorem setFlags_z (c : Core) (a b : Word) : (c.setFlags (aluSub a b false)).z = decide (a = b) := by
  simp only [Core.setFlags, aluSub_res, decide_eq_decide]
  bv_omega

theorem setFlags_borrow (c : Core) (a b : Word) : (c.setFlags (aluSub a b false)).c = decide (a.toNat < b.toNat) := rfl

/-- Settles O38: C is the unsigned order, N and V together the signed one. -/
theorem comparisonsOrder : Obligations.ComparisonsOrder := by
  unfold Obligations.ComparisonsOrder
  constructor
  · intro c a b f
    have hz : f.z = decide (a = b) := setFlags_z c a b
    have hc : f.c = decide (a.toNat < b.toNat) := setFlags_borrow c a b
    have heq : a = b ↔ a.toNat = b.toNat := BitVec.toNat_inj.symm
    refine ⟨hz, hc, ?_, ?_, ?_⟩
    · show (!f.c) = _
      rw [hc, ← decide_not, decide_eq_decide, Nat.not_lt]
    · show (f.c || f.z) = _
      rw [hc, hz, ← Bool.decide_or, decide_eq_decide, heq]
      omega
    · show (!f.c && !f.z) = _
      simp only [hc, hz, heq, ← Bool.decide_and, ← decide_not, decide_eq_decide]
      omega
  · intro c a b f
    have hz : f.z = decide (a = b) := setFlags_z c a b
    have hlt : (f.n != f.v) = decide (a.toInt < b.toInt) := holds_signedLess c a b
    have hge : (f.n == f.v) = !(f.n != f.v) := by simp [bne]
    have heq : a = b ↔ a.toInt = b.toInt := BitVec.toInt_inj.symm
    refine ⟨hlt, ?_, ?_, ?_⟩
    · show (f.n == f.v) = _
      rw [hge, hlt, ← decide_not, decide_eq_decide, Int.not_lt]
    · show (f.z || (f.n != f.v)) = _
      rw [hlt, hz, ← Bool.decide_or, decide_eq_decide, heq]
      omega
    · show (!f.z && (f.n == f.v)) = _
      simp only [hge, hlt, hz, heq, ← Bool.decide_and, ← decide_not, decide_eq_decide]
      omega

/-! Quotient and remainder -/

theorem toNat_div_mod (a b : Word) (hb : b ≠ 0) : a.toNat = (a / b).toNat * b.toNat + (a % b).toNat ∧ (a % b).toNat < b.toNat := by
  have hpos : 0 < b.toNat := Nat.pos_of_ne_zero (fun h => hb (BitVec.eq_of_toNat_eq h))
  rw [BitVec.toNat_udiv, BitVec.toNat_umod, Nat.mul_comm, Nat.div_add_mod]
  exact ⟨rfl, Nat.mod_lt _ hpos⟩

/-- Only the most negative number by −1 leaves the range of a word. -/
theorem tdiv_range {a b : Word} (hb : b ≠ 0) (hover : ¬ (a = 0x80000000 ∧ b = 0xFFFFFFFF)) :
    -2 ^ 31 ≤ a.toInt.tdiv b.toInt ∧ a.toInt.tdiv b.toInt < 2 ^ 31 := by
  obtain ⟨ha1, ha2⟩ := toInt_bounds a
  have hb0 : b.toInt ≠ 0 := fun h => hb (BitVec.eq_of_toInt_eq h)
  have habs : (a.toInt.tdiv b.toInt).natAbs = a.toInt.natAbs / b.toInt.natAbs := Int.natAbs_tdiv _ _
  have hle : (a.toInt.tdiv b.toInt).natAbs ≤ a.toInt.natAbs := habs ▸ Nat.div_le_self _ _
  rcases Decidable.em (b.toInt = -1) with hneg | hneg
  · have ha : a.toInt ≠ -2 ^ 31 := fun h => hover ⟨BitVec.eq_of_toInt_eq h, BitVec.eq_of_toInt_eq hneg⟩
    omega
  · rcases Decidable.em (b.toInt = 1) with hone | hone
    · rw [hone, Int.tdiv_one]
      exact ⟨ha1, ha2⟩
    · have htwo : a.toInt.natAbs / b.toInt.natAbs ≤ a.toInt.natAbs / 2 := Nat.div_le_div_left (by omega) (by decide)
      omega

theorem toInt_tdiv_tmod (a b : Word) (hb : b ≠ 0) (hover : ¬ (a = 0x80000000 ∧ b = 0xFFFFFFFF)) :
    (BitVec.ofInt 32 (a.toInt.tdiv b.toInt)).toInt = a.toInt.tdiv b.toInt ∧
      (BitVec.ofInt 32 (a.toInt.tmod b.toInt)).toInt = a.toInt.tmod b.toInt := by
  obtain ⟨hq1, hq2⟩ := tdiv_range hb hover
  obtain ⟨hb1, hb2⟩ := toInt_bounds b
  have hb0 : b.toInt ≠ 0 := fun h => hb (BitVec.eq_of_toInt_eq h)
  have hr : (a.toInt.tmod b.toInt).natAbs < b.toInt.natAbs := by
    rw [Int.natAbs_tmod]
    exact Nat.mod_lt _ (by omega)
  exact ⟨toInt_ofInt_word hq1 hq2, toInt_ofInt_word (by omega) (by omega)⟩

/-- A remainder has the sign of the dividend. -/
theorem tmod_sign (a b : Int) : a.tmod b = 0 ∨ (a.tmod b < 0 ↔ a < 0) := by
  rcases Int.lt_or_le a 0 with ha | ha
  · have : (-a).tmod b = -(a.tmod b) := Int.neg_tmod a b
    have := Int.tmod_nonneg b (show 0 ≤ -a by omega)
    omega
  · have := Int.tmod_nonneg b ha
    omega

/-- Settles O40: Euclid's equation for the unsigned pair, truncation towards 0 for the signed one; the rest by evaluation. -/
theorem divisionNeverTraps : Obligations.DivisionNeverTraps := by
  unfold Obligations.DivisionNeverTraps
  refine ⟨?_, ?_, fun c a => ⟨rfl, rfl, rfl, rfl⟩, fun c => ⟨rfl, rfl⟩⟩
  · intro c a b q r hq hr hb
    cases hq
    cases hr
    simp only [aluDivu, aluRemu, if_neg hb]
    exact toNat_div_mod a b hb
  · intro c a b q r hq hr hb hover
    cases hq
    cases hr
    obtain ⟨hquot, hrem⟩ := toInt_tdiv_tmod a b hb hover
    have hb0 : b.toInt ≠ 0 := fun h => hb (BitVec.eq_of_toInt_eq h)
    simp only [aluDivs, aluRems, if_neg hb, AluOut.plain, hquot, hrem]
    refine ⟨?_, ?_, tmod_sign _ _⟩
    · rw [Int.mul_comm, Int.mul_tdiv_add_tmod]
    · rw [Int.natAbs_tmod]
      exact Nat.mod_lt _ (by omega)

end Sys2Proof.Machine
end

section
/-! SUPPORT. One instruction on a core: what each kind of effect leads to, and what a failed condition does (spec/10 R249, R253). -/

namespace Sys2Proof.Machine

theorem Dev.executes_iff {d : Dev} {u : Cpu} {cond : BitVec 4} :
    d.executes u cond = true ↔ d.coreRuns u = true ∧ executable u (d.core u).pc = true ∧ (d.core u).holds cond = true := by
  simp only [Dev.executes, Bool.and_eq_true, and_assoc]

/-! Conditions that hold -/

section
variable {d e : Dev} {u : Cpu} {cond : BitVec 4} {f : Core → Eff}

theorem Dev.instr_go (h : d.executes u cond = true) (hf : f (d.core u) = .go e) : d.instr u cond f = e.goOn u := by
  obtain ⟨hrun, hpc, hcond⟩ := Dev.executes_iff.1 h
  simp [Dev.instr, hrun, hpc, hcond, hf]

theorem Dev.instr_slot {t : Transfer} (h : d.executes u cond = true) (hf : f (d.core u) = .slot t) :
    d.instr u cond f = d.setCore u { d.core u with slot := some ((d.core u).pc, t), pc := ((d.core u).pc + 4) % 2 ^ 32 } := by
  obtain ⟨hrun, hpc, hcond⟩ := Dev.executes_iff.1 h
  simp [Dev.instr, hrun, hpc, hcond, hf]

theorem Dev.instr_exc {k det code : Nat} (h : d.executes u cond = true) (hf : f (d.core u) = .exc k det code e) :
    d.instr u cond f = e.except u k det code := by
  obtain ⟨hrun, hpc, hcond⟩ := Dev.executes_iff.1 h
  simp [Dev.instr, hrun, hpc, hcond, hf]

/-- A fetch that is refused comes before the condition (R249, R266). -/
theorem Dev.instr_fetch (hrun : d.coreRuns u = true) (hpc : executable u (d.core u).pc = false) :
    d.instr u cond f = d.except u Exc.BUS RC.BAD_ADDRESS 0 := by
  simp [Dev.instr, hrun, hpc]

theorem Dev.transfer_executes (h : d.executes u cond = true) :
    d.transfer u cond f = d.instr u cond (fun c => if c.slot.isSome then .exc Exc.ILLEGAL 0 0 d else f c) := by
  obtain ⟨-, -, hcond⟩ := Dev.executes_iff.1 h
  simp [Dev.transfer, hcond]

theorem Dev.transfer_slot {t : Transfer} (h : d.executes u cond = true) (hs : (d.core u).slot = none) (hf : f (d.core u) = .slot t) :
    d.transfer u cond f = d.setCore u { d.core u with slot := some ((d.core u).pc, t), pc := ((d.core u).pc + 4) % 2 ^ 32 } := by
  rw [Dev.transfer_executes h]
  exact Dev.instr_slot h (by simp [hs, hf])

theorem Dev.transfer_exc {k det code : Nat} (h : d.executes u cond = true) (hs : (d.core u).slot = none)
    (hf : f (d.core u) = .exc k det code e) : d.transfer u cond f = e.except u k det code := by
  rw [Dev.transfer_executes h]
  exact Dev.instr_exc h (by simp [hs, hf])

theorem Dev.transfer_inSlot (h : d.executes u cond = true) (hs : (d.core u).slot.isSome = true) :
    d.transfer u cond f = d.except u Exc.ILLEGAL 0 0 := by
  rw [Dev.transfer_executes h]
  exact Dev.instr_exc h (if_pos hs)

/-! Conditions that fail -/

theorem Dev.instr_failed (hrun : d.coreRuns u = true) (hpc : executable u (d.core u).pc = true) (hcond : (d.core u).holds cond = false) :
    d.instr u cond f = d.goOn u := by
  simp [Dev.instr, hrun, hpc, hcond]

theorem Dev.transfer_failed (hrun : d.coreRuns u = true) (hpc : executable u (d.core u).pc = true)
    (hcond : (d.core u).holds cond = false) (hs : (d.core u).slot = none) :
    d.transfer u cond f = d.setCore u { d.core u with slot := some ((d.core u).pc, .notTaken), pc := ((d.core u).pc + 4) % 2 ^ 32 } := by
  simp [Dev.transfer, hrun, hpc, hcond, hs]

end

/-! What follows an instruction -/

theorem Dev.goOn_next {d : Dev} {u : Cpu} (h : (d.core u).slot = none) :
    d.goOn u = d.setCore u { d.core u with pc := ((d.core u).pc + 4) % 2 ^ 32 } := by
  simp [Dev.goOn, h]

theorem Dev.goOn_arrive {d : Dev} {u : Cpu} {a : Nat} {t : Transfer} (h : (d.core u).slot = some (a, t)) :
    d.goOn u = (d.setCore u { d.core u with slot := none }).arriveAt u a t := by
  simp [Dev.goOn, h]

/-! Commands of the instructions -/

section
variable {s : State} {u : Cpu} {cond : BitVec 4} {c : Instr} {f : Core → Eff} {e : Dev}

theorem becomes_go (hx : Becomes c s (s.dev.instr u cond f)) (h : s.dev.executes u cond = true)
    (hf : f (s.dev.core u) = .go e) : Becomes c s (e.goOn u) :=
  Dev.instr_go h hf ▸ hx

theorem becomes_exc {k det code : Nat} (hx : Becomes c s (s.dev.instr u cond f)) (h : s.dev.executes u cond = true)
    (hf : f (s.dev.core u) = .exc k det code e) : Becomes c s (e.except u k det code) :=
  Dev.instr_exc h hf ▸ hx

theorem becomes_transfer {t : Transfer} (hx : Becomes c s (s.dev.transfer u cond f)) (h : s.dev.executes u cond = true)
    (hs : (s.dev.core u).slot = none) (hf : f (s.dev.core u) = .slot t) :
    Becomes c s (s.dev.setCore u { s.dev.core u with slot := some ((s.dev.core u).pc, t), pc := ((s.dev.core u).pc + 4) % 2 ^ 32 }) :=
  Dev.transfer_slot h hs hf ▸ hx

theorem becomes_transfer_exc {k det code : Nat} (hx : Becomes c s (s.dev.transfer u cond f)) (h : s.dev.executes u cond = true)
    (hs : (s.dev.core u).slot = none) (hf : f (s.dev.core u) = .exc k det code e) : Becomes c s (e.except u k det code) :=
  Dev.transfer_exc h hs hf ▸ hx

theorem becomes_transfer_inSlot (hx : Becomes c s (s.dev.transfer u cond f)) (h : s.dev.executes u cond = true)
    (hs : (s.dev.core u).slot.isSome = true) : Becomes c s (s.dev.except u Exc.ILLEGAL 0 0) :=
  Dev.transfer_inSlot h hs ▸ hx

theorem becomes_failed (hrun : s.dev.coreRuns u = true) (hpc : executable u (s.dev.core u).pc = true)
    (hcond : (s.dev.core u).holds cond = false) (hx : Becomes c s (s.dev.instr u cond f)) : Becomes c s (s.dev.goOn u) :=
  Dev.instr_failed hrun hpc hcond ▸ hx

theorem becomes_notTaken (hrun : s.dev.coreRuns u = true) (hpc : executable u (s.dev.core u).pc = true)
    (hcond : (s.dev.core u).holds cond = false) (hs : (s.dev.core u).slot = none) (hx : Becomes c s (s.dev.transfer u cond f)) :
    Becomes c s (s.dev.setCore u
      { s.dev.core u with slot := some ((s.dev.core u).pc, .notTaken), pc := ((s.dev.core u).pc + 4) % 2 ^ 32 }) :=
  Dev.transfer_failed hrun hpc hcond hs ▸ hx

end

/-- Settles O37: the table of the conditions by evaluation; every instruction goes through `Dev.instr`, every transfer through
`Dev.transfer`, which look at the condition before anything else. -/
theorem failedConditions : Obligations.FailedConditions := by
  unfold Obligations.FailedConditions
  refine ⟨fun c => ⟨rfl, rfl, rfl, rfl, rfl, rfl, rfl, rfl, rfl, rfl, rfl, rfl, rfl, rfl, rfl, rfl⟩, ?_, ?_, ?_, ?_, ?_, ?_, ?_⟩
  · intro s u f hrun hpc hcond
    simp only [List.forall_mem_cons, List.not_mem_nil, false_imp_iff, implies_true, and_true]
    have hgo {c : Instr} {g} := becomes_failed (c := c) (f := g) hrun hpc hcond
    have himm {c : Instr} {op} (hx : Becomes c s (s.dev.aluImm u f op)) := hgo hx
    have hshift {c : Instr} {op} (hx : Becomes c s (s.dev.shiftImm u f op)) := hgo hx
    exact ⟨himm rfl, himm rfl, himm rfl, himm rfl, himm rfl, hshift rfl, hshift rfl, hshift rfl, hshift rfl, himm rfl, hgo rfl⟩
  · intro s u f hrun hpc hcond
    simp only [List.forall_mem_cons, List.not_mem_nil, false_imp_iff, implies_true, and_true]
    have hgo {c : Instr} {g} := becomes_failed (c := c) (f := g) hrun hpc hcond
    exact ⟨hgo rfl, hgo rfl, hgo rfl, hgo rfl, hgo rfl, hgo rfl, hgo rfl, hgo rfl, hgo rfl, hgo rfl⟩
  · intro s u f hrun hpc hcond
    simp only [List.forall_mem_cons, List.not_mem_nil, false_imp_iff, implies_true, and_true]
    have hgo {c : Instr} {g} := becomes_failed (c := c) (f := g) hrun hpc hcond
    have hload {c : Instr} {n ext} (hx : Becomes c s (s.dev.ldInstr u f n ext)) := hgo hx
    have hstore {c : Instr} {n} (hx : Becomes c s (s.dev.stInstr u f n)) := hgo hx
    exact ⟨hload rfl, hload rfl, hload rfl, hload rfl, hload rfl, hstore rfl, hstore rfl, hstore rfl⟩
  · intro s u f hrun hpc hcond
    simp only [List.forall_mem_cons, List.not_mem_nil, false_imp_iff, implies_true, and_true]
    have hgo {c : Instr} {g} := becomes_failed (c := c) (f := g) hrun hpc hcond
    exact ⟨hgo rfl, hgo rfl⟩
  · intro s u f hrun hpc hcond hslot
    simp only [List.forall_mem_cons, List.not_mem_nil, false_imp_iff, implies_true, and_true]
    have hgo {c : Instr} {g} := becomes_notTaken (c := c) (f := g) hrun hpc hcond hslot
    exact ⟨hgo rfl, hgo rfl⟩
  · intro s u f hrun hpc hcond hslot
    simp only [List.forall_mem_cons, List.not_mem_nil, false_imp_iff, implies_true, and_true]
    have hgo {c : Instr} {g} := becomes_notTaken (c := c) (f := g) hrun hpc hcond hslot
    exact ⟨hgo rfl, hgo rfl, hgo rfl, hgo rfl⟩
  · intro d u a hslot
    rw [Dev.goOn_arrive hslot, Dev.arriveAt, Dev.core_setCore, Dev.core_setCore]

end Sys2Proof.Machine
end

section
/-! SUPPORT. The instructions on registers: their effect, their frame, and the special registers (spec/10 R249 to R252, R257). -/

namespace Sys2Proof.Machine

/-- Settles O12: each instruction's condition on its fields holds, so that `becomes_go` gives the device its row names. -/
theorem registerInstructionsComplete : Obligations.RegisterInstructionsComplete := by
  unfold Obligations.RegisterInstructionsComplete
  have himm {s : State} {u : Cpu} {f : FmtI} {c : Instr} {op} (h : s.dev.executes u f.cond = true) (hx : Becomes c s (s.dev.aluImm u f op)) :
      Becomes c s ((s.dev.setCore u ((s.dev.core u).result f.rd f.s (op ((s.dev.core u).reg f.ra) f.ext))).goOn u) :=
    becomes_go hx h rfl
  have hshift {s : State} {u : Cpu} {f : FmtI} {c : Instr} {op} (h : s.dev.executes u f.cond = true) (hlt : f.imm.toNat < 32)
      (hx : Becomes c s (s.dev.shiftImm u f op)) :
      Becomes c s ((s.dev.setCore u ((s.dev.core u).result f.rd f.s (op ((s.dev.core u).reg f.ra) f.imm.toNat))).goOn u) :=
    becomes_go hx h (if_neg (by omega))
  refine ⟨?alu, ?addi, ?subi, ?andi, ?ori, ?xori, ?muli, ?shli, ?shri, ?sari, ?rori, ?movl, ?movh, ?mfs, ?mts⟩
  case alu =>
    rintro s u f c o h rfl ho hclz
    refine becomes_go rfl h ?_
    simp only [ho]
    exact if_neg (fun hf => hf.2 (hclz hf.1))
  case addi =>
    rintro s u f c h rfl
    exact himm (op := fun a b => aluAdd a b false) h rfl
  case subi =>
    rintro s u f c h rfl
    exact himm (op := fun a b => aluSub a b false) h rfl
  case andi =>
    rintro s u f c h rfl
    exact himm (op := fun a b => .plain (a &&& b)) h rfl
  case ori =>
    rintro s u f c h rfl
    exact himm (op := fun a b => .plain (a ||| b)) h rfl
  case xori =>
    rintro s u f c h rfl
    exact himm (op := fun a b => .plain (a ^^^ b)) h rfl
  case muli =>
    rintro s u f c h rfl
    exact himm h rfl
  case shli =>
    rintro s u f c h rfl hlt
    exact hshift h hlt rfl
  case shri =>
    rintro s u f c h rfl hlt
    exact hshift h hlt rfl
  case sari =>
    rintro s u f c h rfl hlt
    exact hshift h hlt rfl
  case rori =>
    rintro s u f c h rfl hlt
    exact hshift h hlt rfl
  case movl =>
    rintro s u f c h rfl
    exact becomes_go rfl h rfl
  case movh =>
    rintro s u f c h rfl
    exact becomes_go rfl h rfl
  case mfs =>
    rintro s u f c v h rfl hra hrb hs hv
    refine becomes_go rfl h ?_
    simp only [hra, hrb, hs, hv, ne_eq, not_true, Bool.false_eq_true, or_self, if_false]
  case mts =>
    rintro s u f c g h rfl hrd hrb hs hg
    refine becomes_go rfl h ?_
    simp only [hrd, hrb, hs, hg, ne_eq, not_true, Bool.false_eq_true, or_self, if_false]

/-! Frames -/

theorem Core.setPlace_eq (c : Core) (p : Nat) (v : Word) :
    c.setPlace p v = { c with globals := (c.setPlace p v).globals, windows := (c.setPlace p v).windows } := by
  unfold Core.setPlace
  repeat' split
  all_goals rfl

/-- A register write changes the register file only. -/
theorem Core.setReg_eq (c : Core) (n : BitVec 5) (v : Word) :
    c.setReg n v = { c with globals := (c.setReg n v).globals, windows := (c.setReg n v).windows } :=
  c.setPlace_eq _ v

theorem Core.setReg_slot (c : Core) (n : BitVec 5) (v : Word) : (c.setReg n v).slot = c.slot := by rw [Core.setReg_eq]

/-- What an instruction on registers outside a slot leaves: its result, the flags with S, the next pc. -/
theorem onlyReg_result {d : Dev} {u : Cpu} (hslot : (d.core u).slot = none) (rd : BitVec 5) (s : Bool) (o : AluOut) :
    OnlyReg u rd s d ((d.setCore u ((d.core u).result rd s o)).goOn u) := by
  have hslot' : ((d.setCore u ((d.core u).result rd s o)).core u).slot = none := by
    rw [Dev.core_setCore]
    cases s <;> exact ((d.core u).setReg_slot rd o.res).trans hslot
  rw [Dev.goOn_next hslot', Dev.core_setCore, Dev.setCore_setCore]
  have hother (n : BitVec 5) (hn : n ≠ rd) : ((d.core u).setReg rd o.res).reg n = (d.core u).reg n := by
    rw [Core.reg_setReg, if_neg (fun h => hn h.1)]
  have heq := (d.core u).setReg_eq rd o.res
  refine ⟨_, rfl, fun n hn => ?_, ?_, ?_⟩
  · cases s <;> exact hother n hn
  · cases s <;> simp only [Core.result, Core.setFlags, Bool.false_eq_true, if_false, if_true] <;> rw [heq]
  · rintro rfl
    simp only [Core.result, Bool.false_eq_true, if_false]
    rw [heq]
    exact ⟨rfl, rfl, rfl, rfl⟩

/-- Every func value of the table has its operation. -/
theorem aluFunc_isSome (c : Core) {n : Nat} (h : n ≤ 0x17) (a b : Word) : ∃ o, aluFunc c n a b = some o := by
  unfold aluFunc
  split
  case h_25 =>
    simp only [imp_false] at *
    omega
  all_goals exact ⟨_, rfl⟩

theorem special_isSome (c : Core) (mp : Bool) (tb : Nat) {n : Nat} (h : n ≤ 8) : ∃ v, c.special mp tb n = some v := by
  unfold Core.special
  split
  case h_10 =>
    simp only [imp_false] at *
    omega
  all_goals exact ⟨_, rfl⟩

/-- Settles O48: the effects of O12, each of them a result in a register (`onlyReg_result`). -/
theorem registerInstructionFrames : Obligations.RegisterInstructionFrames := by
  have heff := registerInstructionsComplete
  unfold Obligations.RegisterInstructionsComplete at heff
  unfold Obligations.RegisterInstructionFrames
  obtain ⟨halu, haddi, hsubi, handi, hori, hxori, hmuli, hshli, hshri, hsari, hrori, hmovl, hmovh, hmfs, -⟩ := heff
  refine ⟨fun s u f h hslot hfunc hclz => ?_, fun s u f h hslot => ⟨_, haddi s u f _ h rfl, onlyReg_result hslot _ _ _⟩,
    fun s u f h hslot => ⟨_, hsubi s u f _ h rfl, onlyReg_result hslot _ _ _⟩,
    fun s u f h hslot => ⟨_, handi s u f _ h rfl, onlyReg_result hslot _ _ _⟩,
    fun s u f h hslot => ⟨_, hori s u f _ h rfl, onlyReg_result hslot _ _ _⟩,
    fun s u f h hslot => ⟨_, hxori s u f _ h rfl, onlyReg_result hslot _ _ _⟩,
    fun s u f h hslot => ⟨_, hmuli s u f _ h rfl, onlyReg_result hslot _ _ _⟩,
    fun s u f h hslot hlt => ⟨_, hshli s u f _ h rfl hlt, onlyReg_result hslot _ _ _⟩,
    fun s u f h hslot hlt => ⟨_, hshri s u f _ h rfl hlt, onlyReg_result hslot _ _ _⟩,
    fun s u f h hslot hlt => ⟨_, hsari s u f _ h rfl hlt, onlyReg_result hslot _ _ _⟩,
    fun s u f h hslot hlt => ⟨_, hrori s u f _ h rfl hlt, onlyReg_result hslot _ _ _⟩,
    fun s u f h hslot => ⟨_, hmovl s u f _ h rfl, onlyReg_result hslot _ false (.plain _)⟩,
    fun s u f h hslot => ⟨_, hmovh s u f _ h rfl, onlyReg_result hslot _ false (.plain _)⟩,
    fun s u f h hslot hra hrb hs hfunc hlo => ?_⟩
  · obtain ⟨o, ho⟩ := aluFunc_isSome (s.dev.core u) hfunc ((s.dev.core u).reg f.ra) ((s.dev.core u).reg f.rb)
    exact ⟨_, halu s u f _ o h rfl ho hclz, onlyReg_result hslot _ _ _⟩
  · obtain ⟨v, hv⟩ := special_isSome (s.dev.core u) u.isMp s.dev.tb hfunc
    have hmfs := hmfs s u f _ v h rfl hra hrb hs hv
    rw [if_neg hlo] at hmfs
    exact ⟨_, hmfs, onlyReg_result hslot _ false (.plain _)⟩

/-! The special registers -/

theorem Core.special_congr {c g : Core} {mp : Bool} {tb j : Nat} (hpsr : j = 0 → g.psr mp = c.psr mp) (hwin : j = 1 → g.win = c.win)
    (hspillp : j = 2 → g.spillp = c.spillp) (hlk : j = 3 → g.lk = c.lk) (hepc : j = 4 → g.epc = c.epc)
    (hecause : j = 5 → g.ecause = c.ecause) (htb : g.tbHi = c.tbHi) (hevt : j = 8 → g.evt = c.evt) :
    g.special mp tb j = c.special mp tb j := by
  unfold Core.special
  split <;> simp only [*]

theorem Core.special_none (c : Core) (mp : Bool) (tb : Nat) : ∀ {k : Nat}, 8 < k → c.special mp tb k = none
  | _ + 9, _ => rfl

theorem Core.setSpecial_none (c : Core) (v : Word) : ∀ {k : Nat}, 8 < k → c.setSpecial k v = none
  | _ + 9, _ => rfl

/-- MTS raises ILLEGAL on TB_LO, TB_HI, the numbers past the table and a WIN out of range (R257). -/
theorem Core.setSpecial_eq_none_iff (c : Core) (k : Nat) (v : Word) : c.setSpecial k v = none ↔
    (k = 6 ∨ k = 7 ∨ 8 < k ∨ k = 1 ∧ (bitsOf v 7 4 = 0 ∨ 11 < bitsOf v 7 4 ∨ 11 < bitsOf v 3 0)) := by
  unfold Core.setSpecial
  split
  case h_2 =>
    simp
    omega
  case h_8 =>
    simp only [imp_false] at *
    simp only [true_iff]
    omega
  all_goals simp

theorem b2n_bitOf (v : Word) (i : Nat) : b2n (bitOf v i) = v.toNat / 2 ^ i % 2 := by
  rw [← Nat.toNat_testBit, bitOf, BitVec.getLsbD]
  cases v.toNat.testBit i <;> rfl

/-- PSR after a write: the upper half as written, the lower half as before. -/
theorem Core.psr_written (c : Core) (v : Word) (mp : Bool) :
    let g := { c with n := bitOf v 31, z := bitOf v 30, c := bitOf v 29, v := bitOf v 28, spillMax := bitsOf v 27 16 }
    bitsOf (g.psr mp) 31 16 = bitsOf v 31 16 ∧ bitsOf (g.psr mp) 15 0 = bitsOf (c.psr mp) 15 0 := by
  have hv := v.isLt
  have hexc : b2n c.exc ≤ 1 := by cases c.exc <;> decide
  have hmp : b2n mp ≤ 1 := by cases mp <;> decide
  have hflag (b : Bool) : b2n b ≤ 1 := by cases b <;> decide
  have hn := hflag c.n
  have hz := hflag c.z
  have hc := hflag c.c
  have ho := hflag c.v
  simp only [Core.psr, bitsOf, b2n_bitOf, wd, BitVec.toNat_ofNat, Nat.shiftRight_eq_div_pow]
  constructor <;> omega

/-- WIN after a write in range (R257). -/
theorem Core.win_written (c : Core) (v : Word) :
    let g := { c with spilled := bitsOf v 19 8, res := bitsOf v 7 4, cwp := bitsOf v 3 0 }
    bitsOf g.win 19 0 = bitsOf v 19 0 ∧ bitsOf g.win 31 20 = 0 := by
  have hv := v.isLt
  simp only [Core.win, bitsOf, wd, BitVec.toNat_ofNat, Nat.shiftRight_eq_div_pow]
  constructor <;> omega

/-- Settles O49: each number's write by the fields it sets; what MFS reads by evaluation. -/
theorem specialRegisters : Obligations.SpecialRegisters := by
  unfold Obligations.SpecialRegisters
  refine ⟨?psr, ?spillp, ?lk, ?epc, ?ecause, ?evt, ?win, fun c k v => c.setSpecial_eq_none_iff k v,
    fun c mp tb => ⟨rfl, rfl, rfl, rfl, rfl, rfl, rfl, rfl, rfl, fun k hk => c.special_none mp tb hk⟩⟩
  case psr =>
    intro c g v mp tb h
    cases h
    refine ⟨c.psr_written v mp, fun j hj => ?_, rfl, rfl, rfl, rfl, rfl, rfl⟩
    exact Core.special_congr (fun h => absurd h hj) (fun _ => rfl) (fun _ => rfl) (fun _ => rfl) (fun _ => rfl) (fun _ => rfl) rfl (fun _ => rfl)
  case spillp =>
    intro c g v mp tb h
    cases h
    refine ⟨rfl, fun j hj => ?_, rfl, rfl, rfl, rfl, rfl, rfl⟩
    exact Core.special_congr (fun _ => rfl) (fun _ => rfl) (fun h => absurd h hj) (fun _ => rfl) (fun _ => rfl) (fun _ => rfl) rfl (fun _ => rfl)
  case lk =>
    intro c g v mp tb h
    cases h
    refine ⟨tabGet_set_same 0 c.links (c.cwp % 12) _, fun j hj => ?_, rfl, rfl, rfl, rfl, rfl, rfl⟩
    exact Core.special_congr (fun _ => rfl) (fun _ => rfl) (fun _ => rfl) (fun h => absurd h hj) (fun _ => rfl) (fun _ => rfl) rfl (fun _ => rfl)
  case epc =>
    intro c g v mp tb h
    cases h
    refine ⟨rfl, fun j hj => ?_, rfl, rfl, rfl, rfl, rfl, rfl⟩
    exact Core.special_congr (fun _ => rfl) (fun _ => rfl) (fun _ => rfl) (fun _ => rfl) (fun h => absurd h hj) (fun _ => rfl) rfl (fun _ => rfl)
  case ecause =>
    intro c g v mp tb h
    cases h
    refine ⟨rfl, fun j hj => ?_, rfl, rfl, rfl, rfl, rfl, rfl⟩
    exact Core.special_congr (fun _ => rfl) (fun _ => rfl) (fun _ => rfl) (fun _ => rfl) (fun _ => rfl) (fun h => absurd h hj) rfl (fun _ => rfl)
  case evt =>
    intro c g v mp tb h
    cases h
    refine ⟨rfl, fun j hj => ?_, rfl, rfl, rfl, rfl, rfl, rfl⟩
    exact Core.special_congr (fun _ => rfl) (fun _ => rfl) (fun _ => rfl) (fun _ => rfl) (fun _ => rfl) (fun _ => rfl) rfl (fun h => absurd h hj)
  case win =>
    intro c g v mp tb h
    have hrange : ¬ (bitsOf v 7 4 = 0 ∨ 11 < bitsOf v 7 4 ∨ 11 < bitsOf v 3 0) := by
      intro hbad
      rw [(c.setSpecial_eq_none_iff 1 v).2 (by simp [hbad])] at h
      cases h
    rw [Core.setSpecial, if_neg hrange] at h
    cases h
    obtain ⟨hlow, hhigh⟩ := c.win_written v
    refine ⟨hlow, hhigh, fun j hj hj3 => ?_, rfl, rfl, rfl, rfl, rfl, rfl, rfl⟩
    exact Core.special_congr (fun _ => rfl) (fun h => absurd h hj) (fun _ => rfl) (fun h => absurd h hj3) (fun _ => rfl) (fun _ => rfl) rfl (fun _ => rfl)

end Sys2Proof.Machine
end

section
/-! SUPPORT. Loads, stores and ATOM: their effect, and the bytes they read and write (spec/10 R251, R255, R256). -/

namespace Sys2Proof.Machine

section
variable {s : State} {u : Cpu} {f : FmtM} {n : Nat} {c : Instr}

theorem becomes_load {ext : Word → Word} {e : Dev} {v : Word} (hx : Becomes c s (s.dev.ldInstr u f n ext))
    (h : s.dev.executes u f.cond = true) (hal : ((s.dev.core u).reg f.ra + f.ext).toNat % n = 0)
    (hl : s.dev.load u ((s.dev.core u).reg f.ra + f.ext).toNat n = (e, Ans.ok [v])) :
    Becomes c s ((e.setCore u ((e.core u).setReg f.rd (ext v))).goOn u) := by
  refine becomes_go hx h ?_
  simp only [hal, hl]
  rfl

theorem becomes_store (hx : Becomes c s (s.dev.stInstr u f n)) (h : s.dev.executes u f.cond = true)
    (hal : ((s.dev.core u).reg f.ra + f.ext).toNat % n = 0)
    (hok : (s.dev.store u ((s.dev.core u).reg f.ra + f.ext).toNat n ((s.dev.core u).reg f.rd)).2.code = RC.OK) :
    Becomes c s ((s.dev.store u ((s.dev.core u).reg f.ra + f.ext).toNat n ((s.dev.core u).reg f.rd)).1.goOn u) := by
  refine becomes_go hx h ?_
  simp only [hal, hok, ne_eq, not_true, if_false]

/-- `becomes_store` where the store's outcome is named. -/
theorem becomes_store_eq {e : Dev} {ws : List Word} (hx : Becomes c s (s.dev.stInstr u f n)) (h : s.dev.executes u f.cond = true)
    (hal : ((s.dev.core u).reg f.ra + f.ext).toNat % n = 0)
    (hst : s.dev.store u ((s.dev.core u).reg f.ra + f.ext).toNat n ((s.dev.core u).reg f.rd) = (e, Ans.ok ws)) :
    Becomes c s (e.goOn u) := by
  have hgo := becomes_store hx h hal (by rw [hst]; rfl)
  rwa [hst] at hgo

end

/-- What ATOM puts in memory, by its func value (R255). -/
def atomNew (f : FmtR) (old b : Word) : Word :=
  if f.func = 0 then b else if f.func = 1 then old + b else if f.func = 2 then old &&& b else old ||| b

theorem becomes_atom {s : State} {u : Cpu} {f : FmtR} {a : Nat} {old : Word} {e : Dev} (h : s.dev.executes u f.cond = true)
    (hfunc : f.func.toNat ≤ 3) (hs : f.s = false) (ha : a = ((s.dev.core u).reg f.ra).toNat) (hal : a % 4 = 0) (hat : atomic u a = true)
    (hold : old = word (s.dev.load u a 4).2.words 0) (he : e = (s.dev.store u a 4 (atomNew f old ((s.dev.core u).reg f.rb))).1) :
    Becomes (.atom u f) s ((e.setCore u ((e.core u).setReg f.rd old)).goOn u) := by
  subst ha hold he
  refine becomes_go rfl h ?_
  simp only [hs, hal, hat, Nat.not_lt.2 hfunc, ne_eq, not_true, Bool.not_true, Bool.false_eq_true, or_self, if_false]
  rfl

/-- Settles O13: `becomes_load`, `becomes_store_eq` and `becomes_atom`, form by form. -/
theorem memoryInstructionsComplete : Obligations.MemoryInstructionsComplete := by
  unfold Obligations.MemoryInstructionsComplete
  refine ⟨?ldw, ?ldh, ?ldhu, ?ldb, ?ldbu, ?stw, ?sth, ?stb, ?atom, ?fence⟩
  case ldw =>
    rintro s u f c a e v h rfl rfl hal hl
    exact becomes_load (ext := id) rfl h hal hl
  case ldh =>
    rintro s u f c a e v h rfl rfl hal hl
    exact becomes_load (ext := fun w => (w.truncate 16).signExtend 32) rfl h hal hl
  case ldhu =>
    rintro s u f c a e v h rfl rfl hal hl
    exact becomes_load (ext := id) rfl h hal hl
  case ldb =>
    rintro s u f c a e v h rfl rfl hl
    exact becomes_load (ext := fun w => (w.truncate 8).signExtend 32) rfl h (Nat.mod_one _) hl
  case ldbu =>
    rintro s u f c a e v h rfl rfl hl
    exact becomes_load (ext := id) rfl h (Nat.mod_one _) hl
  case stw =>
    rintro s u f c a e ws h rfl rfl hal hst
    exact becomes_store_eq rfl h hal hst
  case sth =>
    rintro s u f c a e ws h rfl rfl hal hst
    exact becomes_store_eq rfl h hal hst
  case stb =>
    rintro s u f c a e ws h rfl rfl hst
    exact becomes_store_eq rfl h (Nat.mod_one _) hst
  case atom =>
    rintro s u f c a old new e h rfl hfunc hs ha hal hat hold rfl he
    exact becomes_atom h hfunc hs ha hal hat hold he
  case fence =>
    rintro s u f c h rfl hbare
    exact becomes_go rfl h (if_pos hbare)

/-- Settles O47: `Dev.load_spec` says which word a load of memory answers. -/
theorem loadsGiveTheirBytes : Obligations.LoadsGiveTheirBytes := by
  unfold Obligations.LoadsGiveTheirBytes
  refine ⟨?ldw, ?ldh, ?ldhu, ?ldb, ?ldbu⟩
  case ldw =>
    rintro s u f c a v h rfl rfl hal hm rfl
    exact becomes_load (ext := id) rfl h hal (s.dev.load_spec u _ 4 (by decide) hal hm)
  case ldh =>
    rintro s u f c a v h rfl rfl hal hm rfl
    exact becomes_load (ext := fun w => (w.truncate 16).signExtend 32) rfl h hal (s.dev.load_spec u _ 2 (by decide) hal hm)
  case ldhu =>
    rintro s u f c a v h rfl rfl hal hm rfl
    exact becomes_load (ext := id) rfl h hal (s.dev.load_spec u _ 2 (by decide) hal hm)
  case ldb =>
    rintro s u f c a v h rfl rfl hm rfl
    have hal := Nat.mod_one ((s.dev.core u).reg f.ra + f.ext).toNat
    exact becomes_load (ext := fun w => (w.truncate 8).signExtend 32) rfl h hal (s.dev.load_spec u _ 1 (by decide) hal hm)
  case ldbu =>
    rintro s u f c a v h rfl rfl hm rfl
    have hal := Nat.mod_one ((s.dev.core u).reg f.ra + f.ext).toNat
    exact becomes_load (ext := id) rfl h hal (s.dev.load_spec u _ 1 (by decide) hal hm)

/-! What a store leaves -/

/-- The bytes of `n` are stored at `a`, and nothing else that the core or a request can see. -/
def Stored (u : Cpu) (a n : Nat) (v : Word) (d D : Dev) : Prop :=
  (∀ i < n, D.memByte u (a + i) = BitVec.ofNat 8 (v.toNat / 256 ^ i)) ∧ (∀ x, (x < a ∨ a + n ≤ x) → D.memByte u x = d.memByte u x) ∧
    D.core u = { d.core u with dmem := (D.core u).dmem } ∧ D.regs = d.regs ∧ D.pages = d.pages ∧ D.hci = d.hci

theorem Dev.store_stored (d : Dev) (u : Cpu) (a n : Nat) (v : Word) (hn : n = 1 ∨ n = 2 ∨ n = 4) (hal : a % n = 0)
    (hm : d.storable u (a / 4 * 4) = true) : (d.store u a n v).2.code = RC.OK ∧ Stored u a n v d (d.store u a n v).1 := by
  obtain ⟨hok, hbytes, hcore, hregs, hpages, hhci, -⟩ := d.store_spec u a n v hn hal hm
  refine ⟨hok, fun i hi => ?_, fun x hx => ?_, hcore, hregs, hpages, hhci⟩
  · rw [hbytes, if_pos (by omega), Nat.add_sub_cancel_left]
  · rw [hbytes, if_neg (by omega)]

theorem becomes_stored {s : State} {u : Cpu} {f : FmtM} {n : Nat} {c : Instr} (hx : Becomes c s (s.dev.stInstr u f n))
    (h : s.dev.executes u f.cond = true) (hn : n = 1 ∨ n = 2 ∨ n = 4) (hal : ((s.dev.core u).reg f.ra + f.ext).toNat % n = 0)
    (hm : s.dev.storable u (((s.dev.core u).reg f.ra + f.ext).toNat / 4 * 4) = true) :
    ∃ D : Dev, Becomes c s (D.goOn u) ∧ Stored u ((s.dev.core u).reg f.ra + f.ext).toNat n ((s.dev.core u).reg f.rd) s.dev D := by
  obtain ⟨hok, hst⟩ := s.dev.store_stored u _ n ((s.dev.core u).reg f.rd) hn hal hm
  exact ⟨_, becomes_store hx h hal hok, hst⟩

/-- Memories are the same for a core whose data memory is. -/
theorem Dev.memByte_setCore (d : Dev) (u : Cpu) (c : Core) (h : c.dmem = (d.core u).dmem) (x : Nat) :
    (d.setCore u c).memByte u x = d.memByte u x := by
  have hwin : (d.setCore u c).winAddr x = d.winAddr x := by
    unfold Dev.winAddr Dev.fld Dev.rd
    rw [Dev.setCore_regs, Dev.setCore_mgt]
  unfold Dev.memByte Dev.dramByte
  rw [Dev.core_setCore, h, hwin, Dev.setCore_asc, Dev.setCore_mgt, Dev.setCore_mem]

/-- Settles O46: `Dev.store_spec` through `becomes_stored`; ATOM stores as STW does. -/
theorem storesChangeOnlyTheirBytes : Obligations.StoresChangeOnlyTheirBytes := by
  unfold Obligations.StoresChangeOnlyTheirBytes
  refine ⟨?stw, ?sth, ?stb, ?atom, ?next⟩
  case stw =>
    rintro s u f c a h rfl rfl hal hm
    exact becomes_stored rfl h (by decide) hal hm
  case sth =>
    rintro s u f c a h rfl rfl hal hm
    exact becomes_stored rfl h (by decide) hal hm
  case stb =>
    rintro s u f c a h rfl rfl hm
    exact becomes_stored rfl h (by decide) (Nat.mod_one _) hm
  case atom =>
    rintro s u f c a old new h rfl hfunc hs ha hal hat hold rfl
    have hword : a / 4 * 4 = a := Nat.div_mul_cancel (Nat.dvd_of_mod_eq_zero hal)
    have hm : s.dev.storable u (a / 4 * 4) = true := by rw [hword, Dev.storable, hat, Bool.true_or, Bool.true_or]
    have hload : old = word (s.dev.load u a 4).2.words 0 := by rw [s.dev.load_spec u a 4 (by decide) hal hm, hold]; rfl
    exact ⟨_, becomes_atom h hfunc hs ha hal hat hload rfl, (s.dev.store_stored u a 4 _ (by decide) hal hm).2⟩
  case next =>
    intro D u hslot
    rw [Dev.goOn_next hslot, Dev.core_setCore]
    exact ⟨D.memByte_setCore u _ rfl, rfl⟩

end Sys2Proof.Machine
end

section
/-! SUPPORT. Control transfer and exceptions: where instructions trap, and what calls, returns and exceptions do to the windows (spec/10
R244, R246, R253, R254, R261 to R264). -/

namespace Sys2Proof.Machine

/-! A call where it may start -/

theorem Core.callTo_ok {d : Dev} {c : Core} {a : Nat} (hroom : ¬ (c.res = 11 ∧ c.spillMax ≤ c.spilled)) (hal : a % 4 = 0) :
    c.callTo d a = .slot (.call a (c.pc + 8)) := by
  rw [Core.callTo, if_neg hroom, if_neg (Classical.not_not.2 hal)]

theorem Core.callTo_full {d : Dev} {c : Core} {a : Nat} (hres : c.res = 11) (hmax : c.spillMax ≤ c.spilled) :
    c.callTo d a = .raise d Exc.OVERFLOW := if_pos ⟨hres, hmax⟩

/-- Settles O14: each transfer's checks pass, so that it waits for its slot (`becomes_transfer`); TRAP is its exception. -/
theorem controlInstructionsComplete : Obligations.ControlInstructionsComplete := by
  unfold Obligations.ControlInstructionsComplete
  refine ⟨?br, ?call, ?jmp, ?callr, ?ret, ?rete, ?trap⟩
  case br =>
    rintro s u f c h rfl hslot
    exact becomes_transfer rfl h hslot rfl
  case call =>
    rintro s u f c h rfl hslot hroom hal
    exact becomes_transfer rfl h hslot (Core.callTo_ok hroom hal)
  case jmp =>
    rintro s u f c h rfl hslot hrd hrb hs hfunc hal
    refine becomes_transfer rfl h hslot ?_
    simp [hrd, hrb, hs, hfunc, hal]
  case callr =>
    rintro s u f c h rfl hslot hrd hrb hs hfunc hroom hal
    refine becomes_transfer rfl h hslot ?_
    simp [hrd, hrb, hs, hfunc, Core.callTo_ok hroom hal]
  case ret =>
    rintro s u f c h rfl hslot hbare hfill hal
    refine becomes_transfer rfl h hslot ?_
    simp only [hbare, hfill, hal, Bool.not_true, Bool.false_eq_true, ne_eq, not_true, if_false]
  case rete =>
    rintro s u f c h rfl hslot hbare hal
    refine becomes_transfer rfl h hslot ?_
    simp [hbare, hal]
  case trap =>
    rintro s u f c h rfl hslot hrd hra hs hlt
    refine becomes_exc rfl h ?_
    simp [hslot, hrd, hra, hs, Nat.not_le.2 hlt]

/-! Where instructions trap -/

/-- A value past the ALU's table. -/
theorem aluFunc_none (c : Core) (a b : Word) : ∀ {n : Nat}, 0x17 < n → aluFunc c n a b = none
  | _ + 24, _ => rfl

/-- Settles O45: the check of each row that fails first. -/
theorem whereInstructionsTrap : Obligations.WhereInstructionsTrap := by
  unfold Obligations.WhereInstructionsTrap
  have hload {s : State} {u : Cpu} {f : FmtM} {c : Instr} {n ext} (h : s.dev.executes u f.cond = true)
      (hal : ((s.dev.core u).reg f.ra + f.ext).toNat % n ≠ 0) (hx : Becomes c s (s.dev.ldInstr u f n ext)) :
      Becomes c s (s.dev.except u Exc.ALIGN 0 0) := becomes_exc hx h (if_pos hal)
  have hstore {s : State} {u : Cpu} {f : FmtM} {c : Instr} {n} (h : s.dev.executes u f.cond = true)
      (hal : ((s.dev.core u).reg f.ra + f.ext).toNat % n ≠ 0) (hx : Becomes c s (s.dev.stInstr u f n)) :
      Becomes c s (s.dev.except u Exc.ALIGN 0 0) := becomes_exc hx h (if_pos hal)
  refine ⟨?ldw, ?ldh, ?ldhu, ?stw, ?sth, ?atom, ?atomElsewhere, ?busLoad, ?busStore, ?shift, ?func, ?trap, ?overflow, ?underflow, ?jmp,
    ?ret, ?rete, ?brSlot, ?callSlot, ?jmpSlot, ?callrSlot, ?retSlot, ?reteSlot, ?wfeSlot, ?special, ?takeMp, ?takeHeld, ?doneNone, ?fetch⟩
  case ldw =>
    rintro s u f c h rfl hal
    exact hload h hal rfl
  case ldh =>
    rintro s u f c h rfl hal
    exact hload h hal rfl
  case ldhu =>
    rintro s u f c h rfl hal
    exact hload h hal rfl
  case stw =>
    rintro s u f c h rfl hal
    exact hstore h hal rfl
  case sth =>
    rintro s u f c h rfl hal
    exact hstore h hal rfl
  case atom =>
    rintro s u f c h rfl hfunc hs hal
    refine becomes_exc rfl h ?_
    simp only [Nat.not_lt.2 hfunc, hs, hal, Bool.false_eq_true, or_self, ne_eq, not_false_eq_true, if_false, if_true]
    rfl
  case atomElsewhere =>
    rintro s u f c h rfl hfunc hs hal hat
    refine becomes_exc rfl h ?_
    simp only [Nat.not_lt.2 hfunc, hs, hal, hat, Bool.false_eq_true, or_self, ne_eq, not_true, Bool.not_false, if_false, if_true]
  case busLoad =>
    rintro s u f c a k h rfl rfl hal hl hk
    have hx : Becomes (.ldw u f) s (s.dev.ldInstr u f 4 id) := rfl
    refine becomes_exc hx h ?_
    simp only [hal, hl, Ans.err, hk, ne_eq, not_true, not_false_eq_true, if_false, if_true]
  case busStore =>
    rintro s u f c a k h rfl rfl hal hst hk
    have hx : Becomes (.stw u f) s (s.dev.stInstr u f 4) := rfl
    refine becomes_exc hx h ?_
    simp only [hal, hst, Ans.err, hk, ne_eq, not_true, not_false_eq_true, if_false, if_true]
  case shift =>
    rintro s u f c h rfl hge
    have hx : Becomes (.shli u f) s (s.dev.shiftImm u f aluShl) := rfl
    exact becomes_exc hx h (if_pos hge)
  case func =>
    rintro s u f c h rfl hgt
    refine becomes_exc rfl h ?_
    simp only [aluFunc_none _ _ _ hgt]
    rfl
  case trap =>
    rintro s u f c h rfl hge
    exact becomes_exc rfl h (if_pos (.inr (.inr (.inr (.inr hge)))))
  case overflow =>
    rintro s u f c h rfl hslot hres hmax
    exact becomes_transfer_exc rfl h hslot (Core.callTo_full hres hmax)
  case underflow =>
    rintro s u f c h rfl hslot hbare hres hspilled
    refine becomes_transfer_exc rfl h hslot ?_
    simp only [hbare, hres, hspilled, Bool.not_true, Bool.false_eq_true, and_self, if_false, if_true]
    rfl
  case jmp =>
    rintro s u f c h rfl hslot hrd hrb hs hfunc hal
    refine becomes_transfer_exc rfl h hslot ?_
    simp only [hrd, hrb, hs, hfunc, hal, ne_eq, not_true, not_false_eq_true, Bool.false_eq_true, or_self, if_false, if_true]
    rfl
  case ret =>
    rintro s u f c h rfl hslot hbare hfill hal
    refine becomes_transfer_exc rfl h hslot ?_
    simp only [hbare, hfill, hal, ne_eq, not_false_eq_true, Bool.not_true, Bool.false_eq_true, if_false, if_true]
    rfl
  case rete =>
    rintro s u f c h rfl hslot hbare hal
    refine becomes_transfer_exc rfl h hslot ?_
    simp only [hbare, hal, ne_eq, not_false_eq_true, Bool.not_true, Bool.false_eq_true, if_false, if_true]
    rfl
  case brSlot =>
    rintro s u f c h rfl hslot
    exact becomes_transfer_inSlot rfl h hslot
  case callSlot =>
    rintro s u f c h rfl hslot
    exact becomes_transfer_inSlot rfl h hslot
  case jmpSlot =>
    rintro s u f c h rfl hslot
    exact becomes_transfer_inSlot rfl h hslot
  case callrSlot =>
    rintro s u f c h rfl hslot
    exact becomes_transfer_inSlot rfl h hslot
  case retSlot =>
    rintro s u f c h rfl hslot
    exact becomes_transfer_inSlot rfl h hslot
  case reteSlot =>
    rintro s u f c h rfl hslot
    exact becomes_transfer_inSlot rfl h hslot
  case wfeSlot =>
    rintro s u f c h rfl hslot
    exact becomes_exc rfl h (if_pos (.inr hslot))
  case special =>
    rintro s u f c h rfl hgt
    refine becomes_exc rfl h ?_
    simp only [Core.special_none _ _ _ hgt, ite_self]
    rfl
  case takeMp =>
    intro s f h
    exact becomes_exc rfl h (ite_self _)
  case takeHeld =>
    intro s k f h hra hrb hs hfunc hheld
    refine becomes_exc rfl h ?_
    simp only [hra, hrb, hs, hfunc, hheld, ne_eq, not_true, Bool.false_eq_true, or_self, if_false, if_true]
    rfl
  case doneNone =>
    intro s k f h hs hheld
    refine becomes_exc rfl h ?_
    simp only [hs, hheld, Option.isNone_none, Bool.false_eq_true, if_false, if_true]
    rfl
  case fetch =>
    intro s u f hrun hpc
    have hx : Becomes (.addi u f) s (s.dev.aluImm u f (fun a b => aluAdd a b false)) := rfl
    rwa [Dev.aluImm, Dev.instr_fetch hrun hpc] at hx

end Sys2Proof.Machine
end

section
/-! SUPPORT. The windows at calls, returns and exceptions (spec/10 R244, R246, R254, R261 to R264). -/

namespace Sys2Proof.Machine

/-! Windows that move without a spill or a fill -/

theorem Core.advance_of_lt {u : Cpu} {c : Core} (h : c.res < 11) :
    c.advance u = some { c with cwp := (c.cwp + 1) % 12, res := c.res + 1 } := by
  rw [Core.advance, if_neg (by omega)]

theorem Core.retreat_of_lt {u : Cpu} {c : Core} (h : 1 < c.res) :
    c.retreat u = some { c with cwp := (c.cwp + 11) % 12, res := c.res - 1 } := by
  rw [Core.retreat, if_neg (by omega)]

@[simp] theorem Core.lk_setLinkOf (c : Core) (v : Word) : (c.setLinkOf c.cwp v).lk = v := tabGet_set_same 0 c.links _ v

/-- `Core.reg_p_next_window`, seen from the callee's side. -/
theorem Core.reg_next_prev_window (c : Core) {i : Nat} (hi : i < 8) :
    ({ c with cwp := (c.cwp + 11) % 12 } : Core).reg (BitVec.ofNat 5 (24 + i)) = c.reg (BitVec.ofNat 5 (8 + i)) := by
  have hback : ((c.cwp + 11) % 12 + 1) % 12 = c.cwp % 12 := by omega
  rw [Core.reg_next _ hi, c.reg_param (by omega), hback]

/-- The globals are no part of a window. -/
theorem Core.reg_global_congr {c e : Core} (h : e.globals = c.globals) {i : Nat} (hi : i < 8) :
    e.reg (BitVec.ofNat 5 i) = c.reg (BitVec.ofNat 5 i) := by
  rw [e.reg_global hi, c.reg_global hi, h]

/-! After the slot -/

section
variable {d : Dev} {u : Cpu} {a : Nat}

theorem Dev.goOn_call {p r : Nat} (hslot : (d.core u).slot = some (a, .call p r)) (hres : (d.core u).res < 11) :
    (d.goOn u).core u =
      { { d.core u with slot := none, cwp := ((d.core u).cwp + 1) % 12, res := (d.core u).res + 1 }.setLinkOf
          (((d.core u).cwp + 1) % 12) (wd r) with pc := p } := by
  rw [Dev.goOn_arrive hslot, Dev.arriveAt]
  simp [Core.advance_of_lt, hres]

theorem Dev.goOn_ret (hslot : (d.core u).slot = some (a, .ret)) (hres : 1 < (d.core u).res) :
    (d.goOn u).core u = { d.core u with
      slot := none, pc := (d.core u).lk.toNat, cwp := ((d.core u).cwp + 11) % 12, res := (d.core u).res - 1 } := by
  rw [Dev.goOn_arrive hslot, Dev.arriveAt]
  simp only [Dev.core_setCore]
  rw [Core.retreat_of_lt]
  · exact Dev.core_setCore _ u _
  · exact hres

theorem Dev.goOn_rete (hslot : (d.core u).slot = some (a, .rete)) (hres : 1 < (d.core u).res) :
    (d.goOn u).core u = { d.core u with
      slot := none, pc := (d.core u).epc.toNat, exc := false, cwp := ((d.core u).cwp + 11) % 12, res := (d.core u).res - 1 } := by
  rw [Dev.goOn_arrive hslot, Dev.arriveAt]
  simp only [Dev.core_setCore]
  rw [Core.retreat_of_lt]
  · exact Dev.core_setCore _ u _
  · exact hres

end

/-- Settles O42: what each transfer makes of the core (`Dev.goOn_call`, `Dev.goOn_ret`, `Dev.goOn_rete`); the registers by the
group they name. -/
theorem callAndReturn : Obligations.CallAndReturn := by
  unfold Obligations.CallAndReturn
  refine ⟨?call, ?ret, ?rete, ?jump⟩
  case call =>
    rintro d u c a p r e rfl hslot - hres rfl
    rw [Dev.goOn_call hslot hres]
    exact ⟨rfl, rfl, Core.lk_setLinkOf { d.core u with cwp := ((d.core u).cwp + 1) % 12 } (wd r), rfl, rfl,
      fun i hi => Core.reg_global_congr (by rfl) hi, fun i hi => (d.core u).reg_p_next_window hi, rfl, rfl, rfl, rfl, rfl⟩
  case ret =>
    rintro d u c a e rfl hslot - hres rfl
    rw [Dev.goOn_ret hslot hres]
    exact ⟨rfl, rfl, rfl, rfl, rfl, fun i hi => Core.reg_global_congr (by rfl) hi,
      fun i hi => (d.core u).reg_next_prev_window hi, rfl, rfl, rfl, rfl, rfl⟩
  case rete =>
    rintro d u c a e rfl hslot - hres rfl
    rw [Dev.goOn_rete hslot hres]
    exact ⟨rfl, rfl, rfl, rfl, rfl, fun i hi => Core.reg_global_congr (by rfl) hi,
      fun i hi => (d.core u).reg_next_prev_window hi, rfl, rfl, rfl, rfl, rfl⟩
  case jump =>
    rintro d u c a p rfl hslot
    rw [Dev.goOn_arrive hslot, Dev.arriveAt, Dev.core_setCore, Dev.setCore_setCore]

/-! Exceptions -/

/-- The core with its exception registers written and its slot dropped (spec/10 R261, R262). -/
def Core.raised (c : Core) (cause det code : Nat) : Core :=
  { c with epc := wd (c.epcFor cause), ecause := wd (b2n c.slot.isSome * 2 ^ 31 + det * 2 ^ 16 + code * 2 ^ 8 + cause), slot := none }

section
variable {d : Dev} {u : Cpu} {cause det code : Nat}

theorem Dev.except_nested (h : (d.core u).exc = true) : d.except u cause det code = d.doubleFault u := by
  simp only [Dev.except, h, if_true]

/-- No window may be opened past the kept frame (R246). -/
theorem Dev.except_noRoom (hexc : (d.core u).exc = false) (hres : (d.core u).res = 11) (hmax : (d.core u).spillMax < (d.core u).spilled) :
    d.except u cause det code = (d.setCore u ((d.core u).raised cause det code)).doubleFault u := by
  simp only [Dev.except, Core.raised, hexc, hres, hmax, and_self, if_true, Bool.false_eq_true, if_false]

theorem Dev.except_window {e : Core} (hexc : (d.core u).exc = false)
    (hroom : ¬ ((d.core u).res = 11 ∧ (d.core u).spillMax < (d.core u).spilled))
    (hadv : ((d.core u).raised cause det code).advance u = some e) :
    d.except u cause det code =
      (let t := d.setCore u { e.setLinkOf e.cwp (wd ((d.core u).epcFor cause)) with exc := true, pc := 0x40 }
       if u.isMp = true then t.romException else t) := by
  simp only [Core.raised, hexc] at hadv
  simp only [Dev.except, hexc, Bool.false_eq_true, if_false, if_neg hroom, hadv, Dev.setCore_setCore]

end

/-- Settles O44: `Dev.except` by whether EXC is set and whether the window it opens has room. -/
theorem takingAnException : Obligations.TakingAnException := by
  unfold Obligations.TakingAnException
  refine ⟨?slot, ?trap, ?other, ?open_, ?spill, ?handler, ?noHandler, ?nested, ?noRoom, fun d k => rfl, fun d => rfl⟩
  case slot =>
    intro c cause a t h
    rw [Core.epcFor, h]
  case trap =>
    intro c h
    rw [Core.epcFor, h]
    exact if_pos rfl
  case other =>
    intro c cause h hne
    rw [Core.epcFor, h]
    exact if_neg hne
  case open_ =>
    rintro d u c e cause det code epc rfl hexc hres rfl rfl
    rw [Dev.except_window hexc (by omega) (Core.advance_of_lt hres)]
    simp only [Core.setLinkOf, Nat.mod_mod]
    rfl
  case spill =>
    rintro d u c c1 c2 cause det code epc rfl hexc - hmax rfl rfl hadv
    exact Dev.except_window hexc (by omega) hadv
  case handler =>
    intro d hne hal
    exact if_pos ⟨hne, hal⟩
  case noHandler =>
    intro d h
    exact if_neg (fun ⟨hne, hal⟩ => h.elim hne (absurd hal))
  case nested =>
    intro d u cause det code h
    exact Dev.except_nested h
  case noRoom =>
    rintro d u c c1 cause det code epc rfl hexc hres hmax rfl rfl
    exact Dev.except_noRoom hexc hres hmax

end Sys2Proof.Machine
end

section
/-! SUPPORT. Events, time and operations on a core (spec/10 R258 to R260; spec/18 R444). -/

namespace Sys2Proof.Machine

/-- The event flag ends a wait, save on an MP whose chip is asleep or on its way there (R444). -/
theorem effWfeWake_taken {d : Dev} {u : Cpu} (hwait : (d.core u).wait = .wfe) (hevt : (d.core u).evt = true)
    (hawake : u.isMp = false ∨ d.pmu.state = .run ∧ d.pmu.entering = none) :
    effWfeWake u d = d.setCore u { d.core u with wait := .none, evt := false } := by
  refine if_pos ⟨hwait, hevt, ?_⟩
  rcases hawake with hq | ⟨hrun, hent⟩
  · simp [hq]
  · simp [hrun, hent]

theorem effWaituResume_due {d : Dev} {u : Cpu} {due : Word} (h : (d.core u).wait = .waitu due) :
    effWaituResume u d = (d.at_ (d.tb + d.ahead due)).setCore u { (d.at_ (d.tb + d.ahead due)).core u with wait := .none } := by
  rw [effWaituResume, h]

/-- Settles O15: each instruction's checks pass, so that it has its effect and goes on (`becomes_go`); the two events by what
ends the wait. -/
theorem eventInstructionsComplete : Obligations.EventInstructionsComplete := by
  unfold Obligations.EventInstructionsComplete
  refine ⟨?taken, ?waits, ?enters, ?wake, ?sevMp, ?sevQuill, ?past, ?ahead, ?resume, ?take, ?done⟩
  case taken =>
    rintro s u f c h rfl hbare hslot hevt
    exact becomes_go rfl h (by simp [hbare, hslot, hevt])
  case waits =>
    rintro s u f c h rfl hbare hslot hevt hstay
    refine becomes_go rfl h ?_
    rcases hstay with hq | hmode
    · simp [hbare, hslot, hevt, hq]
    · simp [hbare, hslot, hevt, hmode]
  case enters =>
    rintro s f c e h rfl hbare hslot hevt hmode rfl
    exact becomes_go rfl h (by simp [hbare, hslot, hevt, hmode, Cpu.isMp])
  case wake =>
    intro s u hwait hevt hawake
    have hx : Becomes (.wfeWake u) s (effWfeWake u s.dev) := rfl
    rwa [effWfeWake_taken hwait hevt hawake] at hx
  case sevMp =>
    rintro s f c h rfl hbare
    exact becomes_go rfl h (by simp [hbare])
  case sevQuill =>
    rintro s f c k h rfl hbare
    exact becomes_go rfl h (by simp [hbare])
  case past =>
    rintro s u f c h rfl hrd hrb hs hfunc hpast
    exact becomes_go rfl h (by simp [hrd, hrb, hs, hfunc, hpast])
  case ahead =>
    rintro s u f c h rfl hrd hrb hs hfunc hahead
    exact becomes_go rfl h (by simp [hrd, hrb, hs, hfunc, hahead])
  case resume =>
    rintro s u due e hwait rfl
    have hx : Becomes (.waituResume u) s (effWaituResume u s.dev) := rfl
    rwa [effWaituResume_due hwait] at hx
  case take =>
    rintro s f c k h rfl hra hrb hs hfunc hheld
    exact becomes_go rfl h (by simp [hra, hrb, hs, hfunc, hheld])
  case done =>
    rintro s f c k h rfl hs hheld
    exact becomes_go rfl h (by simp [hs, Option.isSome_iff_ne_none.1 hheld])

end Sys2Proof.Machine
end

section
/-! SUPPORT. Registers as the host sees them: which code a refused request gets, what a refused write leaves, how attention
and counters count (spec/02 R27, R31, R33, R36, R60, R64). -/

namespace Sys2Proof.Machine

/-! The code of a refusal -/

theorem mem_applicable {cs : List (Bool × Nat)} {k : Nat} :
    ((cs.filter (fun c => c.1)).map (fun c => c.2)).contains k = true ↔ (true, k) ∈ cs := by
  simp

/-- The first code of R31's order that applies. -/
theorem refuse_eq {cs : List (Bool × Nat)} {pre post : List Nat} {k : Nat} (horder : codeOrder = pre ++ k :: post)
    (hk : (true, k) ∈ cs) (hpre : ∀ j ∈ pre, (true, j) ∉ cs) : refuse cs = k := by
  have hfind : codeOrder.find? (fun j => ((cs.filter (fun c => c.1)).map (fun c => c.2)).contains j) = some k := by
    rw [List.find?_eq_some_iff_append]
    refine ⟨mem_applicable.2 hk, pre, post, horder, fun j hj => ?_⟩
    rw [Bool.not_eq_true', ← Bool.not_eq_true, mem_applicable]
    exact hpre j hj
  rw [refuse, firstCode, hfind]
  rfl

/-- Settles O50: by `refuse_ok_iff` and `refuse_eq`. -/
theorem firstApplicableCode : Obligations.FirstApplicableCode := by
  unfold Obligations.FirstApplicableCode
  refine ⟨rfl, fun cs hcs => ?_, fun cs pre post k horder hk hpre => ?_⟩
  · rw [refuse_ok_iff]
    constructor
    · intro hnone c hc
      exact Bool.eq_false_iff.2 (fun htrue => hnone c.2 (hcs c hc) (htrue ▸ hc))
    · intro hfalse k _ hk
      exact absurd (hfalse _ hk) (by decide : true ≠ false)
  · exact refuse_eq horder hk (fun j hj hin => hpre (true, j) hin rfl hj)

/-! Writes that are refused -/

section
variable {d : Dev} {src : Src} {a : Nat} {v : Word}

/-- A refused write wakes a gated block at most. -/
theorem Dev.regWrite_kept (h : (d.regWrite src a v).2.code ≠ RC.OK) :
    (d.regWrite src a v).1 = d ∨ ∃ b, (d.regWrite src a v).1 = d.wakeBlk b := by
  unfold Dev.regWrite at h ⊢
  cases hb : blkOfPage (a / 4096) with
  | none =>
    left
    simp only [hb]
  | some b =>
    simp only [hb] at h ⊢
    by_cases hok : refuse (d.writeCodes src (a / 4096) (a % 4096) v) = RC.OK
    · rw [if_pos hok] at h
      exact absurd rfl h
    · rw [if_neg hok]
      by_cases hpower : refuse (d.writeCodes src (a / 4096) (a % 4096) v) = RC.POWER
      · rw [if_pos hpower]
        exact Or.inr ⟨b, rfl⟩
      · rw [if_neg hpower]
        exact Or.inl rfl

theorem Dev.regWrite_kept_regs (h : (d.regWrite src a v).2.code ≠ RC.OK) : (d.regWrite src a v).1.regs = d.regs := by
  rcases Dev.regWrite_kept h with hd | ⟨b, hw⟩
  · rw [hd]
  · rw [hw, Dev.wakeBlk_regs]

theorem Dev.regWrite_code {b : Blk} (hb : blkOfPage (a / 4096) = some b) :
    (d.regWrite src a v).2.code = refuse (d.writeCodes src (a / 4096) (a % 4096) v) := by
  unfold Dev.regWrite
  simp only [hb]
  split
  next hok => exact hok.symm
  next => split <;> rfl

end

theorem Dev.writeWords_cons_accepted {d : Dev} {src : Src} {p o i : Nat} {w : Word} {ws : List Word}
    (h : (d.regWrite src (4096 * p + o) w).2.code = RC.OK) :
    d.writeWords src p (w :: ws) o i = (d.regWrite src (4096 * p + o) w).1.writeWords src p ws (o + 4) (i + 1) := by
  rw [Dev.writeWords]
  exact if_pos h

theorem Dev.writeWords_cons_refused {d : Dev} {src : Src} {p o i : Nat} {w : Word} {ws : List Word}
    (h : (d.regWrite src (4096 * p + o) w).2.code ≠ RC.OK) : d.writeWords src p (w :: ws) o i =
      ((d.regWrite src (4096 * p + o) w).1, { (d.regWrite src (4096 * p + o) w).2 with detail := i }) := by
  rw [Dev.writeWords]
  exact if_neg h

/-- Words that are all accepted are written, and the rest follows. -/
theorem Dev.writeWords_append {src : Src} {p : Nat} {pre post : List Word} {d d1 : Dev} {o i : Nat}
    (h : d.writeWords src p pre o i = (d1, Ans.ok [])) :
    d.writeWords src p (pre ++ post) o i = d1.writeWords src p post (o + 4 * pre.length) (i + pre.length) := by
  induction pre generalizing d o i with
  | nil =>
    cases h
    rfl
  | cons w pre ih =>
    by_cases hw : (d.regWrite src (4096 * p + o) w).2.code = RC.OK
    · rw [Dev.writeWords_cons_accepted hw] at h
      rw [List.cons_append, Dev.writeWords_cons_accepted hw, ih h, List.length_cons]
      congr 1 <;> omega
    · rw [Dev.writeWords_cons_refused hw] at h
      exact absurd (congrArg (fun r => r.2.code) h) hw

/-- Settles O51: the accepted words first (`Dev.writeWords_append`), then the refused one, which ends the WRITE. -/
theorem writeStopsAtRefusal : Obligations.WriteStopsAtRefusal := by
  unfold Obligations.WriteStopsAtRefusal
  refine ⟨?_, ?_, fun d src a w h => Dev.regWrite_kept h⟩
  · intro d e src p o i w ws h
    rw [Dev.writeWords_cons_accepted (by rw [h]; rfl), h]
  · intro pre post w d d1 src p o hpre hw
    rw [Dev.writeWords_append hpre, Dev.writeWords_cons_refused hw]
    exact ⟨rfl, rfl, Nat.zero_add _, Dev.regWrite_kept_regs hw⟩

/-! Locked registers -/

theorem Dev.headerWrite_lock (d : Dev) (b : Blk) (p : Nat) (v : Word) :
    d.headerWrite b p 0x020 v = d.setPage p { d.page p with lock := (d.page p).lock || bitOf v 0 } := rfl

/-- Settles O60: the code LOCKED applies, so that the write is refused; a write of PG_LOCK sets the lock or leaves it. -/
theorem lockedRegistersKeepTheirValue : Obligations.LockedRegistersKeepTheirValue := by
  unfold Obligations.LockedRegistersKeepTheirValue
  refine ⟨?_, ?_, ?_⟩
  · intro d src b a v r hb hr ho hrwl hlock
    have hlocked : (true, RC.LOCKED) ∈ d.writeCodes src (a / 4096) (a % 4096) v := by
      simp [Dev.writeCodes, hb, hr, Nat.not_lt.2 ho, RegDef.pre, hrwl, hlock]
    have hcode : (d.regWrite src a v).2.code ≠ RC.OK := by
      rw [Dev.regWrite_code hb]
      exact fun hok => refuse_ok_iff.1 hok RC.LOCKED (by decide) hlocked
    exact ⟨hcode, Dev.regWrite_kept_regs hcode⟩
  · rintro d b p o v rfl hlock
    rw [Dev.headerWrite_lock, Dev.page_setPage_same, hlock, Bool.true_or]
  · intro d b p v hv
    rw [Dev.headerWrite_lock, hv, Bool.or_true]

/-! Attention -/

theorem Dev.attnSet_attnSeq (d : Dev) (p : Nat) (cause mask : Word) :
    (d.attnSet p cause mask).hci.attnSeq = d.hci.attnSeq +
      wd (popCount ((cause &&& ~~~mask) &&& ~~~(d.page p).pend) + popCount ((d.page p).pend &&& ~~~(cause &&& ~~~mask))) := by
  unfold Dev.attnSet
  simp only
  split
  next hnone => exact (BitVec.add_zero _).symm.trans (congrArg (fun k => d.hci.attnSeq + wd k) hnone.symm)
  next => simp [Dev.attnStep, Dev.setPage, Page.pend]

theorem Dev.attnSet_pages (d : Dev) (p : Nat) (cause mask : Word) :
    (d.attnSet p cause mask).pages = (d.setPage p { d.page p with cause := cause, mask := mask }).pages := by
  unfold Dev.attnSet
  simp only
  split
  · rfl
  · simp [Dev.attnStep]

theorem popCount_oneBit : ∀ i < 32, popCount (oneBit i) = 1 := by decide

theorem getLsbD_oneBit {i j : Nat} (hi : i < 32) : (oneBit i).getLsbD j = decide (j = i) := by
  rw [oneBit, BitVec.getLsbD_ofNat, Nat.shiftLeft_eq, Nat.one_mul, Nat.testBit_two_pow]
  by_cases h : j = i
  · simp [h, hi]
  · simp [h, Ne.symm h]

/-- A clear, unmasked cause enters the pending set. -/
theorem pend_raise_enter {cause mask : Word} {i : Nat} (hi : i < 32) (hcause : bitOf cause i = false) (hmask : bitOf mask i = false) :
    (cause ||| oneBit i) &&& ~~~mask &&& ~~~(cause &&& ~~~mask) = oneBit i := by
  refine BitVec.eq_of_getLsbD_eq fun j hj => ?_
  unfold bitOf at hcause hmask
  simp only [BitVec.getLsbD_and, BitVec.getLsbD_or, BitVec.getLsbD_not, getLsbD_oneBit hi, hj, decide_true, Bool.true_and]
  by_cases h : j = i
  · subst h
    simp [hcause, hmask]
  · cases cause.getLsbD j <;> simp [h]

/-- No cause leaves it. -/
theorem pend_raise_leave (cause mask bit : Word) : (cause &&& ~~~mask) &&& ~~~((cause ||| bit) &&& ~~~mask) = 0 := by
  refine BitVec.eq_of_getLsbD_eq fun j hj => ?_
  simp only [BitVec.getLsbD_and, BitVec.getLsbD_or, BitVec.getLsbD_not, hj, decide_true, Bool.true_and]
  cases cause.getLsbD j <;> cases mask.getLsbD j <;> simp

/-- Settles O52: `Dev.attnSet_attnSeq` and `Dev.attnSet_pages`; a raised cause is the one bit that enters. -/
theorem attentionCountsEveryChange : Obligations.AttentionCountsEveryChange := by
  unfold Obligations.AttentionCountsEveryChange
  refine ⟨?_, fun d p cause mask => d.attnSet_pages p cause mask, fun d b i hi hcause hmask => ⟨?_, ?_⟩⟩
  · rintro d p cause mask old new rfl rfl
    exact d.attnSet_attnSeq p cause mask
  · rw [Dev.raise, Dev.attnSet_attnSeq]
    unfold Dev.blk at hcause hmask ⊢
    rw [Page.pend, pend_raise_enter hi hcause hmask, pend_raise_leave, popCount_oneBit i hi]
    rfl
  · rw [Dev.raise, Dev.blk, Dev.page, Dev.attnSet_pages]
    exact d.page_setPage_same _ _

/-! Counters -/

section
variable {d : Dev} {a n : Nat} {b : Blk} {c : CtrDef}

theorem Dev.countN_of_ctr (hb : blkOfPage (a / 4096) = some b) (hc : ctrAt b (a % 4096) = some c) :
    d.countN a n = if c.wide then
        (d.wr a (wd ((d.rd a).toNat + 2 ^ 32 * (d.rd (a + 4)).toNat + n))).wr (a + 4)
          (wd (((d.rd a).toNat + 2 ^ 32 * (d.rd (a + 4)).toNat + n) / 2 ^ 32))
      else if c.sat then d.wr a (wd (satAdd 32 (d.rd a).toNat n))
      else d.wr a (d.rd a + wd n) := by
  simp only [Dev.countN, hb, Option.bind_some, hc]

theorem Dev.counterWrite_of_ctr (hb : blkOfPage (a / 4096) = some b) (hc : ctrAt b (a % 4096) = some c) :
    d.counterWrite a 0 = if c.wide then (d.wr a 0).wr (a + 4) 0 else d.wr a 0 := by
  simp [Dev.counterWrite, hb, hc]

theorem Dev.counterWrite_of_ne {v : Word} (h : v ≠ 0) : d.counterWrite a v = d := by
  unfold Dev.counterWrite
  split
  · rfl
  · exact if_pos h

end

theorem wd_toNat (k : Nat) : (wd k).toNat = k % 2 ^ 32 := BitVec.toNat_ofNat k 32

/-- Settles O53: each kind of counter by the registers it writes. -/
theorem countersCount : Obligations.CountersCount := by
  unfold Obligations.CountersCount
  refine ⟨?sat, ?wrap, ?wide, ?clear, fun d a v hv => Dev.counterWrite_of_ne hv⟩
  case sat =>
    intro d a n b c hb hc hwide hsat
    simp only [Dev.countN_of_ctr hb hc, hwide, hsat, Bool.false_eq_true, if_false, if_true]
    refine ⟨?_, fun x hx => d.rd_wr_ne _ hx⟩
    rw [Dev.rd_wr_same, wd_toNat, satAdd]
    split <;> omega
  case wrap =>
    intro d a n b c hb hc hwide hsat
    simp only [Dev.countN_of_ctr hb hc, hwide, hsat, Bool.false_eq_true, if_false]
    refine ⟨?_, fun x hx => d.rd_wr_ne _ hx⟩
    rw [Dev.rd_wr_same, BitVec.toNat_add, wd_toNat, Nat.add_mod_mod]
  case wide =>
    intro d a n b c hb hc hwide
    simp only [Dev.countN_of_ctr hb hc, hwide, if_true]
    refine ⟨?_, fun x hx hx4 => (Dev.rd_wr_ne _ _ hx4).trans (d.rd_wr_ne _ hx)⟩
    rw [Dev.rd_wr_same, Dev.rd_wr_ne _ _ (by omega), Dev.rd_wr_same, wd_toNat, wd_toNat]
    omega
  case clear =>
    intro d a b c hb hc
    rw [Dev.counterWrite_of_ctr hb hc]
    cases hwide : c.wide with
    | true =>
      refine ⟨(Dev.rd_wr_ne _ _ (by omega)).trans (d.rd_wr_same a 0), fun _ => Dev.rd_wr_same _ _ 0, fun x hx hx4 => ?_⟩
      exact (Dev.rd_wr_ne _ _ (hx4.resolve_right (by decide))).trans (d.rd_wr_ne _ hx)
    | false => exact ⟨d.rd_wr_same a 0, by simp, fun x hx _ => d.rd_wr_ne _ hx⟩

end Sys2Proof.Machine
end

section
/-! SUPPORT. Memories: poisoned lines, and the canonical form under stores (spec/14 R348). -/

namespace Sys2Proof.Machine

/-! Poison -/

@[simp] theorem Dev.dramByte_setPoison (d : Dev) (a : Nat) (p : Bool) (x : Nat) : (d.setPoison a p).dramByte x = d.dramByte x := rfl

theorem Dev.poisoned_setPoison (d : Dev) (a : Nat) (p : Bool) (x : Nat) :
    (d.setPoison a p).poisoned x = if lineOf x = lineOf a then p else d.poisoned x :=
  tabGet_set d.mem.poisonInit d.mem.poison (lineOf a) (lineOf x) p

/-- Marks cleared line by line. -/
theorem Dev.poisoned_clear (d : Dev) (a n x : Nat) :
    ((List.range n).foldl (fun d i => d.setPoison (a + 64 * i) false) d).poisoned x =
      if ∃ i < n, lineOf x = lineOf (a + 64 * i) then false else d.poisoned x := by
  induction n with
  | zero => simp
  | succ n ih =>
    rw [List.range_succ, List.foldl_append, List.foldl_cons, List.foldl_nil, Dev.poisoned_setPoison, ih]
    by_cases hlast : lineOf x = lineOf (a + 64 * n)
    · rw [if_pos hlast, if_pos ⟨n, n.lt_succ_self, hlast⟩]
    · have hiff : (∃ i < n, lineOf x = lineOf (a + 64 * i)) ↔ ∃ i < n + 1, lineOf x = lineOf (a + 64 * i) := by
        simp only [Nat.lt_succ_iff_lt_or_eq, or_and_right, exists_or, exists_eq_left, hlast, or_false]
      rw [if_neg hlast]
      simp only [hiff]

theorem Dev.dramByte_clear (d : Dev) (a n x : Nat) :
    ((List.range n).foldl (fun d i => d.setPoison (a + 64 * i) false) d).dramByte x = d.dramByte x := by
  induction n with
  | zero => rfl
  | succ n ih => rw [List.range_succ, List.foldl_append, List.foldl_cons, List.foldl_nil, Dev.dramByte_setPoison, ih]

/-- The lines that whole aligned lines cover are those of their bytes. -/
theorem line_covered {a len x : Nat} (ha : a % 64 = 0) (hlen : len % 64 = 0) :
    (∃ i < ceilDiv len 64, lineOf x = lineOf (a + 64 * i)) ↔ a ≤ x ∧ x < a + len := by
  simp only [ceilDiv, lineOf]
  rw [if_neg (by decide)]
  constructor
  · rintro ⟨i, hi, hx⟩
    omega
  · rintro ⟨hlo, hhi⟩
    exact ⟨(x - a) / 64, by omega, by omega⟩

section
variable (d : Dev) {a : Nat} {bs : List Byte} (ha : a % 64 = 0) (hlen : bs.length % 64 = 0)
include ha hlen

theorem Dev.poisoned_dramLines (x : Nat) :
    (d.dramLines a bs).poisoned x = if a ≤ x ∧ x < a + bs.length then false else d.poisoned x := by
  rw [Dev.dramLines, Dev.dramPartial_poisoned, Dev.poisoned_clear]
  simp only [line_covered ha hlen]

theorem Dev.dramByte_dramLines (x : Nat) :
    (d.dramLines a bs).dramByte x = if a ≤ x ∧ x < a + bs.length then bs.getD (x - a) 0 else d.dramByte x := by
  rw [Dev.dramLines, Dev.dramByte_dramPartial, Dev.poisoned_clear, Dev.dramByte_clear]
  simp only [line_covered ha hlen]
  by_cases hx : a ≤ x ∧ x < a + bs.length
  · rw [if_pos hx, if_pos hx, if_pos ⟨hx.1, hx.2, rfl⟩]
  · rw [if_neg hx, if_neg hx, if_neg (fun h => hx ⟨h.1, h.2.1⟩)]

end

/-- A load of the MP's window. -/
theorem Dev.mpLoad_window (d : Dev) {a n : Nat} (ha : 0x80000000 ≤ a) :
    d.mpLoad a n = if d.winCode a n ≠ RC.OK then d.refusedAt (d.winCode a n)
      else if d.rangePoisoned (d.winAddr a) n then (d.count A.MEM.POISON_READ_CNT).refusedAt RC.FROZEN
      else (d, Ans.ok [wd (leNat (d.dramBytes (d.winAddr a) n))]) := by
  rw [Dev.mpLoad, if_neg (by omega), if_neg (by omega), if_neg (by omega), if_neg (by omega), if_neg (by omega), if_neg (by omega),
    if_pos ha]

/-- Settles O55: a write by what it does to each byte and to each line's mark. -/
theorem poisonedLines : Obligations.PoisonedLines := by
  unfold Obligations.PoisonedLines
  refine ⟨fun d a bs => ⟨d.dramPartial_poisoned a bs, d.dramByte_dramPartial a bs⟩, ?_, ?_, ?_⟩
  · intro d a bs ha hlen x hlo hhi
    exact ⟨(d.poisoned_dramLines ha hlen x).trans (if_pos ⟨hlo, hhi⟩), (d.dramByte_dramLines ha hlen x).trans (if_pos ⟨hlo, hhi⟩)⟩
  · intro d a bs ha hlen x hout
    exact ⟨(d.poisoned_dramLines ha hlen x).trans (if_neg (by omega)), (d.dramByte_dramLines ha hlen x).trans (if_neg (by omega))⟩
  · intro d a n ha hcode hpoison
    rw [Dev.mpLoad_window d ha, if_neg (Classical.not_not.2 hcode), if_pos hpoison]
    rfl

/-! The canonical form -/

/-- What `Dev.memWf` says of each memory. -/
theorem Dev.memWf_iff {d : Dev} : d.memWf = true ↔ Memory.wf d.mem.dram = true ∧ Memory.wf d.mem.ink = true ∧
    Memory.wf d.asc.sram = true ∧ Memory.wf d.mgt.sram = true ∧ Memory.wf d.mp.dmem = true ∧ Memory.wf d.qar.desc = true ∧
    d.qar.cores.all (fun e => Memory.wf e.2.dmem && Memory.wf e.2.imem) = true := by
  simp only [Dev.memWf, Bool.and_eq_true, and_assoc]

theorem mem_of_tabFind {α : Type} {t : Tab α} {k : Nat} {v : α} (h : tabFind t k = some v) : (k, v) ∈ t := by
  induction t with
  | nil => cases h
  | cons e t ih =>
    obtain ⟨j, w⟩ := e
    rw [tabFind] at h
    split at h
    next hj =>
      cases h
      exact hj ▸ List.mem_cons_self
    next => exact List.mem_cons_of_mem _ (ih h)

/-- A partial write changes DRAM only. -/
theorem Dev.dramPartial_eq (d : Dev) (a : Nat) (bs : List Byte) :
    d.dramPartial a bs = { d with mem := { d.mem with dram := (d.dramPartial a bs).mem.dram } } := by
  induction bs generalizing d a with
  | nil => rfl
  | cons b bs ih =>
    rw [Dev.dramPartial, ih]
    split <;> rfl

theorem Core.reset_dmem_wf : Memory.wf (Core.reset false).dmem = true := rfl

theorem Dev.quill_dmem_wf {d : Dev} (h : d.memWf = true) (k : Nat) : Memory.wf (d.quill k).dmem = true := by
  obtain ⟨-, -, -, -, -, -, hcores⟩ := Dev.memWf_iff.1 h
  unfold Dev.quill
  cases hk : tabFind d.qar.cores k with
  | none => exact Core.reset_dmem_wf
  | some c =>
    have hc := List.all_eq_true.1 hcores _ (mem_of_tabFind hk)
    rw [Bool.and_eq_true] at hc
    exact hc.1

section
variable {d : Dev} {a n : Nat} {v : Word}

/-- The memory a store of the MP reaches, by its address. -/
theorem Dev.mpStore_wf (h : d.memWf = true) (hreg : ¬ (0x20000000 ≤ a ∧ a < 0x21000000)) : (d.mpStore a n v).1.memWf = true := by
  obtain ⟨hdram, hink, hasc, hmgt, hmp, hdesc, hcores⟩ := Dev.memWf_iff.1 h
  unfold Dev.mpStore
  repeat' split
  · exact h
  · exact Dev.memWf_iff.2 ⟨hdram, hink, hasc, hmgt, storeTab_wf _ _ _ _ hmp, hdesc, hcores⟩
  · exact Dev.memWf_iff.2 ⟨hdram, hink, hasc, storeTab_wf _ _ _ _ hmgt, hmp, hdesc, hcores⟩
  · exact Dev.memWf_iff.2 ⟨hdram, hink, storeTab_wf _ _ _ _ hasc, hmgt, hmp, hdesc, hcores⟩
  · exact Dev.memWf_iff.2 ⟨hdram, storeTab_wf _ _ _ _ hink, hasc, hmgt, hmp, hdesc, hcores⟩
  · exact h
  · rw [Dev.dramPartial_eq]
    exact Dev.memWf_iff.2 ⟨Dev.dramPartial_wf _ _ _ hdram, hink, hasc, hmgt, hmp, hdesc, hcores⟩
  · exact h

end

/-- Settles O59: a store into each memory keeps its form (`storeTab_wf`, `Dev.dramPartial_wf`) and leaves the others. -/
theorem storesKeepMemoryForm : Obligations.StoresKeepMemoryForm := by
  unfold Obligations.StoresKeepMemoryForm
  refine ⟨fun d a n v _ _ h hreg => Dev.mpStore_wf h hreg, fun d k a n v _ _ h hmem => ?_⟩
  obtain ⟨-, -, hasc, -⟩ := Dev.memWf_iff.1 h
  have hdmem := Dev.quill_dmem_wf h k.val
  unfold Dev.quillStore
  rcases hmem with hown | hsram
  · simp only [if_pos hown]
    refine ⟨?_, hasc⟩
    change Memory.wf ((d.setCore (.quill k) _).core (.quill k)).dmem = true
    rw [Dev.core_setCore]
    exact storeTab_wf _ _ _ _ hdmem
  · simp only [if_neg (show ¬ (0x10000000 ≤ a ∧ a < 0x10008000) by omega), if_pos hsram]
    exact ⟨hdmem, storeTab_wf _ _ _ _ hasc⟩

end Sys2Proof.Machine
end

section
/-! SUPPORT. The host's rings: what a write of an index or of a ring's configuration does, and what the loss of the link does
(spec/02 R43 to R47). -/

namespace Sys2Proof.Machine

/-- An event row leads to what its effect makes of the device. -/
theorem becomes_eff {c : Instr} {s : State} {f : Dev → Dev} {e : Dev} (hx : Becomes c s (f s.dev)) (h : f s.dev = e) :
    Becomes c s e := h ▸ hx

/-! Rings -/

theorem Dev.ring_setRing_ne (d : Dev) {n m : Nat} (r : Ring) (h : m ≠ n) : (d.setRing n r).ring m = d.ring m := by
  simp only [Dev.ring, Dev.setRing, tabFind_put_ne _ _ h]

@[simp] theorem Dev.ring_pcieWake (d : Dev) (n : Nat) : d.pcieWake.ring n = d.ring n := by
  rw [Dev.ring, Dev.pcieWake, Dev.hwWake_hci, Dev.ring]

/-- A ring that may not take an entry takes none. -/
theorem Dev.ringRun_blocked {d : Dev} {n : Nat} (h : (d.ring n).mayTake = false) (k : Nat) : d.ringRun n k = d := by
  cases k with
  | zero => rfl
  | succ k =>
    rw [Dev.ringRun]
    simp only [h]
    split <;> rfl

theorem Ring.mayTake_iff {r : Ring} : r.mayTake = true ↔ r.enable = true ∧ r.waiting = [] ∧ r.full = false := by
  simp [Ring.mayTake, and_assoc]

theorem Ring.mayTake_false {r : Ring} (h : r.full = true ∨ r.waiting ≠ []) : r.mayTake = false := by
  rcases h with hf | hw
  · simp [Ring.mayTake, hf]
  · simp [Ring.mayTake, hw]

theorem Ring.asks_of_blocked {r : Ring} (h : r.mayTake = false) : r.asks = false := by simp [Ring.asks, h]

theorem Ring.asks_of_held_nil {r : Ring} (h : r.held = []) : r.asks = false := by simp [Ring.asks, h]

/-- Entries of a typed ring behind a full reply ring are held (R45). -/
theorem Dev.ringPost_blocked {d : Dev} {n i : Nat} {es : List RingEnt} (hask : d.asking = [])
    (h : (d.ring n).full = true ∨ (d.ring n).waiting ≠ []) :
    d.ringPost n es i = d.setRing n { d.ring n with prod := i, held := (d.ring n).held ++ es } := by
  have hblocked : ({ d.ring n with prod := i, held := (d.ring n).held ++ es } : Ring).mayTake = false := Ring.mayTake_false h
  unfold Dev.ringPost
  simp only
  split
  · exact Dev.serveAll_none (Dev.asking_setRing hask (Ring.asks_of_blocked hblocked))
  · exact Dev.ringRun_blocked (by rw [Dev.ring_setRing_same]; exact hblocked) _

/-- A data ring's next entry. -/
theorem Dev.ringRun_step {d d1 : Dev} {n k : Nat} {e : RingEnt} {es : List RingEnt} (hheld : (d.ring n).held = e :: es)
    (hmay : (d.ring n).mayTake = true) (htyp : (d.ring n).typ ≠ 1) (hstuck : d.ringStuck n = false)
    (hd : (d.setRing n { d.ring n with held := es, reqPos := ((d.ring n).reqPos + 1) % (d.ring n).size }).dataEntry n e = some d1) :
    d.ringRun n (k + 1) = d1.ringRun n k := by
  rw [Dev.ringRun]
  simp only [hheld, hmay, htyp, hstuck, hd, Bool.not_true, decide_false, Bool.or_self, Bool.false_eq_true, if_false]

/-- A data ring takes the entry it is given. -/
theorem Dev.ringPost_data {d d1 : Dev} {n i : Nat} {e : RingEnt} (htyp : (d.ring n).typ = 2) (hen : (d.ring n).enable = true)
    (hheld : (d.ring n).held = []) (hwait : (d.ring n).waiting = []) (hfull : (d.ring n).full = false) (hstuck : d.ringStuck n = false)
    (hd : (d.setRing n { d.ring n with prod := i, held := [], reqPos := ((d.ring n).reqPos + 1) % (d.ring n).size }).dataEntry n e = some d1) :
    d.ringPost n [e] i = d1 := by
  have hne : (d.ring n).typ ≠ 1 := by omega
  have hpost : d.ringPost n [e] i = (d.setRing n { d.ring n with prod := i, held := [e] }).ringRun n 1 := by
    simp only [Dev.ringPost, hne, hheld, if_false]
    rfl
  rw [hpost, Dev.ringRun_step (e := e) (es := []) (d1 := d1) (k := 0)]
  · rfl
  · rw [Dev.ring_setRing_same]
  · rw [Dev.ring_setRing_same]
    exact Ring.mayTake_iff.2 ⟨hen, hwait, hfull⟩
  · rw [Dev.ring_setRing_same]
    exact hne
  · exact hstuck
  · rw [Dev.ring_setRing_same, Dev.setRing_setRing]
    exact hd

/-! Where a write of an index reaches its ring -/

section
variable {d : Dev} {n : Nat} {w : Word} (hup : d.hciUp = true) (hlink : d.hci.linkUp = true) (hn : n < 32) (hen : (d.ring n).enable = true)
include hup hlink hn hen

theorem effRequestProducerWrite_reaches (es : List RingEnt) :
    effRequestProducerWrite n w es d = if (d.ring n).size ≤ bitsOf w 11 0 then d.pcieWake.ringError
      else d.pcieWake.ringPost n (es.take ((bitsOf w 11 0 + (d.ring n).size - (d.ring n).prod) % (d.ring n).size)) (bitsOf w 11 0) := by
  have hle : ¬ 31 < n := by omega
  simp [effRequestProducerWrite, hup, hlink, hle, hen]

theorem effReplyConsumerWrite_reaches {e : Dev}
    (he : e = (d.pcieWake.setRing n { d.ring n with cons := bitsOf w 11 0 }).ringDrain n (d.ring n).waiting.length) :
    effReplyConsumerWrite n w d = if (d.ring n).size ≤ bitsOf w 11 0 then d.pcieWake.ringError
      else if (d.ring n).typ = 1 then e.serveAll else e.ringRun n (e.ring n).held.length := by
  have hle : ¬ 31 < n := by omega
  subst he
  simp [effReplyConsumerWrite, hup, hlink, hle, hen]

end

/-- One reply that waited is written. -/
theorem Dev.ringDrain_one {d : Dev} {n : Nat} {ws : List Word} {host : Nat} {p : List Word}
    (hwait : (d.ring n).waiting = [(ws, host, p)]) (hroom : (d.ring n).full = false) :
    d.ringDrain n 1 = (d.setRing n { d.ring n with waiting := [] }).ringWrite n ws host p := by
  rw [Dev.ringDrain]
  simp only [hwait, hroom]
  rfl

/-- After replies were written, a ring that holds no entry takes none. -/
theorem Dev.take_none {e : Dev} {n : Nat} {t : Prop} [Decidable t] (hask : e.asking = []) (hheld : (e.ring n).held = []) :
    (if t then e.serveAll else e.ringRun n (e.ring n).held.length) = e := by
  split
  · exact Dev.serveAll_none hask
  · rw [hheld]
    rfl

/-! Replies written into a ring -/

theorem Dev.msix_rings (d : Dev) (v : Nat) : (d.msix v).hci.rings = d.hci.rings ∧ (d.msix v).hci.spi = d.hci.spi ∧
    (d.msix v).hci.acp = d.hci.acp ∧ (d.msix v).hci.mpTodo = d.hci.mpTodo := by
  unfold Dev.msix
  split <;> exact ⟨rfl, rfl, rfl, rfl⟩

theorem Dev.asking_congr {d e : Dev} (hrings : e.hci.rings = d.hci.rings) (hspi : e.hci.spi = d.hci.spi) (hacp : e.hci.acp = d.hci.acp)
    (hmp : e.hci.mpTodo = d.hci.mpTodo) : e.asking = d.asking := by
  simp only [Dev.asking, hrings, hspi, hacp, hmp]

@[simp] theorem Dev.ring_msix (d : Dev) (v n : Nat) : (d.msix v).ring n = d.ring n := by
  rw [Dev.ring, (d.msix_rings v).1, Dev.ring]

/-- An entry written advances the ring's position and leaves what it holds. -/
theorem Dev.ringWrite_eq (d : Dev) (n : Nat) (ws : List Word) (host : Nat) (p : List Word) :
    ∃ (o : Out) (r : Ring), r.held = (d.ring n).held ∧ r.enable = (d.ring n).enable ∧
      d.ringWrite n ws host p = ((d.emit o).setRing n r).msix (d.ring n).vec := by
  refine ⟨_, _, ?_, ?_, rfl⟩
  · rfl
  · rfl

theorem Dev.asking_ringWrite {d : Dev} {n : Nat} {ws : List Word} {host : Nat} {p : List Word} (hask : d.asking = [])
    (hheld : (d.ring n).held = []) : (d.ringWrite n ws host p).asking = [] := by
  obtain ⟨o, r, hr, -, h⟩ := d.ringWrite_eq n ws host p
  obtain ⟨hrings, hspi, hacp, hmp⟩ := ((d.emit o).setRing n r).msix_rings (d.ring n).vec
  rw [h, Dev.asking_congr hrings hspi hacp hmp]
  exact Dev.asking_setRing hask (Ring.asks_of_held_nil (hr.trans hheld))

theorem Dev.held_ringWrite (d : Dev) (n : Nat) (ws : List Word) (host : Nat) (p : List Word) :
    ((d.ringWrite n ws host p).ring n).held = (d.ring n).held := by
  obtain ⟨o, r, hr, -, h⟩ := d.ringWrite_eq n ws host p
  rw [h, Dev.ring_msix, Dev.ring_setRing_same, hr]

/-! What an answered WATCH leaves of the link and the rings -/

/-- The link is as it was, and each pair is enabled or not as it was. -/
def Dev.linkKept (d e : Dev) : Prop := e.hci.linkUp = d.hci.linkUp ∧ ∀ n, (e.ring n).enable = (d.ring n).enable

theorem Dev.linkKept_trans {d e f : Dev} (h1 : d.linkKept e) (h2 : e.linkKept f) : d.linkKept f :=
  ⟨h2.1.trans h1.1, fun n => (h2.2 n).trans (h1.2 n)⟩

theorem Dev.linkKept_of_rings {d e : Dev} (hlink : e.hci.linkUp = d.hci.linkUp) (hrings : e.hci.rings = d.hci.rings) : d.linkKept e :=
  ⟨hlink, fun n => by rw [Dev.ring, hrings, Dev.ring]⟩

theorem Dev.linkKept_setRing (d : Dev) (n : Nat) (r : Ring) (h : r.enable = (d.ring n).enable) : d.linkKept (d.setRing n r) := by
  refine ⟨rfl, fun m => ?_⟩
  by_cases hm : m = n
  · rw [hm, Dev.ring_setRing_same, h]
  · rw [Dev.ring_setRing_ne d r hm]

theorem Dev.linkKept_ringWrite (d : Dev) (n : Nat) (ws : List Word) (host : Nat) (p : List Word) : d.linkKept (d.ringWrite n ws host p) := by
  obtain ⟨o, r, -, hr, h⟩ := d.ringWrite_eq n ws host p
  rw [h]
  refine Dev.linkKept_trans (Dev.linkKept_setRing (d.emit o) n r hr) ?_
  unfold Dev.msix
  split <;> exact Dev.linkKept_of_rings rfl rfl

theorem Dev.linkKept_deliver (d : Dev) (src : Src) (addr : Option Nat) (r : Reply) : d.linkKept (d.deliver src addr r) := by
  have hput (n : Nat) (ws : List Word) (host : Nat) (p : List Word) : d.linkKept (d.ringPut n ws host p) := by
    unfold Dev.ringPut
    simp only
    split
    · exact ⟨rfl, fun _ => rfl⟩
    · split
      · exact d.linkKept_setRing n _ rfl
      · exact d.linkKept_ringWrite n ws host p
  cases src with
  | pcie n => cases addr <;> exact hput n _ _ _
  | spi => exact Dev.linkKept_of_rings rfl rfl
  | mp => exact Dev.linkKept_of_rings rfl rfl
  | acp id =>
    simp only [Dev.deliver]
    split
    · exact ⟨rfl, fun _ => rfl⟩
    · unfold Dev.acpKeep
      split <;> exact Dev.linkKept_of_rings rfl rfl

theorem Dev.linkKept_setWatch (d : Dev) (src : Src) (w : Option Watch) : d.linkKept (d.setWatch src w) := by
  cases src with
  | pcie n => exact d.linkKept_setRing n _ rfl
  | spi => exact Dev.linkKept_of_rings rfl rfl
  | mp => exact ⟨rfl, fun _ => rfl⟩
  | acp id =>
    simp only [Dev.setWatch]
    split
    · exact ⟨rfl, fun _ => rfl⟩
    · exact Dev.linkKept_of_rings rfl rfl

theorem Dev.linkKept_answerWatch (d : Dev) (src : Src) (det : Nat) : d.linkKept (d.answerWatch src det) := by
  unfold Dev.answerWatch
  split
  · exact ⟨rfl, fun _ => rfl⟩
  · exact Dev.linkKept_trans (d.linkKept_setWatch src none) (Dev.linkKept_deliver _ _ _ _)

theorem Dev.linkKept_answerWatches (d : Dev) : d.linkKept d.answerWatches := by
  have hstep (e : Dev) (src : Src) : e.linkKept (e.watchStep src) := by
    unfold Dev.watchStep
    split
    · split
      · exact e.linkKept_answerWatch src 0
      · exact ⟨rfl, fun _ => rfl⟩
    · exact ⟨rfl, fun _ => rfl⟩
  rw [Dev.answerWatches_eq]
  generalize d.sessions = l
  induction l generalizing d with
  | nil => exact ⟨rfl, fun _ => rfl⟩
  | cons src l ih => exact Dev.linkKept_trans (hstep d src) (ih _)

/-! The loss of the link -/

/-- A stopped pair stays as it is outside the HCI's own records. -/
theorem Dev.ringStop_hci (d : Dev) (n : Nat) : (d.ringStop n).hci = ((d.onHci (fun h => h.forget (.pcie n))).setRing n
    { d.ring n with enable := false, session := none, watch := none, waiting := [], held := [], subs := [] }).hci := rfl

theorem Dev.ring_ringStop_same (d : Dev) (n : Nat) : ((d.ringStop n).ring n).enable = false := by
  rw [Dev.ring, Dev.ringStop_hci]
  exact congrArg Ring.enable (Dev.ring_setRing_same _ n _)

theorem Dev.ring_ringStop_ne (d : Dev) {n m : Nat} (h : m ≠ n) : (d.ringStop n).ring m = d.ring m := by
  rw [Dev.ring, Dev.ringStop_hci]
  exact Dev.ring_setRing_ne _ _ h

/-- Stopping the enabled pairs of a list leaves none of them enabled, and disabled ones disabled. -/
theorem Dev.enable_stopAll (l : List Nat) (d : Dev) (n : Nat) (h : n ∈ l ∨ (d.ring n).enable = false) :
    ((l.foldl (fun d n => if (d.ring n).enable then d.ringStop n else d) d).ring n).enable = false := by
  induction l generalizing d with
  | nil => exact h.resolve_left (by simp)
  | cons m l ih =>
    refine ih _ ?_
    by_cases hmem : n ∈ l
    · exact Or.inl hmem
    · right
      by_cases hnm : n = m
      · subst hnm
        dsimp only
        split
        next => exact d.ring_ringStop_same n
        next hon => exact Bool.eq_false_iff.2 hon
      · have hoff := h.resolve_left (by simp [hnm, hmem])
        dsimp only
        split
        · rw [d.ring_ringStop_ne hnm, hoff]
        · exact hoff

theorem Dev.enable_of_no_key {d : Dev} {n : Nat} (h : n ∉ tabKeys d.hci.rings) : (d.ring n).enable = false := by
  cases hr : tabFind d.hci.rings n with
  | none => rw [Dev.ring, hr]; rfl
  | some r => exact absurd (mem_tabKeys_of_tabFind hr) h

theorem effPcieLinkDown_off (d : Dev) : (effPcieLinkDown d).hci.linkUp = false ∧ ∀ n, ((effPcieLinkDown d).ring n).enable = false := by
  refine ⟨rfl, fun n => Dev.enable_stopAll _ d n ?_⟩
  by_cases h : n ∈ tabKeys d.hci.rings
  · exact Or.inl h
  · exact Or.inr (Dev.enable_of_no_key h)

/-! Ring configuration -/

section
variable {d : Dev} {off : Nat} {w : Word} (hup : d.hciUp = true) (hlink : d.hci.linkUp = true)
include hup hlink

theorem effRingConfigWrite_reaches (hal : off % 4 = 0) : effRingConfigWrite off w d = d.pcieWake.bar0Write off w := by
  simp [effRingConfigWrite, hup, hlink, hal]

end

/-- A word of a ring's five. -/
theorem Dev.bar0Write_ring (d : Dev) {n k : Nat} (w : Word) (hn : n < 32) (hk : k ≤ 4) :
    d.bar0Write (0x400 + 32 * n + 4 * k) w = if k < 4 then d.ringBase n k w else d.ringCtrl n w := by
  have hring : (0x400 + 32 * n + 4 * k - 0x400) / 32 = n := by omega
  have hword : (0x400 + 32 * n + 4 * k - 0x400) % 32 / 4 = k := by omega
  rw [Dev.bar0Write, if_pos (by omega)]
  simp only [hring, hword]
  split
  · rfl
  · split
    · rfl
    · omega

theorem Dev.bar0Write_msix (d : Dev) {i : Nat} (w : Word) (hi : i < 128) : d.bar0Write (0x1000 + 4 * i) w = d.msixWrite i w := by
  have hword : (0x1000 + 4 * i - 0x1000) / 4 = i := by omega
  rw [Dev.bar0Write, if_neg (by omega), if_pos (by omega), hword]

/-- Settles O4: the index is past the ring (`effRequestProducerWrite_reaches`); a bad CRC and a bad TAG come first. -/
theorem transportRefusals : Obligations.TransportRefusals := by
  unfold Obligations.TransportRefusals
  refine ⟨?producer, ?consumer, ?crc, ?tag⟩
  case producer =>
    intro s n w es hup hlink hn hen hout
    exact becomes_eff rfl ((effRequestProducerWrite_reaches hup hlink hn hen es).trans (if_pos hout))
  case consumer =>
    intro s n w hup hlink hn hen hout
    exact becomes_eff rfl ((effReplyConsumerWrite_reaches hup hlink hn hen rfl).trans (if_pos hout))
  case crc =>
    rintro s bs body hup hacc - rfl hcrc
    refine becomes_eff rfl ?_
    have hacc' : (s.dev.emit (.spi [s.dev.spiStatus])).spiAccepting = true := hacc
    simp [effSpiRequest, hup, hacc', hcrc]
  case tag =>
    rintro s port peer udp bs body hup hrom hport hpres hcfg hproto hmin hmax rfl hslot htag hfew
    refine becomes_eff rfl ?_
    have hlen : ((s.dev.tb :: s.dev.hci.authFails).take 16) = s.dev.tb :: s.dev.hci.authFails := List.take_of_length_le (by simp; omega)
    have hfew' : ¬ ((s.dev.tb :: s.dev.hci.authFails).length = 16 ∧ s.dev.tb ≤ (s.dev.tb :: s.dev.hci.authFails).getD 15 0 + sT 1) := by
      simp only [List.length_cons]
      omega
    unfold effAcpDatagram
    simp only [hup, hrom, hpres, hcfg, hproto]
    rw [if_neg (by simp; omega), if_neg (by omega), if_pos htag, Dev.acpAuthFail]
    simp only [hlen, if_neg hfew', Dev.onHci, Dev.count_hci]

/-- Settles O2: which part of the ring each write reaches, and what it does there. -/
theorem ringWritesComplete : Obligations.RingWritesComplete := by
  unfold Obligations.RingWritesComplete
  refine ⟨?request, ?data, ?held, ?free, ?drain, ?base, ?start, ?stop, ?unmask, fun s => rfl, ?linkDown⟩
  case request =>
    rintro s n w e d r rfl rfl hup hlink hn hen htyp hheld hwait hfull hin hone hex hask
    refine becomes_eff rfl ((effRequestProducerWrite_reaches hup hlink hn hen [e]).trans ?_)
    rw [if_neg (by omega), hone, ← s.dev.ring_pcieWake n]
    rw [← s.dev.ring_pcieWake n] at htyp hen hheld hwait hfull
    exact Dev.ringPost_idle hex hask htyp hen hheld hwait hfull
  case data =>
    rintro s n w e d d1 r rfl rfl hup hlink hn hen htyp hheld hwait hfull hin hone hstuck hd
    refine becomes_eff rfl ((effRequestProducerWrite_reaches hup hlink hn hen [e]).trans ?_)
    rw [if_neg (by omega), hone]
    rw [← s.dev.ring_pcieWake n] at htyp hen hheld hwait hfull hd
    exact Dev.ringPost_data htyp hen hheld hwait hfull hstuck hd
  case held =>
    rintro s n w es k d r rfl rfl hup hlink hn hen hin hblocked rfl hask
    refine becomes_eff rfl ((effRequestProducerWrite_reaches hup hlink hn hen es).trans ?_)
    rw [if_neg (by omega), ← s.dev.ring_pcieWake n]
    rw [← s.dev.ring_pcieWake n] at hblocked
    exact Dev.ringPost_blocked hask hblocked
  case free =>
    rintro s n w d r rfl rfl hup hlink hn hen hin hheld hwait hask
    refine becomes_eff rfl ((effReplyConsumerWrite_reaches hup hlink hn hen rfl).trans ?_)
    have hdrain : (s.dev.pcieWake.setRing n { s.dev.ring n with cons := bitsOf w 11 0 }).ringDrain n (s.dev.ring n).waiting.length =
        s.dev.pcieWake.setRing n { s.dev.ring n with cons := bitsOf w 11 0 } := by
      rw [hwait]
      rfl
    rw [if_neg (by omega), hdrain]
    exact Dev.take_none (Dev.asking_setRing hask (Ring.asks_of_held_nil hheld)) (by rw [Dev.ring_setRing_same]; exact hheld)
  case drain =>
    rintro s n w d r ws host p rfl rfl hup hlink hn hen hin hheld hwait hfull hask
    refine becomes_eff rfl ((effReplyConsumerWrite_reaches hup hlink hn hen rfl).trans ?_)
    have hdrain : (s.dev.pcieWake.setRing n { s.dev.ring n with cons := bitsOf w 11 0 }).ringDrain n (s.dev.ring n).waiting.length =
        (s.dev.pcieWake.setRing n { s.dev.ring n with cons := bitsOf w 11 0, waiting := [] }).ringWrite n ws host p := by
      rw [hwait, List.length_singleton, Dev.ringDrain_one (ws := ws) (host := host) (p := p), Dev.ring_setRing_same, Dev.setRing_setRing]
      · rw [Dev.ring_setRing_same]
        exact hwait
      · rw [Dev.ring_setRing_same]
        exact decide_eq_false hfull
    rw [if_neg (by omega), hdrain]
    refine Dev.take_none (Dev.asking_ringWrite (Dev.asking_setRing hask (Ring.asks_of_held_nil hheld)) ?_) ?_
    · rw [Dev.ring_setRing_same]
      exact hheld
    · rw [Dev.held_ringWrite, Dev.ring_setRing_same]
      exact hheld
  case base =>
    rintro s n w d r rfl rfl hup hlink hn hoff
    have hword (k : Nat) (hk : k < 4) : effRingConfigWrite (0x400 + 32 * n + 4 * k) w s.dev = s.dev.pcieWake.ringBase n k w := by
      rw [effRingConfigWrite_reaches hup hlink (by omega), Dev.bar0Write_ring _ w hn (by omega), if_pos hk]
    refine ⟨becomes_eff rfl ((hword 0 (by decide)).trans ?_), becomes_eff rfl ((hword 1 (by decide)).trans ?_),
      becomes_eff rfl ((hword 2 (by decide)).trans ?_), becomes_eff rfl ((hword 3 (by decide)).trans ?_)⟩ <;>
    simp [Dev.ringBase, hoff]
  case start =>
    rintro s n w d r new rfl rfl hup hlink hn hoff hon rfl hvalid
    refine becomes_eff rfl ((effRingConfigWrite_reaches hup hlink (by omega)).trans ((Dev.bar0Write_ring _ w hn (k := 4) (Nat.le_refl _)).trans ?_))
    rw [if_neg (by decide), Dev.ringCtrl]
    simp only [Dev.ring_pcieWake]
    rw [if_neg (by simp [hoff]), if_pos hon, if_pos hvalid]
    rfl
  case stop =>
    rintro s n w d rfl hup hlink hn hon hoff
    refine becomes_eff rfl ((effRingConfigWrite_reaches hup hlink (by omega)).trans ((Dev.bar0Write_ring _ w hn (k := 4) (Nat.le_refl _)).trans ?_))
    simp [Dev.ringCtrl, hon, hoff]
  case unmask =>
    rintro s v w d rfl hup hlink hv hmask
    have haddr : 0x1000 + 16 * v + 12 = 0x1000 + 4 * (4 * v + 3) := by omega
    have hvec : (4 * v + 3) / 4 = v := by omega
    have hctl : (4 * v + 3) % 4 = 3 := by omega
    refine becomes_eff rfl ?_
    rw [haddr, effRingConfigWrite_reaches hup hlink (by omega), Dev.bar0Write_msix _ w (by omega), Dev.msixWrite]
    simp only [hvec, hctl, hmask]
    rfl
  case linkDown =>
    intro s
    obtain ⟨hlink, hoff⟩ := effPcieLinkDown_off s.dev
    obtain ⟨hsame, hrings⟩ := Dev.linkKept_answerWatches (effPcieLinkDown s.dev)
    exact ⟨{ s with dev := (effPcieLinkDown s.dev).answerWatches }, rfl, rfl, hsame.trans hlink, fun n => (hrings n).trans (hoff n)⟩

end Sys2Proof.Machine
end

section
/-! SUPPORT. SPI and ACP: the request, the reply and the datagram that are taken, the end of an idle session and a key's word
(spec/02 R48 to R57). -/

namespace Sys2Proof.Machine

theorem effSpiRequest_taken {d : Dev} {bs : List Byte} (hup : d.hciUp = true) (hacc : d.spiAccepting = true) (hmin : 18 ≤ bs.length)
    (hlen : (bs.take (bs.length - 2)).length = 16 + (msgOf (bs.take (bs.length - 2))).len)
    (hcrc : leNat (bs.drop (bs.length - 2)) = (crc16 (bs.take (bs.length - 2))).toNat) :
    effSpiRequest bs d = (d.emit (.spi [d.spiStatus])).spiTake (msgOf (bs.take (bs.length - 2))) := by
  have hacc' : (d.emit (.spi [d.spiStatus])).spiAccepting = true := hacc
  unfold effSpiRequest
  simp only [hup, hacc']
  rw [if_neg (by decide), if_neg (by decide), if_neg]
  rintro (hshort | hbad | hbad)
  · omega
  · exact hbad hlen
  · exact hbad hcrc

theorem effSpiReply_read {d : Dev} {clocks : Nat} {r : Reply} {rest : List Reply} (hup : d.hciUp = true)
    (hr : d.hci.spi.replies = r :: rest) (hclk : r.spiBytes.length ≤ clocks) :
    effSpiReply clocks d = (d.emit (.spi (d.spiStatus :: 0 :: (r.spiBytes ++ List.replicate (clocks - r.spiBytes.length) 0)))).onSpi
      (fun x => { x with replies := rest }) := by
  have hall : (r.spiBytes ++ List.replicate (clocks - r.spiBytes.length) 0).take clocks =
      r.spiBytes ++ List.replicate (clocks - r.spiBytes.length) 0 :=
    List.take_of_length_le (by simp; omega)
  simp only [effSpiReply, hup, hr, hall, hclk, Bool.not_true, Bool.false_eq_true, if_false, if_true]

/-- A datagram that passes every check of R53 to R55. -/
theorem effAcpDatagram_accepted {d : Dev} {port peer : Nat} {udp : Bool} {bs : List Byte} {ms : List Msg} {a : Acp} {id : Nat}
    (hup : d.hciUp = true) (hrom : d.romServes = false) (hport : port < 10) (hpres : d.present (.eth port) = true)
    (hcfg : bitOf (d.rd A.HCI.ACP_CFG) (12 + port) = true) (hproto : bitOf (d.rd A.HCI.ACP_CFG) (if udp then 1 else 0) = true)
    (hmin : 32 ≤ bs.length) (hmax : bs.length ≤ 1400) (hslot : byteAt bs 4 ≤ 3)
    (htag : bs.drop (bs.length - 16) = hmacTag (d.acpKey (byteAt bs 4)) (bs.take (bs.length - 16)))
    (h1 : byteAt bs 1 = 0) (h6 : byteAt bs 6 = 0) (h7 : byteAt bs 7 = 0)
    (hms : acpMsgs (byteAt bs 5) ((bs.take (bs.length - 16)).drop 16) = some ms) (hid : leNat ((bs.drop 2).take 2) = id) (hne : id ≠ 0)
    (ha : tabFind d.hci.acp id = some a) (hver : byteAt bs 0 = a.version) (hkey : byteAt bs 4 = a.slot) (hone : 1 ≤ byteAt bs 5)
    (hcnt : byteAt bs 5 ≤ (if a.version = 3 then 8 else 1)) (hhello : a.helloCtr < leNat ((bs.drop 8).take 8))
    (htop : a.topCtr < leNat ((bs.drop 8).take 8)) :
    effAcpDatagram port peer udp bs d = d.acpAccept id (leNat ((bs.drop 8).take 8)) port peer udp ms := by
  have hreach : ¬ (!d.hciUp || d.romServes || decide (9 < port) || !d.present (.eth port) || !bitOf (d.rd A.HCI.ACP_CFG) (12 + port) ||
      !bitOf (d.rd A.HCI.ACP_CFG) (if udp then 1 else 0)) = true := by
    simp only [hup, hrom, hpres, hcfg, hproto]
    simp
    omega
  unfold effAcpDatagram
  simp only [if_neg hreach]
  rw [if_neg (by omega), if_neg (Classical.not_not.2 htag), if_neg (by omega)]
  simp only [hms, hid, ha]
  rw [if_neg hne, if_neg (by omega), if_neg (by omega)]

theorem effAcpSessionIdle_ends {d : Dev} {id : Nat} {a : Acp} (ha : tabFind d.hci.acp id = some a) (hw : a.watch = none) :
    effAcpSessionIdle id d = (d.at_ (a.active + sT (d.fld A.HCI.ACP_CFG 31 22))).endSession (.acp id) := by
  simp [effAcpSessionIdle, ha, hw]

theorem Dev.endSession_acp (d : Dev) (id : Nat) :
    d.endSession (.acp id) = d.onHci (fun h => { h.forget (.acp id) with acp := tabDel h.acp id }) := rfl

/-- A key's word is write-only: the register keeps its value, the slot takes the word and its sessions end (R57). -/
theorem keyWord_post (d : Dev) {k : Nat} (hk : k < 4) (v : Word) :
    (d.withLinks (fun d => d.stored .hci (A.HCI.ACP_KEY (8 * k)) v)).blockPost .hci (A.HCI.ACP_KEY (8 * k) % 4096)
        (d.rd (A.HCI.ACP_KEY (8 * k))) ((d.stored .hci (A.HCI.ACP_KEY (8 * k)) v).rd (A.HCI.ACP_KEY (8 * k))) v =
      (d.wr (A.HCI.ACP_KEY (8 * k)) (d.rd (A.HCI.ACP_KEY (8 * k)))).onHci (fun h =>
        { h with keys := tabSet 0 h.keys (8 * k) v, acp := h.acp.filter (fun e => decide (e.2.slot ≠ k)) }) := by
  have hplain : linkReg (A.HCI.ACP_KEY (8 * k)) = false := (by decide : ∀ k < 4, linkReg (A.HCI.ACP_KEY (8 * k)) = false) k hk
  have hreg : regAt .hci (A.HCI.ACP_KEY (8 * k) % 4096) = some ⟨0x080, 32, 4, [⟨31, 0, .wo, 0, .any⟩]⟩ :=
    (by decide : ∀ k < 4, regAt .hci (A.HCI.ACP_KEY (8 * k) % 4096) = some ⟨0x080, 32, 4, [⟨31, 0, .wo, 0, .any⟩]⟩) k hk
  have hstored : d.stored .hci (A.HCI.ACP_KEY (8 * k)) v = d.wr (A.HCI.ACP_KEY (8 * k)) (d.rd (A.HCI.ACP_KEY (8 * k))) := by
    rw [Dev.stored, hreg]
    rfl
  have hoff : A.HCI.ACP_KEY (8 * k) % 4096 = 0x080 + 32 * k := by
    rw [A.HCI.ACP_KEY]
    omega
  have hword : (0x080 + 32 * k - 0x080) / 4 = 8 * k := by omega
  have hslot : 8 * k / 8 = k := by omega
  rw [Dev.withLinks_stored hplain, hstored, hoff, Dev.blockPost]
  simp only [hword]
  rw [if_pos (by omega), Dev.acpKeyWrite, hslot]

/-- Settles O3: each row's checks pass; an idle transport then executes the request (`Dev.spiTake_idle`, `Dev.acpAccept_idle`). -/
theorem datagramsAndSpiComplete : Obligations.DatagramsAndSpiComplete := by
  unfold Obligations.DatagramsAndSpiComplete
  refine ⟨?request, ?reply, ?status, ?datagram, ?accepted, ?idle, ?key⟩
  case request =>
    rintro s bs body d rfl hup hacc hmin rfl hlen hcrc hex hask
    exact becomes_eff rfl ((effSpiRequest_taken hup hacc hmin hlen hcrc).trans (Dev.spiTake_idle hacc hex hask))
  case reply =>
    intro s clocks r rest hup hr hclk
    exact becomes_eff rfl (effSpiReply_read hup hr hclk)
  case status =>
    intro s hup
    exact becomes_eff rfl (if_neg (by simp [hup]))
  case datagram =>
    rintro s port peer udp bs body ms a id ctr hup hrom hport hpres hcfg hproto hmin hmax rfl hslot htag h1 h6 h7 hms rfl hne ha hver hkey
      hone hcnt rfl hhello htop
    exact becomes_eff rfl (effAcpDatagram_accepted hup hrom hport hpres hcfg hproto hmin hmax hslot htag h1 h6 h7 hms rfl hne ha hver hkey
      hone hcnt hhello htop)
  case accepted =>
    intro d id ctr port peer udp m a ha hm hex hask
    exact Dev.acpAccept_idle ha (by omega) hex hask
  case idle =>
    intro s id a ha hw
    exact becomes_eff rfl ((effAcpSessionIdle_ends ha hw).trans (Dev.endSession_acp _ id))
  case key =>
    intro s rq slot v hslot hacc
    have hmod : slot % 4 = slot := Nat.mod_eq_of_lt hslot
    refine write_performs (a := A.HCI.ACP_KEY (8 * slot)) (v := v) ?_ hacc ?_ ?_ (fun d => keyWord_post d hslot v)
    · show execAcpKeyWrite rq slot [v] s = _
      rw [execAcpKeyWrite, hmod]
      rfl
    · exact (by decide : ∀ k < 4, 0x040 ≤ A.HCI.ACP_KEY (8 * k) % 4096) slot hslot
    · exact (by decide : ∀ k < 4, (regAt .hci (A.HCI.ACP_KEY (8 * k) % 4096)).isSome = true) slot hslot

end Sys2Proof.Machine
end

section
/-! SUPPORT. Writes of the host: page headers, counters and registers (spec/02 R33 to R36, R58 to R60, R64). -/

namespace Sys2Proof.Machine

theorem Dev.accepts_page {d : Dev} {rq : Rq} {a : Nat} {v : Word} {b : Blk} (h : d.accepts rq a v b = true) :
    blkOfPage (a / 4096) = some b := by
  simp only [Dev.accepts, Bool.and_eq_true, decide_eq_true_eq] at h
  obtain ⟨⟨-, -, -, hb⟩, -⟩ := h
  exact hb

/-! Page headers -/

theorem Dev.writeEffect_header {d : Dev} {p o : Nat} {v : Word} {b : Blk} (hb : blkOfPage p = some b) (ho : o < 0x040) :
    d.writeEffect p o v = d.headerWrite b p o v := by
  simp only [Dev.writeEffect, hb, if_pos ho]

section
variable {c : Instr} {s : State} {rq : Rq} {p o : Nat} {v : Word} {b : Blk}
  (hx : exec c s = s.run (fun d => d.write rq (4096 * p + o) v)) (ho : o < 0x040) (ha : s.dev.accepts rq (4096 * p + o) v b = true)
include hx ho ha

theorem header_performs {f : Dev → Dev} (hf : ∀ d : Dev, d.headerWrite b p o v = f d) : Performs c s rq OP.WRITE [] b f := by
  have hpage : (4096 * p + o) / 4096 = p := by omega
  have hoff : (4096 * p + o) % 4096 = o := by omega
  have hb := Dev.accepts_page ha
  refine accepts_performs hx ha (fun d => ?_)
  rw [hpage] at hb
  rw [hpage, hoff, Dev.writeEffect_header hb ho, hf]

theorem header_replies {Q : Dev → Prop}
    (hQ : ∀ h o', s.dev.Arrived (s.dev.withHost h o') → Q (((s.dev.asked b).withHost h o').headerWrite b p o v)) :
    Replies c s rq OP.WRITE [] Q := by
  have hpage : (4096 * p + o) / 4096 = p := by omega
  have hoff : (4096 * p + o) % 4096 = o := by omega
  have hb := Dev.accepts_page ha
  refine accepts_replies hx ha (fun h o' harr => ?_)
  rw [hpage] at hb
  rw [hpage, hoff, Dev.writeEffect_header hb ho]
  exact hQ h o' harr

end

theorem Dev.headerWrite_ctrl (d : Dev) (b : Blk) (p : Nat) (v : Word) : d.headerWrite b p 0x008 v =
    (let e := d.setPage p { d.page p with enable := bitOf v 0, clkForce := bitOf v 2, isolate := bitOf v 3 }
     if bitOf v 1 then (if b = .bst then e.bstSoft else e).softReset b else e) := by
  change d.ctrlWrite b p v = _
  rw [Dev.ctrlWrite, Dev.withLinks_setPage]

/-- A write of PG_CTRL without SOFT_RESET. -/
theorem Dev.headerWrite_ctrl_plain {d : Dev} {b : Blk} {p : Nat} {v : Word} (h : bitOf v 1 = false) : d.headerWrite b p 0x008 v =
    d.setPage p { d.page p with enable := bitOf v 0, clkForce := bitOf v 2, isolate := bitOf v 3 } := by
  simp [Dev.headerWrite_ctrl, h]

theorem bitOf_or_two (v : Word) : bitOf (v ||| 2) 1 = true := by
  simp [bitOf]

theorem Dev.causeHolds_withHost (d : Dev) (h : Hci) (o : List Out) (b : Blk) (i : Nat) :
    (d.withHost h o).causeHolds b i = d.causeHolds b i := by
  cases b <;> rfl

/-- Clearing causes none of which the block holds. -/
theorem Dev.headerWrite_cause {d : Dev} {b : Blk} {p : Nat} {v : Word} (h : ∀ i < 32, p = blkPage b → d.causeHolds b i = false) :
    d.headerWrite b p 0x010 v = d.attnSet p ((d.page p).cause &&& ~~~v) (d.page p).mask := by
  have hkeep (l : List Nat) (hl : ∀ i ∈ l, i < 32) (w : Word) :
      l.foldl (fun w i => if p = blkPage b ∧ d.causeHolds b i then w ||| oneBit i else w) w = w := by
    induction l generalizing w with
    | nil => rfl
    | cons i l ih =>
      have hi : ¬ (p = blkPage b ∧ d.causeHolds b i = true) := fun ⟨hp, hc⟩ => by
        rw [h i (hl i List.mem_cons_self) hp] at hc
        cases hc
      rw [List.foldl_cons, if_neg hi]
      exact ih (fun j hj => hl j (List.mem_cons_of_mem i hj)) w
  have hzero : ~~~v ||| (0 : Word) = ~~~v := BitVec.or_zero
  change d.attnSet p ((d.page p).cause &&& (~~~v ||| _)) (d.page p).mask = _
  rw [hkeep _ (fun i hi => List.mem_range.1 hi), hzero]

/-! Counters and registers -/

theorem Dev.writeEffect_ctr {d : Dev} {a : Nat} {v : Word} {b : Blk} {c : CtrDef} (hb : blkOfPage (a / 4096) = some b)
    (ho : 0x040 ≤ a % 4096) (hr : regAt b (a % 4096) = none) (hc : ctrAt b (a % 4096) = some c) :
    d.writeEffect (a / 4096) (a % 4096) v = if v ≠ 0 then d else if c.wide then (d.wr a 0).wr (a + 4) 0 else d.wr a 0 := by
  have hsum : 4096 * (a / 4096) + a % 4096 = a := Nat.div_add_mod a 4096
  simp only [Dev.writeEffect, hb, if_neg (Nat.not_lt.2 ho), hr, hc, Option.isSome_some, if_true, hsum, Dev.counterWrite, Option.bind_some]

/-! The end of a block's reset -/

theorem effSoftResetDone_done {d : Dev} {b : Blk} (hreset : (d.blk b).resetting = true)
    (hdp : dpBlks.contains b = false ∨ d.mem.dpReset = false) (htake : b = .qar → d.qarAtTake = true) :
    effSoftResetDone b d = (let e := d.setBlk b { d.blk b with resetting := false }
      if b = .qar then e.qarResume else e) := by
  unfold effSoftResetDone
  rw [if_neg]
  rintro (hno | ⟨hin, hrun⟩ | ⟨hq, hbusy⟩)
  · simp [hreset] at hno
  · rcases hdp with h | h
    · rw [h] at hin; cases hin
    · rw [h] at hrun; cases hrun
  · simp [htake hq] at hbusy

/-- Settles O5: a write that is accepted performs what its place does (`header_performs`, `accepts_performs`). -/
theorem pageHeaderCommandsComplete : Obligations.PageHeaderCommandsComplete := by
  unfold Obligations.PageHeaderCommandsComplete
  refine ⟨?softReset, ?resetDone, ?arrayDone, ?enable, ?isolate, ?lock, ?cause, ?mask, ?cls, ?force, ?counter, ?plain, ?register, ?round⟩
  case softReset =>
    intro s rq p v b hp ha
    have hx : exec (.softReset rq p v) s = s.run (fun d => d.write rq (4096 * (p % 4096) + 0x008) (v ||| 2)) := rfl
    rw [Nat.mod_eq_of_lt hp] at hx
    refine header_performs hx (by decide) ha (fun d => ?_)
    rw [Dev.headerWrite_ctrl]
    exact if_pos (bitOf_or_two v)
  case resetDone =>
    intro s b hreset hdp hb
    exact becomes_eff rfl ((effSoftResetDone_done hreset hdp (fun h => absurd h hb)).trans (if_neg hb))
  case arrayDone =>
    intro s hreset hdp htake
    exact becomes_eff rfl ((effSoftResetDone_done hreset (Or.inr hdp) (fun _ => htake)).trans (if_pos rfl))
  case enable =>
    intro s rq p v b hp ha hv
    have hx : exec (.pgEnableWrite rq p v) s = s.run (fun d => d.write rq (4096 * (p % 4096) + 0x008) v) := rfl
    rw [Nat.mod_eq_of_lt hp] at hx
    exact header_performs hx (by decide) ha (fun d => Dev.headerWrite_ctrl_plain hv)
  case isolate =>
    intro s rq p v b hp ha hv
    have hx : exec (.pgIsolateWrite rq p v) s = s.run (fun d => d.write rq (4096 * (p % 4096) + 0x008) v) := rfl
    rw [Nat.mod_eq_of_lt hp] at hx
    exact header_performs hx (by decide) ha (fun d => Dev.headerWrite_ctrl_plain hv)
  case lock =>
    intro s rq p b hp ha
    have hx : exec (.pgLockSet rq p) s = s.run (fun d => d.write rq (4096 * (p % 4096) + 0x020) 1) := rfl
    rw [Nat.mod_eq_of_lt hp] at hx
    refine header_performs hx (by decide) ha (fun d => ?_)
    rw [Dev.headerWrite_lock, show bitOf 1 0 = true from rfl, Bool.or_true]
  case cause =>
    intro s rq p v b hp ha hholds
    have hx : exec (.attnCauseClear rq p v) s = s.run (fun d => d.write rq (4096 * (p % 4096) + 0x010) v) := rfl
    rw [Nat.mod_eq_of_lt hp] at hx
    refine header_replies hx (by decide) ha (fun h o harr => ?_)
    rw [Dev.headerWrite_cause (fun i hi hb => (Dev.causeHolds_withHost _ h o b i).trans (hholds i hi hb))]
    obtain ⟨honly, hseq⟩ := Dev.attnSet_congr ((s.dev.asked b).hciOnly_withHost h o) (Dev.asked_arrived harr).seq p
      (((s.dev.asked b).page p).cause &&& ~~~v) ((s.dev.asked b).page p).mask
    exact ⟨honly, hseq, trivial⟩
  case mask =>
    intro s rq p v b hp ha
    have hx : exec (.attnMaskWrite rq p v) s = s.run (fun d => d.write rq (4096 * (p % 4096) + 0x014) v) := rfl
    rw [Nat.mod_eq_of_lt hp] at hx
    exact header_performs hx (by decide) ha (fun d => rfl)
  case cls =>
    intro s rq p v b hp ha
    have hx : exec (.attnClassWrite rq p v) s = s.run (fun d => d.write rq (4096 * (p % 4096) + 0x018) v) := rfl
    rw [Nat.mod_eq_of_lt hp] at hx
    exact header_performs hx (by decide) ha (fun d => rfl)
  case force =>
    intro s rq p v b hp ha
    have hx : exec (.attnForceWrite rq p v) s = s.run (fun d => d.write rq (4096 * (p % 4096) + 0x01C) v) := rfl
    rw [Nat.mod_eq_of_lt hp] at hx
    exact header_performs hx (by decide) ha (fun d => rfl)
  case counter =>
    intro s rq a v b c ha ho hr hc
    exact accepts_performs rfl ha (fun d => Dev.writeEffect_ctr (Dev.accepts_page ha) ho hr hc)
  case plain =>
    intro s rq a v b r ha ho hr hl hp
    have hb := Dev.accepts_page ha
    exact accepts_performs rfl ha (fun d => (Dev.writeEffect_reg hb ho hr (linkReg_plain hb hp hl)).trans (Dev.plain_post _ hp _ _ _))
  case register =>
    intro s rq a v b r ha ho hr hl
    exact accepts_performs rfl ha (fun d => Dev.writeEffect_reg (Dev.accepts_page ha) ho hr hl)
  case round =>
    intro s rq v ha
    refine write_performs rfl ha (by decide) (by decide) (fun d => ?_)
    rw [Dev.withLinks_stored (by decide)]
    exact ite_congr (propext (and_iff_right rfl)) (fun _ => rfl) (fun _ => rfl)

end Sys2Proof.Machine
end

section
/-! SUPPORT. The operations of a request other than COMMAND, on the device that has taken it (spec/02 R25 to R27, R37, R38, R42). -/

namespace Sys2Proof.Machine

/-! What every operation looks at first -/

section
variable {d e : Dev} {rq : Rq} {m : Msg} {nOut : Nat}

theorem formed_codes (ht : d.takes rq m.op m.payload.length nOut = true) (hm : m.formed rq = true)
    (hop : [OP.HELLO, OP.READ, OP.WRITE, OP.MODIFY, OP.WATCH, OP.ATTN_SCAN, OP.COMMAND, OP.CLOSE, OP.NOP].contains m.op = true)
    (hv : e.version rq.src = d.version rq.src) (hr : e.romServes = d.romServes) : ∀ c ∈ e.formCodes rq.src m, c.1 = false := by
  obtain ⟨-, hflags, -, hlen, haddr⟩ := Msg.formed_iff.1 hm
  exact Dev.formCodes_takes ht hflags hv hr hlen haddr hop

theorem formed_rq (hm : m.formed rq = true) : m.rq rq.src = rq := (Msg.formed_iff.1 hm).1

theorem formed_len (hm : m.formed rq = true) (hpay : m.payload = []) : m.len = 0 := by
  obtain ⟨-, -, -, hlen, -⟩ := Msg.formed_iff.1 hm
  rw [hlen, hpay]
  rfl

theorem formed_len_one {v : Word} (hm : m.formed rq = true) (hpay : m.payload = [v]) : m.len = 4 := by
  obtain ⟨-, -, -, hlen, -⟩ := Msg.formed_iff.1 hm
  rw [hlen, hpay]
  rfl

end

/-- The version of a session stands in the host control interface alone. -/
theorem Dev.version_found {d : Dev} {h : Hci} {o : List Out} (harr : d.Arrived (d.withHost h o)) (src : Src) :
    ((d.event 0).withHost h o).version src = d.version src := by
  rw [← harr.version src]
  cases src <;> rfl

/-- A request that the MP does not see runs on the device as it was taken. -/
theorem seen_false {m : Msg} {op : Nat} (hop : m.op = op) (h : op = OP.HELLO ∨ op = OP.NOP ∨ op = OP.ATTN_SCAN) : mpSees m = false := by
  rcases h with h | h | h <;> simp [mpSees, hop, h, OP.HELLO, OP.NOP, OP.ATTN_SCAN, OP.WRITE, OP.MODIFY, OP.COMMAND, OP.READ]

/-! READ -/

theorem Dev.readBad_none {d : Dev} {p n o i : Nat} (h : ∀ k < n, refuse (d.readCodes p (o + 4 * k)) = RC.OK) : d.readBad p n o i = none := by
  induction n generalizing o i with
  | zero => rfl
  | succ n ih =>
    have hfirst := h 0 n.succ_pos
    rw [Dev.readBad]
    simp only [Nat.mul_zero, Nat.add_zero] at hfirst
    rw [if_pos hfirst]
    refine ih fun k hk => ?_
    have hshift : o + 4 + 4 * k = o + 4 * (k + 1) := by omega
    rw [hshift]
    exact h (k + 1) (by omega)

theorem Dev.readWords_eq {d : Dev} {p n o : Nat} (h : ∀ k < n, 4096 * p + (o + 4 * k) ≠ A.PHY.RADAR_FIFO1 .b) :
    d.readWords p n o = (d, (List.range n).map (fun k => d.readValue p (o + 4 * k))) := by
  induction n generalizing o with
  | zero => rfl
  | succ n ih =>
    have hkeep : d.readEffect p o = d := if_neg (h 0 n.succ_pos)
    have hshift : ∀ k, o + 4 + 4 * k = o + 4 * (k + 1) := fun k => by omega
    rw [Dev.readWords, hkeep, ih (fun k hk => by rw [hshift]; exact h (k + 1) (by omega)), List.range_succ_eq_map]
    simp only [List.map_cons, List.map_map, hshift]
    rfl

/-- A READ that nothing refuses. -/
theorem Dev.readOp_ok {d e : Dev} {src : Src} {m : Msg} {cs : List (Bool × Nat)} {n p o : Nat} {b : Blk} (hcs : ∀ c ∈ cs, c.1 = false)
    (hlen : m.len = 0) (hn : m.arg.toNat = n) (h1 : 1 ≤ n) (hmax : n ≤ (if d.version src = some 1 then 64 else 256))
    (hp : bitsOf m.addr 23 12 = p) (ho : bitsOf m.addr 11 0 = o) (hal : o % 4 = 0) (hend : o + 4 * n ≤ 0x1000)
    (hb : blkOfPage p = some b) (hroom : n ≤ replyRoom src (decide (m.flags % 2 = 1)))
    (hcodes : ∀ k < n, refuse (d.readCodes p (o + 4 * k)) = RC.OK) (hpop : ∀ k < n, 4096 * p + (o + 4 * k) ≠ A.PHY.RADAR_FIFO1 .b)
    (he : e = if o + 4 * n ≤ 0x040 then d else d.wakeBlk b) :
    d.readOp src m cs = (e, Ans.ok ((List.range n).map (fun k => e.readValue p (o + 4 * k)))) := by
  subst he
  have hn256 : n ≤ 256 := by split at hmax <;> omega
  have hform : refuse (cs ++ d.rangeCodes src m ++ [(decide (m.len ≠ 0), RC.BAD_LENGTH),
      (decide (replyRoom src (decide (m.flags % 2 = 1)) < n), RC.BAD_LENGTH)]) = RC.OK := by
    refine refuse_nil (all_append (all_append hcs ?_) ?_)
    · have hout : ¬ (n < 1 ∨ (if d.version src = some 1 then 64 else 256) < n) := by omega
      simp only [Dev.rangeCodes, hp, ho, hn, hb, outside, List.forall_mem_cons, hout, decide_false, Option.isNone_some,
        decide_eq_false_iff_not, true_and]
      exact ⟨by omega, by omega, by simp⟩
    · simp [hlen, hroom]
  unfold Dev.readOp
  simp only [hp, ho, hn]
  rw [if_pos hform, if_pos hn256, Dev.readBad_none hcodes]
  simp only [hb, Dev.readWords_eq hpop]

/-! WRITE -/

/-- A WRITE of one word is the message `Dev.write` sends. -/
theorem exec_write_formed {s : State} {rq : Rq} {m : Msg} {v : Word} (hm : m.formed rq = true) (hpay : m.payload = [v]) (harg : m.arg = 1) :
    exec (.write rq.src m) s = s.run (fun d => d.write rq (bitsOf m.addr 23 0) v) := by
  obtain ⟨hrq, hflags, htag, hlen, haddr⟩ := Msg.formed_iff.1 hm
  have hreq : m.reqAt = rq.reqAt := congrArg Rq.reqAt hrq
  have hrsp : m.rspAt = rq.rspAt := congrArg Rq.rspAt hrq
  have hwhole : wd (bitsOf m.addr 23 0) = m.addr := by
    have hlt := m.addr.isLt
    simp only [bitsOf, Nat.shiftRight_eq_div_pow] at haddr ⊢
    exact BitVec.eq_of_toNat_eq (by rw [wd_toNat]; omega)
  have hmsg : ({ m with op := OP.WRITE } : Msg) = {
      op := OP.WRITE, flags := rq.flags, len := 4, tag := rq.tag, addr := wd (bitsOf m.addr 23 0), arg := 1, payload := [v],
      reqAt := rq.reqAt, rspAt := rq.rspAt } := by
    rw [hwhole, ← hflags, ← htag, ← hreq, ← hrsp, ← harg, ← hpay, ← formed_len_one hm hpay]
  change s.run (fun d => d.post rq.src { m with op := OP.WRITE }) = _
  rw [hmsg]
  rfl

theorem bitsOf_offset (w : Word) : bitsOf w 23 0 % 4096 = bitsOf w 11 0 ∧ bitsOf w 23 0 / 4096 = bitsOf w 23 12 := by
  simp only [bitsOf, Nat.shiftRight_eq_div_pow]
  omega

/-! MODIFY -/

/-- A MODIFY that nothing refuses. -/
theorem Dev.modifyOp_ok {d : Dev} {src : Src} {m : Msg} {cs : List (Bool × Nat)} {p o : Nat} {b : Blk} {w new : Word} {r : RegDef}
    (hcs : ∀ c ∈ cs, c.1 = false) (hlen : m.len = 4) (hpay : m.payload = [w]) (hp : bitsOf m.addr 23 12 = p) (ho : bitsOf m.addr 11 0 = o)
    (hal : o % 4 = 0) (hlo : 0x040 ≤ o) (hb : blkOfPage p = some b) (hr : regAt b o = some r) (hmod : modifiable b o = true)
    (hl : linkReg (4096 * p + o) = false) (hnew : new = (d.readValue p o &&& ~~~m.arg) ||| (w &&& m.arg))
    (hread : refuse (d.readCodes p o) = RC.OK) (hwrite : refuse (d.writeCodes src p o new) = RC.OK) {e : Dev}
    (he : e = ((d.wakeBlk b).wr (4096 * p + o) (r.next ((d.wakeBlk b).rd (4096 * p + o)) new)).blockPost b o
      ((d.wakeBlk b).rd (4096 * p + o)) (r.next ((d.wakeBlk b).rd (4096 * p + o)) new) new) :
    d.modifyOp src m cs = (e, Ans.ok [e.readValue p o]) := by
  have ho4 : o < 4096 := by
    rw [← ho, bitsOf]
    exact Nat.mod_lt _ (by decide)
  have hpage : (4096 * p + o) / 4096 = p := by omega
  have hoff : (4096 * p + o) % 4096 = o := by omega
  have hform : ∀ c ∈ cs ++ [(decide (m.len ≠ 4), RC.BAD_LENGTH), (decide (o % 4 ≠ 0), RC.BAD_ADDRESS), (!modifiable b o, RC.NOT_PERMITTED)],
      c.1 = false := all_append hcs (by simp [hlen, hal, hmod])
  have hpost : (d.wakeBlk b).writeEffect p o new = e := by
    have h := Dev.writeEffect_reg (d := d.wakeBlk b) (a := 4096 * p + o) (v := new) (b := b) (r := r) (by rwa [hpage]) (by rwa [hoff])
      (by rwa [hoff]) hl
    rw [hpage, hoff] at h
    rw [h, he]
  have hreg : d.regWrite src (4096 * p + o) new = (e, Ans.ok []) := by
    simp only [Dev.regWrite, hpage, hoff, hb, hwrite, if_true, hpost]
  have hword : word m.payload 0 = w := by rw [hpay]; rfl
  unfold Dev.modifyOp
  simp only [hp, ho, hb, hword, ← hnew]
  rw [if_pos, hreg]
  · rfl
  · refine refuse_append (refuse_nil hform) ?_
    rw [if_pos hal]
    exact refuse_append hread hwrite

/-! WATCH -/

theorem Dev.answerWatch_none {d : Dev} {src : Src} {det : Nat} (h : d.watchOf src = none) : d.answerWatch src det = d := by
  rw [Dev.answerWatch, h]

/-- A WATCH of the present ATTN_SEQ on a session without one is kept open. -/
theorem Dev.watchOp_open {d : Dev} {rq : Rq} {m : Msg} {cs : List (Bool × Nat)} (hcs : ∀ c ∈ cs, c.1 = false) (hlen : m.len = 4)
    (hpay : m.payload = [d.hci.attnSeq]) (harg : m.arg ≠ 0) (hmax : m.arg.toNat ≤ 60000) (hnone : d.watchOf rq.src = none) :
    d.watchOp rq m cs = (d.setWatch rq.src (some { tag := rq.tag, seen := d.hci.attnSeq, due := d.tb + msT m.arg.toNat }),
      { code := RC.OK, detail := 0, words := [], later := true }) := by
  have hform : refuse (cs ++ [(decide (m.len ≠ 4), RC.BAD_LENGTH), (decide (60000 < m.arg.toNat), RC.BAD_VALUE)]) = RC.OK :=
    refuse_nil (all_append hcs (by simp [hlen, hmax]))
  have hword : word m.payload 0 = d.hci.attnSeq := by rw [hpay]; rfl
  unfold Dev.watchOp
  simp only [hform, hword, Dev.answerWatch_none hnone, Dev.setWatch_attnSeq, harg]
  simp

/-! ATTN_SCAN -/

theorem Dev.scanOp_all {d : Dev} {src : Src} {m : Msg} {cs : List (Bool × Nat)} {n : Nat} {ps : List (Nat × Page)}
    (hcs : ∀ c ∈ cs, c.1 = false) (hlen : m.len = 0)
    (hps : ps = d.pages.filter (fun e => decide (bitsOf m.arg 11 0 ≤ e.1) && decide (e.2.pend ≠ 0))) (hn : 2 * ps.length ≤ n)
    (hmax : n ≤ 256) (hroom : n ≤ replyRoom src (decide (m.flags % 2 = 1))) :
    d.scanOp src m cs = (d, Ans.ok (ps.map (fun e => [wd (e.2.top * 2 ^ 12 + e.1), e.2.pend])).flatten) := by
  have hform : refuse (cs ++ [(decide (m.len ≠ 0), RC.BAD_LENGTH)]) = RC.OK := refuse_nil (all_append hcs (by simp [hlen]))
  have hfits : ps.length ≤ min 128 (replyRoom src (decide (m.flags % 2 = 1)) / 2) := by omega
  unfold Dev.scanOp
  simp only [hform, ← hps, List.take_of_length_le hfits, Nat.not_lt.2 hfits]
  rfl

/-! HELLO and CLOSE -/

theorem Dev.openSession_hciOnly (d : Dev) (src : Src) (v : Nat) : d.hciOnly (d.openSession src v) ∧
    (d.openSession src v).hci.attnSeq = d.hci.attnSeq := by
  cases src <;> exact ⟨rfl, rfl⟩

theorem Dev.version_openSession (d : Dev) {src : Src} (v : Nat) (hacp : src.isAcp = false) (hmp : src ≠ .mp) :
    (d.openSession src v).version src = some v := by
  cases src with
  | pcie n => simp [Dev.openSession, Dev.version]
  | spi => rfl
  | acp id => cases hacp
  | mp => exact absurd rfl hmp

theorem Dev.hello_opens {d : Dev} {src : Src} {m : Msg} {cs : List (Bool × Nat)} {v : Nat} (hcs : ∀ c ∈ cs, c.1 = false) (hlen : m.len = 0)
    (hnone : d.version src = none) (hacp : src.isAcp = false) (hv : agree 2 3 (bitsOf m.arg 7 0) (bitsOf m.arg 15 8) = some v) :
    d.hello src m cs = (d.openSession src v, Ans.ok [wd (v + 2 ^ 16 * src.id)]) := by
  have hver : d.helloVersion src m = some v := by
    rw [Dev.helloVersion, Dev.offers, if_neg (by simp [hacp])]
    exact hv
  have hform : refuse (cs ++ [(decide (m.len ≠ 0), RC.BAD_LENGTH), ((d.version src).isSome, RC.NOT_IN_STATE),
      ((d.helloVersion src m).isNone && (d.version src).isNone, RC.VERSION)]) = RC.OK :=
    refuse_nil (all_append hcs (by simp [hlen, hnone, hver]))
  rw [Dev.hello, if_pos hform, hver]
  rfl

theorem Dev.endSession_ended (d : Dev) {src : Src} (h : src ≠ .mp) :
    (d.endSession src).version src = none ∧ (d.endSession src).watchOf src = none ∧ d.hciOnly (d.endSession src) := by
  cases src with
  | pcie n => simp [Dev.endSession, Dev.version, Dev.watchOf]; rfl
  | spi => exact ⟨rfl, rfl, rfl⟩
  | mp => exact absurd rfl h
  | acp id =>
    have hgone : tabFind (tabDel d.hci.acp id) id = none := tabFind_del_same _ _
    rw [Dev.endSession_acp]
    exact ⟨by simp [Dev.version, Dev.onHci, hgone], by simp [Dev.watchOf, Dev.onHci, hgone], rfl⟩

end Sys2Proof.Machine
end

section
/-! SUPPORT. The requests of spec/02 R25, from the session that sends them to the answer. -/

namespace Sys2Proof.Machine

theorem Dev.headerRead_withHost (d : Dev) (h : Hci) (o : List Out) (b : Blk) (p off : Nat) :
    (d.withHost h o).headerRead b p off = d.headerRead b p off := rfl

/-- The FIFO that a read pops is no page header. -/
theorem radarFifo_offset {p o : Nat} (ho : o < 0x040) : 4096 * p + o ≠ A.PHY.RADAR_FIFO1 .b := by
  have hfifo : 0x040 ≤ A.PHY.RADAR_FIFO1 .b % 4096 := by decide
  omega

/-- The most words a READ of a session asks for. -/
theorem takes_read_max {d : Dev} {rq : Rq} {n : Nat} (ht : d.takes rq OP.READ 0 n = true) (h1 : d.version rq.src = some 1 → n ≤ 64)
    {v : Option Nat} (hv : v = d.version rq.src) : n ≤ (if v = some 1 then 64 else 256) := by
  subst hv
  split
  next h => exact h1 h
  next => exact (Dev.takes_len ht).2

section
variable {s : State} {rq : Rq} {m : Msg} {h : Hci} {o' : List Out}

/-- A request that the MP does not see, on the device as it was taken. -/
theorem formed_codes_unseen {e : Dev} {nOut : Nat} (harr : s.dev.Arrived e) (ht : s.dev.takes rq m.op m.payload.length nOut = true)
    (hm : m.formed rq = true)
    (hop : [OP.HELLO, OP.READ, OP.WRITE, OP.MODIFY, OP.WATCH, OP.ATTN_SCAN, OP.COMMAND, OP.CLOSE, OP.NOP].contains m.op = true) :
    ∀ c ∈ e.formCodes rq.src m, c.1 = false := by
  refine formed_codes ht hm hop (harr.version rq.src) ?_
  rw [Dev.romServes, Dev.hciOnly_mgt harr.only, Dev.romServes]

/-- A request that the MP sees, on the device as it finds it. -/
theorem formed_codes_found {nOut : Nat} (harr : s.dev.Arrived (s.dev.withHost h o')) (ht : s.dev.takes rq m.op m.payload.length nOut = true)
    (hm : m.formed rq = true)
    (hop : [OP.HELLO, OP.READ, OP.WRITE, OP.MODIFY, OP.WATCH, OP.ATTN_SCAN, OP.COMMAND, OP.CLOSE, OP.NOP].contains m.op = true) :
    ∀ c ∈ ((s.dev.event 0).withHost h o').formCodes rq.src m, c.1 = false :=
  formed_codes ht hm hop (Dev.version_found harr rq.src) (Dev.romServes_host _ _ _)

end

/-! READ -/

section
variable {s : State} {rq : Rq} {m : Msg} {n p o : Nat} {b : Blk}

theorem read_header (ht : s.dev.takes rq OP.READ 0 n = true) (hm : m.formed rq = true) (hpay : m.payload = []) (hn : m.arg.toNat = n)
    (h1 : 1 ≤ n) (hp : p = bitsOf m.addr 23 12) (ho : o = bitsOf m.addr 11 0) (hal : o % 4 = 0) (hend : o + 4 * n ≤ 0x040)
    (hb : blkOfPage p = some b) :
    Answers (.read rq.src m) s rq OP.READ ((List.range n).map (fun k => s.dev.headerRead b p (o + 4 * k))) s.dev := by
  have hsees : mpSees { m with op := OP.READ } = false := by
    simp [mpSees, OP.READ, OP.WRITE, OP.MODIFY, OP.COMMAND, ← ho, hn, hend]
  have ht' : s.dev.takes rq OP.READ m.payload.length n = true := by rw [hpay]; exact ht
  refine request_answers (m := { m with op := OP.READ }) rfl (Dev.takes_hears ht') (formed_rq hm) (by decide : OP.READ ≠ OP.CLOSE) ?_
  intro h o' harr
  refine ⟨s.dev.withHost h o', ?_, rfl, harr.seq, trivial⟩
  rw [if_neg (by simp [hsees]), Dev.runMsg_read rfl]
  have hlt : ∀ k < n, o + 4 * k < 0x040 := fun k hk => by omega
  rw [Dev.readOp_ok (m := { m with op := OP.READ }) (n := n) (p := p) (o := o) (b := b)
    (formed_codes_unseen (m := { m with op := OP.READ }) harr ht' hm rfl) (formed_len hm hpay) hn h1
    (takes_read_max ht (fun _ => by omega) (harr.version rq.src)) hp.symm ho.symm hal (by omega) hb
    (by rw [(Msg.formed_iff.1 hm).2.1]; exact Dev.takes_room ht) (fun k hk => by rw [Dev.readCodes_header _ hb (hlt k hk)]; rfl)
    (fun k hk => radarFifo_offset (hlt k hk)) (if_pos hend).symm]
  refine congrArg (fun ws => (s.dev.withHost h o', Ans.ok ws)) (List.map_congr_left fun k hk => ?_)
  rw [Dev.readValue_header _ hb (hlt k (List.mem_range.1 hk)), Dev.headerRead_withHost]

theorem read_registers (ht : s.dev.takes rq OP.READ 0 n = true) (hm : m.formed rq = true) (hpay : m.payload = []) (hn : m.arg.toNat = n)
    (h1 : 1 ≤ n) (h64 : s.dev.version rq.src = some 1 → n ≤ 64) (hp : p = bitsOf m.addr 23 12) (ho : o = bitsOf m.addr 11 0)
    (hal : o % 4 = 0) (hlo : 0x040 < o + 4 * n) (hend : o + 4 * n ≤ 0x1000) (hb : blkOfPage p = some b)
    (hcodes : ∀ k < n, refuse ((s.dev.event 0).readCodes p (o + 4 * k)) = RC.OK)
    (hpop : ∀ k < n, 4096 * p + (o + 4 * k) ≠ A.PHY.RADAR_FIFO1 .b) :
    Answers (.read rq.src m) s rq OP.READ ((List.range n).map (fun k => (s.dev.asked b).readValue p (o + 4 * k))) (s.dev.asked b) := by
  have hsees : mpSees { m with op := OP.READ } = true := by
    simp [mpSees, ← ho, hn, hlo]
  have ht' : s.dev.takes rq OP.READ m.payload.length n = true := by rw [hpay]; exact ht
  refine request_answers (m := { m with op := OP.READ }) rfl (Dev.takes_hears ht') (formed_rq hm) (by decide : OP.READ ≠ OP.CLOSE) ?_
  intro h o' harr
  have hask := Dev.asked_arrived (b := b) harr
  refine ⟨(s.dev.asked b).withHost h o', ?_, rfl, hask.seq, trivial⟩
  have hfound : (s.dev.asked b).withHost h o' =
      if o + 4 * n ≤ 0x040 then (s.dev.event 0).withHost h o' else ((s.dev.event 0).withHost h o').wakeBlk b := by
    rw [if_neg (by omega), Dev.wakeBlk_withHost]
    rfl
  rw [if_pos hsees, Dev.runMsg_read rfl]
  rw [Dev.readOp_ok (m := { m with op := OP.READ }) (n := n) (p := p) (o := o) (b := b)
    (formed_codes_found (m := { m with op := OP.READ }) harr ht' hm rfl) (formed_len hm hpay) hn h1
    (takes_read_max ht h64 (Dev.version_found harr rq.src)) hp.symm ho.symm hal hend hb
    (by rw [(Msg.formed_iff.1 hm).2.1]; exact Dev.takes_room ht) (fun k hk => by rw [Dev.readCodes_withHost]; exact hcodes k hk) hpop hfound]
  refine congrArg (fun ws => ((s.dev.asked b).withHost h o', Ans.ok ws)) (List.map_congr_left fun k hk => ?_)
  exact Dev.readValue_withHost _ h o' p _ hask.seq hask.marks

end

/-! MODIFY -/

section
variable {s : State} {rq : Rq} {m : Msg} {w new : Word} {p o : Nat} {b : Blk} {r : RegDef}
  (ht : s.dev.takes rq OP.MODIFY 1 1 = true) (hm : m.formed rq = true) (hpay : m.payload = [w]) (hp : p = bitsOf m.addr 23 12)
  (ho : o = bitsOf m.addr 11 0) (hal : o % 4 = 0) (hlo : 0x040 ≤ o) (hb : blkOfPage p = some b) (hr : regAt b o = some r)
  (hmod : modifiable b o = true) (hl : linkReg (4096 * p + o) = false)
  (hnew : new = ((s.dev.event 0).readValue p o &&& ~~~m.arg) ||| (w &&& m.arg))
  (hread : refuse ((s.dev.event 0).readCodes p o) = RC.OK) (hwrite : refuse ((s.dev.event 0).writeCodes rq.src p o new) = RC.OK)
include ht hm hpay hp ho hal hlo hb hr hmod hl hnew hread hwrite

/-- What a MODIFY makes of each device that can take it. -/
theorem modify_runs {h : Hci} {o' : List Out} (harr : s.dev.Arrived (s.dev.withHost h o')) {e f : Dev}
    (hf : f = (s.dev.asked b).withHost h o')
    (he : e = (f.wr (4096 * p + o) (r.next (f.rd (4096 * p + o)) new)).blockPost b o (f.rd (4096 * p + o))
      (r.next (f.rd (4096 * p + o)) new) new) :
    ((s.dev.event 0).withHost h o').runMsg rq { m with op := OP.MODIFY } = (e, Ans.ok [e.readValue p o]) := by
  have ht' : s.dev.takes rq OP.MODIFY m.payload.length 1 = true := by rw [hpay]; exact ht
  have hwake : ((s.dev.event 0).withHost h o').wakeBlk b = f := by
    rw [hf, Dev.wakeBlk_withHost]
    rfl
  have hseq : h.attnSeq = (s.dev.event 0).hci.attnSeq := by rw [Dev.event_hci]; exact harr.seq
  have hmarks : h.hwm = (s.dev.event 0).hci.hwm := by rw [Dev.event_hci]; exact harr.marks
  rw [Dev.runMsg_modify rfl]
  refine Dev.modifyOp_ok (m := { m with op := OP.MODIFY }) (new := new) (formed_codes_found (m := { m with op := OP.MODIFY }) harr ht' hm rfl)
    (formed_len_one hm hpay) hpay hp.symm ho.symm hal hlo hb hr hmod hl ?_ ?_ ?_ ?_
  · rw [Dev.readValue_withHost _ h o' p o hseq hmarks]
    exact hnew
  · rw [Dev.readCodes_withHost]
    exact hread
  · rw [Dev.writeCodes_withHost]
    exact hwrite
  · rw [hwake]
    exact he

theorem modify_performs {F : Dev → Dev}
    (hF : F = (fun d => (d.wr (4096 * p + o) (r.next (d.rd (4096 * p + o)) new)).blockPost b o (d.rd (4096 * p + o))
      (r.next (d.rd (4096 * p + o)) new) new)) :
    Performs (.modify rq.src m) s rq OP.MODIFY [(F (s.dev.finds rq b)).readValue p o] b F := by
  have ht' : s.dev.takes rq OP.MODIFY m.payload.length 1 = true := by rw [hpay]; exact ht
  refine request_performs (m := { m with op := OP.MODIFY }) rfl (Dev.takes_hears ht') (formed_rq hm) (by decide : OP.MODIFY ≠ OP.CLOSE)
    (by simp [mpSees]) (fun h o' harr hfind => ?_)
  rw [hfind]
  exact modify_runs ht hm hpay hp ho hal hlo hb hr hmod hl hnew hread hwrite harr rfl (by rw [hF])

theorem modify_plain_answers (hplain : plainReg b o = true) :
    Answers (.modify rq.src m) s rq OP.MODIFY
      [((s.dev.asked b).wr (4096 * p + o) (r.next ((s.dev.asked b).rd (4096 * p + o)) new)).readValue p o]
      ((s.dev.asked b).wr (4096 * p + o) (r.next ((s.dev.asked b).rd (4096 * p + o)) new)) := by
  have ht' : s.dev.takes rq OP.MODIFY m.payload.length 1 = true := by rw [hpay]; exact ht
  refine request_answers (m := { m with op := OP.MODIFY }) rfl (Dev.takes_hears ht') (formed_rq hm) (by decide : OP.MODIFY ≠ OP.CLOSE)
    (fun h o' harr => ?_)
  have hask := Dev.asked_arrived (b := b) harr
  have hruns := modify_runs ht hm hpay hp ho hal hlo hb hr hmod hl hnew hread hwrite harr rfl rfl
  rw [Dev.plain_post _ hplain] at hruns
  refine ⟨((s.dev.asked b).wr (4096 * p + o) (r.next ((s.dev.asked b).rd (4096 * p + o)) new)).withHost h o', ?_, rfl, hask.seq, trivial⟩
  rw [if_pos (by simp [mpSees]), hruns]
  exact congrArg (fun x => (((s.dev.asked b).wr (4096 * p + o) (r.next ((s.dev.asked b).rd (4096 * p + o)) new)).withHost h o', Ans.ok [x]))
    (Dev.readValue_withHost ((s.dev.asked b).wr (4096 * p + o) (r.next ((s.dev.asked b).rd (4096 * p + o)) new)) h o' p o hask.seq hask.marks)

end

/-! WATCH -/

/-- A device that has taken a request keeps its time. -/
theorem Dev.Arrived.tb_eq {d e : Dev} (h : d.Arrived e) : e.tb = d.tb := by
  rw [Dev.tb, Dev.hciOnly_tmu h.only, Dev.tb]

theorem watch_opens {s : State} {rq : Rq} {m : Msg} {d : Dev} (ht : s.dev.takes rq OP.WATCH 1 0 = true) (hm : m.formed rq = true)
    (hpay : m.payload = [s.dev.hci.attnSeq]) (harg : m.arg ≠ 0) (hmax : m.arg.toNat ≤ 60000) (hnone : s.dev.watchOf rq.src = none)
    (hd : d = s.dev.reached rq.src) :
    Becomes (.watch rq.src m) s ((d.setWatch rq.src
      (some { tag := rq.tag, seen := s.dev.hci.attnSeq, due := s.dev.tb + msT m.arg.toNat })).passOver rq.src) := by
  have ht' : s.dev.takes rq OP.WATCH m.payload.length 0 = true := by rw [hpay]; exact ht
  have harr : s.dev.Arrived d := hd ▸ s.dev.reached_arrived rq.src
  have hrun := Dev.watchOp_open (d := d) (rq := rq) (m := { m with op := OP.WATCH })
    (formed_codes_unseen (m := { m with op := OP.WATCH }) harr ht' hm rfl)
    (formed_len_one hm hpay) (by rw [harr.seq]; exact hpay) harg hmax ((harr.watch rq.src).trans hnone)
  rw [← Dev.runMsg_watch rfl, harr.seq, harr.tb_eq] at hrun
  refine becomes_eff (f := fun d => d.ask rq.src OP.WATCH m) rfl ?_
  rw [Dev.ask, Dev.post_request (m := { m with op := OP.WATCH }) (Dev.takes_hears ht') (Msg.formed_iff.1 hm).2.1, ← hd]
  exact Dev.request_watch rfl (formed_rq hm) hrun rfl

theorem effWatchTimeout_due {d : Dev} {src : Src} {w : Watch} (hw : d.watchOf src = some w) (hseen : w.seen = d.hci.attnSeq) :
    effWatchTimeout src d = ((d.at_ w.due).setWatch src none).deliver src none ((d.at_ w.due).reply OP.WATCH w.tag RC.OK 1 []) := by
  have hw' : (d.at_ w.due).watchOf src = some w := by
    rw [← hw]
    cases src <;> rfl
  simp only [effWatchTimeout, hw, Dev.at__hci, hseen, ne_eq, not_true_eq_false, if_false, Dev.answerWatch, hw']
  rfl

/-- Settles O1: each operation on the device that has taken the request, carried to the answer by `request_answers` and
`request_performs`. -/
theorem hostRequestsComplete : Obligations.HostRequestsComplete := by
  unfold Obligations.HostRequestsComplete
  refine ⟨?hello, ?nop, ?header, ?registers, ?plainWrite, ?write, ?plainModify, ?modify, ?watch, ?setWatch, ?timeout, ?scan, ?close, ?ended⟩
  case hello =>
    intro s rq m v hhears hnone hm hpay hv
    obtain ⟨hacp, hmp⟩ := Dev.version_none hhears hnone
    have hhears' : s.dev.hears rq m.payload.length 1 = true := by rw [hpay]; exact hhears
    refine request_answers (m := { m with op := OP.HELLO }) rfl hhears' (formed_rq hm) (by decide : OP.HELLO ≠ OP.CLOSE) ?_
    intro h o harr
    obtain ⟨honly, hseq⟩ := (s.dev.withHost h o).openSession_hciOnly rq.src v
    have hcodes := Dev.formCodes_hello (m := { m with op := OP.HELLO }) hhears hnone hm (by rw [hpay]; exact Nat.le_refl _) (by decide) (Or.inl rfl)
    rw [← Dev.formCodes_congr (e := s.dev.withHost h o) (harr.version rq.src) rfl] at hcodes
    refine ⟨(s.dev.withHost h o).openSession rq.src v, ?_, honly, hseq.trans harr.seq, Dev.version_openSession _ v hacp hmp⟩
    rw [if_neg (by simp [seen_false (m := { m with op := OP.HELLO }) rfl (Or.inl rfl)]), Dev.runMsg_hello rfl]
    exact Dev.hello_opens hcodes (formed_len hm hpay) ((harr.version rq.src).trans hnone) hacp hv
  case nop =>
    intro s rq m hhears hm hpay
    have hhears' : s.dev.hears rq m.payload.length 0 = true := by rw [hpay]; exact hhears
    refine request_answers (m := { m with op := OP.NOP }) rfl hhears' (formed_rq hm) (by decide : OP.NOP ≠ OP.CLOSE) ?_
    intro h o harr
    have hcodes : ∀ c ∈ s.dev.formCodes rq.src { m with op := OP.NOP }, c.1 = false := by
      cases hv : s.dev.version rq.src with
      | none => exact Dev.formCodes_hello hhears hv hm (by rw [hpay]; exact Nat.le_refl _) (by decide) (Or.inr rfl)
      | some v =>
        have ht : s.dev.takes rq OP.NOP m.payload.length 0 = true := by
          simp [Dev.takes, hhears', hv, speaks]
        exact formed_codes ht hm rfl rfl rfl
    rw [← Dev.formCodes_congr (e := s.dev.withHost h o) (harr.version rq.src) rfl] at hcodes
    refine ⟨s.dev.withHost h o, ?_, rfl, harr.seq, trivial⟩
    rw [if_neg (by simp [seen_false (m := { m with op := OP.NOP }) rfl (Or.inr (Or.inl rfl))])]
    exact Dev.runMsg_plain (Or.inr rfl) hcodes (formed_len hm hpay)
  case header =>
    intro s rq m n p o b ht hm hpay hn h1 hp ho hal hend hb
    exact read_header ht hm hpay hn h1 hp ho hal hend hb
  case registers =>
    intro s rq m n p o b ht hm hpay hn h1 h64 hp ho hal hlo hend hb hcodes hpop
    exact read_registers ht hm hpay hn h1 h64 hp ho hal hlo hend hb hcodes hpop
  case plainWrite =>
    intro s rq m v b r hm hpay harg ha hlo hr hplain hlink
    obtain ⟨hoff, -⟩ := bitsOf_offset m.addr
    exact plain_answers (exec_write_formed hm hpay harg) ha (by rwa [hoff]) (by rwa [hoff]) hlink (by rwa [hoff])
  case write =>
    intro s rq m v b r hm hpay harg ha hlo hr hlink
    obtain ⟨hoff, -⟩ := bitsOf_offset m.addr
    refine accepts_performs (exec_write_formed hm hpay harg) ha (fun d => ?_)
    rw [Dev.writeEffect_reg (Dev.accepts_page ha) (by rwa [hoff]) (by rwa [hoff]) hlink, hoff]
  case plainModify =>
    intro s rq m w new p o b r ht hm hpay hp ho hal hlo hb hr hmod hplain hlink hnew hread hwrite
    have ho4 : o < 4096 := by
      rw [ho, bitsOf]
      exact Nat.mod_lt _ (by decide)
    have hpage : (4096 * p + o) / 4096 = p := by omega
    have hoff : (4096 * p + o) % 4096 = o := by omega
    have hl : linkReg (4096 * p + o) = false := linkReg_plain (by rwa [hpage]) (by rwa [hoff]) hlink
    exact modify_plain_answers ht hm hpay hp ho hal hlo hb hr hmod hl hnew hread hwrite hplain
  case modify =>
    intro s rq m w new p o b r F ht hm hpay hp ho hal hlo hb hr hmod hl hnew hread hwrite hF
    exact modify_performs ht hm hpay hp ho hal hlo hb hr hmod hl hnew hread hwrite hF
  case watch =>
    intro s rq m d _ ht _ hm hpay harg hmax hnone hd
    exact watch_opens ht hm hpay harg hmax hnone hd
  case setWatch =>
    intro d src w hmp hv
    exact ⟨d.watchOf_setWatch_same (some w) hmp hv, d.setWatch_hciOnly src (some w), d.setWatch_out src (some w)⟩
  case timeout =>
    intro s src w hw hseen
    exact becomes_eff rfl (effWatchTimeout_due hw hseen)
  case scan =>
    intro s rq m n ps ht hm hpay hps hn
    have ht' : s.dev.takes rq OP.ATTN_SCAN m.payload.length n = true := by rw [hpay]; exact ht
    refine request_answers (m := { m with op := OP.ATTN_SCAN }) rfl (Dev.takes_hears ht') (formed_rq hm) (by decide : OP.ATTN_SCAN ≠ OP.CLOSE) ?_
    intro h o harr
    refine ⟨s.dev.withHost h o, ?_, rfl, harr.seq, trivial⟩
    rw [if_neg (by simp [seen_false (m := { m with op := OP.ATTN_SCAN }) rfl (Or.inr (Or.inr rfl))]), Dev.runMsg_scan rfl]
    exact Dev.scanOp_all (n := n) (formed_codes_unseen (m := { m with op := OP.ATTN_SCAN }) harr ht' hm rfl) (formed_len hm hpay) hps hn
      (Dev.takes_len ht).2
      (by rw [(Msg.formed_iff.1 hm).2.1]; exact Dev.takes_room ht)
  case close =>
    intro s rq m e ht hm hpay he
    have ht' : s.dev.takes rq OP.CLOSE m.payload.length 0 = true := by rw [hpay]; exact ht
    have harr : s.dev.Arrived e := he ▸ s.dev.reached_arrived rq.src
    have hrun := Dev.runMsg_plain (d := e) (rq := rq) (m := { m with op := OP.CLOSE }) (Or.inl rfl)
      (formed_codes_unseen (m := { m with op := OP.CLOSE }) harr ht' hm rfl) (formed_len hm hpay)
    refine becomes_eff (f := fun d => d.ask rq.src OP.CLOSE m) rfl ?_
    rw [Dev.ask, Dev.post_request (m := { m with op := OP.CLOSE }) (Dev.takes_hears ht') (Msg.formed_iff.1 hm).2.1, ← he,
      Dev.request_unseen (m := { m with op := OP.CLOSE }) (by simp [mpSees, OP.CLOSE, OP.WRITE, OP.MODIFY, OP.COMMAND, OP.READ])
        (formed_rq hm) hrun rfl]
    exact if_pos ⟨rfl, rfl⟩
  case ended =>
    intro d src hmp
    exact d.endSession_ended hmp

end Sys2Proof.Machine
end

section
/-! SUPPORT. Late rows: parity, brown-out, links, ticks, carrier sense, NAVs and the test port (spec/14, 18, 21). -/

namespace Sys2Proof.Machine

/-- The test port selects an instruction that the life cycle allows (R436, R489). -/
theorem effTestPortInstruction_allowed {d : Dev} {i : PortInstr}
    (h : i = .extest ∨ i = .scan ∨ i = .debug → d.mgt.otp.lc = .raw ∨ d.mgt.otp.lc = .test ∨ d.mgt.otp.lc = .ret)
    (hend : d.mgt.otp.lc ≠ .end_) :
    effTestPortInstruction i d = if i = .idcode then ({ d with port := i } : Dev).emit (.tdo 0x10930A5F) else { d with port := i } := by
  cases i with
  | extest | scan | debug => simp [effTestPortInstruction, h]
  | _ => simp [effTestPortInstruction, hend]

theorem effTestPortInstruction_refused {d : Dev} {i : PortInstr} (hi : i = .extest ∨ i = .scan ∨ i = .debug) (hraw : d.mgt.otp.lc ≠ .raw)
    (htest : d.mgt.otp.lc ≠ .test) (hret : d.mgt.otp.lc ≠ .ret) : effTestPortInstruction i d = { d with port := .bypass } := by
  rcases hi with rfl | rfl | rfl <;> simp [effTestPortInstruction, hraw, htest, hret]

/-- Settles O30: the branch of each row's effect that the conditions select. -/
theorem lateCommandsComplete : Obligations.LateCommandsComplete := by
  unfold Obligations.LateCommandsComplete
  refine ⟨?parity, ?again, ?release, ?linkUp, ?tick, ?temp, ?busy, ?secondary, ?nav, ?idcode, ?select, ?bypass⟩
  case parity =>
    intro s cmd port addr h
    exact becomes_eff rfl (if_pos (h.imp_left decide_eq_true))
  case again =>
    intro s cmd port addr hfrozen hthaw
    refine becomes_eff rfl ((if_neg ?_).trans (if_pos hfrozen))
    simp [Dev.answers, hfrozen, hthaw]
  case release =>
    intro s hheld htripped
    exact becomes_eff rfl (if_pos ⟨hheld, htripped⟩)
  case linkUp =>
    intro s hup
    exact becomes_eff rfl (if_neg (by simp [hup]))
  case tick =>
    rintro s temps volts iin m rfl
    rfl
  case temp =>
    intro s t hdeep
    exact becomes_eff rfl (if_pos hdeep)
  case busy =>
    rintro s r k power busy hon hk rfl
    exact becomes_eff rfl (if_neg (not_or.2 ⟨hon, Nat.not_le.2 hk⟩))
  case secondary =>
    intro s r k power us hon hk hprim hpow
    exact becomes_eff rfl (if_neg (not_or.2 ⟨hon, not_or.2 ⟨Nat.not_le.2 hk, not_or.2 ⟨hprim, Int.not_lt.2 hpow⟩⟩⟩))
  case nav =>
    intro s r t ts h
    refine becomes_eff rfl ?_
    simp only [effNavExpiry, h]
  case idcode =>
    intro s hend
    exact becomes_eff rfl (effTestPortInstruction_allowed (by simp) hend)
  case select =>
    intro s i hi hlc hend
    exact becomes_eff rfl ((effTestPortInstruction_allowed hlc hend).trans (if_neg hi))
  case bypass =>
    intro s i hi hraw htest hret
    exact becomes_eff rfl (effTestPortInstruction_refused hi hraw htest hret)

end Sys2Proof.Machine
end

section
/-! SUPPORT. COMMAND: a command that nothing refuses performs its effect (spec/02 R30, R31). -/

namespace Sys2Proof.Machine

theorem conds_nil : ∀ c ∈ ([] : List (Bool × Nat)), c.1 = false := fun _ h => by cases h

theorem conds_cons {x : Bool} {k : Nat} {cs : List (Bool × Nat)} (hx : x = false) (h : ∀ c ∈ cs, c.1 = false) :
    ∀ c ∈ (x, k) :: cs, c.1 = false :=
  List.forall_mem_cons.2 ⟨hx, h⟩

/-- A block of its own page: the Ethernet ports are ten. -/
theorem blkOfPage_blkPage {b : Blk} (h : ∀ n, b = .eth n → n < 10) : blkOfPage (blkPage b) = some b := by
  cases b with
  | eth n => exact (by decide : ∀ n < 10, blkOfPage (blkPage (.eth n)) = some (.eth n)) n (h n rfl)
  | rfe r | phy r | mac r => cases r <;> rfl
  | _ => rfl

theorem blkPage_lt {b : Blk} (h : ∀ n, b = .eth n → n < 10) : blkPage b < 4096 := by
  cases b with
  | eth n => exact (by decide : ∀ n < 10, blkPage (.eth n) < 4096) n (h n rfl)
  | rfe r | phy r | mac r => cases r <;> decide
  | _ => decide

section
variable {c : Instr} {s : State} {rq : Rq} {code nOut : Nat} {b : Blk} {ws words : List Word} {g : List Word → Dev → Dev × Ans} {f : Dev → Dev}
  (hx : exec c s = s.run (fun d => d.command rq (blkPage b) code ws)) (ht : s.dev.takes rq OP.COMMAND ws.length nOut = true)
  (hs : s.dev.serves b = true) (hblk : ∀ n, b = .eth n → n < 10) (hc : code < 65536)
  (hf : Dev.blockCommand rq (replyRoom rq.src (decide (rq.flags % 2 = 1))) b code = some g)
include hx ht hs hblk hc hf

/-- `command_found` for a command of a block's own page. -/
theorem command_ok
    (hg : ∀ P h o, s.dev.Arrived (s.dev.withHost h o) → let d : Dev := { s.dev.asked b with pages := P, hci := h, out := o }
      g ws d = (f d, Ans.ok words))
    (hn : ∀ d : Dev, d.replyWords b code ws ≤ nOut) :
    Performs c s rq OP.COMMAND words b f :=
  command_found hx ht (blkOfPage_blkPage hblk) (blkPage_lt hblk) hc hf hs hg (fun _ _ => hn _)

/-- `command_defers` for a command of a block's own page. -/
theorem command_later {a : Ans} (hok : a.code = RC.OK) (hl : a.later = true)
    (hg : ∀ P h o, s.dev.Arrived (s.dev.withHost h o) → let d : Dev := { s.dev.asked b with pages := P, hci := h, out := o }
      g ws d = (f d, a))
    (hn : ∀ d : Dev, d.replyWords b code ws ≤ nOut) :
    Defers c s rq (blkPage b) b f :=
  command_defers hx ht (blkOfPage_blkPage hblk) (blkPage_lt hblk) hc hf hs hok hl hg (fun _ _ => hn _)

end

/-- A WRITE of a register on which no link depends: it is stored, and the block does what follows. -/
theorem write_stored {c : Instr} {s : State} {rq : Rq} {a : Nat} {v : Word} {b : Blk} {f : Dev → Dev}
    (hx : exec c s = s.run (fun d => d.write rq a v)) (ha : s.dev.accepts rq a v b = true) (ho : 0x040 ≤ a % 4096)
    (hr : (regAt b (a % 4096)).isSome = true) (hl : linkReg a = false)
    (hf : ∀ d : Dev, (d.stored b a v).blockPost b (a % 4096) (d.rd a) ((d.stored b a v).rd a) v = f d) :
    Performs c s rq OP.WRITE [] b f := by
  refine write_performs hx ha ho hr (fun d => ?_)
  rw [Dev.withLinks_stored hl]
  exact hf d

end Sys2Proof.Machine
end

section
/-! SUPPORT. The Stride handshake of an Ethernet port (spec/13 R330 to R332). -/

namespace Sys2Proof.Machine

section
variable {d : Dev} {n : Nat} {x : Stride}

/-! Each timer's end, by the phase the exchange is in -/

theorem effStrideAnswerTimeout_due {t : Nat} (hx : (d.ethPort n).stride = some x) (hp : x.phase = .asked t) :
    effStrideAnswerTimeout n d = (d.at_ t).strideEnd n 2 := by
  simp only [effStrideAnswerTimeout, hx, hp]

theorem effStrideQuietStart_due {t : Nat} (hx : (d.ethPort n).stride = some x) (hp : x.phase = .agreed t) :
    effStrideQuietStart n d = ((d.at_ (t - (wireTicks (d.ethPort n).rate (d.fld (A.ETH.MAX_FRAME n) 13 0 + 20) + usT 1))).lpiLeave n).onEth n
      (fun p => { p with stride := some { x with phase := .quiet t } }) := by
  simp only [effStrideQuietStart, hx, hp]

theorem effStrideSwitch_due {t : Nat} (hx : (d.ethPort n).stride = some x) (hp : x.phase = .quiet t) :
    effStrideSwitch n d = (d.at_ t).onEth n (fun p => { p with stride := some { x with phase := .relock (t + usT 200) } }) := by
  simp only [effStrideSwitch, hx, hp]

theorem effStrideBlockLock_locked {t : Nat} (hx : (d.ethPort n).stride = some x) (hp : x.phase = .relock t) :
    effStrideBlockLock n d = ((((d.strideMode n x).onEth n (fun p => { p with rate := targetRate x.target, fecLock := decide (x.fec ≠ 0) })).count
      (A.ETH.STRIDE_CNT n)).strideEnd n 1).ctlFlush n := by
  simp only [effStrideBlockLock, hx, hp]

theorem effStrideRelockTimeout_due {t : Nat} (hx : (d.ethPort n).stride = some x) (hp : x.phase = .relock t) :
    effStrideRelockTimeout n d =
      ((((d.at_ t).strideEnd n 4).raise (.eth n) Cause.ETH.STRIDE_FAIL).strideMode n x).linkLost n := by
  simp only [effStrideRelockTimeout, hx, hp]

end

/-- A Stride message reaches a port of the two whose link is up. -/
theorem stride_reaches {d : Dev} {n : Nat} (hlink : (d.ethPort n).link = true) (hn : n < 2) :
    ¬ (!(d.ethPort n).link || decide (2 ≤ n)) = true := by
  simp [hlink, hn]

/-- Settles O21: the branch of each message and each timer that the exchange's phase selects. -/
theorem strideCommandsComplete : Obligations.StrideCommandsComplete := by
  unfold Obligations.StrideCommandsComplete
  refine ⟨?offerTimer, ?offer, ?request, ?crossing, ?ack, ?nak, ?start, ?noAnswer, ?quiet, ?switch, ?lock, ?noLock⟩
  case offerTimer =>
    intro s n t hoffer hlink hon
    refine becomes_eff rfl ?_
    simp [effStrideOfferTimer, hoffer, hlink, hon]
  case offer =>
    intro s n mn mx hlink hn hon
    refine becomes_eff rfl ((if_neg (stride_reaches hlink hn)).trans ((if_neg (by simp [hon])).trans ?_))
    cases agree (s.dev.strideMin n) (s.dev.strideMax n) mn mx <;> rfl
  case request =>
    rintro s n ver target fec xid src p d1 ack rfl hlink hn rfl rfl hon hver hidle hrate htarget hfec
    refine becomes_eff rfl ((if_neg (stride_reaches hlink hn)).trans ((if_neg (by simp [hon])).trans ((if_neg (Classical.not_not.2 hver)).trans ?_)))
    simp [hidle, hrate, Nat.not_lt.2 htarget, hfec]
  case crossing =>
    rintro s n ver target fec xid src p d1 ack x t rfl hlink hn rfl rfl hon hver hx hphase hinit
    refine becomes_eff rfl ((if_neg (stride_reaches hlink hn)).trans ((if_neg (by simp [hon])).trans ((if_neg (Classical.not_not.2 hver)).trans ?_)))
    simp [hx, hphase, hinit]
  case ack =>
    intro s n xid lead x hlink hn hx
    refine becomes_eff rfl ((if_neg (stride_reaches hlink hn)).trans ?_)
    simp only [hx]
  case nak =>
    intro s n xid x hlink hn hx
    exact becomes_eff rfl ((if_neg (stride_reaches hlink hn)).trans (if_pos (by rw [hx]; rfl)))
  case start =>
    intro σ rq n ws hs hn d p w target fec ht h1 h2 h3 h4
    exact command_ok rfl ht hs (by rintro m ⟨⟩; exact hn) (by decide) rfl
      (fun P h o _ => cmdIf_ok (conds_cons (decide_eq_false h1) (conds_cons h2 (conds_cons h3 (conds_cons h4 conds_nil)))))
      (fun _ => Nat.zero_le _)
  case noAnswer =>
    intro s n x t hx hp
    exact becomes_eff rfl (effStrideAnswerTimeout_due hx hp)
  case quiet =>
    intro s n x t hx hp
    exact becomes_eff rfl (effStrideQuietStart_due hx hp)
  case switch =>
    intro s n x t hx hp
    exact becomes_eff rfl (effStrideSwitch_due hx hp)
  case lock =>
    intro s n x t hx hp
    exact becomes_eff rfl (effStrideBlockLock_locked hx hp)
  case noLock =>
    intro s n x t hx hp
    exact becomes_eff rfl (effStrideRelockTimeout_due hx hp)

end Sys2Proof.Machine
end

section
/-! SUPPORT. Power: supply events, entry and exit of the power states, wake sources, clocks of the blocks (spec/18 R434 to R450). -/

namespace Sys2Proof.Machine

/-- The exit of a power state, but for a DEEP whose supplies did not return. -/
theorem effStateExitDone_run {d d0 d1 : Dev} {ok : Bool} {code : Nat} (hexit : d.pmu.exiting = some code) (hok : d.pmu.state = .deep → ok = true)
    (h0 : d0 = { d with pmu := { d.pmu with state := .run, exiting := none, lastState := d.pmu.state.mode, wakeCause := code } })
    (h1 : d1 = if d.pmu.state = .sleep then (if ok = true ∨ d0.mem.ddr ≠ .selfRefresh then d0.ddrWake else d0.trainFailed).tmuWake false
      else if d.pmu.state = .deep then (d0.onMp (fun c => { c with dmem := d0.fwInto c.dmem })).ddrWake.tmuWake true else d0) :
    effStateExitDone ok d =
      { (d1.wr A.PMU.MODE 0).event 5 with mp := { ((d1.wr A.PMU.MODE 0).event 5).mp with wait := .none, evt := false } } := by
  have hkeep : ¬ (d.pmu.state = .deep ∧ (!ok) = true) := fun ⟨hd, hno⟩ => by simp [hok hd] at hno
  have hbranch : d1 = match (motive := PwrState → Dev) d.pmu.state with
      | .sleep => (if ok || decide (d0.mem.ddr ≠ DdrState.selfRefresh) then d0.ddrWake else d0.trainFailed).tmuWake false
      | .deep => (d0.onMp (fun c => { c with dmem := d0.fwInto c.dmem })).ddrWake.tmuWake true
      | _ => d0 := by
    rw [h1]
    cases d.pmu.state <;> simp
  rw [hbranch, h0]
  unfold effStateExitDone
  simp only [hexit]
  exact (if_neg hkeep).trans rfl

/-- Settles O28: the branch of each row's effect that the conditions select. -/
theorem powerCommandsComplete : Obligations.PowerCommandsComplete := by
  unfold Obligations.PowerCommandsComplete
  refine ⟨?powerOn, ?lost, ?brownOut, ?overcurrent, ?idle, ?sleep, ?deep, ?off, ?boot, ?wakeN, ?timer, ?spi, ?failed, ?exit, ?gate, ?wake⟩
  case powerOn =>
    intro s hheld htripped
    exact becomes_eff rfl (if_pos ⟨hheld, by rw [htripped]; rfl⟩)
  case lost =>
    rintro s rail d1 hon rfl
    exact becomes_eff rfl (if_neg hon)
  case brownOut =>
    rintro s rail d1 hon rfl
    exact becomes_eff rfl (if_neg hon)
  case overcurrent =>
    intro s ua hheld hoff
    exact becomes_eff rfl (if_neg (not_or.2 ⟨hheld, hoff⟩))
  case idle | sleep | deep | off =>
    rintro s d hent rfl
    refine becomes_eff (f := effStateEntryDone) rfl ?_
    simp only [effStateEntryDone, hent]
  case boot =>
    intro s hoff
    exact becomes_eff rfl (if_pos hoff)
  case wakeN =>
    intro s hon hwake
    exact becomes_eff rfl ((if_neg hon).trans (if_pos hwake))
  case timer =>
    rintro s p rfl hp
    exact becomes_eff rfl (if_pos hp)
  case spi =>
    rintro s p rfl hp
    exact becomes_eff rfl (if_pos hp)
  case failed =>
    intro s code hexit hdeep
    refine becomes_eff rfl ?_
    simp [effStateExitDone, hexit, hdeep]
  case exit =>
    rintro s ok code d0 d1 d2 hexit hok h0 h1 rfl
    exact becomes_eff rfl (effStateExitDone_run hexit hok h0 h1)
  case gate =>
    intro s b l hforce hon hasleep hl hlt
    refine becomes_eff rfl ((if_neg (by simp [hforce, hasleep]; omega)).trans ?_)
    simp only [hl]
    exact if_pos hlt
  case wake =>
    intro s b hb
    exact becomes_eff rfl (if_pos hb)

end Sys2Proof.Machine
end

section
/-! SUPPORT. Supervision: the watchdog, the temperatures, the Blotter and the flash (spec/17). -/

namespace Sys2Proof.Machine

/-! The temperature warning -/

section
variable {d : Dev} {old : List Int}

/-- A sensor at the limit while no warning stands. -/
theorem Dev.tempWatch_rise {y : Int} (hy : y ∈ d.mgt.temps) (hot : 8 * signed 8 (d.fld A.MGT.TEMP_CFG 7 0) ≤ y)
    (hoff : bitOf (d.blk .mgt).cause Cause.MGT.TEMP_WARN = false) :
    d.tempWatch old = (d.event 4).raise .mgt Cause.MGT.TEMP_WARN := by
  have hany : d.mgt.temps.any (fun t => decide (8 * signed 8 (d.fld A.MGT.TEMP_CFG 7 0) ≤ t)) = true :=
    List.any_eq_true.2 ⟨y, hy, decide_eq_true hot⟩
  unfold Dev.tempWatch
  simp only [hany, hoff, Bool.not_false, Bool.and_true, Bool.or_true, if_true]

/-- Another sensor reaches the limit while the warning stands. -/
theorem Dev.tempWatch_again (hrise : ∃ z ∈ old.zip d.mgt.temps, z.1 < 8 * signed 8 (d.fld A.MGT.TEMP_CFG 7 0) ∧
      8 * signed 8 (d.fld A.MGT.TEMP_CFG 7 0) ≤ z.2)
    (hon : bitOf (d.blk .mgt).cause Cause.MGT.TEMP_WARN = true) : d.tempWatch old = d.event 4 := by
  obtain ⟨z, hz, hlo, hhi⟩ := hrise
  have hany : (old.zip d.mgt.temps).any (fun x => decide (x.1 < 8 * signed 8 (d.fld A.MGT.TEMP_CFG 7 0) ∧
      8 * signed 8 (d.fld A.MGT.TEMP_CFG 7 0) ≤ x.2)) = true := List.any_eq_true.2 ⟨z, hz, decide_eq_true ⟨hlo, hhi⟩⟩
  have hwarm : d.mgt.temps.all (fun t => decide (t < 8 * signed 8 (d.fld A.MGT.TEMP_CFG 7 0) -
      8 * (d.fld A.MGT.TEMP_CFG 15 8 : Int))) = false := by
    rw [List.all_eq_false]
    exact ⟨z.2, (List.of_mem_zip hz).2, by rw [decide_eq_true_eq]; omega⟩
  unfold Dev.tempWatch
  simp only [hany, hwarm, hon, Bool.not_true, Bool.and_false, Bool.or_false, if_true, Bool.false_eq_true, if_false]

/-- Every sensor is below the limit by more than the hysteresis. -/
theorem Dev.tempWatch_cool (hcool : ∀ y ∈ d.mgt.temps, y < 8 * signed 8 (d.fld A.MGT.TEMP_CFG 7 0) - 8 * (d.fld A.MGT.TEMP_CFG 15 8 : Int))
    (hon : bitOf (d.blk .mgt).cause Cause.MGT.TEMP_WARN = true) : d.tempWatch old = d.lower .mgt Cause.MGT.TEMP_WARN := by
  have hall : d.mgt.temps.all (fun t => decide (t < 8 * signed 8 (d.fld A.MGT.TEMP_CFG 7 0) -
      8 * (d.fld A.MGT.TEMP_CFG 15 8 : Int))) = true := List.all_eq_true.2 fun y hy => decide_eq_true (hcool y hy)
  have hnone : (old.zip d.mgt.temps).any (fun x => decide (x.1 < 8 * signed 8 (d.fld A.MGT.TEMP_CFG 7 0) ∧
      8 * signed 8 (d.fld A.MGT.TEMP_CFG 7 0) ≤ x.2)) = false := by
    rw [List.any_eq_false]
    intro z hz
    have := hcool z.2 (List.of_mem_zip hz).2
    rw [decide_eq_true_eq]
    omega
  unfold Dev.tempWatch
  simp only [hall, hnone, hon, Bool.not_true, Bool.and_false, Bool.or_false, Bool.and_true, Bool.false_eq_true, if_true, if_false]

end

/-! The watchdog -/

theorem effMpWdogExpiry_first {d e : Dev} (he : e = d.at_ (d.mgt.wdogAt + msT (d.fld A.MGT.WDOG 15 0)))
    (hlong : ∀ t, d.mgt.lastWdog = some t → t + sT 10 ≤ e.tb) :
    effMpWdogExpiry d = (({ e with mgt := { e.mgt with lastWdog := some e.tb, wdogAt := e.tb } } : Dev).blotter 0x030 0 0x0008
      [({ e with mgt := { e.mgt with lastWdog := some e.tb, wdogAt := e.tb } } : Dev).rd A.MGT.EVT_PEND]).mpRestart := by
  have hagain : (match d.mgt.lastWdog with
      | some t => decide (e.tb < t + sT 10)
      | none => false) = false := by
    cases hlast : d.mgt.lastWdog with
    | none => rfl
    | some t => exact decide_eq_false (Nat.not_lt.2 (hlong t hlast))
  subst he
  exact if_neg (Bool.eq_false_iff.1 hagain)

theorem effMpWdogExpiry_again {d e : Dev} {t : Nat} (he : e = d.at_ (d.mgt.wdogAt + msT (d.fld A.MGT.WDOG 15 0)))
    (hlast : d.mgt.lastWdog = some t) (hsoon : e.tb < t + sT 10) :
    effMpWdogExpiry d = { e with mgt := { e.mgt with lastWdog := some e.tb, wdogAt := e.tb, resetDue := some (e.tb, 3) } } := by
  have hagain : (match d.mgt.lastWdog with
      | some t => decide (e.tb < t + sT 10)
      | none => false) = true := by
    rw [hlast]
    exact decide_eq_true hsoon
  subst he
  exact if_pos hagain

/-! The flash -/

/-- A commit that was written: its records leave the uncommitted ones, and a COMMAND that waited for them is answered. -/
theorem effFlashOpDone_written {d d1 : Dev} {m : Mgt} {rest : List BltRec} {done : Bool} (hbusy : d.mgt.flashBusy = true) (hm : m = d.mgt)
    (hdone : done = true ↔ ∃ n, m.bltWait = some n ∧ n ≤ m.committing)
    (h1 : d1 = ({ d with mgt := { m with
      flash := { m.flash with blotter := bltKeep (m.flash.blotter ++ [m.uncommitted.filter (fun r => decide (r.seq ≤ m.committing))]),
                              reservation := m.committing + 17 },
      commitSeq := m.committing, committing := 0, flashBusy := false, flashTries := 0, bltWait := (if done then none else m.bltWait),
      openSince := (match rest with | r :: _ => (r.time - m.epoch) * 256 | [] => m.openSince) } } : Dev).event 3)
    (hrest : rest = m.uncommitted.filter (fun r => decide (m.committing < r.seq))) :
    effFlashOpDone true d = (if done then d1.execDone RC.OK 0 [] else d1).bltKick false := by
  have hwaits : (match d.mgt.bltWait with
      | some n => decide (n ≤ d.mgt.committing)
      | none => false) = done := by
    rw [Bool.eq_iff_iff, hdone, hm]
    cases d.mgt.bltWait <;> simp
  subst h1 hrest hm hwaits
  exact (if_neg (by simp [hbusy])).trans (if_pos rfl)

/-- BLT_READ from a record that is still there. -/
theorem cmdBltRead_found {d : Dev} {room : Nat} {ws : List Word} {recs : List BltRec}
    (hfirst : ∀ r, d.mgt.records.head? = some r → r.seq ≤ (word ws 0).toNat)
    (hrecs : recs = (d.mgt.records.filter (fun r => decide ((word ws 0).toNat ≤ r.seq))).take (min 32 (room / 8))) (hone : ws.length = 1) :
    cmdBltRead room ws d = (d, Ans.ok (recs.map BltRec.toWords).flatten) := by
  subst hrecs
  refine (if_neg (Classical.not_not.2 hone)).trans ?_
  cases hl : d.mgt.records with
  | nil => rfl
  | cons r rs =>
    have hskipped : r.seq - (word ws 0).toNat = 0 := Nat.sub_eq_zero_of_le (hfirst r (by rw [hl]; rfl))
    simp only [hskipped, Nat.min_zero]
    rfl

/-- Settles O26: the branch of each row's effect that the conditions select; the commands by their checks. -/
theorem supervisionCommandsComplete : Obligations.SupervisionCommandsComplete := by
  unfold Obligations.SupervisionCommandsComplete
  refine ⟨?wdog, ?wdogAgain, ?wdogWrite, ?restarted, ?window, ?rise, ?again, ?cool, ?trip, ?timer, ?commitNone, ?commit, ?read, ?written,
    ?retry, ?failed, ?eraseRetry, ?eraseFailed, ?vinWarn, ?vinClear⟩
  case wdog =>
    intro s d hd hlong
    exact becomes_eff (f := effMpWdogExpiry) rfl (effMpWdogExpiry_first hd (fun t => hlong t))
  case wdogAgain =>
    intro s d t hd hlast hsoon
    exact becomes_eff (f := effMpWdogExpiry) rfl (effMpWdogExpiry_again hd hlast hsoon)
  case wdogWrite =>
    intro s rq v ha
    exact write_stored rfl ha (by decide) (by decide) (by decide) (fun d => rfl)
  case restarted =>
    rintro s d1 hres rfl
    exact becomes_eff rfl (if_neg (by simp [hres]))
  case window =>
    intro s rq v ha
    exact write_stored rfl ha (by decide) (by decide) (by decide) (fun d => rfl)
  case rise =>
    rintro s k x d y rfl hy hot hoff
    exact becomes_eff (f := effTempWarn k x) rfl (Dev.tempWatch_rise hy hot hoff)
  case again =>
    rintro s k x d rfl hrise hon
    exact becomes_eff (f := effTempWarn k x) rfl (Dev.tempWatch_again hrise hon)
  case cool =>
    rintro s k x d rfl hcool hon
    exact becomes_eff (f := effTempWarn k x) rfl (Dev.tempWatch_cool hcool hon)
  case trip =>
    rintro s k t d hhot hstate rfl
    exact becomes_eff rfl (if_neg (not_or.2 ⟨Int.not_lt.2 hhot, Classical.not_not.2 hstate⟩))
  case timer =>
    intro s hsome
    exact becomes_eff rfl (if_neg hsome)
  case commitNone =>
    rintro s rq ws hs ht rfl hnone
    exact command_ok rfl ht hs nofun (by decide) rfl (fun P h o _ => (if_neg (Classical.not_not.2 rfl)).trans (if_pos hnone)) (fun _ => Nat.zero_le _)
  case commit =>
    rintro s rq ws m hs ht rfl rfl hsome hvin hflash
    exact command_later rfl ht hs nofun (by decide) rfl (a := { code := RC.OK, detail := 0, words := [], later := true }) rfl rfl
      (fun P h o _ => (if_neg (Classical.not_not.2 rfl)).trans ((if_neg hsome).trans ((if_neg (by rw [Bool.not_eq_true]; exact hvin)).trans
        (if_neg (by rw [Bool.not_eq_true]; exact hflash))))) (fun _ => Nat.zero_le _)
  case read =>
    rintro s rq ws m recs hs rfl hfirst rfl ht hone
    refine command_ok rfl ht hs nofun (by decide) rfl (fun P h o _ => cmdBltRead_found hfirst rfl hone)
      (fun _ => Nat.zero_le _)
  case written =>
    intro s m rest done d1 hbusy hm hrest hdone h1
    exact becomes_eff (f := fun d => (effFlashOpDone true d).serveAll) rfl (congrArg Dev.serveAll (effFlashOpDone_written hbusy hm hdone h1 hrest))
  case retry =>
    intro s hbusy htries
    refine becomes_eff (f := fun d => (effFlashOpDone false d).serveAll) rfl (congrArg Dev.serveAll ?_)
    simp [effFlashOpDone, hbusy, htries]
  case failed =>
    rintro s d1 hbusy htries rfl
    refine becomes_eff (f := fun d => (effFlashOpDone false d).serveAll) rfl (congrArg Dev.serveAll ?_)
    simp [effFlashOpDone, hbusy, htries]
  case eraseRetry =>
    intro s hbusy hupd htries
    refine becomes_eff (f := fun d => (effFlashOpDone false d).serveAll) rfl (congrArg Dev.serveAll ?_)
    simp [effFlashOpDone, hbusy, hupd, htries, Dev.onMgt]
  case eraseFailed =>
    intro s hbusy hupd htries
    refine becomes_eff (f := fun d => (effFlashOpDone false d).serveAll) rfl (congrArg Dev.serveAll ?_)
    simp [effFlashOpDone, hbusy, hupd, htries, Dev.onMgt]
  case vinWarn =>
    rintro s mv d hoff hlow hheld hstate rfl
    exact becomes_eff rfl (if_neg (by simp [hoff, hlow, hheld, hstate]))
  case vinClear =>
    intro s mv hon hhigh
    exact becomes_eff rfl (if_neg (by simp [hon, hhigh]))

end Sys2Proof.Machine
end

section
/-! SUPPORT. Firmware: booting, image updates, the committed configuration, keys and the life cycle (spec/17 R411 to R432). -/

namespace Sys2Proof.Machine

/-! The commands that are not of the form `cmdIf` -/

theorem cmdUpdWrite_takes {d : Dev} {ws : List Word} (hvin : d.mgt.vinWarn = false) (hupd : d.mgt.upd = .receiving)
    (hoff : (word ws 0).toNat = d.mgt.updGot) (h2 : 2 ≤ ws.length) (h255 : ws.length ≤ 255)
    (hlen : (wordsBytes (ws.drop 1)).length ≤ d.mgt.updLen - d.mgt.updGot + 3) :
    cmdUpdWrite ws d =
      (let got := (wordsBytes (ws.drop 1)).take (d.mgt.updLen - d.mgt.updGot)
       let d1 : Dev := { d with mgt := { d.mgt with updGot := d.mgt.updGot + got.length, updBytes := d.mgt.updBytes ++ got } }
       (if d1.mgt.updGot = d1.mgt.updLen then d1.updRecord 0x0A11 0 0 (!d.mgt.slot) else d1).event 3, Ans.ok []) := by
  refine if_pos (refuse_nil (conds_cons ?_ (conds_cons hvin (conds_cons ?_ (conds_cons ?_ (conds_cons ?_ conds_nil))))))
  · rw [Bool.or_eq_false_iff, Bool.and_eq_false_iff]
    exact ⟨decide_eq_false (by omega), Or.inr (decide_eq_false (Nat.not_lt.2 hlen))⟩
  · exact decide_eq_false (by simp [hupd])
  · simp [hoff]
  · exact decide_eq_false (by simp [hupd])

theorem cmdUpdFinish_ready {d : Dev} {rq : Rq} (hvin : d.mgt.vinWarn = false) (hupd : d.mgt.upd = .receiving)
    (hall : d.mgt.updGot = d.mgt.updLen) (hver : d.verify d.mgt.updBytes = none) :
    cmdUpdFinish rq [] d =
      ((({ d with mgt := { d.mgt.setOther { state := .valid, gen := d.mgt.running.gen + 1, len := d.mgt.updLen, image := d.mgt.updBytes } with
        upd := .ready, updBytes := [] } } : Dev).updRecord 0x0A12 0 0 (!d.mgt.slot)).event 3, Ans.ok []) := by
  refine (if_neg (Classical.not_not.2 (refuse_nil (conds_cons rfl (conds_cons hvin (conds_cons ?_ conds_nil)))))).trans ?_
  · simp [hupd, hall]
  · rw [hver]

theorem cmdCfgCommit_commits {d : Dev} {rq : Rq} (hvin : d.mgt.vinWarn = false) (hflash : d.mgt.flashFail = false) :
    cmdCfgCommit rq [] d = (({ d with mgt := { d.mgt with
      flash := { d.mgt.flash with journal := d.mgt.flash.journal ++ [d.mgt.staged] }, staged := [] } } : Dev).event 3, Ans.ok []) :=
  (if_neg (by simp [hflash])).trans (vinIf_ok hvin (conds_cons rfl conds_nil))

/-- Settles O27: each command's checks pass (`vinIf_ok`); the rows by their conditions. -/
theorem firmwareCommandsComplete : Obligations.FirmwareCommandsComplete := by
  unfold Obligations.FirmwareCommandsComplete
  refine ⟨?reset, ?boot, ?begin_, ?erased, ?write, ?finish, ?activate, ?confirm, ?abort, ?trial, ?stage, ?commit, ?discard, ?otpKey, ?revoke,
    ?otpReg, ?advance, ?nonce⟩
  case reset =>
    intro s x t c hdue hheld hoff
    refine becomes_eff (f := effColdBoot x) rfl ?_
    simp [effColdBoot, hdue, hheld, hoff]
  case boot =>
    intro s x hboot hdue
    refine becomes_eff (f := effColdBoot x) rfl ?_
    simp [effColdBoot, hboot, hdue]
  case begin_ =>
    intro σ rq ws hs d len hvin ht h1 h2 h3
    exact command_ok rfl ht hs nofun (by decide) rfl (fun P h o _ => vinIf_ok hvin
      (conds_cons (decide_eq_false h1) (conds_cons h2 (conds_cons (decide_eq_false h3) conds_nil)))) (fun _ => Nat.zero_le _)
  case erased =>
    intro s hupd
    exact becomes_eff rfl (if_pos hupd)
  case write =>
    rintro s rq ws m got hs rfl ht hvin hupd hoff h2 h255 hlen rfl
    exact command_ok rfl ht hs nofun (by decide) rfl (fun P h o _ => cmdUpdWrite_takes hvin hupd hoff h2 h255 hlen) (fun _ => Nat.zero_le _)
  case finish =>
    rintro s rq ws d0 hs rfl ht rfl hvin hupd hall hver
    exact command_ok rfl ht hs nofun (by decide) rfl (fun P h o _ => cmdUpdFinish_ready hvin hupd hall hver) (fun _ => Nat.zero_le _)
  case activate =>
    intro σ rq ws hs d hvin ht h1 h2
    exact command_ok rfl ht hs nofun (by decide) rfl (fun P h o _ => vinIf_ok hvin
      (conds_cons (decide_eq_false h1) (conds_cons (decide_eq_false h2) conds_nil))) (fun _ => Nat.zero_le _)
  case confirm =>
    intro σ rq ws hs d hvin ht h1 h2
    exact command_ok rfl ht hs nofun (by decide) rfl (fun P h o _ => vinIf_ok hvin
      (conds_cons (decide_eq_false h1) (conds_cons (decide_eq_false h2) conds_nil))) (fun _ => Nat.zero_le _)
  case abort =>
    intro σ rq ws hs d hvin ht h1 h2
    exact command_ok rfl ht hs nofun (by decide) rfl (fun P h o _ => vinIf_ok hvin
      (conds_cons (decide_eq_false h1) (conds_cons (decide_eq_false h2) conds_nil))) (fun _ => Nat.zero_le _)
  case trial =>
    rintro s t d1 hdue hupd rfl
    refine becomes_eff (f := effUpdTrialTimeout) rfl ?_
    simp only [effUpdTrialTimeout, hdue, hupd, if_true]
    rfl
  case stage =>
    intro σ rq ws hs d cs hvin ht h1 h2 h3
    exact command_ok rfl ht hs nofun (by decide) rfl (fun P h o _ => vinIf_ok hvin
      (conds_cons (decide_eq_false h1) (conds_cons h2 (conds_cons (decide_eq_false h3) conds_nil)))) (fun _ => Nat.zero_le _)
  case commit =>
    rintro s rq ws m hs ht rfl rfl hvin hflash
    exact command_ok rfl ht hs nofun (by decide) rfl (fun P h o _ => cmdCfgCommit_commits hvin hflash) (fun _ => Nat.zero_le _)
  case discard =>
    intro σ rq ws hs hvin ht h1
    exact command_ok rfl ht hs nofun (by decide) rfl (fun P h o _ => vinIf_ok hvin (conds_cons (decide_eq_false h1) conds_nil))
      (fun _ => Nat.zero_le _)
  case otpKey =>
    intro σ rq ws hs d k hvin ht h1 h2 h3 h4 h5
    exact command_ok rfl ht hs nofun (by decide) rfl (fun P h o _ => vinIf_ok hvin
      (conds_cons (decide_eq_false h1) (conds_cons (decide_eq_false h2) (conds_cons h3 (conds_cons h4 (conds_cons h5 conds_nil))))))
      (fun _ => Nat.zero_le _)
  case revoke =>
    intro σ rq ws hs d k o others hvin ht h1 h2 h3 h4 h5
    exact command_ok rfl ht hs nofun (by decide) rfl (fun P h o _ => vinIf_ok hvin
      (conds_cons (decide_eq_false h1) (conds_cons h2 (conds_cons (decide_eq_false h3) (conds_cons h4 (conds_cons h5 conds_nil))))))
      (fun _ => Nat.zero_le _)
  case otpReg =>
    intro σ rq ws hs d hvin ht h1 h2 h3 h4 h5
    exact command_ok rfl ht hs nofun (by decide) rfl (fun P h o _ => vinIf_ok hvin
      (conds_cons (decide_eq_false h1) (conds_cons (decide_eq_false h2) (conds_cons h3 (conds_cons h4 (conds_cons h5 conds_nil))))))
      (fun _ => Nat.zero_le _)
  case advance =>
    intro σ rq ws hs d w dest need l hvin ht h1 h2 h3 h4
    exact command_ok rfl ht hs nofun (by decide) rfl (fun P h o _ => vinIf_ok hvin
      (conds_cons (decide_eq_false h1) (conds_cons h2 (conds_cons h3 (conds_cons h4 conds_nil))))) (fun _ => Nat.zero_le _)
  case nonce =>
    intro σ rq ws hs d n ht h1
    exact command_ok rfl ht hs nofun (by decide) rfl (fun P h o _ => cmdIf_ok (conds_cons (decide_eq_false h1) conds_nil)) (fun _ => Nat.zero_le _)

end Sys2Proof.Machine
end

section
/-! SUPPORT. Self-tests (spec/19 R451 to R466). -/

namespace Sys2Proof.Machine

/-- The unit code of the DRAM names no other unit. -/
theorem unitOf_dram_code {c : Nat} {u : TUnit} (hu : unitOf c = some u) (h : u ≠ .dram) : c ≠ 0x34 := by
  rintro rfl
  exact h (Option.some.inj hu).symm

/-- The device in which a test of the unit with code `c` has been asked for. -/
def Dev.testAsked (d : Dev) (c : Nat) (ws : List Word) : Dev :=
  ({ d with bst := { d.bst with phase := .quiescing, unit := c, start := d.tb, quiesceUs := 0, region := pair ws 1,
                                mib := (word ws 3).toNat } } : Dev).count A.BST.RUN_CNT

/-- TEST_START on a unit that no check refuses. -/
theorem cmdTestStart_begins {d : Dev} {ws : List Word} {c : Nat} {u : TUnit} (hc : c = bitsOf (word ws 0) 7 0) (hu : unitOf c = some u)
    (hallowed : d.unitAllowed u = true) (hidle : d.bst.phase = .idle) (hextra : extra (word ws 0) 0xFF = false)
    (hlen : ws.length = if c = 0x34 then 4 else 1)
    (hdram : u = .dram → pair ws 1 % 2 ^ 20 = 0 ∧ (word ws 3).toNat ≠ 0 ∧
      pair ws 1 + (word ws 3).toNat * 2 ^ 20 ≤ d.dramMib * 2 ^ 20 ∧ d.mem.ddr ≠ .frozen)
    (heth : ∀ n, u = .eth n → d.present (.eth n) = true) :
    cmdTestStart ws d = ((d.testAsked c ws).testBegin u, Ans.ok []) := by
  subst hc
  unfold cmdTestStart
  simp only [hu, hextra, hallowed, hidle, hlen, Bool.false_or, ne_eq, not_true_eq_false, decide_false, Bool.not_true]
  rw [refuse_nil (conds_cons rfl (conds_cons ?region (conds_cons ?absent (conds_cons rfl (conds_cons ?frozen (conds_cons rfl conds_nil))))))]
  · rfl
  case region =>
    rw [Bool.and_eq_false_imp, decide_eq_true_eq]
    intro h
    obtain ⟨haligned, hmib, hfits, -⟩ := hdram h
    rw [decide_eq_false (Classical.not_not.2 haligned), decide_eq_false hmib, decide_eq_false (Nat.not_lt.2 hfits)]
    rfl
  case absent =>
    cases u with
    | eth n => simp only [heth n rfl, Bool.not_true]
    | _ => rfl
  case frozen =>
    rw [Bool.and_eq_false_imp, decide_eq_true_eq]
    intro h
    exact decide_eq_false (hdram h).2.2.2

theorem Dev.unitAllowed_host (d : Dev) (P : Tab Page) (h : Hci) (o : List Out) (u : TUnit) :
    ({ d with pages := P, hci := h, out := o } : Dev).unitAllowed u = d.unitAllowed u := rfl

@[simp] theorem Dev.testAsked_qar (d : Dev) (c : Nat) (ws : List Word) : (d.testAsked c ws).qar = d.qar := rfl

section
variable {s : State} {rq : Rq} {ws : List Word} {c : Nat} {u : TUnit} {f : Dev → Dev} (hs : s.dev.serves .bst = true)
  (ht : s.dev.takes rq OP.COMMAND ws.length 0 = true) (hc : c = bitsOf (word ws 0) 7 0) (hu : unitOf c = some u)
  (hallowed : (s.dev.asked .bst).unitAllowed u = true) (hidle : (s.dev.asked .bst).bst.phase = .idle)
  (hextra : extra (word ws 0) 0xFF = false)
include hs ht hc hu hallowed hidle hextra

/-- TEST_START is answered, and the unit's test begins. -/
theorem testStart_performs (hlen : ws.length = if c = 0x34 then 4 else 1)
    (hdram : u = .dram → pair ws 1 % 2 ^ 20 = 0 ∧ (word ws 3).toNat ≠ 0 ∧
      pair ws 1 + (word ws 3).toNat * 2 ^ 20 ≤ (s.dev.asked .bst).dramMib * 2 ^ 20 ∧ (s.dev.asked .bst).mem.ddr ≠ .frozen)
    (heth : ∀ n, u = .eth n → (s.dev.asked .bst).present (.eth n) = true)
    (hbegin : ∀ d : Dev, d.qar = (s.dev.asked .bst).qar → (d.testAsked c ws).testBegin u = f d) :
    Performs (.testStart rq ws) s rq OP.COMMAND [] .bst f := by
  refine command_ok rfl ht hs nofun (by decide) rfl (fun P h o _ => ?_) (fun _ => Nat.zero_le _)
  generalize s.dev.asked .bst = a at hallowed hidle hdram heth hbegin
  refine (cmdTestStart_begins (d := { a with pages := P, hci := h, out := o }) hc hu ?_ hidle hextra hlen hdram heth).trans ?_
  · rwa [Dev.unitAllowed_host]
  · exact congrArg (·, Ans.ok []) (hbegin { a with pages := P, hci := h, out := o } rfl)

/-- `testStart_performs` for a unit other than the DRAM. -/
theorem testStart_plain (hone : ws.length = 1) (hdram : u ≠ .dram) (heth : ∀ n, u = .eth n → (s.dev.asked .bst).present (.eth n) = true)
    (hbegin : ∀ d : Dev, d.qar = (s.dev.asked .bst).qar → (d.testAsked c ws).testBegin u = f d) :
    Performs (.testStart rq ws) s rq OP.COMMAND [] .bst f :=
  testStart_performs hs ht hc hu hallowed hidle hextra (by rw [hone, if_neg (unitOf_dram_code hu hdram)]) (fun h => absurd h hdram) heth hbegin

end

/-! What each kind of unit does when its test is asked for -/

section
variable {d : Dev} {k : Nat} {q : Core}

theorem Dev.testBegin_taking {a b : Nat} (hq : tabFind d.qar.cores k = some q) (hw : q.wait = .take a b) :
    d.testBegin (.quill k) =
      ((d.wr A.QAR.CORE_CTRL (d.rd A.QAR.CORE_CTRL &&& ~~~ oneBit k)).setQuill k { q with wait := .stopped }).bstRun := by
  simp only [Dev.testBegin, hq, hw]

theorem Dev.testBegin_stopped (hq : tabFind d.qar.cores k = some q) (hw : q.wait = .stopped) :
    d.testBegin (.quill k) = (d.wr A.QAR.CORE_CTRL (d.rd A.QAR.CORE_CTRL &&& ~~~ oneBit k)).bstRun := by
  simp only [Dev.testBegin, hq, hw]

theorem Dev.testBegin_running (hq : tabFind d.qar.cores k = some q) (hs : q.wait ≠ .stopped) (ht : ∀ a b, q.wait ≠ .take a b) :
    d.testBegin (.quill k) = (d.wr A.QAR.CORE_CTRL (d.rd A.QAR.CORE_CTRL &&& ~~~ oneBit k)).onBst
      (fun x => { x with quiesceUs := ceilDiv ((d.wr A.QAR.CORE_CTRL (d.rd A.QAR.CORE_CTRL &&& ~~~ oneBit k)).limitLeft k) 250 }) := by
  cases hw : q.wait with
  | stopped => exact absurd hw hs
  | take a b => exact absurd hw (ht a b)
  | _ => simp only [Dev.testBegin, hq, hw]

theorem Dev.testBegin_shared {u : TUnit} (h : u = .pke ∨ u = .tmg ∨ u = .inkwell ∨ u = .sched) : d.testBegin u = d.dpBegin.bstRun := by
  rcases h with rfl | rfl | rfl | rfl <;> rfl

end

/-! The end of a test -/

/-- Nothing ties: the patterns of the running test, if any, do not end now. -/
theorem Dev.bstTie_apart {d : Dev} (h : d.bst.phase = .quiescing ∨
    (d.bst.phase = .running ∧ ∀ u, unitOf d.bst.unit = some u → d.tb ≠ d.bst.runStart + usT (d.unitUs u))) : d.bstTie = d := by
  unfold Dev.bstTie
  cases hu : unitOf d.bst.unit with
  | none => rfl
  | some u =>
    refine if_neg (fun ⟨hrun, htb⟩ => ?_)
    rcases h with hq | ⟨-, hne⟩
    · rw [hq] at hrun; cases hrun
    · exact hne u hu htb

theorem cmdTestAbort_early {d : Dev} (h : d.bst.phase = .quiescing ∨
    (d.bst.phase = .running ∧ ∀ u, unitOf d.bst.unit = some u → d.tb ≠ d.bst.runStart + usT (d.unitUs u))) :
    cmdTestAbort [] d = (d.bstEarly 1, Ans.ok []) := by
  refine (congrArg (fun e : Dev => cmdIf e _ (e.bstEarly 1, [])) (Dev.bstTie_apart h)).trans ?_
  rw [Dev.bstTie_apart h]
  refine cmdIf_ok (conds_cons rfl (conds_cons ?_ conds_nil))
  rcases h with hq | ⟨hr, -⟩
  · simp [hq]
  · simp [hr]

section
variable {d : Dev} {u : TUnit} (hu : unitOf d.bst.unit = some u)
include hu

theorem effTestPatternsDone_ends {sig mism first : Nat} (hp : d.bst.phase = .running) :
    effTestPatternsDone sig mism first d = (d.at_ (d.bst.runStart + usT (d.unitUs u))).bstEnd 0 u.patterns sig mism first := by
  unfold effTestPatternsDone
  rw [hu]
  exact if_neg (Classical.not_not.2 hp)

theorem effTestOverrun_ends {n : Nat} (hp : d.bst.phase = .running) :
    effTestOverrun n d = (d.at_ (d.bst.runStart + usT (2 * d.unitUs u))).took.bstEnd 2 n
      ((d.at_ (d.bst.runStart + usT (2 * d.unitUs u))).freeVal (2 ^ 64)) 0 0 := by
  unfold effTestOverrun
  rw [hu]
  exact if_neg (Classical.not_not.2 hp)

theorem effTestReinitDone_back (hp : d.bst.phase = .reinit) (hq : u.dataPlane = true → d.qarAtTake = true) :
    effTestReinitDone d = (d.at_ (d.tb + usT u.reinitUs)).unitBack u := by
  unfold effTestReinitDone
  rw [hu]
  refine if_neg (not_or.2 ⟨Classical.not_not.2 hp, fun ⟨hd, hn⟩ => ?_⟩)
  simp [hq hd] at hn

end

section
variable {d : Dev}

theorem Dev.unitBack_shared {u : TUnit} (h : u = .pke ∨ u = .tmg ∨ u = .inkwell ∨ u = .sched) :
    d.unitBack u = ((d.isolate u false).onBst (fun b => { b with phase := .idle, unit := 0 })).dpEnd := by
  rcases h with rfl | rfl | rfl | rfl <;> rfl

theorem TUnit.shared_reinitUs {u : TUnit} (h : u = .pke ∨ u = .tmg ∨ u = .inkwell ∨ u = .sched) : u.reinitUs = 0 := by
  rcases h with rfl | rfl | rfl | rfl <;> rfl

end

/-- Settles O29: TEST_START passes its checks (`cmdTestStart_begins`); then what each kind of unit does. -/
theorem selfTestCommandsComplete : Obligations.SelfTestCommandsComplete := by
  unfold Obligations.SelfTestCommandsComplete
  refine ⟨?radio, ?taking, ?stopped, ?running, ?eth, ?shared, ?dram, ?abort, ?result, ?patterns, ?overrun, ?backRadio, ?backQuill,
    ?backFailed, ?backEth, ?backShared, ?backDram⟩
  case radio =>
    rintro s rq ws d c r hs rfl ht hc hu hallowed hidle hextra hone
    exact testStart_plain hs ht hc hu hallowed hidle hextra hone nofun nofun (fun _ _ => rfl)
  case taking =>
    rintro s rq ws d c k q a b hs rfl ht hc hu hallowed hidle hextra hone hq hw
    exact testStart_plain hs ht hc hu hallowed hidle hextra hone nofun nofun
      (fun d hd => Dev.testBegin_taking (by rw [Dev.testAsked_qar, hd, hq]) hw)
  case stopped =>
    rintro s rq ws d c k q hs rfl ht hc hu hallowed hidle hextra hone hq hw
    exact testStart_plain hs ht hc hu hallowed hidle hextra hone nofun nofun
      (fun d hd => Dev.testBegin_stopped (by rw [Dev.testAsked_qar, hd, hq]) hw)
  case running =>
    rintro s rq ws d c k q hs rfl ht hc hu hallowed hidle hextra hone hq hstop htake
    exact testStart_plain hs ht hc hu hallowed hidle hextra hone nofun nofun
      (fun d hd => Dev.testBegin_running (by rw [Dev.testAsked_qar, hd, hq]) hstop htake)
  case eth =>
    rintro s rq ws d c n hs rfl ht hc hu hallowed hidle hextra hone hpresent
    exact testStart_plain hs ht hc hu hallowed hidle hextra hone nofun (by rintro m ⟨⟩; exact hpresent) (fun _ _ => rfl)
  case shared =>
    rintro s rq ws d c u hs rfl ht hc hu hallowed hidle hextra hone hkind
    have hdram : u ≠ .dram := by rcases hkind with rfl | rfl | rfl | rfl <;> nofun
    have heth : ∀ n, u ≠ .eth n := by rcases hkind with rfl | rfl | rfl | rfl <;> nofun
    exact testStart_plain hs ht hc hu hallowed hidle hextra hone hdram (fun n hn => absurd hn (heth n))
      (fun _ _ => Dev.testBegin_shared hkind)
  case dram =>
    rintro s rq ws d c hs rfl ht hc hu hallowed hidle hextra hfour hcode hddr haligned hmib hfits
    exact testStart_performs hs ht hc hu hallowed hidle hextra (by rw [hfour, if_pos hcode]) (fun _ => ⟨haligned, hmib, hfits, hddr⟩) nofun
      (fun _ _ => rfl)
  case abort =>
    rintro s rq ws d hs rfl ht rfl hphase
    exact command_ok rfl ht hs nofun (by decide) rfl (fun P h o _ => cmdTestAbort_early hphase) (fun _ => Nat.zero_le _)
  case result =>
    intro σ rq ws hs d c running live res ht hone hextra hres
    exact command_ok rfl ht hs nofun (by decide) rfl (fun P h o _ => cmdIf_ok (conds_cons (decide_eq_false hone) (conds_cons hextra
      (conds_cons hres conds_nil)))) (fun _ => Nat.zero_le _)
  case patterns =>
    intro s sig mism first u hu hp
    exact becomes_eff (f := effTestPatternsDone sig mism first) rfl (effTestPatternsDone_ends hu hp)
  case overrun =>
    rintro s n u d hu hp rfl
    exact becomes_eff (f := effTestOverrun n) rfl (effTestOverrun_ends hu hp)
  case backRadio =>
    rintro s r d hu hp rfl
    exact becomes_eff (f := effTestReinitDone) rfl (effTestReinitDone_back hu hp nofun)
  case backQuill =>
    rintro s k d d2 hu hp hok rfl rfl
    exact becomes_eff (f := effTestReinitDone) rfl ((effTestReinitDone_back hu hp nofun).trans (if_neg (Bool.eq_false_iff.1 hok)))
  case backFailed =>
    intro s k hu hp hfailed
    exact becomes_eff (f := effTestReinitDone) rfl ((effTestReinitDone_back hu hp nofun).trans (if_pos hfailed))
  case backEth =>
    intro s n hu hp
    exact becomes_eff (f := effTestReinitDone) rfl (effTestReinitDone_back hu hp nofun)
  case backShared =>
    intro s u hu hkind hp htake
    refine becomes_eff (f := effTestReinitDone) rfl ((effTestReinitDone_back hu hp fun _ => htake).trans ?_)
    rw [TUnit.shared_reinitUs hkind]
    exact Dev.unitBack_shared hkind
  case backDram =>
    intro s hu hp htake
    exact becomes_eff (f := effTestReinitDone) rfl (effTestReinitDone_back hu hp fun _ => htake)

end Sys2Proof.Machine
end

section
/-! SUPPORT. The membership of a mesh node: election, joining, addresses and leases (spec/16 R378 to R391). -/

namespace Sys2Proof.Machine

section
variable {d e : Dev}

theorem effCandidateListenEnd_elected {t : Nat} (hc : d.msh.state = .candidate) (ht : d.msh.listenUntil = some t)
    (he : e = { d.at_ t with msh := { (d.at_ t).msh with
      state := .root, addr := 0, depth := 0, parent := none, listenUntil := none, leases := [], claimed := [], requests := [], electedAt := (d.at_ t).tb, rootMac := (d.at_ t).nodeMac,
      uplinkLost := none, ownLease := none, ftmFast := true, grantSlot := none, upHeld := [] } }) :
    effCandidateListenEnd d = (d.at_ t).msh.upHeld.foldl (fun d m => d.sendUp m) (e.meshBssSet.raise .msh Cause.MSH.ROOT_CHANGE) := by
  subst he
  simp only [effCandidateListenEnd, hc, ht]

theorem effUplinkHoldExpiry_resigns {t : Nat} (ht : d.msh.uplinkLost = some t) (hr : d.msh.state = .root) (hup : d.hasUplink = false) :
    effUplinkHoldExpiry d = (d.at_ (t + sT (d.fld A.MSH.ROOT_CFG 23 16))).resign := by
  simp [effUplinkHoldExpiry, ht, hr, hup]

/-! A beacon of this mesh -/

section
variable {b : MeshBeacon} (hon : d.meshOn = true) (hid : b.meshId = (d.rd A.MSH.MESH_ID).toNat) (he : e = d.childHeard b.mac)
include hon hid he

/-- What a beacon of this mesh does, by the node's state. -/
theorem effMeshBeaconRx_own : effMeshBeaconRx b d =
    match e.msh.state with
    | .off => e
    | .candidate => if e.endsCandidacy b then e.startScan else e
    | .root => if e.endsRoot b then e.resign else e
    | .scan => (e.hear b).withLinks (fun d => d.onMsh (fun m => { m with state := .joining, listenUntil := some (d.tb + d.meshTicks) }))
    | .joining | .search =>
      match (e.hear b).msh.target with
      | some t => if (e.hear b).msh.reqDue && decide (t.mac = b.mac) then (e.hear b).joinSend b else e.hear b
      | none => if (e.hear b).msh.state = .search ∧ (e.hear b).eligible b then (e.hear b).choose else e.hear b
    | .joined => if e.msh.parent.isSome ∧ b.mac = e.msh.parentMac then e.parentBeacon b else e := by
  subst he
  refine (if_neg ?_).trans rfl
  simp [hon, hid]

theorem effMeshBeaconRx_target {t : MeshBeacon} (hs : e.msh.state = .joining ∨ e.msh.state = .search) (ht : (e.hear b).msh.target = some t) :
    effMeshBeaconRx b d = if (e.hear b).msh.reqDue = true ∧ t.mac = b.mac then (e.hear b).joinSend b else e.hear b := by
  rw [effMeshBeaconRx_own hon hid he]
  rcases hs with hs | hs <;> simp only [hs, ht, Bool.and_eq_true, decide_eq_true_eq]

theorem effMeshBeaconRx_search (hs : e.msh.state = .search) (ht : (e.hear b).msh.target = none) :
    effMeshBeaconRx b d = if (e.hear b).eligible b = true then (e.hear b).choose else e.hear b := by
  have hkept : (e.hear b).msh.state = .search := hs
  rw [effMeshBeaconRx_own hon hid he]
  simp only [hs, ht, hkept, true_and]

end

section
variable {t : Nat} (hs : d.msh.state = .scan) (ht : d.msh.listenUntil = some t) (he : e = d.at_ t)
include hs ht he

theorem effScanDwellExpiry_next (hmore : e.msh.scanIdx + 1 < e.fld A.MSH.SCAN_CFG 4 0) :
    effScanDwellExpiry d = e.dwell (e.msh.scanIdx + 1) := by
  subst he
  simp only [effScanDwellExpiry, hs, ht]
  exact if_pos hmore

theorem effScanDwellExpiry_again (hlast : ¬ e.msh.scanIdx + 1 < e.fld A.MSH.SCAN_CFG 4 0) : effScanDwellExpiry d = e.startScan := by
  subst he
  simp only [effScanDwellExpiry, hs, ht]
  exact if_neg hlast

end

theorem effParentListenEnd_chooses {t : Nat} (hs : d.msh.state = .joining) (ht : d.msh.listenUntil = some t) :
    effParentListenEnd d = (d.at_ t).choose := by
  simp only [effParentListenEnd, hs, ht]

/-! Joining -/

section
variable {ver v : Nat} {q : JoinReq} (hon : d.meshOn = true) (hver : d.verOk ver = true)
include hon hver

section
variable (hv : agree q.minVer q.maxVer d.minVer d.maxVer = some v) (hatt : d.msh.attached = true) (hadm : d.admitting = true)
include hv hatt hadm

theorem effJoinReqRx_admits {now : Nat} (hnow : now = if d.msh.admitSlot = d.ownInterval then d.msh.admittedNow else 0) (hroom : now < 8) :
    effJoinReqRx ver q d = ({ d with msh := { d.msh with
        admitted := d.msh.admitted.filter (fun x => decide (x.req.mac ≠ q.mac)) ++ [{ req := q, version := v, at_ := d.tb }],
        admitSlot := d.ownInterval, admittedNow := now + 1 } } : Dev).originateUp 0x04
      (reqBody { mac := q.mac, held := q.held, depth := d.msh.depth + 1 }) := by
  subst hnow
  simp only [effJoinReqRx, hon, hver, hv, hatt, hadm, Bool.not_true, Bool.or_self, Bool.false_eq_true, if_false]
  exact if_neg (Nat.not_le.2 hroom)

theorem effJoinReqRx_full (hslot : d.msh.admitSlot = d.ownInterval) (hfull : 8 ≤ d.msh.admittedNow) :
    effJoinReqRx ver q d = d.meshLink q.mac q.held 0x03 v [] := by
  simp only [effJoinReqRx, hon, hver, hv, hatt, hadm, Bool.not_true, Bool.or_self, Bool.false_eq_true, if_false, hslot, if_true]
  exact if_pos hfull

end

section
variable {mac : Nat} {b : MeshBeacon} (ht : d.msh.target = some b) (hmac : b.mac = mac)
include ht hmac

theorem effJoinWaitRx_again : effJoinWaitRx ver mac d = { d with msh := { d.msh with reqDue := true } } := by
  simp only [effJoinWaitRx, hon, hver, ht, hmac, Bool.not_true, Bool.false_eq_true, if_false, if_true]

theorem effJoinAcceptRx_joins {addr nonce : Nat} {d1 d4 : Dev} (hdue : d.msh.reqDue = false)
    (h1 : d1 = { d with msh := { d.msh with
      state := .joined, addr := addr, depth := b.depth + 1, parent := some b.addr, parentMac := b.mac,
      parentVer := (agree b.minVer b.maxVer d.minVer d.maxVer).getD 1, parentRssi := b.rssi, parentInterval := b.intervalTu,
      parentLocked := b.locked, parentHops := b.hops, rootMac := b.rootMac, target := none, reqDue := false, reattach := false, bcnLoss := 0,
      searchUntil := none, listenUntil := none, ownLease := some (d.tb + sT d.leaseS), renewAt := d.tb, ftmFast := true, upHeld := [] } })
    (h4 : d4 = (fun e : Dev => if d.msh.reattach then e.count A.MSH.REATTACH_CNT else e)
      (d.msh.upHeld.foldl (fun d m => d.sendUp m) (d1.peerEnter (d1.fld A.MSH.MESH_CFG 9 0) b.mac
        (linkKey d1.msh.key b.mac d1.nodeMac nonce d1.msh.nonce)).meshBssSet).sleepAgain) :
    effJoinAcceptRx ver mac addr nonce d = if addr ≠ d.msh.addr then d4.raise .msh Cause.MSH.ADDR_CHANGED else d4 := by
  subst h1 h4
  have hown : ¬ (b.mac ≠ mac ∨ d.msh.reqDue = true) := by simp [hmac, hdue]
  simp only [effJoinAcceptRx, hon, hver, ht, Bool.not_true, Bool.false_eq_true, if_false]
  rw [if_neg hown]
  simp only [decide_eq_true_eq]

end

end

theorem effJoinTimeout_chooses {b : MeshBeacon} (ht : d.msh.target = some b) (hdue : d.msh.reqDue = false)
    (hs : d.msh.state = .joining ∨ d.msh.state = .search) :
    effJoinTimeout d = ((d.at_ (d.msh.reqAt + d.fld A.MSH.JOIN_CFG 11 8 * d.meshTicks)).count A.MSH.JOIN_RETRY_CNT).choose := by
  simp only [effJoinTimeout, ht]
  exact if_neg (not_or.2 ⟨by simp [hdue], Classical.not_not.2 hs⟩)

/-! Messages towards the root -/

section
variable {m : MeshMsg} (hon : d.meshOn = true) (hver : d.verOk m.version = true)
include hon hver

theorem effUpMessageRx_root (hr : d.msh.state = .root) : effUpMessageRx m d = d.upConsume m := by
  simp [effUpMessageRx, hon, hver, hr]

theorem effUpMessageRx_relay (hr : d.msh.state ≠ .root) (httl : 1 < m.ttl) :
    effUpMessageRx m d = d.sendUp { m with ttl := m.ttl - 1 } := by
  simp [effUpMessageRx, hon, hver, hr, Nat.not_le.2 httl]

end

theorem effGrantSend_grants {l : List AddrReq} {x : Dev × List GrantEnt} (hr : d.msh.state = .root) (hreq : d.msh.requests ≠ [])
    (hslot : d.msh.grantSlot ≠ some d.ownInterval) (hl : l = d.msh.requests.foldl (fun l q => byDepth q l) [])
    (hx : x = (l.take 64).foldl (fun (a : Dev × List GrantEnt) q => ((a.1.grantOne q).1, a.2 ++ (a.1.grantOne q).2.toList))
      (({ d with msh := { d.msh with requests := l.drop 64, grantSlot := some d.ownInterval } } : Dev), [])) :
    effGrantSend d = (x.1.flood 0x05 d.maxDepth (grantBody x.2)).count A.MSH.GRANT_TX_CNT := by
  subst hl hx
  exact if_neg (not_or.2 ⟨Classical.not_not.2 hr, not_or.2 ⟨hreq, hslot⟩⟩)

/-! The ends of leases -/

theorem effLeaseExpiry_root {a : Nat} {l : Lease} (hl : tabFind d.msh.leases a = some l) (hr : d.msh.state = .root) :
    effLeaseExpiry (some a) d = ({ d.at_ l.until_ with
      msh := { (d.at_ l.until_).msh with leases := tabDel (d.at_ l.until_).msh.leases a } } : Dev).count A.MSH.LEASE_EXPIRE_CNT := by
  simp only [effLeaseExpiry, hl]
  exact if_neg (Classical.not_not.2 hr)

theorem effLeaseExpiry_own {t : Nat} (hl : d.msh.ownLease = some t) (hr : d.msh.state ≠ .root) (hoff : d.msh.state ≠ .off) (he : e = d.at_ t) :
    effLeaseExpiry none d = (({ e with msh := { e.msh with addr := 0x3FF, ownLease := none, reattach := false } } : Dev).raise .msh
      Cause.MSH.ADDR_CHANGED).startScan := by
  subst he
  simp only [effLeaseExpiry, hl]
  exact if_neg (not_or.2 ⟨hr, hoff⟩)

end

/-- Settles O24: the branch of each row's effect that the conditions select. -/
theorem meshMembershipComplete : Obligations.MeshMembershipComplete := by
  unfold Obligations.MeshMembershipComplete
  refine ⟨?enable, ?elected, ?hold, ?bcnCandidate, ?bcnRoot, ?bcnScan, ?bcnTarget, ?bcnSearch, ?bcnParent, ?dwell, ?rescan, ?listened,
    ?joinReq, ?joinWait, ?joined, ?waits, ?timeout, ?reqRoot, ?reqRelay, ?grant, ?renew, ?renewRoot, ?leaseEnds, ?ownEnds⟩
  case enable =>
    intro s rq v ha
    exact write_performs rfl ha (by decide) (by decide) (fun d => rfl)
  case elected =>
    rintro s t d e hc ht rfl he
    exact becomes_eff (f := effCandidateListenEnd) rfl (effCandidateListenEnd_elected hc ht he)
  case hold =>
    intro s t ht hr hup
    exact becomes_eff (f := effUplinkHoldExpiry) rfl (effUplinkHoldExpiry_resigns ht hr hup)
  case bcnCandidate =>
    intro s b d hon hid hd hs hends
    refine becomes_eff (f := effMeshBeaconRx b) rfl ((effMeshBeaconRx_own hon hid hd).trans ?_)
    simp only [hs, hends, if_true]
  case bcnRoot =>
    intro s b d hon hid hd hs hends
    refine becomes_eff (f := effMeshBeaconRx b) rfl ((effMeshBeaconRx_own hon hid hd).trans ?_)
    simp only [hs, hends, if_true]
  case bcnScan =>
    rintro s b d e hon hid hd hs rfl
    refine becomes_eff (f := effMeshBeaconRx b) rfl ((effMeshBeaconRx_own hon hid hd).trans ?_)
    simp only [hs, Dev.onMsh]
  case bcnTarget =>
    rintro s b d e t hon hid hd hs rfl ht
    exact becomes_eff (f := effMeshBeaconRx b) rfl (effMeshBeaconRx_target hon hid hd hs ht)
  case bcnSearch =>
    rintro s b d e hon hid hd hs rfl ht
    exact becomes_eff (f := effMeshBeaconRx b) rfl (effMeshBeaconRx_search hon hid hd hs ht)
  case bcnParent =>
    intro s b d hon hid hd hs hp hmac
    refine becomes_eff (f := effMeshBeaconRx b) rfl ((effMeshBeaconRx_own hon hid hd).trans ?_)
    simp only [hs, hp, hmac, true_and, if_true]
  case dwell =>
    rintro s t d e hs ht hd hmore rfl
    exact becomes_eff (f := effScanDwellExpiry) rfl (effScanDwellExpiry_next hs ht hd hmore)
  case rescan =>
    intro s t d hs ht hd hlast
    exact becomes_eff (f := effScanDwellExpiry) rfl (effScanDwellExpiry_again hs ht hd hlast)
  case listened =>
    intro s t hs ht
    exact becomes_eff (f := effParentListenEnd) rfl (effParentListenEnd_chooses hs ht)
  case joinReq =>
    intro s ver v now q hon hver hv hatt hadm hnow hroom
    exact becomes_eff (f := effJoinReqRx ver q) rfl (effJoinReqRx_admits hon hver hv hatt hadm hnow hroom)
  case joinWait =>
    intro s ver v q hon hver hv hatt hadm hslot hfull
    exact becomes_eff (f := effJoinReqRx ver q) rfl (effJoinReqRx_full hon hver hv hatt hadm hslot hfull)
  case joined =>
    intro s ver mac addr nonce b d1 d4 hon hver ht hmac hdue h1 h4
    exact becomes_eff (f := effJoinAcceptRx ver mac addr nonce) rfl (effJoinAcceptRx_joins hon hver ht hmac hdue h1 h4)
  case waits =>
    intro s ver mac b hon hver ht hmac
    exact becomes_eff (f := effJoinWaitRx ver mac) rfl (effJoinWaitRx_again hon hver ht hmac)
  case timeout =>
    intro s b ht hdue hs
    exact becomes_eff (f := effJoinTimeout) rfl (effJoinTimeout_chooses ht hdue hs)
  case reqRoot =>
    intro s m hon hver hr
    exact becomes_eff (f := effUpMessageRx { m with typ := 0x04 }) rfl (effUpMessageRx_root hon hver hr)
  case reqRelay =>
    intro s m hon hver hr httl
    exact becomes_eff (f := effUpMessageRx { m with typ := 0x04 }) rfl (effUpMessageRx_relay hon hver hr httl)
  case grant =>
    intro s l x hr hreq hslot hl hx
    exact becomes_eff (f := effGrantSend) rfl (effGrantSend_grants hr hreq hslot hl hx)
  case renew =>
    rintro s d hs rfl
    exact becomes_eff (f := effLeaseRenewTimer) rfl (if_pos hs)
  case renewRoot =>
    intro s m hon hver hr
    exact becomes_eff (f := effUpMessageRx { m with typ := 0x06 }) rfl (effUpMessageRx_root hon hver hr)
  case leaseEnds =>
    intro s a l hl hr
    exact becomes_eff (f := effLeaseExpiry (some a)) rfl (effLeaseExpiry_root hl hr)
  case ownEnds =>
    intro s t d hl hr hoff hd
    exact becomes_eff (f := effLeaseExpiry none) rfl (effLeaseExpiry_own hl hr hoff hd)

end Sys2Proof.Machine
end

section
/-! SUPPORT. The traffic of a mesh node: floods, sleeping partners, dark periods and its commands (spec/16 R392 to R410). -/

namespace Sys2Proof.Machine

section
variable {d : Dev}

/-! Floods -/

section
variable {m : MeshMsg} (hatt : d.msh.attached = true) (hver : d.verOk m.version = true)
include hatt hver

theorem Dev.floodRx_new {d1 d2 : Dev} (hseen : d.seenFind m.origin m.seq = none)
    (h1 : d1 = ((d.seenAdd m.origin m.seq).count A.MSH.RELAY_RX_CNT).consume m) (h2 : d2 = d1.took) :
    d.floodRx m = if m.ttl ≤ 1 then d1 else { d2 with msh := { d2.msh with
      forwards := insForward (d1.tb + usT (d1.freeVal (d1.fld A.MSH.RELAY_CFG 31 16 + 1))) m d2.msh.forwards } } := by
  subst h1 h2
  simp only [Dev.floodRx, hatt, hver, hseen, Bool.not_true, Bool.false_eq_true, if_false]

theorem Dev.floodRx_seen {e : Seen} (hseen : d.seenFind m.origin m.seq = some e) :
    d.floodRx m = ({ d with msh := { d.msh with
      seen := d.msh.seen.map (fun e => if e.origin = m.origin ∧ e.seq = m.seq then { e with copies := e.copies + 1 } else e) } } : Dev).count
        A.MSH.RELAY_DUP_CNT := by
  simp only [Dev.floodRx, hatt, hver, hseen, Bool.not_true, Bool.false_eq_true, if_false]

end

theorem effRelayForward_next {t n : Nat} {m : MeshMsg} {l : List (Nat × MeshMsg)} {e : Dev} (hl : d.msh.forwards = (t, m) :: l)
    (he : e = { d.at_ t with msh := { (d.at_ t).msh with forwards := l } })
    (hn : n = ((e.seenFind m.origin m.seq).map (fun x => x.copies)).getD 0) :
    effRelayForward d = if e.msh.children = [] ∧ 0 < e.fld A.MSH.RELAY_CFG 3 0 ∧ e.fld A.MSH.RELAY_CFG 3 0 ≤ n
      then e.count A.MSH.RELAY_SUPPR_CNT else (e.meshPut (.flood { m with ttl := m.ttl - 1 })).count A.MSH.RELAY_FWD_CNT := by
  subst he hn
  simp only [effRelayForward, hl]

theorem effSeenExpiry_first {e : Seen} {l : List Seen} (hl : d.msh.seen = e :: l) :
    effSeenExpiry d = { d.at_ (e.at_ + sT 8) with msh := { (d.at_ (e.at_ + sT 8)).msh with seen := l } } := by
  simp only [effSeenExpiry, hl]

/-! The parent -/

theorem effParentBeaconLoss_counts (hs : d.msh.state = .joined) (hfew : d.msh.bcnLoss < 2) :
    effParentBeaconLoss d = { d with msh := { d.msh with bcnLoss := d.msh.bcnLoss + 1 } } :=
  (if_neg (Classical.not_not.2 hs)).trans (if_neg (Nat.not_le.2 hfew))

theorem effParentBeaconLoss_lost (hs : d.msh.state = .joined) (hmany : 2 ≤ d.msh.bcnLoss) : effParentBeaconLoss d = d.parentLost :=
  (if_neg (Classical.not_not.2 hs)).trans (if_pos hmany)

theorem effSearchTimeout_rescans {t : Nat} (hs : d.msh.state = .search) (ht : d.msh.searchUntil = some t) (hnone : d.msh.target = none) :
    effSearchTimeout d = (d.at_ t).startScan := by
  simp [effSearchTimeout, hs, ht, hnone]

/-! Sleep -/

theorem effSleepSchedRx_known {ver mac l : Nat} {c : Child} (hver : d.verOk ver = true)
    (hc : d.msh.children.find? (fun c => decide (c.mac = mac)) = some c) :
    effSleepSchedRx ver mac l d = (({ d with msh := { d.msh with
      children := d.msh.children.map (fun x => if x.mac = mac then { x with listen := l } else x) } } : Dev).childHeard mac).setPs c.sta
        (decide (l ≠ 0)) := by
  simp only [effSleepSchedRx, hver, hc, Bool.not_true, Bool.false_eq_true, if_false, Dev.onMsh]

section
variable {t : Nat} (hw : d.msh.window = some t)
include hw

theorem effWakeWindowOpen_opens {e : Dev} (hs : d.msh.state = .joined) (hopen : d.msh.windowOpen = false) (hrun : d.pmu.state = .run)
    (he : e = d.at_ (t - usT d.msh.guardUs - if (d.rfe.get d.meshRadio).cur = .sleep then d.riseTicks d.meshRadio else 0)) :
    effWakeWindowOpen d =
      ({ e with msh := { e.msh with windowOpen := true, windowGot := false, nap := none } } : Dev).stateCmd e.meshRadio 3 := by
  subst he
  have hgo : ¬ (d.msh.state ≠ .joined ∨ d.msh.windowOpen = true ∨ d.pmu.state ≠ .run) := by simp [hs, hopen, hrun]
  simp only [effWakeWindowOpen, hw]
  exact if_neg hgo

section
variable {e e1 : Dev} (hopen : d.msh.windowOpen = true) (he : e = d.at_ (t + usT (d.msh.guardUs + d.fld A.MSH.SLEEP_CFG 15 0)))
include hopen he

theorem effWakeWindowClose_got (hgot : d.msh.windowGot = true)
    (h1 : e1 = { e with msh := { e.msh with
      windowOpen := false, windowGot := false,
      window := if e.msh.listen = 0 then none else some (e.nextTbtt (e.msh.parent.getD 0) (e.msh.listen - 1)) } }) :
    effWakeWindowClose d = if e1.msh.pull then e1 else e1.partnerNap := by
  subst h1 he
  have hkept : (d.at_ (t + usT (d.msh.guardUs + d.fld A.MSH.SLEEP_CFG 15 0))).msh.windowGot = true := hgot
  simp only [effWakeWindowClose, hw, hopen, Bool.not_true, Bool.false_eq_true, if_false]
  exact if_pos hkept

theorem effWakeWindowClose_missed {e2 : Dev} (hgot : d.msh.windowGot = false) (h1 : e1 = e.count A.MSH.WIN_MISS_CNT)
    (h2 : e2 = { e1 with msh := { e1.msh with
      windowOpen := false, misses := e1.msh.misses + 1, guardUs := min (8 * e1.guardCfg) (2 * e1.msh.guardUs),
      window := some (e1.nextTbtt (e.msh.parent.getD 0) 0) } }) :
    effWakeWindowClose d = if 3 ≤ e2.msh.misses then e2.parentLost else e2.partnerNap := by
  subst h2 h1 he
  have hkept : (d.at_ (t + usT (d.msh.guardUs + d.fld A.MSH.SLEEP_CFG 15 0))).msh.windowGot = false := hgot
  simp only [effWakeWindowClose, hw, hopen, Bool.not_true, Bool.false_eq_true, if_false]
  exact if_neg (Bool.eq_false_iff.1 hkept)

end

end

theorem effChildTimeout_lost {mac : Nat} {c : Child} {e : Dev} (hc : d.msh.children.find? (fun c => decide (c.mac = mac)) = some c)
    (he : e = d.at_ (c.heard + (3 * c.listen + 3) * d.meshTicks)) :
    effChildTimeout mac d = (({ e with msh := { e.msh with children := e.msh.children.filter (fun x => decide (x.mac ≠ mac)) } } : Dev).staDelete
      c.sta).count A.MSH.CHILD_LOST_CNT := by
  subst he
  simp only [effChildTimeout, hc]

/-! Dark periods -/

section
variable {k : Dark} {e : Dev} (hk : d.msh.dark = some k)
include hk

section
variable (hnew : k.started = false) (hrun : d.pmu.state = .run) (he : e = d.at_ (d.tickAt (k.start / 2 ^ 32)))
include hnew hrun he

theorem effDarkStart_eq : effDarkStart d =
    if !e.msh.attached || decide (k.stop ≤ e.tmu.ptp) then { e with msh := { e.msh with dark := none } }
    else e.flushAll.darkSleep { k with started := true, targets := [Radio.a, .b, .c].map (fun r => e.rd (A.RFE.STATE_CMD r)) } := by
  subst he
  simp only [effDarkStart, hk]
  exact if_neg (by simp [hnew, hrun])

theorem effDarkStart_sleeps (hatt : e.msh.attached = true) (hstop : e.tmu.ptp < k.stop) :
    effDarkStart d = e.flushAll.darkSleep { k with started := true, targets := [Radio.a, .b, .c].map (fun r => e.rd (A.RFE.STATE_CMD r)) } :=
  (effDarkStart_eq hk hnew hrun he).trans (if_neg (by simp [hatt, Nat.not_le.2 hstop]))

theorem effDarkStart_passed (h : e.msh.attached = false ∨ k.stop ≤ e.tmu.ptp) :
    effDarkStart d = { e with msh := { e.msh with dark := none } } :=
  (effDarkStart_eq hk hnew hrun he).trans (if_pos (by rcases h with h | h <;> simp [h]))

end

theorem effDarkRetry_again {t : Nat} (ht : k.retryAt = some t) (hold : k.started = true) (hrun : d.pmu.state = .run)
    (hent : d.pmu.entering = none) : effDarkRetry d = (d.at_ t).darkSleep k := by
  simp only [effDarkRetry, hk, ht]
  exact if_neg (by simp [hold, hrun, hent])

theorem effDarkEnd_ends {g : Nat} {d1 d2 : Dev} (hold : k.started = true) (hrun : d.pmu.state = .run)
    (he : e = d.at_ (d.tickAt (k.stop / 2 ^ 32))) (hg : g = max e.guardCfg (10 * ((k.stop - k.start) / (1000000000 * 2 ^ 32)) + 2))
    (h1 : d1 = ([Radio.a, .b, .c].zip k.targets).foldl (fun d e => d.stateCmd e.1 (bitsOf e.2 2 0)) e)
    (h2 : d2 = { d1 with msh := { d1.msh with dark := none, nap := none, ftmFast := true } }) :
    effDarkEnd d = if d2.msh.state ≠ .joined then d2 else if 8 * d2.guardCfg < g then d2.parentLost
      else { d2 with msh := { d2.msh with
        guardUs := g, window := some (d2.nextTbtt (d2.msh.parent.getD 0) 0), windowOpen := false } } := by
  subst h2 h1 hg he
  simp only [effDarkEnd, hk]
  exact if_neg (by simp [hold, hrun])

end

/-! MSG_GET -/

theorem cmdMsgGet_words (ws : List Word) (d : Dev) : (cmdMsgGet ws d).2.words.length ≤ 256 := by
  unfold cmdMsgGet
  cases d.msh.inbox with
  | nil => exact Nat.zero_le _
  | cons m l =>
    simp only [cmdIf]
    split
    · simp only [Ans.ok, List.length_append, List.length_take, List.length_cons, List.length_nil]
      omega
    · exact Nat.zero_le _

theorem cmdMsgGet_first {m : MeshMsg} {l : List MeshMsg} (hl : d.msh.inbox = m :: l) :
    cmdMsgGet [] d = (({ d with msh := { d.msh with inbox := l } } : Dev).follow .msh Cause.MSH.MSG_PENDING (!l.isEmpty),
      Ans.ok ([wd (m.typ + 2 ^ 16 * m.origin), wd (m.seq + 2 ^ 16 * m.payload.length)] ++ (bytesWords m.payload).take 254)) := by
  unfold cmdMsgGet
  simp only [hl]
  exact cmdIf_ok (conds_cons rfl conds_nil)

end

/-- Settles O25: the branch of each row's effect that the conditions select; the commands by their checks. -/
theorem meshTrafficComplete : Obligations.MeshTrafficComplete := by
  unfold Obligations.MeshTrafficComplete
  refine ⟨?floodNew, ?floodSeen, ?forward, ?seen, ?upRoot, ?upRelay, ?loss, ?lost, ?sleepSet, ?sleepSched, ?windowOpen, ?windowGot,
    ?windowMissed, ?search, ?child, ?darkStart, ?darkPassed, ?darkRetry, ?darkEnd, ?report, ?floodSend, ?leaseGet, ?keySet, ?msgGet⟩
  case floodNew =>
    intro s m d1 d2 hatt hver hseen h1 h2
    exact becomes_eff (f := fun d => d.floodRx m) rfl (Dev.floodRx_new hatt hver hseen h1 h2)
  case floodSeen =>
    intro s m e hatt hver hseen
    exact becomes_eff (f := fun d => d.floodRx m) rfl (Dev.floodRx_seen hatt hver hseen)
  case forward =>
    intro s t n m l d hl hd hn
    exact becomes_eff (f := effRelayForward) rfl (effRelayForward_next hl hd hn)
  case seen =>
    intro s e l hl
    exact becomes_eff (f := effSeenExpiry) rfl (effSeenExpiry_first hl)
  case upRoot =>
    intro s m hon hver hr
    exact becomes_eff (f := effUpMessageRx m) rfl (effUpMessageRx_root hon hver hr)
  case upRelay =>
    intro s m hon hver hr httl
    exact becomes_eff (f := effUpMessageRx m) rfl (effUpMessageRx_relay hon hver hr httl)
  case loss =>
    intro s hs hfew
    exact becomes_eff (f := effParentBeaconLoss) rfl (effParentBeaconLoss_counts hs hfew)
  case lost =>
    intro s hs hmany
    exact becomes_eff (f := effParentBeaconLoss) rfl (effParentBeaconLoss_lost hs hmany)
  case sleepSet =>
    intro σ rq ws hs d l m ht h1 h2 h3 h4 h5
    exact command_ok rfl ht hs nofun (by decide) rfl (fun P h o _ => cmdIf_ok (conds_cons (decide_eq_false h1) (conds_cons h2 (conds_cons h3
      (conds_cons (decide_eq_false h4) (conds_cons (decide_eq_false h5) conds_nil)))))) (fun _ => Nat.zero_le _)
  case sleepSched =>
    intro s ver mac l c hver hc
    exact becomes_eff (f := effSleepSchedRx ver mac l) rfl (effSleepSchedRx_known hver hc)
  case windowOpen =>
    intro s t d hw hs hopen hrun hd
    exact becomes_eff (f := effWakeWindowOpen) rfl (effWakeWindowOpen_opens hw hs hopen hrun hd)
  case windowGot =>
    intro s t d d1 hw hopen hgot hd h1
    exact becomes_eff (f := effWakeWindowClose) rfl (effWakeWindowClose_got hw hopen hd hgot h1)
  case windowMissed =>
    intro s t d d1 d2 hw hopen hgot hd h1 h2
    exact becomes_eff (f := effWakeWindowClose) rfl (effWakeWindowClose_missed hw hopen hd hgot h1 h2)
  case search =>
    intro s t hs ht hnone
    exact becomes_eff (f := effSearchTimeout) rfl (effSearchTimeout_rescans hs ht hnone)
  case child =>
    intro s mac c d hc hd
    exact becomes_eff (f := effChildTimeout mac) rfl (effChildTimeout_lost hc hd)
  case darkStart =>
    intro s k d hk hnew hrun hd hatt hstop
    exact becomes_eff (f := effDarkStart) rfl (effDarkStart_sleeps hk hnew hrun hd hatt hstop)
  case darkPassed =>
    intro s k d hk hnew hrun hd h
    exact becomes_eff (f := effDarkStart) rfl (effDarkStart_passed hk hnew hrun hd h)
  case darkRetry =>
    intro s k t hk ht hold hrun hent
    exact becomes_eff (f := effDarkRetry) rfl (effDarkRetry_again hk ht hold hrun hent)
  case darkEnd =>
    intro s k g d d1 d2 hk hold hrun hd hg h1 h2
    exact becomes_eff (f := effDarkEnd) rfl (effDarkEnd_ends hk hold hrun hd hg h1 h2)
  case report =>
    rintro s d rfl
    exact becomes_eff (f := effGroupReportTimer) rfl rfl
  case floodSend =>
    intro σ rq ws hs d w0 typ ttl chunk total bytes want last old chunks whole ht h1 h2 h3
    exact command_ok rfl ht hs nofun (by decide) rfl (fun P h o _ => cmdIf_ok (conds_cons h1 (conds_cons h2 (conds_cons h3 conds_nil))))
      (fun _ => Nat.zero_le _)
  case leaseGet =>
    intro σ rq ws hs d a ht h1 h2 h3
    exact command_ok rfl ht hs nofun (by decide) rfl (fun P h o _ => cmdIf_ok (conds_cons (decide_eq_false h1)
      (conds_cons (decide_eq_false h2) (conds_cons h3 conds_nil)))) (fun _ => Nat.zero_le _)
  case keySet =>
    intro σ rq ws hs ht h1 h2
    exact command_ok rfl ht hs nofun (by decide) rfl (fun P h o _ => cmdIf_ok (conds_cons (decide_eq_false h1) (conds_cons h2 conds_nil)))
      (fun _ => Nat.zero_le _)
  case msgGet =>
    rintro s rq ws d m l hs rfl ht rfl hl
    exact command_ok rfl ht hs nofun (by decide) rfl (fun P h o _ => cmdMsgGet_first hl) (fun d => cmdMsgGet_words _ d)

end Sys2Proof.Machine
end

section
/-! SUPPORT. The Ethernet ports: links, frames, pauses, verification and LPI (spec/13 R317 to R334). -/

namespace Sys2Proof.Machine

/-! The registers of a port -/

theorem ethMode_offset (n : Nat) : A.ETH.MODE n % 4096 = 0x040 := by unfold A.ETH.MODE; omega

theorem ethMacLo_offset (n : Nat) : A.ETH.MAC_LO n % 4096 = 0x08C := by unfold A.ETH.MAC_LO; omega

theorem ethMacHi_offset (n : Nat) : A.ETH.MAC_HI n % 4096 = 0x090 := by unfold A.ETH.MAC_HI; omega

/-- A write of a MAC address register of a port is stored and starts nothing. -/
theorem ethMac_write {c : Instr} {s : State} {rq : Rq} {n a : Nat} {v : Word} (hx : exec c s = s.run (fun d => d.write rq a v))
    (ha : s.dev.accepts rq a v (.eth n) = true) (ho : a % 4096 = 0x08C ∨ a % 4096 = 0x090) (hl : linkReg a = false) :
    Performs c s rq OP.WRITE [] (.eth n) (fun d => d.stored (.eth n) a v) := by
  refine write_stored hx ha (by omega) ?_ hl (fun d => ?_)
  · rcases ho with ho | ho <;> rw [ho] <;> rfl
  · rcases ho with ho | ho <;> rw [ho] <;> rfl

section
variable {d e : Dev} {n : Nat} {p : EthPort}

theorem effLinkUp_up {an r : Nat} {d1 d2 : Dev} (hpres : d.present (.eth n) = true) (hen : (d.blk (.eth n)).enable = true)
    (hdown : (d.ethPort n).link = false) (hst : (d.blk (.eth n)).selftest = false) (hrate : d.ethRate n an = some r)
    (h1 : d1 = (d.hwWake (.eth n)).onEth n (fun p => { p with
      link := true, rate := r, localFault := false, remoteFault := false, fecLock := decide (d.fld (A.ETH.MODE n) 5 4 ≠ 0), idleAt := d.tb }))
    (h2 : d2 = (d1.verifyStart n).raise (.eth n) Cause.ETH.LINK_CHANGE) :
    effLinkUp n an d = ((List.range 8).foldl (fun d c => d.fcJudge n c) (if d2.strideOn n then d2.strideOffer n else d2)).uplinkWatch := by
  subst h2 h1
  simp only [effLinkUp, hpres, hen, hdown, hst, hrate, Bool.not_true, Bool.or_self, Bool.false_eq_true, if_false]

/-! Frames -/

section
variable (hp : p = d.ethPort n) (hl : p.link = true) (hr : p.relocking = false)
include hp hl hr

/-- On a port whose link is up and locked every input has its effect. -/
theorem effEthRxFrame_linked {x : EthIn} : effEthRxFrame n x d =
    match x with
    | .verify => (d.onEth n (fun p => { p with partnerOk := true })).ctlSend n .respond
    | .respond => if p.verify = 1 then d.onEth n (fun p => { p with verify := 2 }) else d
    | .lpi on => d.onEth n (fun p => { p with lpiRx := on })
    | .frame h fcs pre reasm age =>
      if reasm || (pre && !p.partnerOk) then d.count (A.ETH.RX_REASM_ERR_CNT n)
      else if h.len < 64 then d.count (A.ETH.RX_RUNT_CNT n)
      else if d.fld (A.ETH.MAX_FRAME n) 13 0 < h.len then d.count (A.ETH.RX_OVERSIZE_CNT n)
      else if !fcs then d.count (A.ETH.RX_FCS_ERR_CNT n)
      else if !d.inkRoom 0 (cellsOf h.len) then d.count (A.ETH.RX_OVERFLOW_CNT n)
      else if h.etype = 0x8808 then d.count (A.ETH.RX_CTRL_OTHER_CNT n)
      else if n < 2 ∧ h.etype = 0x88B6 ∧ h.dst = 0x0180C200000E then d.count (A.ETH.STRIDE_RX_CNT n)
      else ((d.hwWake (.eth n)).hwWake .pke).ethAccept n h age := by
  subst hp
  exact (if_neg (by simp [hl, hr])).trans rfl

section
variable {h : Hdr} {fcs pre re : Bool} {age : Nat}

theorem effEthRxFrame_reasm (hre : (re || (pre && !p.partnerOk)) = true) :
    effEthRxFrame n (.frame h fcs pre re age) d = d.count (A.ETH.RX_REASM_ERR_CNT n) :=
  (effEthRxFrame_linked hp hl hr).trans (if_pos hre)

section
variable (hre : re = false) (hpre : (pre && !p.partnerOk) = false)
include hre hpre

/-- The checks of a frame that needs no reassembly it cannot have. -/
theorem effEthRxFrame_whole : effEthRxFrame n (.frame h fcs pre re age) d =
      if h.len < 64 then d.count (A.ETH.RX_RUNT_CNT n)
      else if d.fld (A.ETH.MAX_FRAME n) 13 0 < h.len then d.count (A.ETH.RX_OVERSIZE_CNT n)
      else if !fcs then d.count (A.ETH.RX_FCS_ERR_CNT n)
      else if !d.inkRoom 0 (cellsOf h.len) then d.count (A.ETH.RX_OVERFLOW_CNT n)
      else if h.etype = 0x8808 then d.count (A.ETH.RX_CTRL_OTHER_CNT n)
      else if n < 2 ∧ h.etype = 0x88B6 ∧ h.dst = 0x0180C200000E then d.count (A.ETH.STRIDE_RX_CNT n)
      else ((d.hwWake (.eth n)).hwWake .pke).ethAccept n h age :=
  (effEthRxFrame_linked hp hl hr).trans (if_neg (by simp [hre, hpre]))

section
variable (hmin : ¬ h.len < 64) (hmax : ¬ d.fld (A.ETH.MAX_FRAME n) 13 0 < h.len)
include hmin hmax

theorem effEthRxFrame_badFcs (hfcs : fcs = false) :
    effEthRxFrame n (.frame h fcs pre re age) d = d.count (A.ETH.RX_FCS_ERR_CNT n) := by
  rw [effEthRxFrame_whole hp hl hr hre hpre, if_neg hmin, if_neg hmax, hfcs]
  rfl

/-- A good frame of a legal length. -/
theorem effEthRxFrame_good (hfcs : fcs = true) : effEthRxFrame n (.frame h fcs pre re age) d =
      if !d.inkRoom 0 (cellsOf h.len) then d.count (A.ETH.RX_OVERFLOW_CNT n)
      else if h.etype = 0x8808 then d.count (A.ETH.RX_CTRL_OTHER_CNT n)
      else if n < 2 ∧ h.etype = 0x88B6 ∧ h.dst = 0x0180C200000E then d.count (A.ETH.STRIDE_RX_CNT n)
      else ((d.hwWake (.eth n)).hwWake .pke).ethAccept n h age := by
  rw [effEthRxFrame_whole hp hl hr hre hpre, if_neg hmin, if_neg hmax, hfcs]
  rfl

/-- A good frame for which Inkwell has room. -/
theorem effEthRxFrame_stored (hfcs : fcs = true) (hroom : d.inkRoom 0 (cellsOf h.len) = true) : effEthRxFrame n (.frame h fcs pre re age) d =
      if h.etype = 0x8808 then d.count (A.ETH.RX_CTRL_OTHER_CNT n)
      else if n < 2 ∧ h.etype = 0x88B6 ∧ h.dst = 0x0180C200000E then d.count (A.ETH.STRIDE_RX_CNT n)
      else ((d.hwWake (.eth n)).hwWake .pke).ethAccept n h age :=
  (effEthRxFrame_good hp hl hr hre hpre hmin hmax hfcs).trans (if_neg (by simp [hroom]))

end

end

end

end

/-! Pauses and verification -/

theorem effXoffRefresh_first {c t : Nat} {x : Nat × Nat} {rest : Tab Nat} {d1 : Dev} (hx : (d.ethPort n).xoff = x :: rest) (hfc : d.fcMode n ≠ 0)
    (hl : (d.ethPort n).link = true) (hct : (c, t) = rest.foldl (fun m e => if e.2 < m.2 then e else m) x) (h1 : d1 = d.at_ t) :
    effXoffRefresh n d = if d1.fcBelow n c then d1.fcXon n c else d1.fcXoff n c := by
  subst h1
  simp only [effXoffRefresh, hx, ← hct]
  exact if_neg (by simp [hfc, hl])

theorem effPauseTimerExpiry_ends {c t : Nat} (ht : tabFind (d.ethPort n).paused c = some t) :
    effPauseTimerExpiry n c d = ((d.at_ t).onEth n (fun p => { p with paused := tabDel p.paused c })).settle (8256 + 8 * n + c) := by
  simp only [effPauseTimerExpiry, ht]

theorem effVerifyTimer_again {d1 : Dev} (hv : (d.ethPort n).verify = 1) (hfew : (d.ethPort n).attempts < 3)
    (h1 : d1 = d.at_ (d.ethPort n).verifyDue) :
    effVerifyTimer n d = (d1.onEth n (fun p => { p with
      attempts := p.attempts + 1, verifyDue := d1.tb + msT (d.fld (A.ETH.PREEMPT_CFG n) 23 16) })).ctlSend n .verify := by
  subst h1
  exact (if_neg (Classical.not_not.2 hv)).trans (if_pos hfew)

theorem effVerifyTimer_fails (hv : (d.ethPort n).verify = 1) (hmany : 3 ≤ (d.ethPort n).attempts) :
    effVerifyTimer n d = (((d.at_ (d.ethPort n).verifyDue).onEth n (fun p => { p with verify := 3 })).count (A.ETH.VERIFY_FAIL_CNT n)).raise
      (.eth n) Cause.ETH.VERIFY_FAIL :=
  (if_neg (Classical.not_not.2 hv)).trans (if_neg (Nat.not_lt.2 hmany))

theorem effLpiEntry_idle (hp : p = d.ethPort n) (hl : p.link = true) (heee : d.bit (A.ETH.EEE_CFG n) 0 = true) (hmode : d.lpiMode n = true)
    (htx : p.tx = none) (hsus : p.suspended = none) (hstride : p.stride = none) (hwake : p.waking = none) (hlpi : p.lpiTx = false)
    (hctl : p.ctl = []) (hnone : ((List.range 8).any (fun c => (d.ethEligible n c).isSome)) = false) :
    effLpiEntry n d = (((d.at_ (p.idleAt + usT (d.fld (A.ETH.EEE_CFG n) 23 8))).onEth n (fun p => { p with lpiTx := true })).emit
      (.eth n (.lpi true))).count (A.ETH.LPI_TX_CNT n) := by
  subst hp
  refine (if_neg ?_).trans rfl
  simp [hl, heee, hmode, htx, hsus, hstride, hwake, hlpi, hctl, hnone]

theorem effLpiWakeDone_ends {t : Nat} (ht : (d.ethPort n).waking = some t) :
    effLpiWakeDone n d = ((d.at_ t).onEth n (fun p => { p with waking := none, idleAt := max d.tb t })).ctlFlush n := by
  simp only [effLpiWakeDone, ht]

/-! PTP frames -/

theorem effPtpFrameRx_other {h : Hdr} {fcs : Bool} {x : PtpIn} (hno : (d.ptpFrame n h && d.ethGood n h fcs) = false) :
    effPtpFrameRx n h fcs x d = effEthRxFrame n (.frame h fcs false false 0) d :=
  if_pos (by rw [← Bool.not_and, hno]; rfl)

theorem effPtpFrameRx_ptp {h : Hdr} {x : PtpIn} (hptp : d.ptpFrame n h = true) (hgood : d.ethGood n h true = true) :
    effPtpFrameRx n h true x d =
      (let d2 := (effEthRxFrame n (.frame h true false false 0) d).onTmu (fun t => { t with
        ptpRole := x.role, ptpSteps := x.steps, hops := if x.role = 1 then 0 else t.hops })
       match x.role, x.theta with
       | 2, some th => d2.servoSample 1 th d.syncTicks (min 255 (x.steps + 1))
       | _, _ => d2) :=
  (if_neg (by simp [hptp, hgood])).trans rfl

end

/-- Settles O19: the branch of each row's effect that the conditions select. -/
theorem ethernetPortCommandsComplete : Obligations.EthernetPortCommandsComplete := by
  unfold Obligations.EthernetPortCommandsComplete
  refine ⟨?mode, ?up, ?down, ?reasm, ?runt, ?oversize, ?badFcs, ?overflow, ?control, ?stride, ?frame, ?verifyRx, ?respond, ?lpiRx, ?refresh,
    ?pause, ?pauseOther, ?pfc, ?pfcOther, ?unpause, ?verify, ?verifyFails, ?lpiEntry, ?lpiWake, ?mac, ?notPtp, ?ptp⟩
  case mode =>
    intro s rq n v hn ha
    have ho := ethMode_offset n
    refine write_stored rfl ha (by omega) (by rw [ho]; rfl) ((by decide : ∀ n < 10, linkReg (A.ETH.MODE n) = false) n hn) (fun d => ?_)
    rw [ho]
    rfl
  case up =>
    intro s n an r d1 d2 hpres hen hdown hst hrate h1 h2
    exact becomes_eff (f := effLinkUp n an) rfl (effLinkUp_up hpres hen hdown hst hrate h1 h2)
  case down =>
    intro s n loc rem hpres
    exact becomes_eff (f := effLinkDown n loc rem) rfl (if_neg (by simp [hpres]))
  case reasm =>
    intro s n p h fcs pre re age hp hl hr hre
    exact becomes_eff (f := effEthRxFrame n (.frame h fcs pre re age)) rfl (effEthRxFrame_reasm hp hl hr hre)
  case runt =>
    intro s n p h fcs pre re age hp hl hr hre hpre hmin
    exact becomes_eff (f := effEthRxFrame n (.frame h fcs pre re age)) rfl ((effEthRxFrame_whole hp hl hr hre hpre).trans (if_pos hmin))
  case oversize =>
    intro s n p h fcs pre re age hp hl hr hre hpre hmin hmax
    exact becomes_eff (f := effEthRxFrame n (.frame h fcs pre re age)) rfl
      ((effEthRxFrame_whole hp hl hr hre hpre).trans ((if_neg hmin).trans (if_pos hmax)))
  case badFcs =>
    intro s n p h fcs pre re age hp hl hr hre hpre hmin hmax hfcs
    exact becomes_eff (f := effEthRxFrame n (.frame h fcs pre re age)) rfl (effEthRxFrame_badFcs hp hl hr hre hpre hmin hmax hfcs)
  case overflow =>
    intro s n p h fcs pre re age hp hl hr hre hpre hmin hmax hfcs hroom
    exact becomes_eff (f := effEthRxFrame n (.frame h fcs pre re age)) rfl
      ((effEthRxFrame_good hp hl hr hre hpre hmin hmax hfcs).trans (if_pos (by rw [hroom]; rfl)))
  case control =>
    intro s n p h fcs pre re age hp hl hr hre hpre hmin hmax hfcs hroom htype
    exact becomes_eff (f := effEthRxFrame n (.frame h fcs pre re age)) rfl
      ((effEthRxFrame_stored hp hl hr hre hpre hmin hmax hfcs hroom).trans (if_pos htype))
  case stride =>
    intro s n p h fcs pre re age hp hl hr hre hpre hmin hmax hfcs hroom htype hstride
    exact becomes_eff (f := effEthRxFrame n (.frame h fcs pre re age)) rfl
      ((effEthRxFrame_stored hp hl hr hre hpre hmin hmax hfcs hroom).trans ((if_neg htype).trans (if_pos hstride)))
  case frame =>
    intro s n p h fcs pre re age hp hl hr hre hpre hmin hmax hfcs hroom htype hstride
    exact becomes_eff (f := effEthRxFrame n (.frame h fcs pre re age)) rfl
      ((effEthRxFrame_stored hp hl hr hre hpre hmin hmax hfcs hroom).trans ((if_neg htype).trans (if_neg hstride)))
  case verifyRx =>
    intro s n p hp hl hr
    exact becomes_eff (f := effEthRxFrame n .verify) rfl (effEthRxFrame_linked hp hl hr)
  case respond =>
    intro s n p hp hl hr hv
    exact becomes_eff (f := effEthRxFrame n .respond) rfl ((effEthRxFrame_linked hp hl hr).trans (if_pos hv))
  case lpiRx =>
    intro s n p on hp hl hr
    exact becomes_eff (f := effEthRxFrame n (.lpi on)) rfl (effEthRxFrame_linked hp hl hr)
  case refresh =>
    intro s n c t e rest d1 hx hfc hl hct h1
    exact becomes_eff (f := effXoffRefresh n) rfl (effXoffRefresh_first hx hfc hl hct h1)
  case pause =>
    intro s n dst q hl hfc hmine
    exact becomes_eff (f := effPauseRx n dst q) rfl ((if_neg (by simp [hl])).trans (if_pos ⟨hfc, hmine⟩))
  case pauseOther =>
    intro s n dst q hl hno
    exact becomes_eff (f := effPauseRx n dst q) rfl ((if_neg (by simp [hl])).trans (if_neg hno))
  case pfc =>
    intro s n dst en ts hl hfc hmine
    exact becomes_eff (f := effPfcRx n dst en ts) rfl ((if_neg (by simp [hl])).trans (if_pos ⟨hfc, hmine⟩))
  case pfcOther =>
    intro s n dst en ts hl hno
    exact becomes_eff (f := effPfcRx n dst en ts) rfl ((if_neg (by simp [hl])).trans (if_neg hno))
  case unpause =>
    intro s n c t ht
    exact becomes_eff (f := effPauseTimerExpiry n c) rfl (effPauseTimerExpiry_ends ht)
  case verify =>
    intro s n d1 hv hfew h1
    exact becomes_eff (f := effVerifyTimer n) rfl (effVerifyTimer_again hv hfew h1)
  case verifyFails =>
    intro s n hv hmany
    exact becomes_eff (f := effVerifyTimer n) rfl (effVerifyTimer_fails hv hmany)
  case lpiEntry =>
    intro s n p hp hl heee hmode htx hsus hstride hwake hlpi hctl hnone
    exact becomes_eff (f := effLpiEntry n) rfl (effLpiEntry_idle hp hl heee hmode htx hsus hstride hwake hlpi hctl hnone)
  case lpiWake =>
    intro s n t ht
    exact becomes_eff (f := effLpiWakeDone n) rfl (effLpiWakeDone_ends ht)
  case mac =>
    rintro s rq n (_ | _) v hn ha
    · exact ethMac_write rfl ha (Or.inl (ethMacLo_offset n)) ((by decide : ∀ n < 10, linkReg (A.ETH.MAC_LO n) = false) n hn)
    · exact ethMac_write rfl ha (Or.inr (ethMacHi_offset n)) ((by decide : ∀ n < 10, linkReg (A.ETH.MAC_HI n) = false) n hn)
  case notPtp =>
    intro s n h fcs x hno
    exact becomes_eff (f := effPtpFrameRx n h fcs x) rfl (effPtpFrameRx_other hno)
  case ptp =>
    rintro s n h x d d2 hptp hgood rfl rfl
    exact becomes_eff (f := effPtpFrameRx n h true x) rfl (effPtpFrameRx_ptp hptp hgood)

end Sys2Proof.Machine
end

section
/-! SUPPORT. Inkwell, the DRAM controller and the data-plane reset (spec/14 R336 to R352, R499). -/

namespace Sys2Proof.Machine

section
variable {d e : Dev}

/-- The two ways in which training is under way: at start, and at the thaw after a freeze. -/
def Dev.trainsNow (d : Dev) : Prop := d.mem.ddr = .training ∧ d.mem.trained = false ∨ d.mem.ddr = .frozen ∧ d.mem.thawing = true

theorem effDdrTrainingDone_under {ok : Bool} (h : d.trainsNow) : effDdrTrainingDone ok d =
    if ok then d.onMem (fun m => { m with trained := true, trainFails := 0 })
    else if d.mem.trainFails = 0 then d.onMem (fun m => { m with trainFails := 1 })
    else d.trainFailed :=
  if_pos (h.imp_left (fun ⟨hd, ht⟩ => ⟨hd, by rw [ht]; rfl⟩))

theorem effDdrInitEarlyDone_serves {base : Nat} (hd : d.mem.ddr = .training) (ht : d.mem.trained = true)
    (he : e = d.onMem (fun m => { m with
      ddr := .serving, initEarly := true, served := true, frontier := min (d.fld A.MEM.INIT_CFG 15 0) d.dramMib }))
    (hbase : base = d.fld A.PMU.RESUME_BASE_LO 31 20 * 2 ^ 20 + (d.rd A.PMU.RESUME_BASE_HI).toNat * 2 ^ 32) :
    effDdrInitEarlyDone d = (e.setBlk .mem { e.blk .mem with inited := true }).onPmu (fun p => { p with
      resumeBody := decide (base + 4 * 2 ^ 20 ≤ d.dramMib * 2 ^ 20) }) := by
  subst he hbase
  exact if_pos ⟨hd, ht⟩

theorem effDdrRefresh_refreshes {rank n : Nat} {urgent : Bool} (hs : d.mem.ddr = .serving ∨ d.mem.ddr = .selfRefresh ∨ d.mem.ddr = .frozen)
    (hr : rank ≤ d.fld A.MEM.DDR_CFG 7 7) (hn : n = tabGet 0 d.mem.postponed rank) :
    effDdrRefresh rank urgent d =
      d.onMem (fun m => { m with postponed := tabSet 0 m.postponed rank (if urgent ∧ n < 4 then n + 1 else 0) }) := by
  subst hn
  refine if_neg ?_
  rcases hs with hs | hs | hs <;> simp [hs, Nat.not_lt.2 hr]

section
variable (hs : d.mem.ddr = .serving)
include hs

theorem Dev.answers_of_serving : d.answers = true := decide_eq_true hs

theorem effDdrReadReturn_served {port addr errs ns : Nat} {synd : List Word} (hp : port < 12) (he : e = d.latency port ns) :
    effDdrReadReturn port addr errs synd ns d =
      (if 8 ≤ port ∧ e.poisoned addr = true then e.count A.MEM.POISON_READ_CNT else e).eccSeen port addr errs synd := by
  subst he
  have hgo : ¬ (!d.answers || decide (11 < port)) = true := by simp [Dev.answers_of_serving hs, Nat.le_of_lt_succ hp]
  unfold effDdrReadReturn
  rw [if_neg hgo]
  simp only [Bool.and_eq_true, decide_eq_true_eq]

theorem effWriteCrcAlert_served {port addr n : Nat} {part : Bool} (hp : port < 12) : effWriteCrcAlert port part addr n d =
    if n < 4 then d.count A.MEM.WCRC_RETRY_CNT
    else if port = 5 then (d.freeze 2 (if part then 2 else 1) port addr []).spillFailed addr
    else if port = 0 then (d.freeze 2 (if part then 2 else 1) port addr []).bucketWriteFailed addr
    else d.freeze 2 (if part then 2 else 1) port addr [] :=
  if_neg (by simp [Dev.answers_of_serving hs, Nat.le_of_lt_succ hp])

theorem effWriteCrcAlert_freezes {port addr n : Nat} {part : Bool} (hp : port < 12) (hmany : 4 ≤ n)
    (he : e = d.freeze 2 (if part then 2 else 1) port addr []) : effWriteCrcAlert port part addr n d =
    if port = 5 then e.spillFailed addr else if port = 0 then e.bucketWriteFailed addr else e := by
  rw [effWriteCrcAlert_served hs hp, if_neg (Nat.not_lt.2 hmany), he]

end

/-! The commands of the freeze -/

theorem Dev.frzDue_apart (h : d.tb ≠ d.frzWdogAt) : d.frzDue = d := if_neg h

theorem cmdThaw_thaws (htb : d.tb ≠ d.frzWdogAt) (hf : d.mem.ddr = .frozen) (ht : d.mem.thawing = false) (hr : d.mem.dpReset = false) :
    cmdThaw [0] d = (d.poisonCaptured.onMem (fun m => { m with
      thawing := true, trainFails := 0, trained := !(decide (d.mem.frz.cause = 2 ∨ d.mem.frz.cause = 3) || m.frzParity) }), Ans.ok []) := by
  unfold cmdThaw
  rw [Dev.frzDue_apart htb]
  exact cmdIf_ok (conds_cons rfl (conds_cons (decide_eq_false (Classical.not_not.2 hf)) (conds_cons rfl (conds_cons (by rw [ht, hr]; rfl) conds_nil))))

theorem cmdDpReset_resets (htb : d.tb ≠ d.frzWdogAt) :
    cmdDpReset [0] d = (if d.mem.dpReset then d else (d.bstEarly 4).dpBegin, Ans.ok []) := by
  unfold cmdDpReset
  rw [Dev.frzDue_apart htb]
  exact cmdIf_ok (conds_cons rfl (conds_cons rfl conds_nil))

end

/-- A write of INK_USE with a zero peak sets the peak to the present use (R339). -/
theorem blockPost_inkUse {d : Dev} {k : Nat} {old new : Word} (hk : k < 6) :
    d.blockPost .mem (A.MEM.INK_USE k % 4096) old new 0 = d.onMem (fun m => { m with inkPeak := tabSet 0 m.inkPeak k (tabGet 0 m.inkUse k) }) := by
  have ho : A.MEM.INK_USE k % 4096 = 0x050 + 4 * k := by unfold A.MEM.INK_USE; omega
  have hindex : (0x050 + 4 * k - 0x050) / 4 = k := by omega
  rw [ho]
  refine (if_pos (by omega)).trans ?_
  rw [hindex]
  rfl

/-- Settles O22: the branch of each row's effect that the conditions select; the writes and commands are accepted. -/
theorem memoryCommandsComplete : Obligations.MemoryCommandsComplete := by
  unfold Obligations.MemoryCommandsComplete
  refine ⟨?part, ?commit, ?peak, ?cfg, ?enable, ?disable, ?stopped, ?trained, ?failsOnce, ?fails, ?initEarly, ?inited, ?refresh, ?mr4, ?retrain,
    ?drift, ?zq, ?read, ?retry, ?crc, ?patrol, ?thaw, ?thawed, ?dpReset, ?dpDone, ?watchdog⟩
  case part =>
    intro s rq k v hk ha
    have hx : exec (.inkPartWrite rq k v) s = s.run (fun d => d.write rq (A.MEM.INK_PART0 + 4 * k) v) := by
      show s.run (fun d => d.write rq (A.MEM.INK_PART0 + 4 * (k % 2)) v) = _
      rw [Nat.mod_eq_of_lt hk]
    obtain rfl | rfl : k = 0 ∨ k = 1 := by omega
    · exact write_stored hx ha (by decide) (by decide) (by decide) (fun d => rfl)
    · exact write_stored hx ha (by decide) (by decide) (by decide) (fun d => rfl)
  case commit =>
    intro s rq ha
    exact write_stored rfl ha (by decide) (by decide) (by decide) (fun d => rfl)
  case peak =>
    intro s rq k hk ha
    have hx : exec (.inkPeakClear rq k) s = s.run (fun d => d.write rq (A.MEM.INK_USE k) 0) := by
      show s.run (fun d => d.write rq (A.MEM.INK_USE (k % 6)) 0) = _
      rw [Nat.mod_eq_of_lt hk]
    exact write_stored hx ha ((by decide : ∀ k < 6, 0x040 ≤ A.MEM.INK_USE k % 4096) k hk)
      ((by decide : ∀ k < 6, (regAt .mem (A.MEM.INK_USE k % 4096)).isSome = true) k hk)
      ((by decide : ∀ k < 6, linkReg (A.MEM.INK_USE k) = false) k hk) (fun d => blockPost_inkUse hk)
  case cfg =>
    intro s rq v ha
    exact write_stored rfl ha (by decide) (by decide) (by decide) (fun d => rfl)
  case enable =>
    intro s rq v ha
    exact write_stored rfl ha (by decide) (by decide) (by decide) (fun d => rfl)
  case disable =>
    intro s rq v ha
    exact write_stored rfl ha (by decide) (by decide) (by decide) (fun d => rfl)
  case stopped =>
    intro s hstop hbusy
    exact becomes_eff (f := effDdrStopDone) rfl (if_pos (by rw [hstop, hbusy]; rfl))
  case trained =>
    intro s h
    exact becomes_eff (f := effDdrTrainingDone true) rfl (effDdrTrainingDone_under h)
  case failsOnce =>
    intro s h hfails
    exact becomes_eff (f := effDdrTrainingDone false) rfl ((effDdrTrainingDone_under h).trans (if_pos hfails))
  case fails =>
    intro s h hfails
    exact becomes_eff (f := effDdrTrainingDone false) rfl ((effDdrTrainingDone_under h).trans (if_neg hfails))
  case initEarly =>
    intro s d1 base hd ht h1 hbase
    exact becomes_eff (f := fun d => (effDdrInitEarlyDone d).dlAll) rfl (congrArg Dev.dlAll (effDdrInitEarlyDone_serves hd ht h1 hbase))
  case inited =>
    intro s hs he
    exact becomes_eff (f := effDdrInitDone) rfl (if_pos ⟨hs, he⟩)
  case refresh =>
    intro s rank n urgent hs hr hn
    exact becomes_eff (f := effDdrRefresh rank urgent) rfl (effDdrRefresh_refreshes hs hr hn)
  case mr4 =>
    intro s a b hs
    exact becomes_eff (f := effMr4Poll a b) rfl (if_pos hs)
  case retrain =>
    intro s ps hs hfar
    exact becomes_eff (f := effDqsOscRead ps) rfl ((if_neg (by simp [hs])).trans (if_pos hfar))
  case drift =>
    intro s ps hs hnear
    exact becomes_eff (f := effDqsOscRead ps) rfl ((if_neg (by simp [hs])).trans (if_neg hnear))
  case zq =>
    rintro s d1 hs rfl
    exact becomes_eff (f := effZqCal) rfl (if_pos hs)
  case read =>
    intro s port addr errs synd ns d1 hs hp h1
    exact becomes_eff (f := effDdrReadReturn port addr errs synd ns) rfl (effDdrReadReturn_served hs hp h1)
  case retry =>
    intro s port part addr n hs hp hfew
    refine becomes_eff (f := fun d => (effWriteCrcAlert port part addr n d).storeFailed port d) rfl ?_
    exact congrArg (Dev.storeFailed · port s.dev) ((effWriteCrcAlert_served hs hp).trans (if_pos hfew))
  case crc =>
    intro s port part addr n d1 hs hp hmany h1
    refine becomes_eff (f := fun d => (effWriteCrcAlert port part addr n d).storeFailed port d) rfl ?_
    exact congrArg (Dev.storeFailed · port s.dev) (effWriteCrcAlert_freezes hs hp hmany h1)
  case patrol =>
    intro s errs synd hs hon
    exact becomes_eff (f := effPatrolScrub errs synd) rfl (if_neg (by simp [hs, hon]))
  case thaw =>
    rintro s rq ws d hs rfl ht rfl htb hf hthaw hreset
    exact command_ok rfl ht hs nofun (by decide) rfl (fun P h o _ => cmdThaw_thaws htb hf hthaw hreset) (fun _ => Nat.zero_le _)
  case thawed =>
    rintro s d1 hf ht htr rfl
    exact becomes_eff (f := effThawDone) rfl (if_pos ⟨hf, ht, htr⟩)
  case dpReset =>
    rintro s rq ws d hs rfl ht rfl htb
    exact command_ok rfl ht hs nofun (by decide) rfl (fun P h o _ => cmdDpReset_resets htb) (fun _ => Nat.zero_le _)
  case dpDone =>
    intro s htest htake
    exact becomes_eff (f := effDataPlaneResetDone) rfl (if_neg (by simp [htest, htake]))
  case watchdog =>
    intro s hf ht hr
    exact becomes_eff (f := effFreezeWatchdog) rfl (if_pos ⟨hf, by rw [ht]; rfl, hr.imp_left (by intro h; rw [h]; rfl)⟩)

end Sys2Proof.Machine
end

section
/-! SUPPORT. Time: the clocks, timed sends, the servo's sources, PPS and timed launches (spec/15). -/

namespace Sys2Proof.Machine

/-- TS_SEND of a frame that no check refuses. -/
theorem cmdTsSend_takes {d : Dev} {rq : Rq} {ws : List Word} {x : TsLaunch}
    (hx : x = { port := bitsOf (word ws 0) 3 0, oneStep := bitOf (word ws 0) 8, len := bitsOf (word ws 0) 31 16,
                hOfs := bitsOf (word ws 1) 23 16, launch := if bitOf (word ws 0) 9 then some (pair ws 2) else none,
                tolUs := if bitsOf (word ws 1) 7 0 = 0 then 50 else bitsOf (word ws 1) 7 0, bytes := ws.drop 4 })
    (hlen : ws.length = 4 + ceilDiv x.len 4) (hport : x.port < d.ports) (hlink : (d.ethPort x.port).link = true)
    (hsrc : rq.src = .mp ∨ d.bit A.TMU.PTP_CFG0 0 = false) (h0 : extra (word ws 0) 0xFFFF030F = false)
    (h1 : extra (word ws 1) 0x00FF00FF = false) (hsize : outside x.len 60 128 = false)
    (hsoon : ∀ t, x.launch = some t → t ≤ d.ptpNs + 1000000000) (hstep : x.oneStep = true → x.hOfs + 44 ≤ x.len) :
    cmdTsSend rq ws d = (d.onTmu (fun t => { t with launches := t.launches ++ [x] }), { Ans.ok [] with later := true }) := by
  subst hx
  refine if_pos (refuse_nil (conds_cons (decide_eq_false ?len) (conds_cons (decide_eq_false (Nat.not_le.2 hport)) (conds_cons ?link
    (conds_cons ?src (conds_cons ?value conds_nil))))))
  case len => exact not_or.2 ⟨by rw [hlen]; omega, Classical.not_not.2 hlen⟩
  case link => exact congrArg not hlink
  case src => rcases hsrc with h | h <;> simp [h]
  case value =>
    have hnear : (bitOf (word ws 0) 9 && decide (d.ptpNs + 1000000000 < pair ws 2)) = false := by
      rw [Bool.and_eq_false_imp]
      intro h
      exact decide_eq_false (Nat.not_lt.2 (hsoon _ (if_pos h)))
    have hroom : (bitOf (word ws 0) 8 && decide (bitsOf (word ws 0) 31 16 < bitsOf (word ws 1) 23 16 + 44)) = false := by
      rw [Bool.and_eq_false_imp]
      intro h
      exact decide_eq_false (Nat.not_lt.2 (hstep h))
    rw [h0, h1, hsize, hnear, hroom]
    rfl

/-! The launch of a timed frame -/

/-- The device at the time of a launch. -/
def TsLaunch.when_ (x : TsLaunch) (d : Dev) : Dev :=
  match x.launch with
  | some t => d.at_ (d.tickAt t)
  | none => d

/-- A launch is late when its time passed by more than its tolerance. -/
def TsLaunch.late (x : TsLaunch) (now : Nat) : Bool :=
  match x.launch with
  | some t => decide (t + 1000 * x.tolUs < now)
  | none => false

theorem TsLaunch.late_iff {x : TsLaunch} {now : Nat} : x.late now = true ↔ ∃ t, x.launch = some t ∧ t + 1000 * x.tolUs < now := by
  unfold TsLaunch.late
  cases x.launch <;> simp

/-- A frame leaves at the egress time `te`. -/
def TsLaunch.sent (x : TsLaunch) (n : Nat) (te : Nat × Nat) (out : List Byte) (e : Dev) : Dev :=
  (((e.emit (.eth n (.timed (bytesWords out) (if x.oneStep then some te.2 else none)))).count A.TMU.PTP_TX_CNT).count
    (A.ETH.TX_OK_CNT n)).countN (A.ETH.TX_OCTET_CNT n) (wireLen (x.len + 4))

section
variable {d e : Dev} {n : Nat} {x : TsLaunch} (hx : d.tmu.launches.find? (fun x => decide (x.port = n)) = some x)
  (he : e = (x.when_ d).onTmu (fun t => { t with launches := t.launches.erase x }))
include hx he

/-- What becomes of the frame that is to leave a port. -/
theorem effTsSendLaunch_eq : effTsSendLaunch n d =
    if !(e.ethPort n).link then e.execDone RC.NOT_IN_STATE 0 []
    else
      let g := (e.lpiForLaunch n x.launch.isSome).expressTurn n
      if (g.ethPort n).noStart then d
      else if x.late g.ptpNs then (g.count A.TMU.LAUNCH_LATE_CNT).execDone RC.BUSY 2 []
      else (x.sent n (g.egressTime n) (if x.oneStep then oneStepBytes ((wordsBytes x.bytes).take x.len) x.hOfs (g.egressTime n).2
        else (wordsBytes x.bytes).take x.len) g).execDone RC.OK 0 (timeWords (g.egressTime n).1 (g.egressTime n).2) := by
  subst he
  unfold effTsSendLaunch
  simp only [hx]
  rfl

theorem effTsSendLaunch_noLink (hdown : (e.ethPort n).link = false) : effTsSendLaunch n d = e.execDone RC.NOT_IN_STATE 0 [] :=
  (effTsSendLaunch_eq hx he).trans (if_pos (by rw [hdown]; rfl))

section
variable {g : Dev} (hup : (e.ethPort n).link = true) (hg : g = (e.lpiForLaunch n x.launch.isSome).expressTurn n)
  (hgo : (g.ethPort n).noStart = false)
include hup hg hgo

theorem effTsSendLaunch_late {t : Nat} (ht : x.launch = some t) (hlate : t + 1000 * x.tolUs < g.ptpNs) :
    effTsSendLaunch n d = (g.count A.TMU.LAUNCH_LATE_CNT).execDone RC.BUSY 2 [] := by
  subst hg
  exact (effTsSendLaunch_eq hx he).trans ((if_neg (by simp [hup])).trans ((if_neg (by simp [hgo])).trans
    (if_pos (TsLaunch.late_iff.2 ⟨t, ht, hlate⟩))))

theorem effTsSendLaunch_sent (hin : ∀ t, x.launch = some t → g.ptpNs ≤ t + 1000 * x.tolUs) {out : List Byte}
    (hout : out = (if x.oneStep then oneStepBytes ((wordsBytes x.bytes).take x.len) x.hOfs (g.egressTime n).2
      else (wordsBytes x.bytes).take x.len)) :
    effTsSendLaunch n d = (x.sent n (g.egressTime n) out g).execDone RC.OK 0 (timeWords (g.egressTime n).1 (g.egressTime n).2) := by
  subst hg hout
  have hlate : ¬ x.late ((e.lpiForLaunch n x.launch.isSome).expressTurn n).ptpNs = true := by
    rw [TsLaunch.late_iff]
    rintro ⟨t, ht, h⟩
    exact Nat.not_lt.2 (hin t ht) h
  exact (effTsSendLaunch_eq hx he).trans ((if_neg (by simp [hup])).trans ((if_neg (by simp [hgo])).trans (if_neg hlate)))

end

end

section
variable {d e : Dev}

/-! The sources of the servo -/

theorem effSourceTimeout_lost {c : Nat} {x : Source} (hx : tabFind d.tmu.sources c = some x) :
    effSourceTimeout c d = (d.at_ (x.last + 4 * x.interval)).noSource := by
  simp only [effSourceTimeout, hx]

section
variable {sub t : Nat} (hon : d.bit A.TMU.PPS_CFG 0 = true)
include hon

theorem effPpsInEdge_early (ht : d.tmu.ppsEdge = some t) (hearly : d.tb - t < sT 9 / 10) : effPpsInEdge sub d = d.count A.TMU.PPS_MISS_CNT := by
  simp only [effPpsInEdge, hon, ht, Bool.not_true, Bool.false_eq_true, if_false]
  exact if_pos hearly

theorem effPpsInEdge_late (ht : d.tmu.ppsEdge = some t) (hlate : sT 11 / 10 < d.tb - t) :
    effPpsInEdge sub d = (d.onTmu (fun x => { x with ppsEdge := some x.tb })).count A.TMU.PPS_MISS_CNT := by
  have hearly : ¬ d.tb - t < sT 9 / 10 := by
    simp only [sT] at hlate ⊢
    omega
  simp only [effPpsInEdge, hon, ht, Bool.not_true, Bool.false_eq_true, if_false]
  exact (if_neg hearly).trans (if_pos hlate)

theorem effPpsInEdge_sample {n : Nat} {off : Int} (hn : n = (d.ptpNs + sub) % 1000000000)
    (hoff : off = if n < 500000000 then Int.ofNat n else Int.ofNat n - 1000000000)
    (hin : ∀ t, d.tmu.ppsEdge = some t → sT 9 / 10 ≤ d.tb - t ∧ d.tb - t ≤ sT 11 / 10) :
    effPpsInEdge sub d = (d.onTmu (fun x => { x with ppsEdge := some x.tb })).servoSample 3
      ((off - signed 16 (d.fld A.TMU.PPS_CFG 31 16)) * 65536) (sT 1) 0xFF := by
  subst hoff hn
  simp only [effPpsInEdge, hon, Bool.not_true, Bool.false_eq_true, if_false]
  cases ht : d.tmu.ppsEdge with
  | none => rfl
  | some t =>
    obtain ⟨hearly, hlate⟩ := hin t ht
    exact (if_neg (Nat.not_lt.2 hearly)).trans (if_neg (Nat.not_lt.2 hlate))

end

/-! Timed launches on a link -/

section
variable {r : Radio} {q t : Nat} {v : TxVec} {x : TimedSeen} {h : Entry} (hh : d.headReady q = some h) (ht : h.wl.launch = some t)
include hh ht

/-- The launch of a queue's head by its time. -/
theorem effTimedLaunch_eq : effTimedLaunch r q v x d =
    if d.ptpNs ≤ t + 1000 * (if h.wl.tol = 0 then 50 else h.wl.tol) then
      if !d.avail r || !linkAllowed r h then d
      else
        let d2 := (d.at_ (d.tickAt t - d.wayToTx r)).onHead q (fun e => { e with wl := { e.wl with
          launch := none, lateAt := some (d.tickAt (t + 1000 * (if h.wl.tol = 0 then 50 else h.wl.tol))) } })
        if d2.expiry r (acOf h.wl.tid) ≤ d2.tb then effBackoffExpiry r [acOf h.wl.tid] (x.start q v) d2 else d2
    else if h.wl.lateFinal then ((d.count A.TMU.LAUNCH_LATE_CNT).depart q).lose h RC.TX_LATE
    else (d.count A.TMU.LAUNCH_LATE_CNT).onHead q (fun e => { e with wl := { e.wl with launch := none, late := e.wl.late + 1 } }) := by
  simp only [effTimedLaunch, hh, ht]

theorem effTimedLaunch_late (hlate : t + 1000 * (if h.wl.tol = 0 then 50 else h.wl.tol) < d.ptpNs) : effTimedLaunch r q v x d =
    if h.wl.lateFinal then ((d.count A.TMU.LAUNCH_LATE_CNT).depart q).lose h RC.TX_LATE
    else (d.count A.TMU.LAUNCH_LATE_CNT).onHead q (fun e => { e with wl := { e.wl with launch := none, late := e.wl.late + 1 } }) :=
  (effTimedLaunch_eq hh ht).trans (if_neg (Nat.not_le.2 hlate))

theorem effTimedLaunch_inTime (hin : d.ptpNs ≤ t + 1000 * (if h.wl.tol = 0 then 50 else h.wl.tol)) (havail : d.avail r = true)
    (hlink : linkAllowed r h = true) (he : e = (d.at_ (d.tickAt t - d.wayToTx r)).onHead q (fun e => { e with wl := { e.wl with
      launch := none, lateAt := some (d.tickAt (t + 1000 * (if h.wl.tol = 0 then 50 else h.wl.tol))) } })) :
    effTimedLaunch r q v x d =
      if e.expiry r (acOf h.wl.tid) ≤ e.tb then effBackoffExpiry r [acOf h.wl.tid] (x.start q v) e else e := by
  subst he
  exact (effTimedLaunch_eq hh ht).trans ((if_pos hin).trans (if_neg (by simp [havail, hlink])))

end

end

/-- Settles O23: the branch of each row's effect that the conditions select; the commands by their checks. -/
theorem timeCommandsComplete : Obligations.TimeCommandsComplete := by
  unfold Obligations.TimeCommandsComplete
  refine ⟨?timeGet, ?timeSet, ?tsfSet, ?tsSend, ?noLink, ?late, ?sent, ?ofsPut, ?tb2ptp, ?source, ?holdover, ?sync, ?ftmStart, ?ftmFails, ?ftmEnd,
    ?pps, ?ppsEarly, ?ppsLate, ?ppsRise, ?ppsFall, ?launchLate, ?launch, ?window⟩
  case timeGet =>
    intro σ rq ws hs d ht h1
    exact command_ok rfl ht hs nofun (by decide) rfl (fun P h o _ => cmdIf_ok (conds_cons (decide_eq_false h1) conds_nil)) (fun _ => Nat.zero_le _)
  case timeSet =>
    intro σ rq ws hs d rel ns new ht h1 h2
    exact command_ok rfl ht hs nofun (by decide) rfl (fun P h o _ => cmdIf_ok (conds_cons (decide_eq_false h1) (conds_cons h2 conds_nil)))
      (fun _ => Nat.zero_le _)
  case tsfSet =>
    intro σ rq ws hs w ht h1 h2
    exact command_ok rfl ht hs nofun (by decide) rfl (fun P h o _ => cmdIf_ok (conds_cons (decide_eq_false h1) (conds_cons h2 conds_nil)))
      (fun _ => Nat.zero_le _)
  case tsSend =>
    rintro s rq ws d x hs rfl ht hx hlen hport hlink hsrc h0 h1 hsize hsoon hstep
    exact command_later rfl ht hs nofun (by decide) rfl (a := { Ans.ok [] with later := true }) rfl rfl
      (fun P h o _ => cmdTsSend_takes hx hlen hport hlink hsrc h0 h1 hsize hsoon hstep) (fun _ => Nat.zero_le _)
  case noLink =>
    intro s n x d hx hd hdown
    exact becomes_eff (f := fun d => (effTsSendLaunch n d).serveAll) rfl (congrArg Dev.serveAll (effTsSendLaunch_noLink hx hd hdown))
  case late =>
    intro s n x d t e hx hd hup he hgo ht hlate
    exact becomes_eff (f := fun d => (effTsSendLaunch n d).serveAll) rfl (congrArg Dev.serveAll (effTsSendLaunch_late hx hd hup he hgo ht hlate))
  case sent =>
    rintro s n x d out e g hx hd hup he hgo hin hout rfl
    exact becomes_eff (f := fun d => (effTsSendLaunch n d).serveAll) rfl (congrArg Dev.serveAll (effTsSendLaunch_sent hx hd hup he hgo hin hout))
  case ofsPut =>
    intro σ rq ws hs ms ht h1 h2
    exact command_ok rfl ht hs nofun (by decide) rfl (fun P h o _ => cmdIf_ok (conds_cons (decide_eq_false h1) (conds_cons h2 conds_nil)))
      (fun _ => Nat.zero_le _)
  case tb2ptp =>
    intro σ rq ws hs d t ht h1 h2
    exact command_ok rfl ht hs nofun (by decide) rfl (fun P h o _ => cmdIf_ok (conds_cons (decide_eq_false h1) (conds_cons h2 conds_nil)))
      (fun _ => Nat.zero_le _)
  case source =>
    intro s c x hx
    exact becomes_eff (f := effSourceTimeout c) rfl (effSourceTimeout_lost hx)
  case holdover =>
    intro s hs
    exact becomes_eff (f := effHoldoverExpiry) rfl (if_pos hs)
  case sync =>
    rintro s d hon hrole rfl
    refine becomes_eff (f := effPtpSyncTimer) rfl ((if_neg (by simp [hon, hrole])).trans ?_)
    cases htwo : s.dev.bit A.TMU.PTP_CFG0 2 <;> rfl
  case ftmStart =>
    rintro s d hp hf rfl
    exact becomes_eff (f := effFtmBurstStart) rfl (if_neg (by simp [Option.isSome_iff_ne_none.1 hp, hf]))
  case ftmFails =>
    intro s b hops hf hnone
    exact becomes_eff (f := effFtmBurstEnd b hops) rfl ((if_neg (by simp [Option.isSome_iff_ne_none.1 hf])).trans (if_pos hnone))
  case ftmEnd =>
    rintro s b hops ths hf rfl hsome
    exact becomes_eff (f := effFtmBurstEnd b hops) rfl ((if_neg (by simp [Option.isSome_iff_ne_none.1 hf])).trans (if_neg hsome))
  case pps =>
    intro s sub n off hon hn hoff hin
    exact becomes_eff (f := effPpsInEdge sub) rfl (effPpsInEdge_sample hon hn hoff hin)
  case ppsEarly =>
    intro s sub t hon ht hearly
    exact becomes_eff (f := effPpsInEdge sub) rfl (effPpsInEdge_early hon ht hearly)
  case ppsLate =>
    intro s sub t hon ht hlate
    exact becomes_eff (f := effPpsInEdge sub) rfl (effPpsInEdge_late hon ht hlate)
  case ppsRise =>
    rintro s d hlow hon rfl
    exact becomes_eff (f := effPpsOutEdge) rfl ((if_neg (by simp [hlow])).trans (if_neg (by simp [hon])))
  case ppsFall =>
    intro s hhigh
    exact becomes_eff (f := effPpsOutEdge) rfl (if_pos hhigh)
  case launchLate =>
    intro s r q t v x e hh ht hlate
    exact becomes_eff (f := fun d => d.onMedium r (effTimedLaunch r q v x)) rfl (Dev.onMedium_congr (effTimedLaunch_late hh ht hlate))
  case launch =>
    intro s r q t v x e d hh ht hin havail hlink hd
    exact becomes_eff (f := fun d => d.onMedium r (effTimedLaunch r q v x)) rfl
      (Dev.onMedium_congr (effTimedLaunch_inTime hh ht hin havail hlink hd))
  case window =>
    intro s a b hrun
    exact becomes_eff (f := effF0Window a b) rfl (if_pos hrun)

end Sys2Proof.Machine
end

section
/-! SUPPORT. The traffic manager: queues, Pacers, spilling and the departures of a port (spec/11). -/

namespace Sys2Proof.Machine

/-! Pacers -/

/-- At its refill an enabled Pacer takes one increment, under the configuration that waited. -/
theorem Pacer.upTo_refill {p : Pacer} (h : p.cfg.enable = true) : p.upTo p.refillAt =
    { cfg := p.last, next := none, credit := min (p.credit + p.last.inc) (16 * p.last.burst),
      refillAt := p.refillAt + usT p.last.periodUs } := by
  have hone : (if p.last.enable then (p.refillAt - p.refillAt) / max 1 (usT p.last.periodUs) + 1 else 1) = 1 := by simp
  unfold Pacer.upTo
  rw [if_neg (by simp [h])]
  simp only [hone, Nat.one_mul, Int.natCast_one, Int.one_mul]

/-- The clock stands at a time that is neither past nor beyond its range. -/
theorem Dev.tb_at_future {d : Dev} {t : Nat} (hle : d.tb ≤ t) (hlt : t < 2 ^ 64) : (d.at_ t).tb = t := by
  show (d.tmu.tb + (t - d.tmu.tb)) % 2 ^ 64 = t
  rw [Nat.add_sub_of_le hle, Nat.mod_eq_of_lt hlt]

section
variable {d e : Dev}

theorem effPacerRefill_refills {k : Nat} {p : Pacer} {c : PacerCfg} (hp : tabFind d.tmg.pacers k = some p) (hen : p.cfg.enable = true)
    (hin : d.tb ≤ p.refillAt ∧ p.refillAt < 2 ^ 64) (hc : c = p.last)
    (he : e = (d.at_ p.refillAt).setPacer k { cfg := c, next := none, credit := min (p.credit + c.inc) (16 * c.burst),
                                              refillAt := p.refillAt + usT c.periodUs }) :
    effPacerRefill k d = (e.pacedBy k).foldl (fun d q => (d.dlBytes q).settle q) e := by
  obtain ⟨hle, hlt⟩ := hin
  have hfound : tabFind (d.at_ p.refillAt).tmg.pacers k = some p := hp
  have hpacer : (d.at_ p.refillAt).pacer k =
      { cfg := c, next := none, credit := min (p.credit + c.inc) (16 * c.burst), refillAt := p.refillAt + usT c.periodUs } := by
    rw [Dev.pacer, hfound, Dev.tb_at_future hle hlt, hc]
    exact Pacer.upTo_refill hen
  rw [he, ← hpacer]
  simp only [effPacerRefill, hp]
  exact if_neg (by simp [hen])

/-! Spilling -/

theorem effSpillWriteDone_first {q : Nat} {x : Entry} (hs : d.mem.ddr = .serving) (hx : (d.queue q).entries.find? Entry.writing = some x)
    (he : e = d.setQueue q { d.queue q with
      entries := onFirst Entry.writing (fun e => { e with inInk := false, writing := false }) (d.queue q).entries }) :
    effSpillWriteDone q d =
      ((List.range (4 * cellsOf x.len)).foldl (fun d i => d.setPoison (x.dram + 64 * i) false) e).cellsFree x.share x.cells x.ingress := by
  subst he
  refine (if_pos (decide_eq_true hs)).trans ?_
  simp only [Dev.spillDone, hx]

section
variable {q : Nat} {x : Queue} {f : Entry} (hq : x = d.queue q) (hf : x.entries.find? Entry.inDram = some f) (hs : d.mem.ddr = .serving)
  (hw : f.writing = false) (hahead : depthOf (x.entries.takeWhile (fun e => !e.inDram)) < 1024 * (d.profile x.profile).spill)
include hq hf hs hw hahead

/-- What the read of the first entry in DRAM brings. -/
theorem effRefillDone_eq : effRefillDone q d =
    if d.rangePoisoned f.dram (256 * cellsOf f.len) then
      ((((d.setQueue q { x with entries := x.entries.filter (fun g => decide (g.fid ≠ f.fid)),
                                dropCnt := satAdd 32 x.dropCnt 1 }).count A.MEM.POISON_READ_CNT).lose f RC.FROZEN).dlBytes q).settle q
    else if !d.inkRoom (d.destShare q f.share) f.cells then d
    else
      let sh := d.destShare q f.share
      let d0 := d.setQueue q { x with entries := onFirst Entry.inDram (fun g => { g with
        inInk := true, share := sh, ingress := if sh = g.share then g.ingress else none }) x.entries }
      let d1 := d0.cellsTake sh f.cells (if sh = f.share then f.ingress else none)
      (((d1.spillSet (d0.tmg.spillUsed - cellsOf f.len)).count A.TMG.REFILL_CNT).dlBytes q).settle q := by
  subst hq
  have hanswers : d.answers = true := decide_eq_true hs
  have hgo : ¬ (!d.answers || f.writing ||
      !(decide (depthOf ((d.queue q).entries.takeWhile (fun e => !e.inDram)) < 1024 * (d.profile (d.queue q).profile).spill))) = true := by
    simp [hanswers, hw, hahead]
  simp only [effRefillDone, hf]
  exact if_neg hgo

end

/-! Departures of an Ethernet port -/

section
variable {n : Nat} {ce ue : Bool} {p : EthPort} (hp : p = d.ethPort n) (hl : p.link = true) (hstart : p.noStart = false)
include hp hl hstart

theorem effEthTxStart_wakes (hlpi : p.lpiTx = true) (hany : ((List.range 8).any (fun c => (d.ethEligible n c).isSome)) = true) :
    effEthTxStart n ce ue d = d.lpiLeave n := by
  subst hp
  simp only [effEthTxStart, hl, hstart, hlpi, hany, Bool.not_true, Bool.or_self, Bool.false_eq_true, if_false, if_true]

section
variable (hlpi : p.lpiTx = false)
include hlpi

theorem effEthTxStart_idle {r : Option (Nat × Entry)} (htx : p.tx = none) (hpick : d.ethPick n p.suspended.isSome = (e, r)) :
    effEthTxStart n ce ue d =
      match r with
      | some (c, x) => e.ethStart n c x ce ue
      | none => e.ethResume n := by
  subst hp
  rcases r with _ | ⟨c, x⟩ <;>
    simp only [effEthTxStart, hl, hstart, hlpi, htx, hpick, Bool.not_true, Bool.or_self, Bool.false_eq_true, if_false]

section
variable {x : EthTx} {b : Nat} (htx : p.tx = some x) (hx : x.express = false) (hpre : d.preempts n = true) (hcut : d.cutAt n x = some b)
include htx hx hpre hcut

theorem effEthTxStart_preempts {c : Nat} {f : Entry} (hctl : p.ctl = []) (hpick : d.ethPick n true = (e, some (c, f))) :
    effEthTxStart n ce ue d = (e.ethCut n x b).ethStart n c f ce ue := by
  subst hp
  simp only [effEthTxStart, hl, hstart, hlpi, htx, hx, hpre, hcut, hctl, hpick, List.isEmpty_nil, Bool.not_true, Bool.or_self,
    Bool.false_eq_true, if_false]

theorem effEthTxStart_control (hctl : p.ctl.isEmpty = false) : effEthTxStart n ce ue d = (d.ethCut n x b).ctlFlush n := by
  subst hp
  simp only [effEthTxStart, hl, hstart, hlpi, htx, hx, hpre, hcut, hctl, Bool.not_true, Bool.not_false, Bool.or_self, Bool.false_eq_true,
    if_false, if_true]

end

end

end

theorem effEthTxFrameEnd_ends {n : Nat} {x : EthTx} {d1 d2 : Dev} (hx : (d.ethPort n).tx = some x)
    (h1 : d1 = (d.at_ x.stop).onEth n (fun p => { p with tx := none, idleAt := max d.tb x.stop }))
    (h2 : d2 = (d1.emit (.eth n (.frame x.entry x.express))).count (A.ETH.TX_OK_CNT n)) :
    effEthTxFrameEnd n d = ((d2.countN (A.ETH.TX_OCTET_CNT n) (wireLen x.entry.len)).ctlFlush n).release x.entry := by
  subst h2 h1
  simp only [effEthTxFrameEnd, hx]

end

/-- Settles O16: the commands by their checks, the events by the branch the conditions select. -/
theorem queueCommandsComplete : Obligations.QueueCommandsComplete := by
  unfold Obligations.QueueCommandsComplete
  refine ⟨?queueSet, ?profileSet, ?pacerSet, ?meterSet, ?meterStat, ?queueStat, ?queueFlush, ?refill, ?age, ?spilled, ?refilled, ?poisoned,
    ?resume, ?spillCfg, ?start, ?resumes, ?preempts, ?control, ?wakes, ?frameEnd⟩
  case queueSet =>
    intro σ rq ws hs d w q ht h1 h2 h3
    exact command_ok rfl ht hs nofun (by decide) rfl (fun P h o _ => cmdIf_ok (conds_cons (decide_eq_false h1) (conds_cons h2
      (conds_cons h3 conds_nil)))) (fun _ => Nat.zero_le _)
  case profileSet =>
    intro σ rq ws hs p ht h1 h2
    exact command_ok rfl ht hs nofun (by decide) rfl (fun P h o _ => cmdIf_ok (conds_cons (decide_eq_false h1) (conds_cons h2 conds_nil)))
      (fun _ => Nat.zero_le _)
  case pacerSet =>
    intro σ rq ws hs d w k c named ht h1 h2
    exact command_ok rfl ht hs nofun (by decide) rfl (fun P h o _ => cmdIf_ok (conds_cons (decide_eq_false h1) (conds_cons h2 conds_nil)))
      (fun _ => Nat.zero_le _)
  case meterSet =>
    intro σ rq ws hs w mode cir pir cbs ebs bad ht h1 h2
    exact command_ok rfl ht hs nofun (by decide) rfl (fun P h o _ => cmdIf_ok (conds_cons (decide_eq_false h1) (conds_cons h2 conds_nil)))
      (fun _ => Nat.zero_le _)
  case meterStat =>
    intro σ rq ws hs d m two ht h1 h2
    exact command_ok rfl ht hs nofun (by decide) rfl (fun P h o _ => cmdIf_ok (conds_cons (decide_eq_false h1) (conds_cons h2 conds_nil)))
      (fun _ => Nat.zero_le _)
  case queueStat =>
    intro σ rq ws hs d q x ht h1 h2 h3
    exact command_ok rfl ht hs nofun (by decide) rfl (fun P h o _ => cmdIf_ok (conds_cons (decide_eq_false h1) (conds_cons h2
      (conds_cons h3 conds_nil)))) (fun _ => Nat.zero_le _)
  case queueFlush =>
    intro σ rq ws hs d q ht h1 h2 h3
    exact command_ok rfl ht hs nofun (by decide) rfl (fun P h o _ => cmdIf_ok (conds_cons (decide_eq_false h1) (conds_cons h2
      (conds_cons h3 conds_nil)))) (fun _ => Nat.zero_le _)
  case refill =>
    intro s k p c e hp hen hin hc he
    exact becomes_eff (f := effPacerRefill k) rfl (effPacerRefill_refills hp hen hin hc he)
  case age =>
    intro s q hkind hpresent
    exact becomes_eff (f := effAgeCheck q) rfl (if_neg (by simp [Option.isSome_iff_ne_none.1 hkind, hpresent]))
  case spilled =>
    intro s q e d1 hs he h1
    exact becomes_eff (f := effSpillWriteDone q) rfl (effSpillWriteDone_first hs he h1)
  case refilled =>
    rintro s q x e sh d0 d1 hq he hs hw hahead hclean rfl hroom rfl rfl
    exact becomes_eff (f := effRefillDone q) rfl ((effRefillDone_eq hq he hs hw hahead).trans ((if_neg (Bool.eq_false_iff.1 hclean)).trans
      (if_neg (by simp [hroom]))))
  case poisoned =>
    intro s q x e hq he hs hw hahead hbad
    exact becomes_eff (f := effRefillDone q) rfl ((effRefillDone_eq hq he hs hw hahead).trans (if_pos hbad))
  case resume =>
    intro s n
    exact becomes_eff (f := effHostRingAdmitResume n) rfl rfl
  case spillCfg =>
    intro s rq k v hk ha
    have hx : exec (.spillCfgWrite rq k v) s = s.run (fun d => d.write rq (A.TMG.SPILL_BASE_LO + 4 * k) v) := by
      show s.run (fun d => d.write rq (A.TMG.SPILL_BASE_LO + 4 * (k % 3)) v) = _
      rw [Nat.mod_eq_of_lt hk]
    obtain rfl | rfl | rfl : k = 0 ∨ k = 1 ∨ k = 2 := by omega
    · exact write_stored hx ha (by decide) (by decide) (by decide) (fun d => rfl)
    · exact write_stored hx ha (by decide) (by decide) (by decide) (fun d => rfl)
    · exact write_stored hx ha (by decide) (by decide) (by decide) (fun d => rfl)
  case start =>
    intro s n ce ue p d1 c e hp hl hstart hlpi htx hpick
    exact becomes_eff (f := effEthTxStart n ce ue) rfl (effEthTxStart_idle hp hl hstart hlpi htx hpick)
  case resumes =>
    intro s n ce ue p d1 hp hl hstart hlpi htx hpick
    exact becomes_eff (f := effEthTxStart n ce ue) rfl (effEthTxStart_idle hp hl hstart hlpi htx hpick)
  case preempts =>
    intro s n ce ue p x d1 c e b hp hl hstart hlpi htx hx hctl hpre hpick hcut
    exact becomes_eff (f := effEthTxStart n ce ue) rfl (effEthTxStart_preempts hp hl hstart hlpi htx hx hpre hcut hctl hpick)
  case control =>
    intro s n ce ue p x b hp hl hstart hlpi htx hx hctl hpre hcut
    exact becomes_eff (f := effEthTxStart n ce ue) rfl (effEthTxStart_control hp hl hstart hlpi htx hx hpre hcut hctl)
  case wakes =>
    intro s n ce ue p hp hl hstart hlpi hany
    exact becomes_eff (f := effEthTxStart n ce ue) rfl (effEthTxStart_wakes hp hl hstart hlpi hany)
  case frameEnd =>
    intro s n x d1 d2 hx h1 h2
    exact becomes_eff (f := effEthTxFrameEnd n) rfl (effEthTxFrameEnd_ends hx h1 h2)

end Sys2Proof.Machine
end

section
/-! SUPPORT. The packet engine's frame path: admission, held frames and the host's frames (spec/12). -/

namespace Sys2Proof.Machine

section
variable {d e : Dev}

/-! Admission -/

section
variable {f g : InFrame} (hready : d.ready .pke = true) (hroom : d.pke.jobs.length < 1024) (harb : d.arbiter = some (f, e))
  (hg : g = { f with hdr := e.parse f.hdr })
include hready hroom harb hg

/-- What becomes of the frame the arbiter chose. -/
theorem effPkeAdmit_eq : effPkeAdmit d =
    if e.isAcp g then e.dropFrame f
    else match e.holdOf (domainOf g.hdr (e.vlanOf g)) with
      | some (t, h) => e.enlist t h f
      | none =>
        let j : PkeJob := { frame := f, domain := domainOf g.hdr (e.vlanOf g), vlan := e.vlanOf g, decided := false, waits := none, dests := [],
                            token := none, stuck := false, passed := false, view := g.hdr, due := d.tb + 100 }
        let d2 := e.onPke (fun p => { p with jobs := p.jobs ++ [j] })
        if d2.jobTurn j then d2.decideJob j false else d2 := by
  subst hg
  refine (if_neg (by simp [hready, Nat.not_le.2 hroom])).trans ?_
  rw [harb] <;> rfl

theorem effPkeAdmit_held {t : Nat} {x : Hold} (hacp : e.isAcp g = false) (hh : e.holdOf (domainOf g.hdr (e.vlanOf g)) = some (t, x)) :
    effPkeAdmit d = e.enlist t x f := by
  rw [effPkeAdmit_eq hready hroom harb hg, if_neg (Bool.eq_false_iff.1 hacp), hh]

theorem effPkeAdmit_job {d2 : Dev} {v dom : Nat} {j : PkeJob} (hacp : e.isAcp g = false) (hv : v = e.vlanOf g) (hdom : dom = domainOf g.hdr v)
    (hh : e.holdOf dom = none)
    (hj : j = { frame := f, domain := dom, vlan := v, decided := false, waits := none, dests := [], token := none, stuck := false,
                passed := false, view := g.hdr, due := d.tb + 100 })
    (h2 : d2 = e.onPke (fun p => { p with jobs := p.jobs ++ [j] })) :
    effPkeAdmit d = if d2.jobTurn j then d2.decideJob j false else d2 := by
  subst h2 hj hdom hv
  rw [effPkeAdmit_eq hready hroom harb hg, if_neg (Bool.eq_false_iff.1 hacp), hh]

end

/-! The frame's decision and its release in sequence -/

section
variable {id : Nat} {j : PkeJob} (hj : d.pke.jobs.find? (fun j => decide (j.frame.id = id)) = some j)
include hj

theorem effFlowBucketReadDone_decides {k : FlowKey} (hk : j.waits = some k) (hs : d.mem.ddr = .serving) (he : e = d.bucketRead k.bucket) :
    effFlowBucketReadDone id d = (e.decideJob j true).decideBehind j.domain e.pke.jobs.length := by
  subst he
  have hanswers : ¬ (!d.answers) = true := by simp [Dev.answers, hs]
  simp only [effFlowBucketReadDone, hj, hk]
  exact if_neg hanswers

section
variable {left : List Dest} {first : Bool}
  (hfirst : ((d.pke.jobs.takeWhile (fun x => decide (x.frame.id ≠ id))).any (fun x => decide (x.domain = j.domain))) = false)
  (hdec : j.decided = true) (htmg : d.ready .tmg = true) (hhand : (d.at_ j.due).handOff j (!j.passed) j.dests = (e, left, first))
include hfirst hdec htmg hhand

/-- The first undelivered frame of its domain goes to its destinations as far as they take it. -/
theorem effSequenceRelease_eq : effSequenceRelease id d =
    if left = [] then
      let d2 := e.onPke (fun p => { p with jobs := p.jobs.filter (fun x => decide (x.frame.id ≠ id)) })
      if first && j.dests.isEmpty then d2.dropFrame j.frame else d2
    else e.setJob id (fun x => { x with dests := left, stuck := true, passed := !first }) := by
  have hgo : ¬ ((d.pke.jobs.takeWhile (fun x => decide (x.frame.id ≠ id))).any (fun x => decide (x.domain = j.domain)) || !j.decided ||
      !d.ready .tmg) = true := by rw [hfirst, hdec, htmg]; decide
  simp only [effSequenceRelease, hj, hhand]
  exact if_neg hgo

end

end

/-! The host's frames -/

/-- The device that has counted a new submission of a ring. -/
def Dev.counted (d : Dev) (n : Nat) : Dev := d.nextFid.submitted n d.tmg.nextFid

/-- A frame that a host ring brings, before its direction. -/
def Dev.hostFrame (d : Dev) (n : Nat) (h : Hdr) (len : Nat) (direct : Option (Nat × Nat)) : InFrame :=
  { id := d.tmg.nextFid, source := 10, hdr := { h with len := len + 4 }, time := d.tb, sta := none, tid := 0, bss := 0, direct := direct,
    cells := cellsOf (len + 4), share := 5, icls := 0, ring := some n }

section
variable {n len : Nat} {w : List Word} {h : Hdr} (hlen : len = bitsOf (word w 0) 31 16)
include hlen

section
variable (hrel : bitOf (word w 0) 9 = false) (hroom : d.inkRoom 5 (cellsOf (len + 4)) = true)
include hrel hroom

theorem Dev.hostSend_routed {f : InFrame} (hdir : bitOf (word w 0) 8 = false) (hsize : outside len 60 10236 = false)
    (hf : f = d.hostFrame n h len none)
    (he : e = ((d.counted n).cellsTake 5 f.cells none).onPke (fun p => { p with waiting := tabPut p.waiting 10 (tabGet [] p.waiting 10 ++ [f]) })) :
    d.hostSend n w h = some (e.complete n f.id (e.sendWords (word w 1) RC.OK)) := by
  subst he hf hlen
  unfold Dev.hostSend
  simp only [hrel, hdir, Bool.false_and, Bool.false_eq_true, if_false, Bool.not_false, Bool.true_and]
  rw [if_neg (by rw [hsize]; decide), if_neg (by rw [hroom]; decide)]
  rfl

theorem Dev.hostSend_direct {f : InFrame} {port : Nat} (hdir : bitOf (word w 0) 8 = true) (hport : port = bitsOf (word w 4) 19 16)
    (hpres : d.present (.eth port) = true) (hsize : outside len 60 (d.fld (A.ETH.MAX_FRAME port) 13 0 - 4) = false)
    (hf : f = d.hostFrame n h len (some (port, bitsOf (word w 4) 22 20)))
    (he : e = ((d.counted n).cellsTake 5 f.cells none).onPke (fun p => { p with waiting := tabPut p.waiting 10 (tabGet [] p.waiting 10 ++ [f]) })) :
    d.hostSend n w h = some (e.complete n f.id (e.sendWords (word w 1) RC.OK)) := by
  subst he hf hlen hport
  unfold Dev.hostSend
  simp only [hrel, hdir, hpres, Bool.false_and, Bool.false_eq_true, if_false, Bool.not_true, Bool.not_false, Bool.true_and, Bool.and_false,
    Bool.and_true, if_true]
  rw [if_neg (by rw [hsize]; decide), if_neg (by rw [hroom]; decide)]
  rfl

end

section
variable {x : Hold} (hrel : bitOf (word w 0) 9 = true) (hdir : bitOf (word w 0) 8 = false)
  (hx : tabFind d.pke.holds (bitsOf (word w 4) 15 0) = some x)
include hrel hdir hx

theorem Dev.hostSend_discards (hzero : len = 0) (he : e = (d.counted n).endHold (bitsOf (word w 4) 15 0) none) :
    d.hostSend n w h = some (e.complete n d.tmg.nextFid (e.sendWords (word w 1) RC.OK)) := by
  subst he hlen
  unfold Dev.hostSend
  simp only [hrel, hdir, hx, hzero, Option.isNone_some, Bool.false_and, Bool.and_false, Bool.false_eq_true, if_false, Bool.not_false, Bool.and_true,
    decide_true, if_true]
  rfl

theorem Dev.hostSend_releases {f : InFrame} (hsize : outside len 60 10236 = false) (hroom : d.inkRoom 5 (cellsOf (len + 4)) = true)
    (hf : f = { d.hostFrame n h len none with source := x.frame.source, sta := x.frame.sta, tid := x.frame.tid, bss := x.frame.bss, ring := none })
    (he : e = ((d.counted n).cellsTake 5 f.cells none).endHold (bitsOf (word w 4) 15 0) (some f)) :
    d.hostSend n w h = some (e.complete n f.id (e.sendWords (word w 1) RC.OK)) := by
  subst he hf hlen
  have hpos : bitsOf (word w 0) 31 16 ≠ 0 := by
    intro hzero
    rw [hzero] at hsize
    cases hsize
  have hkept : tabFind ((d.counted n).cellsTake 5 (cellsOf (bitsOf (word w 0) 31 16 + 4)) none).pke.holds (bitsOf (word w 4) 15 0) = some x := hx
  unfold Dev.hostSend
  simp only [hrel, hdir, hx, hpos, Option.isNone_some, Bool.false_and, Bool.and_false, Bool.false_eq_true, if_false, Bool.not_false,
    Bool.true_and, decide_false, if_true]
  rw [if_neg (by rw [hsize]; decide), if_neg (by rw [hroom]; decide)]
  rw [show d.nextFid.submitted n d.tmg.nextFid = d.counted n from rfl, hkept]
  rfl

end

end

/-- A type-30 entry is the host's frame. -/
theorem Dev.dataEntry_send {n : Nat} {ws : List Word} {h : Hdr} {m : Msg} :
    d.dataEntry n { msg := m, words := typed 0x30 ws, frame := h } = d.hostSend n (typed 0x30 ws) h := by
  unfold Dev.dataEntry
  simp only [typed_typ (by decide : 0x30 < 256)]
  rfl

/-- A type-40 entry is a buffer for the host's frames. -/
theorem Dev.dataEntry_buffer {n : Nat} {ws : List Word} {h : Hdr} {m : Msg} :
    d.dataEntry n { msg := m, words := typed 0x40 ws, frame := h } = some (d.hostPost n (typed 0x40 ws)) := by
  unfold Dev.dataEntry
  simp only [typed_typ (by decide : 0x40 < 256)]
  rfl

/-- A host's frame that its ring takes at once. -/
theorem Dev.postData_send {n : Nat} {ws : List Word} {h : Hdr} {g : Dev} (ht : d.takesData n = true) (he : e = d.tookData n)
    (hs : e.hostSend n (typed 0x30 ws) h = some g) : d.postData n (typed 0x30 ws) h = g := by
  subst he
  exact Dev.postData_taken ht rfl (Dev.dataEntry_send.trans hs)

/-! Scans -/

theorem effHoldTimeout_ends {t : Nat} {x : Hold} (hx : tabFind d.pke.holds t = some x) :
    effHoldTimeout t d = ((d.at_ x.due).endHold t none).count A.PKE.HOLD_TIMEOUT_CNT := by
  simp only [effHoldTimeout, hx]

theorem effFlowScan_idle {k : FlowKey} {x : Flow} (hx : d.flow k = some x) (hidle : x.idleS ≠ 0) (hs : d.serving = true) :
    effFlowScan k d = ((d.at_ (x.used + sT x.idleS)).flowDrop k).notice 0x10 (k.toWords ++ two64 x.packets ++ two64 x.bytes) := by
  simp only [effFlowScan, hx]
  exact if_neg (by simp [hidle, hs])

theorem effL2AgeOut_old {vlan mac age : Nat} {x : L2Ent} (hage : age = d.fld A.PKE.L2_CFG 31 16) (hx : tabFind d.pke.l2 (l2Key vlan mac) = some x)
    (hstatic : x.static = false) (hon : age ≠ 0) :
    effL2AgeOut vlan mac d = ((d.at_ (x.used + sT age)).onPke (fun p => { p with l2 := tabDel p.l2 (l2Key vlan mac) })).l2Eased := by
  subst hage
  simp only [effL2AgeOut, hx]
  exact if_neg (by simp [hstatic, hon])

end

/-- Settles O17: the branch of each row's effect that the conditions select; the host's entries are taken at once. -/
theorem framePathComplete : Obligations.FramePathComplete := by
  unfold Obligations.FramePathComplete
  refine ⟨?acp, ?held, ?job, ?bucket, ?delivered, ?stuck, ?routed, ?direct, ?released, ?discarded, ?timeout, ?buffer, ?flow, ?l2⟩
  case acp =>
    intro s f g d hready hroom harb hg hacp
    exact becomes_eff (f := effPkeAdmit) rfl ((effPkeAdmit_eq hready hroom harb hg).trans (if_pos hacp))
  case held =>
    intro s f g d t x hready hroom harb hg hacp hh
    exact becomes_eff (f := effPkeAdmit) rfl (effPkeAdmit_held hready hroom harb hg hacp hh)
  case job =>
    intro s f g d d2 v dom j hready hroom harb hg hacp hv hdom hh hj h2
    exact becomes_eff (f := effPkeAdmit) rfl (effPkeAdmit_job hready hroom harb hg hacp hv hdom hh hj h2)
  case bucket =>
    intro s id j k d1 hj hk hs h1
    exact becomes_eff (f := effFlowBucketReadDone id) rfl (effFlowBucketReadDone_decides hj hk hs h1)
  case delivered =>
    rintro s id j d1 first d2 hj hfirst hdec htmg hhand rfl
    exact becomes_eff (f := effSequenceRelease id) rfl ((effSequenceRelease_eq hj hfirst hdec htmg hhand).trans (if_pos rfl))
  case stuck =>
    intro s id j d1 first x xs hj hfirst hdec htmg hhand
    exact becomes_eff (f := effSequenceRelease id) rfl ((effSequenceRelease_eq hj hfirst hdec htmg hhand).trans (if_neg nofun))
  case routed =>
    rintro s n ws h d e w len f ht hd rfl hrel hdir hlen hsize hroom hf he
    exact becomes_eff (f := fun d => d.postData n (typed 0x30 ws) h) rfl
      (Dev.postData_send ht hd (Dev.hostSend_routed hlen hrel hroom hdir hsize hf (by rw [he, hf]; rfl)))
  case direct =>
    rintro s n ws h d e w len port f ht hd rfl hrel hdir hlen hport hpres hsize hroom hf he
    exact becomes_eff (f := fun d => d.postData n (typed 0x30 ws) h) rfl
      (Dev.postData_send ht hd (Dev.hostSend_direct hlen hrel hroom hdir hport hpres hsize hf (by rw [he, hf]; rfl)))
  case released =>
    rintro s n ws d e w len x f ht hd rfl hrel hdir hlen hsize hroom hx hf he
    exact becomes_eff (f := fun d => d.postData n (typed 0x30 ws) Hdr.none) rfl
      (Dev.postData_send ht hd (Dev.hostSend_releases hlen hrel hdir hx hsize hroom hf (by rw [he, hf]; rfl)))
  case discarded =>
    rintro s n ws d e w len x ht hd rfl hrel hdir hlen hzero hx he
    exact becomes_eff (f := fun d => d.postData n (typed 0x30 ws) Hdr.none) rfl
      (Dev.postData_send ht hd (Dev.hostSend_discards hlen hrel hdir hx hzero he))
  case timeout =>
    intro s t x hx
    exact becomes_eff (f := effHoldTimeout t) rfl (effHoldTimeout_ends hx)
  case buffer =>
    rintro s n ws w d ht rfl rfl
    exact becomes_eff (f := fun d => d.postData n (typed 0x40 ws) Hdr.none) rfl (Dev.postData_taken ht rfl Dev.dataEntry_buffer)
  case flow =>
    intro s k x hx hidle hs
    exact becomes_eff (f := effFlowScan k) rfl (effFlowScan_idle hx hidle hs)
  case l2 =>
    intro s vlan mac age e hage hx hstatic hon
    exact becomes_eff (f := effL2AgeOut vlan mac) rfl (effL2AgeOut_old hage hx hstatic hon)

end Sys2Proof.Machine
end

section
/-! SUPPORT. The commands of the packet engine's tables (spec/12 R299 to R315). -/

namespace Sys2Proof.Machine

/-! The flow table, whose bucket is read first -/

/-- A bucket without poison is read as it stands. -/
theorem Dev.bucketRead_clean {d : Dev} {b : Nat} (h : d.rangePoisoned (d.bucketAddr b) 256 = false) : d.bucketRead b = d :=
  if_neg (Bool.eq_false_iff.1 h)

/-- An answer that is not BUSY stands as it is. -/
theorem not_busy {d1 e : Dev} {r : Dev × Ans} {words : List Word} (hr : r = (e, Ans.ok words)) :
    (if r.2.code = RC.BUSY then (d1, r.2) else r) = (e, Ans.ok words) := by
  subst hr
  exact if_neg (show RC.OK ≠ RC.BUSY by decide)

section
variable {d : Dev} {k : FlowKey} {ws : List Word} (hk : k = flowKeyOf ws) (hbad : flowKeyBad ws = false) (hs : d.serving = true)
  (hclean : d.rangePoisoned (d.bucketAddr k.bucket) 256 = false)
include hk hbad hs hclean

theorem cmdFlowAdd_adds {w : Word} (hlen : ws.length = 14) (hw : w = word ws 10) (h10 : extra w 0x0FFF001F = false)
    (h11 : extra (word ws 11) 0x1FFFF = false) (hact : bitsOf w 1 0 ≠ 3) (hone : (bitOf w 2 && bitOf w 3) = false)
    (hnat : ((bitOf w 2 || bitOf w 3) && k.v6) = false)
    (hroom : ((d.pke.flows.filter (fun y => decide (y.key ≠ k))).filter (fun y => decide (y.key.bucket = k.bucket))).length < 4) :
    cmdFlowAdd ws d = ((List.range 4).foldl (fun e i => e.setPoison (e.bucketAddr k.bucket + 64 * i) false)
      ((d.flowDrop k).onPke (fun p => { p with flows := p.flows ++ [{
        key := k, w10 := w, w11 := word ws 11, natAddr := (word ws 12).toNat, natPort := bitsOf (word ws 13) 15 0,
        idleS := bitsOf (word ws 13) 31 16, packets := 0, bytes := 0, used := d.tb }] })), Ans.ok []) := by
  subst hw hk
  unfold cmdFlowAdd
  simp only [Dev.bucketRead_clean (b := (flowKeyOf ws).bucket) hclean]
  refine not_busy (cmdIns_ok (conds_cons (decide_eq_false (Classical.not_not.2 hlen)) (conds_cons ?value (conds_cons (congrArg not hs)
    (conds_cons (decide_eq_false (Nat.not_le.2 hroom)) conds_nil)))))
  rw [hbad, h10, h11, decide_eq_false hact, hone, hnat]
  rfl

section
variable {x : Flow} (hlen : ws.length = 10) (hx : d.flow k = some x)
include hlen hx

theorem cmdFlowDel_drops : cmdFlowDel ws d = (d.flowDrop k, Ans.ok []) := by
  subst hk
  unfold cmdFlowDel
  simp only [Dev.bucketRead_clean (b := (flowKeyOf ws).bucket) hclean, hx]
  exact (if_neg (fun h => nomatch h.2)).trans
    (cmdIf_ok (conds_cons (decide_eq_false (Classical.not_not.2 hlen)) (conds_cons hbad (conds_cons (congrArg not hs) conds_nil))))

theorem cmdFlowGet_reads : cmdFlowGet ws d = (d, Ans.ok (k.toWords ++ [x.w10, x.w11, wd x.natAddr, wd (x.natPort + 2 ^ 16 * x.idleS)] ++
    two64 x.packets ++ two64 x.bytes)) := by
  subst hk
  unfold cmdFlowGet
  simp only [Dev.bucketRead_clean (b := (flowKeyOf ws).bucket) hclean, hx]
  exact (if_neg (fun h => nomatch h.2)).trans
    (cmdIf_ok (conds_cons (decide_eq_false (Classical.not_not.2 hlen)) (conds_cons hbad (conds_cons (congrArg not hs) conds_nil))))

end

end

/-- Settles O18: the checks of each command pass, by the conditions in their order. -/
theorem packetTablesComplete : Obligations.PacketTablesComplete := by
  unfold Obligations.PacketTablesComplete
  refine ⟨?l2Set, ?vlanSet, ?portVlan, ?bssVlan, ?staVlan, ?ifSet, ?nhSet, ?routeAdd, ?routeDel, ?aclSet, ?localSet, ?mapSet, ?l2Flush,
    ?flowAdd, ?flowDel, ?flowGet⟩
  case l2Set =>
    intro σ rq ws hs d w k kind i old bad ht h1 h2 h3 h4 h5
    exact command_ok rfl ht hs nofun (by decide) rfl (fun P h o _ => cmdIns_ok (conds_cons (decide_eq_false h1) (conds_cons h2 (conds_cons h3 (conds_cons h4 (conds_cons h5 conds_nil))))))
      (fun _ => Nat.zero_le _)
  case vlanSet =>
    intro σ rq ws hs d w v absent ht h1 h2 h3
    exact command_ok rfl ht hs nofun (by decide) rfl (fun P h o _ => cmdIf_ok (conds_cons (decide_eq_false h1) (conds_cons h2 (conds_cons h3 conds_nil))))
      (fun _ => Nat.zero_le _)
  case portVlan =>
    intro σ rq ws hs d w p ht h1 h2 h3
    exact command_ok rfl ht hs nofun (by decide) rfl (fun P h o _ => cmdIf_ok (conds_cons (decide_eq_false h1) (conds_cons h2 (conds_cons h3 conds_nil))))
      (fun _ => Nat.zero_le _)
  case bssVlan =>
    intro σ rq ws hs w ht h1 h2
    exact command_ok rfl ht hs nofun (by decide) rfl (fun P h o _ => cmdIf_ok (conds_cons (decide_eq_false h1) (conds_cons h2 conds_nil)))
      (fun _ => Nat.zero_le _)
  case staVlan =>
    intro σ rq ws hs w ht h1 h2
    exact command_ok rfl ht hs nofun (by decide) rfl (fun P h o _ => cmdIf_ok (conds_cons (decide_eq_false h1) (conds_cons h2 conds_nil)))
      (fun _ => Nat.zero_le _)
  case ifSet =>
    intro σ rq ws hs w x ht h1 h2
    exact command_ok rfl ht hs nofun (by decide) rfl (fun P h o _ => cmdIf_ok (conds_cons (decide_eq_false h1) (conds_cons h2 conds_nil)))
      (fun _ => Nat.zero_le _)
  case nhSet =>
    intro σ rq ws hs w ht h1 h2
    exact command_ok rfl ht hs nofun (by decide) rfl (fun P h o _ => cmdIf_ok (conds_cons (decide_eq_false h1) (conds_cons h2 conds_nil)))
      (fun _ => Nat.zero_le _)
  case routeAdd =>
    intro σ rq ws hs d v6 len p bad rs same ht h1 h2 h3
    exact command_ok rfl ht hs nofun (by decide) rfl (fun P h o _ => cmdIns_ok (conds_cons (decide_eq_false h1) (conds_cons h2 (conds_cons h3 conds_nil))))
      (fun _ => Nat.zero_le _)
  case routeDel =>
    intro σ rq ws hs d v6 len p bad rs same ht h1 h2 h3
    exact command_ok rfl ht hs nofun (by decide) rfl (fun P h o _ => cmdIf_ok (conds_cons (decide_eq_false h1) (conds_cons h2 (conds_cons h3 conds_nil))))
      (fun _ => Nat.zero_le _)
  case aclSet =>
    intro σ rq ws hs w ht h1 h2
    exact command_ok rfl ht hs nofun (by decide) rfl (fun P h o _ => cmdIf_ok (conds_cons (decide_eq_false h1) (conds_cons h2 conds_nil)))
      (fun _ => Nat.zero_le _)
  case localSet =>
    intro σ rq ws hs w kind ht h1 h2
    exact command_ok rfl ht hs nofun (by decide) rfl (fun P h o _ => cmdIf_ok (conds_cons (decide_eq_false h1) (conds_cons h2 conds_nil)))
      (fun _ => Nat.zero_le _)
  case mapSet =>
    intro σ rq ws hs w pcp i e ht h1 h2
    exact command_ok rfl ht hs nofun (by decide) rfl (fun P h o _ => cmdIf_ok (conds_cons (decide_eq_false h1) (conds_cons h2 conds_nil)))
      (fun _ => Nat.zero_le _)
  case l2Flush =>
    intro σ rq ws hs w ht h1 h2
    exact command_ok rfl ht hs nofun (by decide) rfl (fun P h o _ => cmdIf_ok (conds_cons (decide_eq_false h1) (conds_cons h2 conds_nil)))
      (fun _ => Nat.zero_le _)
  case flowAdd =>
    rintro s rq ws d k w hs rfl ht hlen hk hw hbad h10 h11 hact hone hnat hserving hclean hroom
    refine command_ok rfl ht hs nofun (by decide) rfl (fun P h o _ => ?_) (fun _ => Nat.zero_le _)
    generalize s.dev.asked .pke = a at hserving hclean hroom ⊢
    exact cmdFlowAdd_adds (d := { a with pages := P, hci := h, out := o }) hk hbad hserving hclean hlen hw h10 h11 hact hone hnat hroom
  case flowDel =>
    rintro s rq ws d k x hs rfl ht hlen hk hbad hserving hclean hx
    refine command_ok rfl ht hs nofun (by decide) rfl (fun P h o _ => ?_) (fun _ => Nat.zero_le _)
    generalize s.dev.asked .pke = a at hserving hclean hx ⊢
    exact cmdFlowDel_drops (d := { a with pages := P, hci := h, out := o }) hk hbad hserving hclean hlen hx
  case flowGet =>
    rintro s rq ws d k x hs rfl ht hlen hk hbad hserving hclean hx
    refine command_ok rfl ht hs nofun (by decide) rfl (fun P h o _ => ?_) (fun _ => Nat.le_refl 18)
    generalize s.dev.asked .pke = a at hserving hclean hx ⊢
    exact cmdFlowGet_reads (d := { a with pages := P, hci := h, out := o }) hk hbad hserving hclean hlen hx

end Sys2Proof.Machine
end

section
/-! SUPPORT. The commands of the wireless MAC and of the multi-link layer (spec/06, spec/07). -/

namespace Sys2Proof.Machine

/-- Settles O9: the checks of each command pass, by the conditions in their order. -/
theorem macAndMldCommandsComplete : Obligations.MacAndMldCommandsComplete := by
  unfold Obligations.MacAndMldCommandsComplete
  refine ⟨?keySet, ?keyClear, ?keyPn, ?bssSet, ?beaconSet, ?twtSet, ?apMldSet, ?staSet, ?staDel, ?baSet⟩
  case keySet =>
    intro σ rq r ws hs w k c bad ht h1 h2
    exact command_ok rfl ht hs nofun (by decide) rfl (fun P h o _ => cmdIf_ok (conds_cons (decide_eq_false h1) (conds_cons h2 conds_nil)))
      (fun _ => Nat.zero_le _)
  case keyClear =>
    intro σ rq r ws hs w ht h1 h2
    exact command_ok rfl ht hs nofun (by decide) rfl (fun P h o _ => cmdIf_ok (conds_cons (decide_eq_false h1) (conds_cons (decide_eq_false h2) conds_nil)))
      (fun _ => Nat.zero_le _)
  case keyPn =>
    intro σ rq r ws hs d w pns ht h1 h2
    exact command_ok rfl ht hs nofun (by decide) rfl (fun P h o _ => cmdIf_ok (conds_cons (decide_eq_false h1) (conds_cons (decide_eq_false h2) conds_nil)))
      (fun _ => Nat.le_refl 20)
  case bssSet =>
    intro σ rq r ws hs d b tx rateOk bad ht h1 h2
    exact command_ok rfl ht hs nofun (by decide) rfl (fun P h o _ => cmdIf_ok (conds_cons (decide_eq_false h1) (conds_cons h2 conds_nil)))
      (fun _ => Nat.zero_le _)
  case beaconSet =>
    intro σ rq r ws hs w c total tim n bad ht h1 h2
    exact command_ok rfl ht hs nofun (by decide) rfl (fun P h o _ => cmdIf_ok (conds_cons (decide_eq_false h1) (conds_cons h2 conds_nil)))
      (fun _ => Nat.zero_le _)
  case twtSet =>
    intro σ rq r ws hs d w id typ s old was dur iv on bad full ht h1 h2 h3
    exact command_ok rfl ht hs nofun (by decide) rfl (fun P h o _ => cmdIf_ok (conds_cons (decide_eq_false h1) (conds_cons h2 (conds_cons h3 conds_nil))))
      (fun _ => Nat.zero_le _)
  case apMldSet =>
    intro σ rq ws hs d w i links on rs bss lid enabled taken bad used ht h1 h2 h3 h4
    exact command_ok rfl ht hs nofun (by decide) rfl (fun P h o _ => cmdIf_ok (conds_cons (decide_eq_false h1) (conds_cons h2 (conds_cons h3 (conds_cons h4 conds_nil)))))
      (fun _ => Nat.zero_le _)
  case staSet =>
    intro σ rq ws hs d w s on old x ap map moved bad absent ht h1 h2 h3 h4
    exact command_ok rfl ht hs nofun (by decide) rfl (fun P h o _ => cmdIf_ok (conds_cons (decide_eq_false h1) (conds_cons h2 (conds_cons h3 (conds_cons h4 conds_nil)))))
      (fun _ => Nat.zero_le _)
  case staDel =>
    intro σ rq ws hs w ht h1 h2
    exact command_ok rfl ht hs nofun (by decide) rfl (fun P h o _ => cmdIf_ok (conds_cons (decide_eq_false h1) (conds_cons h2 conds_nil)))
      (fun _ => Nat.zero_le _)
  case baSet =>
    intro σ rq ws hs d w s on win bad ht h1 h2
    exact command_ok rfl ht hs nofun (by decide) rfl (fun P h o _ => cmdIf_ok (conds_cons (decide_eq_false h1) (conds_cons h2 conds_nil)))
      (fun _ => Nat.zero_le _)

end Sys2Proof.Machine
end

section
/-! SUPPORT. The access scheduler: rounds, station policy and Heats (spec/08). -/

namespace Sys2Proof.Machine

theorem Dev.withLinks_congr {d : Dev} {f g : Dev → Dev} (h : f d = g d) : d.withLinks f = d.withLinks g := by
  unfold Dev.withLinks
  rw [h]

/-! Rounds -/

/-- The allocation buffer a radio's next round fills: the one its good allocation does not stand in. -/
def Dev.roundBuf (d : Dev) (r : Radio) : Nat :=
  match (d.asc.radios.get r).good with
  | some a => 1 - a.buf
  | none => 0

/-- What follows the submission of a round. -/
def roundOutcome (r : Radio) (dl buf : Nat) : Dev × Option Nat × Nat → Dev
  | (g, some i, _) => g.onAscRadio r (fun x => { x with inFlight := some (i, dl, buf) })
  | (g, none, _) => g.roundMissed r

section
variable {d e : Dev} {r : Radio} {t dl : Nat} (ht : t = d.gridAt (max d.tb (d.asc.radios.get r).from_)) (hdl : dl = d.gridAt (t + 1))
  (he : e = ((d.at_ t).deadlines).onAscRadio r (fun x => { x with from_ := t + 1 })) (hasc : e.ready .asc = true) (hqar : e.ready .qar = true)
  (havail : e.avail r = true) (hfree : (e.asc.radios.get r).inFlight = none)
include ht hdl he hasc hqar havail hfree

/-- A round starts unless it would be idle. -/
theorem effRoundStart_ready : effRoundStart r d =
    if e.bit A.ASC.ROUND_CFG 8 && !e.roundWork r then e.count A.ASC.IDLE_ROUND_CNT
    else
      let g := (e.onAscRadio r (fun x => { x with round := (x.round + 1) % 65536 })).count (A.ASC.ROUND_CNT r.num)
      roundOutcome r dl (e.roundBuf r) ({ g with free := g.free + 4 }.qarSubmit (e.fld A.QAR.ASC_TPL 4 0)
        (e.fld A.ASC.PRIO (2 * r.num + 1) (2 * r.num)) dl (e.enableMask r) g.freeCtx 0 r.num) := by
  subst he hdl ht
  exact (if_neg (by simp [hasc, hqar, havail, hfree])).trans rfl

theorem effRoundStart_idle (hskip : e.bit A.ASC.ROUND_CFG 8 = true) (hnone : e.roundWork r = false) :
    effRoundStart r d = e.count A.ASC.IDLE_ROUND_CNT :=
  (effRoundStart_ready ht hdl he hasc hqar havail hfree).trans (if_pos (by rw [hskip, hnone]; rfl))

theorem effRoundStart_submits {g : Dev} {res : Dev × Option Nat × Nat} (hgo : e.bit A.ASC.ROUND_CFG 8 = false ∨ e.roundWork r = true)
    (hg : g = (e.onAscRadio r (fun x => { x with round := (x.round + 1) % 65536 })).count (A.ASC.ROUND_CNT r.num))
    (hres : { g with free := g.free + 4 }.qarSubmit (e.fld A.QAR.ASC_TPL 4 0) (e.fld A.ASC.PRIO (2 * r.num + 1) (2 * r.num)) dl
      (e.enableMask r) g.freeCtx 0 r.num = res) :
    effRoundStart r d = roundOutcome r dl (e.roundBuf r) res := by
  have hwork : ¬ (e.bit A.ASC.ROUND_CFG 8 && !e.roundWork r) = true := by rcases hgo with h | h <;> simp [h]
  rw [effRoundStart_ready ht hdl he hasc hqar havail hfree, if_neg hwork, ← hres, hg]

end

/-! The Heat plan -/

section
variable {d : Dev} {ws : List Word} {w : Word} {k len : Nat} {data : List Byte} (hw : w = word ws 0) (hk : k = bitsOf w 7 0)
  (hlen : len = bitsOf w 31 16) (hdata : data = ((wordsBytes (ws.drop 1)).take 1016).take (len - 1016 * k)) (h2 : 2 ≤ ws.length)
  (h255 : ws.length ≤ 255) (hextra : extra w 0xFFFF00FF = false) (hin : 1016 * k < len) (hmax : len ≤ 68 + 80 * 16)
include hw hk hlen hdata h2 h255 hextra hin hmax

/-- A chunk of a Heat plan that is well formed. -/
theorem cmdHeatPlan_chunk {chunks : Tab (List Byte)} (hchunks : chunks = tabPut (if d.asc.planLen = len then d.asc.planChunks else []) k data) :
    cmdHeatPlan ws d =
      if chunks.length < ceilDiv len 1016 then (d.onAsc (fun a => { a with planLen := len, planChunks := chunks }), Ans.ok [])
      else if d.heatAdmit (chunks.map (fun e => e.2)).flatten = RC.OK then
        ((d.onAsc (fun a => { a with planLen := 0, planChunks := [] })).heatPending (chunks.map (fun e => e.2)).flatten, Ans.ok [])
      else (d.onAsc (fun a => { a with planLen := 0, planChunks := [] }), Ans.err (d.heatAdmit (chunks.map (fun e => e.2)).flatten)) := by
  subst hchunks hdata hlen hk hw
  refine (if_neg (Classical.not_not.2 (refuse_nil (conds_cons (decide_eq_false ?_) (conds_cons ?_ conds_nil))))).trans rfl
  · omega
  · rw [hextra, Bool.false_or]
    exact decide_eq_false (by omega)

theorem cmdHeatPlan_more (hmore : (tabPut (if d.asc.planLen = len then d.asc.planChunks else []) k data).length < ceilDiv len 1016) :
    cmdHeatPlan ws d = (d.onAsc (fun a => { a with
      planLen := len, planChunks := tabPut (if d.asc.planLen = len then d.asc.planChunks else []) k data }), Ans.ok []) :=
  (cmdHeatPlan_chunk hw hk hlen hdata h2 h255 hextra hin hmax rfl).trans (if_pos hmore)

theorem cmdHeatPlan_whole {bs : List Byte} {chunks : Tab (List Byte)}
    (hchunks : chunks = tabPut (if d.asc.planLen = len then d.asc.planChunks else []) k data) (hall : ceilDiv len 1016 ≤ chunks.length)
    (hbs : bs = (chunks.map (fun e => e.2)).flatten) (hadmit : d.heatAdmit bs = RC.OK) :
    cmdHeatPlan ws d = ((d.onAsc (fun a => { a with planLen := 0, planChunks := [] })).heatPending bs, Ans.ok []) := by
  subst hbs
  exact (cmdHeatPlan_chunk hw hk hlen hdata h2 h255 hextra hin hmax hchunks).trans ((if_neg (Nat.not_lt.2 hall)).trans (if_pos hadmit))

end

theorem effHeatPlanActivate_activates {d e : Dev} {r : Radio} {p : HeatPlan} (hp : (d.asc.radios.get r).pending = some p)
    (hhere : d.planHere r p = true) (he : e = d.at_ (d.tickAt (d.planStart p))) :
    effHeatPlanActivate r d = (((e.sramPut (planAt r 0) 0x800 (e.sramGet (planAt r 1) 0x800)).sramPut (planAt r 1) 0x800 0).onAscRadio r
      (fun s => { s with
        plan := some p, pending := none, suspended := false, heatNext := if s.heatFor = some p then s.heatNext else none,
        heatGood := if s.heatFor = some p then s.heatGood else [], heatFor := some p })).suspendCheck := by
  subst he
  simp only [effHeatPlanActivate, hp]
  exact if_neg (by simp [hhere])

/-! The round of a Heat -/

/-- The time of the last Heat that was put forward. -/
def Dev.lastLaunch (d : Dev) (r : Radio) : Nat :=
  match (d.asc.radios.get r).heatNext with
  | some x => d.ptpAt x.launch
  | none => 0

/-- How long a plan's Heat lasts. -/
def HeatPlan.durUs (p : HeatPlan) (k : Nat) : Nat :=
  match p.heats[k]? with
  | some x => x.durUs
  | none => 0

/-- The allocation buffer a Heat's round fills. -/
def Dev.heatBuf (d : Dev) (r : Radio) : Nat :=
  match d.newestAlloc r true with
  | some a => 5 - a.buf
  | none => 2

/-- What follows the submission of a Heat's round. -/
def heatOutcome (r : Radio) (dl buf k : Nat) : Dev × Option Nat × Nat → Dev
  | (g, some i, _) => g.onAscRadio r (fun s => { s with
      heatFlight := some (i, dl, buf, k), heatGood := s.heatGood.filter (fun e => decide (e.2.buf ≠ buf)) })
  | (g, none, _) => g.heatMissed r

/-- A Heat is put forward, unsynchronized or not. -/
def Dev.heatForward (d : Dev) (r : Radio) (p : HeatPlan) (k launch dur : Nat) (un : Bool) : Dev :=
  (d.onAscRadio r (fun s => { s with
    heatNext := some { idx := k, launch := launch, end_ := launch + usT dur, un := un, sub := d.tb },
    heatGood := if s.heatFor = some p then s.heatGood else [], heatFor := some p })).suspendAll un

/-- A Heat's round, once the Heat is known. -/
def Dev.heatRound (d0 : Dev) (r : Radio) (lead per : Nat) (p : HeatPlan) (k startNs : Nat) : Dev :=
  let launch := d0.tickAt startNs
  let d := (d0.at_ (launch - usT (lead + per))).deadlines
  let un := decide (d.tmu.servo ≠ .locked)
  let d1 := d.heatForward r p k launch (p.durUs k) un
  if un || !d1.ready .asc || !d1.ready .qar || !d1.avail r || (d1.asc.radios.get r).heatFlight.isSome then d1
  else heatOutcome r (launch - usT lead) (d1.heatBuf r) k ({ d1 with free := d1.free + 4 }.qarSubmit (d.fld A.QAR.ASC_TPL 12 8)
    (d.fld A.ASC.PRIO 7 6) (launch - usT lead) (d.enableMask r) d1.freeCtx 1 r.num)

section
variable {d e : Dev} {r : Radio} {p : HeatPlan} {lead per k startNs launch dur : Nat} (hlead : lead = d.fld (A.ASC.HEAT_CFG r.num) 31 24)
  (hper : per = d.periodAt d.tb)
  (hafter : d.heatAfter r (max (d.ptpAt (d.tb + usT (lead + per)) - 1) (d.lastLaunch r)) = some (p, k, startNs))
include hlead hper hafter

theorem effHeatRoundSubmit_found : effHeatRoundSubmit r d = d.heatRound r lead per p k startNs := by
  subst hper hlead
  have heq : effHeatRoundSubmit r d =
      match d.heatAfter r (max (d.ptpAt (d.tb + usT (d.fld (A.ASC.HEAT_CFG r.num) 31 24 + d.periodAt d.tb)) - 1) (d.lastLaunch r)) with
      | none => d
      | some (p, h, startNs) => d.heatRound r (d.fld (A.ASC.HEAT_CFG r.num) 31 24) (d.periodAt d.tb) p h startNs := rfl
  rw [heq, hafter]

section
variable (hlaunch : launch = d.tickAt startNs) (hdur : dur = p.durUs k) (he : e = (d.at_ (launch - usT (lead + per))).deadlines)
include hlaunch hdur he

theorem effHeatRoundSubmit_unlocked (hservo : e.tmu.servo ≠ .locked) : effHeatRoundSubmit r d = e.heatForward r p k launch dur true := by
  subst he hdur hlaunch
  rw [effHeatRoundSubmit_found hlead hper hafter]
  simp only [Dev.heatRound, hservo, ne_eq, not_false_eq_true, decide_true, Bool.true_or, if_true]

theorem effHeatRoundSubmit_submits {e1 : Dev} {buf : Nat} {res : Dev × Option Nat × Nat} (hservo : e.tmu.servo = .locked)
    (h1 : e1 = e.heatForward r p k launch dur false) (hasc : e1.ready .asc = true) (hqar : e1.ready .qar = true)
    (havail : e1.avail r = true) (hfree : (e1.asc.radios.get r).heatFlight = none) (hbuf : buf = e1.heatBuf r)
    (hres : { e1 with free := e1.free + 4 }.qarSubmit (e.fld A.QAR.ASC_TPL 12 8) (e.fld A.ASC.PRIO 7 6) (launch - usT lead) (e.enableMask r)
      e1.freeCtx 1 r.num = res) :
    effHeatRoundSubmit r d = heatOutcome r (launch - usT lead) buf k res := by
  subst hres hbuf h1 he hdur hlaunch
  rw [effHeatRoundSubmit_found hlead hper hafter]
  simp only [Dev.heatRound, hservo, ne_eq, not_true_eq_false, decide_false, hasc, hqar, havail, hfree, Bool.not_true, Bool.or_self,
    Option.isSome_none, Bool.false_eq_true, if_false]

end

end

/-! The launch of a Heat -/

section
variable {d e : Dev} {r : Radio} {x : TxStart} {y : HeatNext} (hy : (d.asc.radios.get r).heatNext = some y)
include hy

theorem effHeatLaunch_unlocked (hun : y.un = true) : effHeatLaunch r x d =
    d.withLinks (fun d => (((d.at_ (y.launch - d.wayToTx r)).deadlines).twtCut r).onAscRadio r (fun z => { z with
      heatNext := none, heatRun := some (y.end_, true) })) := by
  simp only [effHeatLaunch, hy, hun, if_true]

theorem effHeatLaunch_starts {d1 d2 : Dev} {q : Nat} {a : Alloc} {f : Filled} (hun : y.un = false)
    (he : e = (d.at_ (y.launch - d.wayToTx r)).deadlines) (hgood : (e.asc.radios.get r).heatGood.find? (fun g => decide (g.1 = y.idx)) = some (q, a))
    (h1 : d1 = (e.twtCut r).onAscRadio r (fun z => { z with heatNext := none, heatRun := some (y.end_, true) }))
    (hage : a.pub < y.sub → y.launch - a.snap < usT (e.fld A.ASC.ROUND_CFG 31 16)) (havail : e.avail r = true)
    (hyield : e.heatYields r y.launch y.end_ = false) (htime : e.tb + e.wayToTx r ≤ y.launch)
    (hfill : (if bitOf (e.sram32 (allocAt r a.buf)) 25 then d1.fillMu r (allocAt r a.buf) x.vec x.rooms false 4
      else d1.fillTrigger r (allocAt r a.buf) x.vec).2 = some f)
    (h2 : d2 = (f.dev.shortDone r).transmit r { f.vec with kind := .heat } f.fids x.ready) (htx : (d2.phy.get r).tx.isSome = true) :
    effHeatLaunch r x d = d.withLinks (fun _ => (d2.onAscRadio r (fun z => { z with heatRun := some (y.end_, false) })).count A.ASC.HEAT_RUN_CNT) := by
  subst h2 h1 he
  have haged : decide (a.pub < y.sub ∧ usT ((d.at_ (y.launch - d.wayToTx r)).deadlines.fld A.ASC.ROUND_CFG 31 16) ≤ y.launch - a.snap) = false :=
    decide_eq_false (fun ⟨hp, hs⟩ => Nat.not_le.2 (hage hp) hs)
  have hlate : decide (y.launch < (d.at_ (y.launch - d.wayToTx r)).deadlines.tb + (d.at_ (y.launch - d.wayToTx r)).deadlines.wayToTx r) = false :=
    decide_eq_false (Nat.not_lt.2 htime)
  simp only [effHeatLaunch, hy]
  refine Dev.withLinks_congr ?_
  simp only [hun, hgood, haged, havail, hyield, hlate, Bool.not_true, Bool.or_self, Bool.false_eq_true, if_false]
  generalize (if bitOf ((d.at_ (y.launch - d.wayToTx r)).deadlines.sram32 (allocAt r a.buf)) 25 then _ else _ : Dev × Option Filled) = fill at hfill ⊢
  obtain ⟨g, o⟩ := fill
  cases hfill
  exact if_pos htx

end

theorem effHeatEnd_ends {d : Dev} {r : Radio} {t : Nat} {b : Bool} (h : (d.asc.radios.get r).heatRun = some (t, b)) :
    effHeatEnd r d = ((d.at_ t).onAscRadio r (fun s => { s with heatRun := none })).bcnSeen r := by
  simp only [effHeatEnd, h]

/-- Settles O10: the branch of each row's effect that the conditions select; the commands by their checks. -/
theorem schedulerCommandsComplete : Obligations.SchedulerCommandsComplete := by
  unfold Obligations.SchedulerCommandsComplete
  refine ⟨?idle, ?submits, ?missed, ?policy, ?planMore, ?planWhole, ?planClear, ?allocGet, ?activate, ?heatRound, ?heatUnlocked, ?launchUnlocked,
    ?launch, ?heatEnd⟩
  case idle =>
    intro s r t dl d ht hdl hd hasc hqar havail hfree hskip hnone
    exact becomes_eff (f := effRoundStart r) rfl (effRoundStart_idle ht hdl hd hasc hqar havail hfree hskip hnone)
  case submits =>
    intro s r t dl d e g i c ht hdl hd hasc hqar havail hfree hgo he hres
    exact becomes_eff (f := effRoundStart r) rfl (effRoundStart_submits ht hdl hd hasc hqar havail hfree hgo he hres)
  case missed =>
    intro s r t dl d e g c ht hdl hd hasc hqar havail hfree hgo he hres
    exact becomes_eff (f := effRoundStart r) rfl (effRoundStart_submits ht hdl hd hasc hqar havail hfree hgo he hres)
  case policy =>
    intro σ rq ws hs d w s links ht h1 h2
    exact command_ok rfl ht hs nofun (by decide) rfl (fun P h o _ => cmdIf_ok (conds_cons (decide_eq_false h1) (conds_cons h2 conds_nil)))
      (fun _ => Nat.zero_le _)
  case planMore =>
    rintro s rq ws d w k len data rfl ht hs hw hk hlen hdata h2 h255 hextra hin hmax hmore
    exact command_ok rfl ht hs nofun (by decide) rfl (fun P h o _ => cmdHeatPlan_more hw hk hlen hdata h2 h255 hextra hin hmax hmore)
      (fun _ => Nat.zero_le _)
  case planWhole =>
    rintro s rq ws d w k len data bs chunks rfl ht hs hw hk hlen hdata h2 h255 hextra hin hmax hchunks hall hbs hadmit
    refine command_ok rfl ht hs nofun (by decide) rfl (fun P h o _ => ?_) (fun _ => Nat.zero_le _)
    generalize s.dev.asked .asc = a at hchunks hadmit ⊢
    exact cmdHeatPlan_whole (d := { a with pages := P, hci := h, out := o }) hw hk hlen hdata h2 h255 hextra hin hmax hchunks hall hbs hadmit
  case planClear =>
    intro σ rq ws hs ht h1 h2
    exact command_ok rfl ht hs nofun (by decide) rfl (fun P h o _ => cmdIf_ok (conds_cons (decide_eq_false h1) (conds_cons h2 conds_nil)))
      (fun _ => Nat.zero_le _)
  case allocGet =>
    intro σ rq ws hs d w r a at_ ht h1 h2 h3
    exact command_ok rfl ht hs nofun (by decide) rfl (fun P h o _ => cmdIf_ok (conds_cons (decide_eq_false h1) (conds_cons h2
      (conds_cons h3 conds_nil)))) (fun _ => Nat.le_refl 256)
  case activate =>
    intro s r p d hp hhere hd
    exact becomes_eff (f := effHeatPlanActivate r) rfl (effHeatPlanActivate_activates hp hhere hd)
  case heatRound =>
    intro s r p lead per k startNs launch dur buf i c d d1 d2 hlead hper hafter hlaunch hdur hd hservo h1 hasc hqar havail hfree hbuf hres
    exact becomes_eff (f := effHeatRoundSubmit r) rfl
      (effHeatRoundSubmit_submits hlead hper hafter hlaunch hdur hd hservo h1 hasc hqar havail hfree hbuf hres)
  case heatUnlocked =>
    intro s r p lead per k startNs launch dur d hlead hper hafter hlaunch hdur hd hservo
    exact becomes_eff (f := effHeatRoundSubmit r) rfl (effHeatRoundSubmit_unlocked hlead hper hafter hlaunch hdur hd hservo)
  case launchUnlocked =>
    intro s r x y hy hun
    exact becomes_eff (f := fun d => d.onMedium r (effHeatLaunch r x)) rfl (Dev.onMedium_congr (effHeatLaunch_unlocked hy hun))
  case launch =>
    intro s r x q y a d d1 d2 f hy hun hd hgood h1 hage havail hyield htime hfill h2 htx
    exact becomes_eff (f := fun d => d.onMedium r (effHeatLaunch r x)) rfl
      (Dev.onMedium_congr (effHeatLaunch_starts hy hun hd hgood h1 hage havail hyield htime hfill h2 htx))
  case heatEnd =>
    intro s r t b h
    exact becomes_eff (f := fun d => d.onMedium r (effHeatEnd r)) rfl (Dev.onMedium_congr (effHeatEnd_ends h))

end Sys2Proof.Machine
end

section
/-! SUPPORT. The Quill array: submission, templates, the trace, the dispatcher and the fetch engine (spec/09, spec/10). -/

namespace Sys2Proof.Machine

/-! SUBMIT -/

section
variable {d : Dev} {tpl i : Nat} {t : Tpl}

/-- The array takes a graph for which it has an entry and slots. -/
theorem Dev.qarSubmit_enters {list dl enable by_ radio mask : Nat} {ctx : List Word} {x : Inst} (ht : tabFind d.qar.templates tpl = some t)
    (hmask : mask = enable % 2 ^ t.nodes.length) (hnodes : t.nodes ≠ []) (hlast : mask.testBit (t.nodes.length - 1) = true)
    (hi : (List.range 16).find? (fun j => (tabFind d.qar.insts j).isNone) = some i)
    (hroom : ((List.range t.nodes.length).filter (fun n => mask.testBit n)).length ≤ d.freeSlots.length)
    (hx : x = { tpl := tpl, list := list, deadline := dl, enable := mask, ctx := ctx, order := d.qar.nextOrder, at_ := d.tb, by_ := by_,
                radio := radio, cancelled := false, complete := false, done := 0,
                work := { Work.reset with pol := if by_ ≤ 1 then d.polNow else [] } }) :
    d.qarSubmit tpl list dl enable ctx by_ radio =
      (((((d.onQar (fun q => { q with insts := tabPut q.insts i x, nextOrder := q.nextOrder + 1 })).ductus 0x01 0xFF i 0xFF
        (submitArg tpl list by_ radio) dl).count A.QAR.INSTANCE_CNT).enterOps i x t
          ((List.range t.nodes.length).filter (fun n => mask.testBit n))).balance, some i, 0) := by
  subst hx hmask
  have hlen : t.nodes.length ≠ 0 := fun h => hnodes (List.length_eq_zero_iff.1 h)
  simp only [Dev.qarSubmit, ht, hi, hlast, Nat.not_lt.2 hroom, hlen, Option.isNone_some, Bool.false_eq_true, if_false, Bool.not_true, or_self]

end

theorem cmdSubmit_enters {d : Dev} {rq : Rq} {ws : List Word} {w : Word} {i mask : Nat} {t : Tpl} {x : Inst} (hlen : ws.length = 8)
    (hsrc : rq.src ≠ .mp → d.mgt.otp.lc = .test ∨ d.mgt.otp.lc = .ret) (hw : w = word ws 0) (hextra : extra w 0xDF = false)
    (ht : tabFind d.qar.templates (bitsOf w 4 0) = some t) (hmask : mask = pair ws 2 % 2 ^ t.nodes.length) (hnodes : t.nodes ≠ [])
    (hlast : mask.testBit (t.nodes.length - 1) = true) (hi : (List.range 16).find? (fun j => (tabFind d.qar.insts j).isNone) = some i)
    (hroom : ((List.range t.nodes.length).filter (fun n => mask.testBit n)).length ≤ d.freeSlots.length)
    (hx : x = { tpl := bitsOf w 4 0, list := bitsOf w 7 6, deadline := d.tbOf (word ws 1), enable := mask, ctx := ws.drop 4,
                order := d.qar.nextOrder, at_ := d.tb, by_ := if rq.src = .mp then 2 else 3, radio := 0, cancelled := false, complete := false,
                done := 0, work := Work.reset }) :
    cmdSubmit rq ws d =
      (((((d.onQar (fun q => { q with insts := tabPut q.insts i x, nextOrder := q.nextOrder + 1 })).ductus 0x01 0xFF i 0xFF
        (submitArg x.tpl x.list x.by_ 0) x.deadline).count A.QAR.INSTANCE_CNT).enterOps i x t
          ((List.range t.nodes.length).filter (fun n => mask.testBit n))).balance, Ans.ok [wd i]) := by
  subst hw
  have hsource : (decide (rq.src ≠ .mp) && decide (d.mgt.otp.lc ≠ .test ∧ d.mgt.otp.lc ≠ .ret)) = false := by
    rw [Bool.and_eq_false_imp, decide_eq_true_eq]
    intro h
    rcases hsrc h with hl | hl <;> simp [hl]
  have hby : ¬ (if rq.src = .mp then 2 else 3) ≤ 1 := by split <;> decide
  have hsub := Dev.qarSubmit_enters (by_ := if rq.src = .mp then 2 else 3) (radio := 0) (list := bitsOf (word ws 0) 7 6)
    (dl := d.tbOf (word ws 1)) (ctx := ws.drop 4) ht hmask hnodes hlast hi hroom (x := x) (by rw [hx, if_neg hby]; rfl)
  refine (if_neg (Classical.not_not.2 (refuse_nil (conds_cons (decide_eq_false (Classical.not_not.2 hlen)) (conds_cons hsource
    (conds_cons hextra conds_nil)))))).trans ?_
  simp only [hsub, hx]

/-! Templates -/

section
variable {d : Dev} {ws : List Word} {w : Word} {t k len : Nat} {data : List Byte} (hw : w = word ws 0) (ht : t = bitsOf w 4 0)
  (hk : k = bitsOf w 15 8) (hlen : len = bitsOf w 31 16) (hdata : data = ((wordsBytes (ws.drop 1)).take 1016).take (len - 1016 * k))
  (h2 : 2 ≤ ws.length) (h255 : ws.length ≤ 255) (hextra : extra w 0xFFFFFF1F = false) (hin : 1016 * k < len)
include hw ht hk hlen hdata h2 h255 hextra hin

/-- A chunk of a template that is well formed. -/
theorem cmdTplLoad_chunk {chunks : Tab (List Byte)}
    (hchunks : chunks = tabPut (if d.qar.loadT = t ∧ d.qar.loadLen = len then d.qar.loadChunks else []) k data) :
    cmdTplLoad ws d =
      if chunks.length < ceilDiv len 1016 then
        (d.onQar (fun q => { q with loadT := t, loadLen := len, loadChunks := chunks }), Ans.ok [])
      else
        let bs := (chunks.map (fun e => e.2)).flatten
        let d1 := d.onQar (fun q => { q with loadT := 0, loadLen := 0, loadChunks := [] })
        let live := d.qar.insts.any (fun e => decide (e.2.tpl = t)) || decide (d.fld A.QAR.ASC_TPL 4 0 = t ∨ d.fld A.QAR.ASC_TPL 12 8 = t)
        let c1 := refuse [(decide (leNat ((bs.drop 4).take 2) ≠ bitsOf d.qar.fwVer 31 24), RC.VERSION), (live, RC.NOT_IN_STATE),
          (!tplOk bs, RC.BAD_VALUE)]
        if c1 ≠ RC.OK then (d1, Ans.err c1)
        else (d1.onQar (fun q => { q with templates := tabPut q.templates t (tplOf bs) }), Ans.ok []) := by
  subst hchunks hdata hlen hk ht hw
  refine (if_neg (Classical.not_not.2 (refuse_nil (conds_cons (decide_eq_false ?_) (conds_cons ?_ conds_nil))))).trans rfl
  · omega
  · rw [hextra, Bool.false_or]
    exact decide_eq_false (Nat.not_le.2 hin)

theorem cmdTplLoad_more
    (hmore : (tabPut (if d.qar.loadT = t ∧ d.qar.loadLen = len then d.qar.loadChunks else []) k data).length < ceilDiv len 1016) :
    cmdTplLoad ws d = (d.onQar (fun q => { q with
      loadT := t, loadLen := len,
      loadChunks := tabPut (if d.qar.loadT = t ∧ d.qar.loadLen = len then d.qar.loadChunks else []) k data }), Ans.ok []) :=
  (cmdTplLoad_chunk hw ht hk hlen hdata h2 h255 hextra hin rfl).trans (if_pos hmore)

theorem cmdTplLoad_whole {bs : List Byte} {chunks : Tab (List Byte)}
    (hchunks : chunks = tabPut (if d.qar.loadT = t ∧ d.qar.loadLen = len then d.qar.loadChunks else []) k data)
    (hall : ceilDiv len 1016 ≤ chunks.length) (hbs : bs = (chunks.map (fun e => e.2)).flatten)
    (hver : leNat ((bs.drop 4).take 2) = bitsOf d.qar.fwVer 31 24) (hlive : ∀ e ∈ d.qar.insts, e.2.tpl ≠ t)
    (hround : d.fld A.QAR.ASC_TPL 4 0 ≠ t) (hheat : d.fld A.QAR.ASC_TPL 12 8 ≠ t) (hok : tplOk bs = true) :
    cmdTplLoad ws d = (d.onQar (fun q => { q with
      loadT := 0, loadLen := 0, loadChunks := [], templates := tabPut q.templates t (tplOf bs) }), Ans.ok []) := by
  subst hbs
  have hunused : (d.qar.insts.any (fun e => decide (e.2.tpl = t)) ||
      decide (d.fld A.QAR.ASC_TPL 4 0 = t ∨ d.fld A.QAR.ASC_TPL 12 8 = t)) = false := by
    rw [Bool.or_eq_false_iff, List.any_eq_false]
    exact ⟨fun e he => by rw [decide_eq_true_eq]; exact hlive e he, decide_eq_false (not_or.2 ⟨hround, hheat⟩)⟩
  refine (cmdTplLoad_chunk hw ht hk hlen hdata h2 h255 hextra hin hchunks).trans ((if_neg (Nat.not_lt.2 hall)).trans ?_)
  exact (if_neg (Classical.not_not.2 (refuse_nil (conds_cons (decide_eq_false (Classical.not_not.2 hver)) (conds_cons hunused
    (conds_cons (congrArg not hok) conds_nil)))))).trans rfl

end

/-! The trace -/

/-- The first lists of a concatenation of lists of one length. -/
theorem take_flatten_map {α β : Type} {f : α → List β} {n : Nat} (hf : ∀ a, (f a).length = n) (l : List α) (m : Nat) :
    (l.map f).flatten.take (m * n) = ((l.take m).map f).flatten := by
  induction l generalizing m with
  | nil => simp
  | cons a l ih =>
    cases m with
    | zero => simp
    | succ m =>
      have hsplit : (m + 1) * n = (f a).length + m * n := by rw [hf, Nat.succ_mul, Nat.add_comm]
      simp only [List.map_cons, List.flatten_cons, List.take_succ_cons]
      rw [hsplit, List.take_length_add_append, ih]

/-- What DUCTUS_GET answers through a room of so many bytes. -/
theorem cmdDuctusGet_reads {d : Dev} {ws : List Word} {n room k : Nat} (hk : k = min 64 (room / 4)) (hone : ws.length = 1)
    (hn : n = (wd d.qar.ductus.seq - word ws 0).toNat) (hhave : n ≤ d.qar.ductus.recs.length) (hback : n < 2 ^ 31) :
    (let (d1, a) := cmdDuctusGet ws d
     (d1, { a with words := a.words.take (room / 4 * 4) })) =
      (d, Ans.ok ((((d.qar.ductus.recs.take n).reverse).take k).map DuctusRec.words).flatten) := by
  have hget : cmdDuctusGet ws d = (d, Ans.ok ((((d.qar.ductus.recs.take n).reverse).take 64).map DuctusRec.words).flatten) := by
    unfold cmdDuctusGet
    rw [if_neg (Classical.not_not.2 hone), ← hn]
    simp only [Nat.not_le.2 hback, if_false, Nat.min_eq_left hhave, Nat.sub_self, Nat.min_zero]
    rfl
  rw [hget, hk, Nat.min_comm, ← List.take_take]
  exact congrArg (fun words => (d, Ans.ok words)) (take_flatten_map (f := DuctusRec.words) (n := 4) (fun _ => rfl) _ _)

/-- The two controls of the trace. -/
theorem cmdDuctusCtrl_trigger (d : Dev) : cmdDuctusCtrl [1] d = (d.trigger 3, Ans.ok []) :=
  (cmdIf_ok (d := d) (cs := [(false, RC.BAD_LENGTH), (false, RC.BAD_VALUE)]) (conds_cons rfl (conds_cons rfl conds_nil))).trans rfl

theorem cmdDuctusCtrl_resume (d : Dev) : cmdDuctusCtrl [2] d =
    ((d.onQar (fun q => { q with ductus := { q.ductus with triggered := false, stopped := false, postLeft := 0 } })).follow .qar
      Cause.QAR.DUCTUS_TRIGGERED false, Ans.ok []) :=
  (cmdIf_ok (d := d) (cs := [(false, RC.BAD_LENGTH), (false, RC.BAD_VALUE)]) (conds_cons rfl (conds_cons rfl conds_nil))).trans rfl

theorem Dev.tracePut1_records {d : Dev} {k slot : Nat} {v : Word} {o : Op} (hslot : (d.quill k).held = some slot)
    (ho : tabFind d.qar.ops slot = some o) (hlo : 0x10 ≤ bitsOf (d.quill k).put0 31 24) (hhi : bitsOf (d.quill k).put0 31 24 ≤ 0x1F) :
    d.tracePut1 k v = d.ductus (bitsOf (d.quill k).put0 31 24) k o.inst o.node (bitsOf (d.quill k).put0 15 0) v.toNat := by
  simp only [Dev.tracePut1, hslot, Option.bind_some, ho]
  exact if_pos ⟨hlo, hhi⟩

/-! The dispatcher's times -/

theorem effLimitExpiry_held {d e : Dev} {k slot lim : Nat} {o : Op} {x : Inst} {t : Tpl} {fs : List Nat} {out : Bool}
    (hslot : (d.quill k).held = some slot) (ho : tabFind d.qar.ops slot = some o) (hx : tabFind d.qar.insts o.inst = some x)
    (ht : tabFind d.qar.templates x.tpl = some t)
    (hlim : lim = (t.nodes.getD o.node { entry := 0, param := 0, limit := 0, pred := 0 }).limit) (he : e = (d.at_ (o.since + lim)).deadlines)
    (hfs : fs = e.tb :: (e.quill k).faults.filter (fun t => decide (e.tb < t + sT 1))) (hout : out = decide (3 ≤ fs.length)) :
    effLimitExpiry k d = (((((if out then e.wr A.QAR.CORE_CTRL (e.rd A.QAR.CORE_CTRL &&& ~~~ oneBit k) else e).setQuill k
      ({ e.quill k with faults := fs.take 3, faulted := (e.quill k).faulted || out }.restart (if out then .stopped else .none))).onQar
        (fun q => { q with ops := tabDel q.ops slot })).cancelInst o.inst).qarFault k o.inst o.node 1 lim |>.retire o.inst).balance := by
  have hheld : d.heldBy k = some (slot, o) := by simp only [Dev.heldBy, hslot, Option.bind_some, ho, Option.map_some]
  have hlimit : d.limitOf o = lim := by simp only [Dev.limitOf, Dev.instOf, hx, Option.bind_some, ht, hlim]
  subst hout hfs he
  simp only [effLimitExpiry, hheld, hlimit]

theorem effInstanceDeadline_cancels {d : Dev} {k : Nat} {x : Inst} (hx : tabFind d.qar.insts k = some x) (hlive : x.cancelled = false)
    (hopen : x.complete = false) : effInstanceDeadline k d = (d.at_ x.deadline).cancelInst k := by
  simp [effInstanceDeadline, hx, hlive, hopen]

theorem effTakeAssign_gives {d : Dev} {slot : Nat} {o : Op} {a b : Nat × Nat × Nat} {l : List (Nat × Nat × Nat)}
    (ho : d.openOps.find? (fun e => e.2.isReady) = some (slot, o)) (hl : d.takers = a :: l)
    (hb : b = l.foldl (fun b x => if x.1 < b.1 then x else b) a) : effTakeAssign d = (d.giveOp b.2.1 b.2.2 slot o).balance := by
  subst hb
  simp only [effTakeAssign, ho, hl]

/-! The fetch engine -/

section
variable {d : Dev} {k : Nat}

theorem Dev.fetchGo_starts {v : Word} {f : Fetch} {c : Core} (hroom : (d.quill k).fetches.length < 4)
    (hc : c = (d.quill k).cplPut (d.quill k).fcpl.toNat 0xFF)
    (hf : f = { src := c.fsrcLo.toNat + 2 ^ 32 * bitsOf c.fsrcHi 2 0, dst := c.fdst.toNat, cpl := c.fcpl.toNat, len := v.toNat, refused := false })
    (hs : d.serving = true) : d.fetchGo k v = d.setQuill k { c with fetches := c.fetches ++ [f] } := by
  subst hf hc
  refine (if_neg (Nat.not_le.2 hroom)).trans ?_
  simp [Dev.fetchStart, hs]

@[simp] theorem Core.dmemPut_wait (c : Core) (off n v : Nat) : (c.dmemPut off n v).wait = c.wait := rfl

@[simp] theorem Core.cplPut_wait (c : Core) (cpl code : Nat) : (c.cplPut cpl code).wait = c.wait := by
  unfold Core.cplPut
  split <;> rfl

/-- Bytes stored in a core's data memory leave what it waits for. -/
theorem Core.foldl_dmemPut_wait (bs : List (Byte × Nat)) (dst : Nat) (c : Core) :
    (bs.foldl (fun c e => c.dmemPut (dst + e.2) 1 e.1.toNat) c).wait = c.wait := by
  induction bs generalizing c with
  | nil => rfl
  | cons b bs ih => rw [List.foldl_cons, ih, Core.dmemPut_wait]

@[simp] theorem Dev.quill_setQuill_same (d : Dev) (k : Nat) (c : Core) : (d.setQuill k c).quill k = c := by
  simp only [Dev.quill, Dev.setQuill, Dev.onQar, tabFind_put_same, Option.getD_some]

section
variable {f : Fetch} {l : List Fetch} (hl : (d.quill k).fetches = f :: l) (hopen : f.refused = false) (hcode : d.fetchCode f = RC.OK)
  (hs : d.mem.ddr = .serving) (hclean : d.rangePoisoned f.src f.len = false)
include hl hopen hcode hs hclean

/-- A fetch that nothing refuses brings its bytes. -/
theorem Dev.fetchOne_brings : d.fetchOne k = d.setQuill k
    { (((d.dramBytes f.src f.len).zipIdx.foldl (fun c e => c.dmemPut (f.dst - 0x10000000 + e.2) 1 e.1.toNat) (d.quill k)).cplPut f.cpl RC.OK) with
      fetches := l, evt := true } := by
  have hanswers : d.answers = true := decide_eq_true hs
  have hfrozen : ¬ RC.OK = RC.FROZEN := by decide
  simp only [Dev.fetchOne, hl, hopen, hcode, hanswers, hclean, Bool.not_true, Bool.or_self, Bool.not_false, decide_true, Bool.and_false,
    Bool.false_eq_true, or_self, if_false, if_true, hfrozen, decide_false, Bool.and_true]
  rfl

theorem effFetchComplete_brings (hwait : ∀ w, (d.quill k).wait ≠ .fetchRoom w) : effFetchComplete k d = d.setQuill k
    { (((d.dramBytes f.src f.len).zipIdx.foldl (fun c e => c.dmemPut (f.dst - 0x10000000 + e.2) 1 e.1.toNat) (d.quill k)).cplPut f.cpl RC.OK) with
      fetches := l, evt := true } := by
  unfold effFetchComplete
  rw [Dev.fetchOne_brings hl hopen hcode hs hclean]
  cases hw : (d.quill k).wait with
  | fetchRoom w => exact absurd hw (hwait w)
  | _ => simp only [Dev.quill_setQuill_same, Core.cplPut_wait, Core.foldl_dmemPut_wait, hw]

end

end

/-- Settles O11: the branch of each row's effect that the conditions select; the commands by their checks. -/
theorem arrayCommandsComplete : Obligations.ArrayCommandsComplete := by
  unfold Obligations.ArrayCommandsComplete
  refine ⟨?submit, ?tplMore, ?tplWhole, ?ductusGet, ?trigger, ?resume, ?postDone, ?run, ?put0, ?put1, ?limit, ?deadline, ?assign, ?fetch,
    ?fetchRoom, ?fetched⟩
  case submit =>
    rintro s rq ws d w i mask t x rfl htakes hs hlen hsrc hw hextra ht hmask hnodes hlast hi hroom hx
    refine command_ok rfl htakes hs nofun (by decide) rfl (fun P h o _ => ?_) (fun _ => Nat.zero_le _)
    generalize s.dev.asked .qar = a at hsrc ht hi hroom hx ⊢
    exact cmdSubmit_enters (d := { a with pages := P, hci := h, out := o }) hlen hsrc hw hextra ht hmask hnodes hlast hi hroom hx
  case tplMore =>
    rintro s rq ws d w t k len data rfl htakes hs hw ht hk hlen hdata h2 h255 hextra hin hmore
    refine command_ok rfl htakes hs nofun (by decide) rfl (fun P h o _ => ?_) (fun _ => Nat.zero_le _)
    generalize s.dev.asked .qar = a at hmore ⊢
    exact cmdTplLoad_more (d := { a with pages := P, hci := h, out := o }) hw ht hk hlen hdata h2 h255 hextra hin hmore
  case tplWhole =>
    rintro s rq ws d w t k len data bs chunks rfl htakes hs hw ht hk hlen hdata h2 h255 hextra hin hchunks hall hbs hver hlive hround hheat hok
    refine command_ok rfl htakes hs nofun (by decide) rfl (fun P h o _ => ?_) (fun _ => Nat.zero_le _)
    generalize s.dev.asked .qar = a at hchunks hver hlive hround hheat ⊢
    exact cmdTplLoad_whole (d := { a with pages := P, hci := h, out := o }) hw ht hk hlen hdata h2 h255 hextra hin hchunks hall hbs hver hlive
      hround hheat hok
  case ductusGet =>
    rintro s rq ws d n k rfl hk hone hn hhave hback htakes hs
    refine command_ok rfl htakes hs nofun (by decide) rfl (fun P h o _ => ?_) (fun _ => Nat.zero_le _)
    generalize s.dev.asked .qar = a at hn hhave ⊢
    exact cmdDuctusGet_reads (d := { a with pages := P, hci := h, out := o }) hk hone hn hhave hback
  case trigger =>
    intro s rq ht hs
    exact command_ok rfl ht hs nofun (by decide) rfl (fun P h o _ => cmdDuctusCtrl_trigger _) (fun _ => Nat.zero_le _)
  case resume =>
    intro s rq ht hs
    exact command_ok rfl ht hs nofun (by decide) rfl (fun P h o _ => cmdDuctusCtrl_resume _) (fun _ => Nat.zero_le _)
  case postDone =>
    intro s htrig hleft
    exact becomes_eff (f := effDuctusPostDone) rfl (if_pos ⟨htrig, hleft⟩)
  case run =>
    intro s rq v ha
    exact write_stored rfl ha (by decide) (by decide) (by decide) (fun d => rfl)
  case put0 =>
    intro s k v
    exact becomes_eff (f := fun d => d.tracePut0 k.val v) rfl rfl
  case put1 =>
    intro s k v o slot hslot ho hlo hhi
    exact becomes_eff (f := fun d => d.tracePut1 k.val v) rfl (Dev.tracePut1_records hslot ho hlo hhi)
  case limit =>
    intro s k slot o x t lim d fs out hslot ho hx ht hlim hd hfs hout
    exact becomes_eff (f := fun d => (effLimitExpiry k.val d).takeStopped k.val) rfl
      (congrArg (Dev.takeStopped · k.val) (effLimitExpiry_held hslot ho hx ht hlim hd hfs hout))
  case deadline =>
    intro s k x hx hlive hopen
    exact becomes_eff (f := effInstanceDeadline k) rfl (effInstanceDeadline_cancels hx hlive hopen)
  case assign =>
    intro s slot o a b l ho hl hb
    exact becomes_eff (f := effTakeAssign) rfl (effTakeAssign_gives ho hl hb)
  case fetch =>
    intro s k v f c hroom hc hf hs
    exact becomes_eff (f := fun d => d.fetchGo k.val v) rfl (Dev.fetchGo_starts hroom hc hf hs)
  case fetchRoom =>
    intro s k v hfull
    exact becomes_eff (f := fun d => d.fetchGo k.val v) rfl (if_pos hfull)
  case fetched =>
    intro s k f l hl hopen hcode hs hclean hwait
    exact becomes_eff (f := effFetchComplete k.val) rfl (effFetchComplete_brings hl hopen hcode hs hclean hwait)

end Sys2Proof.Machine
end

section
/-! SUPPORT. The radio front ends and the regulatory block (spec/03 R65 to R95). -/

namespace Sys2Proof.Machine

/-! Registers -/

/-- A write of CHAN asks for the channel in every state above STANDBY. -/
theorem Dev.rfeMoves_chan (d : Dev) (r : Radio) : d.rfeMoves r true =
    (if (d.rfe.get r).cur ≠ .sleep ∧ (d.rfe.get r).cur ≠ .standby then d.onRfe r (fun f => { f with chanReq := true }) else d).withLinks
      (fun d => d.moveOn r) := by
  simp only [Dev.rfeMoves, Bool.true_and, decide_eq_true_eq]

theorem rglFieldChan_offset {k : Nat} (hk : k < 29) : A.RGL.FIELD_CHAN k % 4096 = 0x200 + 4 * k := by unfold A.RGL.FIELD_CHAN; omega

theorem rglTestW_offset {k : Nat} (hk : k < 32) : A.RGL.TEST_W k % 4096 = 0x300 + 4 * k := by unfold A.RGL.TEST_W; omega

section
variable {d e : Dev} {r : Radio}

/-! State transitions -/

theorem effRadioTransitionDone_enters {x : RState} {t : Nat} (hm : (d.rfe.get r).moving = some (x, t)) (hp : (d.rfe.get r).calPhase = .none)
    (hs : ¬ ((d.rfe.get r).cur = .standby ∧ x = .synthOn)) : effRadioTransitionDone r d = d.withLinks (fun d =>
      if x = .transmit then ((d.at_ t).enter r x).quietBegin r else (((d.at_ t).enter r x).quietCal r).radioNext r) := by
  simp only [effRadioTransitionDone, hm]
  exact if_neg (not_or.2 ⟨Classical.not_not.2 hp, hs⟩)

theorem Dev.quietBegin_cts {x : TxPpdu} (hx : (d.phy.get r).tx = some x) (hkind : x.vec.kind = .ctsSelf) :
    d.quietBegin r = ((d.onRfe r (fun f => { f with quiet := some (x.stop + usT x.vec.navUs) })).twtCut r).count (A.RFE.CAL_RUN_CNT r) := by
  simp only [Dev.quietBegin, hx, hkind, if_true]

/-! Calibrations -/

/-- The first calibration starts from STANDBY with its fine phase. -/
theorem Dev.phaseDone_first {m : CalMeas} (hp : (d.rfe.get r).calPhase = .none) (hk : (d.rfe.get r).calKind = .first)
    (hc : (d.rfe.get r).cur = .standby) (hm : (d.rfe.get r).moving.isSome = true) (he : (d.rfe.get r).phaseEnd ≠ 0) :
    d.phaseDone r m = (d.at_ (d.rfe.get r).phaseEnd).phase r .fine .first (usT 12) := by
  unfold Dev.phaseDone
  rw [if_neg (by simp [hp, hk, hc, hm, he]), hp]

section
variable {m : CalMeas} {p : CalPhase} (hp : (d.rfe.get r).calPhase = p)
include hp

theorem Dev.phaseDone_coarse (h : p = .coarse) : d.phaseDone r m =
    (if (d.rfe.get r).calKind = .chanChange then d.at_ (d.rfe.get r).phaseEnd else (d.at_ (d.rfe.get r).phaseEnd).latchSide r).phase r .fine
      (d.rfe.get r).calKind (usT 12) := by
  subst h
  unfold Dev.phaseDone
  rw [if_neg (by simp [hp]), hp]

theorem Dev.phaseDone_fine (h : p = .fine) :
    d.phaseDone r m = (d.at_ (d.rfe.get r).phaseEnd).phase r .settle (d.rfe.get r).calKind (usT 20) := by
  subst h
  unfold Dev.phaseDone
  rw [if_neg (by simp [hp]), hp]

theorem Dev.phaseDone_image (h : p = .image) :
    d.phaseDone r m = (((d.at_ (d.rfe.get r).phaseEnd).inLock r).imageDone r m).moveOn r := by
  subst h
  unfold Dev.phaseDone
  rw [if_neg (by simp [hp]), hp]

end

/-- A calibration phase ends with what `phaseDone` says. -/
theorem effSynCalPhaseDone_done {m : CalMeas} (h : d.phaseDone r m = e) : effSynCalPhaseDone r m d = d.withLinks (fun _ => e.radioNext r) :=
  Dev.withLinks_congr (congrArg (Dev.radioNext · r) h)

theorem effTempDriftRecalDue_due {t : Int} (he : e = d.tempRead r t) (hon : d.bit (A.RFE.SYN_CFG r) 8 = true)
    (hl : (e.rfe.get r).locked = true) (hfar : d.fld (A.RFE.SYN_CFG r) 7 0 ≤ ((e.rfe.get r).tempNow - (e.rfe.get r).tempSyn).natAbs)
    (hdue : (e.rfe.get r).recalDue = false) :
    effTempDriftRecalDue r t d = e.onRfe r (fun f => { f with recalDue := true, dueSince := some (f.dueSince.getD e.tb) }) := by
  subst he
  refine (if_pos (by simp [hon, hl, hfar, hdue])).trans ?_
  cases r <;> rfl

theorem effPeriodicCalDue_far {t : Int} (he : e = d.tempRead r t) (hl : (e.rfe.get r).locked = true) (hdue : (e.rfe.get r).periodicDue = false)
    (hfar : d.fld (A.RFE.CAL_CFG r) 11 8 ≤ ((e.rfe.get r).tempNow - (e.rfe.get r).tempImg).natAbs) :
    effPeriodicCalDue r t d = e.onRfe r (fun f => { f with periodicDue := true, dueSince := some (f.dueSince.getD e.tb) }) := by
  subst he
  refine (if_neg (by simp [hl, hdue])).trans ?_
  rw [if_pos hfar]
  cases r <;> rfl

theorem effCalDeferExpiry_overdue {t : Nat} (hs : (d.rfe.get r).dueSince = some t) (ho : (d.rfe.get r).overdue = false) :
    effCalDeferExpiry r d = (((d.at_ (t + msT (d.fld (A.RFE.CAL_CFG r) 27 16))).onRfe r (fun f => { f with overdue := true })).count
      (A.RFE.CAL_DEFER_CNT r)).raise (.rfe r) Cause.RFE.CAL_OVERDUE := by
  simp only [effCalDeferExpiry, hs]
  exact if_neg (by simp [ho])

/-! Quiet windows -/

/-- A window up to `n` is clear of Heats and of beacons. -/
def Dev.clearUntil (d : Dev) (r : Radio) (n : Nat) : Bool :=
  (match d.nextHeat r with
    | some t => decide (n < t)
    | none => true) && (d.beaconing r).all (fun e => decide (n < d.tbttTick r e.1 e.2))

theorem Dev.clearUntil_of {n : Nat} (hheat : ∀ t, d.nextHeat r = some t → n < t) (hbcn : ∀ e ∈ d.beaconing r, n < d.tbttTick r e.1 e.2) :
    d.clearUntil r n = true := by
  unfold Dev.clearUntil
  rw [Bool.and_eq_true]
  constructor
  · cases h : d.nextHeat r with
    | none => rfl
    | some t => exact decide_eq_true (hheat t h)
  · exact List.all_eq_true.2 (fun e he => decide_eq_true (hbcn e he))

theorem effQuietWindowStart_opens {durUs n : Nat} (hidle : d.macIdle r = true)
    (hdue : (d.rfe.get r).periodicDue = true ∨ (d.rfe.get r).recalDue = true) (hl : (d.rfe.get r).locked = true)
    (hc : (d.rfe.get r).cur = .receive) (hp : (d.rfe.get r).calPhase = .none) (htxop : (d.mac.get r).txop = none)
    (hnav : (d.mac.get r).ownNav ≤ d.tb) (hmed : d.mediumIdle r = true) (hn : n = d.tb + d.wayToTx r + usT (44 + durUs)) (hmax : durUs ≤ 1456)
    (hneed : 47 + ceilDiv (25 * d.fld (A.RFE.RAMP_CFG r) 4 0 + 250) 250 + (if (d.rfe.get r).periodicDue then 300 else 0) +
      (if (d.rfe.get r).recalDue then 180 else 0) ≤ 44 + durUs)
    (hheat : ∀ t, d.nextHeat r = some t → n < t) (hbcn : ∀ e ∈ d.beaconing r, n < d.tbttTick r e.1 e.2) (hnstr : d.nstrHolds r false = false) :
    effQuietWindowStart r durUs d =
      d.withLinks (fun d => d.transmit r { d.ctrlVec r .ctsSelf (d.macAddr r) 44 with navUs := durUs } [] true) := by
  subst hn
  have hclear := Dev.clearUntil_of hheat hbcn
  have hor : ((d.rfe.get r).periodicDue || (d.rfe.get r).recalDue) = true := by rcases hdue with h | h <;> simp [h]
  have hfits : decide (1456 < durUs ∨ 44 + durUs < 47 + ceilDiv (25 * d.fld (A.RFE.RAMP_CFG r) 4 0 + 250) 250 +
      (if (d.rfe.get r).periodicDue then 300 else 0) + (if (d.rfe.get r).recalDue then 180 else 0)) = false :=
    decide_eq_false (not_or.2 ⟨Nat.not_lt.2 hmax, Nat.not_lt.2 hneed⟩)
  refine (if_neg ?_).trans ((if_neg (Bool.eq_false_iff.1 hnstr)).trans rfl)
  change ¬ (!d.macIdle r || !((d.rfe.get r).periodicDue || (d.rfe.get r).recalDue) || !(d.rfe.get r).locked
      || decide ((d.rfe.get r).cur ≠ .receive ∨ (d.rfe.get r).calPhase ≠ .none) || (d.mac.get r).txop.isSome || decide (d.tb < (d.mac.get r).ownNav)
      || !d.mediumIdle r || decide _ || !d.clearUntil r (d.tb + d.wayToTx r + usT (44 + durUs))) = true
  rw [hidle, hor, hl, hc, hp, htxop, hmed, hclear, hfits, decide_eq_false (Nat.not_lt.2 hnav)]
  decide

theorem Dev.quietEnd_ends {t : Nat} (h : (d.rfe.get r).quiet = some t) : d.quietEnd r = (d.at_ t).onRfe r (fun f => { f with quiet := none }) := by
  simp only [Dev.quietEnd, h]

theorem effTransmitCommand_sends {x : TxVec} {fids : List Nat} {ready : Bool} (hidle : d.macIdle r = true) (hnstr : d.nstrHolds r false = false)
    (hbound : ∀ f ∈ fids, f ∈ d.boundTo r) : effTransmitCommand r x fids ready d = d.withLinks (fun d => d.transmit r x fids ready) := by
  have hall : fids.filter (fun f => (d.boundTo r).contains f) = fids :=
    List.filter_eq_self.2 (fun f hf => List.contains_iff_mem.2 (hbound f hf))
  refine (if_neg (by simp [hidle])).trans ((if_neg (Bool.eq_false_iff.1 hnstr)).trans (Dev.withLinks_congr ?_))
  rw [hall]

/-! Lock -/

theorem Dev.unlock_idle (hl : (d.rfe.get r).locked = true) (htx : (d.phy.get r).tx = none) : d.unlock r =
    ((((((d.rxEnds r 5).rxRearm r).enter r .synthOn).onRfe r (fun f => { f with locked := false, moving := none })).phase r .fine .relock
      (usT 12)).count (A.RFE.UNLOCK_CNT r) |>.raise (.rfe r) Cause.RFE.SYN_UNLOCK, none) := by
  unfold Dev.unlock
  rw [if_neg (by simp [hl]), htx]

theorem effSynUnlock_idle (hl : (d.rfe.get r).locked = true) (htx : (d.phy.get r).tx = none) : effSynUnlock r d = d.withLinks (fun d =>
    ((((((d.rxEnds r 5).rxRearm r).enter r .synthOn).onRfe r (fun f => { f with locked := false, moving := none })).phase r .fine .relock
      (usT 12)).count (A.RFE.UNLOCK_CNT r)).raise (.rfe r) Cause.RFE.SYN_UNLOCK) := by
  refine Dev.withLinks_congr ?_
  rw [Dev.unlock_idle hl htx]

theorem Dev.relockDone_relock {ok : Bool} (hk : (d.rfe.get r).calKind = .relock) (hp : (d.rfe.get r).calPhase = .settle) : d.relockDone r ok =
    if ok then ((d.at_ (d.rfe.get r).phaseEnd).inLock r).moveOn r
    else (d.at_ (d.rfe.get r).phaseEnd).phase r .coarse .relockFull (usT 148) := by
  unfold Dev.relockDone
  rw [if_neg (by simp [hp]), hk]

theorem effDutyHoldRelease_releases {w : TxWait} {t : Nat} (hw : (d.rfe.get r).wait = some w) (hduty : w.forDuty = true)
    (ht : d.dutyRelease r (d.onTicks r w.vec.durUs) = some t) :
    effDutyHoldRelease r d = (((d.at_ t).rglFree r).onRfe r (fun f => { f with wait := some { w with forDuty := false } })).radioNext r := by
  simp only [effDutyHoldRelease, hw, hduty, ht, Bool.not_true, Bool.false_eq_true, if_false]

end

/-- Settles O6: the branch of each row's effect that the conditions select; the registers are stored. -/
theorem radioCommandsComplete : Obligations.RadioCommandsComplete := by
  unfold Obligations.RadioCommandsComplete
  refine ⟨?state, ?chan, ?chain, ?transition, ?first, ?coarse, ?fine, ?image, ?drift, ?periodic, ?defer, ?quietStart, ?quietTx, ?quietEnd,
    ?transmit, ?nstr, ?unlock, ?relocked, ?relockFails, ?duty, ?rglEnable, ?rglField, ?rglTest⟩
  case state =>
    intro s rq r v ha
    cases r <;> exact write_stored rfl ha (by decide) (by decide) (by decide) (fun d => rfl)
  case chan =>
    intro s rq r v ha
    cases r <;> exact write_stored rfl ha (by decide) (by decide) (by decide) (fun d => Dev.rfeMoves_chan _ _)
  case chain =>
    intro s rq r v ha
    cases r <;> exact write_stored rfl ha (by decide) (by decide) (by decide) (fun d => rfl)
  case transition =>
    intro s r x t hm hp hs
    exact becomes_eff (f := fun d => (d.onMedium r (effRadioTransitionDone r)).napTry) rfl
      (congrArg Dev.napTry (Dev.onMedium_congr (effRadioTransitionDone_enters hm hp hs)))
  case first =>
    intro s r m hp hk hc hm he
    exact becomes_eff (f := fun d => d.onMedium r (effSynCalPhaseDone r m)) rfl
      (Dev.onMedium_congr (effSynCalPhaseDone_done (Dev.phaseDone_first hp hk hc hm he)))
  case coarse =>
    intro s r m hp
    exact becomes_eff (f := fun d => d.onMedium r (effSynCalPhaseDone r m)) rfl
      (Dev.onMedium_congr (effSynCalPhaseDone_done (Dev.phaseDone_coarse hp rfl)))
  case fine =>
    intro s r m hp
    exact becomes_eff (f := fun d => d.onMedium r (effSynCalPhaseDone r m)) rfl
      (Dev.onMedium_congr (effSynCalPhaseDone_done (Dev.phaseDone_fine hp rfl)))
  case image =>
    intro s r m hp
    exact becomes_eff (f := fun d => d.onMedium r (effSynCalPhaseDone r m)) rfl
      (Dev.onMedium_congr (effSynCalPhaseDone_done (Dev.phaseDone_image hp rfl)))
  case drift =>
    intro s r t d hd hon hl hfar hdue
    exact becomes_eff (f := fun d => d.onMedium r (effTempDriftRecalDue r t)) rfl
      (Dev.onMedium_congr (effTempDriftRecalDue_due hd hon hl hfar hdue))
  case periodic =>
    intro s r t d hd hl hdue hfar
    exact becomes_eff (f := fun d => d.onMedium r (effPeriodicCalDue r t)) rfl (Dev.onMedium_congr (effPeriodicCalDue_far hd hl hdue hfar))
  case defer =>
    intro s r t hs ho
    exact becomes_eff (f := fun d => d.onMedium r (effCalDeferExpiry r)) rfl (Dev.onMedium_congr (effCalDeferExpiry_overdue hs ho))
  case quietStart =>
    intro s r durUs n hidle hdue hl hc hp htxop hnav hmed hn hmax hneed hheat hbcn hnstr
    exact becomes_eff (f := fun d => d.onMedium r (effQuietWindowStart r durUs)) rfl
      (Dev.onMedium_congr (effQuietWindowStart_opens hidle hdue hl hc hp htxop hnav hmed hn hmax hneed hheat hbcn hnstr))
  case quietTx =>
    rintro s r t x d hm hp rfl hx hkind
    refine becomes_eff (f := fun d => (d.onMedium r (effRadioTransitionDone r)).napTry) rfl (congrArg Dev.napTry (Dev.onMedium_congr ?_))
    exact (effRadioTransitionDone_enters hm hp nofun).trans (Dev.withLinks_congr (Dev.quietBegin_cts hx hkind))
  case quietEnd =>
    intro s r t h
    exact becomes_eff (f := fun d => d.onMedium r (effQuietWindowEnd r)) rfl (Dev.onMedium_congr (Dev.withLinks_congr (Dev.quietEnd_ends h)))
  case transmit =>
    intro s r x fids ready hidle hnstr hbound
    exact becomes_eff (f := fun d => d.onMedium r (effTransmitCommand r x fids ready)) rfl
      (Dev.onMedium_congr (effTransmitCommand_sends hidle hnstr hbound))
  case nstr =>
    intro s r x fids ready hidle hnstr
    exact becomes_eff (f := fun d => d.onMedium r (effTransmitCommand r x fids ready)) rfl
      (Dev.onMedium_congr ((if_neg (by simp [hidle])).trans (if_pos hnstr)))
  case unlock =>
    intro s r hl htx
    exact becomes_eff (f := fun d => d.onMedium r (effSynUnlock r)) rfl (Dev.onMedium_congr (effSynUnlock_idle hl htx))
  case relocked =>
    intro s r hk hp
    exact becomes_eff (f := fun d => d.onMedium r (effSynRelockDone r true)) rfl
      (Dev.onMedium_congr (Dev.withLinks_congr (congrArg (Dev.radioNext · r) (Dev.relockDone_relock hk hp))))
  case relockFails =>
    intro s r hk hp
    exact becomes_eff (f := fun d => d.onMedium r (effSynRelockDone r false)) rfl
      (Dev.onMedium_congr (Dev.withLinks_congr (congrArg (Dev.radioNext · r) (Dev.relockDone_relock hk hp))))
  case duty =>
    intro s r w t hw hduty ht
    exact becomes_eff (f := fun d => d.onMedium r (effDutyHoldRelease r)) rfl (Dev.onMedium_congr (effDutyHoldRelease_releases hw hduty ht))
  case rglEnable =>
    intro s rq v ha hv
    exact header_performs (p := 0x060) (o := 0x008) rfl (by decide) ha (fun d => Dev.headerWrite_ctrl_plain hv)
  case rglField =>
    intro s rq k v hk ha
    have hx : exec (.rglFieldWrite rq k v) s = s.run (fun d => d.write rq (A.RGL.FIELD_CHAN k) v) := by
      show s.run (fun d => d.write rq (A.RGL.FIELD_CHAN (k % 29)) v) = _
      rw [Nat.mod_eq_of_lt hk]
    have ho := rglFieldChan_offset hk
    refine write_stored hx ha (by omega) ((by decide : ∀ k < 29, (regAt .rgl (A.RGL.FIELD_CHAN k % 4096)).isSome = true) k hk)
      ((by decide : ∀ k < 29, linkReg (A.RGL.FIELD_CHAN k) = false) k hk) (fun d => ?_)
    rw [ho]
    exact if_neg (by omega)
  case rglTest =>
    intro s rq k v hk ha
    have hx : exec (.rglTestWrite rq k v) s = s.run (fun d => d.write rq (A.RGL.TEST_W k) v) := by
      show s.run (fun d => d.write rq (A.RGL.TEST_W (k % 64)) v) = _
      rw [Nat.mod_eq_of_lt (by omega)]
    have ho := rglTestW_offset hk
    refine write_stored hx ha (by omega) ((by decide : ∀ k < 32, (regAt .rgl (A.RGL.TEST_W k % 4096)).isSome = true) k hk)
      ((by decide : ∀ k < 32, linkReg (A.RGL.TEST_W k) = false) k hk) (fun d => ?_)
    rw [ho]
    exact if_pos (by omega)

end Sys2Proof.Machine
end

section
/-! SUPPORT. The receivers, the radar FIFO and the precoder (spec/04, spec/05). -/

namespace Sys2Proof.Machine

section
variable {d : Dev} {r : Radio}

/-! Energy rise and detection -/

theorem effEnergyRise_settles {power : Int} (hl : (d.phy.get r).rx = .listen) (hp : sbyte (d.phy.get r).cfg.det 16 < power) :
    effEnergyRise r power d = (d.onPhy r (fun p => { p with riseAt := d.tb })).rxSet r .settle
      { Reception.new d.tb power ((d.phy.get r).cfg.bypassed power) 3 0 false false with guardOpen := false } :=
  if_pos ⟨hl, hp⟩

theorem effDetection_ofdm {x : Detect} {y : Reception} (hs : (d.phy.get r).rx = .settle) (hy : (d.phy.get r).rcp = some y)
    (hx : x.dsss = false) (h1 : 1 ≤ x.boundary) (h8 : x.boundary ≤ 8) (hp : sbyte (d.phy.get r).cfg.det 16 ≤ x.power)
    (hc : bitsOf (d.phy.get r).cfg.det 11 8 ≤ x.corr) :
    effDetection r x d = ((d.at_ ((d.phy.get r).riseAt + 200 * x.boundary)).rxSet r .preamble (Reception.new x.start x.power
      ((d.phy.get r).cfg.gain y.bypass x.lna x.vga).1 ((d.phy.get r).cfg.gain y.bypass x.lna x.vga).2.1
      ((d.phy.get r).cfg.gain y.bypass x.lna x.vga).2.2 false false)).count (A.PHY.DET_CNT r) := by
  simp only [effDetection, hy, hx, Bool.false_eq_true, if_false]
  exact if_pos (by simp [hs, h1, h8, hp, hc])

theorem effDetection_dsss {x : Detect} (hl : d.phy.a.rx = .listen) (hn : d.phy.a.rcp = none) (hx : x.dsss = true) :
    effDetection .a x d = (d.rxSet .a .preamble (Reception.new x.start x.power
      (d.phy.a.cfg.gain (d.phy.a.cfg.bypassed x.power) x.lna x.vga).1 (d.phy.a.cfg.gain (d.phy.a.cfg.bypassed x.power) x.lna x.vga).2.1
      (d.phy.a.cfg.gain (d.phy.a.cfg.bypassed x.power) x.lna x.vga).2.2 true false)).count (A.PHY.DET_CNT .a) := by
  have hrcp : (d.phy.get .a).rcp = none := hn
  have hrx : (d.phy.get .a).rx = .listen := hl
  simp only [effDetection, hrcp, hx, if_true]
  exact if_pos (by simp [hrx])

/-! The preamble -/

section
variable {x : Reception} (hx : (d.phy.get r).rcp = some x)
include hx

theorem effFalsestartAbort_aborts {recs : List GuardRec} {lna vga : Nat} {g : GuardRec} (hp : (d.phy.get r).rx = .preamble)
    (ho : x.guardOpen = true) (hd : x.dsss = false) (hg : riseOf (d.phy.get r).cfg x.ref recs = some g) :
    effFalsestartAbort r recs lna vga d = (d.at_ (g.start + 400)).guardAbort r recs lna vga := by
  simp only [effFalsestartAbort, hx, hg]
  exact (if_neg (by simp [hp, ho])).trans (if_neg (by simp [hd]))

theorem effAfcFreeze_first {cfo : Int} (hp : (d.phy.get r).rx = .preamble) (hd : x.dsss = false) (hc : x.cfo = none) :
    effAfcFreeze r cfo d = if 6000 < cfo.natAbs then ((d.at_ (x.start + usT 16)).rxListen r).count (A.PHY.CFO_REJECT_CNT r)
      else (d.at_ (x.start + usT 16)).rxSet r .preamble { x with cfo := some cfo } := by
  simp only [effAfcFreeze, hx]
  exact if_neg (by simp [hp, hd, hc])

theorem effLSigResult_ofdm {ok : Bool} {g : SigInfo} {recs : List GuardRec} {lna vga : Nat} (hp : (d.phy.get r).rx = .preamble)
    (hd : x.dsss = false) : effLSigResult r ok g recs lna vga d =
      if !ok then (d.at_ (x.start + usT 20)).guardAbort r recs lna vga
      else if d.rxSupported r g then (d.at_ (x.start + usT 20)).rxSet r .body (x.sig g (x.start + usT (20 + g.durUs)))
      else (((d.at_ (x.start + usT 20)).rxSet r .body (x.sig g (x.start + usT (20 + g.durUs)))).rxSet r .hold
        { x.sig g (x.start + usT (20 + g.durUs)) with holdEnd := 3 }).count (A.PHY.UNSUPP_CNT r) := by
  simp only [effLSigResult, hx]
  exact if_neg (by simp [hp, hd])

theorem effDsssHeaderResult_dsss {ok short : Bool} {rate durUs : Nat} {cfo : Int} {t : Nat} (hp : (d.phy.get r).rx = .preamble)
    (hd : x.dsss = true) (ht : t = x.start + usT (if short then 96 else 192)) : effDsssHeaderResult r ok short rate durUs cfo d =
      if ok then (d.at_ t).rxSet r .body { x.sig {
        durUs := durUs, fmt := 0, bw := 0, nss := 0, mcs := rate % 4, gi := 3, color := 0, users := 0 } (t + usT durUs) with cfo := some cfo }
      else ((d.at_ t).count (A.PHY.FALSESTART_CNT r)).rxListen r := by
  subst ht
  simp only [effDsssHeaderResult, hx]
  rw [if_neg (by simp [hp, hd])]
  cases ok <;> rfl

/-! The body -/

theorem effSigFail_holds (hp : (d.phy.get r).rx = .body) (hd : x.dsss = false) : effSigFail r d =
    (d.rxSet r .hold { x with holdEnd := 2, bw := 0, nss := 0, mcs := 0, gi := 0, color := 0 }).count (A.PHY.SIG_FAIL_CNT r) := by
  simp only [effSigFail, hx]
  exact if_pos (by simp [hp, hd])

/-- A stronger PPDU overtakes the one received, or is suppressed while a response is awaited. -/
theorem Dev.overtake_strong {start : Nat} {power : Int} {lna vga : Nat} (hp : (d.phy.get r).rx = .body ∨ (d.phy.get r).rx = .hold)
    (hd : x.dsss = false) (ho : bitOf (d.phy.get r).cfg.ovt 0 = true) (hs : x.ref + (bitsOf (d.phy.get r).cfg.ovt 12 8 : Nat) ≤ power) :
    d.overtake r start power lna vga =
      if (d.mac.get r).wait.isSome then ((d.at_ (start + 400)).count (A.PHY.OVT_SUPPR_CNT r), none)
      else
        let g := (d.phy.get r).cfg.gain ((d.phy.get r).cfg.bypassed power) lna vga
        let k := if (d.phy.get r).rx = .hold then x.holdEnd else 1
        ((((d.at_ (start + 400)).onPhy r (fun p => { p with lastEnd := some k })).count (A.PHY.OVT_CNT r)).rxSet r .preamble
          (Reception.new start power g.1 g.2.1 g.2.2 false false), some (x, k)) := by
  have hgo : ¬ (((d.phy.get r).rx ≠ .body ∧ (d.phy.get r).rx ≠ .hold) ∨ x.dsss = true ∨ (!bitOf (d.phy.get r).cfg.ovt 0) = true ∨
      power < x.ref + (bitsOf (d.phy.get r).cfg.ovt 12 8 : Nat)) := by
    rcases hp with h | h <;> simp [h, hd, ho, hs]
  simp only [Dev.overtake, hx]
  exact if_neg hgo

theorem effObssPd_ignores {rssi : Int} (hp : (d.phy.get r).rx = .body) (ho : bitOf (d.phy.get r).cfg.obss 0 = true) (hf : 4 ≤ x.fmt)
    (hcol : x.color ≠ 0) (hown : ∀ b ∈ (d.mac.get r).bss, b.2.enable = true → b.2.color ≠ x.color)
    (hrssi : rssi < sbyte (d.phy.get r).cfg.obss 8) : effObssPd r rssi d = (((d.at_ (x.start + usT 32)).onMac r (fun m => { m with
      obss := some (sbyte (d.phy.get r).cfg.obss 8, x.bodyEnd) })).rxListen r).count (A.PHY.OBSS_PD_CNT r) := by
  have hnone : (d.mac.get r).bss.any (fun b => b.2.enable && decide (b.2.color = x.color)) = false := by
    refine List.any_eq_false.2 (fun b hb => ?_)
    simp only [Bool.and_eq_true, decide_eq_true_eq, not_and]
    exact hown b hb
  simp only [effObssPd, hx, hnone]
  exact if_pos ⟨hp, ho, hf, hcol, rfl, hrssi⟩

end

/-- The reports of a PPDU that another overtook. -/
theorem effOvertake_cut {start : Nat} {power : Int} {lna vga : Nat} {u : RxRep × List RxMpdu} {us : List (RxRep × List RxMpdu)} {e : Dev}
    {x : Reception} {k : Nat} (h : d.overtake r start power lna vga = (e, some (x, k))) : effOvertake r start power lna vga u us d =
      e.macRx r ((u :: us).map (fun y => (d.rxReport r x y.1 k e.tb, if k = 1 then y.2.filter (fun j => j.fcs) else []))) false := by
  simp only [effOvertake, h]

theorem effOvertake_none {start : Nat} {power : Int} {lna vga : Nat} {u : RxRep × List RxMpdu} {us : List (RxRep × List RxMpdu)} {e : Dev}
    (h : d.overtake r start power lna vga = (e, none)) : effOvertake r start power lna vga u us d = e := by
  simp only [effOvertake, h]

theorem effOvertake_wins {start : Nat} {power : Int} {lna vga : Nat} {u : RxRep × List RxMpdu} {us : List (RxRep × List RxMpdu)}
    {x : Reception} {k : Nat} (hx : (d.phy.get r).rcp = some x)
    (hk : (d.phy.get r).rx = .body ∧ k = 1 ∨ (d.phy.get r).rx = .hold ∧ k = x.holdEnd) (hd : x.dsss = false)
    (ho : bitOf (d.phy.get r).cfg.ovt 0 = true) (hs : x.ref + (bitsOf (d.phy.get r).cfg.ovt 12 8 : Nat) ≤ power)
    (hw : (d.mac.get r).wait = none) : effOvertake r start power lna vga u us d =
      let g := (d.phy.get r).cfg.gain ((d.phy.get r).cfg.bypassed power) lna vga
      let e := (((d.at_ (start + 400)).onPhy r (fun p => { p with lastEnd := some k })).count (A.PHY.OVT_CNT r)).rxSet r .preamble
        (Reception.new start power g.1 g.2.1 g.2.2 false false)
      e.macRx r ((u :: us).map (fun y => (d.rxReport r x y.1 k e.tb, if k = 1 then y.2.filter (fun j => j.fcs) else []))) false := by
  have hcode : (if (d.phy.get r).rx = .hold then x.holdEnd else 1) = k := by rcases hk with ⟨h, rfl⟩ | ⟨h, rfl⟩ <;> simp [h]
  have hstrong := Dev.overtake_strong (start := start) (lna := lna) (vga := vga) hx (hk.imp And.left And.left) hd ho hs
  rw [hcode] at hstrong
  exact effOvertake_cut (hstrong.trans (if_neg (by simp [hw])))

/-! The sub-channels -/

theorem effEdBusyChange_on {sub : Nat} {power : Int} (hon : (d.phy.get r).rx ≠ .off) (hsub : sub < 2 ^ chanWidth (d.rfe.get r).tuned) :
    effEdBusyChange r sub power d = d.onPhy r (fun p => { p with
      ed := if p.ed.testBit sub = decide (sbyte (d.phy.get r).cfg.cca 0 ≤ power) then p.ed
        else if sbyte (d.phy.get r).cfg.cca 0 ≤ power then p.ed + 2 ^ sub else p.ed - 2 ^ sub }) := by
  refine (if_neg (not_or.2 ⟨hon, Nat.not_le.2 hsub⟩)).trans ?_
  simp only [decide_eq_true_eq]

theorem effSecondaryPdDetect_on {sub durUs : Nat} {power : Int} (hon : (d.phy.get r).rx ≠ .off)
    (hsub : sub < 2 ^ chanWidth (d.rfe.get r).tuned) (hprim : sub ≠ primIdx r (d.rfe.get r).tuned)
    (hp : sbyte (d.phy.get r).cfg.cca 8 ≤ power) : effSecondaryPdDetect r sub power durUs d = d.onPhy r (fun p => { p with
      pdSec := p.pdSec.filter (fun e => decide (d.tb < e.2)) ++ [(sub, d.tb + usT durUs)] }) :=
  if_neg (by simp [hon, hsub, hprim, hp])

/-! The end of a reception -/

theorem Dev.cutPass_nil {hold : Bool} (h : (d.phy.get r).cuts = []) : d.cutPass r hold = none := by
  simp only [Dev.cutPass, h]

theorem Dev.cutPass_cons {hold : Bool} {c : Cut} {cs : List Cut} (h : (d.phy.get r).cuts = c :: cs)
    (hc : decide (c.rcp.holdEnd ≠ 0) = hold) : d.cutPass r hold = some (c, d.onPhy r (fun p => { p with cuts := cs })) := by
  simp only [Dev.cutPass, h]
  exact if_pos hc

theorem effRxPpduEnd_body {us : List (RxRep × List RxMpdu)} {x : Reception} {e : Dev} (hc : (d.phy.get r).cuts = [])
    (hx : (d.phy.get r).rcp = some x) (hb : (d.phy.get r).rx = .body) (he : e = (d.at_ (x.ends r)).rxFinish r 0) :
    effRxPpduEnd r us d = e.macRx r (us.map (fun u => (d.rxReport r x u.1 0 e.tb, u.2))) true := by
  subst he
  simp only [effRxPpduEnd, Dev.cutPass_nil hc, hx]
  exact if_neg (Classical.not_not.2 hb)

theorem effHoldEnd_hold {m : RxRep} {x : Reception} {e : Dev} (hc : (d.phy.get r).cuts = []) (hx : (d.phy.get r).rcp = some x)
    (hh : (d.phy.get r).rx = .hold) (he : e = (d.at_ (x.ends r)).rxFinish r x.holdEnd) :
    effHoldEnd r m d = e.macRx r [(d.rxReport r x m x.holdEnd e.tb, [])] true := by
  subst he
  simp only [effHoldEnd, Dev.cutPass_nil hc, hx]
  exact if_neg (Classical.not_not.2 hh)

theorem effRxPpduEnd_cut {us : List (RxRep × List RxMpdu)} {c : Cut} {e : Dev} (h : d.cutPass r false = some (c, e)) :
    effRxPpduEnd r us d = e.macRx r (e.cutReports r c us) false := by
  simp only [effRxPpduEnd, h]

theorem effHoldEnd_cut {m : RxRep} {c : Cut} {e : Dev} (h : d.cutPass r true = some (c, e)) :
    effHoldEnd r m d = e.macRx r (e.cutReports r c [(m, [])]) false := by
  simp only [effHoldEnd, h]

/-! Radar -/

theorem effRadarPulse_on {sub width : Nat} {power : Int} (hon : bitOf d.phy.b.cfg.radar 0 = true) (hrx : d.phy.b.rx ≠ .off)
    (hp : sbyte d.phy.b.cfg.radar 8 ≤ power) : effRadarPulse sub power width d =
      if 64 ≤ d.phy.b.radar.length then d.count (A.PHY.RADAR_OVF_CNT .b)
      else (d.onPhy .b (fun p => { p with radar := p.radar ++ [{
        tb := d.tb % 2 ^ 32, subch := sub % 16, power := power, width := min 65535 width }] })).follow (.phy .b) Cause.PHY.RADAR_PULSE true :=
  if_neg (by simp [hon, hrx, hp])

/-! The precoder -/

theorem effPrecoderReady_waiting {w : TxWait} (hw : (d.rfe.get r).wait = some w) (hp : w.forPrecoder = true) :
    effPrecoderReady r d = (d.onRfe r (fun f => { f with wait := some { w with forPrecoder := false } })).radioNext r := by
  simp only [effPrecoderReady, hw]
  exact if_pos hp

end

/-! The FIFO of radar pulses -/

/-- A READ of one register of a block's page that nothing refuses. -/
theorem Dev.readOp_one {d : Dev} {src : Src} {m : Msg} {cs : List (Bool × Nat)} {p o : Nat} {b : Blk} (hcs : ∀ c ∈ cs, c.1 = false)
    (hlen : m.len = 0) (hn : m.arg = 1) (hp : bitsOf m.addr 23 12 = p) (ho : bitsOf m.addr 11 0 = o) (hal : o % 4 = 0) (hlo : 0x040 ≤ o)
    (hend : o + 4 ≤ 0x1000) (hb : blkOfPage p = some b) (hroom : 1 ≤ replyRoom src (decide (m.flags % 2 = 1)))
    (hcodes : refuse (d.readCodes p o) = RC.OK) :
    d.readOp src m cs = ((d.wakeBlk b).readEffect p o, Ans.ok [(d.wakeBlk b).readValue p o]) := by
  have harg : m.arg.toNat = 1 := by rw [hn]; rfl
  have hform : refuse (cs ++ d.rangeCodes src m ++ [(decide (m.len ≠ 0), RC.BAD_LENGTH),
      (decide (replyRoom src (decide (m.flags % 2 = 1)) < 1), RC.BAD_LENGTH)]) = RC.OK := by
    refine refuse_nil (all_append (all_append hcs ?_) (by simp [hlen]; omega))
    have hmax : 1 ≤ (if d.version src = some 1 then 64 else 256) := by split <;> omega
    have hout : ¬ (1 < 1 ∨ (if d.version src = some 1 then 64 else 256) < 1) := by omega
    simp only [Dev.rangeCodes, hp, ho, harg, hb, outside, List.forall_mem_cons, hout, decide_false, Option.isNone_some,
      decide_eq_false_iff_not, true_and]
    exact ⟨by omega, by omega, by simp⟩
  have hgood : d.readBad p 1 o 0 = none := by
    rw [Dev.readBad, if_pos hcodes]
    rfl
  unfold Dev.readOp
  simp only [hp, ho, harg]
  rw [if_pos hform, if_pos (by omega), hgood]
  simp only [hb]
  rw [if_neg (by omega)]
  rfl

theorem radarFifo_read {s : State} {rq : Rq} (ht : s.dev.takes rq OP.READ 0 1 = true)
    (hok : refuse ((s.dev.event 0).readCodes 0x240 0x084) = RC.OK) :
    Performs (.radarFifo1Read rq) s rq OP.READ [(s.dev.asked (.phy .b)).readValue 0x240 0x084] (.phy .b) (fun d => d.radarPop) := by
  let m : Msg := {
    op := OP.READ, flags := rq.flags, len := 0, tag := rq.tag, addr := wd (A.PHY.RADAR_FIFO1 .b), arg := 1, payload := [],
    reqAt := rq.reqAt, rspAt := rq.rspAt }
  have hm : m.formed rq = true := Msg.formed_iff.2 ⟨rfl, rfl, rfl, rfl, (by decide : bitsOf (wd (A.PHY.RADAR_FIFO1 .b)) 31 24 = 0)⟩
  have hpage : bitsOf m.addr 23 12 = 0x240 := (by decide : bitsOf (wd (A.PHY.RADAR_FIFO1 .b)) 23 12 = 0x240)
  have hoff : bitsOf m.addr 11 0 = 0x084 := (by decide : bitsOf (wd (A.PHY.RADAR_FIFO1 .b)) 11 0 = 0x084)
  refine request_performs (m := m) rfl (Dev.takes_hears ht) rfl (by decide : OP.READ ≠ OP.CLOSE)
    (by simp [mpSees, hoff, m, OP.READ]) (fun h o harr _ => ?_)
  have hask := Dev.asked_arrived (b := .phy .b) harr
  rw [Dev.runMsg_read rfl, Dev.readOp_one (p := 0x240) (o := 0x084) (b := .phy .b) (formed_codes_found harr ht hm rfl) rfl rfl hpage hoff rfl
    (by decide) (by decide) rfl (Dev.takes_room ht) (by rw [Dev.readCodes_withHost]; exact hok), Dev.wakeBlk_withHost]
  exact congrArg (fun w => (((s.dev.asked (.phy .b)).withHost h o).radarPop, Ans.ok [w]))
    (Dev.readValue_withHost (s.dev.asked (.phy .b)) h o 0x240 0x084 hask.seq hask.marks)

/-- Settles O7: the branch of each row's effect that the conditions select; the FIFO's read is a READ of one register. -/
theorem receiverCommandsComplete : Obligations.ReceiverCommandsComplete := by
  unfold Obligations.ReceiverCommandsComplete
  refine ⟨?rise, ?ofdm, ?dsss, ?settle, ?falsestart, ?afc, ?lsigBad, ?lsig, ?header, ?sigFail, ?overtake, ?suppressed, ?obss, ?energy, ?secondary,
    ?body, ?bodyCut, ?hold, ?holdCut, ?pulse, ?overflow, ?fifo, ?precoder⟩
  case rise =>
    intro s r power hl hp
    exact becomes_eff (f := fun d => d.onMedium r (effEnergyRise r power)) rfl (Dev.onMedium_congr (effEnergyRise_settles hl hp))
  case ofdm =>
    intro s r x y hs hy hx h1 h8 hp hc
    exact becomes_eff (f := fun d => d.onMedium r (effDetection r x)) rfl (Dev.onMedium_congr (effDetection_ofdm hs hy hx h1 h8 hp hc))
  case dsss =>
    intro s x hl hn hx
    exact becomes_eff (f := fun d => d.onMedium .a (effDetection .a x)) rfl (Dev.onMedium_congr (effDetection_dsss hl hn hx))
  case settle =>
    intro s r hs
    exact becomes_eff (f := fun d => d.onMedium r (effSettleTimeout r)) rfl (Dev.onMedium_congr (if_pos hs))
  case falsestart =>
    intro s r recs lna vga x g hx hp ho hd hg
    exact becomes_eff (f := fun d => d.onMedium r (effFalsestartAbort r recs lna vga)) rfl
      (Dev.onMedium_congr (effFalsestartAbort_aborts hx hp ho hd hg))
  case afc =>
    intro s r cfo x hx hp hd hc
    exact becomes_eff (f := fun d => d.onMedium r (effAfcFreeze r cfo)) rfl (Dev.onMedium_congr (effAfcFreeze_first hx hp hd hc))
  case lsigBad =>
    intro s r g recs lna vga x hx hp hd
    exact becomes_eff (f := fun d => d.onMedium r (effLSigResult r false g recs lna vga)) rfl
      (Dev.onMedium_congr ((effLSigResult_ofdm hx hp hd).trans (if_pos rfl)))
  case lsig =>
    rintro s r g recs lna vga x y hx hp hd rfl
    exact becomes_eff (f := fun d => d.onMedium r (effLSigResult r true g recs lna vga)) rfl
      (Dev.onMedium_congr ((effLSigResult_ofdm hx hp hd).trans (if_neg (by decide))))
  case header =>
    intro s r ok short rate durUs cfo x t hx hp hd ht
    exact becomes_eff (f := fun d => d.onMedium r (effDsssHeaderResult r ok short rate durUs cfo)) rfl
      (Dev.onMedium_congr (effDsssHeaderResult_dsss hx hp hd ht))
  case sigFail =>
    intro s r x hx hp hd
    exact becomes_eff (f := fun d => d.onMedium r (effSigFail r)) rfl (Dev.onMedium_congr (effSigFail_holds hx hp hd))
  case overtake =>
    intro s r start power lna vga u us x k hx hk hd ho hs hw
    exact becomes_eff (f := fun d => d.onMedium r (effOvertake r start power lna vga u us)) rfl
      (Dev.onMedium_congr (effOvertake_wins hx hk hd ho hs hw))
  case suppressed =>
    intro s r start power lna vga u us x hx hp hd ho hs hw
    exact becomes_eff (f := fun d => d.onMedium r (effOvertake r start power lna vga u us)) rfl
      (Dev.onMedium_congr (effOvertake_none ((Dev.overtake_strong hx hp hd ho hs).trans (if_pos hw))))
  case obss =>
    intro s r rssi x hx hp ho hf hcol hown hrssi
    exact becomes_eff (f := fun d => d.onMedium r (effObssPd r rssi)) rfl (Dev.onMedium_congr (effObssPd_ignores hx hp ho hf hcol hown hrssi))
  case energy =>
    intro s r sub power hon hsub
    exact becomes_eff rfl (effEdBusyChange_on hon hsub)
  case secondary =>
    intro s r sub durUs power hon hsub hprim hp
    exact becomes_eff rfl (effSecondaryPdDetect_on hon hsub hprim hp)
  case body =>
    intro s r us x d hc hx hb hd
    exact becomes_eff (f := fun d => d.onMedium r (effRxPpduEnd r us)) rfl (Dev.onMedium_congr (effRxPpduEnd_body hc hx hb hd))
  case bodyCut =>
    rintro s r us c cs d hc hh rfl
    exact becomes_eff (f := fun d => d.onMedium r (effRxPpduEnd r us)) rfl
      (Dev.onMedium_congr (effRxPpduEnd_cut (Dev.cutPass_cons hc (decide_eq_false (Classical.not_not.2 hh)))))
  case hold =>
    intro s r m x d hc hx hh hd
    exact becomes_eff (f := fun d => d.onMedium r (effHoldEnd r m)) rfl (Dev.onMedium_congr (effHoldEnd_hold hc hx hh hd))
  case holdCut =>
    rintro s r m c cs d hc hh rfl
    exact becomes_eff (f := fun d => d.onMedium r (effHoldEnd r m)) rfl
      (Dev.onMedium_congr (effHoldEnd_cut (Dev.cutPass_cons hc (decide_eq_true hh))))
  case pulse =>
    intro s sub width power hon hrx hp hlen
    exact becomes_eff rfl ((effRadarPulse_on hon hrx hp).trans (if_neg (Nat.not_le.2 hlen)))
  case overflow =>
    intro s sub width power hon hrx hp hlen
    exact becomes_eff rfl ((effRadarPulse_on hon hrx hp).trans (if_pos hlen))
  case fifo =>
    intro s rq ht hok
    exact radarFifo_read ht hok
  case precoder =>
    intro s r w hw hp
    exact becomes_eff (f := fun d => d.onMedium r (effPrecoderReady r)) rfl (Dev.onMedium_congr (effPrecoderReady_waiting hw hp))

end Sys2Proof.Machine
end

section
/-! SUPPORT. The wireless MAC's events: transmissions, beacons, service periods, host frames and links (spec/06, spec/07). -/

namespace Sys2Proof.Machine

/-! The end of a transmission -/

/-- The wait for the responses that a PPDU solicits. -/
def Dev.soliciting (e : Dev) (r : Radio) (x : TxPpdu) : RespWait := {
  until_ := x.stop + sigExt r x.vec.fmt + usT (e.fld (A.MAC.RESP_CFG r) 7 0), from_ := x.vec.targets.map (fun y => y.1),
  trig := decide (x.vec.kind = .trigger ∨ x.vec.kind = .sounding ∨ (x.vec.kind = .heat ∧ x.fids = []))
    || decide (1 < x.vec.targets.length ∧ x.vec.kind ≠ .rts),
  ac := x.vec.ac, fids := match (e.mac.get r).txop with
    | some t => if t.pend = [] then x.fids else t.pend
    | none => x.fids, vec := x.vec }

/-- What follows a PPDU of an exchange: a wait for the responses it solicits, frames in flight until they are asked for, or the next PPDU. -/
def Dev.exchangeSent (e : Dev) (r : Radio) (x : TxPpdu) : Dev :=
  if x.vec.solicits then e.onMac r (fun m => { m with
    wait := some (e.soliciting r x), txop := m.txop.map (fun t => { t with pend := [], pendFrom := [] }) })
  else if x.vec.ofdma ∧ x.fids ≠ [] then e.onMac r (fun m => { m with
    txop := m.txop.map (fun t => { t with pend := x.fids, pendFrom := x.vec.targets }) })
  else ((((e.allSent x.fids).charged r x.vec).cwGood r x.vec.ac).groupDone r).txopNext r

section
variable {d e : Dev} {r : Radio} {detect : List Int} {x : TxPpdu} (hx : (d.phy.get r).tx = some x)
  (he : e = ((d.at_ x.stop).txEnd r 0 detect x).afterTx r x)
include hx he

theorem effTxPpduEnd_beacon (hk : x.vec.kind = .beacon) :
    effTxPpduEnd r detect d = d.withLinks (fun _ => ((e.bcnSent r x.vec.bss).cwGood r 4).txopNext r) := by
  subst he
  simp only [effTxPpduEnd, hx]
  exact Dev.withLinks_congr (by simp only [hk])

theorem effTxPpduEnd_response (hk : x.vec.kind = .response) :
    effTxPpduEnd r detect d = d.withLinks (fun _ => x.vec.targets.foldl (fun d y => d.exchEnd y.1) e) := by
  subst he
  simp only [effTxPpduEnd, hx]
  exact Dev.withLinks_congr (by simp only [hk])

theorem effTxPpduEnd_cfEnd (hk : x.vec.kind = .cfEnd) :
    effTxPpduEnd r detect d = d.withLinks (fun _ => e.onMac r (fun m => { m with ownNav := e.tb })) := by
  subst he
  simp only [effTxPpduEnd, hx]
  exact Dev.withLinks_congr (by simp only [hk])

theorem effTxPpduEnd_ctsSelf (hk : x.vec.kind = .ctsSelf) : effTxPpduEnd r detect d = d.withLinks (fun _ => e) := by
  subst he
  simp only [effTxPpduEnd, hx]
  exact Dev.withLinks_congr (by simp only [hk])

theorem effTxPpduEnd_exchange (hk : ¬ (x.vec.kind = .beacon ∨ x.vec.kind = .response ∨ x.vec.kind = .ctsSelf ∨ x.vec.kind = .cfEnd)) :
    effTxPpduEnd r detect d = d.withLinks (fun _ => e.exchangeSent r x) := by
  subst he
  simp only [effTxPpduEnd, hx]
  refine Dev.withLinks_congr ?_
  obtain ⟨⟨kind⟩⟩ := x
  cases kind
  case beacon => exact absurd (Or.inl rfl) hk
  case response => exact absurd (Or.inr (Or.inl rfl)) hk
  case ctsSelf => exact absurd (Or.inr (Or.inr (Or.inl rfl))) hk
  case cfEnd => exact absurd (Or.inr (Or.inr (Or.inr rfl))) hk
  all_goals rfl

end

/-! Channel access -/

section
variable {d : Dev} {r : Radio}

theorem Dev.fill_snd {x : TxStart} {b : Bool} {n : Nat} {f : Filled} (h : (d.fill r x b n).2 = some f) : ∃ e, d.fill r x b n = (e, some f) :=
  ⟨_, Prod.ext rfl h⟩

/-- An access category whose TXOP opens. -/
theorem Dev.txopOpen_opens {x : TxStart} {ac lim go exch by_ : Nat} {losers : List Nat} {d1 d2 d3 : Dev} {f : Filled}
    (hlim : lim = (if ac = 4 then 0 else 32 * d.fld (acReg r ac) 31 16)) (hgo : go = d.tb + d.wayToTx r)
    (hf : (d.fill r { x with vec := { x.vec with ac := ac } } true 0).2 = some f) (hexch : exch = d.exchTicks r f.vec)
    (hby : by_ = d.endBy r d.tb (f.vec.targets.map (fun y => y.1)) (go + if lim = 0 then exch else usT lim)) (hfits : go + exch ≤ by_)
    (hrts : d.needsRts r f false = false)
    (hsound : x.pick = .sounding ↔ lim ≠ 0 ∧ d.toSound r ≠ [] ∧
      go + d.soundTicks r (d.toSound r) ≤ d.endBy r d.tb (d.toSound r) (go + usT lim))
    (h1 : d1 = (losers.foldl (fun d a => d.cwFail r a) (f.dev.onMac r (fun m => { m with
      txop := some {
        ac := ac, until_ := by_, bw := f.vec.bw, start := d.tb, limit := d.obssLimit r, single := decide (lim = 0),
        done := decide (x.pick ≠ .sounding ∧ f.vec.kind ≠ .rts), prot := false, pend := [], pendFrom := [] },
      eifs := false, backoff := tabDel m.backoff ac }))).allocUse r x.pick true)
    (h2 : d2 = if (d.obssLimit r).isSome then d1.count (A.MAC.OBSS_PWR_CNT r) else d1) (h3 : d3 = d2.send r { f with dev := d2 } x.ready) :
    d.txopOpen r ac losers x = some (if d3.noStart r then d3.txopFinish r else d3.accessDelay r (d.readyTimes f r)) := by
  obtain ⟨d0, hfill⟩ := Dev.fill_snd hf
  have hturn : (decide (lim ≠ 0) && !(d.toSound r).isEmpty &&
      decide (go + d.soundTicks r (d.toSound r) ≤ d.endBy r d.tb (d.toSound r) (go + usT lim))) = decide (x.pick = .sounding) := by
    rw [Bool.eq_iff_iff]
    simp only [Bool.and_eq_true, decide_eq_true_eq, Bool.not_eq_true', List.isEmpty_eq_false_iff, and_assoc]
    exact hsound.symm
  subst h3 h2 h1 hby hexch hgo hlim
  simp only [Dev.txopOpen, hfill]
  refine (if_neg ?_).trans rfl
  rw [not_or, not_or]
  exact ⟨Nat.not_lt.2 hfits, Bool.eq_false_iff.1 hrts, Classical.not_not.2 hturn⟩

theorem effBackoffExpiry_opens {acs : List Nat} {x : TxStart} {t ac : Nat} {ts up : List Nat} {e g : Dev}
    (hts : acs.map (fun a => d.expiry r a) = t :: ts) (he : e = (if x.sync then d else d.at_ (ts.foldl min t)))
    (hup : up = (if x.sync then acs else acs.filter (fun a => decide (e.expiry r a ≤ e.tb))))
    (hac : [4, 3, 2, 0, 1].find? (fun a => up.contains a) = some ac) (hidle : e.macIdle r = true) (hmed : e.mediumIdle r = true)
    (htxop : (e.mac.get r).txop = none) (hbcn : x.pick = .beacon ↔ ac = 4) (hrtwt : e.rtwtFirst r x.pick = true)
    (hsync : x.sync = true → e.syncOk r = true) (hnstr : e.nstrHolds r x.sync = false)
    (hopen : e.txopOpen r ac (if x.sync then [] else up.filter (fun a => decide (a ≠ ac))) x = some g) : effBackoffExpiry r acs x d = g := by
  have hpick : (decide (x.pick = .beacon) != decide (ac = 4)) = false := by simp [hbcn]
  have hcoupled : (x.sync && !e.syncOk r) = false := by
    cases hx : x.sync with
    | false => rfl
    | true => rw [hsync hx]; rfl
  subst hup he
  simp only [effBackoffExpiry, hts, hac]
  rw [if_neg (by rw [hidle, hmed, htxop, hpick, hrtwt, hcoupled]; decide), if_neg (Bool.eq_false_iff.1 hnstr), hopen]
  rfl

section
variable {x : TxStart} {t : Txop} (ht : (d.mac.get r).txop = some t) (hfree : d.macFree r = true)
include ht hfree

theorem effTxopNextPpdu_ends
    (hend : x.pick = .endTxop ∨ d.macIdle r = false ∨ (d.mac.get r).airEnd + sifs r - d.intoTx r true < d.tb) :
    effTxopNextPpdu r x d = d.txopFinish r := by
  simp only [effTxopNextPpdu, ht]
  exact (if_neg (by simp [hfree])).trans (if_pos (by simpa using hend))

theorem effTxopNextPpdu_sends {due end_ by_ : Nat} {e d1 d2 : Dev} {f : Filled} (hidle : d.macIdle r = true)
    (hdue : due = (d.mac.get r).airEnd + sifs r - d.intoTx r true) (hlate : d.tb ≤ due) (hend : x.pick ≠ .endTxop) (hbcn : x.pick ≠ .beacon)
    (hsingle : t.single = true → t.done = true → x.pick = .muBar) (hrtwt : d.rtwtFirst r x.pick = true) (hnstr : d.nstrHolds r x.sync = false)
    (he : e = d.at_ due) (hf : (e.fill r { x with vec := { x.vec with ac := t.ac } } false t.bw).2 = some f)
    (hstop : end_ = e.tb + e.wayToTx r + e.exchTicks r f.vec)
    (hby : by_ = e.endBy r t.start (f.vec.targets.map (fun y => y.1)) (if t.single then end_ else t.until_)) (hfits : end_ ≤ by_)
    (hrts : e.needsRts r f t.prot = false)
    (h1 : d1 = (f.dev.allocUse r x.pick false).onMac r (fun m => { m with
      txop := some { t with done := t.done || decide (x.pick ≠ .sounding ∧ f.vec.kind ≠ .rts), until_ := by_ } }))
    (h2 : d2 = d1.send r { f with dev := d1 } x.ready) :
    effTxopNextPpdu r x d = if d2.noStart r then d2.txopFinish r else d2 := by
  have hgoes : ¬ (x.pick = .endTxop ∨ (!d.macIdle r) = true ∨ (d.mac.get r).airEnd + sifs r - d.intoTx r true < d.tb) := by
    rw [← hdue]
    simp [hend, hidle, hlate]
  have hturn : ¬ ((t.single = true ∧ t.done = true ∧ x.pick ≠ .muBar) ∨ x.pick = .beacon ∨ (!d.rtwtFirst r x.pick) = true) := by
    rw [hrtwt]
    rintro (⟨hs, hd, hm⟩ | hb | hfalse)
    · exact hm (hsingle hs hd)
    · exact hbcn hb
    · exact nomatch hfalse
  obtain ⟨d0, hfill⟩ := Dev.fill_snd hf
  simp only [effTxopNextPpdu, ht]
  rw [if_neg (by simp [hfree]), if_neg hgoes, if_neg hturn, if_neg (Bool.eq_false_iff.1 hnstr), ← hdue, ← he, hfill]
  simp only [← hstop, ← hby, ← h1, ← h2]
  exact if_neg (not_or.2 ⟨Nat.not_lt.2 hfits, Bool.eq_false_iff.1 hrts⟩)

end

/-! Responses -/

/-- The next Heat comes before tick `n`. -/
def Dev.heatBefore (d : Dev) (r : Radio) (n : Nat) : Bool :=
  match d.nextHeat r with
  | some t => decide (t < n)
  | none => false

theorem Dev.heatBefore_of {n : Nat} (h : ∀ t, d.nextHeat r = some t → n ≤ t) : d.heatBefore r n = false := by
  unfold Dev.heatBefore
  cases hn : d.nextHeat r with
  | none => rfl
  | some t => exact decide_eq_false (Nat.not_lt.2 (h t hn))

section
variable {durUs : Nat} {x : RespDue} (hx : (d.mac.get r).due = some x)
include hx

theorem effSifsResponse_skips (hok : x.ok = false) : effSifsResponse r durUs d = d.withLinks (fun d =>
    ((d.at_ (x.due - d.intoTx r true)).onMac r (fun m => { m with due := none })).count (A.MAC.RESP_SKIP_CNT r)) := by
  simp only [effSifsResponse, hx]
  exact Dev.withLinks_congr (if_pos (by simp [hok]))

theorem effSifsResponse_sends {d0 d1 : Dev} {v : TxVec} {start : Nat} {cut : List (Nat × Nat)} (hok : x.ok = true)
    (h0 : d0 = (d.at_ (x.due - d.intoTx r true)).onMac r (fun m => { m with due := none })) (hv : v = d0.respVec r x durUs)
    (hl : (d0.rfe.get r).locked = true) (hc : (d0.rfe.get r).cur = .receive) (hs : start = max x.due (d0.tb + d0.intoTx r true))
    (hheat : ∀ t, d0.nextHeat r = some t → start + usT durUs ≤ t) (htx : (d0.phy.get r).tx = none) (h1 : d1 = d0.rxAbort r)
    (hok1 : d1.txvOk r v = true) (hgo : d1.rglStart r v.bw v.punct (d1.enabled r) v.request (d1.onTicks r durUs) = .go cut) :
    effSifsResponse r durUs d = d.withLinks (fun _ =>
      ((d1.airStart r v [] (d1.enabled r) v.request cut false 0 start).count (A.MAC.RESP_TX_CNT r)).emit (.resp r x)) := by
  have hclear := Dev.heatBefore_of hheat
  subst h1 hv hs h0
  simp only [effSifsResponse, hx]
  refine Dev.withLinks_congr ((if_neg ?_).trans ?_)
  · change ¬ (!x.ok || !(Rfe.locked _) || decide (Rfe.cur _ ≠ .receive) || Dev.heatBefore _ r _ || Option.isSome _) = true
    rw [hok, hl, hc, hclear, htx]
    decide
  · rw [if_neg (by rw [hok1]; decide), hgo]

end

theorem effResponseTimeout_silent {w : RespWait} (hw : (d.mac.get r).wait = some w)
    (hrx : ¬ ((d.phy.get r).rx = .preamble ∨ (d.phy.get r).rx = .body ∨ (d.phy.get r).rx = .hold)) : effResponseTimeout r d =
      (((d.at_ w.until_).onMac r (fun m => { m with wait := none })).count (A.MAC.RESP_TIMEOUT_CNT r)).attemptFailed r w.vec w.fids := by
  simp only [effResponseTimeout, hw]
  exact if_neg hrx

/-! Beacons and service periods -/

theorem effTbtt_due {i k : Nat} {b : Bss} {e d1 d2 : Dev} {t : Template} (hb : tabFind (d.mac.get r).bss i = some b) (hon : b.enable = true)
    (htx : b.nonTx = false) (he : e = d.at_ (d.tbttTick r i b))
    (h1 : d1 = (if (e.mac.get r).bcnQueue.any (fun e => decide (e.2 = i)) then e.bcnMiss r i else e))
    (ht : t = ((tabFind (d1.mac.get r).tmpl i).getD Template.empty).apply) (hk : k = tabGet 0 (d1.mac.get r).dtimCount i)
    (h2 : d2 = d1.onMac r (fun m => { m with
      tmpl := tabPut m.tmpl i t, dtimCount := tabSet 0 m.dtimCount i (if k = 0 then b.dtim - 1 else k - 1) }))
    (hsend : if d2.isMeshBss r i then d2.msh.beacons = true else t.cur ≠ []) :
    effTbtt r i d = (d2.onMac r (fun m => { m with
      bcnQueue := bcnInsert (d2.tb, i) m.bcnQueue,
      bcnBusy := if d1.bcnBlocked r then i :: m.bcnBusy.filter (fun k => decide (k ≠ i)) else m.bcnBusy.filter (fun k => decide (k ≠ i)) })).twtCut r := by
  have hsilent : ¬ (if d2.isMeshBss r i then !d2.msh.beacons else decide (t.cur = [])) = true := by
    by_cases hmesh : d2.isMeshBss r i = true
    · rw [if_pos hmesh] at hsend ⊢
      rw [hsend]
      decide
    · rw [if_neg hmesh] at hsend ⊢
      rw [decide_eq_true_eq]
      exact hsend
  subst h2 hk ht h1 he
  simp only [effTbtt, hb]
  exact (if_neg (by simp [hon, htx])).trans (if_neg hsilent)

theorem effTbtt_off {i : Nat} {b : Bss} (hb : tabFind (d.mac.get r).bss i = some b) (hoff : b.enable = false ∨ b.nonTx = true) :
    effTbtt r i d = d := by
  simp only [effTbtt, hb]
  exact if_pos (by rcases hoff with h | h <;> simp [h])

section
variable {id : Nat} {x : Twt} (hx : tabFind (d.mac.get r).twt id = some x)
include hx

theorem effTwtSpStart_opens {d1 e : Dev} (hsp : x.sp = none) (h1 : d1 = d.at_ (d.usAhead (d.twtWait r x)))
    (he : e = d1.onMac r (fun m => { m with twt := tabPut m.twt id { x with sp := some (d1.tb + usT x.durUs), cut := false } })) :
    effTwtSpStart r id d = if (e.asc.radios.get r).heatRun.isSome || (e.rfe.get r).quiet.isSome then e.twtCut r else e := by
  subst he h1
  simp only [effTwtSpStart, hx]
  exact if_neg (by simp [hsp])

theorem effTwtSpEnd_ends {t : Nat} (hsp : x.sp = some t) : effTwtSpEnd r id d =
    (d.at_ t).onMac r (fun m => { m with twt := tabPut m.twt id { x with sp := none, cut := false } }) := by
  simp only [effTwtSpEnd, hx, hsp]

end

theorem cmdTwtJoin_joins {ws : List Word} {id k : Nat} {x : Twt} {leave : Bool} (hlen : ws.length = 2) (hid : id = bitsOf (word ws 0) 7 0)
    (hk : k = bitsOf (word ws 1) 10 0) (hleave : leave = bitOf (word ws 1) 31) (hx : tabFind (d.mac.get r).twt id = some x)
    (h0 : extra (word ws 0) 0xFF = false) (h1 : extra (word ws 1) 0x800007FF = false) (htyp : x.typ ≠ 0)
    (hsta : leave = false → (d.station k).isSome = true) (hroom : leave = false → k ∉ x.members → d.twtCount r k < 4) :
    cmdTwtJoin r ws d = ((d.onMac r (fun m => { m with twt := tabPut m.twt id { x with
      members := if leave then x.members.filter (fun j => decide (j ≠ k)) else x.members.filter (fun j => decide (j ≠ k)) ++ [k] } })).twtRecord r k,
      Ans.ok []) := by
  have hbad : (extra (word ws 0) 0xFF || extra (word ws 1) 0x800007FF || decide (x.typ = 0) || (!leave && (d.station k).isNone)) = false := by
    rw [h0, h1, decide_eq_false htyp]
    cases leave with
    | true => rfl
    | false => simpa using hsta rfl
  have hfull : (!leave && !x.members.contains k && decide (4 ≤ d.twtCount r k)) = false := by
    cases leave with
    | true => rfl
    | false =>
      by_cases hm : k ∈ x.members
      · simp [hm]
      · simpa [hm] using hroom rfl hm
  subst hleave hk hid
  simp only [cmdTwtJoin, hx]
  exact cmdIf_ok (conds_cons (decide_eq_false (Classical.not_not.2 hlen)) (conds_cons hbad (conds_cons hfull conds_nil)))

/-! Host frames -/

/-- A type-10 entry is a frame for a station. -/
theorem Dev.dataEntry_transmit {n : Nat} {ws : List Word} {h : Hdr} {m : Msg} :
    d.dataEntry n { msg := m, words := typed 0x10 ws, frame := h } = d.txRequest n (typed 0x10 ws) h := by
  unfold Dev.dataEntry
  simp only [typed_typ (by decide : 0x10 < 256)]
  rfl

/-- A type-20 entry is a buffer for received frames. -/
theorem Dev.dataEntry_receive {n : Nat} {ws : List Word} {h : Hdr} {m : Msg} :
    d.dataEntry n { msg := m, words := typed 0x20 ws, frame := h } = some (d.rxPost n (typed 0x20 ws)) := by
  unfold Dev.dataEntry
  simp only [typed_typ (by decide : 0x20 < 256)]
  rfl

section
variable {n : Nat} {ws : List Word} {h : Hdr} {x : Entry} (hx : x = d.txEntry n ws h)
include hx

theorem Dev.txRequest_admits (hok : d.txCheck ws x = RC.OK) (hready : d.ready .tmg = true) (hadm : d.hostAdmits (d.hostQueue x.wl) x = true) :
    d.txRequest n ws h = some ((d.nextFid.submitted n x.fid).admitted (d.hostQueue x.wl) x) := by
  subst hx
  exact (if_neg (Classical.not_not.2 hok)).trans (if_neg (by simp [hready, hadm]))

theorem Dev.txRequest_refuses (hbad : d.txCheck ws x ≠ RC.OK) :
    d.txRequest n ws h = some ((d.nextFid.submitted n x.fid).txComplete x (d.txCheck ws x)) := by
  subst hx
  exact if_pos hbad

end

/-! Links -/

theorem Dev.quiesceDone_done (hq : d.mld.quiesce.get r = true) (hd : d.mld.quiesced.get r = false) (hr : d.radioQuiet r = true) :
    d.quiesceDone r = (d.onMld (fun m => { m with quiesced := m.quiesced.set r true })).count A.MLD.QUIESCE_CNT :=
  if_pos (by rw [hq, hd, hr]; rfl)

theorem quiesceDone_becomes (hq : d.mld.quiesce.get r = true) (hd : d.mld.quiesced.get r = false) (hr : d.radioQuiet r = true) :
    (if (d.quiesceDone r).mld.quiesced.get r then (d.quiesceDone r).bstQuiesced r else d) =
      ((d.onMld (fun m => { m with quiesced := m.quiesced.set r true })).count A.MLD.QUIESCE_CNT).bstQuiesced r := by
  rw [Dev.quiesceDone_done hq hd hr]
  exact if_pos (by cases r <;> rfl)

theorem effReorderHoleTimeout_due {sta tid due n : Nat} {e : Dev} (hdue : d.holeDue sta tid = some due)
    (hpass : (d.at_ due).rxPass sta tid false ((d.at_ due).staTid sta tid).toHeld = (n, e)) :
    effReorderHoleTimeout sta tid d = (e.countN A.MLD.HOLE_TIMEOUT_CNT n).rxRun sta tid 4096 := by
  simp only [effReorderHoleTimeout, hdue, hpass]

end

/-- Settles O8: the branch of each row's effect that the conditions select; data rings take their entries at once. -/
theorem wirelessEventsComplete : Obligations.WirelessEventsComplete := by
  unfold Obligations.WirelessEventsComplete
  refine ⟨?beacon, ?response, ?cfEnd, ?ctsSelf, ?solicits, ?inFlight, ?sent, ?backoff, ?txopEnd, ?txopNext, ?skip, ?respond, ?timeout, ?tbtt,
    ?tbttOff, ?spStart, ?spEnd, ?join, ?txRequest, ?txRefused, ?rxBuffer, ?addr, ?linkCtrl, ?quiesce, ?hole⟩
  case beacon =>
    intro s r detect x e hx he hk
    exact becomes_eff (f := fun d => d.onMedium r (effTxPpduEnd r detect)) rfl (Dev.onMedium_congr (effTxPpduEnd_beacon hx he hk))
  case response =>
    intro s r detect x e hx he hk
    exact becomes_eff (f := fun d => d.onMedium r (effTxPpduEnd r detect)) rfl (Dev.onMedium_congr (effTxPpduEnd_response hx he hk))
  case cfEnd =>
    intro s r detect x e hx he hk
    exact becomes_eff (f := fun d => d.onMedium r (effTxPpduEnd r detect)) rfl (Dev.onMedium_congr (effTxPpduEnd_cfEnd hx he hk))
  case ctsSelf =>
    intro s r detect x e hx he hk
    exact becomes_eff (f := fun d => d.onMedium r (effTxPpduEnd r detect)) rfl (Dev.onMedium_congr (effTxPpduEnd_ctsSelf hx he hk))
  case solicits =>
    intro s r detect x e hx he hk hs
    exact becomes_eff (f := fun d => d.onMedium r (effTxPpduEnd r detect)) rfl
      (Dev.onMedium_congr ((effTxPpduEnd_exchange hx he hk).trans (Dev.withLinks_congr (if_pos hs))))
  case inFlight =>
    intro s r detect x e hx he hk hs ho hf
    exact becomes_eff (f := fun d => d.onMedium r (effTxPpduEnd r detect)) rfl
      (Dev.onMedium_congr ((effTxPpduEnd_exchange hx he hk).trans
        (Dev.withLinks_congr ((if_neg (Bool.eq_false_iff.1 hs)).trans (if_pos ⟨ho, hf⟩)))))
  case sent =>
    intro s r detect x e hx he hk hs ho
    have hnone : ¬ (x.vec.ofdma = true ∧ x.fids ≠ []) := by rcases ho with h | h <;> simp [h]
    exact becomes_eff (f := fun d => d.onMedium r (effTxPpduEnd r detect)) rfl
      (Dev.onMedium_congr ((effTxPpduEnd_exchange hx he hk).trans
        (Dev.withLinks_congr ((if_neg (Bool.eq_false_iff.1 hs)).trans (if_neg hnone)))))
  case backoff =>
    intro s r acs x t ac lim go exch by_ ts up e d1 d2 d3 f hts he hup hac hidle hmed htxop hbcn hrtwt hsync hnstr hlim hgo hf hexch hby hfits
      hrts hsound h1 h2 h3
    exact becomes_eff (f := fun d => d.onMedium r (effBackoffExpiry r acs x)) rfl
      (Dev.onMedium_congr (effBackoffExpiry_opens hts he hup hac hidle hmed htxop hbcn hrtwt hsync hnstr
        (Dev.txopOpen_opens hlim hgo hf hexch hby hfits hrts hsound h1 h2 h3)))
  case txopEnd =>
    intro s r x t ht hfree hend
    exact becomes_eff (f := fun d => d.onMedium r (effTxopNextPpdu r x)) rfl (Dev.onMedium_congr (effTxopNextPpdu_ends ht hfree hend))
  case txopNext =>
    intro s r x t due end_ by_ e d1 d2 f ht hfree hidle hdue hlate hend hbcn hsingle hrtwt hnstr he hf hstop hby hfits hrts h1 h2
    exact becomes_eff (f := fun d => d.onMedium r (effTxopNextPpdu r x)) rfl (Dev.onMedium_congr
      (effTxopNextPpdu_sends ht hfree hidle hdue hlate hend hbcn hsingle hrtwt hnstr he hf hstop hby hfits hrts h1 h2))
  case skip =>
    intro s r durUs x hx hok
    exact becomes_eff (f := fun d => d.onMedium r (effSifsResponse r durUs)) rfl (Dev.onMedium_congr (effSifsResponse_skips hx hok))
  case respond =>
    intro s r durUs x d0 d1 v start cut hx hok h0 hv hl hc hs hheat htx h1 hok1 hgo
    exact becomes_eff (f := fun d => d.onMedium r (effSifsResponse r durUs)) rfl
      (Dev.onMedium_congr (effSifsResponse_sends hx hok h0 hv hl hc hs hheat htx h1 hok1 hgo))
  case timeout =>
    intro s r w hw hrx
    exact becomes_eff (f := fun d => d.onMedium r (effResponseTimeout r)) rfl (Dev.onMedium_congr (effResponseTimeout_silent hw hrx))
  case tbtt =>
    intro s r i b d d1 d2 t k hb hon htx hd h1 ht hk h2 hsend
    exact becomes_eff rfl (effTbtt_due hb hon htx hd h1 ht hk h2 hsend)
  case tbttOff =>
    intro s r i b hb hoff
    exact becomes_eff rfl (effTbtt_off hb hoff)
  case spStart =>
    intro s r id x d e hx hsp hd he
    exact becomes_eff rfl (effTwtSpStart_opens hx hsp hd he)
  case spEnd =>
    intro s r id t x hx hsp
    exact becomes_eff rfl (effTwtSpEnd_ends hx hsp)
  case join =>
    rintro s rq r ws id k x leave d rfl ht hs hlen hid hk hleave hx h0 h1 htyp hsta hroom
    refine command_ok rfl ht hs nofun (by decide) rfl (fun P h o _ => ?_) (fun _ => Nat.zero_le _)
    generalize s.dev.asked (.mac r) = a at hx hsta hroom ⊢
    exact cmdTwtJoin_joins (d := { a with pages := P, hci := h, out := o }) hlen hid hk hleave hx h0 h1 htyp hsta hroom
  case txRequest =>
    rintro s n ws h d e ht rfl he hok hready hadm
    exact becomes_eff (f := fun d => d.postData n (typed 0x10 ws) h) rfl
      (Dev.postData_taken ht rfl (Dev.dataEntry_transmit.trans (Dev.txRequest_admits he hok hready hadm)))
  case txRefused =>
    rintro s n ws h d e ht rfl he hbad
    exact becomes_eff (f := fun d => d.postData n (typed 0x10 ws) h) rfl
      (Dev.postData_taken ht rfl (Dev.dataEntry_transmit.trans (Dev.txRequest_refuses he hbad)))
  case rxBuffer =>
    rintro s n ws d ht rfl
    exact becomes_eff (f := fun d => d.postData n (typed 0x20 ws) Hdr.none) rfl (Dev.postData_taken ht rfl Dev.dataEntry_receive)
  case addr =>
    intro s rq r hi v ha
    cases r <;> cases hi <;> exact write_stored rfl ha (by decide) (by decide) (by decide) (fun d => rfl)
  case linkCtrl =>
    intro s rq v ha
    exact write_performs rfl ha (by decide) (by decide) (fun d => rfl)
  case quiesce =>
    intro s r hq hd hr
    exact becomes_eff rfl (quiesceDone_becomes hq hd hr)
  case hole =>
    intro s sta tid due n d hdue hpass
    exact becomes_eff rfl (effReorderHoleTimeout_due hdue hpass)

end Sys2Proof.Machine
end
